-- ==== Sys2Proof/Word.lean ====
section
/-! DEFINITION. The 32-bit word, the byte, and the one kind of table the state is made of.

A `Tab α` is a list of (key, value) pairs with keys rising. A key that is not listed reads as a default that the
reader names (for a register: the value of its Reset column). Reading after writing holds for every list, so no
invariant is needed to reason about it. -/

namespace Sys2Proof

/-- A register or a stack entry: 32 bits (R12, R196). -/
abbrev Word := BitVec 32

/-- A byte of memory. -/
abbrev Byte := BitVec 8

/-- Sparse plain data by key. -/
abbrev Tab (α : Type) := List (Nat × α)

/-- The value listed at key `k`, if any. -/
def Tab.find {α : Type} : Tab α → Nat → Option α
  | [], _ => none
  | (a, v) :: t, k => if a = k then some v else Tab.find t k

/-- The value at key `k`, or the default `d`. -/
def Tab.get {α : Type} (d : α) (t : Tab α) (k : Nat) : α := (Tab.find t k).getD d

/-- The table with `v` at key `k`. -/
def Tab.put {α : Type} : Tab α → Nat → α → Tab α
  | [], k, v => [(k, v)]
  | (a, w) :: t, k, v =>
    if a = k then (k, v) :: t else if k < a then (k, v) :: (a, w) :: t else (a, w) :: Tab.put t k v

/-- The table with no entry at the keys that `p` holds of. -/
def Tab.erase {α : Type} (t : Tab α) (p : Nat → Bool) : Tab α := t.filter (fun e => !p e.1)

/-- `f` applied to the entry at key `k` (to the default when it is not listed). -/
def Tab.upd {α : Type} (d : α) (t : Tab α) (k : Nat) (f : α → α) : Tab α := t.put k (f (t.get d k))

end Sys2Proof
end

