-- ==== Sys2Proof/Machine/Bits.lean ====
section
/-! DEFINITION. Fields of a register word, sign extension, wrapping and saturating numbers. -/

namespace Sys2Proof.Machine

/-- A field of a register: its lowest bit and its width. -/
structure F where
  lo : Nat
  w  : Nat
deriving DecidableEq, Repr

/-- The mask of a field, in place. -/
def F.mask (f : F) : Nat := (2 ^ f.w - 1) <<< f.lo

/-- The value of a field. -/
def F.get (f : F) (v : Word) : Nat := (v.toNat >>> f.lo) % 2 ^ f.w

/-- The word with the field at `x`, taken modulo the field's width. -/
def F.put (f : F) (v : Word) (x : Nat) : Word :=
  (v &&& ~~~ (BitVec.ofNat 32 f.mask)) ||| BitVec.ofNat 32 ((x % 2 ^ f.w) <<< f.lo)

/-- The word with the bits of `m` taken from `b` and the others from `a`. -/
def Word.mix (a b m : Word) : Word := (a &&& ~~~ m) ||| (b &&& m)

/-- The signed value of the low `n` bits of `x`. -/
def sx (n x : Nat) : Int :=
  if x % 2 ^ n < 2 ^ (n - 1) then ((x % 2 ^ n : Nat) : Int) else ((x % 2 ^ n : Nat) : Int) - (2 ^ n : Nat)

/-- An integer taken modulo 2^n. -/
def wrapN (n : Nat) (x : Int) : Nat := (x % ((2 ^ n : Nat) : Int)).toNat

/-- A value that stops at `m` (a saturating counter). -/
def satAdd (m x d : Nat) : Nat := min m (x + d)

/-- Position `i` of a list of numbers, or 0. -/
def nth (l : List Nat) (i : Nat) : Nat := l.getD i 0

/-- The first `n` numbers that are at least `a`. -/
def upFrom (a : Nat) : Nat → List Nat
  | 0 => []
  | n + 1 => a :: upFrom (a + 1) n

end Sys2Proof.Machine
end

