-- ==== Sys2Proof/Config.lean ====
section
/-! DEFINITION. The free values: what the spec leaves open and the machine goes on with. Each is opaque, so a claim holds
whatever it is. -/

namespace Sys2Proof

/-- A fresh 32-bit value for each number of the state's counter `freeCtr` (assumption 1, DESIGN CHOICE). -/
opaque Config.freeWord : Nat → BitVec 32

/-- The public key, 64 bytes, of an ECDSA P-256 private key (R447). The manual names FIPS 186 and states no arithmetic
(assumption 21, DESIGN CHOICE). -/
opaque Config.ecPublic : List Nat → List Nat

/-- The ECDSA P-256 signature r ‖ s, 64 bytes, of a 32-byte digest under a private key and a secret k (R448, R449). -/
opaque Config.ecSign : List Nat → List Nat → List Nat → List Nat

/-- ECDSA P-256 verification of a signature over a digest by a public key (R448). -/
opaque Config.ecVerify : List Nat → List Nat → List Nat → Bool

/-- Whether the angle of a corrected (sin, cos) pair that lies between two 16-bit values is taken as the upper one (R84). The manual does not
state how the angle is rounded (assumption 22, DESIGN CHOICE). -/
opaque Config.angleUp : Int → Int → Bool

/-- The 16-bit angle of a pair with neither a sine nor a cosine, which has none (R84, assumption 22, DESIGN CHOICE). -/
opaque Config.angleOfNothing : Nat

/-- Which bit a sigma-delta output's modulator gives where its density leaves the bit open: by output, code and number of the bit (R186).
The manual bounds the number of ones and does not give the stream (assumption 88, DESIGN CHOICE). -/
opaque Config.sdPick : Nat → Nat → Nat → Bool

/-- The level of the reference clock and of the Hall Monitor clock at a PSCLK edge, for CLKOBS.SEL 3 and 4 (R24). Their phase to PSCLK is
open (assumption 92, DESIGN CHOICE). -/
opaque Config.refLevel : Nat → Bool
opaque Config.hallLevel : Nat → Bool

/-- Characters of a cycle header whose layout the manual does not give (R354): the ring flags, which mark the break, and the heal cycle;
and the section number that a CMAC covers (R375), by section: 0 header, 1 status, 2 to 17 the record slots, 18 the messages
(assumption 94, DESIGN CHOICE). -/
opaque Config.ringFlags : Option Nat → BitVec 8
opaque Config.healMark : Bool → BitVec 8
opaque Config.sectionNo : Nat → BitVec 8

/-- The multicast bin of a destination address (R404). The manual names a 64-bin hash and states no hash function
(assumption 41, DESIGN CHOICE). -/
opaque Config.hashBin : List Nat → Nat

end Sys2Proof
end

