-- ==== Sys2Proof/Machine/Regs.lean ====
section
/-! DEFINITION. Every register of the address map with its fields: base, width, access type and Reset column (R9, R13),
chapter by chapter. `R.<NAME>` is the address, `R.<NAME>_<FIELD>` the field. An "L" field reads, until DAWN step 6
loads it, the value its chapter stores for 0 (assumption 2, DESIGN CHOICE); an "H" field is held in the Hall Monitor domain. -/

namespace Sys2Proof.Machine

/-- Access types (R9). -/
inductive Acc | rw | ro | w1s | w1c | wo | rc
deriving DecidableEq, Repr

/-- The Reset column (R13): a number, L (loaded during DAWN) or H (held in the Hall Monitor domain). -/
inductive Rst | v (n : Nat) | l (n : Nat) | h (n : Nat)
deriving DecidableEq, Repr

/-- How the value is held: in the register file, computed from a unit's state, in the register file once per
requester. -/
inductive Held | file | view | perReq
deriving DecidableEq, Repr

/-- One register, or an array of `count` at `stride`, each of `sub` words at `subst`. -/
structure Row where
  name   : String
  base   : Nat
  stride : Nat
  count  : Nat
  sub    : Nat
  subst  : Nat
  held   : Held
  fields : List (F × Acc × Rst)
deriving DecidableEq, Repr

namespace R

/-- CLKSTAT (R22 R23). -/
def CLKSTAT : Nat := 0x400E0200
def CLKSTAT_HMXTAL : F := ⟨0, 1⟩
def CLKSTAT_LOCKLOSS : F := ⟨8, 8⟩
def CLKSTAT_REFLOSS : F := ⟨16, 8⟩
/-- EPOCHCNT (R20). -/
def EPOCHCNT : Nat := 0x400E0204
def EPOCHCNT_COUNT : F := ⟨0, 32⟩
/-- CLKOBS (R24). -/
def CLKOBS : Nat := 0x400E0208
def CLKOBS_SEL : F := ⟨0, 3⟩
/-- MODESTAT (R36-R41). -/
def MODESTAT : Nat := 0x400E0000
def MODESTAT_MODE : F := ⟨0, 3⟩
def MODESTAT_BUSY : F := ⟨3, 1⟩
def MODESTAT_PREV : F := ⟨4, 3⟩
def MODESTAT_CAUSE : F := ⟨8, 3⟩
/-- MODEREQ (R42 R43). -/
def MODEREQ : Nat := 0x400E0004
def MODEREQ_TARGET : F := ⟨0, 3⟩
def MODEREQ_KEY : F := ⟨16, 16⟩
/-- MODERESP (R43 R44). -/
def MODERESP : Nat := 0x400E0008
def MODERESP_STATUS : F := ⟨0, 4⟩
def MODERESP_TARGET : F := ⟨4, 3⟩
def MODERESP_REQ : F := ⟨8, 3⟩
def MODERESP_WHY : F := ⟨16, 4⟩
/-- CORERUN (R45). -/
def CORERUN : Nat := 0x400E0010
def CORERUN_RUN : F := ⟨0, 5⟩
/-- RSTCAUSE (R46). -/
def RSTCAUSE : Nat := 0x400E0100
def RSTCAUSE_CAUSE : F := ⟨0, 8⟩
def RSTCAUSE_SVCDONE : F := ⟨8, 1⟩
def RSTCAUSE_LAST : F := ⟨16, 8⟩
/-- CORERST (R46 R300). -/
def CORERST : Nat := 0x400E0104
def CORERST_PHYS : F := ⟨0, 6⟩
/-- DAWNSTAT (R49-R56). -/
def DAWNSTAT : Nat := 0x400E0020
def DAWNSTAT_STEP : F := ⟨0, 4⟩
def DAWNSTAT_FAILSTEP : F := ⟨4, 4⟩
def DAWNSTAT_IMGBAD : F := ⟨8, 1⟩
def DAWNSTAT_ESTOPLOW : F := ⟨9, 1⟩
def DAWNSTAT_RNGLATE : F := ⟨10, 1⟩
def DAWNSTAT_RNGSTOP : F := ⟨11, 1⟩
def DAWNSTAT_IDENTUNV : F := ⟨12, 1⟩
def DAWNSTAT_RINGDOWN : F := ⟨13, 1⟩
def DAWNSTAT_HMALARM : F := ⟨14, 1⟩
def DAWNSTAT_LOCKCAUSE : F := ⟨16, 4⟩
/-- DAWNTIME (R49). -/
def DAWNTIME : Nat := 0x400E0024
def DAWNTIME_US : F := ⟨0, 32⟩
/-- ROLLTMO (R49). -/
def ROLLTMO : Nat := 0x400E0028
def ROLLTMO_MS : F := ⟨0, 16⟩
/-- HOSTAT (R53). -/
def HOSTAT : Nat := 0x400E0030
def HOSTAT_CH : F := ⟨0, 16⟩
/-- HOTOL (R53). -/
def HOTOL : Nat := 0x400E0034
def HOTOL_COUNTS : F := ⟨0, 24⟩
/-- UNITPRES (R1 R57). -/
def UNITPRES : Nat := 0x400F0000
def UNITPRES_VARIANT : F := ⟨0, 4⟩
def UNITPRES_NPCORE : F := ⟨4, 4⟩
def UNITPRES_NLOCAL : F := ⟨8, 5⟩
def UNITPRES_ENWARD : F := ⟨13, 1⟩
def UNITPRES_NMAC : F := ⟨14, 2⟩
def UNITPRES_NADC : F := ⟨16, 4⟩
def UNITPRES_NRECIT : F := ⟨20, 4⟩
def UNITPRES_RNGSRC : F := ⟨24, 3⟩
def UNITPRES_NDRBG : F := ⟨27, 4⟩
/-- CORETOP (R1 R57). -/
def CORETOP : Nat := 0x400F0004
def CORETOP_PHYS : F := ⟨0, 6⟩
def CORETOP_GLO : F := ⟨8, 3⟩
def CORETOP_IND : F := ⟨16, 4⟩
/-- DEVID (R57). -/
def DEVID : Nat := 0x400F0008
def DEVID_FAMILY : F := ⟨0, 16⟩
def DEVID_STEP : F := ⟨16, 8⟩
/-- PCCTL (R60 R61). -/
def PCCTL (i : Nat) : Nat := 0x40018000 + 0x80 * i
def PCCTL_MODE : F := ⟨0, 3⟩
def PCCTL_DIR : F := ⟨3, 1⟩
def PCCTL_DECODE : F := ⟨4, 2⟩
def PCCTL_ZEN : F := ⟨6, 1⟩
def PCCTL_SE : F := ⟨7, 1⟩
def PCCTL_FILT : F := ⟨8, 5⟩
def PCCTL_WBFILT : F := ⟨16, 8⟩
def PCCTL_CLR : F := ⟨31, 1⟩
/-- PCSTAT (R73-R76). -/
def PCSTAT (i : Nat) : Nat := 0x40018004 + 0x80 * i
def PCSTAT_STATE : F := ⟨0, 2⟩
def PCSTAT_CAUSE : F := ⟨4, 4⟩
def PCSTAT_LVL : F := ⟨8, 3⟩
def PCSTAT_FAST : F := ⟨11, 1⟩
def PCSTAT_WARN : F := ⟨12, 1⟩
def PCSTAT_ZMISS : F := ⟨13, 1⟩
def PCSTAT_WSTAT : F := ⟨16, 4⟩
/-- PCCOUNTL (R64 R66). -/
def PCCOUNTL (i : Nat) : Nat := 0x40018008 + 0x80 * i
def PCCOUNTL_COUNT : F := ⟨0, 32⟩
/-- PCCOUNTH (R64 R66). -/
def PCCOUNTH (i : Nat) : Nat := 0x4001800C + 0x80 * i
def PCCOUNTH_COUNT : F := ⟨0, 8⟩
def PCCOUNTH_FRAC : F := ⟨8, 8⟩
/-- PCEDGEL (R64 R65). -/
def PCEDGEL (i : Nat) : Nat := 0x40018010 + 0x80 * i
def PCEDGEL_TIME : F := ⟨0, 32⟩
/-- PCEDGEH (R64 R65). -/
def PCEDGEH (i : Nat) : Nat := 0x40018014 + 0x80 * i
def PCEDGEH_TIME : F := ⟨0, 32⟩
/-- PCERR (R81 R83 R72 R73). -/
def PCERR (i : Nat) : Nat := 0x40018018 + 0x80 * i
def PCERR_BADFRM : F := ⟨0, 8⟩
def PCERR_REQSKIP : F := ⟨8, 8⟩
def PCERR_ZMISSCNT : F := ⟨16, 8⟩
def PCERR_WBGLITCH : F := ⟨24, 8⟩
/-- PCREQ (R83). -/
def PCREQ (i : Nat) : Nat := 0x4001801C + 0x80 * i
def PCREQ_REQPER : F := ⟨0, 16⟩
/-- PCIDXCTL (R70 R71). -/
def PCIDXCTL (i : Nat) : Nat := 0x40018020 + 0x80 * i
def PCIDXCTL_ZQUAL : F := ⟨0, 2⟩
def PCIDXCTL_ZINV : F := ⟨2, 1⟩
def PCIDXCTL_ZMODE : F := ⟨3, 1⟩
def PCIDXCTL_ARM : F := ⟨4, 1⟩
def PCIDXCTL_ZARMED : F := ⟨5, 1⟩
def PCIDXCTL_ZCNT : F := ⟨16, 8⟩
/-- PCIDXL (R64 R71). -/
def PCIDXL (i : Nat) : Nat := 0x40018024 + 0x80 * i
def PCIDXL_COUNT : F := ⟨0, 32⟩
/-- PCIDXH (R64 R71). -/
def PCIDXH (i : Nat) : Nat := 0x40018028 + 0x80 * i
def PCIDXH_COUNT : F := ⟨0, 8⟩
def PCIDXH_TIME : F := ⟨8, 24⟩
/-- PCZDIST (R72). -/
def PCZDIST (i : Nat) : Nat := 0x4001802C + 0x80 * i
def PCZDIST_DIST : F := ⟨0, 24⟩
/-- PCABS (R78-R80). -/
def PCABS (i : Nat) : Nat := 0x40018030 + 0x80 * i
def PCABS_CLKDIV : F := ⟨0, 10⟩
def PCABS_PAR : F := ⟨10, 2⟩
def PCABS_LEAD : F := ⟨12, 3⟩
def PCABS_GRAY : F := ⟨15, 1⟩
def PCABS_POSBITS : F := ⟨16, 6⟩
def PCABS_TRAIL : F := ⟨24, 3⟩
/-- PCABS2 (R80-R82). -/
def PCABS2 (i : Nat) : Nat := 0x40018034 + 0x80 * i
def PCABS2_MTBITS : F := ⟨0, 5⟩
def PCABS2_BADLIM : F := ⟨8, 4⟩
def PCABS2_TMO : F := ⟨16, 8⟩
def PCABS2_SAMPDLY : F := ⟨24, 8⟩
/-- PCCRC (R80). -/
def PCCRC (i : Nat) : Nat := 0x40018038 + 0x80 * i
def PCCRC_CRCPOLY : F := ⟨0, 16⟩
def PCCRC_CRCW : F := ⟨16, 4⟩
def PCCRC_LINEDLY : F := ⟨24, 8⟩
/-- PCRAWL (R64 R81). -/
def PCRAWL (i : Nat) : Nat := 0x4001803C + 0x80 * i
def PCRAWL_DATA : F := ⟨0, 32⟩
/-- PCRAWH (R64 R81). -/
def PCRAWH (i : Nat) : Nat := 0x40018040 + 0x80 * i
def PCRAWH_DATA : F := ⟨0, 8⟩
def PCRAWH_TRAIL : F := ⟨8, 7⟩
def PCRAWH_NE : F := ⟨16, 1⟩
def PCRAWH_NW : F := ⟨17, 1⟩
def PCRAWH_CDS : F := ⟨18, 1⟩
def PCRAWH_FRMSTAT : F := ⟨20, 3⟩
/-- PCJUMP (R82). -/
def PCJUMP (i : Nat) : Nat := 0x40018044 + 0x80 * i
def PCJUMP_LIMIT : F := ⟨0, 24⟩
/-- PCSC (R84-R86). -/
def PCSC (i : Nat) : Nat := 0x40018048 + 0x80 * i
def PCSC_INTERP : F := ⟨0, 4⟩
def PCSC_AMIN : F := ⟨16, 8⟩
def PCSC_AMAX : F := ⟨24, 8⟩
/-- PCSCOFS (R85). -/
def PCSCOFS (i : Nat) : Nat := 0x4001804C + 0x80 * i
def PCSCOFS_OFFS : F := ⟨0, 16⟩
def PCSCOFS_OFFC : F := ⟨16, 16⟩
/-- PCSCGP (R85). -/
def PCSCGP (i : Nat) : Nat := 0x40018050 + 0x80 * i
def PCSCGP_GAIN : F := ⟨0, 16⟩
def PCSCGP_PHASE : F := ⟨16, 16⟩
/-- PCSCAMP (R86). -/
def PCSCAMP (i : Nat) : Nat := 0x40018054 + 0x80 * i
def PCSCAMP_AMP : F := ⟨0, 8⟩
def PCSCAMP_AMPLOW : F := ⟨8, 8⟩
def PCSCAMP_AMPHIGH : F := ⟨16, 8⟩
/-- MZCTL (R87). -/
def MZCTL : Nat := 0x40018800
def MZCTL_EN : F := ⟨0, 1⟩
def MZCTL_HYST : F := ⟨1, 2⟩
def MZCTL_MZFILT : F := ⟨8, 8⟩
def MZCTL_MZBLANK : F := ⟨16, 8⟩
/-- MZSTAT (R87-R89). -/
def MZSTAT : Nat := 0x40018804
def MZSTAT_STATE : F := ⟨0, 2⟩
def MZSTAT_OUTRANGE : F := ⟨2, 1⟩
/-- MZSTAMPL (R64 R87). -/
def MZSTAMPL : Nat := 0x40018808
def MZSTAMPL_TIME : F := ⟨0, 32⟩
/-- MZSTAMPH (R64 R87). -/
def MZSTAMPH : Nat := 0x4001880C
def MZSTAMPH_TIME : F := ⟨0, 32⟩
/-- MZPER (R88). -/
def MZPER : Nat := 0x40018810
def MZPER_PSCLKS : F := ⟨0, 32⟩
/-- MZSKEW (R87). -/
def MZSKEW : Nat := 0x40018814
def MZSKEW_SKEW : F := ⟨0, 24⟩
/-- MZWIN (R88). -/
def MZWIN : Nat := 0x40018818
def MZWIN_PMIN : F := ⟨0, 16⟩
def MZWIN_PMAX : F := ⟨16, 16⟩
/-- MZLOSS (R88). -/
def MZLOSS : Nat := 0x4001881C
def MZLOSS_LOSS : F := ⟨0, 24⟩
/-- TBCFG (R96 R118). -/
def TBCFG (i : Nat) : Nat := 0x40010000 + 0x40 * i
def TBCFG_KIND : F := ⟨0, 3⟩
def TBCFG_SRC : F := ⟨3, 5⟩
def TBCFG_INTERP : F := ⟨8, 1⟩
def TBCFG_VAVG : F := ⟨9, 2⟩
def TBCFG_MTSIGN : F := ⟨11, 1⟩
def TBCFG_STILLT : F := ⟨16, 8⟩
def TBCFG_EVSTILL : F := ⟨24, 1⟩
def TBCFG_EVDIR : F := ⟨25, 1⟩
def TBCFG_EVWRAP : F := ⟨26, 1⟩
/-- TBSTAT (R95-R118). -/
def TBSTAT (i : Nat) : Nat := 0x40010004 + 0x40 * i
def TBSTAT_STATE : F := ⟨0, 2⟩
def TBSTAT_REF : F := ⟨2, 1⟩
def TBSTAT_DIR : F := ⟨3, 1⟩
def TBSTAT_STILL : F := ⟨4, 1⟩
def TBSTAT_STALE : F := ⟨5, 1⟩
def TBSTAT_WRAP : F := ⟨6, 1⟩
def TBSTAT_CAUSE : F := ⟨8, 4⟩
def TBSTAT_WSTAT : F := ⟨12, 4⟩
def TBSTAT_DISCGEN : F := ⟨16, 8⟩
/-- TBPOSL (R91 R95). -/
def TBPOSL (i : Nat) : Nat := 0x40010008 + 0x40 * i
def TBPOSL_FRAC : F := ⟨0, 8⟩
def TBPOSL_COUNT : F := ⟨8, 24⟩
/-- TBPOSH (R91 R95). -/
def TBPOSH (i : Nat) : Nat := 0x4001000C + 0x40 * i
def TBPOSH_COUNT : F := ⟨0, 16⟩
def TBPOSH_REF : F := ⟨16, 1⟩
def TBPOSH_STATE : F := ⟨17, 2⟩
def TBPOSH_DIR : F := ⟨19, 1⟩
def TBPOSH_STILL : F := ⟨20, 1⟩
def TBPOSH_DISCGEN : F := ⟨24, 8⟩
/-- TBVEL (R94 R95). -/
def TBVEL (i : Nat) : Nat := 0x40010010 + 0x40 * i
def TBVEL_VEL : F := ⟨0, 32⟩
/-- TBSETL (R114). -/
def TBSETL (i : Nat) : Nat := 0x40010014 + 0x40 * i
def TBSETL_VALUE : F := ⟨0, 32⟩
/-- TBSETH (R114). -/
def TBSETH (i : Nat) : Nat := 0x40010018 + 0x40 * i
def TBSETH_VALUE : F := ⟨0, 16⟩
/-- TBCMD (R114). -/
def TBCMD (i : Nat) : Nat := 0x4001001C + 0x40 * i
def TBCMD_CMD : F := ⟨0, 3⟩
def TBCMD_NEWSRC : F := ⟨8, 5⟩
/-- TBMOD (R104). -/
def TBMOD (i : Nat) : Nat := 0x40010020 + 0x40 * i
def TBMOD_MOD : F := ⟨0, 32⟩
/-- TBREV (R104). -/
def TBREV (i : Nat) : Nat := 0x40010024 + 0x40 * i
def TBREV_REV : F := ⟨0, 32⟩
/-- TBGNUM (R108). -/
def TBGNUM (i : Nat) : Nat := 0x40010028 + 0x40 * i
def TBGNUM_NUM : F := ⟨0, 32⟩
/-- TBGDEN (R108). -/
def TBGDEN (i : Nat) : Nat := 0x4001002C + 0x40 * i
def TBGDEN_DEN : F := ⟨0, 32⟩
/-- TBAGE (R98 R361). -/
def TBAGE (i : Nat) : Nat := 0x40010030 + 0x40 * i
def TBAGE_AGE : F := ⟨0, 24⟩
/-- TBSYNVEL (R113). -/
def TBSYNVEL (i : Nat) : Nat := 0x40010034 + 0x40 * i
def TBSYNVEL_VEL : F := ⟨0, 32⟩
/-- TBCORR (R99). -/
def TBCORR (i : Nat) : Nat := 0x40010038 + 0x40 * i
def TBCORR_BACK : F := ⟨0, 8⟩
/-- WALLL (R111). -/
def WALLL : Nat := 0x40010800
def WALLL_FRAC : F := ⟨0, 8⟩
def WALLL_TIME : F := ⟨8, 24⟩
/-- WALLH (R111). -/
def WALLH : Nat := 0x40010804
def WALLH_TIME : F := ⟨0, 32⟩
/-- WALLTOP (R111). -/
def WALLTOP : Nat := 0x40010808
def WALLTOP_TIME : F := ⟨0, 8⟩
/-- WADJ (R111). -/
def WADJ : Nat := 0x4001080C
def WADJ_ADJ : F := ⟨0, 32⟩
/-- WSTEPL (R111). -/
def WSTEPL : Nat := 0x40010810
def WSTEPL_STEP : F := ⟨0, 32⟩
/-- WSTEPH (R111). -/
def WSTEPH : Nat := 0x40010814
def WSTEPH_STEP : F := ⟨0, 32⟩
/-- WALLCTL (R111 R112). -/
def WALLCTL : Nat := 0x40010818
def WALLCTL_WRATE : F := ⟨0, 4⟩
def WALLCTL_OWNER : F := ⟨4, 2⟩
def WALLCTL_WSTAT : F := ⟨8, 4⟩
/-- CAPCMD (R120). -/
def CAPCMD : Nat := 0x40010900
def CAPCMD_GO : F := ⟨0, 1⟩
/-- CAPSTAT (R120 R121). -/
def CAPSTAT : Nat := 0x40010904
def CAPSTAT_FULL : F := ⟨0, 4⟩
def CAPSTAT_LAST : F := ⟨4, 2⟩
def CAPSTAT_LASTREF : F := ⟨6, 1⟩
def CAPSTAT_CAPLOST : F := ⟨8, 8⟩
/-- CAPFREE (R121). -/
def CAPFREE : Nat := 0x40010908
def CAPFREE_FREE : F := ⟨0, 4⟩
/-- CAPSEQ (R120). -/
def CAPSEQ (i : Nat) : Nat := 0x40014000 + 0x200 * i
def CAPSEQ_SEQ : F := ⟨0, 32⟩
/-- CAPSRC (R120). -/
def CAPSRC (i : Nat) : Nat := 0x40014004 + 0x200 * i
def CAPSRC_SLOTS : F := ⟨0, 32⟩
/-- CAPWALLL (R120). -/
def CAPWALLL (i : Nat) : Nat := 0x40014008 + 0x200 * i
def CAPWALLL_TIME : F := ⟨0, 32⟩
/-- CAPWALLH (R120). -/
def CAPWALLH (i : Nat) : Nat := 0x4001400C + 0x200 * i
def CAPWALLH_TIME : F := ⟨0, 32⟩
/-- CAPSRC2 (R120). -/
def CAPSRC2 (i : Nat) : Nat := 0x40014010 + 0x200 * i
def CAPSRC2_SRC : F := ⟨0, 2⟩
def CAPSRC2_WALLTOP : F := ⟨8, 8⟩
/-- CAPPOS (R120). -/
def CAPPOS (i j : Nat) : Nat := 0x40014020 + 0x200 * i + 4 * j
def CAPPOS_WORD : F := ⟨0, 32⟩
/-- TTPER (R123). -/
def TTPER (i j : Nat) : Nat := 0x40020000 + 0x40 * i + 4 * j
def TTPER_WORD : F := ⟨0, 32⟩
/-- TTSLOT (R136). -/
def TTSLOT (i : Nat) : Nat := 0x40020010 + 0x40 * i
def TTSLOT_STATE : F := ⟨0, 3⟩
def TTSLOT_PRIMED : F := ⟨3, 1⟩
def TTSLOT_EDIR : F := ⟨4, 1⟩
def TTSLOT_DISC : F := ⟨5, 1⟩
def TTSLOT_RAWPL : F := ⟨6, 1⟩
def TTSLOT_LATEF : F := ⟨7, 1⟩
def TTSLOT_STATUS : F := ⟨8, 5⟩
def TTSLOT_REQ : F := ⟨16, 3⟩
def TTSLOT_WORLD : F := ⟨19, 1⟩
/-- TTCAPL (R131). -/
def TTCAPL (i : Nat) : Nat := 0x40020014 + 0x40 * i
def TTCAPL_WORD : F := ⟨0, 32⟩
/-- TTCAPH (R131). -/
def TTCAPH (i : Nat) : Nat := 0x40020018 + 0x40 * i
def TTCAPH_WORD : F := ⟨0, 16⟩
/-- TTWHENL (R131 R143). -/
def TTWHENL (i : Nat) : Nat := 0x4002001C + 0x40 * i
def TTWHENL_TIME : F := ⟨0, 32⟩
/-- TTWHENH (R131 R143). -/
def TTWHENH (i : Nat) : Nat := 0x40020020 + 0x40 * i
def TTWHENH_TIME : F := ⟨0, 32⟩
/-- TTNEW (R125). -/
def TTNEW (i : Nat) : Nat := 0x40020800 + 0x4 * i
def TTNEW_WORD : F := ⟨0, 32⟩
/-- TTNEWGO (R125). -/
def TTNEWGO : Nat := 0x40020810
def TTNEWGO_GO : F := ⟨0, 1⟩
/-- TTRES (R128). -/
def TTRES : Nat := 0x40020814
def TTRES_RESULT : F := ⟨0, 32⟩
/-- TTCMD (R129). -/
def TTCMD : Nat := 0x40020818
def TTCMD_CMD : F := ⟨0, 2⟩
def TTCMD_SLOT : F := ⟨8, 5⟩
/-- TTMAP (R126). -/
def TTMAP : Nat := 0x4002081C
def TTMAP_FREE : F := ⟨0, 32⟩
/-- TTMEMBASE (R141). -/
def TTMEMBASE : Nat := 0x40020820
def TTMEMBASE_EN : F := ⟨0, 1⟩
def TTMEMBASE_BASE : F := ⟨10, 22⟩
/-- TTFAULT (R147). -/
def TTFAULT : Nat := 0x40020824
def TTFAULT_KIND : F := ⟨0, 2⟩
def TTFAULT_WHERE : F := ⟨8, 6⟩
def TTFAULT_GEN : F := ⟨14, 1⟩
def TTFAULT_FIELD : F := ⟨16, 4⟩
def TTFAULT_SEEN : F := ⟨31, 1⟩
/-- TTLATENT (R148). -/
def TTLATENT : Nat := 0x40020828
def TTLATENT_COUNT : F := ⟨0, 16⟩
def TTLATENT_SLOT : F := ⟨16, 5⟩
/-- TTINJ (R149). -/
def TTINJ : Nat := 0x4002082C
def TTINJ_SLOT : F := ⟨0, 5⟩
def TTINJ_FIELD : F := ⟨8, 4⟩
def TTINJ_BIT : F := ⟨14, 6⟩
def TTINJ_LINE : F := ⟨20, 6⟩
def TTINJ_GEN : F := ⟨26, 1⟩
def TTINJ_GO : F := ⟨31, 1⟩
/-- QCFG (R153). -/
def QCFG (i : Nat) : Nat := 0x40030000 + 0x40 * i
def QCFG_SLOT : F := ⟨0, 5⟩
def QCFG_LOG2SIZE : F := ⟨8, 4⟩
def QCFG_FAILHALT : F := ⟨12, 1⟩
def QCFG_REPEN : F := ⟨13, 1⟩
def QCFG_LOWM : F := ⟨16, 8⟩
def QCFG_OWNER : F := ⟨24, 3⟩
def QCFG_WORLD : F := ⟨27, 1⟩
/-- QBASE (R150). -/
def QBASE (i : Nat) : Nat := 0x40030004 + 0x40 * i
def QBASE_BASE : F := ⟨4, 28⟩
/-- QREP (R161). -/
def QREP (i : Nat) : Nat := 0x40030008 + 0x40 * i
def QREP_BASE : F := ⟨3, 29⟩
/-- QHEAD (R150 R161). -/
def QHEAD (i : Nat) : Nat := 0x4003000C + 0x40 * i
def QHEAD_HEAD : F := ⟨0, 13⟩
def QHEAD_SEQ : F := ⟨16, 16⟩
/-- QTAIL (R151). -/
def QTAIL (i : Nat) : Nat := 0x40030010 + 0x40 * i
def QTAIL_TAIL : F := ⟨0, 13⟩
/-- QCMD (R154). -/
def QCMD (i : Nat) : Nat := 0x40030014 + 0x40 * i
def QCMD_CMD : F := ⟨0, 3⟩
/-- QSTAT (R154 R162). -/
def QSTAT (i : Nat) : Nat := 0x40030018 + 0x40 * i
def QSTAT_STATE : F := ⟨0, 3⟩
def QSTAT_PFV : F := ⟨3, 1⟩
def QSTAT_MODESTOP : F := ⟨4, 1⟩
def QSTAT_WHY : F := ⟨8, 5⟩
def QSTAT_WSTAT : F := ⟨16, 4⟩
/-- QCNT (R157 R159 R169). -/
def QCNT (i : Nat) : Nat := 0x4003001C + 0x40 * i
def QCNT_LATE : F := ⟨0, 8⟩
def QCNT_SKIP : F := ⟨8, 8⟩
def QCNT_STARVE : F := ⟨16, 8⟩
def QCNT_PFWAIT : F := ⟨24, 8⟩
/-- QFAIL (R162). -/
def QFAIL (i : Nat) : Nat := 0x40030020 + 0x40 * i
def QFAIL_FAIL : F := ⟨0, 8⟩
/-- SYLSTAT (R164). -/
def SYLSTAT : Nat := 0x40030800
def SYLSTAT_STARVED : F := ⟨0, 16⟩
def SYLSTAT_HALTED : F := ⟨16, 16⟩
/-- TTRESV (R166-R168). -/
def TTRESV : Nat := 0x40020830
def TTRESV_GRESV : F := ⟨0, 6⟩
def TTRESV_ENQ : F := ⟨8, 6⟩
/-- TTOCC (R169). -/
def TTOCC : Nat := 0x40020834
def TTOCC_NOW : F := ⟨0, 6⟩
def TTOCC_PEAK : F := ⟨8, 6⟩
def TTOCC_BOUND : F := ⟨16, 6⟩
def TTOCC_PRESTG : F := ⟨24, 6⟩
/-- TTLATECNT (R169). -/
def TTLATECNT : Nat := 0x40020838
def TTLATECNT_LATE : F := ⟨0, 16⟩
def TTLATECNT_SKIP : F := ⟨16, 16⟩
/-- TTBOUND (R169). -/
def TTBOUND : Nat := 0x4002083C
def TTBOUND_BOUND : F := ⟨0, 32⟩
/-- TTQUOTA (R166 R168). -/
def TTQUOTA (i : Nat) : Nat := 0x40020840 + 0x4 * i
def TTQUOTA_SHOPQ : F := ⟨0, 6⟩
def TTQUOTA_GUARDQ : F := ⟨8, 6⟩
def TTQUOTA_SHOPH : F := ⟨16, 6⟩
def TTQUOTA_GUARDH : F := ⟨24, 6⟩
/-- TTREFUSE (R169). -/
def TTREFUSE (i : Nat) : Nat := 0x40020858 + 0x4 * i
def TTREFUSE_B0 : F := ⟨0, 8⟩
def TTREFUSE_B1 : F := ⟨8, 8⟩
def TTREFUSE_B2 : F := ⟨16, 8⟩
def TTREFUSE_B3 : F := ⟨24, 8⟩
/-- EVCFG (R174). -/
def EVCFG (i : Nat) : Nat := 0x40040000 + 0x4 * i
def EVCFG_SAFE : F := ⟨0, 2⟩
def EVCFG_HOLD : F := ⟨2, 2⟩
def EVCFG_WORLD : F := ⟨4, 1⟩
def EVCFG_OD : F := ⟨5, 1⟩
/-- EVLVL (R170). -/
def EVLVL (i : Nat) : Nat := 0x40040100 + 0x4 * i
def EVLVL_LVL : F := ⟨0, 32⟩
/-- EVSET (R175). -/
def EVSET (i : Nat) : Nat := 0x40040108 + 0x4 * i
def EVSET_MASK : F := ⟨0, 32⟩
/-- EVCLR (R175). -/
def EVCLR (i : Nat) : Nat := 0x40040110 + 0x4 * i
def EVCLR_MASK : F := ⟨0, 32⟩
/-- EVTOG (R175). -/
def EVTOG (i : Nat) : Nat := 0x40040118 + 0x4 * i
def EVTOG_MASK : F := ⟨0, 32⟩
/-- EVBALL (R170). -/
def EVBALL (i : Nat) : Nat := 0x40040120 + 0x4 * i
def EVBALL_BALL : F := ⟨0, 32⟩
/-- EVLOST (R191). -/
def EVLOST (i : Nat) : Nat := 0x40040128 + 0x4 * i
def EVLOST_PINLOST : F := ⟨0, 32⟩
/-- EVFEN (R178). -/
def EVFEN (i : Nat) : Nat := 0x40040130 + 0x4 * i
def EVFEN_FEN : F := ⟨0, 32⟩
/-- EVFLVL (R178). -/
def EVFLVL (i : Nat) : Nat := 0x40040138 + 0x4 * i
def EVFLVL_FLVL : F := ⟨0, 32⟩
/-- EVHDROP (R173). -/
def EVHDROP : Nat := 0x40040140
def EVHDROP_COUNT : F := ⟨0, 16⟩
/-- OUTWSTAT (R174-R187). -/
def OUTWSTAT : Nat := 0x40040F00
def OUTWSTAT_CODE : F := ⟨0, 4⟩
/-- EVREJ (R175). -/
def EVREJ (i : Nat) : Nat := 0x40040F04 + 0x4 * i
def EVREJ_REJ : F := ⟨0, 32⟩
/-- PTCFG (R180 R183). -/
def PTCFG (i : Nat) : Nat := 0x40040400 + 0x20 * i
def PTCFG_WIDTH : F := ⟨0, 3⟩
def PTCFG_STEPINV : F := ⟨3, 1⟩
def PTCFG_DIRINV : F := ⟨4, 1⟩
def PTCFG_WORLD : F := ⟨5, 1⟩
def PTCFG_HOLDRUN : F := ⟨6, 1⟩
def PTCFG_DIRSU : F := ⟨8, 8⟩
/-- PTRATE (R179). -/
def PTRATE (i : Nat) : Nat := 0x40040404 + 0x20 * i
def PTRATE_RATE : F := ⟨0, 32⟩
/-- PTNSTEP (R181). -/
def PTNSTEP (i : Nat) : Nat := 0x40040408 + 0x20 * i
def PTNSTEP_NSTEP : F := ⟨0, 24⟩
/-- PTCOUNT (R182). -/
def PTCOUNT (i : Nat) : Nat := 0x4004040C + 0x20 * i
def PTCOUNT_COUNT : F := ⟨0, 32⟩
/-- PTCTL (R181). -/
def PTCTL (i : Nat) : Nat := 0x40040410 + 0x20 * i
def PTCTL_GO : F := ⟨0, 1⟩
def PTCTL_STOP : F := ⟨1, 1⟩
/-- PTSTAT (R182). -/
def PTSTAT (i : Nat) : Nat := 0x40040414 + 0x20 * i
def PTSTAT_STATE : F := ⟨0, 2⟩
def PTSTAT_DLATE : F := ⟨2, 1⟩
def PTSTAT_PINLOST : F := ⟨3, 1⟩
def PTSTAT_FDFLT : F := ⟨4, 1⟩
/-- PTREM (R181). -/
def PTREM (i : Nat) : Nat := 0x40040418 + 0x20 * i
def PTREM_REM : F := ⟨0, 24⟩
/-- PWMCFG (R184). -/
def PWMCFG (i : Nat) : Nat := 0x40040800 + 0x10 * i
def PWMCFG_ALIGN : F := ⟨0, 1⟩
def PWMCFG_SAFE : F := ⟨1, 2⟩
def PWMCFG_HOLD : F := ⟨3, 2⟩
def PWMCFG_WORLD : F := ⟨5, 1⟩
/-- PWMPER (R185). -/
def PWMPER (i : Nat) : Nat := 0x40040804 + 0x10 * i
def PWMPER_PER : F := ⟨0, 20⟩
/-- PWMDUTY (R185). -/
def PWMDUTY (i : Nat) : Nat := 0x40040808 + 0x10 * i
def PWMDUTY_DUTY : F := ⟨0, 22⟩
/-- PWMSTAT (R184). -/
def PWMSTAT (i : Nat) : Nat := 0x4004080C + 0x10 * i
def PWMSTAT_CLAMP : F := ⟨0, 1⟩
def PWMSTAT_PINLOST : F := ⟨1, 1⟩
/-- SDCFG (R186). -/
def SDCFG (i : Nat) : Nat := 0x40040A00 + 0x10 * i
def SDCFG_SAFE : F := ⟨0, 2⟩
def SDCFG_HOLD : F := ⟨2, 2⟩
def SDCFG_WORLD : F := ⟨4, 1⟩
def SDCFG_SAFECODE : F := ⟨16, 16⟩
/-- SDCODE (R186). -/
def SDCODE (i : Nat) : Nat := 0x40040A04 + 0x10 * i
def SDCODE_CODE : F := ⟨0, 16⟩
/-- SDSTAT (R186). -/
def SDSTAT (i : Nat) : Nat := 0x40040A08 + 0x10 * i
def SDSTAT_PINLOST : F := ⟨0, 1⟩
/-- PINFN (R189-R191). -/
def PINFN (i : Nat) : Nat := 0x40100000 + 0x4 * i
def PINFN_FUNC : F := ⟨0, 10⟩
def PINFN_PULL : F := ⟨10, 2⟩
def PINFN_DRIVE : F := ⟨12, 2⟩
def PINFN_SAFETY : F := ⟨14, 1⟩
def PINFN_BUSY : F := ⟨15, 1⟩
def PINFN_WSTAT : F := ⟨16, 4⟩
def PINFN_LEVEL : F := ⟨20, 1⟩
/-- PINBANK (R194). -/
def PINBANK : Nat := 0x40100200
def PINBANK_VSEL : F := ⟨0, 4⟩
def PINBANK_SUPPLY : F := ⟨4, 4⟩
def PINBANK_BANKERR : F := ⟨8, 4⟩
/-- LONGCNT (R256 R252). -/
def LONGCNT (i : Nat) : Nat := 0x400E0300 + 0x4 * i
def LONGCNT_DIVABORT : F := ⟨0, 16⟩
def LONGCNT_MACNBRK : F := ⟨16, 16⟩
/-- BUSSTALL (R265 R266). -/
def BUSSTALL (i : Nat) : Nat := 0x400E0400 + 0x10 * i
def BUSSTALL_WAIT : F := ⟨0, 32⟩
/-- BUSMAX (R265). -/
def BUSMAX (i : Nat) : Nat := 0x400E0404 + 0x10 * i
def BUSMAX_MAX : F := ⟨0, 16⟩
/-- SBOVL (R270). -/
def SBOVL (i : Nat) : Nat := 0x400E0408 + 0x10 * i
def SBOVL_CCLK : F := ⟨0, 32⟩
/-- SBFULL (R269). -/
def SBFULL (i : Nat) : Nat := 0x400E040C + 0x10 * i
def SBFULL_CCLK : F := ⟨0, 32⟩
/-- BUSUSE (R266). -/
def BUSUSE (i : Nat) : Nat := 0x400E0460 + 0x4 * i
def BUSUSE_PSCLK : F := ⟨0, 32⟩
/-- GENTRY (R278). -/
def GENTRY (i : Nat) : Nat := 0x400E1000 + 0x400 * i
def GENTRY_PC : F := ⟨1, 31⟩
/-- GTABG (R282). -/
def GTABG (i : Nat) : Nat := 0x400E1004 + 0x400 * i
def GTABG_BASE : F := ⟨5, 27⟩
/-- GTABS (R282). -/
def GTABS (i : Nat) : Nat := 0x400E1008 + 0x400 * i
def GTABS_BASE : F := ⟨5, 27⟩
/-- GTCNT (R282). -/
def GTCNT (i : Nat) : Nat := 0x400E100C + 0x400 * i
def GTCNT_COUNTG : F := ⟨0, 7⟩
def GTCNT_COUNTS : F := ⟨8, 7⟩
/-- XGMASKL (R285). -/
def XGMASKL (i : Nat) : Nat := 0x400E1010 + 0x400 * i
def XGMASKL_MASK : F := ⟨0, 32⟩
/-- XGMASKH (R285). -/
def XGMASKH (i : Nat) : Nat := 0x400E1014 + 0x400 * i
def XGMASKH_MASK : F := ⟨0, 32⟩
/-- FVECG (R294). -/
def FVECG (i : Nat) : Nat := 0x400E1018 + 0x400 * i
def FVECG_PC : F := ⟨1, 31⟩
/-- FVECS (R294). -/
def FVECS (i : Nat) : Nat := 0x400E101C + 0x400 * i
def FVECS_PC : F := ⟨1, 31⟩
/-- EXVEC (R298). -/
def EXVEC (i : Nat) : Nat := 0x400E1020 + 0x400 * i
def EXVEC_PC : F := ⟨1, 31⟩
/-- DFVEC (R299). -/
def DFVEC (i : Nat) : Nat := 0x400E1024 + 0x400 * i
def DFVEC_PC : F := ⟨1, 31⟩
/-- NMIVEC (R302). -/
def NMIVEC (i : Nat) : Nat := 0x400E1028 + 0x400 * i
def NMIVEC_PC : F := ⟨1, 31⟩
/-- GDSBASE (R298). -/
def GDSBASE (i : Nat) : Nat := 0x400E1030 + 0x400 * i
def GDSBASE_ADDR : F := ⟨0, 32⟩
/-- GDSLIM (R298). -/
def GDSLIM (i : Nat) : Nat := 0x400E1034 + 0x400 * i
def GDSLIM_ADDR : F := ⟨0, 32⟩
/-- GRSBASE (R298). -/
def GRSBASE (i : Nat) : Nat := 0x400E1038 + 0x400 * i
def GRSBASE_ADDR : F := ⟨0, 32⟩
/-- GRSLIM (R298). -/
def GRSLIM (i : Nat) : Nat := 0x400E103C + 0x400 * i
def GRSLIM_ADDR : F := ⟨0, 32⟩
/-- FSTATG (R297). -/
def FSTATG (i : Nat) : Nat := 0x400E1040 + 0x400 * i
def FSTATG_KIND : F := ⟨0, 4⟩
def FSTATG_CAUSE : F := ⟨4, 4⟩
def FSTATG_WORLD : F := ⟨8, 1⟩
def FSTATG_RING : F := ⟨9, 2⟩
def FSTATG_WRITE : F := ⟨11, 1⟩
def FSTATG_RSTK : F := ⟨12, 1⟩
/-- FADDRG (R297). -/
def FADDRG (i : Nat) : Nat := 0x400E1044 + 0x400 * i
def FADDRG_ADDR : F := ⟨0, 32⟩
/-- FSTATS (R297). -/
def FSTATS (i : Nat) : Nat := 0x400E1048 + 0x400 * i
def FSTATS_KIND : F := ⟨0, 4⟩
def FSTATS_CAUSE : F := ⟨4, 4⟩
def FSTATS_WORLD : F := ⟨8, 1⟩
def FSTATS_RING : F := ⟨9, 2⟩
def FSTATS_WRITE : F := ⟨11, 1⟩
def FSTATS_RSTK : F := ⟨12, 1⟩
/-- FADDRS (R297). -/
def FADDRS (i : Nat) : Nat := 0x400E104C + 0x400 * i
def FADDRS_ADDR : F := ⟨0, 32⟩
/-- DFSTAT (R299 R300). -/
def DFSTAT (i : Nat) : Nat := 0x400E1050 + 0x400 * i
def DFSTAT_KIND1 : F := ⟨0, 4⟩
def DFSTAT_KIND2 : F := ⟨4, 4⟩
def DFSTAT_ACTIVE : F := ⟨8, 1⟩
def DFSTAT_THIRD : F := ⟨9, 1⟩
def DFSTAT_KIND3 : F := ⟨12, 4⟩
/-- FCNT (R297). -/
def FCNT (i : Nat) : Nat := 0x400E1054 + 0x400 * i
def FCNT_SHOP : F := ⟨0, 16⟩
def FCNT_GUARD : F := ⟨16, 16⟩
/-- NMIPEND (R302). -/
def NMIPEND (i : Nat) : Nat := 0x400E1058 + 0x400 * i
def NMIPEND_ESTOP : F := ⟨0, 1⟩
def NMIPEND_TTFAULT : F := ⟨1, 1⟩
def NMIPEND_PAIR : F := ⟨2, 1⟩
def NMIPEND_WDOG : F := ⟨3, 1⟩
def NMIPEND_NMIACT : F := ⟨8, 1⟩
/-- RG0BASE (R291). -/
def RG0BASE (i : Nat) : Nat := 0x400E1100 + 0x400 * i
def RG0BASE_XCLS : F := ⟨0, 3⟩
def RG0BASE_EN : F := ⟨3, 1⟩
def RG0BASE_EXCL : F := ⟨4, 1⟩
def RG0BASE_BASE : F := ⟨6, 26⟩
/-- RG0LIM (R291). -/
def RG0LIM (i : Nat) : Nat := 0x400E1104 + 0x400 * i
def RG0LIM_RCLS : F := ⟨0, 3⟩
def RG0LIM_WCLS : F := ⟨3, 3⟩
def RG0LIM_LIMIT : F := ⟨6, 26⟩
/-- RGBASE (R290 R291). -/
def RGBASE (i j : Nat) : Nat := 0x400E1100 + 0x400 * i + 8 * j
def RGBASE_XCLS : F := ⟨0, 3⟩
def RGBASE_EN : F := ⟨3, 1⟩
def RGBASE_EXCL : F := ⟨4, 1⟩
def RGBASE_BASE : F := ⟨6, 26⟩
/-- RGLIM (R290 R291). -/
def RGLIM (i j : Nat) : Nat := 0x400E1104 + 0x400 * i + 8 * j
def RGLIM_RCLS : F := ⟨0, 3⟩
def RGLIM_WCLS : F := ⟨3, 3⟩
def RGLIM_LIMIT : F := ⟨6, 26⟩
/-- RSHBASE (R290 R291). -/
def RSHBASE (i j : Nat) : Nat := 0x400E1180 + 0x400 * i + 8 * j
def RSHBASE_XCLS : F := ⟨0, 3⟩
def RSHBASE_EN : F := ⟨3, 1⟩
def RSHBASE_LOCK : F := ⟨5, 1⟩
def RSHBASE_BASE : F := ⟨6, 26⟩
/-- RSHLIM (R290 R291). -/
def RSHLIM (i j : Nat) : Nat := 0x400E1184 + 0x400 * i + 8 * j
def RSHLIM_RCLS : F := ⟨0, 3⟩
def RSHLIM_WCLS : F := ⟨3, 3⟩
def RSHLIM_LIMIT : F := ⟨6, 26⟩
/-- DFSAVE (R299). -/
def DFSAVE (i j : Nat) : Nat := 0x400E1200 + 0x400 * i + 4 * j
def DFSAVE_WORD : F := ⟨0, 32⟩
/-- ESTOPCFG (R301). -/
def ESTOPCFG : Nat := 0x400E0040
def ESTOPCFG_FILT : F := ⟨0, 8⟩
/-- ESTOPSTAT (R301). -/
def ESTOPSTAT : Nat := 0x400E0044
def ESTOPSTAT_LEVEL : F := ⟨0, 1⟩
def ESTOPSTAT_FELL : F := ⟨1, 1⟩
def ESTOPSTAT_WSTAT : F := ⟨4, 4⟩
def ESTOPSTAT_COUNT : F := ⟨8, 8⟩
/-- IRQCFG (R303 R304). -/
def IRQCFG (i : Nat) : Nat := 0x40050000 + 0x4 * i
def IRQCFG_LEVEL : F := ⟨0, 3⟩
def IRQCFG_CORE : F := ⟨4, 3⟩
def IRQCFG_WORLD : F := ⟨7, 1⟩
def IRQCFG_FIXED : F := ⟨8, 1⟩
/-- IRQCNT (R305 R306). -/
def IRQCNT (i : Nat) : Nat := 0x40050400 + 0x4 * i
def IRQCNT_COUNT : F := ⟨0, 4⟩
def IRQCNT_OVF : F := ⟨4, 1⟩
def IRQCNT_EN : F := ⟨5, 1⟩
/-- PEND (R305). -/
def PEND (i : Nat) : Nat := 0x40050800 + 0x4 * i
def PEND_BITS : F := ⟨0, 32⟩
/-- PENDSET (R306). -/
def PENDSET (i : Nat) : Nat := 0x40050820 + 0x4 * i
def PENDSET_MASK : F := ⟨0, 32⟩
/-- PENDCLR (R306). -/
def PENDCLR (i : Nat) : Nat := 0x40050840 + 0x4 * i
def PENDCLR_MASK : F := ⟨0, 32⟩
/-- EN (R306). -/
def EN (i : Nat) : Nat := 0x40050860 + 0x4 * i
def EN_BITS : F := ⟨0, 32⟩
/-- ENSET (R306). -/
def ENSET (i : Nat) : Nat := 0x40050880 + 0x4 * i
def ENSET_MASK : F := ⟨0, 32⟩
/-- ENCLR (R306). -/
def ENCLR (i : Nat) : Nat := 0x400508A0 + 0x4 * i
def ENCLR_MASK : F := ⟨0, 32⟩
/-- IRQWSTAT (R304). -/
def IRQWSTAT : Nat := 0x400508C0
def IRQWSTAT_CODE : F := ⟨0, 4⟩
/-- IRQLOST (R305). -/
def IRQLOST : Nat := 0x400508C4
def IRQLOST_COUNT : F := ⟨0, 16⟩
/-- IVECG (R315). -/
def IVECG (i j : Nat) : Nat := 0x40051000 + 0x100 * i + 4 * j
def IVECG_PC : F := ⟨1, 31⟩
/-- IVECS (R315). -/
def IVECS (i j : Nat) : Nat := 0x40051020 + 0x100 * i + 4 * j
def IVECS_PC : F := ⟨1, 31⟩
/-- ISTAT (R309-R315). -/
def ISTAT (i : Nat) : Nat := 0x40051040 + 0x100 * i
def ISTAT_SRC : F := ⟨0, 8⟩
def ISTAT_CP : F := ⟨8, 3⟩
def ISTAT_BELL : F := ⟨11, 1⟩
def ISTAT_HELD : F := ⟨12, 1⟩
def ISTAT_ACTLV : F := ⟨16, 7⟩
/-- GHDSBASE (R315). -/
def GHDSBASE (i : Nat) : Nat := 0x40051048 + 0x100 * i
def GHDSBASE_ADDR : F := ⟨0, 32⟩
/-- GHDSLIM (R315). -/
def GHDSLIM (i : Nat) : Nat := 0x4005104C + 0x100 * i
def GHDSLIM_ADDR : F := ⟨0, 32⟩
/-- GHRSBASE (R315). -/
def GHRSBASE (i : Nat) : Nat := 0x40051050 + 0x100 * i
def GHRSBASE_ADDR : F := ⟨0, 32⟩
/-- GHRSLIM (R315). -/
def GHRSLIM (i : Nat) : Nat := 0x40051054 + 0x100 * i
def GHRSLIM_ADDR : F := ⟨0, 32⟩
/-- XDSBASE (R315). -/
def XDSBASE (i : Nat) : Nat := 0x40051058 + 0x100 * i
def XDSBASE_ADDR : F := ⟨0, 32⟩
/-- XDSLIM (R315). -/
def XDSLIM (i : Nat) : Nat := 0x4005105C + 0x100 * i
def XDSLIM_ADDR : F := ⟨0, 32⟩
/-- XRSBASE (R315). -/
def XRSBASE (i : Nat) : Nat := 0x40051060 + 0x100 * i
def XRSBASE_ADDR : F := ⟨0, 32⟩
/-- XRSLIM (R315). -/
def XRSLIM (i : Nat) : Nat := 0x40051064 + 0x100 * i
def XRSLIM_ADDR : F := ⟨0, 32⟩
/-- LBASEG (R322). -/
def LBASEG (i : Nat) : Nat := 0x40051070 + 0x100 * i
def LBASEG_PC : F := ⟨5, 27⟩
/-- LBASES (R322). -/
def LBASES (i : Nat) : Nat := 0x40051074 + 0x100 * i
def LBASES_PC : F := ⟨5, 27⟩
/-- BELLCFG (R322 R324). -/
def BELLCFG (i : Nat) : Nat := 0x40051078 + 0x100 * i
def BELLCFG_SAT : F := ⟨0, 1⟩
def BELLCFG_RND : F := ⟨1, 2⟩
def BELLCFG_LIMIT : F := ⟨8, 8⟩
/-- BELLSTAT (R321-R324). -/
def BELLSTAT (i : Nat) : Nat := 0x4005107C + 0x100 * i
def BELLSTAT_QDEPTH : F := ⟨0, 3⟩
def BELLSTAT_QPEAK : F := ⟨3, 3⟩
def BELLSTAT_ACT : F := ⟨6, 1⟩
def BELLSTAT_WHY : F := ⟨8, 2⟩
def BELLSTAT_SLOT : F := ⟨16, 5⟩
def BELLSTAT_TAG : F := ⟨24, 8⟩
/-- BELLCNT (R321 R324). -/
def BELLCNT (i : Nat) : Nat := 0x40051080 + 0x100 * i
def BELLCNT_LOST : F := ⟨0, 8⟩
def BELLCNT_ABORT : F := ⟨8, 8⟩
def BELLCNT_STARTED : F := ⟨16, 16⟩
/-- SAVE (R316 R319). -/
def SAVE (i j : Nat) : Nat := 0x40054000 + 0x400 * i + 4 * j
def SAVE_WORD : F := ⟨0, 32⟩
/-- DFBND (R299). -/
def DFBND (i j : Nat) : Nat := 0x400E1240 + 0x400 * i + 4 * j
def DFBND_ADDR : F := ⟨0, 32⟩
/-- ENCFG (R351 R380). -/
def ENCFG : Nat := 0x40060000
def ENCFG_EN : F := ⟨0, 1⟩
def ENCFG_ROLE : F := ⟨1, 1⟩
def ENCFG_ADDRMODE : F := ⟨2, 1⟩
def ENCFG_ADDR : F := ⟨3, 5⟩
def ENCFG_SEC : F := ⟨8, 1⟩
def ENCFG_KEYSEL : F := ⟨9, 2⟩
/-- ENSTAT (R379 R377 R356). -/
def ENSTAT : Nat := 0x40060004
def ENSTAT_STATE : F := ⟨0, 3⟩
def ENSTAT_MYADDR : F := ⟨3, 5⟩
def ENSTAT_NDEV : F := ⟨8, 6⟩
def ENSTAT_BROKEN : F := ⟨14, 1⟩
def ENSTAT_WRAPHERE : F := ⟨15, 1⟩
def ENSTAT_BRKADDR : F := ⟨16, 5⟩
def ENSTAT_SILENT : F := ⟨24, 8⟩
/-- ENCMD (R351). -/
def ENCMD : Nat := 0x40060008
def ENCMD_ROLL : F := ⟨0, 1⟩
def ENCMD_CLRCNT : F := ⟨1, 1⟩
/-- ROLLSTAT (R351 R352). -/
def ROLLSTAT : Nat := 0x4006000C
def ROLLSTAT_DEMOTED : F := ⟨0, 1⟩
def ROLLSTAT_COLL : F := ⟨1, 1⟩
def ROLLSTAT_MODEMIS : F := ⟨2, 1⟩
def ROLLSTAT_OVER : F := ⟨3, 1⟩
def ROLLSTAT_AUTHFAIL : F := ⟨4, 1⟩
def ROLLSTAT_DUR : F := ⟨16, 16⟩
/-- ENCYC (R354). -/
def ENCYC : Nat := 0x40060010
def ENCYC_CYCLE : F := ⟨0, 32⟩
/-- ENWSTAT (R380). -/
def ENWSTAT : Nat := 0x40060014
def ENWSTAT_CODE : F := ⟨0, 4⟩
/-- ENLINK (R349 R351). -/
def ENLINK (i : Nat) : Nat := 0x40060018 + 0x4 * i
def ENLINK_LANES : F := ⟨0, 8⟩
def ENLINK_UP : F := ⟨8, 1⟩
def ENLINK_DELAY : F := ⟨16, 16⟩
/-- ENERR (R355). -/
def ENERR : Nat := 0x40060020
def ENERR_HDR : F := ⟨0, 8⟩
def ENERR_STA : F := ⟨8, 8⟩
def ENERR_REC : F := ⟨16, 8⟩
def ENERR_MSG : F := ⟨24, 8⟩
/-- ENSEC (R375 R376). -/
def ENSEC : Nat := 0x40060024
def ENSEC_SEC : F := ⟨0, 1⟩
def ENSEC_AUTH : F := ⟨8, 8⟩
/-- ENPUB (R358). -/
def ENPUB (i : Nat) : Nat := 0x40060040 + 0x4 * i
def ENPUB_EN : F := ⟨0, 1⟩
def ENPUB_TB : F := ⟨1, 5⟩
def ENPUB_SLOT : F := ⟨8, 4⟩
def ENPUB_NOSLOT : F := ⟨12, 1⟩
/-- ENSUB (R360). -/
def ENSUB (i : Nat) : Nat := 0x40060080 + 0x8 * i
def ENSUB_EN : F := ⟨0, 1⟩
def ENSUB_OWNER : F := ⟨1, 5⟩
def ENSUB_INDEX : F := ⟨6, 2⟩
def ENSUB_NOPUB : F := ⟨8, 1⟩
def ENSUB_SLOT : F := ⟨9, 4⟩
/-- ENSUBLIM (R362). -/
def ENSUBLIM (i : Nat) : Nat := 0x40060084 + 0x8 * i
def ENSUBLIM_AGEMAX : F := ⟨0, 24⟩
/-- ENFCCFG (R368 R371 R372). -/
def ENFCCFG : Nat := 0x40060100
def ENFCCFG_LOOK : F := ⟨0, 8⟩
def ENFCCFG_FCTOL : F := ⟨8, 16⟩
def ENFCCFG_ARMLEAD : F := ⟨24, 8⟩
/-- ENFCCNT (R373). -/
def ENFCCNT : Nat := 0x40060104
def ENFCCNT_FORECAST : F := ⟨0, 8⟩
def ENFCCNT_RETRACT : F := ⟨8, 8⟩
def ENFCCNT_LATERET : F := ⟨16, 8⟩
def ENFCCNT_EXPIRED : F := ⟨24, 8⟩
/-- ENFCCNT2 (R366 R373). -/
def ENFCCNT2 : Nat := 0x40060108
def ENFCCNT2_SENT : F := ⟨0, 8⟩
def ENFCCNT2_MISS : F := ⟨8, 8⟩
def ENFCCNT2_FCDROP : F := ⟨16, 8⟩
/-- ENTXCTL (R363 R366). -/
def ENTXCTL : Nat := 0x40060140
def ENTXCTL_DEST : F := ⟨0, 5⟩
def ENTXCTL_BCAST : F := ⟨5, 1⟩
def ENTXCTL_CLASS : F := ⟨6, 2⟩
def ENTXCTL_TAG : F := ⟨8, 8⟩
/-- ENTXD (R363). -/
def ENTXD (i : Nat) : Nat := 0x40060144 + 0x4 * i
def ENTXD_DATA : F := ⟨0, 32⟩
/-- ENTXGO (R366). -/
def ENTXGO : Nat := 0x4006014C
def ENTXGO_GO : F := ⟨0, 1⟩
/-- ENTXRES (R366). -/
def ENTXRES : Nat := 0x40060150
def ENTXRES_CODE : F := ⟨0, 4⟩
/-- ENRXSTAT (R367). -/
def ENRXSTAT : Nat := 0x40060180
def ENRXSTAT_COUNT : F := ⟨0, 5⟩
/-- ENRX (R367). -/
def ENRX (i : Nat) : Nat := 0x40060184 + 0x4 * i
def ENRX_CHARS : F := ⟨0, 32⟩
/-- ENLASTMODE (R367). -/
def ENLASTMODE : Nat := 0x40060194
def ENLASTMODE_ADDR : F := ⟨0, 8⟩
def ENLASTMODE_MODE : F := ⟨8, 3⟩
/-- ENDROP (R366 R367). -/
def ENDROP : Nat := 0x400601A0
def ENDROP_SAFETY : F := ⟨0, 8⟩
def ENDROP_FORECAST : F := ⟨8, 8⟩
def ENDROP_DATA : F := ⟨16, 8⟩
def ENDROP_RX : F := ⟨24, 8⟩
/-- ENHOP (R351). -/
def ENHOP (i : Nat) : Nat := 0x40060200 + 0x4 * i
def ENHOP_D : F := ⟨0, 24⟩
/-- FCKEY (R371). -/
def FCKEY (i : Nat) : Nat := 0x40061000 + 0x20 * i
def FCKEY_EN : F := ⟨0, 1⟩
def FCKEY_OWNER : F := ⟨1, 5⟩
def FCKEY_TAG : F := ⟨8, 8⟩
def FCKEY_MODE : F := ⟨16, 1⟩
def FCKEY_WORLD : F := ⟨17, 1⟩
/-- FCPER (R371). -/
def FCPER (i j : Nat) : Nat := 0x40061004 + 0x20 * i + 4 * j
def FCPER_WORD : F := ⟨0, 32⟩
/-- FCSTAT (R371). -/
def FCSTAT (i : Nat) : Nat := 0x40061014 + 0x20 * i
def FCSTAT_STATE : F := ⟨0, 2⟩
def FCSTAT_SLOT : F := ⟨4, 5⟩
def FCSTAT_CODE : F := ⟨12, 4⟩
def FCSTAT_GEN : F := ⟨16, 8⟩
/-- HMCTL (R483). -/
def HMCTL : Nat := 0x400D0000
def HMCTL_HMLOCK : F := ⟨0, 1⟩
/-- HMSTAT (R470 R482). -/
def HMSTAT : Nat := 0x400D0004
def HMSTAT_XTAL : F := ⟨0, 1⟩
def HMSTAT_WAKEOUT : F := ⟨1, 1⟩
def HMSTAT_ZPEND : F := ⟨2, 1⟩
def HMSTAT_BUSY : F := ⟨3, 1⟩
def HMSTAT_HMLOCK : F := ⟨4, 1⟩
def HMSTAT_WSTAT : F := ⟨8, 4⟩
/-- HMALARM (R481). -/
def HMALARM : Nat := 0x400D0008
def HMALARM_RULES : F := ⟨0, 16⟩
def HMALARM_POR : F := ⟨16, 1⟩
def HMALARM_ZERO : F := ⟨17, 1⟩
/-- HMTIMEL (R468). -/
def HMTIMEL : Nat := 0x400D000C
def HMTIMEL_TIME : F := ⟨0, 32⟩
/-- HMTIMEH (R468). -/
def HMTIMEH : Nat := 0x400D0010
def HMTIMEH_TIME : F := ⟨0, 16⟩
/-- HMSYNCL (R468). -/
def HMSYNCL : Nat := 0x400D0014
def HMSYNCL_TIME : F := ⟨0, 32⟩
/-- HMSYNCH (R468). -/
def HMSYNCH : Nat := 0x400D0018
def HMSYNCH_TIME : F := ⟨0, 16⟩
/-- HMSYNCWL (R468). -/
def HMSYNCWL : Nat := 0x400D001C
def HMSYNCWL_TIME : F := ⟨0, 32⟩
/-- HMSYNCWH (R468). -/
def HMSYNCWH : Nat := 0x400D0020
def HMSYNCWH_TIME : F := ⟨0, 32⟩
/-- HWCFG (R471-R475). -/
def HWCFG (i : Nat) : Nat := 0x400D0040 + 0x20 * i
def HWCFG_EN : F := ⟨0, 1⟩
def HWCFG_TB : F := ⟨1, 4⟩
def HWCFG_ASSIGNED : F := ⟨5, 1⟩
def HWCFG_DIR : F := ⟨6, 1⟩
def HWCFG_RATE : F := ⟨8, 3⟩
def HWCFG_SETTLE : F := ⟨11, 5⟩
def HWCFG_MULT : F := ⟨16, 16⟩
/-- HWSTAT (R471-R474). -/
def HWSTAT (i : Nat) : Nat := 0x400D0044 + 0x20 * i
def HWSTAT_STATE : F := ⟨0, 2⟩
def HWSTAT_VALID : F := ⟨2, 1⟩
def HWSTAT_ILLEGAL : F := ⟨3, 1⟩
def HWSTAT_HWERR : F := ⟨8, 8⟩
/-- HWCNTL (R471). -/
def HWCNTL (i : Nat) : Nat := 0x400D0048 + 0x20 * i
def HWCNTL_COUNT : F := ⟨0, 32⟩
/-- HWCNTH (R471). -/
def HWCNTH (i : Nat) : Nat := 0x400D004C + 0x20 * i
def HWCNTH_COUNT : F := ⟨0, 8⟩
/-- HWNIGHTL (R473). -/
def HWNIGHTL (i : Nat) : Nat := 0x400D0050 + 0x20 * i
def HWNIGHTL_COUNT : F := ⟨0, 32⟩
/-- HWNIGHTH (R473). -/
def HWNIGHTH (i : Nat) : Nat := 0x400D0054 + 0x20 * i
def HWNIGHTH_COUNT : F := ⟨0, 8⟩
/-- HICFG (R476). -/
def HICFG (i : Nat) : Nat := 0x400D0100 + 0x4 * i
def HICFG_EN : F := ⟨0, 1⟩
def HICFG_INV : F := ⟨1, 1⟩
def HICFG_PULL : F := ⟨2, 2⟩
def HICFG_PER : F := ⟨4, 3⟩
def HICFG_MAJ : F := ⟨7, 1⟩
def HICFG_DEB : F := ⟨8, 4⟩
/-- HILVL (R476). -/
def HILVL : Nat := 0x400D0120
def HILVL_FILT : F := ⟨0, 8⟩
def HILVL_RAW : F := ⟨8, 8⟩
/-- HATEMP (R477). -/
def HATEMP : Nat := 0x400D0140
def HATEMP_FILT : F := ⟨0, 16⟩
def HATEMP_LAST : F := ⟨16, 16⟩
/-- HAVBAT (R477). -/
def HAVBAT : Nat := 0x400D0144
def HAVBAT_FILT : F := ⟨0, 16⟩
def HAVBAT_LAST : F := ⟨16, 16⟩
/-- HACFG (R477). -/
def HACFG : Nat := 0x400D0148
def HACFG_KT : F := ⟨0, 3⟩
def HACFG_KB : F := ⟨4, 3⟩
/-- HMRULEA (R478). -/
def HMRULEA (i : Nat) : Nat := 0x400D0200 + 0x8 * i
def HMRULEA_SRC : F := ⟨0, 4⟩
def HMRULEA_ARG : F := ⟨4, 4⟩
def HMRULEA_LVL : F := ⟨8, 1⟩
def HMRULEA_WHEN : F := ⟨9, 2⟩
def HMRULEA_FIRE : F := ⟨11, 1⟩
def HMRULEA_PERSIST : F := ⟨12, 8⟩
def HMRULEA_PSCALE : F := ⟨20, 1⟩
/-- HMRULEB (R478). -/
def HMRULEB (i : Nat) : Nat := 0x400D0204 + 0x8 * i
def HMRULEB_TH : F := ⟨0, 16⟩
def HMRULEB_LOG : F := ⟨16, 1⟩
def HMRULEB_WAKE : F := ⟨17, 1⟩
def HMRULEB_ALARM : F := ⟨18, 1⟩
def HMRULEB_LOCK : F := ⟨19, 1⟩
def HMRULEB_ZERO : F := ⟨20, 1⟩
/-- HMMET (R479). -/
def HMMET : Nat := 0x400D0280
def HMMET_MET : F := ⟨0, 16⟩
/-- HMLOGN (R484). -/
def HMLOGN : Nat := 0x400D0284
def HMLOGN_NEXT : F := ⟨0, 5⟩
def HMLOGN_SEEN : F := ⟨8, 5⟩
def HMLOGN_LOST : F := ⟨16, 8⟩
def HMLOGN_TOTAL : F := ⟨24, 8⟩
/-- HMLOGE (R484). -/
def HMLOGE (i j : Nat) : Nat := 0x400D0300 + 0x8 * i + 4 * j
def HMLOGE_WORD : F := ⟨0, 32⟩
/-- HMRET (R486). -/
def HMRET (i : Nat) : Nat := 0x400D0400 + 0x4 * i
def HMRET_WORD : F := ⟨0, 32⟩
/-- MEMECC0 (R332). -/
def MEMECC0 : Nat := 0x400E3000
def MEMECC0_TCMCE : F := ⟨0, 8⟩
def MEMECC0_SRAMCE : F := ⟨8, 8⟩
def MEMECC0_MRAMCE : F := ⟨16, 8⟩
def MEMECC0_SCRUBCE : F := ⟨24, 8⟩
/-- MEMECC1 (R332 R333). -/
def MEMECC1 : Nat := 0x400E3004
def MEMECC1_TCMUE : F := ⟨0, 8⟩
def MEMECC1_SRAMUE : F := ⟨8, 8⟩
def MEMECC1_MRAMUE : F := ⟨16, 8⟩
def MEMECC1_POISONW : F := ⟨24, 8⟩
/-- MEMUEADDR (R332). -/
def MEMUEADDR : Nat := 0x400E3008
def MEMUEADDR_ADDR : F := ⟨0, 32⟩
/-- MEMUEWHO (R332). -/
def MEMUEWHO : Nat := 0x400E300C
def MEMUEWHO_MEM : F := ⟨0, 2⟩
def MEMUEWHO_SCRUB : F := ⟨2, 1⟩
def MEMUEWHO_PHYS : F := ⟨4, 3⟩
def MEMUEWHO_SEEN : F := ⟨8, 1⟩
/-- MRSCRUB (R338). -/
def MRSCRUB : Nat := 0x400E3010
def MRSCRUB_PER : F := ⟨0, 16⟩
def MRSCRUB_PASSES : F := ⟨16, 16⟩
/-- MRSTAT (R342). -/
def MRSTAT : Nat := 0x400E3014
def MRSTAT_QUEUE : F := ⟨0, 4⟩
def MRSTAT_INCOMP : F := ⟨4, 4⟩
def MRSTAT_OPEN : F := ⟨8, 4⟩
/-- MRLCMD (R340). -/
def MRLCMD : Nat := 0x400E3018
def MRLCMD_CMD : F := ⟨0, 2⟩
def MRLCMD_LINE : F := ⟨6, 17⟩
/-- MRLRES (R340). -/
def MRLRES : Nat := 0x400E301C
def MRLRES_CODE : F := ⟨0, 4⟩
/-- MRLOPEN (R340 R342). -/
def MRLOPEN (i : Nat) : Nat := 0x400E3020 + 0x4 * i
def MRLOPEN_VALID : F := ⟨0, 1⟩
def MRLOPEN_DAWNF : F := ⟨1, 1⟩
def MRLOPEN_OWNER : F := ⟨2, 3⟩
def MRLOPEN_LINE : F := ⟨6, 17⟩
/-- SEALCFG (R343). -/
def SEALCFG (i : Nat) : Nat := 0x400E3040 + 0x8 * i
def SEALCFG_EN : F := ⟨0, 1⟩
def SEALCFG_LINE : F := ⟨6, 17⟩
/-- SEALLIM (R343). -/
def SEALLIM (i : Nat) : Nat := 0x400E3044 + 0x8 * i
def SEALLIM_LINE : F := ⟨6, 17⟩
/-- SEALSTAT (R343 R346). -/
def SEALSTAT : Nat := 0x400E3060
def SEALSTAT_NOKEY : F := ⟨0, 1⟩
def SEALSTAT_OVLP : F := ⟨4, 4⟩
/-- STCHGADDR (R434). -/
def STCHGADDR (i : Nat) : Nat := 0x400E0500 + 0x8 * i
def STCHGADDR_ADDR : F := ⟨0, 32⟩
/-- STCHGCNT (R434). -/
def STCHGCNT (i : Nat) : Nat := 0x400E0504 + 0x8 * i
def STCHGCNT_COUNT : F := ⟨0, 16⟩
/-- LBSTAT (R439). -/
def LBSTAT : Nat := 0x400E3800
def LBSTAT_NEXT : F := ⟨0, 9⟩
def LBSTAT_WAIT : F := ⟨16, 16⟩
/-- LBSEQ (R438). -/
def LBSEQ : Nat := 0x400E3804
def LBSEQ_SEQ : F := ⟨0, 32⟩
/-- LOGENT (R438 R442). -/
def LOGENT (i j : Nat) : Nat := 0x400E4000 + 0x20 * i + 4 * j
def LOGENT_DATA : F := ⟨0, 32⟩
/-- SNAPPAGE (R435 R436). -/
def SNAPPAGE (i : Nat) : Nat := 0x400E8000 + 0x4 * i
def SNAPPAGE_DATA : F := ⟨0, 32⟩
/-- SNAPCTL (R435 R436). -/
def SNAPCTL : Nat := 0x400E9000
def SNAPCTL_PER : F := ⟨0, 16⟩
def SNAPCTL_NOW : F := ⟨16, 1⟩
/-- KEYSTAT (R443 R444). -/
def KEYSTAT : Nat := 0x400C0000
def KEYSTAT_SLOTS : F := ⟨0, 14⟩
def KEYSTAT_SVCPEND : F := ⟨16, 1⟩
/-- KEYCMD (R454). -/
def KEYCMD : Nat := 0x400C0004
def KEYCMD_CMD : F := ⟨0, 2⟩
def KEYCMD_SLOT : F := ⟨8, 4⟩
def KEYCMD_KEY : F := ⟨16, 16⟩
/-- KEYRES (R454). -/
def KEYRES : Nat := 0x400C0008
def KEYRES_CODE : F := ⟨0, 4⟩
/-- KEYDATA (R454). -/
def KEYDATA (i : Nat) : Nat := 0x400C0010 + 0x4 * i
def KEYDATA_DATA : F := ⟨0, 32⟩
/-- KEYUSE (R454 R456). -/
def KEYUSE : Nat := 0x400C0030
def KEYUSE_USE : F := ⟨0, 8⟩
/-- IDSTAT (R448 R451 R453). -/
def IDSTAT : Nat := 0x400C0040
def IDSTAT_KEY : F := ⟨0, 2⟩
def IDSTAT_CERT : F := ⟨2, 2⟩
def IDSTAT_BOOTKEY : F := ⟨4, 1⟩
def IDSTAT_ENRDAWN : F := ⟨5, 1⟩
def IDSTAT_COUNT : F := ⟨8, 7⟩
def IDSTAT_SATURATED : F := ⟨15, 1⟩
/-- SERIALL (R447). -/
def SERIALL : Nat := 0x400C0044
def SERIALL_SERIAL : F := ⟨0, 32⟩
/-- SERIALH (R447). -/
def SERIALH : Nat := 0x400C0048
def SERIALH_SERIAL : F := ⟨0, 32⟩
/-- MEAS (R449 R450). -/
def MEAS (i : Nat) : Nat := 0x400C0050 + 0x4 * i
def MEAS_MEAS : F := ⟨0, 32⟩
/-- CERTLEN (R447). -/
def CERTLEN : Nat := 0x400C0070
def CERTLEN_LEN : F := ⟨0, 12⟩
/-- CERT (R447). -/
def CERT (i : Nat) : Nat := 0x400C0800 + 0x4 * i
def CERT_DER : F := ⟨0, 32⟩
/-- CRCTL (R456). -/
def CRCTL : Nat := 0x400C1000
def CRCTL_OP : F := ⟨0, 3⟩
def CRCTL_KEY : F := ⟨4, 2⟩
def CRCTL_LEN : F := ⟨8, 5⟩
def CRCTL_GO : F := ⟨31, 1⟩
/-- CRSTAT (R456). -/
def CRSTAT : Nat := 0x400C1004
def CRSTAT_BUSY : F := ⟨0, 1⟩
def CRSTAT_DONE : F := ⟨1, 1⟩
def CRSTAT_ERR : F := ⟨2, 1⟩
/-- CRIN (R456). -/
def CRIN (i : Nat) : Nat := 0x400C1010 + 0x4 * i
def CRIN_DATA : F := ⟨0, 32⟩
/-- CROUT (R456). -/
def CROUT (i : Nat) : Nat := 0x400C1020 + 0x4 * i
def CROUT_DATA : F := ⟨0, 32⟩
/-- RNGCFG (R462 R466). -/
def RNGCFG : Nat := 0x400B0000
def RNGCFG_POLICY : F := ⟨0, 1⟩
def RNGCFG_RAWEN : F := ⟨1, 1⟩
def RNGCFG_RAWSRC : F := ⟨2, 2⟩
/-- RNGSTAT (R460 R462 R466). -/
def RNGSTAT : Nat := 0x400B0004
def RNGSTAT_HEALTHY : F := ⟨0, 3⟩
def RNGSTAT_READY : F := ⟨3, 1⟩
def RNGSTAT_REDUCED : F := ⟨4, 1⟩
def RNGSTAT_STOPPED : F := ⟨5, 1⟩
def RNGSTAT_RAWON : F := ⟨6, 1⟩
def RNGSTAT_FAILED : F := ⟨8, 3⟩
/-- RNGERR (R460). -/
def RNGERR : Nat := 0x400B0008
def RNGERR_RCT : F := ⟨0, 8⟩
def RNGERR_APT : F := ⟨8, 8⟩
def RNGERR_WAIT : F := ⟨16, 16⟩
/-- RNGCUT (R460). -/
def RNGCUT : Nat := 0x400B000C
def RNGCUT_RCT : F := ⟨0, 8⟩
def RNGCUT_APT : F := ⟨16, 10⟩
/-- RNGRAW (R466). -/
def RNGRAW : Nat := 0x400B0010
def RNGRAW_WORD : F := ⟨0, 32⟩
/-- DRBGOUT (R465). -/
def DRBGOUT : Nat := 0x400B0100
def DRBGOUT_WORD : F := ⟨0, 32⟩
/-- DRBGST (R465). -/
def DRBGST : Nat := 0x400B0104
def DRBGST_AVAIL : F := ⟨0, 3⟩
def DRBGST_WAIT : F := ⟨3, 1⟩
def DRBGST_STOP : F := ⟨4, 1⟩
/-- DRBGINST (R463 R464). -/
def DRBGINST (i : Nat) : Nat := 0x400B0200 + 0x4 * i
def DRBGINST_STATE : F := ⟨0, 2⟩
def DRBGINST_RESEEDS : F := ⟨16, 16⟩
/-- FLTSUM (R502). -/
def FLTSUM : Nat := 0x400E0600
def FLTSUM_COMPARE : F := ⟨0, 1⟩
def FLTSUM_FINEDLY : F := ⟨1, 1⟩
def FLTSUM_PAIRDIV : F := ⟨2, 1⟩
def FLTSUM_THIRD : F := ⟨3, 1⟩
def FLTSUM_WDOG : F := ⟨4, 1⟩
def FLTSUM_UNCORR : F := ⟨5, 1⟩
def FLTSUM_RNGSTOP : F := ⟨6, 1⟩
def FLTSUM_HMALARM : F := ⟨7, 1⟩
def FLTSUM_BANKERR : F := ⟨8, 1⟩
def FLTSUM_ATTFAULT : F := ⟨9, 1⟩
def FLTSUM_CHFAULT : F := ⟨10, 1⟩
/-- FLTWARN (R503). -/
def FLTWARN : Nat := 0x400E0604
def FLTWARN_REDUCED : F := ⟨0, 1⟩
def FLTWARN_DAWNF : F := ⟨1, 1⟩
def FLTWARN_RING : F := ⟨2, 1⟩
def FLTWARN_HMRC : F := ⟨3, 1⟩
/-- FRWSTAT (R497 R501 R505 R510). -/
def FRWSTAT : Nat := 0x400E0608
def FRWSTAT_CODE : F := ⟨0, 4⟩
/-- GPOLICY (R505). -/
def GPOLICY : Nat := 0x400E0610
def GPOLICY_DIVACT : F := ⟨0, 1⟩
def GPOLICY_RSTMAX : F := ⟨1, 3⟩
def GPOLICY_G3ACT : F := ⟨4, 1⟩
def GPOLICY_C3ACT : F := ⟨5, 1⟩
def GPOLICY_WDACT : F := ⟨6, 1⟩
def GPOLICY_CLR : F := ⟨8, 8⟩
def GPOLICY_PLOCK : F := ⟨31, 1⟩
/-- LOCKSTAT (R506 R507). -/
def LOCKSTAT : Nat := 0x400E0614
def LOCKSTAT_CAUSE : F := ⟨0, 4⟩
def LOCKSTAT_PEND : F := ⟨4, 1⟩
def LOCKSTAT_CLROK : F := ⟨5, 1⟩
def LOCKSTAT_COUNT : F := ⟨16, 16⟩
/-- PAIRSTAT (R494 R495 R496). -/
def PAIRSTAT : Nat := 0x400E0620
def PAIRSTAT_DIV : F := ⟨0, 1⟩
def PAIRSTAT_TCMDIFF : F := ⟨1, 1⟩
def PAIRSTAT_RESTARTING : F := ⟨2, 1⟩
def PAIRSTAT_WHAT : F := ⟨4, 4⟩
def PAIRSTAT_RESTARTS : F := ⟨8, 3⟩
def PAIRSTAT_COUNT : F := ⟨16, 16⟩
/-- PAIRPC0 (R494). -/
def PAIRPC0 : Nat := 0x400E0624
def PAIRPC0_PC : F := ⟨0, 32⟩
/-- PAIRPC1 (R494). -/
def PAIRPC1 : Nat := 0x400E0628
def PAIRPC1_PC : F := ⟨0, 32⟩
/-- PAIRADDR (R494 R495). -/
def PAIRADDR : Nat := 0x400E062C
def PAIRADDR_ADDR : F := ⟨0, 32⟩
/-- SAFETEST (R510). -/
def SAFETEST : Nat := 0x400E0630
def SAFETEST_GO : F := ⟨0, 1⟩
def SAFETEST_COPY : F := ⟨1, 1⟩
def SAFETEST_BUSY : F := ⟨2, 1⟩
def SAFETEST_RESX : F := ⟨3, 1⟩
/-- SAFERES (R510). -/
def SAFERES (i : Nat) : Nat := 0x400E0634 + 0x4 * i
def SAFERES_RES : F := ⟨0, 32⟩
/-- PAIRINJ (R497). -/
def PAIRINJ : Nat := 0x400E063C
def PAIRINJ_GO : F := ⟨0, 1⟩
def PAIRINJ_WHAT : F := ⟨4, 4⟩
/-- WDCFG (R499 R501). -/
def WDCFG (i : Nat) : Nat := 0x400E0700 + 0x10 * i
def WDCFG_MAX : F := ⟨0, 16⟩
def WDCFG_MIN : F := ⟨16, 16⟩
/-- WDCTL (R501). -/
def WDCTL (i : Nat) : Nat := 0x400E0704 + 0x10 * i
def WDCTL_EN : F := ⟨0, 1⟩
def WDCTL_LOCK : F := ⟨1, 1⟩
def WDCTL_GRACE : F := ⟨8, 8⟩
/-- WDKICK (R499). -/
def WDKICK (i : Nat) : Nat := 0x400E0708 + 0x10 * i
def WDKICK_KEY : F := ⟨0, 16⟩
/-- WDSTAT (R499 R500). -/
def WDSTAT (i : Nat) : Nat := 0x400E070C + 0x10 * i
def WDSTAT_COUNTING : F := ⟨0, 1⟩
def WDSTAT_EXP : F := ⟨1, 1⟩
def WDSTAT_BADKICK : F := ⟨2, 1⟩
def WDSTAT_S2PEND : F := ⟨3, 1⟩
def WDSTAT_NEXTKEY : F := ⟨16, 16⟩
/-- SUPSTAT (R516). -/
def SUPSTAT : Nat := 0x400E020C
def SUPSTAT_VDDDIP : F := ⟨0, 8⟩
def SUPSTAT_VDDMDIP : F := ⟨8, 8⟩
/-- RCCODE (R382 R384 R390). -/
def RCCODE (i j : Nat) : Nat := 0x40070000 + 0x400 * i + 4 * j
def RCCODE_WORD : F := ⟨0, 24⟩
/-- RCCFG (R382-R390). -/
def RCCFG (i : Nat) : Nat := 0x40070100 + 0x400 * i
def RCCFG_SAFE : F := ⟨0, 8⟩
def RCCFG_SAFEZ : F := ⟨8, 8⟩
def RCCFG_PAIR : F := ⟨16, 1⟩
def RCCFG_HOLDRUN : F := ⟨17, 1⟩
def RCCFG_PREPLIVE : F := ⟨18, 1⟩
def RCCFG_FILT : F := ⟨19, 5⟩
def RCCFG_TOVEC : F := ⟨24, 6⟩
def RCCFG_TOUNIT : F := ⟨30, 1⟩
/-- RCCTL (R386 R387). -/
def RCCTL (i : Nat) : Nat := 0x40070104 + 0x400 * i
def RCCTL_GO : F := ⟨0, 1⟩
def RCCTL_STOP : F := ⟨1, 1⟩
def RCCTL_FLUSHTX : F := ⟨2, 1⟩
def RCCTL_FLUSHRX : F := ⟨3, 1⟩
def RCCTL_START : F := ⟨8, 6⟩
/-- RCSTAT (R384-R388). -/
def RCSTAT (i : Nat) : Nat := 0x40070108 + 0x400 * i
def RCSTAT_STATE : F := ⟨0, 3⟩
def RCSTAT_PC : F := ⟨8, 6⟩
def RCSTAT_CODE : F := ⟨16, 8⟩
def RCSTAT_WHY : F := ⟨24, 3⟩
def RCSTAT_WSTAT : F := ⟨28, 4⟩
/-- RCD (R382). -/
def RCD (i : Nat) : Nat := 0x4007010C + 0x400 * i
def RCD_D : F := ⟨0, 32⟩
/-- RCLVL (R383 R389). -/
def RCLVL (i : Nat) : Nat := 0x40070110 + 0x400 * i
def RCLVL_LVL : F := ⟨0, 16⟩
def RCLVL_OE : F := ⟨16, 16⟩
/-- RCTX (R387). -/
def RCTX (i : Nat) : Nat := 0x40070114 + 0x400 * i
def RCTX_WORD : F := ⟨0, 32⟩
/-- RCRX (R387). -/
def RCRX (i : Nat) : Nat := 0x40070118 + 0x400 * i
def RCRX_WORD : F := ⟨0, 32⟩
/-- RCFIFO (R387). -/
def RCFIFO (i : Nat) : Nat := 0x4007011C + 0x400 * i
def RCFIFO_TX : F := ⟨0, 5⟩
def RCFIFO_RX : F := ⟨8, 5⟩
/-- RCCTL0 (R382 R384). -/
def RCCTL0 (i : Nat) : Nat := 0x40070120 + 0x400 * i
def RCCTL0_COUNT : F := ⟨0, 32⟩
/-- RCCTH0 (R382 R384). -/
def RCCTH0 (i : Nat) : Nat := 0x40070124 + 0x400 * i
def RCCTH0_COUNT : F := ⟨0, 8⟩
/-- RCCTL1 (R382 R384). -/
def RCCTL1 (i : Nat) : Nat := 0x40070128 + 0x400 * i
def RCCTL1_COUNT : F := ⟨0, 32⟩
/-- RCCTH1 (R382 R384). -/
def RCCTH1 (i : Nat) : Nat := 0x4007012C + 0x400 * i
def RCCTH1_COUNT : F := ⟨0, 8⟩
/-- RCTOPC (R385). -/
def RCTOPC (i : Nat) : Nat := 0x40070130 + 0x400 * i
def RCTOPC_TOPC : F := ⟨0, 6⟩
/-- RCPIN (R389). -/
def RCPIN (i : Nat) : Nat := 0x40070134 + 0x400 * i
def RCPIN_PINLOST : F := ⟨0, 16⟩
/-- UCFG (R391-R397). -/
def UCFG (i : Nat) : Nat := 0x40080000 + 0x100 * i
def UCFG_DBITS : F := ⟨0, 4⟩
def UCFG_PAR : F := ⟨4, 3⟩
def UCFG_STOP : F := ⟨7, 2⟩
def UCFG_RTSCTS : F := ⟨9, 1⟩
def UCFG_XONXOFF : F := ⟨10, 1⟩
def UCFG_RS485 : F := ⟨11, 1⟩
def UCFG_ECHOSUP : F := ⟨12, 1⟩
def UCFG_LOOP : F := ⟨13, 1⟩
/-- UBAUD (R391). -/
def UBAUD (i : Nat) : Nat := 0x40080004 + 0x100 * i
def UBAUD_F : F := ⟨0, 6⟩
def UBAUD_I : F := ⟨6, 18⟩
/-- UCTL (R393 R397). -/
def UCTL (i : Nat) : Nat := 0x40080008 + 0x100 * i
def UCTL_EN : F := ⟨0, 1⟩
def UCTL_TXBRK : F := ⟨1, 1⟩
def UCTL_FLUSHRX : F := ⟨2, 1⟩
def UCTL_FLUSHTX : F := ⟨3, 1⟩
/-- UTX (R393). -/
def UTX (i : Nat) : Nat := 0x4008000C + 0x100 * i
def UTX_CHAR : F := ⟨0, 9⟩
/-- URX (R392 R393). -/
def URX (i : Nat) : Nat := 0x40080010 + 0x100 * i
def URX_CHAR : F := ⟨0, 9⟩
def URX_PERR : F := ⟨9, 1⟩
def URX_FERR : F := ⟨10, 1⟩
def URX_BRK : F := ⟨11, 1⟩
def URX_VALID : F := ⟨15, 1⟩
/-- USTAT (R393-R397). -/
def USTAT (i : Nat) : Nat := 0x40080014 + 0x100 * i
def USTAT_TX : F := ⟨0, 6⟩
def USTAT_RX : F := ⟨8, 6⟩
def USTAT_TXBUSY : F := ⟨16, 1⟩
def USTAT_CTS : F := ⟨17, 1⟩
def USTAT_HELD : F := ⟨18, 1⟩
def USTAT_XOFFS : F := ⟨19, 1⟩
def USTAT_WSTAT : F := ⟨20, 4⟩
/-- UTRIG (R397). -/
def UTRIG (i : Nat) : Nat := 0x40080018 + 0x100 * i
def UTRIG_RXTRIG : F := ⟨0, 6⟩
def UTRIG_TXTRIG : F := ⟨8, 6⟩
def UTRIG_IDLE : F := ⟨16, 8⟩
/-- UFLOW (R394 R395). -/
def UFLOW (i : Nat) : Nat := 0x4008001C + 0x100 * i
def UFLOW_HI : F := ⟨0, 6⟩
def UFLOW_LO : F := ⟨8, 6⟩
def UFLOW_XON : F := ⟨16, 8⟩
def UFLOW_XOFF : F := ⟨24, 8⟩
/-- UERR (R392 R393). -/
def UERR (i : Nat) : Nat := 0x40080020 + 0x100 * i
def UERR_OVR : F := ⟨0, 8⟩
def UERR_FERR : F := ⟨8, 8⟩
def UERR_PERR : F := ⟨16, 8⟩
def UERR_BRK : F := ⟨24, 8⟩
/-- ACFG (R398 R403). -/
def ACFG : Nat := 0x40090000
def ACFG_NIN : F := ⟨0, 11⟩
def ACFG_NOUT : F := ⟨16, 11⟩
def ACFG_OEOFF : F := ⟨27, 1⟩
def ACFG_CHKEN : F := ⟨28, 1⟩
/-- ATIME (R398 R403). -/
def ATIME : Nat := 0x40090004
def ATIME_CYCLE : F := ⟨0, 14⟩
def ATIME_SCKDIV : F := ⟨16, 8⟩
def ATIME_LDW : F := ⟨24, 8⟩
/-- ACTL (R400). -/
def ACTL : Nat := 0x40090008
def ACTL_EN : F := ⟨0, 1⟩
def ACTL_CLRFLT : F := ⟨1, 1⟩
/-- ASTAT (R400 R403). -/
def ASTAT : Nat := 0x4009000C
def ASTAT_STATE : F := ⟨0, 2⟩
def ASTAT_STALE : F := ⟨2, 1⟩
def ASTAT_FAILRUN : F := ⟨8, 4⟩
def ASTAT_AWSTAT : F := ⟨16, 4⟩
/-- ACHK (R399 R400). -/
def ACHK : Nat := 0x40090010
def ACHK_INTLIM : F := ⟨0, 4⟩
def ACHK_LAST : F := ⟨16, 16⟩
/-- ACYCNT (R401). -/
def ACYCNT : Nat := 0x40090014
def ACYCNT_COUNT : F := ⟨0, 32⟩
/-- AERR (R400). -/
def AERR : Nat := 0x40090018
def AERR_FAIL : F := ⟨0, 16⟩
/-- AIN (R401). -/
def AIN (i : Nat) : Nat := 0x40090100 + 0x4 * i
def AIN_BITS : F := ⟨0, 32⟩
/-- AOUT (R402 R403). -/
def AOUT (i : Nat) : Nat := 0x40090180 + 0x4 * i
def AOUT_BITS : F := ⟨0, 32⟩
/-- AOSET (R402 R403). -/
def AOSET (i : Nat) : Nat := 0x40090200 + 0x4 * i
def AOSET_MASK : F := ⟨0, 32⟩
/-- AOCLR (R402 R403). -/
def AOCLR (i : Nat) : Nat := 0x40090280 + 0x4 * i
def AOCLR_MASK : F := ⟨0, 32⟩
/-- ASAFE (R402 R403). -/
def ASAFE (i : Nat) : Nat := 0x40090300 + 0x4 * i
def ASAFE_BITS : F := ⟨0, 32⟩
/-- AHLIVE (R402 R403). -/
def AHLIVE (i : Nat) : Nat := 0x40090380 + 0x4 * i
def AHLIVE_BITS : F := ⟨0, 32⟩
/-- AGUARD (R403). -/
def AGUARD (i : Nat) : Nat := 0x40090400 + 0x4 * i
def AGUARD_BITS : F := ⟨0, 32⟩
/-- AIEN (R401). -/
def AIEN (i : Nat) : Nat := 0x40090480 + 0x4 * i
def AIEN_BITS : F := ⟨0, 32⟩
/-- ACHG (R401). -/
def ACHG (i : Nat) : Nat := 0x40090500 + 0x4 * i
def ACHG_BITS : F := ⟨0, 32⟩
/-- AREJ (R403). -/
def AREJ (i : Nat) : Nat := 0x40090580 + 0x4 * i
def AREJ_BITS : F := ⟨0, 32⟩
/-- ADEB (R401 R403). -/
def ADEB (i : Nat) : Nat := 0x40090800 + 0x4 * i
def ADEB_DEB : F := ⟨0, 32⟩
/-- ETCFG (R404 R408). -/
def ETCFG (i : Nat) : Nat := 0x400A0000 + 0x1000 * i
def ETCFG_TXEN : F := ⟨0, 1⟩
def ETCFG_RXEN : F := ⟨1, 1⟩
def ETCFG_SPEED100 : F := ⟨2, 1⟩
def ETCFG_FDX : F := ⟨3, 1⟩
def ETCFG_PROMISC : F := ⟨4, 1⟩
def ETCFG_PAUSE : F := ⟨5, 1⟩
def ETCFG_REFEXT : F := ⟨6, 1⟩
def ETCFG_KEEPBAD : F := ⟨7, 1⟩
/-- ETMACL (R404). -/
def ETMACL (i : Nat) : Nat := 0x400A0004 + 0x1000 * i
def ETMACL_ADDR : F := ⟨0, 32⟩
/-- ETMACH (R404). -/
def ETMACH (i : Nat) : Nat := 0x400A0008 + 0x1000 * i
def ETMACH_ADDR : F := ⟨0, 16⟩
/-- ETHASH (R404). -/
def ETHASH (i j : Nat) : Nat := 0x400A000C + 0x1000 * i + 4 * j
def ETHASH_BINS : F := ⟨0, 32⟩
/-- ETTXBASE (R405). -/
def ETTXBASE (i : Nat) : Nat := 0x400A0014 + 0x1000 * i
def ETTXBASE_BASE : F := ⟨4, 28⟩
/-- ETTXCTL (R405). -/
def ETTXCTL (i : Nat) : Nat := 0x400A0018 + 0x1000 * i
def ETTXCTL_LOG2N : F := ⟨0, 4⟩
/-- ETTXTAIL (R405). -/
def ETTXTAIL (i : Nat) : Nat := 0x400A001C + 0x1000 * i
def ETTXTAIL_INDEX : F := ⟨0, 8⟩
/-- ETTXHEAD (R405). -/
def ETTXHEAD (i : Nat) : Nat := 0x400A0020 + 0x1000 * i
def ETTXHEAD_INDEX : F := ⟨0, 8⟩
/-- ETRXBASE (R405). -/
def ETRXBASE (i : Nat) : Nat := 0x400A0024 + 0x1000 * i
def ETRXBASE_BASE : F := ⟨4, 28⟩
/-- ETRXCTL (R405). -/
def ETRXCTL (i : Nat) : Nat := 0x400A0028 + 0x1000 * i
def ETRXCTL_LOG2N : F := ⟨0, 4⟩
/-- ETRXTAIL (R405). -/
def ETRXTAIL (i : Nat) : Nat := 0x400A002C + 0x1000 * i
def ETRXTAIL_INDEX : F := ⟨0, 8⟩
/-- ETRXHEAD (R405). -/
def ETRXHEAD (i : Nat) : Nat := 0x400A0030 + 0x1000 * i
def ETRXHEAD_INDEX : F := ⟨0, 8⟩
/-- ETMDIO (R404). -/
def ETMDIO (i : Nat) : Nat := 0x400A0034 + 0x1000 * i
def ETMDIO_PHY : F := ⟨0, 5⟩
def ETMDIO_REG : F := ⟨5, 5⟩
def ETMDIO_WRITE : F := ⟨10, 1⟩
def ETMDIO_GO : F := ⟨11, 1⟩
def ETMDIO_BUSY : F := ⟨12, 1⟩
def ETMDIO_DATA : F := ⟨16, 16⟩
/-- ETCNT (R405). -/
def ETCNT (i : Nat) : Nat := 0x400A0038 + 0x1000 * i
def ETCNT_DROP : F := ⟨0, 16⟩
def ETCNT_FCS : F := ⟨16, 8⟩
def ETCNT_COLL : F := ⟨24, 8⟩
/-- PTPCFG (R406 R407). -/
def PTPCFG : Nat := 0x400A0040
def PTPCFG_CORE : F := ⟨0, 3⟩
def PTPCFG_WORLD : F := ⟨3, 1⟩
def PTPCFG_TXLAT : F := ⟨8, 8⟩
def PTPCFG_RXLAT : F := ⟨16, 8⟩
/-- PTPADJ (R407). -/
def PTPADJ : Nat := 0x400A0044
def PTPADJ_ADJ : F := ⟨0, 32⟩
/-- PTPSTEPL (R407). -/
def PTPSTEPL : Nat := 0x400A0048
def PTPSTEPL_STEP : F := ⟨0, 32⟩
/-- PTPSTEPH (R407). -/
def PTPSTEPH : Nat := 0x400A004C
def PTPSTEPH_STEP : F := ⟨0, 32⟩
end R

/-- Window 0x4001, part 1. -/
def rows4001a : List Row := [
  ⟨"PCCTL", 0x40018000, 0x80, 16, 1, 0, .file, [(R.PCCTL_MODE, .rw, .l 0), (R.PCCTL_DIR, .rw, .l 0),
    (R.PCCTL_DECODE, .rw, .l 0), (R.PCCTL_ZEN, .rw, .l 0), (R.PCCTL_SE, .rw, .l 0), (R.PCCTL_FILT, .rw, .l 0),
    (R.PCCTL_WBFILT, .rw, .l 64), (R.PCCTL_CLR, .wo, .v 0)]⟩,
  ⟨"PCSTAT", 0x40018004, 0x80, 16, 1, 0, .view, [(R.PCSTAT_STATE, .ro, .v 0), (R.PCSTAT_CAUSE, .ro, .v 0),
    (R.PCSTAT_LVL, .ro, .v 0), (R.PCSTAT_FAST, .w1c, .v 0), (R.PCSTAT_WARN, .ro, .v 0),
    (R.PCSTAT_ZMISS, .w1c, .v 0), (R.PCSTAT_WSTAT, .ro, .v 0)]⟩,
  ⟨"PCCOUNTL", 0x40018008, 0x80, 16, 1, 0, .view, [(R.PCCOUNTL_COUNT, .ro, .v 0)]⟩,
  ⟨"PCCOUNTH", 0x4001800C, 0x80, 16, 1, 0, .view, [(R.PCCOUNTH_COUNT, .ro, .v 0), (R.PCCOUNTH_FRAC, .ro, .v 0)]⟩,
  ⟨"PCEDGEL", 0x40018010, 0x80, 16, 1, 0, .view, [(R.PCEDGEL_TIME, .ro, .v 0)]⟩,
  ⟨"PCEDGEH", 0x40018014, 0x80, 16, 1, 0, .view, [(R.PCEDGEH_TIME, .ro, .v 0)]⟩,
  ⟨"PCERR", 0x40018018, 0x80, 16, 1, 0, .file, [(R.PCERR_BADFRM, .rc, .v 0), (R.PCERR_REQSKIP, .rc, .v 0),
    (R.PCERR_ZMISSCNT, .rc, .v 0), (R.PCERR_WBGLITCH, .rc, .v 0)]⟩,
  ⟨"PCREQ", 0x4001801C, 0x80, 16, 1, 0, .file, [(R.PCREQ_REQPER, .rw, .l 0)]⟩,
  ⟨"PCIDXCTL", 0x40018020, 0x80, 16, 1, 0, .file, [(R.PCIDXCTL_ZQUAL, .rw, .l 0), (R.PCIDXCTL_ZINV, .rw, .l 0),
    (R.PCIDXCTL_ZMODE, .rw, .l 0), (R.PCIDXCTL_ARM, .w1s, .v 0), (R.PCIDXCTL_ZARMED, .ro, .v 0),
    (R.PCIDXCTL_ZCNT, .ro, .v 0)]⟩,
  ⟨"PCIDXL", 0x40018024, 0x80, 16, 1, 0, .view, [(R.PCIDXL_COUNT, .ro, .v 0)]⟩,
  ⟨"PCIDXH", 0x40018028, 0x80, 16, 1, 0, .view, [(R.PCIDXH_COUNT, .ro, .v 0), (R.PCIDXH_TIME, .ro, .v 0)]⟩,
  ⟨"PCZDIST", 0x4001802C, 0x80, 16, 1, 0, .file, [(R.PCZDIST_DIST, .rw, .l 0)]⟩,
  ⟨"PCABS", 0x40018030, 0x80, 16, 1, 0, .file, [(R.PCABS_CLKDIV, .rw, .l 9), (R.PCABS_PAR, .rw, .l 0),
    (R.PCABS_LEAD, .rw, .l 0), (R.PCABS_GRAY, .rw, .l 0), (R.PCABS_POSBITS, .rw, .l 0), (R.PCABS_TRAIL, .rw, .l 0)]⟩,
  ⟨"PCABS2", 0x40018034, 0x80, 16, 1, 0, .file, [(R.PCABS2_MTBITS, .rw, .l 0), (R.PCABS2_BADLIM, .rw, .l 3),
    (R.PCABS2_TMO, .rw, .l 0), (R.PCABS2_SAMPDLY, .rw, .l 0)]⟩,
  ⟨"PCCRC", 0x40018038, 0x80, 16, 1, 0, .file, [(R.PCCRC_CRCPOLY, .rw, .l 3), (R.PCCRC_CRCW, .rw, .l 6),
    (R.PCCRC_LINEDLY, .rw, .l 0)]⟩,
  ⟨"PCRAWL", 0x4001803C, 0x80, 16, 1, 0, .view, [(R.PCRAWL_DATA, .ro, .v 0)]⟩,
  ⟨"PCRAWH", 0x40018040, 0x80, 16, 1, 0, .view, [(R.PCRAWH_DATA, .ro, .v 0), (R.PCRAWH_TRAIL, .ro, .v 0),
    (R.PCRAWH_NE, .ro, .v 0), (R.PCRAWH_NW, .ro, .v 0), (R.PCRAWH_CDS, .ro, .v 0), (R.PCRAWH_FRMSTAT, .ro, .v 0)]⟩,
  ⟨"PCJUMP", 0x40018044, 0x80, 16, 1, 0, .file, [(R.PCJUMP_LIMIT, .rw, .l 0)]⟩,
  ⟨"PCSC", 0x40018048, 0x80, 16, 1, 0, .file, [(R.PCSC_INTERP, .rw, .l 0), (R.PCSC_AMIN, .rw, .l 63),
    (R.PCSC_AMAX, .rw, .l 163)]⟩,
  ⟨"PCSCOFS", 0x4001804C, 0x80, 16, 1, 0, .file, [(R.PCSCOFS_OFFS, .rw, .l 0), (R.PCSCOFS_OFFC, .rw, .l 0)]⟩,
  ⟨"PCSCGP", 0x40018050, 0x80, 16, 1, 0, .file, [(R.PCSCGP_GAIN, .rw, .l 0), (R.PCSCGP_PHASE, .rw, .l 0)]⟩,
  ⟨"PCSCAMP", 0x40018054, 0x80, 16, 1, 0, .file, [(R.PCSCAMP_AMP, .ro, .v 0), (R.PCSCAMP_AMPLOW, .rc, .v 0),
    (R.PCSCAMP_AMPHIGH, .rc, .v 0)]⟩,
  ⟨"MZCTL", 0x40018800, 0x0, 1, 1, 0, .file, [(R.MZCTL_EN, .rw, .l 0), (R.MZCTL_HYST, .rw, .l 0),
    (R.MZCTL_MZFILT, .rw, .l 0), (R.MZCTL_MZBLANK, .rw, .l 0)]⟩,
  ⟨"MZSTAT", 0x40018804, 0x0, 1, 1, 0, .file, [(R.MZSTAT_STATE, .ro, .v 0), (R.MZSTAT_OUTRANGE, .w1c, .v 0)]⟩]

/-- Window 0x4001, part 2. -/
def rows4001b : List Row := [
  ⟨"MZSTAMPL", 0x40018808, 0x0, 1, 1, 0, .view, [(R.MZSTAMPL_TIME, .ro, .v 0)]⟩,
  ⟨"MZSTAMPH", 0x4001880C, 0x0, 1, 1, 0, .view, [(R.MZSTAMPH_TIME, .ro, .v 0)]⟩,
  ⟨"MZPER", 0x40018810, 0x0, 1, 1, 0, .file, [(R.MZPER_PSCLKS, .ro, .v 0)]⟩,
  ⟨"MZSKEW", 0x40018814, 0x0, 1, 1, 0, .file, [(R.MZSKEW_SKEW, .rw, .l 0)]⟩,
  ⟨"MZWIN", 0x40018818, 0x0, 1, 1, 0, .file, [(R.MZWIN_PMIN, .rw, .l 15385), (R.MZWIN_PMAX, .rw, .l 22222)]⟩,
  ⟨"MZLOSS", 0x4001881C, 0x0, 1, 1, 0, .file, [(R.MZLOSS_LOSS, .rw, .l 0)]⟩,
  ⟨"TBCFG", 0x40010000, 0x40, 32, 1, 0, .file, [(R.TBCFG_KIND, .rw, .l 0), (R.TBCFG_SRC, .ro, .l 0),
    (R.TBCFG_INTERP, .rw, .l 0), (R.TBCFG_VAVG, .rw, .l 0), (R.TBCFG_MTSIGN, .rw, .l 0),
    (R.TBCFG_STILLT, .rw, .l 50), (R.TBCFG_EVSTILL, .rw, .l 0), (R.TBCFG_EVDIR, .rw, .l 0),
    (R.TBCFG_EVWRAP, .rw, .l 0)]⟩,
  ⟨"TBSTAT", 0x40010004, 0x40, 32, 1, 0, .view, [(R.TBSTAT_STATE, .ro, .v 0), (R.TBSTAT_REF, .ro, .v 0),
    (R.TBSTAT_DIR, .ro, .v 0), (R.TBSTAT_STILL, .ro, .v 0), (R.TBSTAT_STALE, .ro, .v 0),
    (R.TBSTAT_WRAP, .w1c, .v 0), (R.TBSTAT_CAUSE, .ro, .v 0), (R.TBSTAT_WSTAT, .ro, .v 0),
    (R.TBSTAT_DISCGEN, .ro, .v 0)]⟩,
  ⟨"TBPOSL", 0x40010008, 0x40, 32, 1, 0, .view, [(R.TBPOSL_FRAC, .ro, .v 0), (R.TBPOSL_COUNT, .ro, .v 0)]⟩,
  ⟨"TBPOSH", 0x4001000C, 0x40, 32, 1, 0, .view, [(R.TBPOSH_COUNT, .ro, .v 0), (R.TBPOSH_REF, .ro, .v 0),
    (R.TBPOSH_STATE, .ro, .v 0), (R.TBPOSH_DIR, .ro, .v 0), (R.TBPOSH_STILL, .ro, .v 0),
    (R.TBPOSH_DISCGEN, .ro, .v 0)]⟩,
  ⟨"TBVEL", 0x40010010, 0x40, 32, 1, 0, .view, [(R.TBVEL_VEL, .ro, .v 0)]⟩,
  ⟨"TBSETL", 0x40010014, 0x40, 32, 1, 0, .file, [(R.TBSETL_VALUE, .rw, .v 0)]⟩,
  ⟨"TBSETH", 0x40010018, 0x40, 32, 1, 0, .file, [(R.TBSETH_VALUE, .rw, .v 0)]⟩,
  ⟨"TBCMD", 0x4001001C, 0x40, 32, 1, 0, .file, [(R.TBCMD_CMD, .wo, .v 0), (R.TBCMD_NEWSRC, .wo, .v 0)]⟩,
  ⟨"TBMOD", 0x40010020, 0x40, 32, 1, 0, .file, [(R.TBMOD_MOD, .rw, .l 0)]⟩,
  ⟨"TBREV", 0x40010024, 0x40, 32, 1, 0, .view, [(R.TBREV_REV, .ro, .v 0)]⟩,
  ⟨"TBGNUM", 0x40010028, 0x40, 32, 1, 0, .file, [(R.TBGNUM_NUM, .rw, .l 0)]⟩,
  ⟨"TBGDEN", 0x4001002C, 0x40, 32, 1, 0, .file, [(R.TBGDEN_DEN, .rw, .l 1)]⟩,
  ⟨"TBAGE", 0x40010030, 0x40, 32, 1, 0, .view, [(R.TBAGE_AGE, .ro, .v 0)]⟩,
  ⟨"TBSYNVEL", 0x40010034, 0x40, 32, 1, 0, .file, [(R.TBSYNVEL_VEL, .rw, .v 0)]⟩,
  ⟨"TBCORR", 0x40010038, 0x40, 32, 1, 0, .file, [(R.TBCORR_BACK, .rc, .v 0)]⟩,
  ⟨"WALLL", 0x40010800, 0x0, 1, 1, 0, .view, [(R.WALLL_FRAC, .ro, .v 0), (R.WALLL_TIME, .ro, .v 0)]⟩,
  ⟨"WALLH", 0x40010804, 0x0, 1, 1, 0, .view, [(R.WALLH_TIME, .ro, .v 0)]⟩,
  ⟨"WALLTOP", 0x40010808, 0x0, 1, 1, 0, .view, [(R.WALLTOP_TIME, .ro, .v 0)]⟩]

/-- Window 0x4001, part 3. -/
def rows4001c : List Row := [
  ⟨"WADJ", 0x4001080C, 0x0, 1, 1, 0, .view, [(R.WADJ_ADJ, .rw, .v 0)]⟩,
  ⟨"WSTEPL", 0x40010810, 0x0, 1, 1, 0, .file, [(R.WSTEPL_STEP, .rw, .v 0)]⟩,
  ⟨"WSTEPH", 0x40010814, 0x0, 1, 1, 0, .file, [(R.WSTEPH_STEP, .wo, .v 0)]⟩,
  ⟨"WALLCTL", 0x40010818, 0x0, 1, 1, 0, .file, [(R.WALLCTL_WRATE, .rw, .v 1), (R.WALLCTL_OWNER, .rw, .l 0),
    (R.WALLCTL_WSTAT, .ro, .v 0)]⟩,
  ⟨"CAPCMD", 0x40010900, 0x0, 1, 1, 0, .file, [(R.CAPCMD_GO, .wo, .v 0)]⟩,
  ⟨"CAPSTAT", 0x40010904, 0x0, 1, 1, 0, .file, [(R.CAPSTAT_FULL, .ro, .v 0), (R.CAPSTAT_LAST, .ro, .v 0),
    (R.CAPSTAT_LASTREF, .ro, .v 0), (R.CAPSTAT_CAPLOST, .rc, .v 0)]⟩,
  ⟨"CAPFREE", 0x40010908, 0x0, 1, 1, 0, .file, [(R.CAPFREE_FREE, .w1c, .v 0)]⟩,
  ⟨"CAPSEQ", 0x40014000, 0x200, 4, 1, 0, .view, [(R.CAPSEQ_SEQ, .ro, .v 0)]⟩,
  ⟨"CAPSRC", 0x40014004, 0x200, 4, 1, 0, .view, [(R.CAPSRC_SLOTS, .ro, .v 0)]⟩,
  ⟨"CAPWALLL", 0x40014008, 0x200, 4, 1, 0, .view, [(R.CAPWALLL_TIME, .ro, .v 0)]⟩,
  ⟨"CAPWALLH", 0x4001400C, 0x200, 4, 1, 0, .view, [(R.CAPWALLH_TIME, .ro, .v 0)]⟩,
  ⟨"CAPSRC2", 0x40014010, 0x200, 4, 1, 0, .view, [(R.CAPSRC2_SRC, .ro, .v 0), (R.CAPSRC2_WALLTOP, .ro, .v 0)]⟩,
  ⟨"CAPPOS", 0x40014020, 0x200, 4, 96, 4, .view, [(R.CAPPOS_WORD, .ro, .v 0)]⟩]

/-- Window 0x4001. -/
def rows4001 : List Row := rows4001a ++ rows4001b ++ rows4001c

/-- Window 0x4002. -/
def rows4002 : List Row := [
  ⟨"TTPER", 0x40020000, 0x40, 32, 4, 4, .view, [(R.TTPER_WORD, .ro, .v 0)]⟩,
  ⟨"TTSLOT", 0x40020010, 0x40, 32, 1, 0, .view, [(R.TTSLOT_STATE, .ro, .v 0), (R.TTSLOT_PRIMED, .ro, .v 0),
    (R.TTSLOT_EDIR, .ro, .v 0), (R.TTSLOT_DISC, .ro, .v 0), (R.TTSLOT_RAWPL, .ro, .v 0),
    (R.TTSLOT_LATEF, .ro, .v 0), (R.TTSLOT_STATUS, .ro, .v 0), (R.TTSLOT_REQ, .ro, .v 0),
    (R.TTSLOT_WORLD, .ro, .v 0)]⟩,
  ⟨"TTCAPL", 0x40020014, 0x40, 32, 1, 0, .view, [(R.TTCAPL_WORD, .ro, .v 0)]⟩,
  ⟨"TTCAPH", 0x40020018, 0x40, 32, 1, 0, .view, [(R.TTCAPH_WORD, .ro, .v 0)]⟩,
  ⟨"TTWHENL", 0x4002001C, 0x40, 32, 1, 0, .view, [(R.TTWHENL_TIME, .ro, .v 0)]⟩,
  ⟨"TTWHENH", 0x40020020, 0x40, 32, 1, 0, .view, [(R.TTWHENH_TIME, .ro, .v 0)]⟩,
  ⟨"TTNEW", 0x40020800, 0x4, 4, 1, 0, .perReq, [(R.TTNEW_WORD, .rw, .v 0)]⟩,
  ⟨"TTNEWGO", 0x40020810, 0x0, 1, 1, 0, .file, [(R.TTNEWGO_GO, .wo, .v 0)]⟩,
  ⟨"TTRES", 0x40020814, 0x0, 1, 1, 0, .perReq, [(R.TTRES_RESULT, .ro, .v 0)]⟩,
  ⟨"TTCMD", 0x40020818, 0x0, 1, 1, 0, .file, [(R.TTCMD_CMD, .wo, .v 0), (R.TTCMD_SLOT, .wo, .v 0)]⟩,
  ⟨"TTMAP", 0x4002081C, 0x0, 1, 1, 0, .view, [(R.TTMAP_FREE, .ro, .v 0xFFFFFFFF)]⟩,
  ⟨"TTMEMBASE", 0x40020820, 0x0, 1, 1, 0, .file, [(R.TTMEMBASE_EN, .rw, .v 0), (R.TTMEMBASE_BASE, .rw, .v 0)]⟩,
  ⟨"TTFAULT", 0x40020824, 0x0, 1, 1, 0, .file, [(R.TTFAULT_KIND, .ro, .v 0), (R.TTFAULT_WHERE, .ro, .v 0),
    (R.TTFAULT_GEN, .ro, .v 0), (R.TTFAULT_FIELD, .ro, .v 0), (R.TTFAULT_SEEN, .w1c, .v 0)]⟩,
  ⟨"TTLATENT", 0x40020828, 0x0, 1, 1, 0, .file, [(R.TTLATENT_COUNT, .rc, .v 0), (R.TTLATENT_SLOT, .ro, .v 0)]⟩,
  ⟨"TTINJ", 0x4002082C, 0x0, 1, 1, 0, .file, [(R.TTINJ_SLOT, .wo, .v 0), (R.TTINJ_FIELD, .wo, .v 0),
    (R.TTINJ_BIT, .wo, .v 0), (R.TTINJ_LINE, .wo, .v 0), (R.TTINJ_GEN, .wo, .v 0), (R.TTINJ_GO, .wo, .v 0)]⟩,
  ⟨"TTRESV", 0x40020830, 0x0, 1, 1, 0, .file, [(R.TTRESV_GRESV, .rw, .v 0), (R.TTRESV_ENQ, .rw, .v 4)]⟩,
  ⟨"TTOCC", 0x40020834, 0x0, 1, 1, 0, .view, [(R.TTOCC_NOW, .ro, .v 0), (R.TTOCC_PEAK, .rc, .v 0),
    (R.TTOCC_BOUND, .ro, .v 0), (R.TTOCC_PRESTG, .ro, .v 0)]⟩,
  ⟨"TTLATECNT", 0x40020838, 0x0, 1, 1, 0, .file, [(R.TTLATECNT_LATE, .rc, .v 0), (R.TTLATECNT_SKIP, .rc, .v 0)]⟩,
  ⟨"TTBOUND", 0x4002083C, 0x0, 1, 1, 0, .view, [(R.TTBOUND_BOUND, .ro, .v 0)]⟩,
  ⟨"TTQUOTA", 0x40020840, 0x4, 6, 1, 0, .view, [(R.TTQUOTA_SHOPQ, .rw, .v 32), (R.TTQUOTA_GUARDQ, .rw, .v 32),
    (R.TTQUOTA_SHOPH, .ro, .v 0), (R.TTQUOTA_GUARDH, .ro, .v 0)]⟩,
  ⟨"TTREFUSE", 0x40020858, 0x4, 2, 1, 0, .file, [(R.TTREFUSE_B0, .rc, .v 0), (R.TTREFUSE_B1, .rc, .v 0),
    (R.TTREFUSE_B2, .rc, .v 0), (R.TTREFUSE_B3, .rc, .v 0)]⟩]

/-- Window 0x4003. -/
def rows4003 : List Row := [
  ⟨"QCFG", 0x40030000, 0x40, 16, 1, 0, .file, [(R.QCFG_SLOT, .rw, .v 0), (R.QCFG_LOG2SIZE, .rw, .v 0),
    (R.QCFG_FAILHALT, .rw, .v 0), (R.QCFG_REPEN, .rw, .v 0), (R.QCFG_LOWM, .rw, .v 0), (R.QCFG_OWNER, .ro, .v 0),
    (R.QCFG_WORLD, .ro, .v 0)]⟩,
  ⟨"QBASE", 0x40030004, 0x40, 16, 1, 0, .file, [(R.QBASE_BASE, .rw, .v 0)]⟩,
  ⟨"QREP", 0x40030008, 0x40, 16, 1, 0, .file, [(R.QREP_BASE, .rw, .v 0)]⟩,
  ⟨"QHEAD", 0x4003000C, 0x40, 16, 1, 0, .view, [(R.QHEAD_HEAD, .ro, .v 0), (R.QHEAD_SEQ, .ro, .v 0)]⟩,
  ⟨"QTAIL", 0x40030010, 0x40, 16, 1, 0, .view, [(R.QTAIL_TAIL, .rw, .v 0)]⟩,
  ⟨"QCMD", 0x40030014, 0x40, 16, 1, 0, .file, [(R.QCMD_CMD, .wo, .v 0)]⟩,
  ⟨"QSTAT", 0x40030018, 0x40, 16, 1, 0, .view, [(R.QSTAT_STATE, .ro, .v 0), (R.QSTAT_PFV, .ro, .v 0),
    (R.QSTAT_MODESTOP, .ro, .v 0), (R.QSTAT_WHY, .ro, .v 0), (R.QSTAT_WSTAT, .ro, .v 0)]⟩,
  ⟨"QCNT", 0x4003001C, 0x40, 16, 1, 0, .file, [(R.QCNT_LATE, .rc, .v 0), (R.QCNT_SKIP, .rc, .v 0),
    (R.QCNT_STARVE, .rc, .v 0), (R.QCNT_PFWAIT, .rc, .v 0)]⟩,
  ⟨"QFAIL", 0x40030020, 0x40, 16, 1, 0, .file, [(R.QFAIL_FAIL, .rc, .v 0)]⟩,
  ⟨"SYLSTAT", 0x40030800, 0x0, 1, 1, 0, .view, [(R.SYLSTAT_STARVED, .ro, .v 0), (R.SYLSTAT_HALTED, .ro, .v 0)]⟩]

/-- Window 0x4004, part 1. -/
def rows4004a : List Row := [
  ⟨"EVCFG", 0x40040000, 0x4, 64, 1, 0, .file, [(R.EVCFG_SAFE, .rw, .l 0), (R.EVCFG_HOLD, .rw, .l 0),
    (R.EVCFG_WORLD, .rw, .l 0), (R.EVCFG_OD, .rw, .l 0)]⟩,
  ⟨"EVLVL", 0x40040100, 0x4, 2, 1, 0, .view, [(R.EVLVL_LVL, .ro, .v 0)]⟩,
  ⟨"EVSET", 0x40040108, 0x4, 2, 1, 0, .file, [(R.EVSET_MASK, .wo, .v 0)]⟩,
  ⟨"EVCLR", 0x40040110, 0x4, 2, 1, 0, .file, [(R.EVCLR_MASK, .wo, .v 0)]⟩,
  ⟨"EVTOG", 0x40040118, 0x4, 2, 1, 0, .file, [(R.EVTOG_MASK, .wo, .v 0)]⟩,
  ⟨"EVBALL", 0x40040120, 0x4, 2, 1, 0, .view, [(R.EVBALL_BALL, .ro, .v 0)]⟩,
  ⟨"EVLOST", 0x40040128, 0x4, 2, 1, 0, .file, [(R.EVLOST_PINLOST, .w1c, .v 0)]⟩,
  ⟨"EVFEN", 0x40040130, 0x4, 2, 1, 0, .file, [(R.EVFEN_FEN, .rw, .v 0)]⟩,
  ⟨"EVFLVL", 0x40040138, 0x4, 2, 1, 0, .file, [(R.EVFLVL_FLVL, .rw, .v 0)]⟩,
  ⟨"EVHDROP", 0x40040140, 0x0, 1, 1, 0, .file, [(R.EVHDROP_COUNT, .rc, .v 0)]⟩,
  ⟨"OUTWSTAT", 0x40040F00, 0x0, 1, 1, 0, .perReq, [(R.OUTWSTAT_CODE, .ro, .v 0)]⟩,
  ⟨"EVREJ", 0x40040F04, 0x4, 2, 1, 0, .perReq, [(R.EVREJ_REJ, .ro, .v 0)]⟩,
  ⟨"PTCFG", 0x40040400, 0x20, 16, 1, 0, .file, [(R.PTCFG_WIDTH, .rw, .l 0), (R.PTCFG_STEPINV, .rw, .l 0),
    (R.PTCFG_DIRINV, .rw, .l 0), (R.PTCFG_WORLD, .rw, .l 0), (R.PTCFG_HOLDRUN, .rw, .l 0),
    (R.PTCFG_DIRSU, .rw, .l 1)]⟩,
  ⟨"PTRATE", 0x40040404, 0x20, 16, 1, 0, .file, [(R.PTRATE_RATE, .rw, .v 0)]⟩,
  ⟨"PTNSTEP", 0x40040408, 0x20, 16, 1, 0, .file, [(R.PTNSTEP_NSTEP, .rw, .v 0)]⟩,
  ⟨"PTCOUNT", 0x4004040C, 0x20, 16, 1, 0, .view, [(R.PTCOUNT_COUNT, .ro, .v 0)]⟩,
  ⟨"PTCTL", 0x40040410, 0x20, 16, 1, 0, .file, [(R.PTCTL_GO, .wo, .v 0), (R.PTCTL_STOP, .wo, .v 0)]⟩,
  ⟨"PTSTAT", 0x40040414, 0x20, 16, 1, 0, .view, [(R.PTSTAT_STATE, .ro, .v 0), (R.PTSTAT_DLATE, .w1c, .v 0),
    (R.PTSTAT_PINLOST, .w1c, .v 0), (R.PTSTAT_FDFLT, .w1c, .v 0)]⟩,
  ⟨"PTREM", 0x40040418, 0x20, 16, 1, 0, .view, [(R.PTREM_REM, .ro, .v 0)]⟩,
  ⟨"PWMCFG", 0x40040800, 0x10, 16, 1, 0, .file, [(R.PWMCFG_ALIGN, .rw, .l 0), (R.PWMCFG_SAFE, .rw, .l 0),
    (R.PWMCFG_HOLD, .rw, .l 0), (R.PWMCFG_WORLD, .rw, .l 0)]⟩,
  ⟨"PWMPER", 0x40040804, 0x10, 16, 1, 0, .file, [(R.PWMPER_PER, .rw, .v 0x2710)]⟩,
  ⟨"PWMDUTY", 0x40040808, 0x10, 16, 1, 0, .file, [(R.PWMDUTY_DUTY, .rw, .v 0)]⟩,
  ⟨"PWMSTAT", 0x4004080C, 0x10, 16, 1, 0, .view, [(R.PWMSTAT_CLAMP, .w1c, .v 0), (R.PWMSTAT_PINLOST, .w1c, .v 0)]⟩,
  ⟨"SDCFG", 0x40040A00, 0x10, 8, 1, 0, .file, [(R.SDCFG_SAFE, .rw, .l 0), (R.SDCFG_HOLD, .rw, .l 0),
    (R.SDCFG_WORLD, .rw, .l 0), (R.SDCFG_SAFECODE, .rw, .l 0)]⟩]

/-- Window 0x4004, part 2. -/
def rows4004b : List Row := [
  ⟨"SDCODE", 0x40040A04, 0x10, 8, 1, 0, .file, [(R.SDCODE_CODE, .rw, .v 0)]⟩,
  ⟨"SDSTAT", 0x40040A08, 0x10, 8, 1, 0, .view, [(R.SDSTAT_PINLOST, .w1c, .v 0)]⟩]

/-- Window 0x4004. -/
def rows4004 : List Row := rows4004a ++ rows4004b

/-- Window 0x4005, part 1. -/
def rows4005a : List Row := [
  ⟨"IRQCFG", 0x40050000, 0x4, 256, 1, 0, .view, [(R.IRQCFG_LEVEL, .rw, .v 0), (R.IRQCFG_CORE, .rw, .v 0),
    (R.IRQCFG_WORLD, .rw, .v 0), (R.IRQCFG_FIXED, .ro, .v 0)]⟩,
  ⟨"IRQCNT", 0x40050400, 0x4, 256, 1, 0, .file, [(R.IRQCNT_COUNT, .ro, .v 0), (R.IRQCNT_OVF, .w1c, .v 0),
    (R.IRQCNT_EN, .ro, .v 0)]⟩,
  ⟨"PEND", 0x40050800, 0x4, 8, 1, 0, .view, [(R.PEND_BITS, .ro, .v 0)]⟩,
  ⟨"PENDSET", 0x40050820, 0x4, 8, 1, 0, .file, [(R.PENDSET_MASK, .wo, .v 0)]⟩,
  ⟨"PENDCLR", 0x40050840, 0x4, 8, 1, 0, .file, [(R.PENDCLR_MASK, .wo, .v 0)]⟩,
  ⟨"EN", 0x40050860, 0x4, 8, 1, 0, .view, [(R.EN_BITS, .ro, .v 0)]⟩,
  ⟨"ENSET", 0x40050880, 0x4, 8, 1, 0, .file, [(R.ENSET_MASK, .wo, .v 0)]⟩,
  ⟨"ENCLR", 0x400508A0, 0x4, 8, 1, 0, .file, [(R.ENCLR_MASK, .wo, .v 0)]⟩,
  ⟨"IRQWSTAT", 0x400508C0, 0x0, 1, 1, 0, .perReq, [(R.IRQWSTAT_CODE, .ro, .v 0)]⟩,
  ⟨"IRQLOST", 0x400508C4, 0x0, 1, 1, 0, .file, [(R.IRQLOST_COUNT, .rc, .v 0)]⟩,
  ⟨"IVECG", 0x40051000, 0x100, 5, 7, 4, .file, [(R.IVECG_PC, .rw, .v 0)]⟩,
  ⟨"IVECS", 0x40051020, 0x100, 5, 7, 4, .file, [(R.IVECS_PC, .rw, .v 0)]⟩,
  ⟨"ISTAT", 0x40051040, 0x100, 5, 1, 0, .view, [(R.ISTAT_SRC, .ro, .v 0), (R.ISTAT_CP, .ro, .v 0),
    (R.ISTAT_BELL, .ro, .v 0), (R.ISTAT_HELD, .ro, .v 0), (R.ISTAT_ACTLV, .ro, .v 0)]⟩,
  ⟨"GHDSBASE", 0x40051048, 0x100, 5, 1, 0, .file, [(R.GHDSBASE_ADDR, .rw, .v 0x0010D000)]⟩,
  ⟨"GHDSLIM", 0x4005104C, 0x100, 5, 1, 0, .file, [(R.GHDSLIM_ADDR, .rw, .v 0x0010C800)]⟩,
  ⟨"GHRSBASE", 0x40051050, 0x100, 5, 1, 0, .file, [(R.GHRSBASE_ADDR, .rw, .v 0x0010C800)]⟩,
  ⟨"GHRSLIM", 0x40051054, 0x100, 5, 1, 0, .file, [(R.GHRSLIM_ADDR, .rw, .v 0x0010C000)]⟩,
  ⟨"XDSBASE", 0x40051058, 0x100, 5, 1, 0, .file, [(R.XDSBASE_ADDR, .rw, .v 0)]⟩,
  ⟨"XDSLIM", 0x4005105C, 0x100, 5, 1, 0, .file, [(R.XDSLIM_ADDR, .rw, .v 0)]⟩,
  ⟨"XRSBASE", 0x40051060, 0x100, 5, 1, 0, .file, [(R.XRSBASE_ADDR, .rw, .v 0)]⟩,
  ⟨"XRSLIM", 0x40051064, 0x100, 5, 1, 0, .file, [(R.XRSLIM_ADDR, .rw, .v 0)]⟩,
  ⟨"LBASEG", 0x40051070, 0x100, 5, 1, 0, .file, [(R.LBASEG_PC, .rw, .v 0)]⟩,
  ⟨"LBASES", 0x40051074, 0x100, 5, 1, 0, .file, [(R.LBASES_PC, .rw, .v 0)]⟩,
  ⟨"BELLCFG", 0x40051078, 0x100, 5, 1, 0, .file, [(R.BELLCFG_SAT, .rw, .v 0), (R.BELLCFG_RND, .rw, .v 0),
    (R.BELLCFG_LIMIT, .rw, .v 0)]⟩]

/-- Window 0x4005, part 2. -/
def rows4005b : List Row := [
  ⟨"BELLSTAT", 0x4005107C, 0x100, 5, 1, 0, .view, [(R.BELLSTAT_QDEPTH, .ro, .v 0), (R.BELLSTAT_QPEAK, .rc, .v 0),
    (R.BELLSTAT_ACT, .ro, .v 0), (R.BELLSTAT_WHY, .ro, .v 0), (R.BELLSTAT_SLOT, .ro, .v 0),
    (R.BELLSTAT_TAG, .ro, .v 0)]⟩,
  ⟨"BELLCNT", 0x40051080, 0x100, 5, 1, 0, .file, [(R.BELLCNT_LOST, .rc, .v 0), (R.BELLCNT_ABORT, .rc, .v 0),
    (R.BELLCNT_STARTED, .rc, .v 0)]⟩,
  ⟨"SAVE", 0x40054000, 0x400, 5, 144, 4, .file, [(R.SAVE_WORD, .rw, .v 0)]⟩]

/-- Window 0x4005. -/
def rows4005 : List Row := rows4005a ++ rows4005b

/-- Window 0x4006, part 1. -/
def rows4006a : List Row := [
  ⟨"ENCFG", 0x40060000, 0x0, 1, 1, 0, .file, [(R.ENCFG_EN, .rw, .l 0), (R.ENCFG_ROLE, .rw, .l 0),
    (R.ENCFG_ADDRMODE, .rw, .l 0), (R.ENCFG_ADDR, .rw, .l 0), (R.ENCFG_SEC, .rw, .l 0), (R.ENCFG_KEYSEL, .rw, .l 0)]⟩,
  ⟨"ENSTAT", 0x40060004, 0x0, 1, 1, 0, .view, [(R.ENSTAT_STATE, .ro, .v 0), (R.ENSTAT_MYADDR, .ro, .v 0),
    (R.ENSTAT_NDEV, .ro, .v 0), (R.ENSTAT_BROKEN, .ro, .v 0), (R.ENSTAT_WRAPHERE, .ro, .v 0),
    (R.ENSTAT_BRKADDR, .ro, .v 0), (R.ENSTAT_SILENT, .ro, .v 0)]⟩,
  ⟨"ENCMD", 0x40060008, 0x0, 1, 1, 0, .file, [(R.ENCMD_ROLL, .wo, .v 0), (R.ENCMD_CLRCNT, .wo, .v 0)]⟩,
  ⟨"ROLLSTAT", 0x4006000C, 0x0, 1, 1, 0, .file, [(R.ROLLSTAT_DEMOTED, .ro, .v 0), (R.ROLLSTAT_COLL, .ro, .v 0),
    (R.ROLLSTAT_MODEMIS, .ro, .v 0), (R.ROLLSTAT_OVER, .ro, .v 0), (R.ROLLSTAT_AUTHFAIL, .ro, .v 0),
    (R.ROLLSTAT_DUR, .ro, .v 0)]⟩,
  ⟨"ENCYC", 0x40060010, 0x0, 1, 1, 0, .file, [(R.ENCYC_CYCLE, .ro, .v 0)]⟩,
  ⟨"ENWSTAT", 0x40060014, 0x0, 1, 1, 0, .perReq, [(R.ENWSTAT_CODE, .ro, .v 0)]⟩,
  ⟨"ENLINK", 0x40060018, 0x4, 2, 1, 0, .file, [(R.ENLINK_LANES, .ro, .v 0), (R.ENLINK_UP, .ro, .v 0),
    (R.ENLINK_DELAY, .ro, .v 0)]⟩,
  ⟨"ENERR", 0x40060020, 0x0, 1, 1, 0, .file, [(R.ENERR_HDR, .rc, .v 0), (R.ENERR_STA, .rc, .v 0),
    (R.ENERR_REC, .rc, .v 0), (R.ENERR_MSG, .rc, .v 0)]⟩,
  ⟨"ENSEC", 0x40060024, 0x0, 1, 1, 0, .file, [(R.ENSEC_SEC, .ro, .v 0), (R.ENSEC_AUTH, .rc, .v 0)]⟩,
  ⟨"ENPUB", 0x40060040, 0x4, 4, 1, 0, .file, [(R.ENPUB_EN, .rw, .v 0), (R.ENPUB_TB, .rw, .v 0),
    (R.ENPUB_SLOT, .ro, .v 0), (R.ENPUB_NOSLOT, .ro, .v 0)]⟩,
  ⟨"ENSUB", 0x40060080, 0x8, 12, 1, 0, .file, [(R.ENSUB_EN, .rw, .v 0), (R.ENSUB_OWNER, .rw, .v 0),
    (R.ENSUB_INDEX, .rw, .v 0), (R.ENSUB_NOPUB, .ro, .v 0), (R.ENSUB_SLOT, .ro, .v 0)]⟩,
  ⟨"ENSUBLIM", 0x40060084, 0x8, 12, 1, 0, .file, [(R.ENSUBLIM_AGEMAX, .rw, .v 3200)]⟩,
  ⟨"ENFCCFG", 0x40060100, 0x0, 1, 1, 0, .file, [(R.ENFCCFG_LOOK, .rw, .v 4), (R.ENFCCFG_FCTOL, .rw, .v 40),
    (R.ENFCCFG_ARMLEAD, .rw, .v 1)]⟩,
  ⟨"ENFCCNT", 0x40060104, 0x0, 1, 1, 0, .file, [(R.ENFCCNT_FORECAST, .rc, .v 0), (R.ENFCCNT_RETRACT, .rc, .v 0),
    (R.ENFCCNT_LATERET, .rc, .v 0), (R.ENFCCNT_EXPIRED, .rc, .v 0)]⟩,
  ⟨"ENFCCNT2", 0x40060108, 0x0, 1, 1, 0, .file, [(R.ENFCCNT2_SENT, .rc, .v 0), (R.ENFCCNT2_MISS, .rc, .v 0),
    (R.ENFCCNT2_FCDROP, .rc, .v 0)]⟩,
  ⟨"ENTXCTL", 0x40060140, 0x0, 1, 1, 0, .perReq, [(R.ENTXCTL_DEST, .rw, .v 0), (R.ENTXCTL_BCAST, .rw, .v 0),
    (R.ENTXCTL_CLASS, .rw, .v 0), (R.ENTXCTL_TAG, .rw, .v 0)]⟩,
  ⟨"ENTXD", 0x40060144, 0x4, 2, 1, 0, .perReq, [(R.ENTXD_DATA, .rw, .v 0)]⟩,
  ⟨"ENTXGO", 0x4006014C, 0x0, 1, 1, 0, .file, [(R.ENTXGO_GO, .wo, .v 0)]⟩,
  ⟨"ENTXRES", 0x40060150, 0x0, 1, 1, 0, .perReq, [(R.ENTXRES_CODE, .ro, .v 0)]⟩,
  ⟨"ENRXSTAT", 0x40060180, 0x0, 1, 1, 0, .view, [(R.ENRXSTAT_COUNT, .ro, .v 0)]⟩,
  ⟨"ENRX", 0x40060184, 0x4, 4, 1, 0, .view, [(R.ENRX_CHARS, .ro, .v 0)]⟩,
  ⟨"ENLASTMODE", 0x40060194, 0x0, 1, 1, 0, .file, [(R.ENLASTMODE_ADDR, .ro, .v 0), (R.ENLASTMODE_MODE, .ro, .v 0)]⟩,
  ⟨"ENDROP", 0x400601A0, 0x0, 1, 1, 0, .file, [(R.ENDROP_SAFETY, .rc, .v 0), (R.ENDROP_FORECAST, .rc, .v 0),
    (R.ENDROP_DATA, .rc, .v 0), (R.ENDROP_RX, .rc, .v 0)]⟩,
  ⟨"ENHOP", 0x40060200, 0x4, 32, 1, 0, .file, [(R.ENHOP_D, .ro, .v 0)]⟩]

/-- Window 0x4006, part 2. -/
def rows4006b : List Row := [
  ⟨"FCKEY", 0x40061000, 0x20, 32, 1, 0, .file, [(R.FCKEY_EN, .rw, .v 0), (R.FCKEY_OWNER, .rw, .v 0),
    (R.FCKEY_TAG, .rw, .v 0), (R.FCKEY_MODE, .rw, .v 0), (R.FCKEY_WORLD, .rw, .v 0)]⟩,
  ⟨"FCPER", 0x40061004, 0x20, 32, 4, 4, .file, [(R.FCPER_WORD, .rw, .v 0)]⟩,
  ⟨"FCSTAT", 0x40061014, 0x20, 32, 1, 0, .view, [(R.FCSTAT_STATE, .ro, .v 0), (R.FCSTAT_SLOT, .ro, .v 0),
    (R.FCSTAT_CODE, .ro, .v 0), (R.FCSTAT_GEN, .ro, .v 0)]⟩]

/-- Window 0x4006. -/
def rows4006 : List Row := rows4006a ++ rows4006b

/-- Window 0x4007. -/
def rows4007 : List Row := [
  ⟨"RCCODE", 0x40070000, 0x400, 8, 64, 4, .file, [(R.RCCODE_WORD, .rw, .v 0)]⟩,
  ⟨"RCCFG", 0x40070100, 0x400, 8, 1, 0, .file, [(R.RCCFG_SAFE, .rw, .l 0), (R.RCCFG_SAFEZ, .rw, .l 0),
    (R.RCCFG_PAIR, .rw, .l 0), (R.RCCFG_HOLDRUN, .rw, .l 0), (R.RCCFG_PREPLIVE, .rw, .l 0),
    (R.RCCFG_FILT, .rw, .l 0), (R.RCCFG_TOVEC, .rw, .l 0), (R.RCCFG_TOUNIT, .rw, .l 0)]⟩,
  ⟨"RCCTL", 0x40070104, 0x400, 8, 1, 0, .file, [(R.RCCTL_GO, .wo, .v 0), (R.RCCTL_STOP, .wo, .v 0),
    (R.RCCTL_FLUSHTX, .wo, .v 0), (R.RCCTL_FLUSHRX, .wo, .v 0), (R.RCCTL_START, .wo, .v 0)]⟩,
  ⟨"RCSTAT", 0x40070108, 0x400, 8, 1, 0, .view, [(R.RCSTAT_STATE, .ro, .v 0), (R.RCSTAT_PC, .ro, .v 0),
    (R.RCSTAT_CODE, .ro, .v 0), (R.RCSTAT_WHY, .ro, .v 0), (R.RCSTAT_WSTAT, .ro, .v 0)]⟩,
  ⟨"RCD", 0x4007010C, 0x400, 8, 1, 0, .view, [(R.RCD_D, .ro, .v 0)]⟩,
  ⟨"RCLVL", 0x40070110, 0x400, 8, 1, 0, .view, [(R.RCLVL_LVL, .ro, .v 0), (R.RCLVL_OE, .ro, .v 0)]⟩,
  ⟨"RCTX", 0x40070114, 0x400, 8, 1, 0, .file, [(R.RCTX_WORD, .wo, .v 0)]⟩,
  ⟨"RCRX", 0x40070118, 0x400, 8, 1, 0, .view, [(R.RCRX_WORD, .ro, .v 0)]⟩,
  ⟨"RCFIFO", 0x4007011C, 0x400, 8, 1, 0, .view, [(R.RCFIFO_TX, .ro, .v 0), (R.RCFIFO_RX, .ro, .v 0)]⟩,
  ⟨"RCCTL0", 0x40070120, 0x400, 8, 1, 0, .view, [(R.RCCTL0_COUNT, .ro, .v 0)]⟩,
  ⟨"RCCTH0", 0x40070124, 0x400, 8, 1, 0, .view, [(R.RCCTH0_COUNT, .ro, .v 0)]⟩,
  ⟨"RCCTL1", 0x40070128, 0x400, 8, 1, 0, .view, [(R.RCCTL1_COUNT, .ro, .v 0)]⟩,
  ⟨"RCCTH1", 0x4007012C, 0x400, 8, 1, 0, .view, [(R.RCCTH1_COUNT, .ro, .v 0)]⟩,
  ⟨"RCTOPC", 0x40070130, 0x400, 8, 1, 0, .view, [(R.RCTOPC_TOPC, .ro, .v 0)]⟩,
  ⟨"RCPIN", 0x40070134, 0x400, 8, 1, 0, .file, [(R.RCPIN_PINLOST, .w1c, .v 0)]⟩]

/-- Window 0x4008. -/
def rows4008 : List Row := [
  ⟨"UCFG", 0x40080000, 0x100, 4, 1, 0, .file, [(R.UCFG_DBITS, .rw, .l 0), (R.UCFG_PAR, .rw, .l 0),
    (R.UCFG_STOP, .rw, .l 0), (R.UCFG_RTSCTS, .rw, .l 0), (R.UCFG_XONXOFF, .rw, .l 0), (R.UCFG_RS485, .rw, .l 0),
    (R.UCFG_ECHOSUP, .rw, .l 0), (R.UCFG_LOOP, .rw, .l 0)]⟩,
  ⟨"UBAUD", 0x40080004, 0x100, 4, 1, 0, .file, [(R.UBAUD_F, .rw, .l 0), (R.UBAUD_I, .rw, .l 0)]⟩,
  ⟨"UCTL", 0x40080008, 0x100, 4, 1, 0, .file, [(R.UCTL_EN, .rw, .v 0), (R.UCTL_TXBRK, .rw, .v 0),
    (R.UCTL_FLUSHRX, .wo, .v 0), (R.UCTL_FLUSHTX, .wo, .v 0)]⟩,
  ⟨"UTX", 0x4008000C, 0x100, 4, 1, 0, .file, [(R.UTX_CHAR, .wo, .v 0)]⟩,
  ⟨"URX", 0x40080010, 0x100, 4, 1, 0, .view, [(R.URX_CHAR, .ro, .v 0), (R.URX_PERR, .ro, .v 0),
    (R.URX_FERR, .ro, .v 0), (R.URX_BRK, .ro, .v 0), (R.URX_VALID, .ro, .v 0)]⟩,
  ⟨"USTAT", 0x40080014, 0x100, 4, 1, 0, .view, [(R.USTAT_TX, .ro, .v 0), (R.USTAT_RX, .ro, .v 0),
    (R.USTAT_TXBUSY, .ro, .v 0), (R.USTAT_CTS, .ro, .v 0), (R.USTAT_HELD, .ro, .v 0), (R.USTAT_XOFFS, .ro, .v 0),
    (R.USTAT_WSTAT, .ro, .v 0)]⟩,
  ⟨"UTRIG", 0x40080018, 0x100, 4, 1, 0, .file, [(R.UTRIG_RXTRIG, .rw, .v 0), (R.UTRIG_TXTRIG, .rw, .v 0),
    (R.UTRIG_IDLE, .rw, .v 0)]⟩,
  ⟨"UFLOW", 0x4008001C, 0x100, 4, 1, 0, .file, [(R.UFLOW_HI, .rw, .l 0), (R.UFLOW_LO, .rw, .l 0),
    (R.UFLOW_XON, .rw, .l 17), (R.UFLOW_XOFF, .rw, .l 19)]⟩,
  ⟨"UERR", 0x40080020, 0x100, 4, 1, 0, .file, [(R.UERR_OVR, .rc, .v 0), (R.UERR_FERR, .rc, .v 0),
    (R.UERR_PERR, .rc, .v 0), (R.UERR_BRK, .rc, .v 0)]⟩]

/-- Window 0x4009. -/
def rows4009 : List Row := [
  ⟨"ACFG", 0x40090000, 0x0, 1, 1, 0, .file, [(R.ACFG_NIN, .rw, .l 0), (R.ACFG_NOUT, .rw, .l 0),
    (R.ACFG_OEOFF, .rw, .l 0), (R.ACFG_CHKEN, .rw, .l 0)]⟩,
  ⟨"ATIME", 0x40090004, 0x0, 1, 1, 0, .file, [(R.ATIME_CYCLE, .rw, .l 0), (R.ATIME_SCKDIV, .rw, .l 0),
    (R.ATIME_LDW, .rw, .l 0)]⟩,
  ⟨"ACTL", 0x40090008, 0x0, 1, 1, 0, .file, [(R.ACTL_EN, .rw, .v 0), (R.ACTL_CLRFLT, .wo, .v 0)]⟩,
  ⟨"ASTAT", 0x4009000C, 0x0, 1, 1, 0, .view, [(R.ASTAT_STATE, .ro, .v 0), (R.ASTAT_STALE, .ro, .v 0),
    (R.ASTAT_FAILRUN, .ro, .v 0), (R.ASTAT_AWSTAT, .ro, .v 0)]⟩,
  ⟨"ACHK", 0x40090010, 0x0, 1, 1, 0, .file, [(R.ACHK_INTLIM, .rw, .v 3), (R.ACHK_LAST, .ro, .v 0)]⟩,
  ⟨"ACYCNT", 0x40090014, 0x0, 1, 1, 0, .file, [(R.ACYCNT_COUNT, .ro, .v 0)]⟩,
  ⟨"AERR", 0x40090018, 0x0, 1, 1, 0, .file, [(R.AERR_FAIL, .rc, .v 0)]⟩,
  ⟨"AIN", 0x40090100, 0x4, 32, 1, 0, .file, [(R.AIN_BITS, .ro, .v 0)]⟩,
  ⟨"AOUT", 0x40090180, 0x4, 32, 1, 0, .file, [(R.AOUT_BITS, .rw, .v 0)]⟩,
  ⟨"AOSET", 0x40090200, 0x4, 32, 1, 0, .file, [(R.AOSET_MASK, .wo, .v 0)]⟩,
  ⟨"AOCLR", 0x40090280, 0x4, 32, 1, 0, .file, [(R.AOCLR_MASK, .wo, .v 0)]⟩,
  ⟨"ASAFE", 0x40090300, 0x4, 32, 1, 0, .file, [(R.ASAFE_BITS, .rw, .l 0)]⟩,
  ⟨"AHLIVE", 0x40090380, 0x4, 32, 1, 0, .file, [(R.AHLIVE_BITS, .rw, .l 0)]⟩,
  ⟨"AGUARD", 0x40090400, 0x4, 32, 1, 0, .file, [(R.AGUARD_BITS, .rw, .l 0)]⟩,
  ⟨"AIEN", 0x40090480, 0x4, 32, 1, 0, .file, [(R.AIEN_BITS, .rw, .v 0)]⟩,
  ⟨"ACHG", 0x40090500, 0x4, 32, 1, 0, .file, [(R.ACHG_BITS, .w1c, .v 0)]⟩,
  ⟨"AREJ", 0x40090580, 0x4, 32, 1, 0, .perReq, [(R.AREJ_BITS, .ro, .v 0)]⟩,
  ⟨"ADEB", 0x40090800, 0x4, 128, 1, 0, .file, [(R.ADEB_DEB, .rw, .l 0)]⟩]

/-- Window 0x400A. -/
def rows400A : List Row := [
  ⟨"ETCFG", 0x400A0000, 0x1000, 2, 1, 0, .file, [(R.ETCFG_TXEN, .rw, .l 0), (R.ETCFG_RXEN, .rw, .l 0),
    (R.ETCFG_SPEED100, .rw, .l 0), (R.ETCFG_FDX, .rw, .l 0), (R.ETCFG_PROMISC, .rw, .l 0),
    (R.ETCFG_PAUSE, .rw, .l 0), (R.ETCFG_REFEXT, .rw, .l 0), (R.ETCFG_KEEPBAD, .rw, .l 0)]⟩,
  ⟨"ETMACL", 0x400A0004, 0x1000, 2, 1, 0, .file, [(R.ETMACL_ADDR, .rw, .l 0)]⟩,
  ⟨"ETMACH", 0x400A0008, 0x1000, 2, 1, 0, .file, [(R.ETMACH_ADDR, .rw, .l 0)]⟩,
  ⟨"ETHASH", 0x400A000C, 0x1000, 2, 2, 4, .file, [(R.ETHASH_BINS, .rw, .v 0)]⟩,
  ⟨"ETTXBASE", 0x400A0014, 0x1000, 2, 1, 0, .file, [(R.ETTXBASE_BASE, .rw, .v 0)]⟩,
  ⟨"ETTXCTL", 0x400A0018, 0x1000, 2, 1, 0, .file, [(R.ETTXCTL_LOG2N, .rw, .v 0)]⟩,
  ⟨"ETTXTAIL", 0x400A001C, 0x1000, 2, 1, 0, .file, [(R.ETTXTAIL_INDEX, .rw, .v 0)]⟩,
  ⟨"ETTXHEAD", 0x400A0020, 0x1000, 2, 1, 0, .file, [(R.ETTXHEAD_INDEX, .ro, .v 0)]⟩,
  ⟨"ETRXBASE", 0x400A0024, 0x1000, 2, 1, 0, .file, [(R.ETRXBASE_BASE, .rw, .v 0)]⟩,
  ⟨"ETRXCTL", 0x400A0028, 0x1000, 2, 1, 0, .file, [(R.ETRXCTL_LOG2N, .rw, .v 0)]⟩,
  ⟨"ETRXTAIL", 0x400A002C, 0x1000, 2, 1, 0, .file, [(R.ETRXTAIL_INDEX, .rw, .v 0)]⟩,
  ⟨"ETRXHEAD", 0x400A0030, 0x1000, 2, 1, 0, .file, [(R.ETRXHEAD_INDEX, .ro, .v 0)]⟩,
  ⟨"ETMDIO", 0x400A0034, 0x1000, 2, 1, 0, .file, [(R.ETMDIO_PHY, .rw, .v 0), (R.ETMDIO_REG, .rw, .v 0),
    (R.ETMDIO_WRITE, .rw, .v 0), (R.ETMDIO_GO, .rw, .v 0), (R.ETMDIO_BUSY, .ro, .v 0), (R.ETMDIO_DATA, .rw, .v 0)]⟩,
  ⟨"ETCNT", 0x400A0038, 0x1000, 2, 1, 0, .file, [(R.ETCNT_DROP, .rc, .v 0), (R.ETCNT_FCS, .rc, .v 0),
    (R.ETCNT_COLL, .rc, .v 0)]⟩,
  ⟨"PTPCFG", 0x400A0040, 0x0, 1, 1, 0, .file, [(R.PTPCFG_CORE, .rw, .v 0), (R.PTPCFG_WORLD, .rw, .v 0),
    (R.PTPCFG_TXLAT, .rw, .v 0), (R.PTPCFG_RXLAT, .rw, .v 0)]⟩,
  ⟨"PTPADJ", 0x400A0044, 0x0, 1, 1, 0, .view, [(R.PTPADJ_ADJ, .rw, .v 0)]⟩,
  ⟨"PTPSTEPL", 0x400A0048, 0x0, 1, 1, 0, .file, [(R.PTPSTEPL_STEP, .rw, .v 0)]⟩,
  ⟨"PTPSTEPH", 0x400A004C, 0x0, 1, 1, 0, .file, [(R.PTPSTEPH_STEP, .wo, .v 0)]⟩]

/-- Window 0x400B. -/
def rows400B : List Row := [
  ⟨"RNGCFG", 0x400B0000, 0x0, 1, 1, 0, .file, [(R.RNGCFG_POLICY, .ro, .l 1), (R.RNGCFG_RAWEN, .rw, .v 0),
    (R.RNGCFG_RAWSRC, .rw, .v 0)]⟩,
  ⟨"RNGSTAT", 0x400B0004, 0x0, 1, 1, 0, .file, [(R.RNGSTAT_HEALTHY, .ro, .v 0), (R.RNGSTAT_READY, .ro, .v 0),
    (R.RNGSTAT_REDUCED, .ro, .v 0), (R.RNGSTAT_STOPPED, .ro, .v 0), (R.RNGSTAT_RAWON, .ro, .v 0),
    (R.RNGSTAT_FAILED, .ro, .v 0)]⟩,
  ⟨"RNGERR", 0x400B0008, 0x0, 1, 1, 0, .file, [(R.RNGERR_RCT, .rc, .v 0), (R.RNGERR_APT, .rc, .v 0),
    (R.RNGERR_WAIT, .rc, .v 0)]⟩,
  ⟨"RNGCUT", 0x400B000C, 0x0, 1, 1, 0, .file, [(R.RNGCUT_RCT, .rw, .l 41), (R.RNGCUT_APT, .rw, .l 800)]⟩,
  ⟨"RNGRAW", 0x400B0010, 0x0, 1, 1, 0, .view, [(R.RNGRAW_WORD, .ro, .v 0)]⟩,
  ⟨"DRBGOUT", 0x400B0100, 0x0, 1, 1, 0, .view, [(R.DRBGOUT_WORD, .ro, .v 0)]⟩,
  ⟨"DRBGST", 0x400B0104, 0x0, 1, 1, 0, .perReq, [(R.DRBGST_AVAIL, .ro, .v 0), (R.DRBGST_WAIT, .rc, .v 0),
    (R.DRBGST_STOP, .ro, .v 0)]⟩,
  ⟨"DRBGINST", 0x400B0200, 0x4, 10, 1, 0, .file, [(R.DRBGINST_STATE, .ro, .v 0), (R.DRBGINST_RESEEDS, .ro, .v 0)]⟩]

/-- Window 0x400C. -/
def rows400C : List Row := [
  ⟨"KEYSTAT", 0x400C0000, 0x0, 1, 1, 0, .view, [(R.KEYSTAT_SLOTS, .ro, .l 0), (R.KEYSTAT_SVCPEND, .ro, .l 0)]⟩,
  ⟨"KEYCMD", 0x400C0004, 0x0, 1, 1, 0, .file, [(R.KEYCMD_CMD, .wo, .v 0), (R.KEYCMD_SLOT, .wo, .v 0),
    (R.KEYCMD_KEY, .wo, .v 0)]⟩,
  ⟨"KEYRES", 0x400C0008, 0x0, 1, 1, 0, .perReq, [(R.KEYRES_CODE, .ro, .v 0)]⟩,
  ⟨"KEYDATA", 0x400C0010, 0x4, 8, 1, 0, .perReq, [(R.KEYDATA_DATA, .wo, .v 0)]⟩,
  ⟨"KEYUSE", 0x400C0030, 0x0, 1, 1, 0, .file, [(R.KEYUSE_USE, .rw, .l 0)]⟩,
  ⟨"IDSTAT", 0x400C0040, 0x0, 1, 1, 0, .file, [(R.IDSTAT_KEY, .ro, .l 0), (R.IDSTAT_CERT, .ro, .l 0),
    (R.IDSTAT_BOOTKEY, .ro, .l 0), (R.IDSTAT_ENRDAWN, .ro, .l 0), (R.IDSTAT_COUNT, .ro, .l 0),
    (R.IDSTAT_SATURATED, .ro, .l 0)]⟩,
  ⟨"SERIALL", 0x400C0044, 0x0, 1, 1, 0, .file, [(R.SERIALL_SERIAL, .ro, .l 0)]⟩,
  ⟨"SERIALH", 0x400C0048, 0x0, 1, 1, 0, .file, [(R.SERIALH_SERIAL, .ro, .l 0)]⟩,
  ⟨"MEAS", 0x400C0050, 0x4, 8, 1, 0, .file, [(R.MEAS_MEAS, .ro, .l 0)]⟩,
  ⟨"CERTLEN", 0x400C0070, 0x0, 1, 1, 0, .file, [(R.CERTLEN_LEN, .ro, .l 0)]⟩,
  ⟨"CERT", 0x400C0800, 0x4, 512, 1, 0, .view, [(R.CERT_DER, .ro, .l 0)]⟩,
  ⟨"CRCTL", 0x400C1000, 0x0, 1, 1, 0, .perReq, [(R.CRCTL_OP, .rw, .v 0), (R.CRCTL_KEY, .rw, .v 0),
    (R.CRCTL_LEN, .rw, .v 0), (R.CRCTL_GO, .wo, .v 0)]⟩,
  ⟨"CRSTAT", 0x400C1004, 0x0, 1, 1, 0, .perReq, [(R.CRSTAT_BUSY, .ro, .v 0), (R.CRSTAT_DONE, .ro, .v 0),
    (R.CRSTAT_ERR, .ro, .v 0)]⟩,
  ⟨"CRIN", 0x400C1010, 0x4, 4, 1, 0, .perReq, [(R.CRIN_DATA, .rw, .v 0)]⟩,
  ⟨"CROUT", 0x400C1020, 0x4, 4, 1, 0, .perReq, [(R.CROUT_DATA, .ro, .v 0)]⟩]

/-- Window 0x400D, part 1. -/
def rows400Da : List Row := [
  ⟨"HMCTL", 0x400D0000, 0x0, 1, 1, 0, .file, [(R.HMCTL_HMLOCK, .w1s, .h 0)]⟩,
  ⟨"HMSTAT", 0x400D0004, 0x0, 1, 1, 0, .view, [(R.HMSTAT_XTAL, .ro, .h 1), (R.HMSTAT_WAKEOUT, .ro, .h 1),
    (R.HMSTAT_ZPEND, .ro, .h 0), (R.HMSTAT_BUSY, .ro, .v 0), (R.HMSTAT_HMLOCK, .ro, .h 0),
    (R.HMSTAT_WSTAT, .ro, .h 0)]⟩,
  ⟨"HMALARM", 0x400D0008, 0x0, 1, 1, 0, .file, [(R.HMALARM_RULES, .w1c, .h 0), (R.HMALARM_POR, .w1c, .h 0),
    (R.HMALARM_ZERO, .w1c, .h 0)]⟩,
  ⟨"HMTIMEL", 0x400D000C, 0x0, 1, 1, 0, .view, [(R.HMTIMEL_TIME, .ro, .h 0)]⟩,
  ⟨"HMTIMEH", 0x400D0010, 0x0, 1, 1, 0, .view, [(R.HMTIMEH_TIME, .ro, .h 0)]⟩,
  ⟨"HMSYNCL", 0x400D0014, 0x0, 1, 1, 0, .file, [(R.HMSYNCL_TIME, .ro, .l 0)]⟩,
  ⟨"HMSYNCH", 0x400D0018, 0x0, 1, 1, 0, .file, [(R.HMSYNCH_TIME, .ro, .l 0)]⟩,
  ⟨"HMSYNCWL", 0x400D001C, 0x0, 1, 1, 0, .file, [(R.HMSYNCWL_TIME, .ro, .l 0)]⟩,
  ⟨"HMSYNCWH", 0x400D0020, 0x0, 1, 1, 0, .file, [(R.HMSYNCWH_TIME, .ro, .l 0)]⟩,
  ⟨"HWCFG", 0x400D0040, 0x20, 4, 1, 0, .file, [(R.HWCFG_EN, .rw, .h 0), (R.HWCFG_TB, .rw, .h 0),
    (R.HWCFG_ASSIGNED, .rw, .h 0), (R.HWCFG_DIR, .rw, .h 0), (R.HWCFG_RATE, .rw, .h 0), (R.HWCFG_SETTLE, .rw, .h 0),
    (R.HWCFG_MULT, .rw, .h 0)]⟩,
  ⟨"HWSTAT", 0x400D0044, 0x20, 4, 1, 0, .view, [(R.HWSTAT_STATE, .ro, .h 0), (R.HWSTAT_VALID, .ro, .h 0),
    (R.HWSTAT_ILLEGAL, .w1c, .h 0), (R.HWSTAT_HWERR, .rc, .h 0)]⟩,
  ⟨"HWCNTL", 0x400D0048, 0x20, 4, 1, 0, .view, [(R.HWCNTL_COUNT, .ro, .h 0)]⟩,
  ⟨"HWCNTH", 0x400D004C, 0x20, 4, 1, 0, .view, [(R.HWCNTH_COUNT, .ro, .h 0)]⟩,
  ⟨"HWNIGHTL", 0x400D0050, 0x20, 4, 1, 0, .view, [(R.HWNIGHTL_COUNT, .ro, .h 0)]⟩,
  ⟨"HWNIGHTH", 0x400D0054, 0x20, 4, 1, 0, .view, [(R.HWNIGHTH_COUNT, .ro, .h 0)]⟩,
  ⟨"HICFG", 0x400D0100, 0x4, 8, 1, 0, .file, [(R.HICFG_EN, .rw, .h 0), (R.HICFG_INV, .rw, .h 0),
    (R.HICFG_PULL, .rw, .h 0), (R.HICFG_PER, .rw, .h 0), (R.HICFG_MAJ, .rw, .h 0), (R.HICFG_DEB, .rw, .h 0)]⟩,
  ⟨"HILVL", 0x400D0120, 0x0, 1, 1, 0, .view, [(R.HILVL_FILT, .ro, .h 0), (R.HILVL_RAW, .ro, .h 0)]⟩,
  ⟨"HATEMP", 0x400D0140, 0x0, 1, 1, 0, .view, [(R.HATEMP_FILT, .ro, .h 0), (R.HATEMP_LAST, .ro, .h 0)]⟩,
  ⟨"HAVBAT", 0x400D0144, 0x0, 1, 1, 0, .view, [(R.HAVBAT_FILT, .ro, .h 0), (R.HAVBAT_LAST, .ro, .h 0)]⟩,
  ⟨"HACFG", 0x400D0148, 0x0, 1, 1, 0, .file, [(R.HACFG_KT, .rw, .h 0), (R.HACFG_KB, .rw, .h 0)]⟩,
  ⟨"HMRULEA", 0x400D0200, 0x8, 16, 1, 0, .file, [(R.HMRULEA_SRC, .rw, .h 0), (R.HMRULEA_ARG, .rw, .h 0),
    (R.HMRULEA_LVL, .rw, .h 0), (R.HMRULEA_WHEN, .rw, .h 0), (R.HMRULEA_FIRE, .rw, .h 0),
    (R.HMRULEA_PERSIST, .rw, .h 0), (R.HMRULEA_PSCALE, .rw, .h 0)]⟩,
  ⟨"HMRULEB", 0x400D0204, 0x8, 16, 1, 0, .file, [(R.HMRULEB_TH, .rw, .h 0), (R.HMRULEB_LOG, .rw, .h 0),
    (R.HMRULEB_WAKE, .rw, .h 0), (R.HMRULEB_ALARM, .rw, .h 0), (R.HMRULEB_LOCK, .rw, .h 0),
    (R.HMRULEB_ZERO, .rw, .h 0)]⟩,
  ⟨"HMMET", 0x400D0280, 0x0, 1, 1, 0, .view, [(R.HMMET_MET, .ro, .h 0)]⟩,
  ⟨"HMLOGN", 0x400D0284, 0x0, 1, 1, 0, .view, [(R.HMLOGN_NEXT, .ro, .h 0), (R.HMLOGN_SEEN, .rw, .h 0),
    (R.HMLOGN_LOST, .rc, .h 0), (R.HMLOGN_TOTAL, .ro, .h 0)]⟩]

/-- Window 0x400D, part 2. -/
def rows400Db : List Row := [
  ⟨"HMLOGE", 0x400D0300, 0x8, 32, 2, 4, .file, [(R.HMLOGE_WORD, .ro, .h 0)]⟩,
  ⟨"HMRET", 0x400D0400, 0x4, 128, 1, 0, .file, [(R.HMRET_WORD, .rw, .h 0)]⟩]

/-- Window 0x400D. -/
def rows400D : List Row := rows400Da ++ rows400Db

/-- Window 0x400E, part 1. -/
def rows400Ea : List Row := [
  ⟨"CLKSTAT", 0x400E0200, 0x0, 1, 1, 0, .file, [(R.CLKSTAT_HMXTAL, .ro, .h 0), (R.CLKSTAT_LOCKLOSS, .rc, .h 0),
    (R.CLKSTAT_REFLOSS, .rc, .h 0)]⟩,
  ⟨"EPOCHCNT", 0x400E0204, 0x0, 1, 1, 0, .view, [(R.EPOCHCNT_COUNT, .ro, .v 0)]⟩,
  ⟨"CLKOBS", 0x400E0208, 0x0, 1, 1, 0, .file, [(R.CLKOBS_SEL, .rw, .v 0)]⟩,
  ⟨"MODESTAT", 0x400E0000, 0x0, 1, 1, 0, .file, [(R.MODESTAT_MODE, .ro, .v 1), (R.MODESTAT_BUSY, .ro, .v 1),
    (R.MODESTAT_PREV, .ro, .v 0), (R.MODESTAT_CAUSE, .ro, .v 6)]⟩,
  ⟨"MODEREQ", 0x400E0004, 0x0, 1, 1, 0, .file, [(R.MODEREQ_TARGET, .wo, .v 0), (R.MODEREQ_KEY, .wo, .v 0)]⟩,
  ⟨"MODERESP", 0x400E0008, 0x0, 1, 1, 0, .file, [(R.MODERESP_STATUS, .ro, .v 0), (R.MODERESP_TARGET, .ro, .v 0),
    (R.MODERESP_REQ, .ro, .v 0), (R.MODERESP_WHY, .ro, .v 0)]⟩,
  ⟨"CORERUN", 0x400E0010, 0x0, 1, 1, 0, .file, [(R.CORERUN_RUN, .rw, .v 0)]⟩,
  ⟨"RSTCAUSE", 0x400E0100, 0x0, 1, 1, 0, .file, [(R.RSTCAUSE_CAUSE, .w1c, .h 0), (R.RSTCAUSE_SVCDONE, .w1c, .h 0),
    (R.RSTCAUSE_LAST, .ro, .h 0)]⟩,
  ⟨"CORERST", 0x400E0104, 0x0, 1, 1, 0, .file, [(R.CORERST_PHYS, .w1c, .v 0)]⟩,
  ⟨"DAWNSTAT", 0x400E0020, 0x0, 1, 1, 0, .file, [(R.DAWNSTAT_STEP, .ro, .v 1), (R.DAWNSTAT_FAILSTEP, .ro, .v 0),
    (R.DAWNSTAT_IMGBAD, .ro, .v 0), (R.DAWNSTAT_ESTOPLOW, .ro, .v 0), (R.DAWNSTAT_RNGLATE, .ro, .v 0),
    (R.DAWNSTAT_RNGSTOP, .ro, .v 0), (R.DAWNSTAT_IDENTUNV, .ro, .v 0), (R.DAWNSTAT_RINGDOWN, .ro, .v 0),
    (R.DAWNSTAT_HMALARM, .ro, .v 0), (R.DAWNSTAT_LOCKCAUSE, .ro, .v 0)]⟩,
  ⟨"DAWNTIME", 0x400E0024, 0x0, 1, 1, 0, .view, [(R.DAWNTIME_US, .ro, .v 0)]⟩,
  ⟨"ROLLTMO", 0x400E0028, 0x0, 1, 1, 0, .file, [(R.ROLLTMO_MS, .rw, .l 200)]⟩,
  ⟨"HOSTAT", 0x400E0030, 0x0, 1, 1, 0, .file, [(R.HOSTAT_CH, .ro, .v 0)]⟩,
  ⟨"HOTOL", 0x400E0034, 0x0, 1, 1, 0, .file, [(R.HOTOL_COUNTS, .rw, .l 0)]⟩,
  ⟨"LONGCNT", 0x400E0300, 0x4, 6, 1, 0, .file, [(R.LONGCNT_DIVABORT, .rc, .v 0), (R.LONGCNT_MACNBRK, .rc, .v 0)]⟩,
  ⟨"BUSSTALL", 0x400E0400, 0x10, 6, 1, 0, .file, [(R.BUSSTALL_WAIT, .rc, .v 0)]⟩,
  ⟨"BUSMAX", 0x400E0404, 0x10, 6, 1, 0, .file, [(R.BUSMAX_MAX, .rc, .v 0)]⟩,
  ⟨"SBOVL", 0x400E0408, 0x10, 6, 1, 0, .file, [(R.SBOVL_CCLK, .rc, .v 0)]⟩,
  ⟨"SBFULL", 0x400E040C, 0x10, 6, 1, 0, .file, [(R.SBFULL_CCLK, .rc, .v 0)]⟩,
  ⟨"BUSUSE", 0x400E0460, 0x4, 4, 1, 0, .file, [(R.BUSUSE_PSCLK, .rc, .v 0)]⟩,
  ⟨"GENTRY", 0x400E1000, 0x400, 5, 1, 0, .file, [(R.GENTRY_PC, .rw, .l 0)]⟩,
  ⟨"GTABG", 0x400E1004, 0x400, 5, 1, 0, .file, [(R.GTABG_BASE, .rw, .v 0)]⟩,
  ⟨"GTABS", 0x400E1008, 0x400, 5, 1, 0, .file, [(R.GTABS_BASE, .rw, .v 0)]⟩,
  ⟨"GTCNT", 0x400E100C, 0x400, 5, 1, 0, .file, [(R.GTCNT_COUNTG, .rw, .v 0), (R.GTCNT_COUNTS, .rw, .v 0)]⟩]

/-- Window 0x400E, part 2. -/
def rows400Eb : List Row := [
  ⟨"XGMASKL", 0x400E1010, 0x400, 5, 1, 0, .file, [(R.XGMASKL_MASK, .rw, .v 0)]⟩,
  ⟨"XGMASKH", 0x400E1014, 0x400, 5, 1, 0, .file, [(R.XGMASKH_MASK, .rw, .v 0)]⟩,
  ⟨"FVECG", 0x400E1018, 0x400, 5, 1, 0, .file, [(R.FVECG_PC, .rw, .v 0)]⟩,
  ⟨"FVECS", 0x400E101C, 0x400, 5, 1, 0, .file, [(R.FVECS_PC, .rw, .v 0)]⟩,
  ⟨"EXVEC", 0x400E1020, 0x400, 5, 1, 0, .file, [(R.EXVEC_PC, .rw, .v 0)]⟩,
  ⟨"DFVEC", 0x400E1024, 0x400, 5, 1, 0, .file, [(R.DFVEC_PC, .rw, .v 0)]⟩,
  ⟨"NMIVEC", 0x400E1028, 0x400, 5, 1, 0, .file, [(R.NMIVEC_PC, .rw, .v 0)]⟩,
  ⟨"GDSBASE", 0x400E1030, 0x400, 5, 1, 0, .file, [(R.GDSBASE_ADDR, .rw, .v 0x0010E000)]⟩,
  ⟨"GDSLIM", 0x400E1034, 0x400, 5, 1, 0, .file, [(R.GDSLIM_ADDR, .rw, .v 0x0010D800)]⟩,
  ⟨"GRSBASE", 0x400E1038, 0x400, 5, 1, 0, .file, [(R.GRSBASE_ADDR, .rw, .v 0x0010D800)]⟩,
  ⟨"GRSLIM", 0x400E103C, 0x400, 5, 1, 0, .file, [(R.GRSLIM_ADDR, .rw, .v 0x0010D000)]⟩,
  ⟨"FSTATG", 0x400E1040, 0x400, 5, 1, 0, .file, [(R.FSTATG_KIND, .ro, .v 0), (R.FSTATG_CAUSE, .ro, .v 0),
    (R.FSTATG_WORLD, .ro, .v 0), (R.FSTATG_RING, .ro, .v 0), (R.FSTATG_WRITE, .ro, .v 0),
    (R.FSTATG_RSTK, .ro, .v 0)]⟩,
  ⟨"FADDRG", 0x400E1044, 0x400, 5, 1, 0, .file, [(R.FADDRG_ADDR, .ro, .v 0)]⟩,
  ⟨"FSTATS", 0x400E1048, 0x400, 5, 1, 0, .file, [(R.FSTATS_KIND, .ro, .v 0), (R.FSTATS_CAUSE, .ro, .v 0),
    (R.FSTATS_WORLD, .ro, .v 0), (R.FSTATS_RING, .ro, .v 0), (R.FSTATS_WRITE, .ro, .v 0),
    (R.FSTATS_RSTK, .ro, .v 0)]⟩,
  ⟨"FADDRS", 0x400E104C, 0x400, 5, 1, 0, .file, [(R.FADDRS_ADDR, .ro, .v 0)]⟩,
  ⟨"DFSTAT", 0x400E1050, 0x400, 5, 1, 0, .file, [(R.DFSTAT_KIND1, .ro, .v 0), (R.DFSTAT_KIND2, .ro, .v 0),
    (R.DFSTAT_ACTIVE, .w1c, .v 0), (R.DFSTAT_THIRD, .w1c, .v 0), (R.DFSTAT_KIND3, .ro, .v 0)]⟩,
  ⟨"FCNT", 0x400E1054, 0x400, 5, 1, 0, .file, [(R.FCNT_SHOP, .rc, .v 0), (R.FCNT_GUARD, .rc, .v 0)]⟩,
  ⟨"NMIPEND", 0x400E1058, 0x400, 5, 1, 0, .file, [(R.NMIPEND_ESTOP, .w1c, .v 0), (R.NMIPEND_TTFAULT, .w1c, .v 0),
    (R.NMIPEND_PAIR, .w1c, .v 0), (R.NMIPEND_WDOG, .w1c, .v 0), (R.NMIPEND_NMIACT, .ro, .v 0)]⟩,
  ⟨"RG0BASE", 0x400E1100, 0x400, 5, 1, 0, .file, [(R.RG0BASE_XCLS, .rw, .v 1), (R.RG0BASE_EN, .rw, .v 1),
    (R.RG0BASE_EXCL, .rw, .v 0), (R.RG0BASE_BASE, .rw, .v 0)]⟩,
  ⟨"RG0LIM", 0x400E1104, 0x400, 5, 1, 0, .file, [(R.RG0LIM_RCLS, .rw, .v 1), (R.RG0LIM_WCLS, .rw, .v 1),
    (R.RG0LIM_LIMIT, .rw, .v 0x3FFFFFF)]⟩,
  ⟨"RGBASE", 0x400E1100, 0x400, 5, 16, 8, .file, [(R.RGBASE_XCLS, .rw, .v 0), (R.RGBASE_EN, .rw, .v 0),
    (R.RGBASE_EXCL, .rw, .v 0), (R.RGBASE_BASE, .rw, .v 0)]⟩,
  ⟨"RGLIM", 0x400E1104, 0x400, 5, 16, 8, .file, [(R.RGLIM_RCLS, .rw, .v 0), (R.RGLIM_WCLS, .rw, .v 0),
    (R.RGLIM_LIMIT, .rw, .v 0)]⟩,
  ⟨"RSHBASE", 0x400E1180, 0x400, 5, 16, 8, .file, [(R.RSHBASE_XCLS, .rw, .v 0), (R.RSHBASE_EN, .rw, .v 0),
    (R.RSHBASE_LOCK, .rw, .v 0), (R.RSHBASE_BASE, .rw, .v 0)]⟩,
  ⟨"RSHLIM", 0x400E1184, 0x400, 5, 16, 8, .file, [(R.RSHLIM_RCLS, .rw, .v 0), (R.RSHLIM_WCLS, .rw, .v 0),
    (R.RSHLIM_LIMIT, .rw, .v 0)]⟩]

/-- Window 0x400E, part 3. -/
def rows400Ec : List Row := [
  ⟨"DFSAVE", 0x400E1200, 0x400, 5, 16, 4, .file, [(R.DFSAVE_WORD, .rw, .v 0)]⟩,
  ⟨"ESTOPCFG", 0x400E0040, 0x0, 1, 1, 0, .file, [(R.ESTOPCFG_FILT, .rw, .l 0)]⟩,
  ⟨"ESTOPSTAT", 0x400E0044, 0x0, 1, 1, 0, .file, [(R.ESTOPSTAT_LEVEL, .ro, .v 0), (R.ESTOPSTAT_FELL, .w1c, .v 0),
    (R.ESTOPSTAT_WSTAT, .ro, .v 0), (R.ESTOPSTAT_COUNT, .rc, .v 0)]⟩,
  ⟨"DFBND", 0x400E1240, 0x400, 5, 4, 4, .file, [(R.DFBND_ADDR, .rw, .v 0)]⟩,
  ⟨"MEMECC0", 0x400E3000, 0x0, 1, 1, 0, .file, [(R.MEMECC0_TCMCE, .rc, .v 0), (R.MEMECC0_SRAMCE, .rc, .v 0),
    (R.MEMECC0_MRAMCE, .rc, .v 0), (R.MEMECC0_SCRUBCE, .rc, .v 0)]⟩,
  ⟨"MEMECC1", 0x400E3004, 0x0, 1, 1, 0, .file, [(R.MEMECC1_TCMUE, .rc, .v 0), (R.MEMECC1_SRAMUE, .rc, .v 0),
    (R.MEMECC1_MRAMUE, .rc, .v 0), (R.MEMECC1_POISONW, .rc, .v 0)]⟩,
  ⟨"MEMUEADDR", 0x400E3008, 0x0, 1, 1, 0, .file, [(R.MEMUEADDR_ADDR, .ro, .v 0)]⟩,
  ⟨"MEMUEWHO", 0x400E300C, 0x0, 1, 1, 0, .file, [(R.MEMUEWHO_MEM, .ro, .v 0), (R.MEMUEWHO_SCRUB, .ro, .v 0),
    (R.MEMUEWHO_PHYS, .ro, .v 0), (R.MEMUEWHO_SEEN, .w1c, .v 0)]⟩,
  ⟨"MRSCRUB", 0x400E3010, 0x0, 1, 1, 0, .file, [(R.MRSCRUB_PER, .rw, .v 10), (R.MRSCRUB_PASSES, .ro, .v 0)]⟩,
  ⟨"MRSTAT", 0x400E3014, 0x0, 1, 1, 0, .view, [(R.MRSTAT_QUEUE, .ro, .v 0), (R.MRSTAT_INCOMP, .ro, .l 0),
    (R.MRSTAT_OPEN, .ro, .v 0)]⟩,
  ⟨"MRLCMD", 0x400E3018, 0x0, 1, 1, 0, .file, [(R.MRLCMD_CMD, .wo, .v 0), (R.MRLCMD_LINE, .wo, .v 0)]⟩,
  ⟨"MRLRES", 0x400E301C, 0x0, 1, 1, 0, .perReq, [(R.MRLRES_CODE, .ro, .v 0)]⟩,
  ⟨"MRLOPEN", 0x400E3020, 0x4, 8, 1, 0, .file, [(R.MRLOPEN_VALID, .ro, .l 0), (R.MRLOPEN_DAWNF, .ro, .l 0),
    (R.MRLOPEN_OWNER, .ro, .l 0), (R.MRLOPEN_LINE, .ro, .l 0)]⟩,
  ⟨"SEALCFG", 0x400E3040, 0x8, 4, 1, 0, .file, [(R.SEALCFG_EN, .ro, .l 0), (R.SEALCFG_LINE, .ro, .l 0)]⟩,
  ⟨"SEALLIM", 0x400E3044, 0x8, 4, 1, 0, .file, [(R.SEALLIM_LINE, .ro, .l 0)]⟩,
  ⟨"SEALSTAT", 0x400E3060, 0x0, 1, 1, 0, .file, [(R.SEALSTAT_NOKEY, .ro, .l 0), (R.SEALSTAT_OVLP, .ro, .l 0)]⟩,
  ⟨"STCHGADDR", 0x400E0500, 0x8, 5, 1, 0, .file, [(R.STCHGADDR_ADDR, .ro, .v 0)]⟩,
  ⟨"STCHGCNT", 0x400E0504, 0x8, 5, 1, 0, .file, [(R.STCHGCNT_COUNT, .rc, .v 0)]⟩,
  ⟨"LBSTAT", 0x400E3800, 0x0, 1, 1, 0, .file, [(R.LBSTAT_NEXT, .ro, .l 0), (R.LBSTAT_WAIT, .rc, .v 0)]⟩,
  ⟨"LBSEQ", 0x400E3804, 0x0, 1, 1, 0, .file, [(R.LBSEQ_SEQ, .ro, .l 0)]⟩,
  ⟨"LOGENT", 0x400E4000, 0x20, 512, 8, 4, .view, [(R.LOGENT_DATA, .ro, .v 0)]⟩,
  ⟨"SNAPPAGE", 0x400E8000, 0x4, 1024, 1, 0, .view, [(R.SNAPPAGE_DATA, .ro, .v 0)]⟩,
  ⟨"SNAPCTL", 0x400E9000, 0x0, 1, 1, 0, .file, [(R.SNAPCTL_PER, .rw, .v 10), (R.SNAPCTL_NOW, .wo, .v 0)]⟩,
  ⟨"FLTSUM", 0x400E0600, 0x0, 1, 1, 0, .view, [(R.FLTSUM_COMPARE, .ro, .v 0), (R.FLTSUM_FINEDLY, .ro, .v 0),
    (R.FLTSUM_PAIRDIV, .ro, .v 0), (R.FLTSUM_THIRD, .ro, .v 0), (R.FLTSUM_WDOG, .ro, .v 0),
    (R.FLTSUM_UNCORR, .ro, .v 0), (R.FLTSUM_RNGSTOP, .ro, .v 0), (R.FLTSUM_HMALARM, .ro, .v 0),
    (R.FLTSUM_BANKERR, .ro, .v 0), (R.FLTSUM_ATTFAULT, .ro, .v 0), (R.FLTSUM_CHFAULT, .ro, .v 0)]⟩]

/-- Window 0x400E, part 4. -/
def rows400Ed : List Row := [
  ⟨"FLTWARN", 0x400E0604, 0x0, 1, 1, 0, .view, [(R.FLTWARN_REDUCED, .ro, .v 0), (R.FLTWARN_DAWNF, .ro, .v 0),
    (R.FLTWARN_RING, .ro, .v 0), (R.FLTWARN_HMRC, .ro, .v 0)]⟩,
  ⟨"FRWSTAT", 0x400E0608, 0x0, 1, 1, 0, .perReq, [(R.FRWSTAT_CODE, .ro, .v 0)]⟩,
  ⟨"GPOLICY", 0x400E0610, 0x0, 1, 1, 0, .file, [(R.GPOLICY_DIVACT, .rw, .l 1), (R.GPOLICY_RSTMAX, .rw, .l 0),
    (R.GPOLICY_G3ACT, .rw, .l 1), (R.GPOLICY_C3ACT, .rw, .l 1), (R.GPOLICY_WDACT, .rw, .l 0),
    (R.GPOLICY_CLR, .rw, .l 0), (R.GPOLICY_PLOCK, .w1s, .v 0)]⟩,
  ⟨"LOCKSTAT", 0x400E0614, 0x0, 1, 1, 0, .file, [(R.LOCKSTAT_CAUSE, .ro, .h 0), (R.LOCKSTAT_PEND, .ro, .h 0),
    (R.LOCKSTAT_CLROK, .ro, .h 0), (R.LOCKSTAT_COUNT, .ro, .h 0)]⟩,
  ⟨"PAIRSTAT", 0x400E0620, 0x0, 1, 1, 0, .file, [(R.PAIRSTAT_DIV, .w1c, .v 0), (R.PAIRSTAT_TCMDIFF, .w1c, .v 0),
    (R.PAIRSTAT_RESTARTING, .ro, .v 0), (R.PAIRSTAT_WHAT, .ro, .v 0), (R.PAIRSTAT_RESTARTS, .ro, .v 0),
    (R.PAIRSTAT_COUNT, .ro, .h 0)]⟩,
  ⟨"PAIRPC0", 0x400E0624, 0x0, 1, 1, 0, .file, [(R.PAIRPC0_PC, .ro, .v 0)]⟩,
  ⟨"PAIRPC1", 0x400E0628, 0x0, 1, 1, 0, .file, [(R.PAIRPC1_PC, .ro, .v 0)]⟩,
  ⟨"PAIRADDR", 0x400E062C, 0x0, 1, 1, 0, .file, [(R.PAIRADDR_ADDR, .ro, .v 0)]⟩,
  ⟨"SAFETEST", 0x400E0630, 0x0, 1, 1, 0, .file, [(R.SAFETEST_GO, .wo, .v 0), (R.SAFETEST_COPY, .rw, .v 0),
    (R.SAFETEST_BUSY, .ro, .v 0), (R.SAFETEST_RESX, .ro, .v 0)]⟩,
  ⟨"SAFERES", 0x400E0634, 0x4, 2, 1, 0, .file, [(R.SAFERES_RES, .ro, .v 0)]⟩,
  ⟨"PAIRINJ", 0x400E063C, 0x0, 1, 1, 0, .file, [(R.PAIRINJ_GO, .wo, .v 0), (R.PAIRINJ_WHAT, .wo, .v 0)]⟩,
  ⟨"WDCFG", 0x400E0700, 0x10, 5, 1, 0, .file, [(R.WDCFG_MAX, .rw, .l 0), (R.WDCFG_MIN, .rw, .l 0)]⟩,
  ⟨"WDCTL", 0x400E0704, 0x10, 5, 1, 0, .file, [(R.WDCTL_EN, .rw, .l 0), (R.WDCTL_LOCK, .w1s, .l 0),
    (R.WDCTL_GRACE, .rw, .l 0)]⟩,
  ⟨"WDKICK", 0x400E0708, 0x10, 5, 1, 0, .file, [(R.WDKICK_KEY, .wo, .v 0)]⟩,
  ⟨"WDSTAT", 0x400E070C, 0x10, 5, 1, 0, .file, [(R.WDSTAT_COUNTING, .ro, .v 0), (R.WDSTAT_EXP, .w1c, .v 0),
    (R.WDSTAT_BADKICK, .w1c, .v 0), (R.WDSTAT_S2PEND, .ro, .v 0), (R.WDSTAT_NEXTKEY, .ro, .v 0)]⟩,
  ⟨"SUPSTAT", 0x400E020C, 0x0, 1, 1, 0, .file, [(R.SUPSTAT_VDDDIP, .rc, .v 0), (R.SUPSTAT_VDDMDIP, .rc, .v 0)]⟩]

/-- Window 0x400E. -/
def rows400E : List Row := rows400Ea ++ rows400Eb ++ rows400Ec ++ rows400Ed

/-- Window 0x400F. -/
def rows400F : List Row := [
  ⟨"UNITPRES", 0x400F0000, 0x0, 1, 1, 0, .view, [(R.UNITPRES_VARIANT, .ro, .l 0), (R.UNITPRES_NPCORE, .ro, .l 0),
    (R.UNITPRES_NLOCAL, .ro, .l 0), (R.UNITPRES_ENWARD, .ro, .l 0), (R.UNITPRES_NMAC, .ro, .l 0),
    (R.UNITPRES_NADC, .ro, .l 0), (R.UNITPRES_NRECIT, .ro, .l 0), (R.UNITPRES_RNGSRC, .ro, .l 0),
    (R.UNITPRES_NDRBG, .ro, .l 0)]⟩,
  ⟨"CORETOP", 0x400F0004, 0x0, 1, 1, 0, .view, [(R.CORETOP_PHYS, .ro, .l 0), (R.CORETOP_GLO, .ro, .l 0),
    (R.CORETOP_IND, .ro, .l 0)]⟩,
  ⟨"DEVID", 0x400F0008, 0x0, 1, 1, 0, .view, [(R.DEVID_FAMILY, .ro, .v 0x4816), (R.DEVID_STEP, .ro, .l 0)]⟩]

/-- Window 0x4010. -/
def rows4010 : List Row := [
  ⟨"PINFN", 0x40100000, 0x4, 96, 1, 0, .view, [(R.PINFN_FUNC, .rw, .l 0), (R.PINFN_PULL, .rw, .l 0),
    (R.PINFN_DRIVE, .rw, .l 0), (R.PINFN_SAFETY, .rw, .l 0), (R.PINFN_BUSY, .ro, .v 0), (R.PINFN_WSTAT, .ro, .v 0),
    (R.PINFN_LEVEL, .ro, .v 0)]⟩,
  ⟨"PINBANK", 0x40100200, 0x0, 1, 1, 0, .file, [(R.PINBANK_VSEL, .rw, .l 0), (R.PINBANK_SUPPLY, .ro, .v 0),
    (R.PINBANK_BANKERR, .ro, .v 0)]⟩]

/-- The registers of the window that address `a` lies in. -/
def rowsOf (a : Nat) : List Row :=
  match a / 0x10000 with
  | 0x4001 => rows4001
  | 0x4002 => rows4002
  | 0x4003 => rows4003
  | 0x4004 => rows4004
  | 0x4005 => rows4005
  | 0x4006 => rows4006
  | 0x4007 => rows4007
  | 0x4008 => rows4008
  | 0x4009 => rows4009
  | 0x400A => rows400A
  | 0x400B => rows400B
  | 0x400C => rows400C
  | 0x400D => rows400D
  | 0x400E => rows400E
  | 0x400F => rows400F
  | 0x4010 => rows4010
  | _ => []

/-- The row holds a register at address `a`. -/
def Row.covers (r : Row) (a : Nat) : Bool :=
  let d := a - r.base
  let i := if r.stride = 0 then 0 else d / r.stride
  let e := if r.stride = 0 then d else d % r.stride
  let j := if r.subst = 0 then 0 else e / r.subst
  let z := if r.subst = 0 then e else e % r.subst
  decide (r.base ≤ a) && decide (i < r.count) && decide (j < r.sub) && decide (z = 0)

/-- The register at address `a`. -/
def rowAt (a : Nat) : Option Row := (rowsOf a).find? (fun r => r.covers a)

/-- The index of address `a` in the row's array. -/
def Row.index (r : Row) (a : Nat) : Nat := if r.stride = 0 then 0 else (a - r.base) / r.stride

/-- The mask of the fields that `p` selects. -/
def Row.mask (r : Row) (p : Acc → Rst → Bool) : Word :=
  BitVec.ofNat 32 (r.fields.foldl (fun m f => if p f.2.1 f.2.2 then m ||| f.1.mask else m) 0)

/-- The number in the Reset column. -/
def Rst.num : Rst → Nat
  | .v n => n
  | .l n => n
  | .h n => n

/-- A register's value after a reset of every domain: each field at its Reset column. -/
def Row.resetValue (r : Row) : Word :=
  BitVec.ofNat 32 (r.fields.foldl (fun m f => m ||| ((f.2.2.num % 2 ^ f.1.w) <<< f.1.lo)) 0)

/-- What differs from one register of an array to the next in the Reset column: TBCFG.SRC of a local timebase is its own channel
(assumption 2, DESIGN CHOICE). -/
def resetOwn (a : Nat) : Nat :=
  if 0x40010000 ≤ a ∧ a < 0x40010400 ∧ a % 0x40 = 0 then (a - 0x40010000) / 0x40 * 8 else 0

/-- The register's value where nothing has been stored. -/
def resetAt (a : Nat) : Word :=
  match rowAt a with
  | some r => r.resetValue ||| BitVec.ofNat 32 (resetOwn a)
  | none   => 0

end Sys2Proof.Machine
end

