-- ==== Sys2Proof/Syntax.lean ====
section
/-! DEFINITION. The commands. -/

namespace Sys2Proof

/-- who -/
inductive Rq | core (l : Nat) | staff
deriving DecidableEq, Repr

/-- The size of a load or a store (R238). -/
inductive Size | byte | half | word
deriving DecidableEq, Repr

/-- What a reserved code does, chosen within the bounds of R245: the entries popped from each stack and the words then pushed, new
stack pointers, ACC, XA and YA, bytes stored in memory, and a data access (address, size, store) whose fault it may raise. -/
structure ReservedEffect where
  pops   : Nat := 0
  pushes : List Word := []
  rpops  : Nat := 0
  rpush  : List Word := []
  dsp    : Option Word := none
  rsp    : Option Word := none
  acc    : Option (BitVec 72) := none
  xa     : Option Word := none
  ya     : Option Word := none
  bytes  : List (Word × Byte) := []
  access : Option (Word × Size × Bool) := none
deriving DecidableEq, Repr

/-- What a roll call or a join gave this device (R351-R353): its address, the number of devices, D(a) of each address in
1.25 ns (0: missing), the delays of the links at ports 0 and 1, the conflicts, the publication table (owner address and ENPUB
index of each record slot), the step to ring time in 1/256 PSCLK and the duration in µs. `rival`: another device claimed this
device's FIXED address and lost. For the ring nonce of R376: the nonce that the master sent, and the answers of the other devices,
those of lower addresses and those of higher ones. -/
structure RollResult where
  addr    : Option Nat
  ndev    : Nat
  hops    : List Nat
  links   : List Nat
  demoted : Bool
  coll    : Bool
  rival   : Bool
  modemis : Bool
  overrun : Bool
  auth    : Bool
  table   : List (Nat × Nat)
  step    : Int
  dur     : Nat
  nonce   : List Byte
  below   : List Byte
  above   : List Byte
deriving DecidableEq, Repr

/-- A publication record (R359), with its check field. -/
structure PubRecord where
  word    : BitVec 48
  vel     : BitVec 32
  instant : BitVec 10
  ref     : Bool
  valid   : Bool
  still   : Bool
  discgen : BitVec 3
  check   : BitVec 32
deriving DecidableEq, Repr

/-- A message as a receiver sees it (R363), in message slot `slot` (0 to 4). -/
structure EnFrame where
  slot  : BitVec 3
  typ   : BitVec 4
  cls   : BitVec 2
  bcast : Bool
  pass  : Bool
  src   : BitVec 8
  dest  : BitVec 8
  seq   : BitVec 8
  tag   : BitVec 8
  body  : BitVec 56
  check : BitVec 32
deriving DecidableEq, Repr

/-- A section of a cycle: its characters before the check, and the check field (R354, R355). -/
structure EnSection where
  chars : List Byte
  check : BitVec 32
deriving DecidableEq, Repr

/-- A cycle as this device sees it (R354-R357): the full cycle number, the wall time of its start on ring A in 1/256 PSCLK, the
edge at which its start on ring B passes, the master's break mark and heal mark, and the sections that arrive on ring A and on
ring B, in order: header, status, record slots 0 to 15, message slots 0 to 4; none where no cycle arrives. At the master they are
the sections of the cycle before, which have returned to it. -/
structure EnHdr where
  cycle   : Nat
  arrival : Nat
  edgeB   : Nat
  brk     : Option Nat
  heal    : Bool
  ringA   : List EnSection
  ringB   : List EnSection
deriving DecidableEq, Repr

/-- What DAWN steps 1, 2 and 4 found (the DAWN table): an OTP failure, a self-test failure, whether the boot image is accepted,
its SHA-256 measurement as 32 bytes; and the balls sampled at t = 0: ENROLL high (R453), STCS_N low at both samples (R409). -/
structure DawnResult where
  otpFail  : Bool
  selfFail : Bool
  imgOk    : Bool
  meas     : List Nat
  enroll   : Bool
  uart     : Bool
deriving DecidableEq, Repr

/-- What a frame brought: SLO idle high at the request, Ack and start bit seen, the CDS bit, the data bits in the order
received, and the line delay measured. -/
structure Frame where
  idle  : Bool
  ack   : Bool
  start : Bool
  cds   : Bool
  bits  : List Bool
  delay : Nat
deriving DecidableEq, Repr

/-- The balls and the certificate check as a command finds them: ENROLL reads high (R453), the buffered certificate passes the
check of R448. -/
structure StaffEnv where
  enroll : Bool
  certOk : Bool
deriving DecidableEq, Repr

/-- The members of the shared bus (R266). -/
inductive BusMember | core (l : Nat) | enward | refill | staff | mac (m : Nat) | attendance
deriving DecidableEq, Repr

/-- The kinds of transfer on the shared bus (R265): a buffered store or MEMW write; up to 4 bytes within a word; up to 16 bytes within
a block (fetch lines, spill and fill groups, refill prefetches); the locked transfer of XCHG or CAS. -/
inductive BusXfer | store | word | block | atomic
deriving DecidableEq, Repr

/-- The instructions of the TAP (R459): those of IEEE 1149.1, and the Finrun's own, which halt and access cores (the registers by their
special register numbers, 0 the PC) and tap a noise source. -/
inductive JtagOp
  | bypass
  | sample
  | extest
  | idcode
  | halt (l : Nat)
  | resume (l : Nat)
  | readCore (l : Nat) (n : BitVec 8)
  | writeCore (l : Nat) (n : BitVec 8) (v : Word)
  | rawTap (on : Bool) (src : Nat)
  | rawWord
deriving DecidableEq, Repr

/-- The commands, one constructor per row of the table. `l` is a logical core (0 G, 1-4 C0-C3), `r` the requester of a register access, `k`
the PSCLK edge of an event, counted as State.now counts them. -/
inductive Instr
  -- Power, DAWN and modes
  /-- POWER_ON (R46) -/
  | powerOn
  /-- BROWN_OUT (R46) -/
  | brownOut (supply : Nat) (begun : Bool)
  /-- SUPPLY_DIP (R516) -/
  | supplyDip (vdd begun : Bool)
  /-- RESET_PIN (R46) -/
  | resetPin (low : Bool)
  /-- PLL_LOCK_LOSS (R23) -/
  | pllLockLoss (begun : Bool)
  /-- REFERENCE_ABSENT (R23) -/
  | referenceAbsent (begun : Bool)
  /-- DAWN_START (R23) -/
  | dawnStart (d : DawnResult)
  /-- DAWN_IDENTITY_CHECK (R448) -/
  | dawnIdentityCheck (ok cfgOk : Bool) (cfg : List (Nat × Word))
  /-- ROLL_CALL (R351) -/
  | rollCall (k : Nat) (x : RollResult)
  /-- ROLL_CALL_TIMEOUT (R49) -/
  | rollCallTimeout (k : Nat)
  /-- DAWN_TIMEOUT (R36) -/
  | dawnTimeout (k : Nat)
  /-- MODE_REQUEST_NIGHT (R36) -/
  | modeRequestNight (r : Rq)
  /-- MODE_REQUEST_DAWN (R46) -/
  | modeRequestDawn (r : Rq)
  /-- MODE_REQUEST_PREPARE (R36) -/
  | modeRequestPrepare (r : Rq)
  /-- MODE_REQUEST_RUN (R36) -/
  | modeRequestRun (r : Rq)
  /-- MODE_REQUEST_HOLD (R36) -/
  | modeRequestHold (r : Rq)
  /-- MODE_REQUEST_SAFE (R36) -/
  | modeRequestSafe (r : Rq)
  /-- MODE_REQUEST_SERVICE (R457) -/
  | modeRequestService (r : Rq)
  /-- MODE_REQUEST_LOCKOUT (R36) -/
  | modeRequestLockout (r : Rq)
  /-- STAFF_CLEAR (R507) -/
  | staffClear
  /-- MODE_TRANSITION (R38) -/
  | modeTransition
  /-- NIGHT_WAKEOUT_LOW (R469) -/
  | nightWakeoutLow
  /-- CORE_RELEASE (R45) -/
  | coreRelease (r : Rq) (l : Nat)
  /-- CORE_HALT (R45) -/
  | coreHalt (r : Rq) (l : Nat)
  -- Registers
  /-- CLKOBS_WRITE (R24) -/
  | clkobsWrite (r : Rq) (v : Word)
  /-- REGISTER_WRITE (R9) -/
  | registerWrite (r : Rq) (a : Word) (size : Size) (v : Word)
  /-- RC_FIELD_READ (R544) -/
  | rcFieldRead (r : Rq) (a : Word)
  /-- LATCHED_READ (R64) -/
  | latchedRead (r : Rq) (a : Word)
  -- Position sources
  /-- CHANNEL_MODE_WRITE (R61) -/
  | channelModeWrite (r : Rq) (ch : Nat) (v : Word)
  /-- CHANNEL_CLEAR (R75) -/
  | channelClear (r : Rq) (ch : Nat)
  /-- QUAD_STEP (R66) -/
  | quadStep (ch k : Nat) (a b : Bool)
  /-- INDEX_EDGE (R71) -/
  | indexEdge (ch k : Nat) (z : Bool)
  /-- INDEX_ARM (R71) -/
  | indexArm (r : Rq) (ch : Nat)
  /-- WIRE_BREAK (R73): the pairs that read an invalid level at edge `k`, each with the edge since which it has -/
  | wireBreak (ch k : Nat) (pairs : List (Nat × Nat))
  /-- INVALID_EPISODE_END (R73): at edge `k`, of an episode that began at edge `since` -/
  | invalidEpisodeEnd (ch pair since k : Nat)
  /-- CHANNEL_SYNC_COMPLETE (R75) -/
  | channelSyncComplete (ch k : Nat)
  /-- FRAME_REQUEST (R83) -/
  | frameRequest (ch : Nat)
  /-- ENCODER_FRAME (R81) -/
  | encoderFrame (ch k : Nat) (f : Frame)
  /-- SINCOS_SAMPLE (R84) -/
  | sincosSample (ch k : Nat) (sn cs : Int) (clip : Bool)
  /-- MAINS_CROSSING (R87): the comparator output stayed high for `high` PSCLK -/
  | mainsCrossing (k : Nat) (rise stamp : Int) (high : Nat)
  /-- MAINS_LOSS (R88) -/
  | mainsLoss (k : Nat)
  /-- MAINS_ENABLE (R89) -/
  | mainsEnable (r : Rq)
  /-- MAINS_DISABLE (R89) -/
  | mainsDisable (r : Rq)
  -- Timebases
  /-- SET (R114) -/
  | tbSet (r : Rq) (t : Nat)
  /-- ACCEPT (R114) -/
  | tbAccept (r : Rq) (t : Nat)
  /-- SHIFT (R114) -/
  | tbShift (r : Rq) (t : Nat)
  /-- UNREF (R114) -/
  | tbUnref (r : Rq) (t : Nat)
  /-- SWITCHB (R114) -/
  | tbSwitchb (r : Rq) (t newsrc : Nat)
  /-- SWITCHD (R114) -/
  | tbSwitchd (r : Rq) (t newsrc : Nat)
  /-- TIMEBASE_COMMAND_EFFECT (R115) -/
  | timebaseCommandEffect (t : Nat)
  /-- TBCFG_KIND_WRITE (R96) -/
  | tbcfgKindWrite (r : Rq) (t : Nat) (v : Word)
  /-- TBMOD_WRITE (R104) -/
  | tbmodWrite (r : Rq) (t : Nat) (v : Word)
  /-- TBGDEN_WRITE (R108) -/
  | tbgdenWrite (r : Rq) (t : Nat) (v : Word)
  /-- TBSYNVEL_WRITE (R113) -/
  | tbsynvelWrite (r : Rq) (t : Nat) (v : Word)
  /-- WADJ_WRITE (R111) -/
  | wadjWrite (r : Rq) (v : Word)
  /-- WSTEPH_WRITE (R111) -/
  | wstephWrite (r : Rq) (v : Word)
  /-- WALLCTL_WRITE (R112) -/
  | wallctlWrite (r : Rq) (v : Word)
  /-- STANDSTILL (R102) -/
  | standstill (t k : Nat)
  /-- EXTRAPOLATION_STALE (R98) -/
  | extrapolationStale (t k : Nat)
  /-- CAPCMD_GO (R120) -/
  | capcmdGo (r : Rq)
  /-- CAPFREE_WRITE (R121) -/
  | capfreeWrite (r : Rq) (mask : Word)
  -- The Timetable
  /-- ARM (R232) -/
  | arm (l : Nat)
  /-- TTNEWGO (R125) -/
  | ttnewgo (r : Rq)
  /-- DISARM (R129) -/
  | disarm (r : Rq) (slot : Nat)
  /-- CROSSING (R130) -/
  | crossing (slot k : Nat)
  /-- OUTPUT_EDGE (R143) -/
  | outputEdge (gen : Bool) (n k : Nat)
  /-- COMPARE_FAULT (R147) -/
  | compareFault (slot : Nat)
  /-- FINE_DELAY_FAULT (R547) -/
  | fineDelayFault (gen : Bool) (n : Nat)
  /-- LATENT_DIVERGENCE (R148) -/
  | latentDivergence (slot : Nat)
  /-- TTINJ (R149) -/
  | ttinj (r : Rq) (v : Word)
  /-- TTMEMBASE_WRITE (R141) -/
  | ttmembaseWrite (r : Rq) (v : Word)
  /-- TTRESV_WRITE (R168) -/
  | ttresvWrite (r : Rq) (quota : Option Nat) (v : Word)
  -- The Syllabus
  /-- QCMD_BIND (R153) -/
  | qcmdBind (r : Rq) (q : Nat)
  /-- QCMD_START (R154) -/
  | qcmdStart (r : Rq) (q : Nat)
  /-- QCMD_STOP (R154) -/
  | qcmdStop (r : Rq) (q : Nat)
  /-- QCMD_FLUSH (R154) -/
  | qcmdFlush (r : Rq) (q : Nat)
  /-- QCMD_UNBIND (R154) -/
  | qcmdUnbind (r : Rq) (q : Nat)
  /-- QCMD_DROP (R154) -/
  | qcmdDrop (r : Rq) (q : Nat)
  /-- QTAIL_WRITE (R151) -/
  | qtailWrite (r : Rq) (q : Nat) (v : Word)
  /-- REFILL (R156) -/
  | refill (q k : Nat)
  /-- PREFETCH_COMPLETE (R157) -/
  | prefetchComplete (q k : Nat)
  /-- REPORT_POSTED (R161) -/
  | reportPosted
  -- Outputs and pins
  /-- EVSET_REGISTER_WRITE (R175) -/
  | evsetRegisterWrite (r : Rq) (n : Nat) (mask : Word)
  /-- EVCLR_REGISTER_WRITE (R175) -/
  | evclrRegisterWrite (r : Rq) (n : Nat) (mask : Word)
  /-- EVTOG_REGISTER_WRITE (R175) -/
  | evtogRegisterWrite (r : Rq) (n : Nat) (mask : Word)
  /-- EVCFG_WRITE (R174) -/
  | evcfgWrite (r : Rq) (line : Nat) (v : Word)
  /-- FORCE_WRITE (R178) -/
  | forceWrite (r : Rq) (levels : Bool) (n : Nat) (v : Word)
  /-- PTRATE_WRITE (R179) -/
  | ptrateWrite (r : Rq) (g : Nat) (v : Word)
  /-- PTCTL_GO (R181) -/
  | ptctlGo (r : Rq) (g : Nat)
  /-- PTCTL_STOP (R181) -/
  | ptctlStop (r : Rq) (g : Nat)
  /-- PULSE_TRAIN_DONE (R181) -/
  | pulseTrainDone (g : Nat)
  /-- DIRSU_ELAPSED (R182) -/
  | dirsuElapsed (g k : Nat)
  /-- PWMPER_WRITE (R185) -/
  | pwmperWrite (r : Rq) (c : Nat) (v : Word)
  /-- PWMDUTY_WRITE (R185) -/
  | pwmdutyWrite (r : Rq) (c : Nat) (v : Word)
  /-- SDCODE_WRITE (R186) -/
  | sdcodeWrite (r : Rq) (i : Nat) (v : Word)
  /-- PINFN_WRITE (R190) -/
  | pinfnWrite (r : Rq) (b : Nat) (v : Word)
  /-- PIN_FUNCTION_SWITCH (R191) -/
  | pinFunctionSwitch (b k : Nat)
  /-- PINBANK_WRITE (R194) -/
  | pinbankWrite (r : Rq) (v : Word)
  /-- BANK_SUPPLY_MISMATCH (R194) -/
  | bankSupplyMismatch (bank code : Nat) (inRange : Bool)
  -- Instructions of a core: literals and transfers of control
  /-- LIT (R221) -/
  | lit (l : Nat) (v : BitVec 15)
  /-- LITX (R222) -/
  | litx (l : Nat) (v : BitVec 12)
  /-- BEQ (R223) -/
  | beq (l : Nat) (off : BitVec 8)
  /-- BNE (R223) -/
  | bne (l : Nat) (off : BitVec 8)
  /-- BLT (R223) -/
  | blt (l : Nat) (off : BitVec 8)
  /-- BGE (R223) -/
  | bge (l : Nat) (off : BitVec 8)
  /-- BLTU (R223) -/
  | bltu (l : Nat) (off : BitVec 8)
  /-- BGEU (R223) -/
  | bgeu (l : Nat) (off : BitVec 8)
  /-- BGT (R223) -/
  | bgt (l : Nat) (off : BitVec 8)
  /-- BLE (R223) -/
  | ble (l : Nat) (off : BitVec 8)
  /-- BZ (R223) -/
  | bz (l : Nat) (off : BitVec 8)
  /-- BNZ (R223) -/
  | bnz (l : Nat) (off : BitVec 8)
  /-- BLTZ (R223) -/
  | bltz (l : Nat) (off : BitVec 8)
  /-- BGEZ (R223) -/
  | bgez (l : Nat) (off : BitVec 8)
  /-- BGTZ (R223) -/
  | bgtz (l : Nat) (off : BitVec 8)
  /-- BLEZ (R223) -/
  | blez (l : Nat) (off : BitVec 8)
  /-- BODD (R223) -/
  | bodd (l : Nat) (off : BitVec 8)
  /-- BEVEN (R223) -/
  | beven (l : Nat) (off : BitVec 8)
  /-- JMP (R224) -/
  | jmp (l : Nat) (off : BitVec 12)
  /-- CALL (R224) -/
  | call (l : Nat) (off : BitVec 12)
  /-- LOOP (R225) -/
  | loop (l : Nat) (off : BitVec 11)
  -- The stack group
  /-- NOP (R227) -/
  | nop (l : Nat)
  /-- DUP (R227) -/
  | dup (l : Nat)
  /-- DROP (R227) -/
  | drop (l : Nat)
  /-- SWAP (R227) -/
  | swap (l : Nat)
  /-- OVER (R227) -/
  | over (l : Nat)
  /-- ROT (R227) -/
  | rot (l : Nat)
  /-- NIP (R227) -/
  | nip (l : Nat)
  /-- TUCK (R227) -/
  | tuck (l : Nat)
  /-- DUP2 (R227) -/
  | dup2 (l : Nat)
  /-- DROP2 (R227) -/
  | drop2 (l : Nat)
  /-- TOR (R227) -/
  | tor (l : Nat)
  /-- FROMR (R227) -/
  | fromr (l : Nat)
  /-- RFETCH (R227) -/
  | rfetch (l : Nat)
  /-- RDROP (R227) -/
  | rdrop (l : Nat)
  -- The ALU, multiply and divide groups
  /-- ADD (R228) -/
  | add (l : Nat)
  /-- SUB (R228) -/
  | sub (l : Nat)
  /-- AND (R228) -/
  | and (l : Nat)
  /-- OR (R228) -/
  | or (l : Nat)
  /-- XOR (R228) -/
  | xor (l : Nat)
  /-- NOT (R228) -/
  | not (l : Nat)
  /-- NEG (R228) -/
  | neg (l : Nat)
  /-- SHL (R228) -/
  | shl (l : Nat)
  /-- SHR (R228) -/
  | shr (l : Nat)
  /-- SAR (R228) -/
  | sar (l : Nat)
  /-- ADDS (R228) -/
  | adds (l : Nat)
  /-- SUBS (R228) -/
  | subs (l : Nat)
  /-- NEGS (R228) -/
  | negs (l : Nat)
  /-- ABS (R228) -/
  | abs (l : Nat)
  /-- ABSS (R228) -/
  | abss (l : Nat)
  /-- MIN (R228) -/
  | min (l : Nat)
  /-- MAX (R228) -/
  | max (l : Nat)
  /-- MINU (R228) -/
  | minu (l : Nat)
  /-- MAXU (R228) -/
  | maxu (l : Nat)
  /-- SEXT8 (R228) -/
  | sext8 (l : Nat)
  /-- SEXT16 (R228) -/
  | sext16 (l : Nat)
  /-- ZEXT8 (R228) -/
  | zext8 (l : Nat)
  /-- ZEXT16 (R228) -/
  | zext16 (l : Nat)
  /-- CLZ (R228) -/
  | clz (l : Nat)
  /-- SLT (R228) -/
  | slt (l : Nat)
  /-- SLTU (R228) -/
  | sltu (l : Nat)
  /-- SAT16 (R228) -/
  | sat16 (l : Nat)
  /-- MUL (R229) -/
  | mul (l : Nat)
  /-- MULHS (R229) -/
  | mulhs (l : Nat)
  /-- MULHU (R229) -/
  | mulhu (l : Nat)
  /-- MULQ (R212) -/
  | mulq (l : Nat)
  /-- DIV (R255) -/
  | div (l : Nat) (abandon : Bool)
  /-- DIVU (R255) -/
  | divu (l : Nat) (abandon : Bool)
  /-- REM (R229) -/
  | rem (l : Nat) (abandon : Bool)
  /-- REMU (R229) -/
  | remu (l : Nat) (abandon : Bool)
  -- The memory and control groups
  /-- XCHG (R230) -/
  | xchg (l : Nat)
  /-- CAS (R230) -/
  | cas (l : Nat)
  /-- FENCE (R275) -/
  | fence (l : Nat)
  /-- RET (R226) -/
  | ret (l : Nat)
  /-- JMPI (R226) -/
  | jmpi (l : Nat)
  /-- CALLI (R226) -/
  | calli (l : Nat)
  /-- GATE (R284) -/
  | gate (l : Nat) (i : BitVec 6)
  /-- GRET (R286) -/
  | gret (l : Nat)
  /-- RETW (R287) -/
  | retw (l : Nat)
  /-- RETF (R296) -/
  | retf (l : Nat)
  /-- RETI (R317) -/
  | reti (l : Nat)
  /-- ENDL (R325) -/
  | endl (l : Nat)
  /-- WAIT (R235) -/
  | wait (l : Nat)
  /-- BRK (R236) -/
  | brk (l : Nat) (debugger : Bool)
  -- The immediate groups
  /-- PICK (R237) -/
  | pick (l : Nat) (i : BitVec 8)
  /-- ADDI (R237) -/
  | addi (l : Nat) (i : BitVec 8)
  /-- SHLI (R237) -/
  | shli (l : Nat) (n : BitVec 5)
  /-- SHRI (R237) -/
  | shri (l : Nat) (n : BitVec 5)
  /-- SARI (R237) -/
  | sari (l : Nat) (n : BitVec 5)
  /-- RORI (R237) -/
  | rori (l : Nat) (n : BitVec 5)
  /-- EXT8 (R211) -/
  | ext8 (l : Nat) (sh : BitVec 6)
  /-- EXT16 (R211) -/
  | ext16 (l : Nat) (sh : BitVec 6)
  /-- EXT32 (R211) -/
  | ext32 (l : Nat) (sh : BitVec 6)
  /-- RSR (R196) -/
  | rsr (l : Nat) (n : BitVec 8)
  /-- WSR (R196) -/
  | wsr (l : Nat) (n : BitVec 8)
  /-- WSR_STACK_POINTER (R202) -/
  | wsrStackPointer (l : Nat) (r : Bool)
  /-- WSR_STACK_BOUND (R202) -/
  | wsrStackBound (l : Nat) (r : Bool) (lim : Bool)
  /-- WSR_STW (R208) -/
  | wsrStw (l : Nat)
  -- Loads and stores
  /-- LD_SIGNED (R238) -/
  | ldSigned (l : Nat) (size : Size) (off : BitVec 8)
  /-- LD_ZERO (R238) -/
  | ldZero (l : Nat) (size : Size) (off : BitVec 8)
  /-- ST (R238) -/
  | st (l : Nat) (size : Size) (off : BitVec 8)
  /-- LDX_SIGNED (R239) -/
  | ldxSigned (l : Nat) (y : Bool) (size : Size)
  /-- LDX_ZERO (R239) -/
  | ldxZero (l : Nat) (y : Bool) (size : Size)
  /-- STX (R239) -/
  | stx (l : Nat) (y : Bool) (size : Size)
  -- The signal-processing groups
  /-- MAC (R241) -/
  | mac (l : Nat)
  /-- MSU (R241) -/
  | msu (l : Nat)
  /-- MACI (R241) -/
  | maci (l : Nat)
  /-- MSUI (R241) -/
  | msui (l : Nat)
  /-- MACN (R250) -/
  | macn (l : Nat) (stop : Option Nat)
  /-- MSUN (R250) -/
  | msun (l : Nat) (stop : Option Nat)
  /-- MACNI (R250) -/
  | macni (l : Nat) (stop : Option Nat)
  /-- MSUNI (R250) -/
  | msuni (l : Nat) (stop : Option Nat)
  /-- CLRA (R242) -/
  | clra (l : Nat)
  /-- MACS (R242) -/
  | macs (l : Nat)
  /-- MSUS (R242) -/
  | msus (l : Nat)
  /-- MACSI (R242) -/
  | macsi (l : Nat)
  /-- MSUSI (R242) -/
  | msusi (l : Nat)
  /-- MPYS (R242) -/
  | mpys (l : Nat)
  /-- MPYSI (R242) -/
  | mpysi (l : Nat)
  /-- ADDA (R242) -/
  | adda (l : Nat)
  /-- ADDAL (R242) -/
  | addal (l : Nat)
  /-- NEGA (R242) -/
  | nega (l : Nat)
  /-- LDA (R242) -/
  | lda (l : Nat)
  /-- ASLA (R243) -/
  | asla (l : Nat) (sh : BitVec 6)
  /-- ASRA (R243) -/
  | asra (l : Nat) (sh : BitVec 6)
  -- Illegal and reserved codes
  /-- ILLEGAL_OPCODE (R244) -/
  | illegalOpcode (l : Nat) (code : BitVec 16)
  /-- RESERVED_CODE (R245) -/
  | reservedCode (l : Nat) (code : BitVec 16) (e : ReservedEffect)
  -- The store buffer and the bus
  /-- STORE_BUFFER_DRAIN (R269) -/
  | storeBufferDrain (l : Nat) (tcm : Bool) (ovl full : Nat)
  /-- BUS_TRANSFER (R265) -/
  | busTransfer (m : BusMember) (x : BusXfer) (wait : Nat)
  /-- FETCH_LINE_ARRIVAL (R263) -/
  | fetchLineArrival (l : Nat) (a : Word)
  -- Interrupts and deliveries
  /-- ESTOP_N_FALL (R302) -/
  | estopNFall (k : Nat)
  /-- ESTOPCFG_WRITE (R301) -/
  | estopcfgWrite (r : Rq) (v : Word)
  /-- REGION_WRITE (R291) -/
  | regionWrite (r : Rq) (block : Option Nat) (guard lim : Bool) (n : Nat) (v : Word)
  /-- IRQCFG_WRITE (R304) -/
  | irqcfgWrite (r : Rq) (n : Nat) (v : Word)
  /-- PENDSET_WRITE (R306) -/
  | pendsetWrite (r : Rq) (b : Nat) (mask : Word)
  /-- PENDCLR_WRITE (R306) -/
  | pendclrWrite (r : Rq) (b : Nat) (mask : Word)
  /-- ENSET_WRITE (R306) -/
  | ensetWrite (r : Rq) (b : Nat) (mask : Word)
  /-- ENCLR_WRITE (R306) -/
  | enclrWrite (r : Rq) (b : Nat) (mask : Word)
  /-- INTERRUPT_ENTRY (R315) -/
  | interruptEntry (l : Nat)
  /-- LESSON_ENTRY (R322) -/
  | lessonEntry (l : Nat)
  /-- NMI_ENTRY (R302) -/
  | nmiEntry (l : Nat)
  /-- LESSON_TIME_LIMIT (R324) -/
  | lessonTimeLimit (l : Nat)
  -- MRAM
  /-- MRAM_READ_COMPLETE (R334) -/
  | mramReadComplete (a : Word) (fetch : Option Nat)
  /-- MRAM_PROGRAM_COMPLETE (R335) -/
  | mramProgramComplete
  /-- SCRUB_READ (R338) -/
  | scrubRead
  /-- MRSCRUB_WRITE (R338) -/
  | mrscrubWrite (r : Rq) (v : Word)
  /-- LINE_OPEN (R340) -/
  | lineOpen (r : Rq) (line : Nat)
  /-- LINE_CLOSE (R340) -/
  | lineClose (r : Rq) (line : Nat)
  /-- LINE_ZERO (R340) -/
  | lineZero (r : Rq) (line : Nat)
  -- The Enward ring
  /-- LINK_DOWN (R349) -/
  | linkDown (port lanes : Nat)
  /-- LINK_UP (R349) -/
  | linkUp (port delay : Nat)
  /-- ENCMD_ROLL (R351) -/
  | encmdRoll (r : Rq)
  /-- ENCMD_CLRCNT (R380) -/
  | encmdClrcnt (r : Rq)
  /-- JOIN (R353) -/
  | join (k : Nat) (x : RollResult)
  /-- ENWARD_CYCLE (R354) -/
  | enwardCycle (k : Nat) (h : EnHdr)
  /-- PUBLICATION_RECEIVED (R361) -/
  | publicationReceived (k i : Nat) (x : PubRecord)
  /-- AGE_FAULT (R362) -/
  | ageFault (k t : Nat)
  /-- MESSAGE_RECEIVED (R365) -/
  | messageReceived (k : Nat) (m : EnFrame)
  /-- FORECAST_RECEIVED (R371) -/
  | forecastReceived (k src tag tp gen : Nat)
  /-- FORECAST_ARM (R372) -/
  | forecastArm (k e : Nat)
  /-- RETRACT_RECEIVED (R373) -/
  | retractReceived (k src tag : Nat)
  /-- CONFIRM_RECEIVED (R373) -/
  | confirmReceived (k src tag : Nat)
  /-- FORECAST_EXPIRED (R373) -/
  | forecastExpired (k e : Nat)
  /-- LOST (R378) -/
  | enwardLost (k : Nat)
  /-- ENTXGO (R366) -/
  | entxgo (r : Rq)
  /-- ENRX3_READ (R367) -/
  | enrx3Read (r : Rq)
  -- Legacy interfaces
  /-- RCCTL_GO (R386) -/
  | rcctlGo (r : Rq) (c start : Nat)
  /-- RCCTL_STOP (R386) -/
  | rcctlStop (r : Rq) (c : Nat)
  /-- RCCTL_FLUSHTX (R387) -/
  | rcctlFlushtx (r : Rq) (c : Nat)
  /-- RCCTL_FLUSHRX (R387) -/
  | rcctlFlushrx (r : Rq) (c : Nat)
  /-- RCTX_WRITE (R387) -/
  | rctxWrite (r : Rq) (c : Nat) (v : Word)
  /-- RCRX_READ (R387) -/
  | rcrxRead (r : Rq) (c : Nat)
  /-- RCCODE_WRITE (R390) -/
  | rccodeWrite (r : Rq) (c n : Nat) (v : Word)
  /-- DRIVE (R384) -/
  | rcDrive (c k : Nat)
  /-- ENABLE (R384) -/
  | rcEnable (c k : Nat)
  /-- DELAY (R384) -/
  | rcDelay (c k : Nat)
  /-- WAITL (R385) -/
  | rcWaitl (c k : Nat) (acc : BitVec 16)
  /-- WAITL_MET (R383) -/
  | rcWaitlMet (c k : Nat) (acc : BitVec 16)
  /-- WAITL_TIMEOUT (R385) -/
  | rcWaitlTimeout (c k : Nat)
  /-- SAMPLE (R384) -/
  | rcSample (c k : Nat) (acc : BitVec 16)
  /-- PUT (R384) -/
  | rcPut (c k : Nat)
  /-- PUT_RESUME (R384) -/
  | rcPutResume (c k : Nat)
  /-- GET (R384) -/
  | rcGet (c k : Nat)
  /-- GET_RESUME (R384) -/
  | rcGetResume (c k : Nat)
  /-- OUTD (R384) -/
  | rcOutd (c k : Nat)
  /-- CNT_LOAD (R384) -/
  | rcCntLoad (c k : Nat)
  /-- CNT_START (R384) -/
  | rcCntStart (c k : Nat)
  /-- CNT_STOP (R384) -/
  | rcCntStop (c k : Nat)
  /-- CNT_READ (R384) -/
  | rcCntRead (c k : Nat)
  /-- DJNZ (R384) -/
  | rcDjnz (c k : Nat)
  /-- RC_JMP (R384) -/
  | rcJmp (c k : Nat)
  /-- JIF (R384) -/
  | rcJif (c k : Nat) (acc : BitVec 16)
  /-- JEQ (R384) -/
  | rcJeq (c k : Nat)
  /-- LDI (R384) -/
  | rcLdi (c k : Nat)
  /-- RC_IRQ (R384) -/
  | rcIrq (c k : Nat)
  /-- HALT (R384) -/
  | rcHalt (c k : Nat)
  /-- UTX_WRITE (R393) -/
  | utxWrite (r : Rq) (u : Nat) (v : Word)
  /-- URX_READ (R393) -/
  | urxRead (r : Rq) (u : Nat)
  /-- UART_ENABLE (R397) -/
  | uartEnable (r : Rq) (u : Nat) (on : Bool)
  /-- TXBRK (R393) -/
  | txbrk (r : Rq) (u : Nat) (on : Bool)
  /-- UART_FLUSHRX (R397) -/
  | uartFlushrx (r : Rq) (u : Nat)
  /-- UART_FLUSHTX (R397) -/
  | uartFlushtx (r : Rq) (u : Nat)
  /-- UART_CHARACTER_RECEIVED (R392) -/
  | uartCharacterReceived (u k data : Nat) (par stop : Bool)
  /-- UART_FRAME_TRANSMIT (R393) -/
  | uartFrameTransmit (u k : Nat)
  /-- CTS_N_CHANGE (R394) -/
  | ctsNChange (u : Nat) (high : Bool)
  /-- UART_IDLE_TIMEOUT (R397) -/
  | uartIdleTimeout (u k : Nat)
  /-- SCAN_CYCLE (R398) -/
  | scanCycle (k : Nat) (inputs : List Word) (word : Nat)
  /-- ATTENDANCE_ENABLE (R400) -/
  | attendanceEnable (r : Rq) (on : Bool)
  /-- CLRFLT (R400) -/
  | clrflt (r : Rq)
  /-- AOUT_WRITE (R403) -/
  | aoutWrite (r : Rq) (n : Nat) (v : Word)
  /-- AOSET_WRITE (R403) -/
  | aosetWrite (r : Rq) (n : Nat) (v : Word)
  /-- AOCLR_WRITE (R403) -/
  | aoclrWrite (r : Rq) (n : Nat) (v : Word)
  /-- TRANSMIT_FRAME (R405) -/
  | transmitFrame (m k : Nat) (abort excol : Bool) (coll : Nat)
  /-- RECEIVED_FRAME (R406) -/
  | receivedFrame (m k : Nat) (bytes : List Nat) (badFcs rxer : Bool)
  /-- MDIO_GO (R404) -/
  | mdioGo (r : Rq) (m phy reg data : Nat) (write : Bool)
  /-- MDIO_DONE (R404) -/
  | mdioDone (m data : Nat)
  /-- PTPADJ_WRITE (R407) -/
  | ptpadjWrite (r : Rq) (v : Word)
  /-- PTPSTEP_WRITE (R407) -/
  | ptpstepWrite (r : Rq) (v : Word)
  -- The Staff port
  /-- SPI_FRAME (R410) -/
  | spiFrame (env : StaffEnv) (edges : Nat) (mode3 : Bool) (v : BitVec 40)
  /-- UART_FORM_REQUEST (R412) -/
  | uartFormRequest (env : StaffEnv) (whole : Bool) (v : BitVec 40)
  /-- STAFF_NOP (R413) -/
  | staffNop
  /-- STAFF_READ (R415) -/
  | staffRead (a : BitVec 8)
  /-- STAFF_WRITE (R415) -/
  | staffWrite (env : StaffEnv) (a : BitVec 8) (v : BitVec 16)
  /-- OPEN (R418) -/
  | openSession
  /-- NONCE_DRAWN (R420) -/
  | nonceDrawn
  /-- PROVE (R419) -/
  | prove
  /-- CLOSE (R426) -/
  | closeSession
  /-- SNAP (R426) -/
  | snap
  /-- CHALLENGE_EXPIRED (R420) -/
  | challengeExpired (k : Nat)
  /-- SESSION_IDLE (R420) -/
  | sessionIdle (k : Nat)
  /-- LOCKOUT_EXPIRED (R421) -/
  | lockoutExpired
  /-- WINDOW_READ_START (R431) -/
  | windowReadStart (size : Nat) (inc : Bool)
  /-- WINDATAH_READ (R431) -/
  | windatahRead
  /-- WINDOW_WRITE_START (R431) -/
  | windowWriteStart (v : BitVec 16)
  /-- WINDOW_ACCESS_COMPLETE (R430) -/
  | windowAccessComplete
  /-- SNAPSHOT_REFRESH (R435) -/
  | snapshotRefresh (k : Nat)
  /-- SNAPCTL_NOW (R435) -/
  | snapctlNow (r : Rq)
  /-- LOGBOOK_ENTRY (R439) -/
  | logbookEntry
  /-- ATTEST (R449) -/
  | attest
  /-- ATTEST_COMPLETE (R449) -/
  | attestComplete
  /-- ATTREC (R449) -/
  | attrec
  /-- IDPUB (R452) -/
  | idpub
  /-- CERTRD (R452) -/
  | certrd
  /-- ENROLL (R453) -/
  | enroll (env : StaffEnv)
  /-- CERTWR (R452) -/
  | certwr (env : StaffEnv)
  /-- CERTSEAL (R452) -/
  | certseal (env : StaffEnv)
  /-- SETKEY (R452) -/
  | setkey (slot : Nat)
  /-- GENKEY (R452) -/
  | genkey
  /-- ERASEKEY (R452) -/
  | erasekey
  /-- IDKILL (R446) -/
  | idkill (env : StaffEnv)
  -- Keys, crypto and random numbers
  /-- KEYCMD_SET (R454) -/
  | keycmdSet (r : Rq) (slot : Nat)
  /-- KEYCMD_GEN (R454) -/
  | keycmdGen (r : Rq) (slot : Nat)
  /-- KEYCMD_ERASE (R454) -/
  | keycmdErase (r : Rq) (slot : Nat)
  /-- AES_ENCRYPT (R456) -/
  | aesEncryptGo (r : Rq) (key : Nat)
  /-- AES_DECRYPT (R456) -/
  | aesDecryptGo (r : Rq) (key : Nat)
  /-- CMAC_START (R456) -/
  | cmacStart (r : Rq) (key : Nat)
  /-- CMAC_UPDATE (R456) -/
  | cmacUpdate (r : Rq) (key : Nat)
  /-- CMAC_FINAL (R456) -/
  | cmacFinal (r : Rq) (key len : Nat)
  /-- CRYPTO_DONE (R456) -/
  | cryptoDone
  /-- SOURCE_STARTUP_PASS (R460) -/
  | sourceStartupPass (i : Nat)
  /-- SOURCE_HEALTH_FAIL (R460) -/
  | sourceHealthFail (i : Nat) (apt : Bool)
  /-- DRBG_INSTANTIATE (R464) -/
  | drbgInstantiate (n : Nat)
  /-- DRBG_RESEED (R463) -/
  | drbgReseed (n k : Nat) (bits : Bool)
  /-- DRBGOUT_READ (R465) -/
  | drbgoutRead (r : Rq)
  /-- DRBG_REFILL (R465) -/
  | drbgRefill (n : Nat)
  /-- RAWEN_WRITE (R466) -/
  | rawenWrite (r : Rq) (on : Bool) (src : Nat)
  -- The Hall Monitor
  /-- HM_RESET (R467) -/
  | hmReset
  /-- HM_TICK (R468) -/
  | hmTick
  /-- HM_EVALUATION (R479) -/
  | hmEvaluation
  /-- WATCH_STROBE (R471) -/
  | watchStrobe (n : Nat) (a b : Bool)
  /-- INPUT_SAMPLE (R476) -/
  | inputSample (i : Nat) (level : Bool)
  /-- MEASUREMENT (R477) -/
  | measurement (temp vbat : Int)
  /-- HM_WRITE_APPLY (R470) -/
  | hmWriteApply
  /-- HMALARM_CLEAR (R481) -/
  | hmalarmClear (r : Rq) (mask : Word)
  /-- HMLOCK_SET (R483) -/
  | hmlockSet (r : Rq)
  /-- HM_CRYSTAL_STOP (R22) -/
  | hmCrystalStop
  -- The Guard pair
  /-- DIVERGENCE (R494) -/
  | divergence (what pc0 pc1 addr : Nat)
  /-- PAIR_RESTART (R495) -/
  | pairRestart (diff : Option Nat)
  /-- PAIRINJ (R497) -/
  | pairinj (r : Rq) (what : Nat)
  /-- WDKICK (R499) -/
  | wdkick (r : Rq) (l key : Nat)
  /-- WATCHDOG_EXPIRY (R500) -/
  | watchdogExpiry (l k : Nat)
  /-- WATCHDOG_STAGE_2 (R500) -/
  | watchdogStage2 (l k : Nat)
  /-- G_THIRD_FAULT_RESTART (R504) -/
  | gThirdFaultRestart
  /-- GPOLICY_WRITE (R505) -/
  | gpolicyWrite (r : Rq) (v : Word)
  /-- SAFETEST (R510) -/
  | safetest (r : Rq) (copyB : Bool)
  /-- SAFETEST_COMPLETE (R510) -/
  | safetestComplete (wrong : List Nat)
  -- Time, pins and supplies that no command makes
  /-- PIN_EPOCH_BOUNDARY (R20) -/
  | pinEpochBoundary
  /-- PULSE_TRAIN_STEP (R179) -/
  | pulseTrainStep (g k : Nat)
  /-- PWM_PERIOD_START (R185) -/
  | pwmPeriodStart (c k : Nat)
  /-- ESTOP_N_RISE (R301) -/
  | estopNRise (k : Nat)
  /-- SVCREQ_N_CHANGE (R36) -/
  | svcreqNChange (k : Nat) (low : Bool)
  /-- SUPPLY_DIP_END (R516) -/
  | supplyDipEnd (vdd : Bool)
  /-- HM_CRYSTAL_START (R523) -/
  | hmCrystalStart
  /-- VBAT_GOOD (R515) -/
  | vbatGood
  /-- UART_FRAME_END (R396) -/
  | uartFrameEnd (u k : Nat)
  /-- UART_BREAK_END (R392) -/
  | uartBreakEnd (u : Nat)
  /-- UART_FORM_GAP_TIMEOUT (R412) -/
  | uartFormGapTimeout
  -- The TAP
  /-- JTAG_INSTRUCTION (R459) -/
  | jtagInstruction (op : JtagOp)
deriving DecidableEq, Repr

end Sys2Proof
end

