-- ==== Sys2Proof/Machine/State.lean ====
section
/-! DEFINITION. The state of the Finrun, as plain data: the register file (every register of Regs.lean, sparse over its
Reset column), and for each unit the state its chapter gives it beside its registers. Instances of a unit stand in a
`Tab` by their number; an instance that is not listed is as the unit's `reset` definition says. -/

namespace Sys2Proof.Machine

/-! ### Modes, supplies and clocks (Modes, Dawn and Reset; Electrical Characteristics) -/

/-- The part number (R1). -/
inductive Variant | fn4816 | fn4812 | fn4808
deriving DecidableEq, Repr

/-- The eight modes (R36 and the table under The eight modes), in the order of their codes 0 to 7. -/
inductive Mode | night | dawn | prepare | run | hold | safe | service | lockout
deriving DecidableEq, Repr

/-- Who asked for a transition, coded 0 to 6 as MODERESP.REQ. -/
inductive ModeReq | guard | shop | staff | estop | fault | hall | supply
deriving DecidableEq, Repr

/-- A transition that has been accepted and not yet completed (R38, R39). -/
structure Trans where
  target : Mode
  req    : ModeReq
  /-- the mode it was accepted in (R39: a pre-emption completes as from that mode) -/
  src    : Mode
  /-- LOCKSTAT cause of a transition to LOCKOUT (R506) -/
  cause  : Nat
  /-- PATH, WORLD and RING of its Logbook entry (R41) -/
  path   : Nat × Bool × Nat
deriving DecidableEq, Repr

/-- Where DAWN stands between commands (R49): waiting for the clock, or the main-track step still to complete. -/
inductive DawnPhase | none | waitReset | waitClock | identity | handover | rollCall | guardInit
deriving DecidableEq, Repr

/-- A level at a ball: driven low, driven high, or not driven. -/
inductive Lvl | lo | hi | z
deriving DecidableEq, Repr

/-! ### Position channels and mains (Position Sources at the Balls) -/

/-- PCSTAT.STATE (R75). -/
inductive ChState | off | sync | track | fault
deriving DecidableEq, Repr

/-- What a position channel holds beside its configuration registers. -/
structure Channel where
  state    : ChState
  /-- PCSTAT.CAUSE code -/
  cause    : Nat
  /-- raw count, 40-bit two's complement (R69) -/
  count    : Int
  /-- PCCOUNTH.FRAC, SINCOS only -/
  frac     : Nat
  /-- accepted levels of A, B and Z -/
  lvl      : List Bool
  /-- the edge at which each of A, B and Z last changed its accepted level (R65) -/
  accK     : List (Option Nat)
  /-- validity of the A, B and Z pairs, as last classified (R525) -/
  valid    : List Bool
  /-- edge at which SYNC was entered (R75) -/
  syncK    : Nat
  /-- PSCLK edge and wall time of the last count change or sample (R68, R83) -/
  edgeK    : Nat
  edgeWall : Nat
  /-- accepting edge of the last counted step, for FAST (R67) -/
  stepK    : Option Nat
  stepUp   : Bool
  fast     : Bool
  warn     : Bool
  zmiss    : Bool
  wstat    : Nat
  /-- index capture (R71), and the reference of the distance check (R72) with its direction -/
  idxCount : Int
  idxTime  : Nat
  idxRef   : Option (Int × Bool)
  /-- last frame (R81) -/
  raw      : Nat
  trail    : Nat
  ne       : Bool
  nw       : Bool
  cds      : Bool
  frmstat  : Nat
  badRun   : Nat
  lastGood : Option Nat
  /-- request edge of the frame in progress, and the edge at which the last frame's TMO ended (R83) -/
  frameRun : Option Nat
  busyTill : Nat
  /-- the boundary at which a frame was last requested or skipped -/
  reqK     : Option Nat
  /-- SINCOS: last angle, whole periods, samples in succession out of the window or in it (R75, R84-R86) -/
  angle    : Nat
  /-- a sample has been taken since SYNC was entered -/
  sampled  : Bool
  periods  : Int
  lowRun   : Nat
  highRun  : Nat
  goodRun  : Nat
  /-- amplitude of the last sample, and its least and greatest since the last read (PCSCAMP) -/
  amp      : Nat
  ampLow   : Option Nat
  ampHigh  : Nat
deriving DecidableEq, Repr

/-- A channel after a reset of the main domain (R73, R75, R525). -/
def Channel.reset : Channel :=
  { state := .off, cause := 0, count := 0, frac := 0, lvl := [false, false, false],
    accK := [none, none, none], valid := [false, false, false], syncK := 0, edgeK := 0, edgeWall := 0, stepK := none, stepUp := true, fast := false,
    warn := false, zmiss := false, wstat := 0, idxCount := 0, idxTime := 0, idxRef := none, raw := 0,
    trail := 0, ne := false, nw := false, cds := false, frmstat := 0, badRun := 0, lastGood := none,
    frameRun := none, busyTill := 0, reqK := none, angle := 0, sampled := false, periods := 0, lowRun := 0, highRun := 0, goodRun := 0, amp := 0,
    ampLow := none, ampHigh := 0 }

/-- MZSTAT.STATE (R89). -/
inductive MzState | off | sync | track | lost
deriving DecidableEq, Repr

/-- The mains block (R87-R89), with the phase state that timebase 28 takes from it (R109). -/
structure Mains where
  state    : MzState
  /-- stamp of the last accepted crossing as wall time; and as a PSCLK edge, the reference of the next period -/
  stampW   : Nat
  refK     : Option Int
  /-- +H/2 instant of the last accepted crossing, for MZBLANK -/
  riseK    : Option Int
  /-- crossings in range in succession -/
  runLen   : Nat
  /-- the crossing in use on timebase 28: cycle number N, stamp s and period P_m -/
  cycle    : Int
  useK     : Option Int
  useP     : Nat
  /-- entry to SYNC, or the last accepted crossing: the start of the LOSS test -/
  sinceK   : Nat
deriving DecidableEq, Repr

def Mains.reset : Mains :=
  { state := .off, stampW := 0, refK := none, riseK := none, runLen := 0, cycle := 0, useK := none, useP := 0
    sinceK := 0 }

/-! ### Timebases (Timebases and the Position Word) -/

/-- TBSTAT.STATE (R118). -/
inductive TbState | off | run | fault
deriving DecidableEq, Repr

/-- A timebase command waiting for its boundary (R114): code 1-6 and NEWSRC. TBSET is read at the boundary (assumption 90,
DESIGN CHOICE). -/
structure TbCmd where
  cmd    : Nat
  newsrc : Nat
  /-- the boundary at which it takes effect, and the edge of its write -/
  dueK   : Nat
  atK    : Nat
  who    : Nat
  guard  : Bool
  ring   : Nat
deriving DecidableEq, Repr

/-- What a timebase holds beside its configuration registers. Words are in 1/256 count. -/
structure Timebase where
  state   : TbState
  /-- source in use (TBCFG.SRC) -/
  src     : Nat
  ref     : Bool
  down    : Bool
  still   : Bool
  stale   : Bool
  wrap    : Bool
  cause   : Nat
  wstat   : Nat
  discgen : Nat
  /-- the word formed at edge `now`, and its velocity -/
  word    : Int
  vel     : Int
  /-- the word formed an edge before, which the slots compare at edge `now` (R101), with its velocity, and whether it was formed
  from a new step, frame, sample or correction (R144) or as a discontinuity (R133) -/
  prev    : Int
  pvel    : Int
  pfresh  : Bool
  pdisc   : Bool
  rev     : Int
  /-- offset of a local timebase, 1/256 count (R114) -/
  offset  : Int
  /-- LOCAL: the word holds until the first count, frame or sample (R546) -/
  holding : Bool
  /-- QUAD: edge times of the last steps in one direction, newest first (R97) -/
  steps   : List Nat
  /-- samples used for the velocity, newest first: edge and unwrapped value in 1/256 count (R98) -/
  samples : List (Int × Int)
  /-- REMOTE: velocity received with the sample in use (R98) -/
  rxVel   : Int
  /-- REMOTE: a position has been received since RUN was entered (R125 check 6) -/
  rxSeen  : Bool
  /-- REMOTE: edge of the last record used, or of RUN, and the DISCGEN bits of that record (R362) -/
  rxK     : Nat
  rxDisc  : Option Nat
  /-- VIRTUAL: remainder of the gearing (R108) -/
  acc     : Int
  /-- SYNTH: the 72-bit accumulator, in 2^-32 count (R113) -/
  synth   : Int
  /-- the word holds until the estimate passes it (R99) -/
  hold    : Bool
  /-- edge since which a sampled velocity has been 0 (R102) -/
  zeroK   : Nat
  /-- the word of edge `now` was formed from a new step, frame, sample or forward correction (R144) -/
  fresh   : Bool
  /-- a discontinuity was signalled at edge `now` (R117, R133) -/
  disc    : Bool
  cmd     : Option TbCmd
deriving DecidableEq, Repr

def Timebase.reset : Timebase :=
  { state := .off, src := 0, ref := false, down := false, still := false, stale := false, wrap := false,
    cause := 0, wstat := 0, discgen := 0, word := 0, vel := 0, prev := 0, pvel := 0, pfresh := false, pdisc := false, rev := 0, offset := 0,
    holding := true, steps := [], samples := [], rxVel := 0, rxSeen := false, rxK := 0, rxDisc := none, acc := 0, synth := 0,
    hold := false, zeroK := 0, fresh := false, disc := false, cmd := none }

/-- Wall time (R111): the value at PSCLK edge `baseK`, in 1/256 PSCLK, with the slew and the step still to apply. `hist` holds the
earlier pairs (edge, value), newest first, by which an earlier edge has the wall time that it had then (R545). -/
structure Wall where
  base  : Nat
  baseK : Nat
  hist  : List (Nat × Nat)
  adj   : Int
  step  : Option Int
deriving DecidableEq, Repr

/-- One capture bank (R120): what the registers of the bank read. -/
structure CapBank where
  full  : Bool
  seq   : Nat
  src   : Nat
  src2  : Nat
  wall  : Nat
  words : List (Int × Nat × Int)
deriving DecidableEq, Repr

def CapBank.reset : CapBank := { full := false, seq := 0, src := 0, src2 := 0, wall := 0, words := [] }

/-! ### The Timetable -/

/-- A period in the fields of R123. -/
structure Period where
  pos     : Nat
  tb      : Nat
  dirq    : Nat
  latepol : Nat
  behind  : Nat
  act     : Nat
  uref    : Nat
  fcast   : Nat
  stg     : Nat
  hyst    : Nat
  tag     : Nat
  arg     : Nat
deriving DecidableEq, Repr

/-- TTSLOT.STATE (R136). -/
inductive SlotState | free | staged | armed | held
deriving DecidableEq, Repr

/-- One of the two copies of a slot (R122): the state code (3 bits, so that TTINJ can flip one), the period, and the
evaluation state. -/
structure SlotCopy where
  state  : Nat
  per    : Period
  primed : Bool
  edir   : Bool
  dp     : Int
  /-- EITHER armed at d = 0: the direction is still to be chosen (R130) -/
  noDir  : Bool
  /-- stored capture word -/
  cap    : Int
  /-- flipped crossing-test result (TTINJ FIELD 12) -/
  xinv   : Bool
deriving DecidableEq, Repr

/-- A slot of the Timetable. -/
structure Slot where
  a       : SlotCopy
  b       : SlotCopy
  disc    : Bool
  rawpl   : Bool
  latef   : Bool
  status  : Nat
  req     : Nat
  guard   : Bool
  /-- TTWHEN, wall time in 1/256 PSCLK -/
  whenT   : Nat
  everArmed : Bool
  /-- edge at which it became ARMED; it is evaluated at later edges (R130) -/
  armedK  : Nat
  /-- reached late: it is handled at the edge after `armedK`, with no crossing test (R132) -/
  late    : Bool
  /-- last detecting edge at which it was evaluated -/
  evalK   : Nat
  /-- the non-live divergence present has been counted (R148) -/
  marked  : Bool
  /-- pre-staged by the Enward forecast unit for FCKEY entry e (R167) -/
  fc      : Option Nat
deriving DecidableEq, Repr

def Period.zero : Period :=
  { pos := 0, tb := 0, dirq := 0, latepol := 0, behind := 0, act := 0, uref := 0, fcast := 0, stg := 0,
    hyst := 0, tag := 0, arg := 0 }

def SlotCopy.reset : SlotCopy :=
  { state := 0, per := .zero, primed := false, edir := false, dp := 0, noDir := false, cap := 0, xinv := false }

def Slot.reset : Slot :=
  { a := .reset, b := .reset, disc := false, rawpl := false, latef := false, status := 0, req := 0,
    guard := false, whenT := 0, everArmed := false, armedK := 0, late := false, evalK := 0, marked := false, fc := none }

/-- A MEMW write waiting for the bus (R137, R141). -/
structure MemWrite where
  addr : Nat
  val  : Nat
deriving DecidableEq, Repr

/-! ### The Syllabus -/

/-- QSTAT.STATE (R154). -/
inductive QState | off | stopped | running | starved | suspended | halted
deriving DecidableEq, Repr

/-- What a queue holds beside its registers. -/
structure Queue where
  state    : QState
  /-- HEAD, which waits for reports (R161); SEQ; the index of the oldest record not consumed; TAIL -/
  head     : Nat
  seq      : Nat
  cons     : Nat
  tail     : Nat
  modestop : Bool
  why      : Nat
  wstat    : Nat
  /-- record `cons` is in the bound slot -/
  inSlot   : Bool
  /-- prefetch buffer, and whether a prefetch is outstanding (R157) -/
  buf      : Option Period
  /-- the buffered record was read with an uncorrectable error (R332) -/
  badBuf   : Bool
  fetching : Bool
  /-- the slot freed before the prefetch had completed (PFWAIT) -/
  waited   : Bool
  /-- edge at which the buffered record was taken for the slot, and the code of the check that it has failed, 0 for none (R156) -/
  taken    : Option Nat
  code     : Nat
deriving DecidableEq, Repr

def Queue.reset : Queue :=
  { state := .off, head := 0, seq := 0, cons := 0, tail := 0, modestop := false, why := 0, wstat := 0,
    inSlot := false, buf := none, badBuf := false, fetching := false, waited := false, taken := none, code := 0 }

/-- A report waiting in the engine's buffer of 16 (R161): its queue (16 once that is unbound), record index, address and words. `ready`: its
status is settled (R548). -/
structure Report where
  queue : Nat
  idx   : Nat
  addr  : Nat
  w0    : Nat
  w1    : Nat
  ready : Bool
deriving DecidableEq, Repr

/-! ### Outputs and pins (Event Lines, Drives and Pin Functions) -/

/-- A pending edge of a fine-delay register (R140, R547): its PSCLK edge is held absolute. The level of a toggle is the inverse of the
level before it, whatever lands in between. -/
structure FdEntry where
  v    : Bool
  lvl  : Bool
  tog  : Bool
  tap  : Nat
  edge : Nat
  slot : Nat
deriving DecidableEq, Repr

def FdEntry.none : FdEntry := { v := false, lvl := false, tog := false, tap := 0, edge := 0, slot := 0 }

/-- One copy of a fine-delay register (R547). -/
structure FdCopy where
  lvl : Bool
  e0  : FdEntry
  e1  : FdEntry
deriving DecidableEq, Repr

/-- A fine-delay register, held twice (R146). -/
structure Fd where
  a : FdCopy
  b : FdCopy
deriving DecidableEq, Repr

def Fd.reset : Fd :=
  { a := { lvl := false, e0 := .none, e1 := .none }, b := { lvl := false, e0 := .none, e1 := .none } }

/-- An event line: its fine-delay register, whose level is the line's logic level, and its safe-state latch, as the ball drives it: none
after a power-on reset (R47), released for an open-drain HIGH (R177). -/
structure Line where
  fd    : Fd
  latch : Option Lvl
  /-- driven to its latch by the output stage bypass or by the safe path (R147, R171) -/
  safed : Bool
deriving DecidableEq, Repr

def Line.reset : Line := { fd := .reset, latch := none, safed := false }

/-- PTSTAT.STATE (R182). -/
inductive GenState | stopped | running | dirwait | held
deriving DecidableEq, Repr

/-- A pulse-train generator beside its registers. -/
structure Gen where
  state    : GenState
  fd       : Fd
  dirOut   : Bool
  phase    : Nat
  /-- edge up to which the phase has been run -/
  phaseK   : Nat
  rem      : Nat
  /-- the budget is in use: PTNSTEP was not 0 at the start -/
  limited  : Bool
  count    : Int
  /-- boundary at which DIRSU ends -/
  dirTill  : Nat
  /-- no step of the present start has yet had its active edge -/
  fresh    : Bool
  /-- a step edge waits for DIRSU, or for HOLD, to end (R181, R182) -/
  first    : Bool
  /-- end of the active time of the step in progress, in taps; 0 none -/
  stepEnd  : Nat
  dlate    : Bool
  pinlost  : Bool
  fdflt    : Bool
  /-- the safe-state latches of the step and of the direction output: the inactive level, the direction held (R171) -/
  latch    : Option (Lvl × Lvl)
  /-- driven to its latches by the safe path -/
  safed    : Bool
deriving DecidableEq, Repr

def Gen.reset : Gen :=
  { state := .stopped, fd := .reset, dirOut := false, phase := 0, phaseK := 0, rem := 0, limited := false, count := 0,
    dirTill := 0, fresh := false, first := false, stepEnd := 0, dlate := false,
    pinlost := false, fdflt := false, latch := none, safed := false }

/-- A PWM channel beside its registers: the period and duty in force and the edge at which its period began, the pair that a PWMDUTY
write committed for the next period, the level kept in HOLD (R173), and its safe-state latch. -/
structure Pwm where
  per     : Nat
  duty    : Nat
  startK  : Nat
  next    : Option (Nat × Nat)
  kept    : Bool
  clamp   : Bool
  pinlost : Bool
  latch   : Option Lvl
  /-- driven to its latch by the safe path -/
  safed   : Bool
deriving DecidableEq, Repr

def Pwm.reset : Pwm :=
  { per := 0x2710, duty := 0, startK := 0, next := none, kept := false, clamp := false, pinlost := false, latch := none
    safed := false }

/-- A sigma-delta output: the code in force, and its safe-state latch, the code of the safe stream (none: high-Z). -/
structure Sd where
  code    : Nat
  pinlost : Bool
  latch   : Option (Option Nat)
  /-- driven to its latch by the safe path -/
  safed   : Bool
deriving DecidableEq, Repr

def Sd.reset : Sd := { code := 0, pinlost := false, latch := none, safed := false }

/-- A general I/O ball: the function connected, the switch pending (its boundary B and whether B has passed), the level
held through the switch, and the level that the board drives (none when the board leaves it open). -/
structure Pin where
  conn  : Nat
  sw    : Option (Nat × Bool)
  kept  : Lvl
  board : Lvl
  wstat : Nat
deriving DecidableEq, Repr

def Pin.reset : Pin := { conn := 0, sw := none, kept := .z, board := .z, wstat := 0 }

/-! ### Cores (The Gallys Core Programming Model; Worlds, Rings and Exceptions; Interrupts and Bell Dispatch) -/

/-- A request in a Bell queue (R321, R322): the slot, the TAGW word, the lesson entry, the world, the compared word (48 bits) and
the crossing instant in the layout of TTWHENL. -/
structure BellReq where
  slot  : Nat
  tagw  : Nat
  entry : Nat
  guard : Bool
  word  : Nat
  time  : Nat
deriving DecidableEq, Repr

/-- An entry of the operand or return stack held on chip, with its home (R197, R198), and the number of contexts that were
active when it was made: the entries of a handler go with it (R317). -/
structure Entry where
  home : Word
  val  : Word
  own  : Nat
deriving DecidableEq, Repr

/-- X or Y: XA, XB, XCFG, XSTEP (R204). -/
structure Xreg where
  a    : Word
  b    : Word
  cfg  : Word
  step : Word
deriving DecidableEq, Repr

def Xreg.zero : Xreg := { a := 0, b := 0, cfg := 0, step := 0 }

/-- Where a store goes (R269): the core's own TCM by the TCM port; shared SRAM, MRAM, the peripheral region or the TCM
of physical core `p` through its second address by the bus port. -/
inductive Target | tcm | sram | mram | periph | far (p : Nat)
deriving DecidableEq, Repr

/-- An entry of the store buffer (R269): the memory key or register address, the bytes, and the rights of the store that
made it. `done`: it has completed and leaves at the next concord edge. -/
structure SbEntry where
  addr  : Nat
  n     : Nat
  val   : Nat
  tgt   : Target
  guard : Bool
  ring  : Nat
  done  : Bool
deriving DecidableEq, Repr

/-- The context of a fault whose handler's first instruction has not retired (R295, R299). -/
structure FirstFault where
  kind : Nat
  pc   : Word
  stw  : Word
  dsp  : Word
  rsp  : Word
  bnd  : List Word
deriving DecidableEq, Repr

/-- A logical core (R195), with the on-chip entries of its stacks (the top first), its Bell stacks (R323), its store
buffer (oldest first), the fetch lines it holds (R263: address and the 16 bytes as they arrived), and what it waits
for. -/
structure Core where
  pc         : Word
  stw        : Word
  dsp        : Word
  dsbase     : Word
  dslim      : Word
  rsp        : Word
  rsbase     : Word
  rslim      : Word
  ops        : List Entry
  rets       : List Entry
  x          : Xreg
  y          : Xreg
  acc        : BitVec 72
  bellOps    : List Word
  bellRets   : List Word
  /-- slot and TAG of the lesson that runs (R324) -/
  lesson     : Nat × Nat
  sb         : List SbEntry
  lines      : List (Nat × Nat)
  waiting    : Bool
  debugHalt  : Bool
  shopHalted : Bool
  third      : Bool
  /-- it has been released since its last reset, and resumes where it halted (R45, R257) -/
  started    : Bool
  fault      : Option FirstFault
deriving DecidableEq, Repr

/-- A core as a reset leaves it (R203, the stack, address register, accumulator and STW tables). -/
def Core.reset : Core :=
  { pc := 0, stw := 0x71, dsp := 0x110000, dsbase := 0x110000, dslim := 0x10F000, rsp := 0x10F000
    rsbase := 0x10F000, rslim := 0x10E000, ops := [], rets := [], x := .zero, y := .zero, acc := 0
    bellOps := [], bellRets := [], lesson := (0, 0), sb := [], lines := [], waiting := false, debugHalt := false
    shopHalted := false, third := false, started := false, fault := none }

/-! ### The MRAM controller (Memory, MRAM and the Address Map) -/

/-- An operation that the MRAM controller holds (R334-R340): a write of `n` bytes by master `who` (0-4 the logical cores,
5 the Staff port, 6 another), a flag program of a line (R340), the zeroing of a line. -/
inductive MrOp
  | write (who addr n val : Nat)
  | flag (line : Nat) (closed : Bool)
  | zero (line : Nat)
deriving DecidableEq, Repr

/-! ### The Enward ring -/

/-- ENSTAT.STATE (R379). -/
inductive EnState | down | roll | up | wrapped | lost | repeats
deriving DecidableEq, Repr

/-- A message of the ring waiting to be sent (R363): type code, class (0 safety, 1 forecast, 2 data), destination, TAG, the
seven body characters as one number with character 5 lowest, its sequence number, and the rings it has been inserted on. -/
structure EnMsg where
  typ   : Nat
  cls   : Nat
  bcast : Bool
  dest  : Nat
  tag   : Nat
  body  : Nat
  seq   : Nat := 0
  onA   : Bool := false
  onB   : Bool := false
deriving DecidableEq, Repr

/-- What an action of the Timetable brings to the unit it reaches, after its detecting edge (R137). -/
inductive Errand
  | irq (src : Nat)
  | bell (core : Nat) (req : BellReq)
  | enward (msg : EnMsg)
  | recit (chan word : Nat)
deriving DecidableEq, Repr

/-- An action on its way (R137, R548): its slot, the edge at which it takes effect and its status is settled, what it does, and the
queue and record index whose report waits for that status. -/
structure Act where
  slot  : Nat
  due   : Nat
  op    : Errand
  queue : Option (Nat × Nat)
deriving DecidableEq, Repr

/-- An outstanding forecast of an owner's slot (R368): generation and the predicted instant last sent. -/
structure FcOut where
  gen : Nat
  tp  : Nat
deriving DecidableEq, Repr

/-- FCSTAT.STATE of a forecast map entry (R371). -/
inductive FcState | none | staged | armed | trying
deriving DecidableEq, Repr

/-- A forecast map entry beside its registers (R371-R373). -/
structure FcEntry where
  state : FcState
  slot  : Nat
  code  : Nat
  gen   : Nat
  tp    : Nat
  /-- the later messages of the last forecast are ignored (R371, R374) -/
  dead  : Bool
  /-- TTREFUSE1.ENW has counted the forecast (R167, R371) -/
  counted : Bool
deriving DecidableEq, Repr

def FcEntry.reset : FcEntry := { state := .none, slot := 0, code := 0, gen := 0, tp := 0, dead := false, counted := false }

/-- One ring's cycle as it passes this device (R350, R354, R355, R364). -/
structure EnRing where
  /-- the edge at which the last cycle's start passed -/
  start : Nat
  /-- the sections of the cycle that have yet to pass, and those that have been sent on, each with its number -/
  comes : List (Nat × EnSection)
  sent  : List (Nat × EnSection)
  /-- forecast- and data-class messages inserted in this cycle -/
  low   : Nat
deriving DecidableEq, Repr

def EnRing.reset : EnRing := { start := 0, comes := [], sent := [], low := 0 }

/-- The Enward unit beside its registers. -/
structure Enward where
  state    : EnState
  addr     : Nat
  ndev     : Nat
  /-- the device originates the cycles -/
  master   : Bool
  /-- full cycle number of the last cycle -/
  cyc      : Nat
  /-- sequence number of the next message (R363) -/
  seq      : Nat
  /-- messages taken within the last 4 cycles: source, sequence number, cycle (R365) -/
  taken    : List (Nat × Nat × Nat)
  rx       : List EnFrame
  /-- classes whose queue has refused a message since it last had room (ENTXROOM) -/
  refused  : List Nat
  /-- record slots in order: owner address and ENPUB index (R358) -/
  table    : List (Nat × Nat)
  /-- the device's own publications in force: record slot and timebase -/
  pubs     : List (Nat × Nat)
  brk      : Option Nat
  wrapHere : Bool
  /-- the ports whose outgoing traffic turns back onto the other ring, since the last cycle start (R377) -/
  turned   : List Nat
  /-- by address: the last status byte, and for how many cycles its toggle has not changed (R356) -/
  life     : List (Byte × Nat)
  /-- bad headers in succession at ports 0 and 1 -/
  badRun   : List Nat
  /-- the heal cycle that the master has announced -/
  heal     : Bool
  /-- WALLCTL.OWNER as DAWN step 6 loaded it (R357) -/
  owner0   : Nat
  /-- the customer key of the checks, when SEC is in force, and the ring nonce (R375, R376) -/
  ringKey  : Option Nat
  nonce    : List Byte
  toggle   : Bool
  ringA    : EnRing
  ringB    : EnRing
  /-- NIGHT was requested: the next cycle announces it, and the links go off (R38, R380) -/
  farewell : Bool
deriving DecidableEq, Repr

def Enward.reset : Enward :=
  { state := .down, addr := 0, ndev := 0, master := false, cyc := 0, seq := 0, taken := [], rx := [], refused := []
    table := [], pubs := [], brk := none, wrapHere := false, turned := [], life := [], badRun := [0, 0]
    heal := false, owner0 := 0, ringKey := none, nonce := [], toggle := false, ringA := .reset, ringB := .reset
    farewell := false }

/-! ### Legacy interfaces -/

/-- RCSTAT.STATE (R386, R388); RESERVED is a matter of the partner's PAIR. -/
inductive RcState | stopped | running | paused
deriving DecidableEq, Repr

/-- A Recitation channel (R382-R389): its program counter and data register, its counters with the edge up to which they
have counted, its FIFOs oldest first, the levels and enables that its program gives its 8 balls, and the levels last accepted at balls
0 to 15. -/
structure Rc where
  state : RcState
  /-- a WAITL, PUT or GET waits since edge `waitK` -/
  wait  : Bool
  waitK : Nat
  /-- edge at which the next instruction executes -/
  dueK  : Nat
  /-- edge at which it paused in HOLD -/
  pauseK : Nat
  pc    : Nat
  d     : Word
  ct0   : Nat
  ct1   : Nat
  on0   : Bool
  on1   : Bool
  ctK   : Nat
  tx    : List Word
  rx    : List Word
  lvl   : BitVec 8
  oe    : BitVec 8
  /-- the levels that the filters of balls 0 to 15 have accepted, and the edge of each one's last change (R65, R383) -/
  acc   : BitVec 16
  accK  : List (Option Nat)
  code  : Nat
  why   : Nat
  topc  : Nat
  /-- the safe-state latches of the balls: SAFE and SAFEZ as last loaded (R389) -/
  latch : Option (Nat × Nat)
  /-- driven to its latches by the safe path -/
  safed : Bool
deriving DecidableEq, Repr

def Rc.reset : Rc :=
  { state := .stopped, wait := false, waitK := 0, dueK := 0, pauseK := 0, pc := 0, d := 0, ct0 := 0, ct1 := 0, on0 := false
    on1 := false, ctK := 0, tx := [], rx := [], lvl := 0, oe := 0, acc := 0
    accK := List.replicate 16 none, code := 0, why := 0, topc := 0
    latch := none, safed := false }

/-- A UART beside its registers (R391-R397): characters to send and received ones (in the layout of URX, VALID set), oldest first;
the bits of the frame being sent with the edge at which it began; XON or XOFF waiting to be sent. -/
structure Uart where
  tx    : List Nat
  rx    : List Nat
  frame : Option (List Bool × Nat)
  /-- the character of the frame, for LOOP -/
  char  : Nat
  owed  : Option Bool
  /-- XOFF received; XOFF sent -/
  held  : Bool
  xoff  : Bool
  /-- a break has been received and RXD has not returned high -/
  brk   : Bool
  /-- the level of CTS_N: high, its inactive level, while it has no ball (R192) -/
  cts   : Bool
  rts   : Bool
  de    : Bool
  /-- edge at which the last character was received -/
  rxK   : Nat
deriving DecidableEq, Repr

def Uart.reset : Uart :=
  { tx := [], rx := [], frame := none, char := 0, owed := none, held := false, xoff := false, brk := false, cts := true
    rts := false, de := false, rxK := 0 }

/-- ASTAT.STATE (R400). -/
inductive AttState | off | run | fault
deriving DecidableEq, Repr

/-- A scan cycle under way (R398): the boundary at which it began, its image and check word, what it samples (the inputs and the word
after them), and whether the boards have latched its image. -/
structure AttShift where
  start   : Nat
  image   : List Word
  check   : Nat
  inputs  : List Word
  word    : Nat
  latched : Bool
deriving DecidableEq, Repr

/-- The Attendance scan beside its registers (R398-R402): the number of the next cycle, the image last shifted outside HOLD and the one that
the boards have latched (32 words each), how often in succession each point has read the level it does not publish, the cycle under way,
and the boundary at which the next one begins; before the first cycle, the edge at which the scan was enabled. -/
structure Att where
  state   : AttState
  stale   : Bool
  failRun : Nat
  cycle   : Nat
  passed  : Bool
  image   : List Word
  board   : List Word
  deb     : Tab Nat
  shift   : Option AttShift
  nextK   : Option Nat
  enK     : Nat
  /-- the safe-state latch of OE_N: ACFG.OEOFF as last loaded (R402) -/
  latch   : Option Bool
  /-- driven to its latch by the safe path -/
  safed   : Bool
deriving DecidableEq, Repr

def Att.reset : Att :=
  { state := .off, stale := false, failRun := 0, cycle := 0, passed := false, image := [], board := [], deb := []
    shift := none, nextK := none, enK := 0, latch := none, safed := false }

/-- An Ethernet MAC beside its registers: the frame last sent, and the edge until which a pause frame holds it. -/
structure Mac where
  sent      : List Nat
  pauseTill : Nat
deriving DecidableEq, Repr

def Mac.reset : Mac := { sent := [], pauseTill := 0 }

/-! ### The Logbook (R437-R439) -/

/-- An entry waiting to be programmed: words 1 to 6 of R438. -/
structure LogEntry where
  time  : Nat
  word3 : Nat
  addr  : Nat
  old   : Nat
  new   : Nat
deriving DecidableEq, Repr

/-! ### The Staff port (R409-R432) -/

/-- STSESS.STATE. -/
inductive SessState | closed | drawing | challenged | opened
deriving DecidableEq, Repr

/-- A window access in flight (R431): a write or a read of `n` bytes at `addr`. -/
structure WinAccess where
  write : Bool
  addr  : Nat
  n     : Nat
  val   : Nat
deriving DecidableEq, Repr

/-- The Staff port: its form, the reply to the last frame, the session, and its 16-bit registers that are no views of others. -/
structure Staff where
  uart    : Bool
  mode3   : Bool
  /-- STATUS, ADDR and DATA of the reply to the last request (R411, R415) -/
  reply   : Nat × Nat × Nat
  crcErrs : Nat
  frmErrs : Nat
  sess    : SessState
  /-- the challenge nonce, 32 bytes; none valid: empty -/
  chal    : List Nat
  resp    : List Nat
  cmdRes  : Nat
  modeRes : Nat
  winAddr : Nat
  winData : Nat
  size    : Nat
  inc     : Bool
  access  : Option WinAccess
  /-- reply status of the last completed window access, and of the last completed window read -/
  winLast : Nat
  rdStat  : Nat
  winErrs : Nat
  idle    : Nat
  xin     : List Nat
  xout    : List Nat
  /-- window writes to memory in this session (R438) -/
  memWr   : Nat
  /-- edges at which the challenge was given and the last good request came (R420) -/
  chalK   : Nat
  goodK   : Nat
deriving DecidableEq, Repr

def Staff.reset : Staff :=
  { uart := false, mode3 := false, reply := (0x0F, 0, 0), crcErrs := 0, frmErrs := 0, sess := .closed, chal := [], resp := []
    cmdRes := 0, modeRes := 0, winAddr := 0, winData := 0, size := 0, inc := false, access := none, winLast := 0
    rdStat := 0, winErrs := 0, idle := 300, xin := [], xout := [], memWr := 0, chalK := 0, goodK := 0 }

/-! ### Secrets and randomness (Identity, Randomness and Secrets) -/

/-- The state of a slot of the secret store (R444). -/
inductive KeyState | empty | set | erased
deriving DecidableEq, Repr

/-- A slot of the secret store: 32 key bytes when SET. -/
structure KeySlot where
  state : KeyState
  key   : List Nat
deriving DecidableEq, Repr

def KeySlot.blank : KeySlot := { state := .empty, key := [] }

/-- What survives without power in OTP (the OTP table, R447, R451, R457). -/
structure Otp where
  serial  : Nat
  cert    : List Nat
  count   : Nat
  bootkey : Bool
  step    : Nat
  /-- SVCPEND, with the counter value recorded (R457) -/
  svcpend : Option Nat
deriving DecidableEq, Repr

/-- A noise source (R460). -/
inductive NoiseState | starting | healthy | failed
deriving DecidableEq, Repr

/-- DRBGINST.STATE (R463). -/
inductive DrbgState | none | ready | due | stopped
deriving DecidableEq, Repr

/-- A CTR_DRBG instance: its state, the words of its output buffer, the generate requests since its last seed, the edge of that seed,
and whether a reader of it has seen WAIT (RNGREADY). -/
structure Drbg where
  state  : DrbgState
  buf    : List Word
  reqs   : Nat
  seedK  : Nat
  waited : Bool
deriving DecidableEq, Repr

def Drbg.reset : Drbg := { state := .none, buf := [], reqs := 0, seedK := 0, waited := false }

/-- A requester's context in the crypto engine (R456): the operation queued (OP, LEN, key, input block) and the chaining
value of a CMAC that has started. -/
structure Crypto where
  queued : Option (Nat × Nat × List Nat × List Nat)
  cmac   : Option (List Nat)
deriving DecidableEq, Repr

def Crypto.reset : Crypto := { queued := none, cmac := none }

/-! ### The Hall Monitor -/

/-- HWSTAT.STATE (R473). -/
inductive WatchState | off | watch | mirror
deriving DecidableEq, Repr

/-- A watch channel beside its HWCFG (R471-R475): the reference pair, |TBVEL| at the last mirror. -/
structure Watch where
  state   : WatchState
  valid   : Bool
  illegal : Bool
  errs    : Nat
  count   : Int
  night   : Int
  pair    : Option (Bool × Bool)
  speed   : Nat
  /-- HMTIME at the last strobe -/
  strobeT : Option Nat
deriving DecidableEq, Repr

def Watch.reset : Watch :=
  { state := .off, valid := false, illegal := false, errs := 0, count := 0, night := 0, pair := none, speed := 0, strobeT := none }

/-- A watch input (R476): filtered level, the last three samples (newest first), and for how many samples in succession the
candidate has differed from the filtered level. -/
structure HallIn where
  filt    : Bool
  samples : List Bool
  run     : Nat
  /-- HMTIME at the last sample -/
  sampleT : Option Nat
deriving DecidableEq, Repr

def HallIn.reset : HallIn := { filt := false, samples := [], run := 0, sampleT := none }

/-- A register write that waits for the next evaluation (R470). -/
structure HallWrite where
  addr : Nat
  val  : Word
  who  : Nat
  guard : Bool
  ring : Nat
deriving DecidableEq, Repr

/-- The battery domain beside its registers (R467). -/
structure Hall where
  /-- VBAT lies above the threshold: the domain runs (R515) -/
  alive   : Bool
  wakeout : Bool
  /-- a requested NIGHT has begun and WAKEOUT has still to go low (R469) -/
  sleepDue : Bool
  zpend   : Bool
  /-- a brown-out or a requested NIGHT has ended mirroring: the channels return to WATCH at the next tick (R55) -/
  unmirror : Bool
  time    : Nat
  /-- HMTIME at the last evaluation, and at the last measurement (R468, R477) -/
  evalT   : Option Nat
  measT   : Option Nat
  write   : Option HallWrite
  watches : Tab Watch
  inputs  : Tab HallIn
  /-- inputs whose filtered level has changed since the last evaluation, a mask -/
  changed : Nat
  /-- temperature and VBAT: filtered value and last sample, once measured -/
  temp    : Option (Int × Int)
  vbat    : Option (Int × Int)
  /-- evaluations in succession at which each rule's condition has held -/
  held    : Tab Nat
  /-- rules met at the last evaluation, a mask (HMMET) -/
  met     : Nat
  /-- event log: NEXT, SEEN, LOST, TOTAL and how many entries are unread -/
  next    : Nat
  seen    : Nat
  lost    : Nat
  total   : Nat
  unread  : Nat
  /-- slots that a zeroize erased and whose Logbook entries wait for the main domain (R482) -/
  zlog    : List Nat
  /-- session counters (R422): failures and the lockout left in ticks, 32,768 to the second -/
  fails   : Nat
  lockout : Nat
  /-- STSNUM, the number of the last session -/
  snum    : Nat
deriving DecidableEq, Repr

/-- The domain after its reset (R422, R467). -/
def Hall.reset : Hall :=
  { alive := true, wakeout := true, sleepDue := false, zpend := false, unmirror := false, time := 0, evalT := none, measT := none, write := none, watches := [], inputs := [], changed := 0
    temp := none, vbat := none, held := [], met := 0, next := 0, seen := 0, lost := 0, total := 0, unread := 0
    zlog := [], fails := 5, lockout := 60 * 32768, snum := 0 }

/-! ### The Guard pair (The Guard Pair and Fault Reaction) -/

/-- What G waits for after its reset (R495, R504). -/
inductive GRestart | none | pair | third
deriving DecidableEq, Repr

/-! ### The whole state -/

/-- The machine. -/
structure State where
  /-- commands waiting, first in first out -/
  pending   : List Instr
  variant   : Variant
  /-- the model's own counter behind the free values (assumption 1, DESIGN CHOICE) -/
  freeCtr   : Nat
  /-- the model's own field: the value returned by the last read that a command made -/
  rdata     : Word
  /-- PSCLK edges since the first pin epoch boundary of this DAWN (R20) -/
  now       : Nat
  /-- registers, by address; per-requester registers at address + 2^32 × (1 + requester) -/
  regs      : Tab Word
  /-- registers written since the last pin epoch boundary whose writes take effect at the next one: the value in force -/
  inForce   : Tab Word
  /-- channel registers whose value in force changed at a boundary: that edge and the value in force before it (R61) -/
  was       : Tab (Nat × Word)
  /-- memory: TCM at its alias addresses, MRAM, shared SRAM, logbook; canonical (Memory.wf) -/
  mem       : List Host.Cell
  /-- words whose check bits disagree: 1 correctable, 2 uncorrectable or poisoned (R332, R333) -/
  ecc       : Tab Nat
  /-- operations of the MRAM controller, oldest first; the program of the first has begun -/
  mrq       : List MrOp
  mrRun     : Bool
  /-- lines whose write-completion flag is clear -/
  openLines : List Nat
  /-- next line of the scrubber, and the reads that have fallen due while operations were queued (R338) -/
  scrub     : Nat
  scrubDue  : Nat
  /-- VDD, VDDM below the brown-out threshold in a dip (R516) -/
  dip       : Bool × Bool
  -- modes, supplies, clocks
  mode      : Mode
  trans     : Option Trans
  dawn      : DawnPhase
  /-- edge at which the hand-over step of DAWN began -/
  stepK     : Nat
  /-- main domain: supplies good (VDD, VDDA, VDDM), RESET_N high, reference present, PLL locked -/
  supply    : List Bool
  resetN    : Bool
  refOk     : Bool
  pllOk     : Bool
  /-- the clocks run (R23) -/
  clocks    : Bool
  /-- PSCLK at the end of the last DAWN (DAWNTIME) -/
  dawnEnd   : Option Nat
  /-- filtered ESTOP_N level (R301) -/
  estopN    : Bool
  /-- the edge at which the filtered level of ESTOP_N last changed (R301); none since the reset -/
  estopAt   : Option Nat
  /-- SVCREQ_N has been low since this edge -/
  svcLow    : Option Nat
  -- positions
  chans     : Tab Channel
  mains     : Mains
  tbs       : Tab Timebase
  wall      : Wall
  caps      : Tab CapBank
  capSeq    : Nat
  /-- the hand-over epoch of R53 has passed -/
  handed    : Bool
  /-- edges of the last two captures and the banks they got, so that requests of one edge share one (R120) -/
  capAt     : List (Nat × Option Nat)
  -- timetable and syllabus
  slots     : Tab Slot
  memq      : List MemWrite
  /-- actions that take effect after their detecting edge, in order -/
  acts      : List Act
  ttPeak    : Nat
  queues    : Tab Queue
  reports   : List Report
  /-- the report buffer has been full and more than 8 wait: reports go before prefetches (R161) -/
  repFirst  : Bool
  -- outputs
  lines     : Tab Line
  gens      : Tab Gen
  pwms      : Tab Pwm
  sds       : Tab Sd
  pins      : Tab Pin
  /-- bank supplies that lie in one of the two ranges of R517, one bit per bank -/
  bankOk    : Nat
  /-- DAWN step 6 has loaded the safe-state table since the last reset of the main domain (R48) -/
  loaded    : Bool
  -- cores
  cores     : Tab Core
  rcs       : Tab Rc
  uarts     : Tab Uart
  att       : Att
  macs      : Tab Mac
  -- units whose requests actions reach
  bells     : Tab (List BellReq)
  /-- messages waiting for an EMPTY slot, oldest first -/
  enq       : List EnMsg
  en        : Enward
  fcMap     : Tab FcEntry
  /-- outstanding forecasts by slot -/
  fcOut     : Tab FcOut
  logQ      : List LogEntry
  /-- the Staff port, and the logical core and world that last wrote a register of each instance block (R434) -/
  staff     : Staff
  owners    : Tab (Nat × Bool)
  /-- words of the snapshot page by offset (R435), and a refresh asked for -/
  page      : Tab Word
  /-- edge of the last refresh -/
  snapK     : Nat
  -- the battery domain
  hall      : Hall
  -- secrets and randomness
  keys      : List KeySlot
  otp       : Otp
  /-- certificate buffer of CERTWR; attestation record of the last ATTEST -/
  certBuf   : List Nat
  attRec    : Option (List Nat)
  /-- a signature is being made over this message (R449) -/
  signing   : Option (List Nat)
  noise     : List NoiseState
  drbgs     : Tab Drbg
  /-- the instance of a core or of the Staff port that was seeded last (R464) -/
  drbgLast  : Nat
  crypto    : Tab Crypto
  /-- requester whose crypto GO was served last -/
  crLast    : Nat
  -- Guard pair
  wdStart   : Tab Nat
  /-- watchdogs whose interval has passed, and the edge of each one's stage 1 (R499, R500) -/
  wdOut     : List Nat
  wdStage   : Tab Nat
  restart   : GRestart
  /-- the copy under test by SAFETEST (true: B) -/
  safeTest  : Option Bool
deriving DecidableEq, Repr

/-- The Finrun right after a power-on reset of a device whose Hall Monitor has just been reset too: an FN4816, in DAWN, waiting for its
reference and PLL (R23, R46, R467). Every register reads its Reset column but RSTCAUSE.POR and HMALARM.POR, which these resets
set, and the power-on reset is the first entry of the Logbook's buffer (R438). What the spec leaves to the board or to production
(pins, OTP, keys, the variant itself) is as assumption 4 (DESIGN CHOICE) says. -/
def State.reset : State :=
  { pending := [], variant := .fn4816, freeCtr := 0, rdata := 0, now := 0
    regs := [(R.HMALARM, 0x10000), (R.RSTCAUSE, 1), (R.LOCKSTAT, 0)], inForce := [], was := []
    mem := [], ecc := [], mrq := [], mrRun := false, openLines := [], scrub := 0, scrubDue := 0, dip := (false, false)
    mode := .dawn, trans := none, dawn := .waitClock, stepK := 0, supply := [true, true, true], resetN := true, refOk := true
    pllOk := true, clocks := false, dawnEnd := none, estopN := true, estopAt := none, svcLow := none
    chans := [], mains := .reset, tbs := [], wall := { base := 0, baseK := 0, hist := [], adj := 0, step := none }, caps := [], capSeq := 0
    handed := false, capAt := []
    slots := [], memq := [], acts := [], ttPeak := 0, queues := [], reports := [], repFirst := false
    lines := (List.range 64).map (fun l => (l, { Line.reset with safed := true })), gens := [], pwms := [], sds := [], pins := []
    bankOk := 15, loaded := false, cores := [], rcs := [], uarts := [], att := .reset, macs := [], bells := [], enq := [], en := .reset, fcMap := []
    fcOut := [], logQ := [{ time := 0, word3 := 134, addr := R.MODESTAT, old := 0, new := 0x609 }]
    staff := .reset, owners := [], page := [], snapK := 0, hall := .reset, keys := List.replicate 7 .blank
    otp := { serial := 0, cert := [], count := 0, bootkey := false, step := 0, svcpend := none }, certBuf := [], attRec := none
    signing := none, noise := List.replicate 3 .starting, drbgs := [], drbgLast := 6, crypto := [], crLast := 5, wdStart := [], wdOut := [], wdStage := [], restart := .none
    safeTest := none }

/-- What stops the machine. -/
inductive Fault
  /-- raised by nothing: every command of this block has a next state, and a fault of a core is an entry that the core takes; safe -/
  | never
deriving DecidableEq, Repr

/-- Why a command is turned away. -/
inductive Refusal
  /-- a command without a meaning; the arms of Dispatch alone may answer it, and none does; safe -/
  | notModelled (mnemonic : String)
deriving DecidableEq, Repr

end Sys2Proof.Machine
end

