-- ==== Sys2Proof/Machine/Flags.lean ====
section
/-! DEFINITION. The status word of a core and the computations that set its sticky flags: saturation (R209), the accumulator
(R206, R207), extraction (R211); and the stepping of X and Y (R204). -/

namespace Sys2Proof.Machine

/-! ### The status word (STW) -/

def stwWORLD : F := ⟨0, 1⟩
def stwRING : F := ⟨1, 2⟩
def stwIML : F := ⟨4, 3⟩
def stwSAT : F := ⟨8, 1⟩
def stwRND : F := ⟨9, 2⟩
def stwSV : F := ⟨12, 1⟩
def stwAV : F := ⟨13, 1⟩

/-- The bits of STW that a table defines; reserved bits read 0 (R11). -/
def stwMask : Word := 0x3777

/-- The core runs in the Guard world. -/
def Core.guard (c : Core) : Bool := stwWORLD.get c.stw == 1

/-- The current ring. -/
def Core.ring (c : Core) : Nat := stwRING.get c.stw

/-- The core with its world and ring changed; the rest of STW is kept. -/
def Core.setWorld (c : Core) (guard : Bool) (ring : Nat) : Core :=
  { c with stw := stwRING.put (stwWORLD.put c.stw guard.toNat) ring }

/-- SV is set when `b` holds, and never cleared (R209, R211). -/
def Core.stickSV (c : Core) (b : Bool) : Core := if b then { c with stw := stwSV.put c.stw 1 } else c

/-- AV is set when `b` holds, and never cleared (R206). -/
def Core.stickAV (c : Core) (b : Bool) : Core := if b then { c with stw := stwAV.put c.stw 1 } else c

/-! ### Saturation (R209) -/

/-- `x` clamped to the signed range of `n` bits, and whether it was clamped. -/
def clampS (n : Nat) (x : Int) : Int × Bool :=
  let hi : Int := (2 ^ (n - 1) : Nat) - 1
  let lo : Int := -((2 ^ (n - 1) : Nat) : Int)
  if hi < x then (hi, true) else if x < lo then (lo, true) else (x, false)

/-- A word holding `x` modulo 2^32. -/
def wordOf (x : Int) : Word := BitVec.ofInt 32 x

/-! ### The accumulator (R206, R207) -/

/-- ACC becomes `x` modulo 2^72; AV is set when `x` lies outside the 72-bit range. -/
def Core.accSet (c : Core) (x : Int) : Core :=
  { c with acc := BitVec.ofInt 72 x }.stickAV (clampS 72 x).2

/-- An accumulation of `d`. -/
def Core.accAdd (c : Core) (d : Int) : Core := c.accSet (c.acc.toInt + d)

/-- The product of an accumulation: 2 × a × b in fractional form, a × b in integer form (R207). -/
def product (frac : Bool) (a b : Word) : Int := (if frac then 2 else 1) * (a.toInt * b.toInt)

/-! ### Extraction (R211) -/

/-- The rounded quotient t of R211. -/
def roundShift (rnd s : Nat) (a : Int) : Int :=
  let d : Int := (2 ^ s : Nat)
  let t := a / d
  let r := a % d
  if s = 0 then t
  else if rnd = 1 then (if d ≤ 2 * r then t + 1 else t)
  else if rnd = 2 then (if d < 2 * r ∨ (2 * r = d ∧ t % 2 = 1) then t + 1 else t)
  else t

/-- Extraction of an `n`-bit result from `a` with shift `s`, sign-extended into a stack entry, and whether it saturated. -/
def extract (sat rnd n s : Nat) (a : Int) : Word × Bool :=
  let t := roundShift rnd s a
  if sat = 1 then (wordOf (clampS n t).1, (clampS n t).2)
  else (wordOf (sx n (wrapN n t)), false)

/-- Extraction under the core's STW. -/
def Core.extracts (c : Core) (n s : Nat) (a : Int) : Word × Bool := extract (stwSAT.get c.stw) (stwRND.get c.stw) n s a

/-! ### Stepping an address register (R204) -/

/-- The low `n` bits of `x` reversed. -/
def bitRev (n x : Nat) : Nat := (upFrom 0 n).foldl (fun r i => if x.testBit i then r + 2 ^ (n - 1 - i) else r) 0

/-- REVADD of R204. -/
def revAdd (a b n : Nat) : Nat := bitRev n ((bitRev n a + bitRev n b) % 2 ^ n)

/-- log2 of a power of two. -/
def log2 (x : Nat) : Nat := ((upFrom 0 32).find? (fun i => 2 ^ i == x)).getD 0

/-- `x` is a power of two. -/
def isPow2 (x : Nat) : Bool := (upFrom 0 32).any (fun i => 2 ^ i == x)

/-- The address register after an access of `e` bytes. -/
def Xreg.stepped (x : Xreg) (e : Nat) : Xreg :=
  let len := x.cfg.toNat % 2 ^ 24
  let o := (x.a - x.b).toNat
  let next : Word :=
    if len = 0 then x.a + x.step
    else if x.cfg.getLsbD 24 = false ∨ isPow2 len = false ∨ len < e then
      x.b + wordOf (((o : Int) + x.step.toInt) % len)
    else
      let q := (x.step.toInt.tdiv e) % ((len / e : Nat) : Int)
      x.b + BitVec.ofNat 32 (o % e + e * revAdd (o % len / e) q.toNat (log2 (len / e)))
  { x with a := next }

end Sys2Proof.Machine
end

