-- ==== Sys2Proof/Machine/Crypto.lean ====
section
/-! DEFINITION. The ciphers and the hash that the manual names: AES-256 (R345, R456; FIPS 197), SHA-256 (R449; FIPS 180-4),
HMAC-SHA-256 (R419; FIPS 198-1) and CMAC (R456; SP 800-38B). Their tables are not in the manual: they are computed here
from the standards' own definitions (assumption 20, PRESUMED). A byte string is a list of numbers below 256, first byte first. -/

namespace Sys2Proof.Machine

/-! ### AES-256 -/

/-- Multiplication by x in GF(2^8). -/
def gfDouble (b : Nat) : Nat := if b < 128 then 2 * b else (2 * b) ^^^ 0x11B

/-- Multiplication in GF(2^8), over the low `n` bits of `b`. -/
def gfMulFrom : Nat → Nat → Nat → Nat
  | 0, _, _ => 0
  | n + 1, a, b => (if b % 2 = 1 then a else 0) ^^^ gfMulFrom n (gfDouble a) (b / 2)

def gfMul (a b : Nat) : Nat := gfMulFrom 8 a b

/-- The inverse in GF(2^8), 0 for 0: the 254th power. -/
def gfInv (a : Nat) : Nat :=
  let a2 := gfMul a a
  let a4 := gfMul a2 a2
  let a8 := gfMul a4 a4
  let a16 := gfMul a8 a8
  let a32 := gfMul a16 a16
  let a64 := gfMul a32 a32
  let a128 := gfMul a64 a64
  gfMul (gfMul (gfMul a2 a4) (gfMul a8 a16)) (gfMul (gfMul a32 a64) a128)

/-- A byte rotated left. -/
def rotByte (b n : Nat) : Nat := ((b <<< n) ||| (b >>> (8 - n))) % 256

def subByte (a : Nat) : Nat :=
  let i := gfInv a
  i ^^^ rotByte i 1 ^^^ rotByte i 2 ^^^ rotByte i 3 ^^^ rotByte i 4 ^^^ 0x63

def unsubByte (b : Nat) : Nat := gfInv (rotByte b 1 ^^^ rotByte b 3 ^^^ rotByte b 6 ^^^ 0x05)

/-- Exclusive or of two byte strings. -/
def xorBytes (a b : List Nat) : List Nat := List.zipWith (· ^^^ ·) a b

/-- The next word of the key schedule from the words so far, the newest first: word number `i` of AES-256. -/
def keyWord (i : Nat) (ws : List (List Nat)) : List Nat :=
  let prev := ws.getD 0 []
  let t :=
    if i % 8 = 0 then
      match prev.map subByte with
      | a :: r => xorBytes (r ++ [a]) [2 ^ (i / 8 - 1), 0, 0, 0]
      | [] => []
    else if i % 8 = 4 then prev.map subByte
    else prev
  xorBytes (ws.getD 7 []) t

/-- `n` more words of the schedule, the newest first. -/
def keyExpand : Nat → Nat → List (List Nat) → List (List Nat)
  | 0, _, ws => ws
  | n + 1, i, ws => keyExpand n (i + 1) (keyWord i ws :: ws)

/-- A byte string cut into pieces of `k` bytes, `n` of them. -/
def pieces (k : Nat) : Nat → List Nat → List (List Nat)
  | 0, _ => []
  | n + 1, l => l.take k :: pieces k n (l.drop k)

/-- The 15 round keys of a 32-byte key. -/
def roundKeys (key : List Nat) : List (List Nat) :=
  let ws := (keyExpand 52 8 (pieces 4 8 key).reverse).reverse
  (pieces 16 15 ws.flatten)

def shiftRows (s : List Nat) : List Nat :=
  (List.range 16).map (fun i => nth s ((i + 4 * (i % 4)) % 16))

def unshiftRows (s : List Nat) : List Nat :=
  (List.range 16).map (fun i => nth s ((i + 16 - 4 * (i % 4)) % 16))

/-- A column multiplied by the circulant matrix whose first row is `m`. -/
def mixWith (m : List Nat) (s : List Nat) : List Nat :=
  (List.range 16).map (fun i =>
    (List.range 4).foldl (fun x j => x ^^^ gfMul (nth m ((j + 4 - i % 4) % 4)) (nth s (i / 4 * 4 + j))) 0)

/-- AES-256 of one 16-byte block. -/
def aesEncrypt (key blk : List Nat) : List Nat :=
  match roundKeys key with
  | k0 :: ks =>
    let mid := (ks.take 13).foldl (fun s k =>
      xorBytes (mixWith [2, 3, 1, 1] (shiftRows (s.map subByte))) k) (xorBytes blk k0)
    xorBytes (shiftRows (mid.map subByte)) (ks.getD 13 [])
  | [] => blk

/-- The inverse of `aesEncrypt`. -/
def aesDecrypt (key blk : List Nat) : List Nat :=
  match (roundKeys key).reverse with
  | k14 :: ks =>
    let mid := (ks.take 13).foldl (fun s k =>
      mixWith [14, 11, 13, 9] (xorBytes ((unshiftRows s).map unsubByte) k)) (xorBytes blk k14)
    xorBytes ((unshiftRows mid).map unsubByte) (ks.getD 13 [])
  | [] => blk

/-- The 16 bytes of a number, lowest first. -/
def bytesLow : Nat → Nat → List Nat
  | 0, _ => []
  | n + 1, v => v % 256 :: bytesLow n (v / 256)

/-- The number whose bytes are `l`, lowest first. -/
def numLow : List Nat → Nat
  | [] => 0
  | b :: l => b % 256 + 256 * numLow l

/-- XEX of one 16-byte block at address `a` (R345): C = AES(P XOR T) XOR T with T = AES(a). -/
def sealBlock (key : List Nat) (a : Nat) (p : List Nat) : List Nat :=
  let t := aesEncrypt key (bytesLow 16 a)
  xorBytes (aesEncrypt key (xorBytes p t)) t

/-- The plaintext of a sealed block (R345). -/
def unsealBlock (key : List Nat) (a : Nat) (c : List Nat) : List Nat :=
  let t := aesEncrypt key (bytesLow 16 a)
  xorBytes (aesDecrypt key (xorBytes c t)) t

/-! ### SHA-256 -/

/-- The largest r below 2^n with r^k ≤ x, building the bits of r from the top. -/
def rootFrom (k x : Nat) : Nat → Nat → Nat
  | 0, r => r
  | n + 1, r => rootFrom k x n (if (r + 2 ^ n) ^ k ≤ x then r + 2 ^ n else r)

/-- The first 64 primes. -/
def primes64 : List Nat := [2, 3, 5, 7, 11, 13, 17, 19, 23, 29, 31, 37, 41, 43, 47, 53, 59, 61, 67, 71, 73, 79, 83, 89,
  97, 101, 103, 107, 109, 113, 127, 131, 137, 139, 149, 151, 157, 163, 167, 173, 179, 181, 191, 193, 197, 199, 211, 223,
  227, 229, 233, 239, 241, 251, 257, 263, 269, 271, 277, 281, 283, 293, 307, 311]

/-- The first 32 fraction bits of the k-th root of `p`. -/
def rootBits (k p : Nat) : Nat := rootFrom k (p * 2 ^ (32 * k)) 40 0 % 2 ^ 32

def shaInit : List Nat := (primes64.take 8).map (rootBits 2)
def shaConst : List Nat := primes64.map (rootBits 3)

def ror32 (x n : Nat) : Nat := (x >>> n) ||| ((x <<< (32 - n)) % 2 ^ 32)

/-- The 64 schedule words of a block, from its 16 words, newest first. -/
def shaSchedule : Nat → List Nat → List Nat
  | 0, w => w
  | n + 1, w =>
    let a := nth w 14
    let b := nth w 1
    let s0 := ror32 a 7 ^^^ ror32 a 18 ^^^ (a >>> 3)
    let s1 := ror32 b 17 ^^^ ror32 b 19 ^^^ (b >>> 10)
    shaSchedule n ((nth w 15 + s0 + nth w 6 + s1) % 2 ^ 32 :: w)

/-- One round on the eight working words. -/
def shaRound (v : List Nat) (kw : Nat) : List Nat :=
  match v with
  | [a, b, c, d, e, f, g, h] =>
    let s1 := ror32 e 6 ^^^ ror32 e 11 ^^^ ror32 e 25
    let ch := (e &&& f) ^^^ ((e ^^^ 0xFFFFFFFF) &&& g)
    let t1 := h + s1 + ch + kw
    let s0 := ror32 a 2 ^^^ ror32 a 13 ^^^ ror32 a 22
    let maj := (a &&& b) ^^^ (a &&& c) ^^^ (b &&& c)
    [(t1 + s0 + maj) % 2 ^ 32, a, b, c, (d + t1) % 2 ^ 32, e, f, g]
  | v => v

/-- The number whose bytes are `l`, highest first. -/
def numHigh (l : List Nat) : Nat := l.foldl (fun x b => x * 256 + b % 256) 0

/-- The low `n` bytes of `v`, highest first. -/
def bytesHigh (n v : Nat) : List Nat := (bytesLow n v).reverse

def shaBlock (h blk : List Nat) : List Nat :=
  let w := (shaSchedule 48 ((pieces 4 16 blk).map numHigh).reverse).reverse
  let v := (List.zipWith (· + ·) shaConst w).foldl shaRound h
  List.zipWith (fun x y => (x + y) % 2 ^ 32) h v

/-- SHA-256 of a byte string, 32 bytes. -/
def sha256 (m : List Nat) : List Nat :=
  let z := (119 - m.length % 64) % 64
  let p := m ++ [0x80] ++ List.replicate z 0 ++ bytesHigh 8 (8 * m.length)
  ((pieces 64 (p.length / 64) p).foldl shaBlock shaInit).flatMap (bytesHigh 4)

/-- HMAC-SHA-256 under a 32-byte key. -/
def hmac256 (key m : List Nat) : List Nat :=
  let k := key ++ List.replicate 32 0
  sha256 (k.map (· ^^^ 0x5C) ++ sha256 (k.map (· ^^^ 0x36) ++ m))

/-! ### CMAC -/

/-- Doubling in GF(2^128), bytes highest first. -/
def cmacDouble (b : List Nat) : List Nat :=
  let v := numHigh b
  bytesHigh 16 (if v < 2 ^ 127 then 2 * v else (2 * v) % 2 ^ 128 ^^^ 0x87)

/-- The last step of CMAC: the chaining value `x` and the last message block of `n` bytes. -/
def cmacLast (key x : List Nat) (last : List Nat) : List Nat :=
  let k1 := cmacDouble (aesEncrypt key (List.replicate 16 0))
  let blk :=
    if last.length = 16 then xorBytes last k1
    else xorBytes (last ++ [0x80] ++ List.replicate (15 - last.length) 0) (cmacDouble k1)
  aesEncrypt key (xorBytes x blk)

/-- AES-CMAC of a byte string. -/
def cmac (key m : List Nat) : List Nat :=
  let n := (m.length - 1) / 16
  let x := (pieces 16 n m).foldl (fun x b => aesEncrypt key (xorBytes x b)) (List.replicate 16 0)
  cmacLast key x (m.drop (16 * n))

end Sys2Proof.Machine
end

