-- ==== Sys2Proof/Machine/Ops.lean ====
section
/-! DEFINITION. The shared operations: registers, memory, requesters, interrupt arrivals, the Logbook buffer, wall time and
free values. -/

namespace Sys2Proof.Machine

/-! ### Registers -/

/-- The value of the register at address `a` (R9, R13): what was stored, else its Reset column. -/
def State.rd (s : State) (a : Nat) : Word := s.regs.get (resetAt a) a

/-- The state with register `a` at `v`. -/
def State.wr (s : State) (a : Nat) (v : Word) : State := { s with regs := s.regs.put a v }

/-- A field of register `a`. -/
def State.fld (s : State) (a : Nat) (f : F) : Nat := f.get (s.rd a)

/-- The state with a field of register `a` at `x`. -/
def State.setFld (s : State) (a : Nat) (f : F) (x : Nat) : State := s.wr a (f.put (s.rd a) x)

/-- A counter field counts `n` and stops at its largest value. -/
def State.count (s : State) (a : Nat) (f : F) (n : Nat) : State :=
  s.setFld a f (satAdd (2 ^ f.w - 1) (s.fld a f) n)

/-- The value in force of a register whose writes wait for a pin epoch boundary. -/
def State.eff (s : State) (a : Nat) : Word := s.inForce.get (s.rd a) a

/-- A field in force. -/
def State.effFld (s : State) (a : Nat) (f : F) : Nat := f.get (s.eff a)

/-- A write that takes effect at the next pin epoch boundary: the register reads `v` at once, the old value stays in
force. -/
def State.defer (s : State) (a : Nat) (v : Word) : State :=
  { s with inForce := s.inForce.put a (s.eff a), regs := s.regs.put a v }

/-- The address of requester `id`'s own copy of a register kept per requester (R64, TTNEW, TTRES and the like). -/
def perReq (id a : Nat) : Nat := a + 0x100000000 * (1 + id)

/-- Requester `id`'s copy of a register kept per requester. -/
def State.rdReq (s : State) (id a : Nat) : Word := s.regs.get 0 (perReq id a)

/-- The state with requester `id`'s copy at `v`. -/
def State.wrReq (s : State) (id a : Nat) (v : Word) : State := { s with regs := s.regs.put (perReq id a) v }

/-! ### Requesters -/

/-- A requester with the rights it acts under: 0 G, 1-4 C0-C3, 5 the Staff port (coded as TTSLOT.REQ). -/
structure Who where
  id    : Nat
  guard : Bool
  ring  : Nat
deriving DecidableEq, Repr

/-- The Staff port in a session. -/
def Who.staff : Who := { id := 5, guard := false, ring := 0 }

def Who.isStaff (w : Who) : Bool := w.id == 5

/-- Guard ring 0 of any core. -/
def Who.guard0 (w : Who) : Bool := w.id != 5 && w.guard && w.ring == 0

/-- Guard ring 0 or the Staff port. -/
def Who.priv (w : Who) : Bool := w.isStaff || w.guard0

/-- Ring 0 or 1 of either world, or the Staff port in a session (check 1 of R125). -/
def Who.ring01 (w : Who) : Bool := w.isStaff || decide (w.ring ≤ 1)

/-- Ring 0 of either world, or the Staff port. -/
def Who.ring0 (w : Who) : Bool := w.isStaff || w.ring == 0

/-- A request from the Shop world (the Staff port is not one). -/
def Who.shop (w : Who) : Bool := !w.isStaff && !w.guard

/-! ### What the variant has (R1, R58) -/

/-- Independent cores of the variant. -/
def Variant.nInd : Variant → Nat
  | .fn4816 => 4
  | .fn4812 => 2
  | .fn4808 => 0

/-- Physical cores. -/
def Variant.nPhys : Variant → Nat
  | .fn4816 => 6
  | .fn4812 => 4
  | .fn4808 => 2

/-- Position channels, which are the local timebases. -/
def Variant.nLocal : Variant → Nat
  | .fn4816 => 16
  | .fn4812 => 12
  | .fn4808 => 8

def Variant.enward : Variant → Bool
  | .fn4808 => false
  | _ => true

def Variant.nMac : Variant → Nat
  | .fn4816 => 2
  | .fn4812 => 1
  | .fn4808 => 0

def Variant.nAdc : Variant → Nat
  | .fn4816 => 8
  | .fn4812 => 4
  | .fn4808 => 0

def Variant.nRecit : Variant → Nat
  | .fn4816 => 8
  | .fn4812 => 4
  | .fn4808 => 2

/-- Noise sources A, B, C: how many of them. -/
def Variant.nNoise : Variant → Nat
  | .fn4808 => 1
  | _ => 3

def Variant.nDrbg : Variant → Nat
  | .fn4816 => 10
  | .fn4812 => 8
  | .fn4808 => 5

/-- Logical core `l` (0 G, 1-4 C0-C3) is present. -/
def Variant.hasCore (v : Variant) (l : Nat) : Bool := decide (l ≤ v.nInd)

/-- Timebase `t` is present: local ones by channel, 16 to 31 always (R58). -/
def Variant.hasTb (v : Variant) (t : Nat) : Bool := decide (t < v.nLocal ∨ (16 ≤ t ∧ t < 32))

/-- The lower physical member of logical core `l`: C0-C3 are their own numbers, G is the pair above them (R1). -/
def Variant.phys (v : Variant) (l : Nat) : Nat := if l = 0 then v.nInd else l - 1

/-- DRBG instance `n` is present (R58, R463). -/
def Variant.hasDrbg (v : Variant) (n : Nat) : Bool :=
  if n < 6 then decide (n < v.nPhys) else if n = 7 then v.enward else decide (n < 10)

/-- Hardware that the variant lacks holds the register at `a` (R58, R329): a whole window, or the block of an absent channel, core
or instance. -/
def Variant.absentAt (v : Variant) (a : Nat) : Bool :=
  let off := a % 0x10000
  match a / 0x10000 with
  | 0x4001 =>
    if off < 0x800 then !v.hasTb (off / 0x40)
    else decide (0x8000 ≤ off ∧ off < 0x8800 ∧ v.nLocal ≤ (off - 0x8000) / 0x80)
  | 0x4002 => decide (0x840 ≤ off ∧ off < 0x854) && !v.hasCore ((off - 0x840) / 4)
  | 0x4005 =>
    if 0x1000 ≤ off ∧ off < 0x1500 then !v.hasCore ((off - 0x1000) / 0x100)
    else decide (0x4000 ≤ off ∧ off < 0x5400) && !v.hasCore ((off - 0x4000) / 0x400)
  | 0x4006 => !v.enward
  | 0x4007 => decide (off < 0x2000 ∧ v.nRecit ≤ off / 0x400)
  | 0x400A => v.nMac == 0 || decide (off < 0x2000 ∧ v.nMac ≤ off / 0x1000)
  | 0x400B => decide (0x200 ≤ off ∧ off < 0x228) && !v.hasDrbg ((off - 0x200) / 4)
  | 0x400E =>
    if 0x300 ≤ off ∧ off < 0x318 then decide (v.nPhys ≤ (off - 0x300) / 4)
    else if 0x400 ≤ off ∧ off < 0x460 then decide (v.nPhys ≤ (off - 0x400) / 0x10)
    else if 0x500 ≤ off ∧ off < 0x528 then !v.hasCore ((off - 0x500) / 8)
    else if 0x700 ≤ off ∧ off < 0x750 then !v.hasCore ((off - 0x700) / 0x10)
    else decide (0x1000 ≤ off ∧ off < 0x2400) && !v.hasCore ((off - 0x1000) / 0x400)
  | _ => false

/-! ### Wall time (R111) -/

/-- The pair (edge, wall time) from which the wall time at edge `k` counts: the newest that is not after `k`. -/
def Wall.baseAt (w : Wall) (k : Int) : Nat × Nat :=
  if (w.baseK : Int) ≤ k then (w.baseK, w.base)
  else (w.hist.find? (fun p => decide ((p.1 : Int) ≤ k))).getD (w.hist.getLastD (w.baseK, w.base))

/-- Wall time at PSCLK edge `k`, in 1/256 PSCLK, 72 bits: what it was at that edge, for an edge passed (R545). -/
def State.wallAt (s : State) (k : Int) : Nat :=
  wrapN 72 (((s.wall.baseAt k).2 : Int) + 256 * (k - (s.wall.baseAt k).1))

/-- Wall time at edge `k` in whole PSCLK. -/
def State.wallPs (s : State) (k : Int) : Nat := s.wallAt k / 256

/-! ### Free values -/

/-- A value that the spec leaves open (assumption 1, DESIGN CHOICE), and the state in which the next one is fresh. -/
def State.free (s : State) : Word × State := (Config.freeWord s.freeCtr, { s with freeCtr := s.freeCtr + 1 })

/-! ### Memory: one list of (address, byte) in canonical form; an unlisted address reads 0 (assumption 3, DESIGN CHOICE) -/

/-- The byte at address `k`. -/
def memGet : List Host.Cell → Nat → Byte
  | [], _ => 0
  | (a, v) :: m, k => if a = k then v else if k < a then 0 else memGet m k

/-- The memory with `v` at address `k`; writing 0 removes the entry. -/
def memPut : List Host.Cell → Nat → Byte → List Host.Cell
  | [], k, v => if v = 0 then [] else [(k, v)]
  | (a, w) :: m, k, v =>
    if k < a then (if v = 0 then (a, w) :: m else (k, v) :: (a, w) :: m)
    else if k = a then (if v = 0 then m else (k, v) :: m)
    else (a, w) :: memPut m k v

/-- Addresses strictly rising, the first above `b`, and no entry equal to what an unlisted address reads as. -/
def memWfFrom : Option Nat → List Host.Cell → Bool
  | _, [] => true
  | b, (a, v) :: m => (b.all (fun x => decide (x < a))) && v != 0 && memWfFrom (some a) m

/-- The canonical form of memory. -/
def Memory.wf (m : List Host.Cell) : Bool := memWfFrom none m

/-- Byte `a` of memory. -/
def State.byte (s : State) (a : Nat) : Byte := memGet s.mem a

/-- The state with byte `a` of memory at `v`. -/
def State.setByte (s : State) (a : Nat) (v : Byte) : State := { s with mem := memPut s.mem a v }

/-- `n` bytes from address `a`, the lowest address in the lowest byte (R197). -/
def State.ld (s : State) : Nat → Nat → Nat
  | 0, _ => 0
  | n + 1, a => (s.byte a).toNat + 256 * s.ld n (a + 1)

/-- The low `n` bytes of `v` stored from address `a`, the lowest byte at the lowest address (R197). -/
def State.st (s : State) : Nat → Nat → Nat → State
  | 0, _, _ => s
  | n + 1, a, v => (s.setByte a (BitVec.ofNat 8 v)).st n (a + 1) (v / 256)

/-- The address lies in shared SRAM. -/
def inSram (a : Nat) : Bool := decide (0x20000000 ≤ a ∧ a < 0x20200000)

/-! ### Interrupt arrivals (R303, R305) -/

/-- Source `n` belongs to hardware of the variant (R5, R303). -/
def State.hasSrc (s : State) (n : Nat) : Bool :=
  let v := s.variant
  if n < 0x20 then decide (n % 16 < v.nLocal)
  else if n < 0x60 then v.hasTb (n % 32)
  else if n ≤ 0x90 then true
  else if n < 0x98 then false
  else if n < 0xB8 then decide (n % 8 < 5) && v.hasCore (n % 8)
  else if n < 0xC0 then false
  else if n < 0xC8 then v.enward
  else if n < 0xD0 then decide (n % 8 < v.nRecit)
  else if n < 0xE4 then true
  else if n < 0xEC then decide ((n - 0xE4) / 4 < v.nMac)
  else decide (n ≤ 0xF3)

/-- One arrival at source `n` (R305): the counter stops at 15, with OVF and IRQLOST. -/
def State.arrive (s : State) (n : Nat) : State :=
  if s.hasSrc n then
    if s.fld (R.IRQCNT n) R.IRQCNT_COUNT < 15 then
      s.setFld (R.IRQCNT n) R.IRQCNT_COUNT (s.fld (R.IRQCNT n) R.IRQCNT_COUNT + 1)
    else (s.setFld (R.IRQCNT n) R.IRQCNT_OVF 1).count R.IRQLOST R.IRQLOST_COUNT 1
  else s

/-- Arrivals at the sources of a list, in order. -/
def State.arriveAll (s : State) (l : List Nat) : State := l.foldl State.arrive s

/-! ### The Logbook's buffer (R437-R439) -/

/-- CRC-32 of IEEE 802.3 over bytes, reflected, with its final complement. -/
def crc32 (l : List Nat) : Nat :=
  let bit (c : Nat) (_ : Nat) : Nat := if c % 2 = 1 then (c / 2) ^^^ 0xEDB88320 else c / 2
  (l.foldl (fun c b => (upFrom 0 8).foldl bit (c ^^^ b % 256)) 0xFFFFFFFF) ^^^ 0xFFFFFFFF

/-- The oldest waiting entry is programmed (R438, R439): its words with SEQ and CHECK, at the index that LBSTAT.NEXT names. -/
def State.logProgram (s : State) : State :=
  match s.logQ with
  | [] => s
  | e :: rest =>
    let seq := (s.rd R.LBSEQ).toNat % 0xFFFFFFFF + 1
    let n := s.fld R.LBSTAT R.LBSTAT_NEXT
    let a := R.LOGENT n 0
    let body := seq + 2 ^ 32 * (e.time % 2 ^ 64) + 2 ^ 96 * e.word3 + 2 ^ 128 * e.addr + 2 ^ 160 * e.old + 2 ^ 192 * e.new
    let s := { s with logQ := rest }.st 28 a body
    let s := s.st 4 (a + 28) (crc32 ((upFrom a 28).map (fun i => (s.byte i).toNat)))
    (s.wr R.LBSEQ (BitVec.ofNat 32 seq)).setFld R.LBSTAT R.LBSTAT_NEXT (n + 1)

/-- The `n` oldest waiting entries are programmed. -/
def State.logPrograms (s : State) : Nat → State
  | 0 => s
  | n + 1 => s.logProgram.logPrograms n

/-- Every waiting entry is programmed. -/
def State.logFlush (s : State) : State := s.logPrograms s.logQ.length

/-- A change that finds the buffer of 32 full waits until its oldest entry is programmed; LBSTAT.WAIT counts 1 to 20 PSCLK, a
free value (R439, assumption 42, DESIGN CHOICE). -/
def State.logRoom (s : State) : State :=
  if s.logQ.length < 32 then s
  else
    let r := s.free
    (r.2.count R.LBSTAT R.LBSTAT_WAIT (1 + r.1.toNat % 20)).logProgram

/-- A change that the Logbook records, put into its buffer: KIND 0 register, 1 command, 2 transition, 3 event. -/
def State.log (s : State) (path : Nat) (guard : Bool) (ring kind event addr old new : Nat) : State :=
  let s := s.logRoom
  let w3 := path + 8 * guard.toNat + 16 * ring + 64 * kind + 256 * event + (if path = 5 then 65536 * s.hall.snum else 0)
  { s with logQ := s.logQ ++ [{ time := s.wallPs s.now, word3 := w3, addr := addr, old := old, new := new }] }

/-- A register write or a command by `w` that the Logbook records. -/
def State.logWho (s : State) (w : Who) (kind addr old new : Nat) : State :=
  s.log w.id (!w.isStaff && w.guard) (if w.isStaff then 0 else w.ring) kind 0 addr old new

/-- The bits of a register that a write can change: its RW and W1S fields. -/
def wmaskAt (a : Nat) : Word :=
  match rowAt a with
  | some r => r.mask (fun t _ => t == .rw || t == .w1s)
  | none => 0

/-- The register has a field loaded during DAWN: it is a configuration register (R437). -/
def isConfigReg (a : Nat) : Bool :=
  match rowAt a with
  | some r => r.fields.any (fun f => match f.2.2 with | .l _ => true | _ => false)
  | none => false

/-- An accepted write of a configuration register is recorded when the Staff port or Guard ring 0 makes it (R437). -/
def State.logCfg (s : State) (w : Who) (a : Nat) (old new : Word) : State :=
  if w.priv && isConfigReg a then
    s.logWho w 0 a (old &&& wmaskAt a).toNat (new &&& wmaskAt a).toNat
  else s

/-! ### Modes -/

/-- The mode code of MODESTAT.MODE. -/
def Mode.code : Mode → Nat
  | .night => 0
  | .dawn => 1
  | .prepare => 2
  | .run => 3
  | .hold => 4
  | .safe => 5
  | .service => 6
  | .lockout => 7

/-- The three modes in which the Timetable evaluates periods (R31). -/
def Mode.active : Mode → Bool
  | .prepare | .run | .hold => true
  | _ => false

/-- The pin epoch boundary after edge `k` (R20). -/
def nextBoundary (k : Nat) : Nat := (k / 8 + 1) * 8

end Sys2Proof.Machine
end

