-- ==== Sys2Proof/Machine/Memory.lean ====
section
/-! DEFINITION. Memory behind the address map: ECC (R332, R333), sealed regions (R343-R346), the MRAM controller, its line
flags and the scrubber (R334-R342). -/

namespace Sys2Proof.Machine

/-! ### Where an address lies -/

/-- The key under which memory holds byte `off` (modulo 2 MiB) of the TCM of physical core `p`: both members of the Guard
pair share the lower member's (R213, R214). -/
def Variant.tcmKey (v : Variant) (p off : Nat) : Nat :=
  let q := if p = v.nInd + 1 then v.nInd else p
  0x30000000 + 0x200000 * q + off % 0x200000

/-- The memory that holds a key: 1 TCM, 2 shared SRAM, 3 MRAM (MEMUEWHO.MEM). -/
def memKind (a : Nat) : Nat := if a < 0x20000000 then 3 else if a < 0x30000000 then 2 else 1

/-- The ECC word of a key: 64 bits in MRAM, 32 bits elsewhere (R330, R331, R334). -/
def eccWord (a : Nat) : Nat := if memKind a = 3 then a / 8 * 8 else a / 4 * 4

/-- The size of the ECC word of a key, in bytes. -/
def eccSize (a : Nat) : Nat := if memKind a = 3 then 8 else 4

/-- The ECC words that `n` bytes from `a` touch. -/
def eccWords (a n : Nat) : List Nat :=
  let z := eccSize a
  (upFrom (a / z) ((a + n - 1) / z + 1 - a / z)).map (· * z)

/-! ### Sealed regions -/

/-- The sealed region that MRAM address `a` lies in, if any (R343). -/
def State.sealedAt (s : State) (a : Nat) : Option Nat :=
  if memKind a = 3 then
    (List.range 4).find? (fun r =>
      s.fld (R.SEALCFG r) R.SEALCFG_EN = 1 ∧ s.fld (R.SEALCFG r) R.SEALCFG_LINE ≤ a % 0x800000 / 64 ∧
        a % 0x800000 / 64 ≤ s.fld (R.SEALLIM r) R.SEALLIM_LINE)
  else none

/-- Some of `n` bytes from `a` lie in a sealed region. -/
def State.anySealed (s : State) (a n : Nat) : Bool := (upFrom a n).any (fun b => (s.sealedAt b).isSome)

/-- The seal key, when slot 2 is SET (R345, R346). -/
def State.sealKey (s : State) : Option (List Nat) :=
  match s.keys[2]? with
  | some k => if k.state == .set then some k.key else none
  | none => none

/-- The 16 plaintext bytes of the block that holds `a` of a sealed region (R345). -/
def State.unsealed (s : State) (key : List Nat) (a : Nat) : List Nat :=
  let b := a / 16 * 16
  unsealBlock key b ((upFrom b 16).map (fun i => (s.byte i).toNat))

/-- Byte `a` as a permitted reader sees it: decrypted in a sealed region (R345). -/
def State.plain (s : State) (a : Nat) : Nat :=
  match s.sealedAt a, s.sealKey with
  | some _, some key => nth (s.unsealed key a) (a % 16)
  | _, _ => (s.byte a).toNat

/-- `n` bytes from `a` as a permitted reader sees them, the lowest address in the lowest byte (R216). -/
def State.peek (s : State) : Nat → Nat → Nat
  | 0, _ => 0
  | n + 1, a => s.plain a + 256 * s.peek n (a + 1)

/-- Byte `a` written: the whole block is encrypted again in a sealed region (R345). -/
def State.poke1 (s : State) (a v : Nat) : State :=
  match s.sealedAt a, s.sealKey with
  | some _, some key =>
    let b := a / 16 * 16
    let p := (s.unsealed key a).set (a % 16) (v % 256)
    s.st 16 b (numLow (sealBlock key b p))
  | _, _ => s.setByte a (BitVec.ofNat 8 v)

/-- The low `n` bytes of `v` written from `a`. -/
def State.poke (s : State) : Nat → Nat → Nat → State
  | 0, _, _ => s
  | n + 1, a, v => (s.poke1 a v).poke n (a + 1) (v / 256)

/-! ### Errors found by the check bits -/

/-- The counter field of a memory in MEMECC0 and MEMECC1. -/
def eccField (kind : Nat) : F := ⟨8 * (kind - 1), 8⟩

/-- An uncorrectable error of the word at `a` is recorded (R332). -/
def State.noteUncorr (s : State) (a : Nat) (scrub : Bool) : State :=
  let k := memKind a
  let s := s.count R.MEMECC1 (eccField k) 1
  if s.fld R.MEMUEWHO R.MEMUEWHO_SEEN = 1 then s
  else
    let phys := if k = 1 then (a - 0x30000000) / 0x200000 else 0
    let own := if k = 1 then (a - 0x30000000) % 0x200000 else a
    let s := s.wr R.MEMUEADDR (BitVec.ofNat 32 own)
    s.wr R.MEMUEWHO (BitVec.ofNat 32 (k + 4 * scrub.toNat + 16 * phys + 256))

/-- The word at `w` is read (R332): a single-bit error is corrected and written back, an uncorrectable one recorded. True
when it is uncorrectable. -/
def State.checkWord (s : State) (scrub : Bool) (w : Nat) : State × Bool :=
  match s.ecc.get 0 w with
  | 0 => (s, false)
  | 1 =>
    let s := { s with ecc := s.ecc.erase (· == w) }.count R.MEMECC0 (eccField (memKind w)) 1
    (if scrub then s.count R.MEMECC0 R.MEMECC0_SCRUBCE 1 else s, false)
  | _ => (s.noteUncorr w scrub, true)

/-- Every word of a list is read; true when one is uncorrectable. -/
def State.checkWords (s : State) (scrub : Bool) : List Nat → State × Bool
  | [] => (s, false)
  | w :: ws =>
    let r := s.checkWord scrub w
    let t := r.1.checkWords scrub ws
    (t.1, r.2 || t.2)

/-- `n` bytes from `a` are read with their check bits; true when one of their words is uncorrectable. -/
def State.eccRead (s : State) (a n : Nat) : State × Bool := s.checkWords false (eccWords a n)

/-- A write of `n` bytes from `a` covers the whole word at `w`. -/
def coversWord (a n w : Nat) : Bool := decide (a ≤ w ∧ w + eccSize w ≤ a + n)

/-- The check bits of the words that a write meets (R333, R335): a whole word is made good; a part is merged, and a word
that is uncorrectable stays so and counts as poisoned. -/
def State.mergeWords (s : State) (a n : Nat) : List Nat → State
  | [] => s
  | w :: ws =>
    if coversWord a n w then { s with ecc := s.ecc.erase (· == w) }.mergeWords a n ws
    else
      let r := s.checkWord false w
      (if r.2 then r.1.count R.MEMECC1 R.MEMECC1_POISONW 1 else r.1).mergeWords a n ws

/-- The write of the low `n` bytes of `v` at `a` takes effect: check bits, then bytes. A sealed block is always programmed
whole (R345). -/
def State.store (s : State) (a n v : Nat) : State :=
  let words := if s.anySealed a n then eccWords (a / 16 * 16) ((a + n + 15) / 16 * 16 - a / 16 * 16) else eccWords a n
  ((s.mergeWords a n words).poke n a v)

/-! ### The MRAM controller -/

/-- An operation enters the controller's queue. -/
def State.mrPush (s : State) (op : MrOp) : State := { s with mrq := s.mrq ++ [op] }

/-- The store buffer entry of core `l` that is the oldest to MRAM and not complete completes (R269, R335). -/
def State.mrAck (s : State) (l : Nat) : State :=
  let mark : List SbEntry → List SbEntry := fun q =>
    match q.span (fun e => e.tgt != .mram || e.done) with
    | (h, e :: t) => h ++ { e with done := true } :: t
    | (h, []) => h
  { s with cores := s.cores.upd .reset l (fun c => { c with sb := mark c.sb }) }

/-- The operation takes effect: its program of 20 PSCLK has ended (R335, R340). -/
def State.mrApply (s : State) : MrOp → State
  | .write who a n v =>
    let s := s.store a n v
    if who < 5 then s.mrAck who else s
  | .flag line closed =>
    let rest := s.openLines.filter (· != line)
    { s with openLines := if closed then rest else rest ++ [line] }
  | .zero line =>
    let a := 0x10000000 + 64 * line
    { s with ecc := s.ecc.erase (fun w => decide (a ≤ w ∧ w < a + 64)) }.st 64 a 0

/-- The scrubber reads its next line, writing back what it corrects; a wrap counts a pass (R338). -/
def State.scrubLine (s : State) : State :=
  let a := 0x10000000 + 64 * s.scrub
  let s := (s.checkWords true ((upFrom 0 8).map (fun i => a + 8 * i))).1
  if s.scrub + 1 = 0x20000 then
    { s with scrub := 0 }.setFld R.MRSCRUB R.MRSCRUB_PASSES (s.fld R.MRSCRUB R.MRSCRUB_PASSES + 1)
  else { s with scrub := s.scrub + 1 }

/-- `n` lines are read, one after another. -/
def State.scrubLines (s : State) : Nat → State
  | 0 => s
  | n + 1 => s.scrubLine.scrubLines n

/-- A scrub read falls due (R338): it is made when the queue is empty, and waits otherwise. -/
def State.scrubRead (s : State) : State :=
  if !s.clocks || s.fld R.MRSCRUB R.MRSCRUB_PER = 0 then s
  else if s.mrq.isEmpty then s.scrubLine else { s with scrubDue := s.scrubDue + 1 }

/-- The first operation of the controller completes. Scrub reads that wait are made once the queue is empty. -/
def State.mrNext (s : State) : State :=
  match s.mrq with
  | [] => s
  | op :: rest =>
    let s := { s with mrq := rest, mrRun := false }.mrApply op
    if s.mrq.isEmpty then { s with scrubDue := 0 }.scrubLines s.scrubDue else s

/-- `n` operations complete, the oldest first. -/
def State.mrDrop (s : State) : Nat → State
  | 0 => s
  | n + 1 => s.mrNext.mrDrop n

/-- Every operation that the controller holds completes (R38, R336, R549). -/
def State.mrFlush (s : State) : State := s.mrDrop s.mrq.length

/-! ### Line flags (R340) -/

def State.openEntry (s : State) (line : Nat) : Option Nat :=
  (List.range 8).find? (fun n =>
    s.fld (R.MRLOPEN n) R.MRLOPEN_VALID = 1 ∧ s.fld (R.MRLOPEN n) R.MRLOPEN_LINE = line)

def State.freeEntry (s : State) : Option Nat :=
  (List.range 8).find? (fun n => s.fld (R.MRLOPEN n) R.MRLOPEN_VALID = 0)

/-- Lines open now (MRSTAT.OPEN). -/
def State.openCount (s : State) : Nat :=
  ((List.range 8).filter (fun n => s.fld (R.MRLOPEN n) R.MRLOPEN_VALID = 1)).length

/-- The requester may open a line: ring 0 of either world, the Staff port. -/
def Who.mayOpen (w : Who) : Bool := w.isStaff || w.ring == 0

/-- A line command (R340): the result code, and the state. -/
def State.lineCmd (s : State) (w : Who) (cmd line : Nat) : Nat × State :=
  let shut := w.shop && (s.sealedAt (0x10000000 + 64 * line)).isSome
  match cmd with
  | 1 =>
    if shut || !w.mayOpen then (1, s)
    else if (s.openEntry line).isSome then (3, s)
    else
      match s.freeEntry with
      | none => (2, s)
      | some n =>
        (0, (s.wr (R.MRLOPEN n) (BitVec.ofNat 32 (1 + 4 * w.id + 64 * line))).mrPush (.flag line false))
  | 2 =>
    match s.openEntry line with
    | none => if shut || !w.mayOpen then (1, s) else (4, s)
    | some n =>
      let own := s.fld (R.MRLOPEN n) R.MRLOPEN_OWNER = w.id && w.mayOpen &&
        s.fld (R.MRLOPEN n) R.MRLOPEN_DAWNF = 0
      if shut || !(w.priv || own) then (1, s)
      else (0, (s.wr (R.MRLOPEN n) 0).mrPush (.flag line true))
  | 3 => if w.priv then (0, s.mrPush (.zero line)) else (1, s)
  | _ => (0, s)

/-- A write of MRLCMD: the result goes to the requester's MRLRES. -/
def State.mrlcmdWrite (s : State) (w : Who) (v : Word) : State :=
  let r := s.lineCmd w (R.MRLCMD_CMD.get v) (R.MRLCMD_LINE.get v)
  if R.MRLCMD_CMD.get v = 0 then s else r.2.wrReq w.id R.MRLRES (BitVec.ofNat 32 r.1)

/-! ### The scrubber (R338) -/

/-- A write of MRSCRUB by Guard ring 0 or the Staff port. -/
def State.mrscrubWrite (s : State) (w : Who) (v : Word) : State :=
  if w.priv then s.setFld R.MRSCRUB R.MRSCRUB_PER (R.MRSCRUB_PER.get v) else s

/-- DAWN step 2 lists every line whose flag is clear (R342). -/
def State.listOpen (s : State) : State :=
  let n := s.openLines.length
  let put := (List.range 8).foldl (fun (s : State) i =>
    match s.openLines[i]? with
    | some line => s.wr (R.MRLOPEN i) (BitVec.ofNat 32 (3 + 4 * 7 + 64 * line))
    | none => s) s
  put.setFld R.MRSTAT R.MRSTAT_INCOMP (min 8 n)

/-- Every enabled sealed region is programmed with 0 (R347). -/
def State.eraseSealed (s : State) : State :=
  (List.range 4).foldl (fun (s : State) r =>
    if s.fld (R.SEALCFG r) R.SEALCFG_EN = 1 then
      let lo := 0x10000000 + 64 * s.fld (R.SEALCFG r) R.SEALCFG_LINE
      let hi := 0x10000000 + 64 * (s.fld (R.SEALLIM r) R.SEALLIM_LINE + 1)
      { s with mem := s.mem.filter (fun c => !decide (lo ≤ c.1 ∧ c.1 < hi))
               ecc := s.ecc.erase (fun k => decide (lo ≤ k ∧ k < hi)) }
    else s) s

end Sys2Proof.Machine
end

