-- ==== Sys2Proof/Machine/Outputs.lean ====
section
/-! DEFINITION. Event Lines, Drives and Pin Functions: what each output drives (R170-R173), event lines, forcing,
pulse trains, PWM, sigma-delta and the pin mux, with the commands of that chapter. -/

namespace Sys2Proof.Machine

def State.line (s : State) (l : Nat) : Line := s.lines.get .reset l
def State.setLine (s : State) (l : Nat) (x : Line) : State := { s with lines := s.lines.put l x }
def State.gen (s : State) (g : Nat) : Gen := s.gens.get .reset g
def State.setGen (s : State) (g : Nat) (x : Gen) : State := { s with gens := s.gens.put g x }
def State.pwm (s : State) (c : Nat) : Pwm := s.pwms.get .reset c
def State.setPwm (s : State) (c : Nat) (x : Pwm) : State := { s with pwms := s.pwms.put c x }
def State.sd (s : State) (i : Nat) : Sd := s.sds.get .reset i
def State.setSd (s : State) (i : Nat) (x : Sd) : State := { s with sds := s.sds.put i x }
def State.pin (s : State) (b : Nat) : Pin := s.pins.get .reset b
def State.setPin (s : State) (b : Nat) (x : Pin) : State := { s with pins := s.pins.put b x }

/-- The result code of a write to the Outputs window, kept per requester (OUTWSTAT). -/
def State.outStat (s : State) (w : Who) (code : Nat) : State := s.wrReq w.id R.OUTWSTAT (BitVec.ofNat 32 code)

/-! ### Fine-delay registers (R140, R547) -/

/-- An instant in taps: four to a PSCLK. -/
def FdEntry.at (e : FdEntry) : Nat := 4 * e.edge + e.tap

/-- The entry lands before `f`, or with it from a lower-numbered slot (R140). -/
def FdEntry.before (e f : FdEntry) : Bool := decide (e.at < f.at) || (e.at == f.at && decide (e.slot ≤ f.slot))

/-- The level of a pending edge after the level `l`: a toggle inverts what it finds. -/
def FdEntry.after (e : FdEntry) (l : Bool) : FdEntry := if e.v && e.tog then { e with lvl := !l } else e

/-- The levels of the pending toggles follow from the level now and from each other, in the order in which the edges land (R140, R176). -/
def FdCopy.relevel (c : FdCopy) : FdCopy :=
  if c.e0.v && (!c.e1.v || c.e0.before c.e1) then
    let e0 := c.e0.after c.lvl
    { c with e0 := e0, e1 := c.e1.after e0.lvl }
  else
    let e1 := c.e1.after c.lvl
    { c with e0 := c.e0.after (if c.e1.v then e1.lvl else c.lvl), e1 := e1 }

/-- A pending edge put into a free entry of a copy. -/
def FdCopy.place (c : FdCopy) (e : FdEntry) : Option FdCopy :=
  if !c.e0.v then some { c with e0 := e }.relevel else if !c.e1.v then some { c with e1 := e }.relevel else none

/-- The earliest pending edge lands. -/
def FdCopy.land (c : FdCopy) : FdCopy :=
  if c.e0.v && (!c.e1.v || c.e0.before c.e1) then { c with lvl := c.e0.lvl, e0 := .none }
  else if c.e1.v then { c with lvl := c.e1.lvl, e1 := .none }
  else c

/-- The earliest pending edge. -/
def FdCopy.next (c : FdCopy) : Option FdEntry :=
  if c.e0.v && (!c.e1.v || c.e0.before c.e1) then some c.e0 else if c.e1.v then some c.e1 else none

/-- The pending edges that `p` holds of are dropped; how many there were. -/
def FdCopy.drop (c : FdCopy) (p : FdEntry → Bool) : FdCopy :=
  { c with e0 := if c.e0.v && p c.e0 then .none else c.e0, e1 := if c.e1.v && p c.e1 then .none else c.e1 }

def FdCopy.dropped (c : FdCopy) (p : FdEntry → Bool) : Nat :=
  (c.e0.v && p c.e0).toNat + (c.e1.v && p c.e1).toNat

/-- A copy with no pending edge and the level `b`. -/
def FdCopy.idle (b : Bool) : FdCopy := { lvl := b, e0 := .none, e1 := .none }

def Fd.map (x : Fd) (f : FdCopy → FdCopy) : Fd := { a := f x.a, b := f x.b }

/-- A pending edge put into both copies, or none when two are pending (R140). -/
def Fd.place (x : Fd) (e : FdEntry) : Option Fd :=
  match x.a.place e, x.b.place e with
  | some a, some b => some { a := a, b := b }
  | _, _ => none

/-- Both copies with level `b`; pending edges stay (a core write, R175, R176). -/
def Fd.setLvl (x : Fd) (b : Bool) : Fd := x.map (fun c => { c with lvl := b }.relevel)

/-- A slot owns an edge still pending here (R136). -/
def Fd.heldBy (x : Fd) (slot : Nat) : Bool := (x.a.e0.v && x.a.e0.slot == slot) || (x.a.e1.v && x.a.e1.slot == slot)

/-! ### What the outputs drive (R170) -/

def boolLvl (b : Bool) : Lvl := if b then .hi else .lo

/-- The safe state that EVCFG.SAFE or PWMCFG.SAFE names. -/
def safeLvl : Nat → Lvl
  | 0 => .lo
  | 1 => .hi
  | _ => .z

/-- Open-drain: level 1 releases the ball (R177). -/
def odLvl (od : Bool) (l : Lvl) : Lvl :=
  match od, l with
  | true, .hi => .z
  | _, l => l

/-- The mode, or a safe-path copy under test (R510), holds every output in its safe state. -/
def State.safeMode (s : State) : Bool :=
  s.safeTest.isSome || match s.mode with
  | .safe | .lockout | .service => true
  | .dawn | .prepare | .night => true
  | .run | .hold => false

/-- VDD, VDDA and VDDM are good. -/
def State.suppliesGood (s : State) : Bool := s.supply.all id

/-- The outputs are without power: NIGHT with a supply gone (R170). After a requested NIGHT they keep their safe states as long as a board
leaves the supplies on (R38, R520). -/
def State.unpowered (s : State) : Bool := s.mode == .night && !s.suppliesGood

/-- The safe level of event line `l` as its ball drives it (R174, R177). -/
def State.lineSafeLvl (s : State) (l : Nat) : Lvl :=
  odLvl (s.effFld (R.EVCFG l) R.EVCFG_OD == 1) (safeLvl (s.effFld (R.EVCFG l) R.EVCFG_SAFE))

/-- What event line `l` drives (R170, R173, R177, R178). A line with its latch cleared and no table loaded is high-Z
(R47, R48). -/
def State.lineOut (s : State) (l : Nat) : Lvl :=
  let x := s.line l
  let od := s.effFld (R.EVCFG l) R.EVCFG_OD == 1
  let safe := x.latch.getD .z
  let forced := (s.eff (R.EVFEN (l / 32))).getLsbD (l % 32)
  if s.unpowered then .z
  else if x.safed || !s.clocks || s.safeTest.isSome then safe
  else match s.mode with
    | .run => odLvl od (boolLvl x.fd.a.lvl)
    | .hold =>
      match s.effFld (R.EVCFG l) R.EVCFG_HOLD with
      | 0 => .lo
      | 1 => odLvl od .hi
      | _ => odLvl od (boolLvl x.fd.a.lvl)
    | .prepare => if forced then odLvl od (boolLvl ((s.eff (R.EVFLVL (l / 32))).getLsbD (l % 32))) else safe
    | _ => safe

/-- The levels of generator `g`'s safe state: the step output inactive, the direction as it is (R170). -/
def State.genSafeLvls (s : State) (g : Nat) : Lvl × Lvl :=
  (boolLvl (s.effFld (R.PTCFG g) R.PTCFG_STEPINV == 1), boolLvl ((s.gen g).dirOut != (s.effFld (R.PTCFG g) R.PTCFG_DIRINV == 1)))

/-- Generator `g`, PWM channel `c`, sigma-delta output `i` is in its safe state (R170, R171). -/
def State.genIsSafe (s : State) (g : Nat) : Bool := (s.gen g).safed || s.safeMode || !s.clocks
def State.pwmIsSafe (s : State) (c : Nat) : Bool := (s.pwm c).safed || s.safeMode || !s.clocks
def State.sdIsSafe (s : State) (i : Nat) : Bool := (s.sd i).safed || s.safeMode

/-- What the step output of generator `g` drives: its level, and its latch while safe. -/
def State.stepOut (s : State) (g : Nat) : Lvl :=
  let x := s.gen g
  if s.unpowered then .z
  else if s.genIsSafe g then (x.latch.map (·.1)).getD .z
  else boolLvl (x.fd.a.lvl != (s.effFld (R.PTCFG g) R.PTCFG_STEPINV == 1))

/-- What the direction output of generator `g` drives: the direction of the rate, and its latch, which holds it, while safe. -/
def State.dirOut (s : State) (g : Nat) : Lvl :=
  let x := s.gen g
  if s.unpowered then .z
  else if s.genIsSafe g then (x.latch.map (·.2)).getD .z
  else boolLvl (x.dirOut != (s.effFld (R.PTCFG g) R.PTCFG_DIRINV == 1))

/-- What PWM channel `c`'s counter gives at the instant `t`, in taps (R184). -/
def State.pwmAt (s : State) (c t : Nat) : Bool :=
  let x := s.pwm c
  let per := max x.per 1
  let duty := min x.duty (4 * per)
  let u := (t - 4 * x.startK) % (4 * per)
  let rise := if s.effFld (R.PWMCFG c) R.PWMCFG_ALIGN = 1 then (4 * per - duty) / 2 else 0
  decide (rise ≤ u ∧ u < rise + duty)

/-- What a PWM channel's counter gives at edge `k`. -/
def State.pwmRun (s : State) (c k : Nat) : Bool := s.pwmAt c (4 * k)

/-- What a PWM channel drives (R170, R173). -/
def State.pwmOut (s : State) (c : Nat) : Lvl :=
  let x := s.pwm c
  if s.unpowered then .z
  else if s.pwmIsSafe c then x.latch.getD .z
  else match s.mode, s.effFld (R.PWMCFG c) R.PWMCFG_HOLD with
    | .hold, 0 => .lo
    | .hold, 1 => .hi
    | .hold, 2 => boolLvl x.kept
    | _, _ => boolLvl (s.pwmRun c s.now)

/-- The code of sigma-delta output `i`'s safe stream, none when it is high-Z (R170). -/
def State.sdSafe (s : State) (i : Nat) : Option Nat :=
  match s.effFld (R.SDCFG i) R.SDCFG_SAFE with
  | 0 => some 0
  | 1 => some (s.effFld (R.SDCFG i) R.SDCFG_SAFECODE)
  | _ => none

/-- The code whose stream a sigma-delta output drives, or none when its ball is high-Z (R170, R173). -/
def State.sdStream (s : State) (i : Nat) : Option Nat :=
  let x := s.sd i
  if !s.clocks || s.unpowered then none
  else if s.sdIsSafe i then x.latch.getD none
  else match s.mode, s.effFld (R.SDCFG i) R.SDCFG_HOLD with
    | .hold, 0 => some 0
    | .hold, 1 => some (s.effFld (R.SDCFG i) R.SDCFG_SAFECODE)
    | _, _ => some x.code

/-- The density of ones of code `c`, 1/2 + (7/16) c / 32,768, in units of 2^-19 (R186). -/
def sdDensity (c : Nat) : Int := 2 ^ 18 + 7 * sx 16 c

/-- By how much the ones among the first `n` bits of a stream of density `d` exceed `n` times `d`, in units of 2^-19. It stays within two
ones of 0; within that, `pick` decides each bit (R186). -/
def sdErr (d : Int) (pick : Nat → Bool) : Nat → Int
  | 0 => 0
  | n + 1 =>
    let one := sdErr d pick n + 2 ^ 19 - d
    let zero := sdErr d pick n - d
    if 2 ^ 20 < one then zero else if zero < -(2 ^ 20) then one else if pick n then one else zero

/-- Bit `n` of sigma-delta output `i`'s stream for code `c`: the modulator gives one every 4 PSCLK (R186). -/
def sdBit (i c n : Nat) : Bool :=
  decide (sdErr (sdDensity c) (Config.sdPick i c) n < sdErr (sdDensity c) (Config.sdPick i c) (n + 1))

/-- The bank of ball `b` is held high-Z (R194). -/
def State.bankErr (s : State) (b : Nat) : Bool := (s.fld R.PINBANK R.PINBANK_BANKERR).testBit (b / 24)

/-- What the function code `f` of this chapter drives at its ball; `State.drive` adds the other units'. -/
def State.ownDrive (s : State) (f : Nat) : Lvl :=
  match f / 64 with
  | 1 => s.lineOut (f % 64)
  | 2 => s.stepOut (f % 64)
  | 3 => s.dirOut (f % 64)
  | 4 => s.pwmOut (f % 64)
  | 5 => match s.sdStream (f % 64) with
    | none => .z
    | some c => boolLvl (sdBit (f % 64) c (s.now / 4))
  | _ => .z

/-! ### The safe path (R37, R171, R147) -/

/-- Level 1 of a line's safe state; HIGHZ counts as 0 (R172). -/
def State.safeBit (s : State) (l : Nat) : Bool := s.effFld (R.EVCFG l) R.EVCFG_SAFE == 1

/-- A generator stops at its safe level with its pending edges dropped. -/
def Gen.stopSafe (x : Gen) : Gen :=
  { x with
    state := .stopped, fd := { a := .idle false, b := .idle false }, first := false, stepEnd := 0 }

/-- Generator `g` stops, and its latches hold the direction that it drives now (R170, R171). -/
def State.genPark (s : State) (g : Nat) : State :=
  let x := s.gen g
  s.setGen g { (if s.genIsSafe g then x else { x with latch := some (s.genSafeLvls g) }).stopSafe with safed := true }

/-- A line with its pending edges dropped, driving its latch. -/
def Line.toSafe (x : Line) : Line := { x with fd := x.fd.map (·.drop (fun _ => true)), safed := true }

/-- The safe path acts on every output: pending edges are dropped, generators stop, each ball follows its latch (R171, R182). -/
def State.safePath (s : State) : State :=
  let s := (upFrom 0 16).foldl State.genPark s
  { s with
    lines := (upFrom 0 64).map (fun l => (l, (s.line l).toSafe))
    pwms := (upFrom 0 16).map (fun c => (c, { s.pwm c with safed := true }))
    sds := (upFrom 0 8).map (fun i => (i, { s.sd i with safed := true }))
    rcs := (upFrom 0 8).map (fun c => (c, { s.rcs.get .reset c with safed := true }))
    att := { s.att with safed := true } }

/-- Event line `l` alone goes to its safe state through the output stage bypass (R147): pending edges dropped, level
at the safe level in both copies. -/
def State.lineSafe (s : State) (l : Nat) : State :=
  let b := s.safeBit l
  s.setLine l { s.line l with fd := { a := .idle b, b := .idle b }, safed := true }

/-- Generator `g` alone goes safe and stops; FDFLT is set when a fine-delay fault did it. -/
def State.genSafe (s : State) (g : Nat) (fdflt : Bool) : State :=
  let s := s.genPark g
  s.setGen g { s.gen g with fdflt := fdflt || (s.gen g).fdflt }

/-! ### Timetable edges (R137, R140, R143) -/

/-- A Timetable edge on event line `l`: kind 1 set, 2 clear, 3 toggle, at edge `k`, tap `tap`, from `slot`. None when
two edges are pending already (ACTBUSY). -/
def State.placeEdge (s : State) (l kind k tap slot : Nat) : Option State :=
  let x := s.line l
  (x.fd.place { v := true, lvl := kind == 1, tog := kind == 3, tap := tap, edge := k, slot := slot }).map
    (fun fd => s.setLine l { x with fd := fd })

/-- The generator's DIRSU has not run out at edge `k`. -/
def Gen.inDirsu (x : Gen) (k : Nat) : Bool := decide (k < x.dirTill)

/-- The active edge of a step: PTCOUNT counts it by its direction, and PTREM (R181, R182). -/
def Gen.counted (x : Gen) : Gen :=
  { x with rem := x.rem - 1, count := x.count + (if x.dirOut then 1 else -1), fresh := false }

/-- An active step edge at edge `k`, tap `tap`, which `slot` (32: none) placed. -/
def stepEdge (k tap slot : Nat) : FdEntry := { v := true, lvl := true, tog := false, tap := tap, edge := k, slot := slot }

/-- Steps placed whose active edge is still to come. -/
def Gen.placed (x : Gen) : Nat := x.fd.a.e0.v.toNat + x.fd.a.e1.v.toNat

/-- A start of generator `g` whose first active step edge is at edge `k`, tap `tap` (R181): phase 0, PTREM loaded; inside
DIRSU it waits and DLATE is set. -/
def State.genStart (s : State) (g k tap slot : Nat) : Option State :=
  let x := s.gen g
  let n := s.fld (R.PTNSTEP g) R.PTNSTEP_NSTEP
  let x := { x with phase := 0, phaseK := if tap = 0 then k - 1 else k, rem := n, limited := n != 0, fresh := true }
  if x.inDirsu k then some (s.setGen g { x with state := .dirwait, first := true, dlate := true })
  else (x.fd.place (stepEdge k tap slot)).map (fun fd => s.setGen g { x with state := .running, fd := fd })

/-! ### Event-line commands -/

/-- One more code of OUTWSTAT: 5 MODE, 1 RIGHTS, 6 PARTIAL, 0 OK, from the refused bits (R175). -/
def maskCode (mask byMode byWorld : Word) : Nat :=
  if (byMode ||| byWorld) &&& mask = 0 then 0
  else if byMode &&& mask = mask then 5
  else if byWorld &&& mask = mask then 1
  else 6

/-- The lines of bank `n` that satisfy `p`, as a mask. -/
def lineMask (n : Nat) (p : Nat → Bool) : Word :=
  BitVec.ofNat 32 ((upFrom 0 32).foldl (fun m i => if p (32 * n + i) then m + 2 ^ i else m) 0)

/-- The accepted bits of a mask write act at the output flop (R175, R176): kind 1 set, 2 clear, 3 toggle. -/
def State.applyMask (s : State) (n : Nat) (mask : Word) (kind : Nat) : State :=
  (upFrom 0 32).foldl (fun s i =>
    if mask.getLsbD i then
      let x := s.line (32 * n + i)
      let b := match kind with
        | 1 => true
        | 2 => false
        | _ => !x.fd.a.lvl
      s.setLine (32 * n + i) { x with fd := x.fd.setLvl b }
    else s) s

/-- A write of `mask` to EVSETn, EVCLRn or EVTOGn (R175). -/
def State.evWrite (s : State) (w : Who) (n kind : Nat) (mask : Word) : State :=
  if !w.ring01 then (s.wrReq w.id (R.EVREJ n) mask).outStat w 1
  else
    let world := lineMask n (fun l => w.shop && s.effFld (R.EVCFG l) R.EVCFG_WORLD == 1)
    let byMode := lineMask n (fun l =>
      !(s.mode == .run || (s.mode == .hold && s.effFld (R.EVCFG l) R.EVCFG_HOLD == 3)))
    let rej := (byMode ||| world) &&& mask
    ((s.applyMask n (mask &&& ~~~ rej) kind).wrReq w.id (R.EVREJ n) rej).outStat w (maskCode mask byMode world)

/-- The safe-class test of check 4 of R190 and of R174: the ball of function `f` is safety-class. -/
def State.onUnsafeBall (s : State) (f : Nat) : Bool :=
  (upFrom 0 96).any (fun b => s.fld (R.PINFN b) R.PINFN_FUNC == f && s.fld (R.PINFN b) R.PINFN_SAFETY == 0)

/-- A configuration write of the Outputs window (R174, R183, R185, R187): Guard ring 0 or the Staff port, in PREPARE,
with the SAFE field `safe` not 3; `busy` and `bad` are the two further refusals. The write waits for the boundary. -/
def State.outCfg (s : State) (w : Who) (a : Nat) (v : Word) (safe : F) (busy bad : Bool) : State :=
  if !w.priv then s.outStat w 1
  else if s.mode != .prepare then s.outStat w 2
  else if busy then s.outStat w 4
  else if bad || safe.get v == 3 then s.outStat w 3
  else
    let v := v &&& wmaskAt a
    ((s.defer a v).logCfg w a (s.rd a) v).outStat w 0

/-- A slot's period names event line `l` (kind 1) or generator `l` (kind 2) as its owned output (R136). -/
def Period.owns (p : Period) (kind l : Nat) : Bool :=
  match kind with
  | 1 => decide (1 ≤ p.act ∧ p.act ≤ 3) && p.arg % 64 == l
  | _ => decide (4 ≤ p.act ∧ p.act ≤ 5) && p.arg % 16 == l

/-- A slot owns event line `l`: it is STAGED, ARMED or HELD on it, or an edge it placed is pending (R136). -/
def State.lineOwned (s : State) (l : Nat) : Bool :=
  (upFrom 0 32).any (fun i =>
    let x := s.slots.get .reset i
    (x.a.state != 0 && x.a.per.owns 1 l) || (s.line l).fd.heldBy i)

/-- A write of EVCFG (R174). -/
def State.evcfgWrite (s : State) (w : Who) (l : Nat) (v : Word) : State :=
  let a := R.EVCFG l
  s.outCfg w a v R.EVCFG_SAFE
    (R.EVCFG_WORLD.get v != s.effFld a R.EVCFG_WORLD && s.lineOwned l)
    (R.EVCFG_WORLD.get v == 1 && s.onUnsafeBall (64 + l))

/-- A write of EVFENn (kind 0) or EVFLVLn (kind 1): forcing in PREPARE (R178). -/
def State.forceWrite (s : State) (w : Who) (kind n : Nat) (v : Word) : State :=
  let a := if kind = 0 then R.EVFEN n else R.EVFLVL n
  if !w.priv then s.outStat w 1
  else if s.mode != .prepare then s.outStat w 2
  else ((s.defer a v).logWho w 0 a (s.rd a).toNat v.toNat).outStat w 0

/-! ### Pulse trains -/

/-- The signed rate in a PTRATE value, and its magnitude. -/
def rateMag (v : Word) : Nat := v.toInt.natAbs

/-- Shop-world writes to a Guard-world generator, channel or output are refused (R183, R185, R187). -/
def State.worldBars (s : State) (w : Who) (a : Nat) (f : F) : Bool := w.shop && s.effFld a f == 1

/-- A write of PTRATE (R179, R182, R183). -/
def State.ptrateWrite (s : State) (w : Who) (g : Nat) (v : Word) : State :=
  if s.worldBars w (R.PTCFG g) R.PTCFG_WORLD then s.outStat w 1
  else if 2 ^ 28 < rateMag v then s.outStat w 3
  else (s.defer (R.PTRATE g) v).outStat w 0

/-- A write of PTCTL.GO = 1 (R181). -/
def State.ptGo (s : State) (w : Who) (g : Nat) : State :=
  if s.worldBars w (R.PTCFG g) R.PTCFG_WORLD then s.outStat w 1
  else if !(s.mode == .run || (s.mode == .hold && s.effFld (R.PTCFG g) R.PTCFG_HOLDRUN == 1)) then s.outStat w 5
  else if (s.gen g).state != .stopped then s.outStat w 4
  else match s.genStart g (nextBoundary s.now) 0 32 with
    | some s => s.outStat w 0
    | none => s.outStat w 4

/-- A write of PTCFG (R183): DIRSU 0 is stored as 1. -/
def State.ptcfgWrite (s : State) (w : Who) (g : Nat) (v : Word) : State :=
  let v := if R.PTCFG_DIRSU.get v = 0 then R.PTCFG_DIRSU.put v 1 else v
  s.outCfg w (R.PTCFG g) v ⟨0, 0⟩ (R.PTCFG_WORLD.get v != s.effFld (R.PTCFG g) R.PTCFG_WORLD &&
      (upFrom 0 32).any (fun i => (s.slots.get .reset i).a.state != 0 && (s.slots.get .reset i).a.per.owns 2 g))
    (R.PTCFG_WORLD.get v == 1 && (s.onUnsafeBall (128 + g) || s.onUnsafeBall (192 + g)))

/-- The rate in force of generator `g`. -/
def State.genRate (s : State) (g : Nat) : Word := s.eff (R.PTRATE g)

/-- The earliest event of generator `g` that is due at edge `k`: an active step edge lands, is counted, and begins the step's active time of
WIDTH + 1 PSCLK; or that time ends, at the tap at which it began (R180, R182). -/
def State.landGen (s : State) (g k : Nat) : State :=
  let x := s.gen g
  let fall := x.fd.a.lvl && x.stepEnd != 0 && decide (x.stepEnd / 4 ≤ k)
  let off := s.setGen g { x with fd := x.fd.setLvl false, stepEnd := 0 }
  match x.fd.a.next with
  | some e =>
    if fall && decide (x.stepEnd ≤ e.at) then off
    else if e.edge ≤ k then
      s.setGen g { x.counted with
        fd := x.fd.map FdCopy.land, stepEnd := e.at + 4 * (s.effFld (R.PTCFG g) R.PTCFG_WIDTH + 1) }
    else s
  | none => if fall then off else s

/-- The addition of generator `g` at edge `k` (R179): an overflow places the step's active edge, as long as the budget lasts. -/
def State.genAdd (s : State) (g k : Nat) : State :=
  let x := s.gen g
  let r := rateMag (s.genRate g)
  let x' := { x with phase := (x.phase + r) % 2 ^ 32, phaseK := k }
  let q := 4 * (2 ^ 32 - x.phase) / r
  if decide (2 ^ 32 ≤ x.phase + r) && !(x.limited && decide (x.rem ≤ x.placed)) then
    match x.fd.place (stepEdge (k + q / 4) (q % 4) 32) with
    | some fd => s.setGen g { x' with fd := fd }
    | none => s.setGen g x'
  else s.setGen g x'

/-- Generator `g` run up to edge `k`, from overflow to overflow; no more than `fuel` of them. -/
def State.genRunBy : Nat → State → Nat → Nat → State
  | 0, s, _, _ => s
  | fuel + 1, s, g, k =>
    let x := s.gen g
    let r := rateMag (s.genRate g)
    if x.state != .running || r == 0 || decide (k ≤ x.phaseK) || !s.clocks then s
    else
      let e := x.phaseK + (2 ^ 32 - x.phase + r - 1) / r
      if k < e then s.setGen g { x with phase := x.phase + r * (k - x.phaseK), phaseK := k }
      else
        let s := s.setGen g { x with phase := x.phase + r * (e - 1 - x.phaseK), phaseK := e - 1 }
        let s := (upFrom 0 4).foldl (fun (s : State) _ => s.landGen g e) s
        (s.genAdd g e).genRunBy fuel g k

/-- The additions of generator `g` up to edge `k` (R179), with what lands meanwhile. -/
def State.genStep (s : State) (g k : Nat) : State := s.genRunBy (k - (s.gen g).phaseK) g k

/-- The generator with its edges later than `t` taps dropped. -/
def Gen.cut (x : Gen) (t : Nat) : Gen := { x with fd := x.fd.map (·.drop (fun e => decide (t < e.at))) }

/-- A stop of generator `g` with no active step edge later than `t` taps (R181, R182); the steps that fall
up to `t` are still made. -/
def State.genStop (s : State) (g t : Nat) : State :=
  let s := s.genStep g (t / 4)
  s.setGen g { (s.gen g).cut t with state := .stopped, first := false }

/-- A write of PTCTL.STOP = 1 (R181): no active step edge after the next PSCLK edge. -/
def State.ptStop (s : State) (w : Who) (g : Nat) : State :=
  if s.worldBars w (R.PTCFG g) R.PTCFG_WORLD then s.outStat w 1
  else (if s.mode == .run || s.mode == .hold then s.genStop g (4 * (s.now + 1)) else s).outStat w 0

/-- Generator `g` runs again from edge `k` on: the addition of that edge is made, and a step edge that waited is placed there. -/
def State.genGo (s : State) (g k : Nat) : State :=
  let x := { s.gen g with state := .running, phaseK := k - 1, dirTill := 0 }
  match x.first, x.fd.place (stepEdge k 0 32) with
  | true, some fd => s.setGen g { x with first := false, fd := fd }
  | _, _ => s.setGen g x

/-- DIRSU has elapsed for generator `g` (R182): it runs, and a delayed step is placed. -/
def State.dirsuDone (s : State) (g : Nat) : State :=
  let x := s.gen g
  if x.state == .dirwait && decide (x.dirTill ≤ s.now) then s.genGo g x.dirTill else s

/-- PTREM has reached 0 (R181): the generator stops after its last step and PTDONEg is raised. -/
def State.ptDone (s : State) (g : Nat) : State :=
  let x := s.gen g
  if (x.state == .running || x.state == .dirwait) && x.limited && x.rem == 0 && !x.first then
    (s.setGen g { x with state := .stopped }).arrive (0x80 + g)
  else s

/-- A RATE write takes effect at the boundary (R180): the additions before it were made at the rate before. A sign change moves the
direction output and starts DIRSU, and a step edge placed at the boundary or later waits for DIRSU to end (assumption 93, DEDUCED). -/
def State.commitRate (s : State) (g : Nat) : State :=
  let s := s.genStep g (s.now - 1)
  let s := { s with inForce := s.inForce.erase (· == R.PTRATE g) }
  let new := s.rd (R.PTRATE g)
  let x := s.gen g
  if new = 0 || decide (0 < new.toInt) == x.dirOut then s
  else
    let late (e : FdEntry) : Bool := decide (4 * s.now ≤ e.at)
    let waits := x.fd.a.dropped late != 0
    s.setGen g { x with
      dirOut := !x.dirOut, dirTill := s.now + 8 * s.effFld (R.PTCFG g) R.PTCFG_DIRSU
      state := if x.state == .running then .dirwait else x.state, fd := x.fd.map (·.drop late)
      first := x.first || waits, dlate := x.dlate || (waits && x.fresh) }

/-! ### PWM and sigma-delta -/

/-- A write of PWMPER (R185): held until the next PWMDUTY write. -/
def State.pwmPerWrite (s : State) (w : Who) (c : Nat) (v : Word) : State :=
  if s.worldBars w (R.PWMCFG c) R.PWMCFG_WORLD then s.outStat w 1
  else if !s.mode.active then s.outStat w 5
  else if R.PWMPER_PER.get v < 16 then s.outStat w 3
  else (s.wr (R.PWMPER c) (v &&& wmaskAt (R.PWMPER c))).outStat w 0

/-- A write of PWMDUTY (R185): PER and DUTY are committed at the start of the next period. -/
def State.pwmDutyWrite (s : State) (w : Who) (c : Nat) (v : Word) : State :=
  if s.worldBars w (R.PWMCFG c) R.PWMCFG_WORLD then s.outStat w 1
  else if !(s.mode == .run || (s.mode == .hold && s.effFld (R.PWMCFG c) R.PWMCFG_HOLD == 3)) then s.outStat w 5
  else
    let d := v &&& wmaskAt (R.PWMDUTY c)
    ((s.wr (R.PWMDUTY c) d).setPwm c { s.pwm c with
      next := some (s.fld (R.PWMPER c) R.PWMPER_PER, R.PWMDUTY_DUTY.get d) }).outStat w 0

/-- A new period of channel `c` starts at edge `k`, a whole number of periods after the last: the pair that PWMDUTY committed comes
into force (R184, R185). -/
def State.pwmPeriod (s : State) (c k : Nat) : State :=
  let x := s.pwm c
  if k ≤ x.startK ∨ (k - x.startK) % x.per ≠ 0 then s
  else match x.next with
    | some (per, duty) =>
      s.setPwm c { x with
        per := per, duty := min duty (4 * per), startK := k, next := none, clamp := x.clamp || decide (4 * per < duty) }
    | none => s.setPwm c { x with startK := k }

/-- A write of SDCODE (R187): it takes effect at the next boundary (R186). -/
def State.sdCodeWrite (s : State) (w : Who) (i : Nat) (v : Word) : State :=
  if s.worldBars w (R.SDCFG i) R.SDCFG_WORLD then s.outStat w 1
  else if !(s.mode == .run || (s.mode == .hold && s.effFld (R.SDCFG i) R.SDCFG_HOLD == 3)) then s.outStat w 5
  else (s.defer (R.SDCODE i) (v &&& wmaskAt (R.SDCODE i))).outStat w 0

/-! ### The pin mux (R189-R194) -/

/-- Class and index are valid (R189). -/
def funcValid (f : Nat) : Bool :=
  match f / 64 with
  | 0 => f % 64 == 0
  | 1 => true
  | 2 | 3 | 4 => decide (f % 64 < 16)
  | 5 => decide (f % 64 < 8)
  | 6 => decide (f % 64 < 16)
  | 7 => true
  | 8 => decide (f % 64 < 6)
  | 9 => f % 64 == 0
  | _ => false

/-- The function belongs to absent hardware (R6): Recitation channels beyond the variant's. -/
def Variant.hasFunc (v : Variant) (f : Nat) : Bool := !(f / 64 == 7) || decide (f % 64 / 8 < v.nRecit)

/-- The function is a Guard-world event line or generator output. -/
def State.guardFunc (s : State) (f : Nat) : Bool :=
  match f / 64 with
  | 1 => s.effFld (R.EVCFG (f % 64)) R.EVCFG_WORLD == 1
  | 2 | 3 => s.effFld (R.PTCFG (f % 64)) R.PTCFG_WORLD == 1
  | _ => false

/-- Another ball than `b` has function `f`, or a switch to it pending. -/
def State.funcInUse (s : State) (b f : Nat) : Bool :=
  f != 0 && (upFrom 0 96).any (fun i => i != b && s.fld (R.PINFN i) R.PINFN_FUNC == f)

/-- The fields SAFETY, PULL and DRIVE of a PINFN value. -/
def pinAttrs (v : Word) : Nat × Nat × Nat := (R.PINFN_PULL.get v, R.PINFN_DRIVE.get v, R.PINFN_SAFETY.get v)

/-- The code of a PINFN write, 0 when it is accepted (R190). -/
def State.pinfnCode (s : State) (w : Who) (b : Nat) (v : Word) : Nat :=
  let cur := s.rd (R.PINFN b)
  let new := R.PINFN_FUNC.get v
  let old := R.PINFN_FUNC.get cur
  let safety := R.PINFN_SAFETY.get cur == 1
  let attrs := pinAttrs v != pinAttrs cur
  if !(w.priv || (w.id != 5 && w.ring == 0 && !w.guard && !safety && !s.guardFunc old && !s.guardFunc new && !attrs))
    then 1
  else if !(s.mode == .prepare || ((s.mode == .run || s.mode == .hold) && !safety && !attrs)) then 2
  else if (s.pin b).sw.isSome then 3
  else if !funcValid new || (s.guardFunc new && R.PINFN_SAFETY.get v == 0) then 4
  else if !s.variant.hasFunc new then 5
  else if s.funcInUse b new then 6
  else if s.bankErr b then 7
  else 0

/-- The first boundary at least 2 PSCLK after edge `k` (R191). -/
def switchBoundary (k : Nat) : Nat := ((k + 2 + 7) / 8) * 8

/-- A write of PINFN (R190, R191). -/
def State.pinfnWrite (s : State) (w : Who) (b : Nat) (v : Word) : State :=
  let a := R.PINFN b
  let code := s.pinfnCode w b v
  let p := s.pin b
  if code = 0 then
    let nv := v &&& wmaskAt a
    let sw := if R.PINFN_FUNC.get v == s.fld a R.PINFN_FUNC then none else some (switchBoundary s.now, false)
    ((s.defer a nv).setPin b { p with sw := sw, wstat := 0 }).logWho w 0 a (s.rd a).toNat nv.toNat
  else s.setPin b { p with wstat := code }

def State.rc (s : State) (c : Nat) : Rc := s.rcs.get .reset c
def State.setRc (s : State) (c : Nat) (x : Rc) : State := { s with rcs := s.rcs.put c x }

/-- Channel `c` is reserved by its even neighbour (R382). -/
def State.rcReserved (s : State) (c : Nat) : Bool := c % 2 == 1 && s.fld (R.RCCFG (c - 1)) R.RCCFG_PAIR == 1

/-- The channel whose program addresses Recitation ball `i` (8c + b), and the ball's number there (R382). -/
def State.rcOwner (s : State) (i : Nat) : Nat × Nat := if s.rcReserved (i / 8) then (i / 8 - 1, 8 + i % 8) else (i / 8, i % 8)

def State.uart (s : State) (u : Nat) : Uart := s.uarts.get .reset u
def State.setUart (s : State) (u : Nat) (x : Uart) : State := { s with uarts := s.uarts.put u x }

/-- CTS_N of UART `u` is at level `high` (R394): LINE when it changes. -/
def State.uartCtsTo (s : State) (u : Nat) (high : Bool) : State :=
  if (s.uart u).cts == high then s else (s.setUart u { s.uart u with cts := high }).arrive (0xD0 + 4 * u + 3)

/-- The filter of a Recitation ball starts from reset where its ball is connected (R191): the level is 0, and a new one must last
FILT + 1 samples from the present edge. -/
def State.inputReset (s : State) (f : Nat) : State :=
  if f / 64 = 7 then
    let (c, b) := s.rcOwner (f % 64)
    let x := s.rc c
    s.setRc c { x with acc := x.acc &&& ~~~ (BitVec.twoPow 16 b), accK := x.accK.set b (some s.now) }
  else s

/-- The lost-ball flag of function `f` is set (R191); CTS_N without a ball is high (R192). -/
def State.pinLost (s : State) (f : Nat) : State :=
  let i := f % 64
  match f / 64 with
  | 1 => s.setFld (R.EVLOST (i / 32)) ⟨i % 32, 1⟩ 1
  | 2 | 3 => s.setGen i { s.gen i with pinlost := true }
  | 4 => s.setPwm i { s.pwm i with pinlost := true }
  | 5 => s.setSd i { s.sd i with pinlost := true }
  | 6 => if i % 4 = 3 then s.uartCtsTo (i / 4) true else s
  | 7 => s.setFld (R.RCPIN (s.rcOwner i).1) ⟨(s.rcOwner i).2, 1⟩ 1
  | _ => s

/-- The pull of ball `b` when neither its function nor the board drives it (R47, R170, R189, R194): pulled down before step 6 and in a bank
with BANKERR, and otherwise as PULL says; the keeper, which a high-Z sigma-delta ball does not have, keeps the last level. -/
def State.pulled (s : State) (b : Nat) : Lvl :=
  let p := s.pin b
  if s.bankErr b || !s.loaded then .lo
  else match s.effFld (R.PINFN b) R.PINFN_PULL with
    | 1 => .lo
    | 2 => .hi
    | 3 => if p.conn / 64 = 5 then .z else p.kept
    | _ => .z

/-- The level at ball `b`: what the connected function drives, else what the board drives, else where its pull takes it; held
through a switch (R170, R191, R194). -/
def State.ballLevel (s : State) (drive : Nat → Lvl) (b : Nat) : Lvl :=
  let p := s.pin b
  let out := if s.bankErr b then .z
    else match p.sw with
      | some (_, true) => p.kept
      | _ => drive p.conn
  if out != .z then out else if p.board != .z then p.board else s.pulled b

/-- The ball that function `f` is connected to, none while a switch of that ball is under way (R191, R192). -/
def State.ballOf (s : State) (f : Nat) : Option Nat :=
  (upFrom 0 96).find? (fun b => (s.pin b).conn == f && !((s.pin b).sw.any (·.2)))

/-- At boundary `k` some ball has function `f`, or is given it at that boundary (R191). -/
def State.funcStays (s : State) (f k : Nat) : Bool :=
  (upFrom 0 96).any (fun b => s.fld (R.PINFN b) R.PINFN_FUNC == f && (s.pin b).sw.all (fun x => decide (x.1 ≤ k)))

/-- At B the old function is disconnected and the ball holds its level; at B + 8 the new one is connected (R191). Otherwise
a keeper takes the level of its ball. -/
def State.pinSwitch (s : State) (drive : Nat → Lvl) (b : Nat) : State :=
  let p := s.pin b
  match p.sw with
  | some (t, false) =>
    if t ≤ s.now then
      let s' := s.setPin b { p with sw := some (t, true), kept := s.ballLevel drive b }
      if p.conn != 0 && !s.funcStays p.conn t then s'.pinLost p.conn else s'
    else s
  | some (t, true) =>
    if t + 8 ≤ s.now then
      let f := s.fld (R.PINFN b) R.PINFN_FUNC
      (s.setPin b { p with sw := none, conn := f }).inputReset f
    else s
  | none =>
    if s.effFld (R.PINFN b) R.PINFN_PULL = 3 then s.setPin b { p with kept := s.ballLevel drive b } else s

/-- Banks whose SUPPLY agrees with VSEL: no BANKERR; the others have it (R194). `ok` says which supplies lie in one of
the two ranges of R517. -/
def bankErrBits (vsel supply ok : Nat) : Nat :=
  (upFrom 0 4).foldl (fun m i => if vsel.testBit i == supply.testBit i && ok.testBit i then m else m + 2 ^ i) 0

/-- A write of PINBANK (R194); a forbidden one leaves no sign (assumption 105, DESIGN CHOICE). -/
def State.pinbankWrite (s : State) (w : Who) (v : Word) : State :=
  if w.priv && s.mode == .prepare then
    let vsel := R.PINBANK_VSEL.get v
    let s' := s.setFld R.PINBANK R.PINBANK_VSEL vsel
    (s'.setFld R.PINBANK R.PINBANK_BANKERR
      (bankErrBits vsel (s.fld R.PINBANK R.PINBANK_SUPPLY) s.bankOk)).logCfg w R.PINBANK (s.rd R.PINBANK) v
  else s

/-- A bank supply reads code `code`, in range or not (R517); a disagreement with VSEL sets BANKERR (R194). -/
def State.bankSupply (s : State) (n code : Nat) (inRange : Bool) : State :=
  let s := s.setFld R.PINBANK ⟨4 + n, 1⟩ code
  let s := { s with bankOk := if inRange then s.bankOk ||| 2 ^ n else s.bankOk &&& (15 - 2 ^ n) }
  if s.fld R.PINBANK ⟨n, 1⟩ == code && inRange then s else s.setFld R.PINBANK ⟨8 + n, 1⟩ 1

end Sys2Proof.Machine
end

