-- ==== Sys2Proof/Machine/Links.lean ====
section
/-! DEFINITION. What one unit asks of another: a request in a Bell queue (R321), a message in an Enward class queue (R366)
and the messages that end an outstanding forecast (R369). -/

namespace Sys2Proof.Machine

def State.core (s : State) (l : Nat) : Core := s.cores.get .reset l
def State.setCore (s : State) (l : Nat) (c : Core) : State := { s with cores := s.cores.put l c }

/-- The Bell queue of logical core `l`. -/
def State.bell (s : State) (l : Nat) : List BellReq := s.bells.get [] l

/-- World `guard` of core `l` can run: the core is released and not in a third-fault reset, the Shop world is not halted, and
the mode halts no core (R38, R321). -/
def State.canRun (s : State) (l : Nat) (guard : Bool) : Bool :=
  s.variant.hasCore l && s.mode != .lockout && s.mode != .service && (s.fld R.CORERUN R.CORERUN_RUN).testBit l && !(s.core l).third &&
    (guard || !(s.core l).shopHalted)

/-- A request reaches the Bell queue of core `l` (R321); none when it is refused, and BELLCNT.LOST counts it. -/
def State.bellPush (s : State) (l : Nat) (r : BellReq) : Option State :=
  if s.canRun l r.guard && decide ((s.bell l).length < 4) then
    let q := s.bell l ++ [r]
    let a := R.BELLSTAT l
    let s := { s with bells := s.bells.put l q }
    some (s.setFld a R.BELLSTAT_QPEAK (max (s.fld a R.BELLSTAT_QPEAK) q.length))
  else none

/-- A refused or dropped request counts in BELLCNT.LOST (R321). -/
def State.bellLost (s : State) (l n : Nat) : State := s.count (R.BELLCNT l) R.BELLCNT_LOST n

/-- The requests of core `l` that `p` holds of are dropped and counted (R321). -/
def State.bellDrop (s : State) (l : Nat) (p : BellReq → Bool) : State :=
  let q := s.bell l
  let keep := q.filter (fun r => !p r)
  { s with bells := s.bells.put l keep }.bellLost l (q.length - keep.length)

/-- The length of a class queue of the ring: 4 for safety, 8 for forecast, 8 for data (R366). -/
def enLimit (cls : Nat) : Nat := if cls = 0 then 4 else 8

/-- A message enters its class queue with the next sequence number; none when the queue is full (R363, R366). -/
def State.enPush (s : State) (m : EnMsg) : Option State :=
  if (s.enq.filter (fun x => x.cls == m.cls)).length < enLimit m.cls then
    some { s with enq := s.enq ++ [{ m with seq := s.en.seq }], en := { s.en with seq := (s.en.seq + 1) % 256 } }
  else none

/-- The drop counter of a class (ENDROP). -/
def enDropField (cls : Nat) : F :=
  match cls with
  | 0 => R.ENDROP_SAFETY
  | 1 => R.ENDROP_FORECAST
  | _ => R.ENDROP_DATA

/-- A refused message is counted under its class, whose room is then awaited (R366, ENTXROOM). -/
def State.enRefused (s : State) (cls : Nat) : State :=
  { s with en := { s.en with refused := cls :: s.en.refused.filter (· != cls) } }.count R.ENDROP (enDropField cls) 1

/-- A message that is refused is counted under its class (R366). -/
def State.enSend (s : State) (m : EnMsg) : State :=
  match s.enPush m with
  | some s => s
  | none => s.enRefused m.cls

/-- A forecast-class message of the forecast unit, broadcast (R368, R369); a refused one counts FCDROP (R366). -/
def State.fcSend (s : State) (typ tag body : Nat) : State :=
  let m : EnMsg := { typ := typ, cls := 1, bcast := true, dest := 0, tag := tag, body := body }
  match s.enPush m with
  | some s => s
  | none => (s.enRefused 1).count R.ENFCCNT2 R.ENFCCNT2_FCDROP 1

/-- The RETRACT reason or the CONFIRM that a slot's end status calls for (R369): CONFIRM for FIRED, LATE and the GATED of
PREPARE, RETRACT 4 for SKIPPED, RETRACT 3 for any other. -/
def State.fcEnd (s : State) (slot tag status whenT : Nat) : State :=
  match s.fcOut.find slot with
  | none => s
  | some o =>
    let s := { s with fcOut := s.fcOut.erase (· == slot) }
    if status = 2 ∨ status = 3 ∨ status = 5 then
      let flag := if status = 2 then 0 else 1
      s.fcSend 3 tag (whenT / 256 % 2 ^ 48 + flag * 2 ^ 48)
    else s.fcSend 2 tag ((if status = 4 then 4 else 3) + o.gen * 2 ^ 48)

/-- An outstanding forecast is retracted while its slot stays armed (R369, reasons 1 and 2). -/
def State.fcRetract (s : State) (slot tag reason : Nat) : State :=
  match s.fcOut.find slot with
  | none => s
  | some o => { s with fcOut := s.fcOut.erase (· == slot) }.fcSend 2 tag (reason + o.gen * 2 ^ 48)

/-! ### Requests for SAFE and LOCKOUT made by hardware (R36, R37, R39) -/

/-- MODERESP.REQ codes. -/
def ModeReq.code : ModeReq → Nat
  | .guard => 0
  | .shop => 1
  | .staff => 2
  | .estop => 3
  | .fault => 4
  | .hall => 5
  | .supply => 6

/-- MODERESP after a request (R44). -/
def State.modeResp (s : State) (status : Nat) (target : Mode) (req : ModeReq) (why : Nat) : State :=
  s.wr R.MODERESP (BitVec.ofNat 32 (status + 16 * target.code + 256 * req.code + 65536 * why))

/-- The mode from which a transition now requested would start: the source of a transition in progress (R39). -/
def State.srcMode (s : State) : Mode :=
  match s.trans with
  | some t => t.src
  | none => s.mode

/-- A transition is accepted; entry to SAFE or LOCKOUT drives the outputs safe at once (R37). `cause` is what LOCKSTAT will
say of a LOCKOUT (R506), `path` the path of the Logbook entry. -/
def State.accept (s : State) (target : Mode) (req : ModeReq) (cause : Nat) (path : Nat × Bool × Nat) : State :=
  let t : Trans := { target := target, req := req, src := s.srcMode, cause := cause, path := path }
  let s := ({ s with trans := some t }.modeResp 1 target req 0).setFld R.MODESTAT R.MODESTAT_BUSY 1
  if target == .safe || target == .lockout then s.safePath else s

/-- Hardware asks for SAFE: it happens in PREPARE, RUN and HOLD (R36). -/
def State.demandSafe (s : State) (req : ModeReq) : State :=
  if s.srcMode.active then s.accept .safe req 0 (6, false, 0) else s

/-- Hardware or policy asks for LOCKOUT with a LOCKSTAT cause: it happens in PREPARE, RUN, HOLD and SAFE (R36). -/
def State.demandLockout (s : State) (req : ModeReq) (cause : Nat) : State :=
  if s.srcMode.active || s.srcMode == .safe then s.accept .lockout req cause (6, false, 0) else s

/-- An NMI bit of core `l` is set (R302). -/
def State.nmi (s : State) (l : Nat) (f : F) : State := s.setFld (R.NMIPEND l) f 1

/-! ### Recitation start (R386) -/

/-- Channel `c` starts at word `w`, its first instruction executing at edge `k`; none when it runs already or is reserved. -/
def State.rcStart (s : State) (c w k : Nat) : Option State :=
  let x := s.rc c
  if x.state != .stopped || s.rcReserved c then none
  else some (s.setRc c { x with state := .running, wait := false, dueK := k, pc := w })

end Sys2Proof.Machine
end

