-- ==== Sys2Proof/Machine/Slots.lean ====
section
/-! DEFINITION. Position words (R91, R92), periods (R123), the checks that arming makes (R124-R127, R166), the evaluation
of a slot (R130, R133), and how a slot ends and what that does to its queue (R134, R136, R161-R164). -/

namespace Sys2Proof.Machine

/-! ### Position words -/

/-- Timebase `t` after a reset: a local timebase takes its own channel (assumption 2, DESIGN CHOICE). -/
def Timebase.first (t : Nat) : Timebase := { Timebase.reset with src := if t < 16 then t else 0 }

def State.tb (s : State) (t : Nat) : Timebase := s.tbs.get (.first t) t
def State.setTb (s : State) (t : Nat) (x : Timebase) : State := { s with tbs := s.tbs.put t x }

/-- The kind of timebase `t` (R96): 0 OFF, 1 LOCAL, 2 REMOTE, 3 VIRTUAL, 4 MAINS, 5 WALL, 6 SYNTH. -/
def State.kind (s : State) (t : Nat) : Nat :=
  if t < 16 then 1
  else if t < 28 then s.fld (R.TBCFG t) R.TBCFG_KIND
  else if t = 28 then 4
  else if t = 29 then 5
  else 6

/-- The kind uses TBMOD: LOCAL, VIRTUAL, MAINS and SYNTH. -/
def kindHasMod (k : Nat) : Bool := k == 1 || k == 3 || k == 4 || k == 6

/-- The modulus in force, in counts; 0 none (R104). -/
def State.modulus (s : State) (t : Nat) : Nat :=
  if kindHasMod (s.kind t) then (s.eff (R.TBMOD t)).toNat else 0

/-- The span of a word with modulus `m` counts (R91). -/
def spanOf (m : Nat) : Nat := if m = 0 then 2 ^ 48 else m * 256

def State.span (s : State) (t : Nat) : Nat := spanOf (s.modulus t)

/-- DIFF(a, b) over a span (R92): the d in [-span/2, span/2) that a - b is congruent to. -/
def diffSpan (span : Nat) (a b : Int) : Int := (a - b + (span : Int) / 2) % (span : Int) - (span : Int) / 2

/-- A number brought into the range of a word with modulus `m` (R91). -/
def normWord (m : Nat) (x : Int) : Int :=
  if m = 0 then diffSpan (2 ^ 48) x 0 else x % ((m * 256 : Nat) : Int)

/-! ### Periods (R123) -/

def Period.ofWords (w0 w1 w2 w3 : Nat) : Period :=
  { pos := w0 % 2 ^ 32 + w1 % 2 ^ 16 * 2 ^ 32, tb := w1 / 2 ^ 16 % 32, dirq := w1 / 2 ^ 21 % 4,
    latepol := w1 / 2 ^ 23 % 2, behind := w1 / 2 ^ 24 % 2, act := w1 / 2 ^ 25 % 16, uref := w1 / 2 ^ 29 % 2,
    fcast := w1 / 2 ^ 30 % 2, stg := w1 / 2 ^ 31 % 2, hyst := w2 % 2 ^ 24, tag := w2 / 2 ^ 24 % 256,
    arg := w3 % 2 ^ 32 }

/-- Word `n` of a period. -/
def Period.word (p : Period) (n : Nat) : Nat :=
  match n with
  | 0 => p.pos % 2 ^ 32
  | 1 => p.pos / 2 ^ 32 % 2 ^ 16 + p.tb * 2 ^ 16 + p.dirq * 2 ^ 21 + p.latepol * 2 ^ 23 + p.behind * 2 ^ 24 +
      p.act * 2 ^ 25 + p.uref * 2 ^ 29 + p.fcast * 2 ^ 30 + p.stg * 2 ^ 31
  | 2 => p.hyst + p.tag * 2 ^ 24
  | _ => p.arg

/-- The compare position as a number. -/
def Period.posInt (p : Period) : Int := sx 48 p.pos

/-! ### Slots -/

def State.slot (s : State) (i : Nat) : Slot := s.slots.get .reset i
def State.setSlot (s : State) (i : Nat) (x : Slot) : State := { s with slots := s.slots.put i x }

/-- Both copies of a slot changed alike (R122). -/
def Slot.both (x : Slot) (f : SlotCopy → SlotCopy) : Slot := { x with a := f x.a, b := f x.b }

/-- TTOCC.NOW: slots not FREE. -/
def State.occupied (s : State) : Nat := ((upFrom 0 32).filter (fun i => (s.slot i).a.state != 0)).length

/-- TTOCC.PEAK follows NOW. -/
def State.notePeak (s : State) : State := { s with ttPeak := max s.ttPeak s.occupied }

def State.queue (s : State) (q : Nat) : Queue := s.queues.get .reset q
def State.setQueue (s : State) (q : Nat) (x : Queue) : State := { s with queues := s.queues.put q x }

/-- The slot of queue `q`. -/
def State.queueSlot (s : State) (q : Nat) : Nat := s.fld (R.QCFG q) R.QCFG_SLOT

/-- The queue that slot `i` is bound to. -/
def State.queueOf (s : State) (i : Nat) : Option Nat :=
  (upFrom 0 16).find? (fun q => (s.queue q).state != .off && s.queueSlot q == i)

/-- FREE slots that no queue is bound to. -/
def State.freeUnbound (s : State) : List Nat :=
  (upFrom 0 32).filter (fun i => (s.slot i).a.state == 0 && (s.queueOf i).isNone)

/-- The status of slot `i` is still to be settled: it is not offered to ARM or TTNEW (R548). -/
def State.unsettled (s : State) (i : Nat) : Bool := s.acts.any (fun a => a.slot == i)

/-- HELD(r, w) of R166. -/
def State.heldBy (s : State) (r : Nat) (guard : Bool) : Nat :=
  ((upFrom 0 32).filter (fun i =>
    let x := s.slot i
    x.a.state != 0 && x.req == r && x.guard == guard)).length

/-! ### Checks (R124-R127, R166) -/

/-- The period is malformed (R124); `slot` is the slot it would be armed in, if there is one. -/
def State.malformed (s : State) (p : Period) (slot : Option Nat) : Bool :=
  p.dirq == 0 || p.act == 0 || decide (12 < p.act) ||
    (s.variant.hasTb p.tb &&
      (decide (s.span p.tb ≤ 4 * p.hyst) || (s.modulus p.tb != 0 && decide (s.span p.tb ≤ p.pos)))) ||
    (p.act == 12 && slot == some (p.arg % 32)) ||
    (p.act == 11 && s.fld R.TTMEMBASE R.TTMEMBASE_EN == 0)

/-- Check 4: the timebase or a unit that the action names is absent. -/
def State.absentUnit (s : State) (p : Period) : Bool :=
  !s.variant.hasTb p.tb || (p.fcast == 1 && !s.variant.enward) ||
    (p.act == 8 && !s.variant.hasCore (p.arg % 8)) || (p.act == 9 && !s.variant.enward) ||
    (p.act == 10 && decide (s.variant.nRecit ≤ p.arg % 8))

/-- Check 5: the action names a Guard-world Bell target, event line or generator. -/
def State.guardTarget (s : State) (p : Period) : Bool :=
  (p.act == 8 && p.arg / 8 % 2 == 1) ||
    (decide (1 ≤ p.act ∧ p.act ≤ 3) && s.effFld (R.EVCFG (p.arg % 64)) R.EVCFG_WORLD == 1) ||
    (decide (4 ≤ p.act ∧ p.act ≤ 5) && s.effFld (R.PTCFG (p.arg % 16)) R.PTCFG_WORLD == 1)

/-- Check 6: the timebase is not in RUN, or is a REMOTE one that has received nothing. -/
def State.tbBars (s : State) (t : Nat) : Bool :=
  (s.tb t).state != .run || (s.kind t == 2 && !(s.tb t).rxSeen)

/-- Check 7: the timebase is unreferenced and the period does not allow it. -/
def State.refBars (s : State) (p : Period) : Bool := !(s.tb p.tb).ref && p.uref == 0

/-- The slot that R126 gives the requester, by the limits of R166. -/
def State.poolSlot (s : State) (w : Who) : Option Nat :=
  let quota := if w.guard then s.fld (R.TTQUOTA w.id) R.TTQUOTA_GUARDQ else s.fld (R.TTQUOTA w.id) R.TTQUOTA_SHOPQ
  let free := s.freeUnbound
  if s.heldBy w.id w.guard < quota && (!w.shop || decide (s.fld R.TTRESV R.TTRESV_GRESV < free.length))
  then free.find? (fun i => !s.unsettled i) else none

/-- The codes of a refused request (R128). -/
def resFULL : Nat := 1
def resMODE : Nat := 2
def resBADREC : Nat := 3
def resABSENT : Nat := 4
def resRIGHTS : Nat := 5
def resTBFAULT : Nat := 6
def resUNREF : Nat := 7
def resNOTARMED : Nat := 8
def resNOTNOW : Nat := 9

/-- The report code of checks 3, 4 and 5 on a record of queue `q`, 0 when it passes (R127, R160). -/
def State.refillForm (s : State) (q : Nat) (p : Period) : Nat :=
  let shop := s.fld (R.QCFG q) R.QCFG_WORLD == 0 && s.fld (R.QCFG q) R.QCFG_OWNER != 5
  if s.malformed p (some (s.queueSlot q)) then 18
  else if s.absentUnit p then 19
  else if shop && s.guardTarget p then 20
  else 0

/-- The report code of checks 6 and 7 on a record, 0 when it passes (R127). -/
def State.refillState (s : State) (p : Period) : Nat :=
  if s.tbBars p.tb then 8 else if s.refBars p then 9 else 0

/-- The refusal code of an ARM or TTNEW request, 0 when it is accepted (R125). -/
def State.armCode (s : State) (w : Who) (p : Period) : Nat :=
  if !w.ring01 then resRIGHTS
  else if !s.mode.active then resMODE
  else if s.malformed p (s.poolSlot w) then resBADREC
  else if s.absentUnit p then resABSENT
  else if w.shop && s.guardTarget p then resRIGHTS
  else if s.tbBars p.tb then resTBFAULT
  else if s.refBars p then resUNREF
  else if (s.poolSlot w).isNone then resFULL
  else 0

/-! ### Evaluation (R130, R132, R133) -/

/-- The copy behaves as a DOWN period. -/
def SlotCopy.down (c : SlotCopy) : Bool := c.per.dirq == 2 || (c.per.dirq == 3 && c.edir)

/-- d of R130 for the word presented. -/
def SlotCopy.dist (c : SlotCopy) (span : Nat) (word : Int) : Int :=
  let d := diffSpan span word c.per.posInt
  if c.down then -d else d

/-- PRIMED and EDIR as R130 gives them at arm; a period behind is left unprimed. -/
def SlotCopy.prime (c : SlotCopy) (span : Nat) (word : Int) : SlotCopy :=
  let raw := diffSpan span word c.per.posInt
  let c := if c.per.dirq = 3 then { c with edir := decide (0 < raw), noDir := raw == 0 } else
    { c with edir := c.per.dirq == 2, noDir := false }
  let d := c.dist span word
  { c with primed := decide (d < 0), dp := d }

/-- The crossing test of R130 succeeds for a copy; a flipped result (TTINJ FIELD 12) inverts it. -/
def SlotCopy.crosses (c : SlotCopy) (span : Nat) (word : Int) : Bool :=
  let d := c.dist span word
  (!c.noDir && c.primed && decide (c.dp < 0) && decide (0 ≤ d) && decide (2 * (d - c.dp) < (span : Int))) != c.xinv

/-- One evaluation that is not a crossing (R130). -/
def SlotCopy.pass (c : SlotCopy) (span : Nat) (word : Int) : SlotCopy :=
  if c.noDir then
    let raw := diffSpan span word c.per.posInt
    if (c.per.hyst : Int) < raw.natAbs then c.prime span word else { c with dp := raw }
  else
    let d := c.dist span word
    let primed := if 0 ≤ d then false else if d < -(c.per.hyst : Int) then true else c.primed
    { c with primed := primed, dp := d }

/-- An ARMED slot evaluated at edge `e` with no crossing, or primed afresh at a discontinuity, where a period that is behind waits (R130,
R133). Each copy uses its own period. -/
def Slot.leave (x : Slot) (span : Nat) (word : Int) (disc : Bool) (e : Nat) : Slot :=
  if disc then { x.both (fun c => c.prime span word) with disc := true, evalK := e }
  else { x.both (fun c => c.pass span word) with evalK := e }

/-- A slot's evaluation state as arming at edge `k` sets it from the word presented there (R130). A period that is behind is reached
late, to be handled at edge k + 1, when `lateIfBehind` (R132). -/
def Slot.arm (x : Slot) (span : Nat) (word : Int) (k : Nat) (lateIfBehind : Bool) : Slot :=
  let y := x.both (fun c => { c with state := 2 }.prime span word)
  { y with status := 1, armedK := k, evalK := k, late := lateIfBehind && !y.a.primed }

/-- A period put into slot `i` (R122, R129, R136), armed at edge `k` from the word presented there, or staged. -/
def State.armSlot (s : State) (i req : Nat) (guard : Bool) (p : Period) (word : Int) (k : Nat) (lateIfBehind : Bool)
    (fc : Option Nat) : State :=
  let c : SlotCopy := { SlotCopy.reset with state := 1, per := p }
  let x := { s.slot i with
    a := c, b := c, disc := false, latef := false, late := false, status := 1, req := req, guard := guard, everArmed := true
    armedK := k, evalK := k, marked := false, fc := fc }
  (s.setSlot i (if p.stg = 1 then x else x.arm (s.span p.tb) word k lateIfBehind)).notePeak

/-- A STAGED slot armed at edge `k` (R122, R137): only its state and evaluation state change; behind, it is reached late when
`lateIfBehind` (R132). -/
def State.chainArm (s : State) (i : Nat) (word : Int) (k : Nat) (lateIfBehind : Bool) : State :=
  s.setSlot i ((s.slot i).arm (s.span (s.slot i).a.per.tb) word k lateIfBehind)

/-! ### How a slot ends -/

/-- A status that counts as an action failure for a queue (R162). -/
def isFailStatus (st : Nat) : Bool := decide (10 ≤ st ∧ st ≤ 14) || st == 22

/-- A queue that holds no record in its slot or buffer, nor fetches one. -/
def Queue.emptied (x : Queue) : Queue :=
  { x with buf := none, fetching := false, inSlot := false, waited := false, taken := none, code := 0 }

/-- Queue `q` is halted with `why` (R163, R164). A record that had been taken stays at HEAD (R548). -/
def State.haltQueue (s : State) (q why : Nat) : State :=
  (s.setQueue q { (s.queue q).emptied with state := .halted, why := why }).arrive (0x70 + q)

/-- Records between HEAD and TAIL (R150). -/
def Queue.count (x : Queue) : Nat := (x.tail + 8192 - x.head) % 8192

/-- Records not yet consumed. -/
def Queue.left (x : Queue) : Nat := (x.tail + 8192 - x.cons) % 8192

/-- HEAD of queue `q` becomes `h`; the low-water interrupt as R164 gives it. -/
def State.setHead (s : State) (q h : Nat) : State :=
  let x := s.queue q
  let low := 16 * s.fld (R.QCFG q) R.QCFG_LOWM
  let y := { x with head := h }
  let s := s.setQueue q y
  if low != 0 && decide (low < x.count ∧ y.count ≤ low) then s.arrive (0x70 + q) else s

/-- Records in the ring of queue `q` (R150). -/
def State.qSize (s : State) (q : Nat) : Nat := 2 ^ s.fld (R.QCFG q) R.QCFG_LOG2SIZE

def State.qBase (s : State) (q : Nat) : Nat := 16 * s.fld (R.QBASE q) R.QBASE_BASE
def State.qRep (s : State) (q : Nat) : Nat := 8 * s.fld (R.QREP q) R.QREP_BASE

/-- HEAD of queue `q` passes the records whose reports hold it back no longer, up to the oldest one that does (R161). -/
def State.freeHead (s : State) (q : Nat) : State :=
  match s.reports.find? (fun r => r.queue == q) with
  | some r => if (s.queue q).head = r.idx then s else s.setHead q r.idx
  | none => if (s.queue q).head = (s.queue q).cons then s else s.setHead q (s.queue q).cons

/-- A report joins the buffer; at 16 the buffer is full, and reports go first until 8 remain (R161). -/
def State.addReport (s : State) (r : Report) : State :=
  { s with reports := s.reports ++ [r], repFirst := s.repFirst || decide (16 ≤ s.reports.length + 1) }

/-- The record at the head of queue `q` is consumed with report code `code` (R156, R161): SEQ counts it, its report joins the buffer when
REPEN is set, and otherwise HEAD advances, at once or behind the reports that are still to be written. `ready`: its status is
settled (R548). -/
def State.consume (s : State) (q code when0 : Nat) (latef rawpl disc ready : Bool) : State :=
  let x := s.queue q
  let seq := (x.seq + 1) % 65536
  let s := s.setQueue q { x with seq := seq, cons := (x.cons + 1) % 8192, inSlot := false }
  let w0 := code + 32 * latef.toNat + 64 * rawpl.toNat + 128 * disc.toNat + 256 * s.queueSlot q + 65536 * seq
  if s.fld (R.QCFG q) R.QCFG_REPEN = 1 then
    s.addReport { queue := q, idx := x.cons, addr := s.qRep q + 8 * (x.cons % s.qSize q), w0 := w0, w1 := when0, ready := ready }
  else s.freeHead q

/-- What a RUNNING queue does when its slot has freed (R156, R157, R159): it takes the buffered record at the next edge, waits
for its prefetch, or is STARVED. -/
def State.afterConsume (s : State) (q : Nat) : State :=
  let x := s.queue q
  if x.state != .running then s
  else if x.left = 0 then
    (s.setQueue q { x with state := .starved }).count (R.QCNT q) R.QCNT_STARVE 1
  else if x.buf.isSome then s.setQueue q { x with taken := some (s.now + 1), code := 0 }
  else (s.setQueue q { x with waited := true, fetching := true }).count (R.QCNT q) R.QCNT_PFWAIT 1

/-- The status with which a record of queue `q` ended acts on the queue (R162). -/
def State.queueStatus (s : State) (q status : Nat) (latef : Bool) : State :=
  let s := if latef && (status == 2 || status == 3 || isFailStatus status) then s.count (R.QCNT q) R.QCNT_LATE 1 else s
  let s := if status = 4 then s.count (R.QCNT q) R.QCNT_SKIP 1 else s
  if isFailStatus status then
    let s := s.count (R.QFAIL q) R.QFAIL_FAIL 1
    if s.fld (R.QCFG q) R.QCFG_FAILHALT = 1 then s.haltQueue q status else s
  else if status = 6 ∨ status = 8 ∨ status = 9 ∨ status = 15 then s.haltQueue q status
  else s

/-- The record in slot `i` is consumed with a status that `ready` says is settled, and the queue goes on (R156, R162). A slot that ended
with MODE leaves its record at HEAD (R165). -/
def State.queueEnd (s : State) (i status : Nat) (ready : Bool) : State :=
  match s.queueOf i with
  | none => s
  | some q =>
    let x := s.queue q
    let sl := s.slot i
    if !x.inSlot then s
    else if status = 7 then s.setQueue q x.emptied
    else
      let fired := status == 2 || status == 3 || isFailStatus status
      let s := s.consume q status (if fired then sl.whenT % 2 ^ 32 else 0) sl.latef (fired && sl.rawpl) sl.disc ready
      (if ready then s.queueStatus q status sl.latef else s).afterConsume q

/-- The queue and the index of the record in slot `i`, while a queue has one there. -/
def State.recordIn (s : State) (i : Nat) : Option (Nat × Nat) :=
  (s.queueOf i).bind (fun q => if (s.queue q).inSlot then some (q, (s.queue q).cons) else none)

/-- The report of record `idx` of queue `q` takes its settled status, and the queue follows it (R162, R548). -/
def State.settleReport (s : State) (q idx status : Nat) (latef : Bool) : State :=
  let one (r : Report) : Report :=
    if r.queue = q ∧ r.idx = idx then { r with w0 := r.w0 - r.w0 % 32 + status, ready := true } else r
  let s := { s with reports := s.reports.map one }
  if (s.queue q).state ∈ [QState.running, .starved, .suspended] then s.queueStatus q status latef else s

def State.fcEntry (s : State) (e : Nat) : FcEntry := s.fcMap.get .reset e
def State.setFcEntry (s : State) (e : Nat) (x : FcEntry) : State := { s with fcMap := s.fcMap.put e x }

/-- The forecast of map entry `e` closes; `dead`: its later messages are ignored (R374). -/
def State.fcClose (s : State) (e : Nat) (dead : Bool) : State :=
  s.setFcEntry e { s.fcEntry e with state := .none, dead := dead }

/-- A slot that the forecast unit holds ends without firing: its map entry returns to NONE (R374). -/
def State.fcSlotEnd (s : State) (x : Slot) (status : Nat) : State :=
  match x.fc with
  | some e => if 6 ≤ status ∧ status ≤ 9 ∨ status = 15 then s.fcClose e true else s
  | none => s

/-- Slot `i` becomes FREE with a status, in both copies (R136, R147). -/
def State.freeSlot (s : State) (i status : Nat) : State :=
  s.setSlot i { (s.slot i).both (fun c => { c with state := 0 }) with status := status, late := false }

/-- Slot `i` becomes FREE with a settled status; the forecast unit sends what R369 asks. -/
def State.endSlotOnly (s : State) (i status : Nat) : State :=
  let x := s.slot i
  ((s.freeSlot i status).fcEnd i x.a.per.tag status x.whenT).fcSlotEnd x status

/-- Slot `i` ends, and its queue follows (R162). -/
def State.endSlot (s : State) (i status : Nat) : State := (s.endSlotOnly i status).queueEnd i status true

/-- The edge at which an errand of a fire at edge `k` takes effect (R137): k + 2 for ENWARD and RECIT, and the first concord edge after
k + 1 for IRQ and BELL. -/
def Errand.due (e : Errand) (k : Nat) : Nat :=
  match e with
  | .irq _ | .bell _ _ => (k + 1) / 2 * 2 + 2
  | .enward _ | .recit _ _ => k + 2

/-- Slot `i` fires an action that reaches its unit later (R548): it is FREE with FIRED or LATE, its record is consumed, and the status is
settled when the errand arrives. -/
def State.sendErrand (s : State) (i k status : Nat) (e : Errand) : State :=
  let a : Act := { slot := i, due := e.due k, op := e, queue := s.recordIn i }
  let s := (s.freeSlot i status).queueEnd i status false
  { s with acts := s.acts ++ [a] }

/-- Every slot that is not FREE and that `p` holds of ends with `status`. -/
def State.endSlots (s : State) (p : Nat → Slot → Bool) (status : Nat) : State :=
  (upFrom 0 32).foldl (fun s i =>
    if (s.slot i).a.state != 0 && p i (s.slot i) then s.endSlot i status else s) s

end Sys2Proof.Machine
end

