-- ==== Sys2Proof/Machine/Words.lean ====
section
/-! DEFINITION. How each timebase forms its word at a PSCLK edge (R91-R113), and captures of all words (R120, R121).
Words move only by DIFF, so passes through the modulus and through the wrap are seen wherever the word moves. -/

namespace Sys2Proof.Machine

/-- The position channel block of channel `n`. -/
def State.chan (s : State) (n : Nat) : Channel := s.chans.get .reset n
def State.setChan (s : State) (n : Nat) (x : Channel) : State := { s with chans := s.chans.put n x }

/-- PCCTL.MODE of channel `n`: 0 OFF, 1 QUAD, 2 SSI, 3 BISS, 4 SINCOS. -/
def State.chMode (s : State) (n : Nat) : Nat := s.fld (R.PCCTL n) R.PCCTL_MODE

/-- Steps or samples averaged (TBCFG.VAVG). -/
def State.vavg (s : State) (t : Nat) : Nat := 2 ^ s.fld (R.TBCFG t) R.TBCFG_VAVG

/-- The standstill time in PSCLK (TBCFG.STILLT; 0 is stored as 50). -/
def State.stillPs (s : State) (t : Nat) : Nat :=
  200000 * (let n := s.fld (R.TBCFG t) R.TBCFG_STILLT; if n = 0 then 50 else n)

/-- The interval history of a QUAD timebase (R97): m intervals lasting d PSCLK, when it is valid. -/
def Timebase.interval (x : Timebase) (vavg : Nat) : Option (Nat × Nat) :=
  match x.steps with
  | [] | [_] => none
  | e0 :: rest =>
    let m := min vavg rest.length
    some (m, e0 - rest.getD (m - 1) 0)

/-- Fraction and velocity magnitude of a QUAD timebase at edge `k` (R97, R545); the fraction stands from the standstill on (R102). -/
def quadForm (x : Timebase) (interp : Bool) (vavg still k : Nat) : Nat × Nat :=
  let e := k - x.steps.headD k
  match x.interval vavg with
  | none => (0, 0)
  | some (m, d) =>
    let f := if interp then min (256 * min e still * m / max d 1) 255 else 0
    let v := if still ≤ e ∨ x.still then 0 else if e * m ≤ d then 2 ^ 32 * m / max d 1 else 2 ^ 32 / max e 1
    (f, v)

/-- The sampled estimate at age `age` PSCLK (R98), in 1/256 count. -/
def sampleForm (v vel : Int) (age : Int) : Int := v + vel * age / (2 ^ 24 : Nat)

/-- The age at which the extrapolation of a local source stops (R98): 4 × REQPER pin epochs for SSI and BISS, 4 sample
intervals of 40 PSCLK for SINCOS. -/
def State.staleAge (s : State) (ch : Nat) : Nat :=
  if s.chMode ch = 4 then 160 else 32 * s.fld (R.PCREQ ch) R.PCREQ_REQPER

/-- Truncation toward 0 of a quotient. -/
def truncDiv (a b : Int) : Int := Int.tdiv a b

/-- The velocity that the Finrun itself uses of a timebase: exact for timebase 29 (R94). -/
def State.useVel (s : State) (t : Nat) : Int := if t = 29 then (2 ^ 32 : Nat) else (s.tb t).vel

/-- The estimate of timebase `t` at edge `k`, not yet brought into the span, with its velocity; none where the word holds for want
of a count, frame, sample or crossing (R97, R98, R108, R109, R111, R113, R546). -/
def State.rawTb (s : State) (t k : Nat) : Option (Int × Int) :=
  let x := s.tb t
  match s.kind t with
  | 1 =>
    if x.holding then none
    else if s.chMode x.src = 1 then
      let (f, v) := quadForm x (s.fld (R.TBCFG t) R.TBCFG_INTERP == 1) (s.vavg t) (s.stillPs t) k
      let base := (s.chan x.src).count * 256 + x.offset
      some (if x.down then base + 255 - f else base + f, if x.down then -(v : Int) else v)
    else x.samples.head?.map (fun p =>
      (sampleForm p.2 x.vel (min ((k : Int) - p.1) (s.staleAge x.src)) + x.offset, x.vel))
  | 2 => x.samples.head?.map (fun p => (sampleForm p.2 x.rxVel ((s.wallPs k : Int) - p.1), x.rxVel))
  | 3 =>
    let y := s.tb x.src
    let num := (s.eff (R.TBGNUM t)).toInt
    let den := max (s.eff (R.TBGDEN t)).toNat 1
    some (x.word + (x.acc + diffSpan (s.span x.src) y.word y.prev * num) / den, truncDiv (s.useVel x.src * num) den)
  | 4 =>
    if x.holding then none
    else s.mains.useK.map (fun st =>
      ((s.mains.cycle * 65536 + min (65536 * ((k : Int) - st) / (max s.mains.useP 1 : Nat)) 65535) * 256, x.vel))
  | 5 => some (s.wallAt k, 0x7FFFFFFF)
  | 6 => some ((x.synth + (s.eff (R.TBSYNVEL t)).toInt) / (2 ^ 24 : Nat), (s.eff (R.TBSYNVEL t)).toInt)
  | _ => none

/-- The word and the velocity that timebase `t` forms at edge `k` while its state is RUN: the estimate within the span, or the old
word where it holds (R91, R99). A timebase that has counted nothing yet has no velocity; one without a crossing keeps its own. -/
def State.formTb (s : State) (t k : Nat) : Int × Int :=
  let x := s.tb t
  let m := s.modulus t
  match s.rawTb t k with
  | none => (x.word, if s.kind t = 4 ∧ x.holding = false then x.vel else 0)
  | some p =>
    let est := normWord m p.1
    let d := diffSpan (spanOf m) est x.word
    let behind := if x.down then decide (0 < d) else decide (d < 0)
    (if x.hold && behind then x.word else est, p.2)

/-- The accumulators of a virtual or synthetic timebase after an edge (R108, R113). -/
def State.formAcc (s : State) (t : Nat) : Timebase :=
  let x := s.tb t
  match s.kind t with
  | 3 =>
    let y := s.tb x.src
    let a := x.acc + diffSpan (s.span x.src) y.word y.prev * (s.eff (R.TBGNUM t)).toInt
    { x with acc := a % ((max (s.eff (R.TBGDEN t)).toNat 1 : Nat) : Int) }
  | 6 => { x with synth := (diffSpan (2 ^ 72) (x.synth + (s.eff (R.TBSYNVEL t)).toInt) 0) }
  | _ => x

/-- The word of timebase `t` moves to `w` (R92, R103, R104): TBREV counts passes through the modulus, WRAP and TBEVT note a
pass through the ends of the span. -/
def State.moveTo (s : State) (t : Nat) (w : Int) : State :=
  let x := s.tb t
  let m := s.modulus t
  let dst := x.word + diffSpan (spanOf m) w x.word
  let hi : Int := if m = 0 then (2 ^ 47 : Nat) else (m * 256 : Nat)
  let lo : Int := if m = 0 then -((2 ^ 47 : Nat) : Int) else 0
  let passes : Int := if hi ≤ dst then 1 else if dst < lo then -1 else 0
  let y := { x with word := normWord m w }
  if passes = 0 then s.setTb t y
  else if m = 0 then
    let s := s.setTb t { y with wrap := true }
    if s.fld (R.TBCFG t) R.TBCFG_EVWRAP = 1 then s.arrive (0x20 + t) else s
  else s.setTb t { y with rev := y.rev + passes }

/-- The velocity of timebase `t` becomes `v` (R102): DIR follows the sign of a velocity that is not 0, STILL ends with it,
and a reversal raises TBEVT when EVDIR is set. A QUAD timebase has its DIR from its steps. -/
def State.setVel (s : State) (t : Nat) (v : Int) : State :=
  let x := s.tb t
  let quad := s.kind t == 1 && s.chMode x.src == 1
  let down := if quad || v == 0 then x.down else decide (v < 0)
  let zeroK := if v = 0 then (if x.vel = 0 then x.zeroK else s.now) else x.zeroK
  let y := { x with vel := v, down := down, zeroK := zeroK, still := x.still && v == 0 }
  let s := s.setTb t y
  if down != x.down && s.fld (R.TBCFG t) R.TBCFG_EVDIR == 1 then s.arrive (0x20 + t) else s

/-- The timebases of the variant, in index order. -/
def State.tbList (s : State) : List Nat := (upFrom 0 32).filter (fun t => s.variant.hasTb t)

/-- What an edge leaves presented to the slots at the next one (R101). -/
def Timebase.present (x : Timebase) : Timebase :=
  { x with prev := x.word, pvel := x.vel, pfresh := x.fresh, pdisc := x.disc, fresh := false, disc := false }

/-- One timebase at the next edge: its word and velocity as `old` (the state before the edge) forms them. -/
def State.stepTb (s old : State) (t : Nat) : State :=
  let x := old.tb t
  if x.state = .run then
    let p := old.formTb t (old.now + 1)
    let s := ((s.setTb t (old.formAcc t).present).moveTo t p.1).setVel t p.2
    s.setTb t { s.tb t with hold := decide (p.1 = x.word) && x.hold }
  else s.setTb t x.present

/-- Every timebase at the next PSCLK edge; virtual ones see their sources as the edge before left them (R101). -/
def State.stepWords (s : State) : State :=
  let s' := s.tbList.foldl (fun a t => a.stepTb s t) s
  { s' with now := s.now + 1 }

/-! ### Captures (R120, R121) -/

def TbState.code : TbState → Nat
  | .off => 0
  | .run => 1
  | .fault => 2

/-- Bits 31:16 of TBPOSH of timebase `t`. -/
def Timebase.high (x : Timebase) : Nat :=
  x.ref.toNat + 2 * x.state.code + 8 * x.down.toNat + 16 * x.still.toNat + 256 * x.discgen

/-- The word and velocity of timebase `t` that the slots compare at edge `k`: at the present edge those that the edge before formed,
at the next one those of the present edge (R101, R120). -/
def State.shown (s : State) (t k : Nat) : Int × Int :=
  if k ≤ s.now then ((s.tb t).prev, (s.tb t).pvel) else ((s.tb t).word, (s.tb t).vel)

/-- The word, status copy and velocity of timebase `t` in a capture at edge `k`; an absent one reads 0. -/
def State.capWord (s : State) (k t : Nat) : Int × Nat × Int :=
  if s.variant.hasTb t then ((s.shown t k).1, (s.tb t).high, (s.shown t k).2) else (0, 0, 0)

/-- A capture at edge `k` into the lowest free bank (R120); none when the four banks are full. -/
def State.captureNew (s : State) (k src src2 : Nat) : Option State :=
  match (upFrom 0 4).find? (fun b => !(s.caps.get .reset b).full) with
  | none => none
  | some b =>
    let n := if (s.capSeq + 1) % 2 ^ 32 = 0 then 1 else (s.capSeq + 1) % 2 ^ 32
    let bank : CapBank :=
      { full := true, seq := n, src := src, src2 := src2, wall := s.wallAt k, words := (upFrom 0 32).map (s.capWord k) }
    let s := { s with caps := s.caps.put b bank, capSeq := n, capAt := (k, some b) :: s.capAt.take 1 }
    some (s.setFld R.CAPSTAT R.CAPSTAT_LAST b)

/-- A capture at edge `k` for a requester: `src` a bit of CAPSRC, `src2` a bit of CAPSRC2. All requests of one edge share one
capture, made or refused (R120, R121). -/
def State.capture (s : State) (k src src2 : Nat) : Option State :=
  match s.capAt.find? (fun p => p.1 == k) with
  | some (_, some b) =>
    some { s with caps := s.caps.upd .reset b (fun c => { c with src := c.src ||| src, src2 := c.src2 ||| src2 }) }
  | some (_, none) => none
  | none => s.captureNew k src src2

/-- A refused capture at edge `k`, counted once for the edge (R121). -/
def State.captureLost (s : State) (k : Nat) : State :=
  if s.capAt.contains (k, none) then s
  else { s with capAt := (k, none) :: s.capAt.take 1 }.count R.CAPSTAT R.CAPSTAT_CAPLOST 1

end Sys2Proof.Machine
end

