-- ==== Sys2Proof/Machine/Attendance.lean ====
section
/-! DEFINITION. The Attendance scan (R398-R403). -/

namespace Sys2Proof.Machine

/-- Clocks of a cycle (R398): NIN + NOUT, and 16 more with CHKEN. -/
def attLen (cfg : Word) : Nat :=
  R.ACFG_NIN.get cfg + R.ACFG_NOUT.get cfg + if R.ACFG_CHKEN.get cfg = 1 then 16 else 0

/-- The configuration is refused (R398): field ranges, and a cycle that does not fit. -/
def attBad (cfg time : Word) : Bool :=
  let cyc := R.ATIME_CYCLE.get time
  let ldw := R.ATIME_LDW.get time
  decide (1024 < R.ACFG_NIN.get cfg) || decide (1024 < R.ACFG_NOUT.get cfg) || decide (cyc < 250) || decide (10000 < cyc) ||
    ldw == 0 || decide (cyc * 200 < ldw + 16 + attLen cfg * (8 * (R.ATIME_SCKDIV.get time + 1)) + 8)

/-- ASTAT.AWSTAT of a requester. -/
def State.attStat (s : State) (w : Who) (code : Nat) : State := s.wrReq w.id R.ASTAT (BitVec.ofNat 32 (code * 65536))

/-- Bit `p` of an array of 32 registers at `a`. -/
def State.attBit (s : State) (a : Nat → Nat) (p : Nat) : Bool := (s.rd (a (p / 32))).getLsbD (p % 32)

/-- The image taken at a cycle's start (R402). -/
def State.attImage (s : State) (n : Nat) : Word :=
  let safe := s.rd (R.ASAFE n)
  match s.att.state, s.mode with
  | .fault, _ => safe
  | _, .run => s.rd (R.AOUT n)
  | _, .hold => Word.mix (s.att.image.getD n safe) (s.rd (R.AOUT n)) (s.rd (R.AHLIVE n))
  | _, _ => safe

/-- The check word of cycle `n` (R399). -/
def attCheck (n : Nat) : Nat := if n / 16 % 2 = 0 then 2 ^ (n % 16) else 65535 - 2 ^ (n % 16)

/-- Input point `p` reads `lv` in a passing cycle (R401): the state, and whether its published value changed. -/
def State.attPoint (s : State) (p : Nat) (lv : Bool) : State × Bool :=
  let old := s.attBit R.AIN p
  let deb := (s.rd (R.ADEB (p / 8))).toNat / 16 ^ (p % 8) % 16
  let n := s.att.deb.get 0 p + 1
  let put (s : State) (n : Nat) : State := { s with att := { s.att with deb := if n = 0 then s.att.deb.erase (· == p) else s.att.deb.put p n } }
  if lv == old then (put s 0, false)
  else if n ≤ deb then (put s n, false)
  else ((put s 0).setFld (R.AIN (p / 32)) ⟨p % 32, 1⟩ lv.toNat, true)

/-- The inputs of a passing cycle are published at one edge (R401); ACHANGE once for the cycle. -/
def State.attPublish (s : State) (inputs : List Word) : State :=
  let r := (upFrom 0 (s.fld R.ACFG R.ACFG_NIN)).foldl (fun (r : State × Bool) p =>
    let q := r.1.attPoint p ((inputs.getD (p / 32) 0).getLsbD (p % 32))
    if q.2 && q.1.attBit R.AIEN p then (q.1.setFld (R.ACHG (p / 32)) ⟨p % 32, 1⟩ 1, true)
    else (q.1, r.2)) (s, false)
  let s := r.1.setFld R.ACYCNT R.ACYCNT_COUNT (s.fld R.ACYCNT R.ACYCNT_COUNT + 1)
  if r.2 then s.arrive 0xE1 else s

/-- PSCLK from one scan cycle to the next: CYCLE × 25 pin epochs (R398). -/
def State.attPeriod (s : State) : Nat := 200 * s.fld R.ATIME R.ATIME_CYCLE

/-- P of R398: the PSCLK of one clock. -/
def State.attP (s : State) : Nat := 8 * (s.fld R.ATIME R.ATIME_SCKDIV + 1)

/-- PSCLK from B to clock `m` (R398). -/
def State.attClock (s : State) (m : Nat) : Nat := s.fld R.ATIME R.ATIME_LDW + 8 + m * s.attP

/-- PSCLK from B to the end of the clocks, at which OLAT rises when the cycle passes; the cycle ends 8 PSCLK later (R398). -/
def State.attEnd (s : State) : Nat := s.attClock (attLen (s.rd R.ACFG))

/-- The cycle passes (R399). -/
def State.attPasses (s : State) (c : AttShift) : Bool :=
  s.fld R.ACFG R.ACFG_CHKEN == 0 || c.word % 65536 == c.check

/-- A scan cycle may begin at boundary `k` (R398, R400): CYCLE × 25 pin epochs after the last one, the first within that time of the
write of EN. -/
def State.attMayBegin (s : State) (k : Nat) : Bool :=
  s.att.state != .off && s.clocks && k % 8 == 0 &&
    match s.att.nextK with
    | some n => k == n
    | none => decide (s.att.enK < k ∧ k ≤ s.att.enK + s.attPeriod)

/-- SCAN_CYCLE at the present edge, a boundary: the image is taken (R402) and the shift begins; the chain will give `inputs` and, after
them, `word`. -/
def State.scanCycle (s : State) (inputs : List Word) (word : Nat) : State :=
  if s.attMayBegin s.now then
    let x := s.att
    let image := (upFrom 0 32).map s.attImage
    { s with att := { x with
        cycle := x.cycle + 1, nextK := some (s.now + s.attPeriod), image := if s.mode == Mode.hold then x.image else image
        shift := some { start := s.now, image := image, check := attCheck x.cycle, inputs := inputs, word := word, latched := false } } }
  else s

/-- A cycle ends (R399-R401): a passing one is published, unless the scan is in FAULT, and a failing one counts. -/
def State.attFinish (s : State) (c : AttShift) : State :=
  let pass := s.attPasses c
  let lim := let n := s.fld R.ACHK R.ACHK_INTLIM; if n = 0 then 3 else n
  let s := if s.fld R.ACFG R.ACFG_CHKEN = 1 then s.setFld R.ACHK R.ACHK_LAST c.word else s
  let x := { s.att with shift := none, passed := pass }
  let s := { s with att := x }.arrive 0xE0
  match pass, x.state with
  | true, .run => { s with att := { x with failRun := 0, stale := false } }.attPublish c.inputs
  | true, _ => { s with att := { x with failRun := 0 } }
  | false, st =>
    let s := { s with att := { x with failRun := min 15 (x.failRun + 1), stale := true } }.count R.AERR R.AERR_FAIL 1
    if st == .run && decide (lim ≤ x.failRun + 1) then { s with att := { s.att with state := .fault } }.arrive 0xE2 else s

/-- What the cycle under way has come to at the present edge: the boards latch a passing image as OLAT rises, and the cycle ends 8 PSCLK
later (R398, R399). -/
def State.attDue (s : State) : State :=
  match s.att.shift with
  | none => s
  | some c =>
    let latch := decide (c.start + s.attEnd ≤ s.now) && s.attPasses c && !c.latched
    let s := if latch then { s with att := { s.att with board := c.image, shift := some { c with latched := true } } } else s
    if c.start + s.attEnd + 8 ≤ s.now then s.attFinish c else s

/-- ATTENDANCE_ENABLE (R400): EN = 1 with a valid configuration starts the scan, EN = 0 stops it with the boards as latched. -/
def State.attEnable (s : State) (w : Who) (on : Bool) : State :=
  let x := s.att
  if on then
    if x.state != .off then s.attStat w 0
    else if attBad (s.rd R.ACFG) (s.rd R.ATIME) then s.attStat w 3
    else
      ({ s with att := { x with state := .run, failRun := 0, stale := false, cycle := 0, passed := false, deb := [], nextK := none, enK := s.now } }.setFld
        R.ACTL R.ACTL_EN 1).attStat w 0
  else ({ s with att := { x with state := .off, shift := none } }.setFld R.ACTL R.ACTL_EN 0).attStat w 0

/-- CLRFLT (R400): FAULT ends when the last cycle passed. -/
def State.attClear (s : State) (w : Who) : State :=
  let x := s.att
  if x.state == .fault && x.passed then
    ({ s with att := { x with state := .run, failRun := 0, stale := false } }.arrive 0xE3).attStat w 0
  else s.attStat w 2

/-- A write of ACTL. -/
def State.actlWrite (s : State) (w : Who) (v : Word) : State :=
  if !w.ring01 then s.attStat w 1
  else
    let on := R.ACTL_EN.get v == 1
    let s := if on == (s.att.state != .off) then s.attStat w 0 else s.attEnable w on
    if R.ACTL_CLRFLT.get v = 1 then s.attClear w else s

/-- The refused bits of an output write, and what it leaves in AREJ and AWSTAT (R403). -/
def State.attOut (s : State) (w : Who) (n : Nat) (mask : Word) (f : Word → Word → Word) : State :=
  if !w.ring01 then (s.wrReq w.id (R.AREJ n) mask).attStat w 1
  else
    let rej := if w.shop then mask &&& s.rd (R.AGUARD n) else 0
    let s := s.wr (R.AOUT n) (f (s.rd (R.AOUT n)) (mask &&& ~~~ rej))
    (s.wrReq w.id (R.AREJ n) rej).attStat w (if rej = 0 then 0 else if rej = mask then 1 else 6)

/-- Writes of AOUTn, AOSETn and AOCLRn (R402, R403). An AOUT write is to all 32 points. -/
def State.aoutWrite (s : State) (w : Who) (n : Nat) (v : Word) : State :=
  s.attOut w n 0xFFFFFFFF (fun old m => Word.mix old v m)
def State.aosetWrite (s : State) (w : Who) (n : Nat) (v : Word) : State := s.attOut w n v (fun old m => old ||| m)
def State.aoclrWrite (s : State) (w : Who) (n : Nat) (v : Word) : State := s.attOut w n v (fun old m => old &&& ~~~ m)

/-- A write of a configuration register of the scan (R403). -/
def State.attCfg (s : State) (w : Who) (a : Nat) (v : Word) : State :=
  let nv := Word.mix (s.rd a) v (wmaskAt a)
  let nv := if a = R.ACHK ∧ R.ACHK_INTLIM.get nv = 0 then R.ACHK_INTLIM.put nv 3 else nv
  let timing := a == R.ACFG || a == R.ATIME
  let bad := timing && (if a = R.ACFG then attBad nv (s.rd R.ATIME) else attBad (s.rd R.ACFG) nv)
  if !w.priv then s.attStat w 1
  else if s.mode != .prepare || (timing && s.att.state != .off) then s.attStat w 2
  else if bad then s.attStat w 3
  else
    let s' := if a = R.ACFG then { s with att := { s.att with latch := some (R.ACFG_OEOFF.get nv == 1) } } else s
    ((s'.wr a nv).logWho w 0 a (s.rd a).toNat nv.toNat).attStat w 0

/-- RUN begins (R402): AOUT is set to ASAFE. -/
def State.attRunEntry (s : State) : State :=
  let s := { s with att := { s.att with safed := false } }
  (upFrom 0 32).foldl (fun (s : State) n => s.wr (R.AOUT n) (s.rd (R.ASAFE n))) s

/-- SDO at clock `m` of a cycle (R398): check word bit m, then the output points from the last down to 0. -/
def State.attBitOut (s : State) (c : AttShift) (m : Nat) : Bool :=
  let o := attLen (s.rd R.ACFG) - 1 - m
  if s.fld R.ACFG R.ACFG_CHKEN == 1 && decide (m < 16) then c.check.testBit m
  else decide (o < s.fld R.ACFG R.ACFG_NOUT) && (c.image.getD (o / 32) 0).getLsbD (o % 32)

/-- Signal `k` of the cycle under way at the present edge (R398): 0 SCK, 1 LD_N, 3 SDO, 4 OLAT. Between clocks SCK, SDO and OLAT are low. -/
def State.attWave (s : State) (c : AttShift) (k : Nat) : Bool :=
  let d := s.now - c.start
  let m := (d - s.attClock 0) / s.attP
  let clocking := decide (s.attClock 0 ≤ d ∧ d < s.attEnd)
  match k with
  | 0 => clocking && decide (s.attClock m + s.attP / 2 ≤ d)
  | 1 => decide (s.fld R.ATIME R.ATIME_LDW ≤ d)
  | 3 => clocking && s.attBitOut c m
  | _ => decide (s.attEnd ≤ d ∧ d < s.attEnd + 8) && s.attPasses c

/-- What function `k` of the scan drives: the cycle's waveform, and between cycles LD_N high and the others low; OE_N follows the safe
path (R402) and FAULT with OEOFF (R400). -/
def State.attOutLvl (s : State) (k : Nat) : Lvl :=
  if s.unpowered then .z
  else match k with
    | 5 =>
      if s.safeMode || !s.clocks || s.att.safed then (s.att.latch.map boolLvl).getD .z
      else boolLvl (s.fld R.ACFG R.ACFG_OEOFF == 1 && s.att.state == .fault)
    | 2 => .z
    | _ =>
      if !s.loaded then .z
      else boolLvl (match s.att.shift with
        | some c => s.attWave c k
        | none => k == 1)

/-- ASTAT without its AWSTAT. -/
def State.astat (s : State) : Nat :=
  (match s.att.state with
    | .off => 0
    | .run => 1
    | .fault => 2) + 4 * s.att.stale.toNat + 256 * s.att.failRun

end Sys2Proof.Machine
end

