-- ==== Sys2Proof/Machine/Secrets.lean ====
section
/-! DEFINITION. Identity, Randomness and Secrets: the secret store (R443-R446, R454), the crypto engine (R456), the noise
sources and the DRBG instances (R460-R466). -/

namespace Sys2Proof.Machine

/-! ### The secret store -/

def State.key (s : State) (k : Nat) : KeySlot := s.keys.getD k .blank
def State.setKey (s : State) (k : Nat) (x : KeySlot) : State := { s with keys := s.keys.set k x }

def KeyState.code : KeyState → Nat
  | .empty => 0
  | .set => 1
  | .erased => 2

/-- KEYSTAT (R444). -/
def State.keyStat (s : State) : Nat :=
  (List.range 7).foldl (fun n k => n + 4 ^ k * (s.key k).state.code) 0 + 65536 * s.otp.svcpend.isSome.toNat

/-- A slot is changed: the Logbook entry of EVENT 7 is programmed first (R440, R444, R452). -/
def State.keyWrite (s : State) (w : Who) (k : Nat) (x : KeySlot) : State :=
  ((s.log w.id (!w.isStaff && w.guard) (if w.isStaff then 0 else w.ring) 3 7 k 0 0).logFlush).setKey k x

/-- `n` words that no one can foretell (assumption 1, DESIGN CHOICE). -/
def State.freeWords (s : State) : Nat → List Word × State
  | 0 => ([], s)
  | n + 1 =>
    let r := s.free
    let t := r.2.freeWords n
    (r.1 :: t.1, t.2)

/-- The bytes of words, the lowest byte of each first. -/
def wordBytes (l : List Word) : List Nat := l.flatMap (fun v => bytesLow 4 v.toNat)

/-! ### The noise sources -/

def State.source (s : State) (i : Nat) : NoiseState := s.noise.getD i .failed

/-- POLICY in force: Strict on the FN4808 (R462). -/
def State.strict (s : State) : Bool :=
  s.variant == .fn4808 || s.fld R.RNGCFG R.RNGCFG_POLICY == 1

def State.rngStopped (s : State) : Bool := s.fld R.RNGSTAT R.RNGSTAT_STOPPED == 1
def State.rawOn (s : State) : Bool := s.fld R.RNGSTAT R.RNGSTAT_RAWON == 1

/-- Conditioned bits can be delivered (R461, R462, R466). -/
def State.bitsFlow (s : State) : Bool :=
  !s.rngStopped && !s.rawOn && s.noise.any (· == .healthy)

def State.drbg (s : State) (n : Nat) : Drbg := s.drbgs.get .reset n

def DrbgState.code : DrbgState → Nat
  | .none => 0
  | .ready => 1
  | .due => 2
  | .stopped => 3

def State.setDrbg (s : State) (n : Nat) (d : Drbg) : State :=
  { s with drbgs := s.drbgs.put n d }.setFld (R.DRBGINST n) R.DRBGINST_STATE d.state.code

/-- The instances of the variant. -/
def Variant.drbgList (v : Variant) : List Nat := (List.range 10).filter v.hasDrbg

/-- The RNG stops: every instance with it (R462). -/
def State.rngStop (s : State) : State :=
  let s := s.setFld R.RNGSTAT R.RNGSTAT_STOPPED 1
  let s := s.variant.drbgList.foldl (fun (s : State) n => s.setDrbg n { s.drbg n with state := .stopped, buf := [] }) s
  let s := if s.mode == .dawn then s.setFld R.DAWNSTAT R.DAWNSTAT_RNGSTOP 1 else s
  -- a session that waits for its nonce closes with RNGSTOP (R420)
  let s :=
    if s.staff.sess == .drawing then { s with staff := { s.staff with sess := .closed, cmdRes := 0x105 } } else s
  s.arrive 0xEC

/-- DAWN step 3 has begun: step 1 has ended well (R49). -/
def State.rngBegun (s : State) : Bool := s.clocks && s.fld R.DAWNSTAT R.DAWNSTAT_FAILSTEP != 1

/-- SOURCE_STARTUP_PASS (R460). -/
def State.sourcePass (s : State) (i : Nat) : State :=
  if s.rngBegun && s.source i == .starting && decide (i < s.variant.nNoise) then
    { s with noise := s.noise.set i .healthy }.setFld R.RNGSTAT R.RNGSTAT_HEALTHY
      (s.fld R.RNGSTAT R.RNGSTAT_HEALTHY ||| 2 ^ i)
  else s

/-- SOURCE_HEALTH_FAIL by the repetition-count test, or by the adaptive-proportion test (R460, R462). -/
def State.sourceFail (s : State) (i : Nat) (apt : Bool) : State :=
  if s.source i == .failed || !decide (i < s.variant.nNoise) then s
  else
    let s := { s with noise := s.noise.set i .failed }
    let s := s.count R.RNGERR (if apt then R.RNGERR_APT else R.RNGERR_RCT) 1
    let h := s.fld R.RNGSTAT R.RNGSTAT_HEALTHY
    let s := s.setFld R.RNGSTAT R.RNGSTAT_HEALTHY (h - h % 2 ^ (i + 1) + h % 2 ^ i)
    let s := s.setFld R.RNGSTAT R.RNGSTAT_FAILED (s.fld R.RNGSTAT R.RNGSTAT_FAILED ||| 2 ^ i)
    if s.rngStopped then s
    else if s.strict then s.rngStop
    else
      let s := s.setFld R.RNGSTAT R.RNGSTAT_REDUCED 1
      if s.noise.all (· == .failed) then s.rngStop else s.arrive 0xEC

/-! ### The DRBG instances -/

/-- A reseed of instance `n` is due: after 4,096 generate requests or 1 s (R463). -/
def State.reseedDue (s : State) (n : Nat) : Bool :=
  let d := s.drbg n
  d.state == .due || (d.state == .ready && decide (4096 ≤ d.reqs ∨ d.seedK + 200000000 ≤ s.now))

/-- Instance `n` can generate: instantiated, with no reseed due, and the raw tap off (R463, R466). -/
def State.drbgGives (s : State) (n : Nat) : Bool := (s.drbg n).state == .ready && !s.reseedDue n && !s.rawOn

/-- Instance `n` waits for conditioned bits. -/
def State.drbgWaits (s : State) (n : Nat) : Bool := s.variant.hasDrbg n && ((s.drbg n).state == .none || s.reseedDue n)

/-- The instances of the cores and the Staff port in their round-robin, the one served last placed last (R464). -/
def State.drbgRound (s : State) : List Nat := (List.range 7).map (fun i => (s.drbgLast + 1 + i) % 7)

/-- Conditioned bits go to instance `n` next (R464): nonce 9, key generation 8, Enward 7, then the others in round-robin. -/
def State.drbgTurn (s : State) (n : Nat) : Bool := ([9, 8, 7] ++ s.drbgRound).find? s.drbgWaits == some n

/-- Instance `n` has been seeded at the present edge. -/
def State.drbgSeeded (s : State) (n : Nat) (d : Drbg) : State :=
  { s.setDrbg n { d with state := .ready, reqs := 0, seedK := s.now } with drbgLast := if n < 7 then n else s.drbgLast }

/-- READY: nonce, key-generation and Enward instances are instantiated; RNGREADY when it becomes 1. -/
def State.rngReady (s : State) : State :=
  let ok := [9, 8, 7].all (fun m => !s.variant.hasDrbg m || (s.drbg m).state != .none)
  if ok && s.fld R.RNGSTAT R.RNGSTAT_READY == 0 then (s.setFld R.RNGSTAT R.RNGSTAT_READY 1).arrive 0xED else s

/-- Instance `n` has waited for its bits: RNGERR.WAIT counts PSCLK that no command tells (assumption 48, DESIGN CHOICE). -/
def State.drbgWaited (s : State) : State :=
  let r := s.free
  r.2.count R.RNGERR R.RNGERR_WAIT (r.1.toNat % 65536)

/-- DRBG_INSTANTIATE (R463, R464). -/
def State.drbgInstantiate (s : State) (n : Nat) : State :=
  if s.rngBegun && (s.drbg n).state == .none && s.bitsFlow && s.drbgTurn n then
    (s.drbgWaited.drbgSeeded n { s.drbg n with buf := [] }).rngReady
  else s

/-- DRBG_RESEED at the present edge (R463): an instance whose reseed is due reseeds when its 256 bits are there. -/
def State.drbgReseed (s : State) (n : Nat) (bits : Bool) : State :=
  let d := s.drbg n
  if s.variant.hasDrbg n && s.reseedDue n then
    if bits && s.bitsFlow && s.drbgTurn n then
      (s.drbgWaited.drbgSeeded n d).setFld (R.DRBGINST n) R.DRBGINST_RESEEDS (s.fld (R.DRBGINST n) R.DRBGINST_RESEEDS + 1)
    else s.setDrbg n { d with state := .due }
  else s

/-- Instance `n` has served `k` generate requests: a reseed is due after 4,096 (R463). -/
def State.drbgAsked (s : State) (n k : Nat) : State :=
  let d := s.drbg n
  s.setDrbg n { d with reqs := d.reqs + k, state := if 4096 ≤ d.reqs + k then .due else d.state }

/-- DRBG_REFILL (R465): one generate request of 128 bits fills the empty buffer with four words. -/
def State.drbgRefill (s : State) (n : Nat) : State :=
  let d := s.drbg n
  if s.drbgGives n && d.buf.isEmpty && s.variant.hasDrbg n then
    let r := s.freeWords 4
    let s := (r.2.setDrbg n { d with buf := r.1, waited := false }).drbgAsked n 1
    if d.waited then s.arrive 0xED else s
  else s

/-- DAWN step 3 has ended: every instance of the variant is instantiated (the DAWN table). -/
def State.rngDone (s : State) : Bool := s.variant.drbgList.all (fun n => (s.drbg n).state != .none)

/-- An internal user draws on instance `n` (R463): none when it cannot deliver. -/
def State.drbgDraw (s : State) (n words : Nat) : Option (List Word × State) :=
  if s.drbgGives n then
    let r := s.freeWords words
    some (r.1, r.2.drbgAsked n ((words + 3) / 4))
  else none

/-- The instance that serves a requester (R463): its physical core, G's lower member, or the Staff port. -/
def State.drbgOf (s : State) (id : Nat) : Nat := if id = 5 then 6 else s.variant.phys id

/-- DRBGOUT_READ (R465): a word, or 0 with DRBGST.WAIT. -/
def State.drbgRead (s : State) (id : Nat) : Word × State :=
  let n := s.drbgOf id
  let d := s.drbg n
  match d.buf, s.rawOn || d.state == .stopped || d.state == .none with
  | v :: rest, false => (v, s.setDrbg n { d with buf := rest })
  | _, _ =>
    let s := s.setDrbg n { d with waited := true }
    (0, s.wrReq id R.DRBGST (R.DRBGST_WAIT.put (s.rdReq id R.DRBGST) 1))

/-- DRBGST as a requester reads it: while the raw tap is on its instance delivers nothing and reads as waiting (R466). -/
def State.drbgStat (s : State) (id : Nat) : Word :=
  let d := s.drbg (s.drbgOf id)
  let wait := if s.rawOn then 8 else s.rdReq id R.DRBGST &&& 8
  BitVec.ofNat 32 ((if s.rawOn then 0 else min 4 d.buf.length) + 16 * (d.state == .stopped).toNat) ||| wait

/-- DRBGINST of instance `n`: an instance whose reseed has fallen due reads so (R463). -/
def State.drbgInst (s : State) (n : Nat) : Word :=
  R.DRBGINST_STATE.put (s.rd (R.DRBGINST n)) (if s.reseedDue n then 2 else (s.drbg n).state.code)

/-- RAWEN_WRITE (R466): only the Staff port in SERVICE; other writes are ignored, and so is one that names a source which the variant lacks
(R4). -/
def State.rawenWrite (s : State) (w : Who) (v : Word) : State :=
  if w.isStaff && s.mode == .service && decide (R.RNGCFG_RAWSRC.get v < s.variant.nNoise) then
    let s := s.setFld R.RNGCFG R.RNGCFG_RAWEN (R.RNGCFG_RAWEN.get v)
    let s := s.setFld R.RNGCFG R.RNGCFG_RAWSRC (R.RNGCFG_RAWSRC.get v)
    s.setFld R.RNGSTAT R.RNGSTAT_RAWON (R.RNGCFG_RAWEN.get v)
  else s

/-- A write of RNGCUT: Guard ring 0 and the Staff port, in PREPARE (else assumption 105, DESIGN CHOICE). -/
def State.rngcutWrite (s : State) (w : Who) (v : Word) : State :=
  if w.priv && s.mode == .prepare then (s.wr R.RNGCUT (v &&& wmaskAt R.RNGCUT)).logCfg w R.RNGCUT (s.rd R.RNGCUT) v
  else s

/-! ### Key commands of Guard ring 0 (R454) -/

def keyModes (m : Mode) : Bool := m == .prepare || m == .safe || m == .service

/-- The key that a requester's KEYDATA0-7 hold. -/
def State.keyData (s : State) (id : Nat) : List Nat :=
  wordBytes ((List.range 8).map (fun i => s.rdReq id (R.KEYDATA i)))

def State.clearKeyData (s : State) (id : Nat) : State :=
  (List.range 8).foldl (fun (s : State) i => s.wrReq id (R.KEYDATA i) 0) s

/-- Why key generation cannot deliver now: 5 RNGSTOP, 4 WAIT. -/
def State.keyGenCode (s : State) : Nat := if s.rngStopped then 5 else if s.drbgGives 8 then 0 else 4

/-- A slot generated from the key-generation instance (R452, R454). -/
def State.keyGen (s : State) (w : Who) (k : Nat) : State :=
  match s.drbgDraw 8 8 with
  | some (l, s) => s.keyWrite w k { state := .set, key := wordBytes l }
  | none => s

/-- The result code of a KEYCMD write (KEYRES): 1 RIGHTS, 9 MODE, 12 BADARG, 5 RNGSTOP, 4 WAIT. -/
def State.keyCmdCode (s : State) (w : Who) (v : Word) : Nat :=
  let c := R.KEYCMD_CMD.get v
  let k := R.KEYCMD_SLOT.get v
  if !w.guard0 || k < 3 then 1
  else if !keyModes s.mode then 9
  else if R.KEYCMD_KEY.get v != 0xC3A5 || 6 < k || c = 0 then 12
  else if c = 2 then s.keyGenCode
  else 0

/-- KEYCMD (R454): SET, GEN and ERASE of a customer slot. -/
def State.keyCmd (s : State) (w : Who) (v : Word) : State :=
  let code := s.keyCmdCode w v
  let k := R.KEYCMD_SLOT.get v
  let s1 :=
    if code != 0 then s
    else
      match R.KEYCMD_CMD.get v with
      | 1 => s.keyWrite w k { state := .set, key := s.keyData w.id }
      | 2 => s.keyGen w k
      | _ => s.keyWrite w k { state := .erased, key := [] }
  (s1.clearKeyData w.id).wrReq w.id R.KEYRES (BitVec.ofNat 32 code)

/-- A write of KEYUSE: Guard ring 0 in PREPARE (else assumption 105, DESIGN CHOICE). -/
def State.keyuseWrite (s : State) (w : Who) (v : Word) : State :=
  if w.guard0 && s.mode == .prepare then (s.wr R.KEYUSE (v &&& wmaskAt R.KEYUSE)).logCfg w R.KEYUSE (s.rd R.KEYUSE) v
  else s

/-! ### The crypto engine (R456) -/

def State.crypt (s : State) (id : Nat) : Crypto := s.crypto.get .reset id
def State.setCrypt (s : State) (id : Nat) (c : Crypto) : State := { s with crypto := s.crypto.put id c }

/-- KEYUSE grants customer key `k` to the requester's world: 1 the Guard world, 2 both (assumption 31, DEDUCED: the Staff port
belongs to no world and needs 2). -/
def State.keyGranted (s : State) (w : Who) (k : Nat) : Bool :=
  let u := (s.fld R.KEYUSE R.KEYUSE_USE / 4 ^ k) % 4
  u == 2 || (u == 1 && !w.isStaff && w.guard)

/-- GO with an operation, a customer key and a length: refused with CRSTAT.ERR, or queued (R456). -/
def State.cryptoGo (s : State) (w : Who) (op k len : Nat) : State :=
  let c := s.crypt w.id
  let slot := s.key (3 + k)
  let bad := slot.state != .set || !s.keyGranted w k || op = 0 || 5 < op || (3 < op && c.cmac.isNone) ||
    (op = 5 && 16 < len) || c.queued.isSome
  if bad then s.wrReq w.id R.CRSTAT (R.CRSTAT_ERR.put (s.rdReq w.id R.CRSTAT) 1)
  else
    let inp := wordBytes ((List.range 4).map (fun i => s.rdReq w.id (R.CRIN i)))
    (s.setCrypt w.id { c with queued := some (op, len, slot.key, inp) }).wrReq w.id R.CRSTAT 1

/-- A write of CRCTL. -/
def State.crctlWrite (s : State) (w : Who) (v : Word) : State :=
  let s := s.wrReq w.id R.CRCTL (v &&& 0x1F37)
  if R.CRCTL_GO.get v = 1 then s.cryptoGo w (R.CRCTL_OP.get v) (R.CRCTL_KEY.get v) (R.CRCTL_LEN.get v) else s

/-- The requester that the AES core serves next: G, C0 to C3, the Staff port, the one served last placed last. -/
def State.crNext (s : State) : Option Nat :=
  let order := (List.range 6).filter (· != s.crLast) ++ [s.crLast]
  order.find? (fun id => (s.crypt id).queued.isSome)

/-- The result block of an operation, and the CMAC chaining value after it. -/
def cryptoResult (op len : Nat) (key inp : List Nat) (c : Option (List Nat)) : Option (List Nat) × Option (List Nat) :=
  match op, c with
  | 1, _ => (some (aesEncrypt key inp), c)
  | 2, _ => (some (aesDecrypt key inp), c)
  | 3, _ => (none, some (List.replicate 16 0))
  | 4, some x => (none, some (aesEncrypt key (xorBytes x inp)))
  | 5, some x => (some (cmacLast key x (inp.take len)), none)
  | _, _ => (none, c)

/-- CRYPTO_DONE (R456). -/
def State.cryptoDone (s : State) : State :=
  match s.crNext with
  | none => s
  | some id =>
    let c := s.crypt id
    match c.queued with
    | none => s
    | some (op, len, key, inp) =>
      let r := cryptoResult op len key inp c.cmac
      let s := { s with crLast := id }.setCrypt id { queued := none, cmac := r.2 }
      let s :=
        match r.1 with
        | some out => (List.range 4).foldl (fun (s : State) i =>
            s.wrReq id (R.CROUT i) (BitVec.ofNat 32 (numLow ((out.drop (4 * i)).take 4)))) s
        | none => s
      s.wrReq id R.CRSTAT 2

/-! ### What SERVICE erases (R457, R458) -/

/-- Steps 4 to 6 of R457: slots 1 to 6, the DRBG states, the sealed regions. -/
def State.serviceErase (s : State) : State :=
  let s := [1, 2, 3, 4, 5, 6].foldl (fun (s : State) k => s.setKey k { state := .erased, key := [] }) s
  let s := s.variant.drbgList.foldl (fun (s : State) n =>
    s.setDrbg n (if (s.drbg n).state == .stopped then { Drbg.reset with state := .stopped } else .reset)) s
  (s.setFld R.RNGSTAT R.RNGSTAT_READY 0).eraseSealed

/-- One more programmed bit of the service-opened counter, unless it is full (R451). -/
def Otp.counted (o : Otp) : Otp := { o with count := min 64 (o.count + 1) }

/-- The seal key of DAWN step 6: generated when a sealed region is enabled and slot 2 is not SET (R445). -/
def State.sealKeyGen (s : State) : State :=
  let on := (List.range 4).any (fun r => s.fld (R.SEALCFG r) R.SEALCFG_EN = 1)
  let s :=
    if on && (s.key 2).state != .set && !s.rngStopped then s.keyGen { id := 7, guard := false, ring := 0 } 2 else s
  s.setFld R.SEALSTAT R.SEALSTAT_NOKEY ((s.key 2).state != .set).toNat

end Sys2Proof.Machine
end

