-- ==== Sys2Proof/Machine/Summary.lean ====
section
/-! DEFINITION. The fault summary (R502). -/

namespace Sys2Proof.Machine

/-- Whether bit `i` of FLTSUM holds (R502). -/
def State.fltBit (s : State) (i : Nat) : Bool :=
  match i with
  | 0 => s.fld R.TTFAULT R.TTFAULT_SEEN == 1 && s.fld R.TTFAULT R.TTFAULT_KIND == 1
  | 1 => s.fld R.TTFAULT R.TTFAULT_SEEN == 1 && s.fld R.TTFAULT R.TTFAULT_KIND == 2
  | 2 => s.fld R.PAIRSTAT R.PAIRSTAT_DIV == 1
  | 3 => s.fld R.CORERST R.CORERST_PHYS != 0
  | 4 => (upFrom 0 5).any (fun l => s.fld (R.WDSTAT l) R.WDSTAT_EXP == 1 || s.fld (R.WDSTAT l) R.WDSTAT_BADKICK == 1)
  | 5 => s.fld R.MEMUEWHO R.MEMUEWHO_SEEN == 1
  | 6 => s.rngStopped
  | 7 => s.rd R.HMALARM != 0
  | 8 => s.fld R.PINBANK R.PINBANK_BANKERR != 0
  | 9 => s.att.state == .fault
  | 10 => (upFrom 0 s.variant.nLocal).any (fun c => (s.chan c).state == .fault)
  | _ => false

/-- FLTSUM (R502). -/
def State.fltsum (s : State) : Nat := (upFrom 0 11).foldl (fun n i => n + 2 ^ i * (s.fltBit i).toNat) 0

end Sys2Proof.Machine
end

