-- ==== Sys2Proof/Machine/Passing.lean ====
section
/-! DEFINITION. The cycle of the Enward Ring as it passes this device: the checks of its sections (R375), what the device repeats and what
it replaces (R350, R355), its status byte (R356), its publication records (R359) and the messages that it inserts (R364). -/

namespace Sys2Proof.Machine

/-- Cyclic traffic runs through this device as a participant: UP or WRAPPED. -/
def State.enJoined (s : State) : Bool := s.en.state == .up || s.en.state == .wrapped

/-! ### Checks (R375) -/

/-- The low `n` bytes of `v` as characters, the lowest first. -/
def enBytes (n v : Nat) : List Byte := (bytesLow n v).map (BitVec.ofNat 8)

/-- What the CMAC of section `i` of cycle `cyc` covers: cycle number, ring nonce, section number, characters, and the slot number of a
message. Sections are numbered 0 header, 1 status, 2 to 17 record slots, 18 to 22 message slots. -/
def enMacInput (nonce : List Byte) (cyc i : Nat) (chars : List Byte) : List Byte :=
  enBytes 8 cyc ++ nonce ++ [Config.sectionNo (min i 18)] ++ chars ++ (if 18 ≤ i then enBytes 1 (i - 18) else [])

/-- The bytes of the key slot that the checks of the ring use. -/
def State.ringKey (s : State) (k : Nat) : List Nat := (s.key (3 + k)).key

/-- The check field of section `i` of cycle `cyc` (R375): CRC-32, or with ring security the most significant 32 bits of the CMAC under the
ring key. -/
def State.enCheck (s : State) (cyc i : Nat) (chars : List Byte) : BitVec 32 :=
  match s.en.ringKey with
  | none => BitVec.ofNat 32 (crc32 (chars.map BitVec.toNat))
  | some k =>
    BitVec.ofNat 32 (numHigh ((cmac (s.ringKey k) ((enMacInput s.en.nonce cyc i chars).map BitVec.toNat)).take 4))

/-- A section of the present cycle with its check computed afresh. -/
def State.enSeal (s : State) (i : Nat) (chars : List Byte) : EnSection := { chars := chars, check := s.enCheck s.en.cyc i chars }

/-- The check of an incoming section holds. What returns to the master belongs to the cycle before. -/
def State.enGood (s : State) (i : Nat) (x : EnSection) : Bool :=
  x.check == s.enCheck (s.en.cyc - s.en.master.toNat) i x.chars

/-- A section sent on as it came, with its check inverted when it had failed (R350, R355). -/
def relaySection (x : EnSection) (good : Bool) : EnSection := if good then x else { x with check := ~~~x.check }

/-- The counter of failed sections (ENERR). -/
def enErrField (i : Nat) : F :=
  if i = 0 then R.ENERR_HDR else if i = 1 then R.ENERR_STA else if i < 18 then R.ENERR_REC else R.ENERR_MSG

/-! ### What the device writes -/

/-- The header that the master sends (R354). -/
def State.enHeader (s : State) (roll : Bool) (brk : Option Nat) (heal : Bool) : List Byte :=
  [if roll then 1 else 2, Config.ringFlags brk] ++ enBytes 4 s.en.cyc ++ enBytes 1 s.en.addr ++ [Config.healMark heal]

/-- The device's status byte (R356). -/
def State.enStatus (s : State) : Byte :=
  BitVec.ofNat 8 (s.mode.code + 8 * (s.fltsum != 0).toNat + 16 * (!s.estopN).toNat + 32 * (s.en.state == .repeats).toNat +
    64 * s.en.ringKey.isSome.toNat + 128 * s.en.toggle.toNat)

/-- The status bytes of the section, those of the last cycle where it failed, are noted: how long each toggle has stood (R356). -/
def State.enNoteLife (s : State) (chars : List Byte) : State :=
  let one (a : Nat) : Byte × Nat :=
    let old := s.en.life.getD a (0, 0)
    let b := chars.getD a old.1
    (b, if b.getLsbD 7 == old.1.getLsbD 7 then old.2 + 1 else 0)
  { s with en := { s.en with life := (upFrom 0 32).map one } }

/-- Address `a` belongs to a device of the ring. -/
def State.enKnown (s : State) (a : Nat) : Bool := a == 0 || (decide (a < 32) && s.fld (R.ENHOP a) R.ENHOP_D != 0)

/-- The device at address `a` is silent: its toggle has not changed for 2 cycles (R356). -/
def State.enIsSilent (s : State) (a : Nat) : Bool :=
  a != s.en.addr && s.enKnown a && decide (2 ≤ (s.en.life.getD a (0, 0)).2)

/-- ENSTAT.SILENT. -/
def State.enSilent (s : State) : Nat := if s.enJoined then ((upFrom 0 32).filter s.enIsSilent).length else 0

/-- The status bytes with which the master starts a cycle: those that came back, with bit 5 set for a device that writes none (R356,
R379; assumption 94, DEDUCED). -/
def State.enMasterStatus (s : State) : List Byte :=
  (upFrom 0 32).map (fun a =>
    let b := (s.en.life.getD a (0, 0)).1
    if s.enIsSilent a then b ||| 0x20 else b)

/-- The status section after this device (R355, R356). -/
def State.enStatusPass (s : State) (first good : Bool) (x : EnSection) : State × EnSection :=
  let s := if good && first then s.enNoteLife x.chars else s
  if s.en.master then (s, s.enSeal 1 (s.enMasterStatus.set s.en.addr s.enStatus))
  else (s, if good then s.enSeal 1 (x.chars.set s.en.addr s.enStatus) else relaySection x false)

/-- The characters of a record before its check (R359). -/
def recordChars (r : PubRecord) : List Byte :=
  enBytes 6 r.word.toNat ++ enBytes 4 r.vel.toNat ++
    enBytes 2 (r.instant.toNat + 1024 * r.ref.toNat + 2048 * r.valid.toNat + 4096 * r.still.toNat + 8192 * r.discgen.toNat)

/-- The record of timebase `t` for record slot `n`, sampled at the present edge (R359); a timebase with a modulus is unwrapped. -/
def State.enRecord (s : State) (n t : Nat) : PubRecord :=
  let x := s.tb t
  let r : PubRecord :=
    { word := BitVec.ofInt 48 (x.word + x.rev * (s.modulus t : Int) * 256), vel := BitVec.ofInt 32 x.vel
      instant := BitVec.ofNat 10 (2 * (52 + 16 * n) - 24 + s.fld (R.ENHOP s.en.addr) R.ENHOP_D / 4), ref := x.ref
      valid := x.state == .run, still := x.still, discgen := BitVec.ofNat 3 x.discgen, check := 0 }
  { r with check := s.enCheck s.en.cyc (2 + n) (recordChars r) }

/-- The timebase that this device publishes in record slot `n`. -/
def State.enOwn (s : State) (n : Nat) : Option Nat := (s.en.pubs.find? (fun p => p.1 == n)).map (·.2)

/-- Record slot `n` after this device: its own record, at the master else an empty one, or what came. -/
def State.enRecordPass (s : State) (n : Nat) (good : Bool) (x : EnSection) : EnSection :=
  match s.enOwn n with
  | some t =>
    let r := s.enRecord n t
    { chars := recordChars r, check := r.check }
  | none => if s.en.master then s.enSeal (2 + n) (enBytes 12 0) else relaySection x good

/-! ### Messages (R363, R364) -/

/-- The characters of a message of this device before the check (R363). -/
def State.enMsgChars (s : State) (m : EnMsg) : List Byte :=
  enBytes 1 (m.typ % 16 + 16 * (m.cls % 4) + 64 * m.bcast.toNat) ++ enBytes 1 s.en.addr ++ enBytes 1 m.dest ++ enBytes 1 m.seq ++
    enBytes 1 m.tag ++ enBytes 7 m.body

/-- The queue in the order in which messages are taken from it: by class, and within a class as they entered (R364). -/
def enOrder (q : List EnMsg) : List EnMsg :=
  q.filter (·.cls == 0) ++ q.filter (·.cls == 1) ++ q.filter (fun m => m.cls != 0 && m.cls != 1)

def State.enRing (s : State) (b : Bool) : EnRing := if b then s.en.ringB else s.en.ringA
def State.setEnRing (s : State) (b : Bool) (r : EnRing) : State :=
  if b then { s with en := { s.en with ringB := r } } else { s with en := { s.en with ringA := r } }

/-- The message goes on ring A or ring B; on a device that turns the traffic back, one insertion serves both directions (R377). -/
def State.enMark (s : State) (b : Bool) (m : EnMsg) : EnMsg :=
  if s.en.turned.isEmpty then (if b then { m with onB := true } else { m with onA := true }) else { m with onA := true, onB := true }

/-- The next message for an EMPTY slot of a ring: at most 2 of the forecast and data classes in a cycle (R364). A device in ROLL inserts its
ROLL request alone (R353), and a repeater nothing (R352). -/
def State.enNext (s : State) (b : Bool) : Option EnMsg :=
  let fits (m : EnMsg) : Bool :=
    !(if b then m.onB else m.onA) && (m.cls == 0 || decide ((s.enRing b).low < 2)) && (s.enJoined || (s.en.state == .roll && m.typ == 7))
  (enOrder s.enq).find? fits

/-- A class that had refused a message and has room again raises ENTXROOM (R381). -/
def State.enRoom (s : State) : State :=
  let freed := s.en.refused.filter (fun c => decide ((s.enq.filter (·.cls == c)).length < enLimit c))
  if freed.isEmpty then s
  else { s with en := { s.en with refused := s.en.refused.filter (fun c => !freed.contains c) } }.arrive 0xC6

/-- Message `m` is inserted on a ring, and leaves its queue once it has been inserted on both (R364). -/
def State.enTake (s : State) (b : Bool) (m : EnMsg) : State :=
  let q := s.enq.map (fun x => if x == m then s.enMark b m else x)
  let r := s.enRing b
  let r := if m.cls = 0 then r else { r with low := r.low + 1 }
  ({ s with enq := q.filter (fun x => !(x.onA && x.onB)) }.setEnRing b r).enRoom

/-- An EMPTY message slot (R363). -/
def emptySlot (chars : List Byte) : Bool := (chars.headD 0).toNat % 16 == 0

/-- What the master makes of a message that returns: with PASS = 1 it is stripped, otherwise it goes round again with PASS = 1 (R364). -/
def enAgain (chars : List Byte) : List Byte :=
  match chars with
  | c :: rest => if c.getLsbD 7 then enBytes 12 0 else (c ||| 0x80) :: rest
  | [] => enBytes 12 0

/-- Message slot `i` (18 to 22) after this device (R364). -/
def State.enMsgPass (s : State) (b : Bool) (i : Nat) (good : Bool) (x : EnSection) : State × EnSection :=
  let chars := if s.en.master then (if good && !emptySlot x.chars then enAgain x.chars else enBytes 12 0) else x.chars
  match (if (good || s.en.master) && emptySlot chars then s.enNext b else none) with
  | some m => (s.enTake b m, s.enSeal i (s.enMsgChars m))
  | none => (s, if s.en.master then s.enSeal i chars else relaySection x good)

/-! ### The sections as they pass -/

/-- The edge, counted from the cycle start, at which the device acts on section `i` (R354, R356, R359): as its first character passes, its own
status byte, or 24 PSCLK before its own record. -/
def State.enOffset (s : State) (i : Nat) : Nat :=
  if i = 0 then 8
  else if i = 1 then 2 * (16 + s.en.addr)
  else if i < 18 then 2 * (52 + 16 * (i - 2)) - (if (s.enOwn (i - 2)).isSome then 24 else 0)
  else 2 * (308 + 16 * (i - 18))

/-- Section `i` passes on a ring (R350, R355): what a participant changes it changes, and everything else it repeats. -/
def State.enSection (s : State) (b : Bool) (e : Nat × EnSection) : State :=
  let i := e.1
  let good := s.enGood i e.2
  let s := if good then s else s.count R.ENERR (enErrField i) 1
  let first := !b || s.en.ringA.sent.isEmpty
  let out : State × EnSection :=
    if !s.enJoined then (if 18 ≤ i then s.enMsgPass b i good e.2 else (s, relaySection e.2 good))
    else if i = 1 then s.enStatusPass first good e.2
    else if i < 18 then (s, s.enRecordPass (i - 2) good e.2)
    else s.enMsgPass b i good e.2
  let r := out.1.enRing b
  out.1.setEnRing b { r with sent := r.sent ++ [(i, out.2)] }

/-- The sections of a ring that have passed by edge `k`. -/
def State.enPassRing (s : State) (k : Nat) (b : Bool) : State :=
  let r := s.enRing b
  let due (e : Nat × EnSection) : Bool := decide (r.start + s.enOffset e.1 ≤ k)
  (r.comes.filter due).foldl (fun s e => s.enSection b e) (s.setEnRing b { r with comes := r.comes.filter (fun e => !due e) })

/-- The sections of both rings that have passed by edge `k`. -/
def State.enPass (s : State) (k : Nat) : State :=
  if s.en.ringA.comes.isEmpty && s.en.ringB.comes.isEmpty then s else (s.enPassRing k false).enPassRing k true

/-- Nothing of the cycle has yet to pass. -/
def Enward.passed (x : Enward) : Bool := x.ringA.comes.isEmpty && x.ringB.comes.isEmpty

/-- What leaves port `p` in the last cycle (R350, R377): ring A at port 1 and ring B at port 0, and where a port is broken its traffic turned
back onto the other ring; nothing when the links are off. -/
def State.enTx (s : State) (p : Nat) : List (Nat × EnSection) :=
  let own := s.enRing (p == 0)
  let other := s.enRing (p != 0)
  if s.en.state == .down && !s.en.farewell || s.en.turned.contains p then []
  else if s.en.turned.contains (1 - p) then other.sent
  else own.sent

/-- The cycle strobe of CLKOBS (R24, R357): the edge at which the last cycle started here. -/
def State.enStrobe (s : State) : Bool := s.enJoined && s.now == s.en.ringA.start

/-! ### Warnings (R503) -/

/-- FLTWARN (R503). -/
def State.fltwarn (s : State) : Nat :=
  (s.fld R.RNGSTAT R.RNGSTAT_REDUCED) +
    2 * ((upFrom 0 8).any (fun n => s.fld (R.MRLOPEN n) R.MRLOPEN_VALID == 1 && s.fld (R.MRLOPEN n) R.MRLOPEN_DAWNF == 1)).toNat +
    4 * (s.en.state == .wrapped || s.en.state == .lost || s.enSilent != 0).toNat +
    8 * (1 - s.fld R.CLKSTAT R.CLKSTAT_HMXTAL)

end Sys2Proof.Machine
end

