-- ==== Sys2Proof/Machine/Timetable.lean ====
section
/-! DEFINITION. The Timetable: firing a slot (R131, R132, R137-R144), arming (R125-R128), DISARM (R129), the twin copies and
their faults (R146-R149, R547), with the commands of that chapter. -/

namespace Sys2Proof.Machine

/-! ### Firing -/

/-- The taps by which the crossing lies before the word instant (R143), for |DIFF| u and |VEL| v. -/
def placeTaps (u v : Nat) : Nat :=
  if v = 0 then 2
  else
    let x := u * 2 ^ 24
    let y := min ((u + 1) * 2 ^ 24) v
    min 4 ((4 * (x + y) + v) / (2 * v))

/-- ARG[6] of an edge action makes a fire raw (R144). -/
def Period.rawArg (p : Period) : Bool := decide (p.act ≤ 5) && p.arg / 64 % 2 == 1

/-! ### Live fields and compare faults (R146, R147) -/

/-- The action's own live fields (R137), as masks of ARG and of TAG. -/
def liveArg : Nat → Nat × Nat
  | 1 | 2 | 3 => (0x7F, 0)
  | 4 | 5 => (0x4F, 0)
  | 7 => (0xF, 0)
  | 8 => (0xFF0F, 0xFF)
  | 9 => (0xFFFF007F, 0xFF)
  | 10 => (0x3F07, 0)
  | 11 => (0xFFFFFFFF, 0xFF)
  | 12 => (0x1F, 0)
  | _ => (0, 0)

/-- The fields in which two copies differ, as TTFAULT.FIELD codes, each with whether the difference is live (R146). -/
def Slot.diffs (x : Slot) : List (Nat × Bool) :=
  let a := x.a
  let b := x.b
  let st := a.state
  let act := st == 1 || st == 2
  let all := act || st == 3
  let p := a.per
  let q := b.per
  let m := liveArg p.act
  let pair (f : Nat) (ne live : Bool) : List (Nat × Bool) := if ne then [(f, live)] else []
  pair 0 (a.state != b.state) true ++ pair 1 (p.pos != q.pos) act ++ pair 2 (p.tb != q.tb) act ++
    pair 3 (p.dirq != q.dirq) act ++ pair 4 (p.latepol != q.latepol) all ++ pair 5 (p.act != q.act) all ++
    pair 6 (p.uref != q.uref) act ++ pair 7 (p.fcast != q.fcast) act ++ pair 8 (p.hyst != q.hyst) act ++
    pair 9 (p.tag != q.tag) (all && p.tag &&& m.2 != q.tag &&& m.2) ++
    pair 10 (p.arg != q.arg) (all && p.arg &&& m.1 != q.arg &&& m.1) ++
    pair 11 (a.primed != b.primed || a.edir != b.edir || a.dp != b.dp) (st == 2) ++
    pair 12 (a.xinv != b.xinv) (st == 2) ++ pair 13 (a.cap != b.cap) (st == 3) ++
    pair 15 (p.behind != q.behind || p.stg != q.stg) false

/-- TTFAULT holds the first fault since SEEN was cleared. -/
def State.ttFault (s : State) (kind place gen field : Nat) : State :=
  if s.fld R.TTFAULT R.TTFAULT_SEEN = 1 then s
  else s.wr R.TTFAULT (BitVec.ofNat 32 (kind + 256 * place + 16384 * gen + 65536 * field + 2 ^ 31))

/-- The reaction of both faults (R147 points 4 and 5). -/
def State.ttFaultReact (s : State) : State := (s.nmi 0 R.NMIPEND_TTFAULT).demandSafe .fault

/-- Every output that slot `i` owns goes to its safe state (R136, R147). -/
def State.ownedSafe (s : State) (i : Nat) : State :=
  let x := s.slot i
  let act := x.a.state != 0
  let s := (upFrom 0 64).foldl (fun s l =>
    if (act && x.a.per.owns 1 l) || (s.line l).fd.heldBy i then s.lineSafe l else s) s
  (upFrom 0 16).foldl (fun s g =>
    if (act && x.a.per.owns 2 g) || (s.gen g).fd.heldBy i then s.genSafe g false else s) s

/-- COMPARE_FAULT in slot `i` (R147): nothing when no live field differs. -/
def State.compareFault (s : State) (i : Nat) : State :=
  match (s.slot i).diffs.find? (·.2) with
  | none => s
  | some f => (((s.ownedSafe i).endSlot i 15).ttFault 1 i 0 f.1).ttFaultReact

/-! ### Placing and actions -/

/-- How a fire is placed: raw, its crossing instant T, and the edge and tap of an output edge. -/
structure Placing where
  raw  : Bool
  time : Nat
  edge : Nat
  tap  : Nat
deriving DecidableEq, Repr

/-- The placing of a fire of `p` detected, or handled late, at the present edge k on the word `word` (R143, R144). -/
def State.placing (s : State) (p : Period) (word : Int) (late : Bool) : Placing :=
  let k := s.now
  let t := s.tb p.tb
  let raw := late || p.rawArg || t.pfresh
  if raw then { raw := true, time := s.wallAt (if late then k else k - 1), edge := k + 1, tap := 0 }
  else
    let v := if p.tb = 29 then 2 ^ 32 else t.pvel.natAbs
    let q := placeTaps (diffSpan (s.span p.tb) word p.posInt).natAbs v
    let at4 := 4 * (k + 3) - q
    { raw := false, time := wrapN 72 ((s.wallAt (k - 1) : Int) - 64 * q), edge := at4 / 4, tap := at4 % 4 }

/-- The crossing instant in the layout of TTWHENL. -/
def whenLow (t : Nat) : Nat := t % 2 ^ 32

/-- What the action of slot `i` brings to a unit after the detecting edge (R137); none for an action that takes effect at once. -/
def Period.errand (p : Period) (i : Nat) (word : Int) (pl : Placing) (late : Bool) : Option Errand :=
  match p.act with
  | 7 => some (.irq (0x60 + p.arg % 16))
  | 8 => some (.bell (p.arg % 8)
      { slot := i, tagw := p.tag + 256 * i + 8192 * late.toNat + 16384 * pl.raw.toNat, entry := p.arg / 256 % 256
        guard := p.arg / 8 % 2 == 1, word := wrapN 48 word, time := whenLow pl.time })
  | 9 => some (.enward
      { typ := 4, cls := if p.arg / 64 % 2 = 1 then 0 else 2, bcast := p.arg / 32 % 2 == 1, dest := p.arg % 32
        tag := p.tag, body := p.arg / 65536 + 65536 * (pl.time / 256 % 2 ^ 40) })
  | 10 => some (.recit (p.arg % 8) (p.arg / 256 % 64))
  | _ => none

/-- ARMNEXT at slot `j` by a slot that fires at the present edge k (R127, R137): the target is armed at k + 1 when checks 6 and 7 pass,
on the word presented there; a target behind is handled as reached late at k + 2. -/
def State.armNext (s : State) (j : Nat) : State × Nat :=
  let x := s.slot j
  if x.a.state != 1 then (s, 13)
  else if s.tbBars x.a.per.tb then (s.endSlot j 8, 13)
  else if s.refBars x.a.per then (s.endSlot j 9, 13)
  else (s.chainArm j (s.tb x.a.per.tb).word (s.now + 1) true, 0)

/-- The action of slot `i`, firing at the present edge, on a unit that takes it at once (R137-R139), with its failure status or 0. -/
def State.act (s : State) (i : Nat) (p : Period) (pl : Placing) : State × Nat :=
  let orFail (r : Option State) (st : Nat) : State × Nat :=
    match r with
    | some s => (s, 0)
    | none => (s, st)
  match p.act with
  | 1 | 2 | 3 => orFail (s.placeEdge (p.arg % 64) p.act pl.edge pl.tap i) 14
  | 4 =>
    if (s.gen (p.arg % 16)).state != .stopped then (s, 14)
    else orFail (s.genStart (p.arg % 16) pl.edge pl.tap i) 14
  | 5 => (s.genStop (p.arg % 16) (4 * pl.edge + pl.tap), 0)
  | 6 =>
    match s.capture s.now (2 ^ i) 0 with
    | some s => (s, 0)
    | none => (s.captureLost s.now, 11)
  | 11 =>
    if s.fld R.TTMEMBASE R.TTMEMBASE_EN = 0 then (s, 22)
    else if 8 ≤ s.memq.length then (s, 14)
    else
      let w : MemWrite := { addr := 1024 * s.fld R.TTMEMBASE R.TTMEMBASE_BASE + 4 * p.tag, val := p.arg }
      ({ s with memq := s.memq ++ [w] }, 0)
  | 12 => s.armNext (p.arg % 32)
  | _ => (s, 0)

/-- Slot `i` crosses at the present edge, or is handled late there (R31-R34, R131, R132): gated in HOLD, record-only for an output action
in PREPARE, skipped or fired. -/
def State.fire (s : State) (i : Nat) (late : Bool) : State :=
  let x := s.slot i
  let p := x.a.per
  let word := (s.tb p.tb).prev
  let pl := s.placing p word late
  let y := { x.both (fun c => { c with cap := word }) with
    whenT := pl.time, latef := late, rawpl := pl.raw, evalK := s.now, late := false }
  let rec0 := { y with rawpl := x.rawpl }
  if s.mode == .hold then
    s.setSlot i { rec0.both (fun c => { c with state := 3 }) with status := 5 }
  else if late && p.latepol == 1 then
    ((s.setSlot i rec0).count R.TTLATECNT R.TTLATECNT_SKIP 1).endSlot i 4
  else if s.mode == .prepare && decide (p.act ≤ 5) then (s.setSlot i rec0).endSlot i 5
  else
    let s := s.setSlot i y
    let s := if late then s.count R.TTLATECNT R.TTLATECNT_LATE 1 else s
    let fired := if late then 3 else 2
    match p.errand i word pl late with
    | some e => s.sendErrand i s.now fired e
    | none =>
      let r := s.act i p pl
      r.1.endSlot i (if r.2 != 0 then r.2 else fired)

/-- An ARMED slot that does not cross (R130, R133): it is evaluated, and an outstanding forecast that it can no longer keep is
retracted (R369). -/
def State.passSlot (s : State) (i : Nat) : State :=
  let x := s.slot i
  let t := s.tb x.a.per.tb
  let y := x.leave (s.span x.a.per.tb) t.prev t.pdisc s.now
  let s := s.setSlot i y
  if !y.a.primed then s.fcRetract i y.a.per.tag 1
  else if t.pvel = 0 then s.fcRetract i y.a.per.tag 2
  else if decide (t.pvel < 0) != y.a.down then s.fcRetract i y.a.per.tag 1
  else s

/-- The crossing test of an ARMED slot succeeds at the present edge, where its timebase signals no discontinuity (R130, R133). -/
def State.crossesNow (s : State) (i : Nat) : Bool :=
  let x := s.slot i
  let t := s.tb x.a.per.tb
  !t.pdisc && x.a.crosses (s.span x.a.per.tb) t.prev

/-- Slot `i` at the present edge, once for the edge (R130-R134, R147): a live difference of its copies is a fault and no crossing; a period
reached late is handled; a crossing fires. -/
def State.evalSlot (s : State) (i : Nat) : State :=
  let x := s.slot i
  if x.a.state != 2 || decide (s.now ≤ x.evalK) then s
  else if x.diffs.any (·.2) then s.compareFault i
  else if x.late then s.fire i true
  else if s.crossesNow i then s.fire i false
  else s.passSlot i

/-- The slots below `n` at the present edge, in slot-number order (R139). -/
def State.evalBelow (s : State) (n : Nat) : State := (upFrom 0 n).foldl State.evalSlot s

/-- CROSSING of slot `i` at detecting edge `k` (R130, R139): the slots below it are evaluated first; an edge that has passed detects nothing
more. -/
def State.detect (s : State) (i k : Nat) : State :=
  if s.now = k then (s.evalBelow i).evalSlot i else s

/-- The HELD slots when HOLD ends in RUN: each is handled as reached late (R34). -/
def State.resolveHeld (s : State) : State :=
  (upFrom 0 32).foldl (fun s i => if (s.slot i).a.state = 3 then s.fire i true else s) s

/-! ### Settling (R548) -/

/-- An errand reaches its unit at edge `k`, with its failure status or 0 (R137, R138). -/
def State.errand (s : State) (e : Errand) (k : Nat) : State × Nat :=
  match e with
  | .irq n => (s.arrive n, 0)
  | .bell l r =>
    match s.bellPush l r with
    | some s => (s, 0)
    | none => (s.bellLost l 1, 10)
  | .enward m =>
    match s.enPush m with
    | some s => (s, 0)
    | none => (s.enRefused m.cls, 12)
  | .recit c w =>
    match s.rcStart c w k with
    | some s => (s, 0)
    | none => (s, 14)

/-- An action takes effect, and the status of its slot is settled (R548): a failure replaces FIRED or LATE, the forecast unit follows, and so
does the queue whose record it was. -/
def State.settleAct (s : State) (a : Act) : State :=
  let r := s.errand a.op a.due
  let x := r.1.slot a.slot
  let st := if r.2 = 0 then x.status else r.2
  let s := (r.1.setSlot a.slot { x with status := st }).fcEnd a.slot x.a.per.tag st x.whenT
  match a.queue with
  | some (q, idx) => s.settleReport q idx st x.latef
  | none => s

/-- The actions that are due by the present edge, in their order. -/
def State.settleDue (s : State) : State :=
  (s.acts.filter (fun a => decide (a.due ≤ s.now))).foldl State.settleAct
    { s with acts := s.acts.filter (fun a => !decide (a.due ≤ s.now)) }

/-! ### Arming -/

/-- The result word of R128. -/
def resWord (slot code outcome : Nat) : Word :=
  BitVec.ofNat 32 (if code = 0 then slot + 4096 * outcome else 256 * code + 2 ^ 31)

/-- The refusal counter of a requester (R169). -/
def State.countRefuse (s : State) (id : Nat) : State :=
  match id with
  | 0 => s.count (R.TTREFUSE 0) R.TTREFUSE_B0 1
  | 1 => s.count (R.TTREFUSE 0) R.TTREFUSE_B1 1
  | 2 => s.count (R.TTREFUSE 0) R.TTREFUSE_B2 1
  | 3 => s.count (R.TTREFUSE 0) R.TTREFUSE_B3 1
  | 4 => s.count (R.TTREFUSE 1) R.TTREFUSE_B0 1
  | _ => s.count (R.TTREFUSE 1) R.TTREFUSE_B1 1

/-- A period goes into slot `i` at the edge after the present one, on the word presented there; one that is behind and reached late is
handled at the edge after that (R130, R132, R136). -/
def State.armAt (s : State) (i req : Nat) (guard : Bool) (p : Period) (lateIfBehind : Bool) (fc : Option Nat) : State :=
  s.armSlot i req guard p (s.tb p.tb).word (s.now + 1) lateIfBehind fc

/-- OUTCOME of R128 for a period accepted into slot `i`. -/
def State.outcome (s : State) (p : Period) : Nat :=
  let c := ({ SlotCopy.reset with per := p } : SlotCopy).prime (s.span p.tb) (s.tb p.tb).word
  if p.stg = 1 || c.primed then 0
  else if p.behind = 0 then 1
  else if p.latepol = 1 && s.mode != .hold then 3
  else 2

/-- An ARM or TTNEW request: the result word and the state after (R125, R126, R128). -/
def State.armRequest (s : State) (w : Who) (p : Period) : Word × State :=
  match s.armCode w p, s.poolSlot w with
  | 0, some i => (resWord i 0 (s.outcome p), s.armAt i w.id w.guard p (p.behind == 1) none)
  | code, _ => (resWord 0 code 0, s.countRefuse w.id)

/-- The requester's TTRES. -/
def State.setTtres (s : State) (w : Who) (v : Word) : State := s.wrReq w.id R.TTRES v

/-- A write of TTNEWGO. -/
def State.ttNewGo (s : State) (w : Who) (go : Bool) : State :=
  if go then
    let n (i : Nat) := (s.rdReq w.id (R.TTNEW i)).toNat
    let r := s.armRequest w (.ofWords (n 0) (n 1) (n 2) (n 3))
    r.2.setTtres w r.1
  else s

/-- Slot `i` detects its crossing at the present edge or at the next, on the words of the present state. -/
def State.firesNext (s : State) (i : Nat) : Bool :=
  let x := s.slot i
  let t := s.tb x.a.per.tb
  let sp := s.span x.a.per.tb
  let now := decide (x.evalK < s.now)
  let y := if now then x.leave sp t.prev t.pdisc s.now else x
  x.a.state == 2 && !x.late &&
    ((now && s.crossesNow i) || (decide (y.evalK ≤ s.now) && !t.disc && y.a.crosses sp t.word))

/-- The code of a DISARM, 0 when it is made (R129). One that would take effect at the detecting edge of its slot loses (R135). -/
def State.disarmCode (s : State) (w : Who) (i : Nat) : Nat :=
  let x := s.slot i
  if !w.ring01 then resRIGHTS
  else if x.a.state = 0 then resNOTARMED
  else if !(w.priv || (x.req == w.id && x.guard == w.guard)) then resRIGHTS
  else if s.firesNext i then resNOTARMED
  else 0

/-- A write of TTCMD: CMD 1 is DISARM (R129). -/
def State.ttCmd (s : State) (w : Who) (cmd i : Nat) : State :=
  if cmd = 1 then
    let code := s.disarmCode w i
    let s' := if code = 0 then s.endSlot i 6 else s
    s'.setTtres w (if code = 0 then resWord i 0 0 else resWord 0 code 0)
  else s

/-- A write of TTMEMBASE (R141). -/
def State.ttMembase (s : State) (w : Who) (v : Word) : State :=
  let base := 1024 * R.TTMEMBASE_BASE.get v
  if !w.priv then s.setTtres w (resWord 0 resRIGHTS 0)
  else if inSram base then s.wr R.TTMEMBASE (v &&& wmaskAt R.TTMEMBASE)
  else s.setTtres w (resWord 0 resBADREC 0)

/-- A write of TTRESV or of a TTQUOTA (R168). -/
def State.ttResv (s : State) (w : Who) (a : Nat) (v : Word) : State :=
  if w.priv then s.wr a (v &&& wmaskAt a) else s.setTtres w (resWord 0 resRIGHTS 0)

/-! ### Twin copies (R148, R149, R547) -/

/-- A divergence that is not live is counted once for the slot (R148). -/
def State.latent (s : State) (i : Nat) : State :=
  let x := s.slot i
  if !x.marked && x.diffs.any (fun f => !f.2) then
    ((s.count R.TTLATENT R.TTLATENT_COUNT 1).setFld R.TTLATENT R.TTLATENT_SLOT i).setSlot i { x with marked := true }
  else s

/-- Two entries differ in L, T or W. -/
def FdEntry.differs (a b : FdEntry) : Bool := a.lvl != b.lvl || a.tap != b.tap || a.edge != b.edge

/-- A compared bit of a fine-delay register differs (R547). -/
def Fd.mismatch (x : Fd) : Bool :=
  x.a.lvl != x.b.lvl || x.a.e0.v != x.b.e0.v || x.a.e1.v != x.b.e1.v ||
    ((x.a.e0.v || x.b.e0.v) && x.a.e0.differs x.b.e0) || ((x.a.e1.v || x.b.e1.v) && x.a.e1.differs x.b.e1)

/-- FDFLT is recorded in every slot that owns event line `l` (kind 1) or generator `l` (kind 2). -/
def State.recordFdflt (s : State) (kind l : Nat) (fd : Fd) : State :=
  (upFrom 0 32).foldl (fun s i =>
    let x := s.slot i
    if (x.a.state != 0 && x.a.per.owns kind l) || fd.heldBy i then s.setSlot i { x with status := 16 } else s) s

/-- A fine-delay fault of event line `l`, or of generator `l` (R147, R547): nothing when the copies agree. -/
def State.fineDelayFault (s : State) (gen : Bool) (l : Nat) : State :=
  let fd := if gen then (s.gen l).fd else (s.line l).fd
  if !fd.mismatch then s
  else
    let s := s.recordFdflt (if gen then 2 else 1) l fd
    let s := if gen then s.genSafe l true else s.lineSafe l
    (s.ttFault 2 l gen.toNat 14).ttFaultReact

/-- The widths of the fields that TTINJ reaches (R149). -/
def injWidth : Nat → Nat
  | 0 => 3
  | 1 => 48
  | 2 => 5
  | 3 => 2
  | 4 | 6 | 7 | 12 => 1
  | 5 => 4
  | 8 => 24
  | 9 => 8
  | 10 => 32
  | 11 => 50
  | 13 => 48
  | 14 => 13
  | _ => 0

/-- A number with bit `b` flipped. -/
def flip (x b : Nat) : Nat := x ^^^ 2 ^ b

/-- A signed 48-bit number with bit `b` flipped. -/
def flip48 (x : Int) (b : Nat) : Int := sx 48 (flip (wrapN 48 x) b)

/-- Copy B with one bit flipped in field `f` (R149). -/
def SlotCopy.inject (c : SlotCopy) (f b : Nat) : SlotCopy :=
  let p := c.per
  match f with
  | 0 => { c with state := flip c.state b }
  | 1 => { c with per := { p with pos := flip p.pos b } }
  | 2 => { c with per := { p with tb := flip p.tb b } }
  | 3 => { c with per := { p with dirq := flip p.dirq b } }
  | 4 => { c with per := { p with latepol := flip p.latepol b } }
  | 5 => { c with per := { p with act := flip p.act b } }
  | 6 => { c with per := { p with uref := flip p.uref b } }
  | 7 => { c with per := { p with fcast := flip p.fcast b } }
  | 8 => { c with per := { p with hyst := flip p.hyst b } }
  | 9 => { c with per := { p with tag := flip p.tag b } }
  | 10 => { c with per := { p with arg := flip p.arg b } }
  | 11 =>
    match b with
    | 0 => { c with primed := !c.primed }
    | 1 => { c with edir := !c.edir }
    | n => { c with dp := flip48 c.dp (n - 2) }
  | 12 => { c with xinv := !c.xinv }
  | 13 => { c with cap := flip48 c.cap b }
  | _ => c

/-- A fine-delay entry with bit `b` of (V, L, T, W) flipped; W counts from the present edge. -/
def FdEntry.inject (e : FdEntry) (now b : Nat) : FdEntry :=
  match b with
  | 0 => { e with v := !e.v }
  | 1 => { e with lvl := !e.lvl }
  | 2 => { e with tap := flip e.tap 0 }
  | 3 => { e with tap := flip e.tap 1 }
  | n => { e with edge := now + flip ((e.edge - now) % 4) (n - 4) }

/-- A copy of a fine-delay register with one of its 13 bits flipped (R547). -/
def FdCopy.inject (c : FdCopy) (now b : Nat) : FdCopy :=
  if b = 0 then { c with lvl := !c.lvl }
  else if b < 7 then { c with e0 := c.e0.inject now (b - 1) }
  else { c with e1 := c.e1.inject now (b - 7) }

/-- A write of TTINJ with GO = 1 (R149). -/
def State.ttInj (s : State) (w : Who) (slot field bit line : Nat) (gen : Bool) : State :=
  if !w.priv then s.setTtres w (resWord 0 resRIGHTS 0)
  else if s.mode != .prepare then s.setTtres w (resWord 0 resNOTNOW 0)
  else if field = 15 ∨ injWidth field ≤ bit ∨ (field = 14 ∧ gen = true ∧ 16 ≤ line) then
    s.setTtres w (resWord 0 resBADREC 0)
  else
    let ok := resWord 0 0 0
    if field = 14 then
      if gen then
        let g := s.gen line
        (s.setGen line { g with fd := { g.fd with b := g.fd.b.inject s.now bit } }).setTtres w ok
      else
        let x := s.line line
        (s.setLine line { x with fd := { x.fd with b := x.fd.b.inject s.now bit } }).setTtres w ok
    else
      let x := s.slot slot
      (s.setSlot slot { x with b := x.b.inject field bit }).setTtres w ok

/-! ### Pending edges and MEMW writes -/

/-- The earliest pending edge of event line `l` lands (R140, R143), when its edge has come. -/
def State.landLine (s : State) (l k : Nat) : State :=
  let x := s.line l
  match x.fd.a.next with
  | none => s
  | some e => if e.edge ≤ k then s.setLine l { x with fd := x.fd.map FdCopy.land } else s

/-- The oldest MEMW write reaches the shared bus (R141). -/
def State.memwDone (s : State) : State :=
  match s.memq with
  | [] => s
  | w :: rest => { s with memq := rest }.store w.addr 4 w.val

end Sys2Proof.Machine
end

