-- ==== Sys2Proof/Machine/Timebases.lean ====
section
/-! DEFINITION. Timebases and the Position Word: time passing from edge to edge, timebase states and faults (R118, R134),
commands (R114-R117), moduli, ratios, wall time (R111, R112) and captures by register. -/

namespace Sys2Proof.Machine

/-! ### Discontinuities, references and states -/

/-- A discontinuity of timebase `t` at the present edge (R117): DISCGEN counts it and the slots see it. -/
def State.signalDisc (s : State) (t : Nat) : State :=
  let x := s.tb t
  s.setTb t { x with discgen := (x.discgen + 1) % 256, disc := true }

/-- The word of timebase `t` is moved to `w` as a discontinuity; one that holds goes on holding until its estimate, moved with it, passes it
(R99). -/
def State.placeAt (s : State) (t : Nat) (w : Int) : State :=
  (s.setTb t { s.tb t with word := normWord (s.modulus t) w }).signalDisc t

/-- The word of timebase `t` becomes that of its estimate, `w`, as a discontinuity. -/
def State.jumpTo (s : State) (t : Nat) (w : Int) : State := (s.setTb t { s.tb t with hold := false }).placeAt t w

/-- The virtual timebases in index order. -/
def State.virtuals (s : State) : List Nat := (upFrom 16 12).filter (fun t => s.kind t == 3)

/-- Every slot on timebase `t` whose period needs a reference ends UNREF (R134). -/
def State.endUnref (s : State) (t : Nat) : State :=
  s.endSlots (fun _ x => x.a.per.tb == t && x.a.per.uref == 0) 9

/-- REF of timebase `t` becomes `ref`; when it falls, the slots that need it end (R134). -/
def State.setRef (s : State) (t : Nat) (ref : Bool) : State :=
  let s' := s.setTb t { s.tb t with ref := ref }
  if (s.tb t).ref && !ref then s'.endUnref t else s'

/-- REF of every virtual timebase equals its source's, in index order (R108). -/
def State.followRefs (s : State) : State :=
  s.virtuals.foldl (fun s v => s.setRef v (s.tb (s.tb v).src).ref) s

/-- REF of timebase `t` becomes `ref`, and so does that of the virtual timebases that follow it (R108, R134). -/
def State.putRef (s : State) (t : Nat) (ref : Bool) : State := (s.setRef t ref).followRefs

/-- A velocity of 0 with the edge since which it has been 0 (R102). -/
def Timebase.stopped (x : Timebase) (now : Nat) : Timebase :=
  { x with vel := 0, zeroK := if x.vel = 0 then x.zeroK else now }

/-- Timebase `t` leaves RUN for `st` with a cause code: word held, VEL 0, TBFLT when it is a fault, slots on it end
(R118, R134). A virtual timebase that follows it faults at the next edge. -/
def State.tbStop (s : State) (t : Nat) (st : TbState) (cause : Nat) : State :=
  let s := s.setTb t { (s.tb t).stopped s.now with state := st, cause := cause, hold := false }
  let s := if st = .fault then s.arrive (0x40 + t) else s
  s.endSlots (fun _ x => x.a.per.tb == t) 8

/-- The virtual timebases follow their sources, as `old` (the state an edge before) has them, into FAULT and back into RUN: one level of a
chain each edge (R118). -/
def State.chain (s old : State) : State :=
  s.virtuals.foldl (fun s v =>
    let x := s.tb v
    let src := (old.tb x.src).state
    if x.state = .run ∧ src ≠ .run then s.tbStop v .fault 5
    else if x.state = .fault ∧ src = .run ∧ x.cause = 5 then s.setTb v { x with state := .run }
    else s) s

/-- Timebase `t` enters FAULT with a cause (R118). -/
def State.tbFault (s : State) (t cause : Nat) : State :=
  if (s.tb t).state = .run then s.tbStop t .fault cause else s

/-- Timebase `t` goes OFF with word and offset kept (R118). -/
def State.tbOff (s : State) (t : Nat) : State :=
  if (s.tb t).state = .off then s else s.tbStop t .off 0

/-- A local timebase enters RUN with its channel in SYNC: unreferenced, its word held until the first count, frame or
sample (R118, R546). STILL stays as it is until a step or a velocity ends it (R102). -/
def State.tbSync (s : State) (t : Nat) : State :=
  (s.setTb t { (s.tb t).stopped s.now with
    state := .run, cause := 0, holding := true, hold := false, steps := [], samples := [], stale := false }).putRef t false

/-- The local timebases fed by channel `ch`. -/
def State.fedBy (s : State) (ch : Nat) : List Nat := (upFrom 0 16).filter (fun t => s.variant.hasTb t && (s.tb t).src == ch)

/-! ### Time -/

/-- A virtual velocity that the word cannot hold faults the timebase with OVERSPEED (R108); it runs again when it can. -/
def State.overspeed (s : State) : State :=
  s.virtuals.foldl (fun s v =>
    let x := s.tb v
    let vel := (s.formTb v s.now).2
    if x.state = .run ∧ 2 ^ 31 ≤ x.vel.natAbs then s.tbFault v 4
    else if x.state = .fault ∧ x.cause = 4 ∧ (s.tb x.src).state = .run ∧ vel.natAbs < 2 ^ 31 then
      s.setTb v { x with state := .run }
    else s) s

/-- The refill engine checks the record that queue `q` has taken: 3 to 5 of R125 at the edge after it was taken, 6 and 7 an edge later
(R156, R160). -/
def State.checkTaken (s : State) (q : Nat) : State :=
  let x := s.queue q
  match x.taken, x.buf with
  | some e, some p =>
    if s.now = e + 1 then s.setQueue q { x with code := if x.badBuf then 18 else s.refillForm q p }
    else if s.now = e + 2 ∧ x.code = 0 then s.setQueue q { x with code := s.refillState p }
    else s
  | _, _ => s

/-- One PSCLK edge: the slots are evaluated on the words presented at the present edge, every timebase forms the next, and what is due at
the next edge takes effect: faults that pass along chains, references, errands of actions, the refill engine's checks, and the sections
of the Enward cycle that pass. -/
def State.tick (s : State) : State :=
  let s := (upFrom 0 16).foldl State.checkTaken (((s.evalBelow 32).stepWords.chain s).overspeed.followRefs.settleDue)
  s.enPass s.now

/-- A timebase's next edges leave it as it is: it stands still, has shown its word and velocity, and signals nothing. -/
def State.restful (s : State) (t : Nat) : Bool :=
  let x := s.tb t
  x.prev == x.word && x.pvel == x.vel && !x.fresh && !x.disc && !x.pfresh && !x.pdisc &&
    (x.state != .run || ((s.formTb t (s.now + 1)) == (x.word, (0 : Int)) && x.vel == 0 && !x.hold)) &&
    (s.kind t != 3 || ((x.state == .run) == ((s.tb x.src).state == .run) && x.ref == (s.tb x.src).ref && x.acc == (s.formAcc t).acc))

/-- No slot is ARMED, nothing is due or passes, and no word moves but that of wall time: passing edges change nothing else. A sampled, counted or
mains word that stands still goes on doing so, since its velocity is 0; so does a synthetic one. -/
def State.quiet (s : State) : Bool :=
  (upFrom 0 32).all (fun i => (s.slot i).a.state != 2) && s.acts.isEmpty && s.en.passed &&
    (upFrom 0 16).all (fun q => (s.queue q).taken.all (fun e => decide (e + 2 ≤ s.now))) &&
    s.tbList.all (fun t => t == 29 || s.restful t)

/-- Edges up to `k`; none when the clocks stand still (R23). A quiet stretch is passed at once. What the Attendance scan latches and
publishes on the way acts on nothing else that passes, and is done last. -/
def State.advance (s : State) (k : Nat) : State :=
  if s.clocks then
    let s := if decide (s.now + 2 < k) && s.quiet then { s with now := k - 2 } else s
    ((upFrom 0 (k - s.now)).foldl (fun s _ => s.tick) s).attDue
  else s

/-! ### Writes of the timebase block -/

/-- TBSTAT.WSTAT after a write. -/
def State.tbStat (s : State) (t code : Nat) : State := s.setTb t { s.tb t with wstat := code }

/-- The kind of timebase `t` uses the register at offset `off` of its block (R95). -/
def kindUses (k off : Nat) : Bool :=
  match off with
  | 0x20 => kindHasMod k
  | 0x24 => kindHasMod k
  | 0x28 | 0x2C => k == 3
  | 0x30 => k == 1 || k == 2 || k == 4
  | 0x34 => k == 6
  | 0x38 => k == 1 || k == 2
  | 0x14 | 0x18 => k == 1 || k == 3 || k == 6
  | _ => true

/-- A virtual timebase `t` may not follow timebase `src`: a virtual one of equal or higher index (R107). -/
def State.badChain (s : State) (t src : Nat) : Bool := s.kind src == 3 && decide (t ≤ src)

/-- The Staff port writes TBCMD at the edge at which a core wrote the command that waits: its own replaces it (R114, assumption 91,
DESIGN CHOICE). -/
def State.tbReplaces (s : State) (w : Who) (t : Nat) : Bool :=
  w.isStaff && (s.tb t).cmd.any (fun c => c.who != 5 && c.atK == s.now)

/-- A command's code, 0 when it is accepted at the write (R54, R107, R114, R115). -/
def State.tbCmdCode (s : State) (w : Who) (t cmd newsrc : Nat) : Nat :=
  let k := s.kind t
  let x := s.tb t
  let kindOk := match cmd with
    | 1 | 3 => k == 1 || k == 3 || k == 6
    | 2 | 4 => k == 1
    | _ => k == 1 || k == 3
  let watched := (upFrom 0 4).any (fun n =>
    s.fld (R.HWCFG n) R.HWCFG_ASSIGNED == 1 && s.fld (R.HWCFG n) R.HWCFG_TB == t)
  if !kindOk then 1
  else if x.cmd.isSome && !s.tbReplaces w t then 3
  else if (cmd == 1 || cmd == 3) && watched && !s.handed then 3
  else if (cmd == 1 || cmd == 3) && x.state != .run then 2
  else if cmd == 6 && s.mode != .prepare then 7
  else if cmd == 5 || cmd == 6 then
    if k = 1 then
      if s.variant.nLocal ≤ newsrc then 4
      else if (s.chan newsrc).state == .off || (s.chan newsrc).state == .fault then 2
      else 0
    else if !s.variant.hasTb newsrc then 4
    else if s.badChain t newsrc then 5
    else 0
  else 0

/-- A write of TBCMD: commands 1 to 6 (R114); 0 and 7 do nothing. -/
def State.tbCmd (s : State) (w : Who) (t cmd newsrc : Nat) : State :=
  if cmd = 0 ∨ cmd = 7 then s.tbStat t 0
  else
    let code := s.tbCmdCode w t cmd newsrc
    if code = 0 then
      let c : TbCmd :=
        { cmd := cmd, newsrc := newsrc, dueK := nextBoundary s.now, atK := s.now, who := w.id, guard := w.guard, ring := w.ring }
      s.setTb t { s.tb t with cmd := some c, wstat := 0 }
    else s.tbStat t code

/-- The word and TBSET: the 48-bit number in TBSETL and TBSETH. -/
def State.tbSet (s : State) (t : Nat) : Int :=
  sx 48 ((s.rd (R.TBSETL t)).toNat + 2 ^ 32 * s.fld (R.TBSETH t) R.TBSETH_VALUE)

/-- The position of channel `ch` in 1/256 count. -/
def State.chanPos (s : State) (ch : Nat) : Int := (s.chan ch).count * 256 + (s.chan ch).frac

/-- The word of timebase `t` is moved by `d` through its offset or its accumulator (R114). -/
def Timebase.shifted (x : Timebase) (d : Int) : Timebase :=
  { x with offset := x.offset + d, synth := x.synth + d * (2 ^ 24 : Nat), word := x.word + d }

/-- SET (R114): the word is exactly TBSET, as it reads at the boundary (assumption 90, DESIGN CHOICE). -/
def State.tbDoSet (s : State) (t : Nat) : State :=
  let x := s.tb t
  let w := normWord (s.modulus t) (s.tbSet t)
  let y := { x.shifted (w - x.word) with synth := w * (2 ^ 24 : Nat) }
  let s' := (s.setTb t y).placeAt t w
  if s.kind t = 3 then s' else s'.putRef t true

/-- SHIFT (R114). -/
def State.tbDoShift (s : State) (t : Nat) : State :=
  let x := s.tb t
  let y := x.shifted (s.tbSet t)
  (s.setTb t y).placeAt t y.word

/-- SWITCHB (R114, R116): the word is unchanged and interpolation restarts. -/
def State.tbDoSwitchB (s : State) (t newsrc : Nat) : State :=
  let x := s.tb t
  let s' := s.setFld (R.TBCFG t) R.TBCFG_SRC newsrc
  if s.kind t = 1 then
    let ch := s.chan newsrc
    let down := ch.stepK.isSome && !ch.stepUp
    let quad := s.chMode newsrc == 1
    let frac : Int := if quad && down then 255 else 0
    s'.setTb t { x.stopped s.now with
      src := newsrc, offset := x.word - s.chanPos newsrc - frac, steps := if quad then ch.stepK.toList else []
      down := if quad then down else x.down, samples := if quad then [] else [((ch.edgeK : Int), s.chanPos newsrc)]
      holding := ch.state != .track, hold := false, stale := false }
  else (s'.setTb t { x with src := newsrc }).followRefs

/-- SWITCHD (R114): the new source's own position, as a discontinuity. -/
def State.tbDoSwitchD (s : State) (t newsrc : Nat) : State :=
  let s' := s.tbDoSwitchB t newsrc
  let x := s'.tb t
  if s.kind t = 1 then
    ((s'.setTb t { x with offset := 0 }).jumpTo t (s.chanPos newsrc)).putRef t false
  else
    let num := (s.eff (R.TBGNUM t)).toInt
    let den := max (s.eff (R.TBGDEN t)).toNat 1
    (s'.setTb t { x with acc := 0 }).jumpTo t ((s.tb newsrc).prev * num / den)

/-- A pending command at its boundary (R115, R116): checked again, then dropped with COND, or carried out and recorded. -/
def State.tbEffect (s : State) (t : Nat) : State :=
  let x := s.tb t
  match x.cmd with
  | none => s
  | some c =>
    if s.now < c.dueK then s
    else
      let s0 := s.setTb t { x with cmd := none }
      let srcDead := if s.kind t = 1 then (s.chan c.newsrc).state == .off || (s.chan c.newsrc).state == .fault
        else (s.tb c.newsrc).state != .run
      if ((c.cmd == 1 || c.cmd == 3) && x.state != .run) || ((c.cmd == 5 || c.cmd == 6) && srcDead) then
        s0.tbStat t 2
      else
        let s1 := match c.cmd with
          | 1 => s0.tbDoSet t
          | 2 => s0.putRef t true
          | 3 => s0.tbDoShift t
          | 4 => s0.putRef t false
          | 5 => s0.tbDoSwitchB t c.newsrc
          | _ => s0.tbDoSwitchD t c.newsrc
        s1.log c.who c.guard c.ring 1 0 (R.TBCMD t) (wrapN 32 x.word) (c.cmd + 256 * c.newsrc)

/-- A write of TBCFG (R95, R96): KIND is written on 16 to 27 only, outside PREPARE only while the timebase is OFF or in
FAULT. A new kind starts the timebase, and OFF stops it (R118). The codes 5 for a forbidden chain and 7 in RUN are assumptions 101 and
100, DESIGN CHOICE. -/
def State.tbCfgWrite (s : State) (w : Who) (t : Nat) (v : Word) : State :=
  let old := s.rd (R.TBCFG t)
  let v := R.TBCFG_SRC.put (v &&& wmaskAt (R.TBCFG t)) (R.TBCFG_SRC.get old)
  let v := if R.TBCFG_KIND.get v = 2 then R.TBCFG_SRC.put v (t - 16) else v
  let v := if R.TBCFG_STILLT.get v = 0 then R.TBCFG_STILLT.put v 50 else v
  let k := R.TBCFG_KIND.get v
  let x := s.tb t
  let flexible := decide (16 ≤ t ∧ t < 28)
  if k != s.kind t && !(flexible && (k == 0 || k == 2 || k == 3)) then s.tbStat t 1
  else if k == 2 && !s.variant.enward then s.tbStat t 4
  else if k != s.kind t && k == 3 && (s.badChain t x.src || !s.variant.hasTb x.src) then s.tbStat t 5
  else if k != s.kind t && s.mode != .prepare && x.state == .run then s.tbStat t 7
  else
    let s' := ((s.wr (R.TBCFG t) v).logCfg w (R.TBCFG t) old v).tbStat t 0
    if k = s.kind t then s'
    else
      let s' := s'.endSlots (fun _ y => y.a.per.tb == t) 8
      if k = 0 then s'.tbOff t
      else
        (s'.setTb t { (s'.tb t).stopped s.now with
          state := .run, cause := 0, src := R.TBCFG_SRC.get v, acc := 0, samples := [], hold := false, rxSeen := false
          rxK := s.now, rxDisc := none }).putRef t false

/-- A write of TBMOD, in PREPARE only, from the next boundary (R104). -/
def State.tbModWrite (s : State) (w : Who) (t : Nat) (v : Word) : State :=
  if !kindHasMod (s.kind t) then s.tbStat t 1
  else if s.mode != .prepare then s.tbStat t 7
  else ((s.defer (R.TBMOD t) v).logCfg w (R.TBMOD t) (s.rd (R.TBMOD t)) v).tbStat t 0

/-- A write of TBGNUM: held until TBGDEN is written (R108). -/
def State.tbNumWrite (s : State) (w : Who) (t : Nat) (v : Word) : State :=
  if s.kind t != 3 then s.tbStat t 1
  else ((s.defer (R.TBGNUM t) v).logCfg w (R.TBGNUM t) (s.rd (R.TBGNUM t)) v).tbStat t 0

/-- A write of TBGDEN: it commits both at the next boundary; 0 is refused with COND (R108). -/
def State.tbDenWrite (s : State) (w : Who) (t : Nat) (v : Word) : State :=
  if s.kind t != 3 then s.tbStat t 1
  else if v = 0 then s.tbStat t 2
  else ((s.defer (R.TBGDEN t) v).logCfg w (R.TBGDEN t) (s.rd (R.TBGDEN t)) v).tbStat t 0

/-- A write of TBSYNVEL, from the next boundary (R113). -/
def State.tbSynWrite (s : State) (t : Nat) (v : Word) : State :=
  if s.kind t != 6 then s.tbStat t 1 else (s.defer (R.TBSYNVEL t) v).tbStat t 0

/-- A write of TBSETL or TBSETH. -/
def State.tbSetWrite (s : State) (t a : Nat) (v : Word) : State :=
  if kindUses (s.kind t) 0x14 then (s.wr a (v &&& wmaskAt a)).tbStat t 0 else s.tbStat t 1

/-- A new modulus takes effect in place of `m1` (R104, R109): the word is reduced, TBREV cleared, a discontinuity. What lies under the word (the
offset of a local timebase, the accumulator of a synthetic one) loses the turns that the old modulus had taken from it, so that the
word goes on from there; the mains count itself is never reduced. -/
def State.commitMod (s : State) (t m1 : Nat) : State :=
  let x := s.tb t
  let cut (v : Int) : Int := normWord m1 v - v
  match s.kind t, s.rawTb t s.now with
  | 1, some p => (s.setTb t { x with rev := 0, offset := x.offset + cut p.1 }).placeAt t x.word
  | 4, some p => (s.setTb t { x with rev := 0 }).placeAt t p.1
  | 6, _ =>
    (s.setTb t { x with rev := 0, synth := x.synth + cut (x.synth / (2 ^ 24 : Nat)) * (2 ^ 24 : Nat) }).placeAt t x.word
  | _, _ => (s.setTb t { x with rev := 0 }).placeAt t x.word

/-- A new ratio takes effect: the accumulator is cleared and the word continues (R108). -/
def State.commitRatio (s : State) (t : Nat) : State := s.setTb t { s.tb t with acc := 0 }

/-! ### Standstill and stale samples -/

/-- STANDSTILL of timebase `t` at edge `k` (R97, R102): VEL reads 0 and STILL is set, when STILLT has passed since the last
step of a QUAD source, or since the velocity of a sampled one became 0. -/
def State.standstill (s : State) (t k : Nat) : State :=
  let x := s.tb t
  let quad := s.kind t == 1 && s.chMode x.src == 1
  let since := if quad then x.steps.headD 0 else x.zeroK
  if !(s.kind t == 1 || s.kind t == 2 || s.kind t == 4) || x.state != .run || x.still || decide (k < since + s.stillPs t) ||
      (!quad && x.vel != 0) then s
  else
    let s := s.setTb t { x with still := true, vel := 0 }
    if s.fld (R.TBCFG t) R.TBCFG_EVSTILL = 1 then s.arrive (0x20 + t) else s

/-- EXTRAPOLATION_STALE of local timebase `t` at edge `k` (R98): past the limit the word holds and STALE reads 1. -/
def State.stale (s : State) (t k : Nat) : State :=
  let x := s.tb t
  match x.samples with
  | (t0, _) :: _ =>
    if s.kind t == 1 && s.chMode x.src != 1 && x.state == .run && decide (t0 + s.staleAge x.src ≤ (k : Int)) then
      s.setTb t { x with stale := true }
    else s
  | [] => s

/-! ### Wall time -/

/-- Wall time belongs to the ring or to PTP, and `unit` (0 software, 1 ring, 2 PTP) is not the owner (R112). -/
def State.wallOwned (s : State) (unit : Nat) : Bool :=
  let o := s.fld R.WALLCTL R.WALLCTL_OWNER
  if unit = 0 then o == 1 || o == 2 else o != unit

def State.wallStat (s : State) (code : Nat) : State := s.setFld R.WALLCTL R.WALLCTL_WSTAT code

/-- A slew to apply, replacing any remainder (R111). -/
def State.wadj (s : State) (unit : Nat) (v : Word) : State :=
  if s.wallOwned unit then s.wallStat 6 else { s with wall := { s.wall with adj := v.toInt } }.wallStat 0

/-- A write of WSTEPL: the low half of a step; OWNED while the ring or PTP owns wall time (R112). -/
def State.wstepLow (s : State) (v : Word) : State :=
  if s.wallOwned 0 then s.wallStat 6 else (s.wr R.WSTEPL v).wallStat 0

/-- A step for the next boundary (R111): BUSY while one is pending. -/
def State.wstep (s : State) (unit : Nat) (low high : Word) : State :=
  if s.wallOwned unit then s.wallStat 6
  else if s.wall.step.isSome then s.wallStat 3
  else
    { s with wall := { s.wall with step := some (sx 64 (low.toNat + 2 ^ 32 * high.toNat)) } }.wallStat 0

/-- A write of WALLCTL (R112); while a member of the ring is UP or WRAPPED its OWNER is OWNED (R357). -/
def State.wallCtl (s : State) (w : Who) (v : Word) : State :=
  let rate := if R.WALLCTL_WRATE.get v = 0 then 1 else R.WALLCTL_WRATE.get v
  let own := R.WALLCTL_OWNER.get v
  let cur := s.fld R.WALLCTL R.WALLCTL_OWNER
  let s' := s.setFld R.WALLCTL R.WALLCTL_WRATE rate
  if own = cur then s'.wallStat 0
  else if !w.priv then s'.wallStat 1
  else if (s.en.state == .up || s.en.state == .wrapped) && !s.en.master then s'.wallStat 6
  else if (own == 1 && !s.variant.enward) || (own == 2 && s.variant.nMac == 0) then s'.wallStat 4
  else ((s'.setFld R.WALLCTL R.WALLCTL_OWNER own).logCfg w R.WALLCTL (s.rd R.WALLCTL) v).wallStat 0

/-- Wall time at a pin epoch boundary (R111): one slew of at most WRATE/256 PSCLK, and a pending step, which is a
discontinuity of timebase 29. -/
def State.wallBoundary (s : State) : State :=
  let x := s.wall
  let r : Int := s.fld R.WALLCTL R.WALLCTL_WRATE
  let d := max (-r) (min r x.adj)
  let st := x.step.getD 0
  let s' := { s with wall := { x with
    base := wrapN 72 ((s.wallAt s.now : Int) + d + st), baseK := s.now
    hist := if d + st = 0 then x.hist else (x.baseK, x.base) :: x.hist, adj := x.adj - d, step := none } }
  if (s.tb 29).state != .run then s'
  else if x.step.isNone then s'.moveTo 29 (normWord 0 (s'.wallAt s.now))
  else s'.jumpTo 29 (normWord 0 (s'.wallAt s.now))

/-! ### Captures by register -/

/-- CAPCMD.GO: a capture at the next PSCLK edge, or LASTREF (R120, R121). -/
def State.capGo (s : State) : State :=
  match s.capture (s.now + 1) 0 1 with
  | some s => s.setFld R.CAPSTAT R.CAPSTAT_LASTREF 0
  | none => (s.captureLost (s.now + 1)).setFld R.CAPSTAT R.CAPSTAT_LASTREF 1

/-- A write of CAPFREE (R121). -/
def State.capFree (s : State) (mask : Nat) : State :=
  (upFrom 0 4).foldl (fun s b =>
    if mask.testBit b then { s with caps := s.caps.upd .reset b (fun c => { c with full := false }) } else s) s

end Sys2Proof.Machine
end

