-- ==== Sys2Proof/Machine/Channels.lean ====
section
/-! DEFINITION. Position Sources at the Balls: the channels' state machine (R75), quadrature (R65-R72), wire checks (R73),
SSI and BISS frames (R78-R83), sin/cos samples (R84-R86) and the mains (R87-R89), with the timebase each one feeds. -/

namespace Sys2Proof.Machine

/-! ### State machine -/

/-- Channel `ch` starts in SYNC (R61, R75); the count is kept only when it leaves FAULT by CLR. The last good frame is forgotten
(assumption 98, DESIGN CHOICE). -/
def State.chSync (s : State) (ch : Nat) (keep : Bool) : State :=
  let x := s.chan ch
  let y := { x with
    state := .sync, syncK := s.now, count := if keep then x.count else 0, frac := if keep then x.frac else 0, stepK := none
    idxRef := none, lastGood := none, badRun := 0, lowRun := 0, highRun := 0, goodRun := 0, sampled := false, frameRun := none }
  (s.fedBy ch).foldl (fun s t => s.tbSync t) (s.setChan ch y)

/-- Channel `ch` goes OFF with its count, and so its fraction, kept (R75, assumption 87,
DESIGN CHOICE). -/
def State.chOff (s : State) (ch : Nat) : State :=
  (s.fedBy ch).foldl (fun s t => s.tbOff t) (s.setChan ch { s.chan ch with state := .off, frameRun := none })

/-- A fault cause in SYNC or TRACK (R75): count held, POSFLT raised, the timebases faulted with SRCFLT (R118). -/
def State.chFault (s : State) (ch cause : Nat) : State :=
  let x := s.chan ch
  if x.state = .sync ∨ x.state = .track then
    let s := (s.setChan ch { x with state := .fault, cause := cause }).arrive ch
    (s.fedBy ch).foldl (fun s t => s.tbFault t 1) s
  else s

/-- Pair `i` (0 A, 1 B, 2 Z) is level-checked (R73). -/
def State.checked (s : State) (ch i : Nat) : Bool :=
  let m := s.chMode ch
  s.fld (R.PCCTL ch) R.PCCTL_SE == 0 &&
    (if i = 2 then (m == 1 || m == 4) && s.fld (R.PCCTL ch) R.PCCTL_ZEN == 1
     else if i = 1 then m == 1
     else m == 1 || m == 2 || m == 3)

/-- A checked pair reads an invalid level (R76). -/
def State.causePresent (s : State) (ch : Nat) : Bool :=
  (upFrom 0 3).any (fun i => s.checked ch i && !(s.chan ch).valid.getD i false)

def State.chStat (s : State) (ch code : Nat) : State := s.setChan ch { s.chan ch with wstat := code }

/-- A write of PCCTL.CLR = 1 (R75, R76). -/
def State.chClear (s : State) (ch : Nat) : State :=
  if (s.chan ch).state != .fault then s.chStat ch 0
  else if s.causePresent ch then s.chStat ch 3
  else (s.chSync ch true).chStat ch 0

/-- Configuration may change now (R61). -/
def State.chOpen (s : State) (ch : Nat) : Bool :=
  s.mode == .prepare || (s.chan ch).state == .off || (s.chan ch).state == .fault

/-- The fields MODE, DECODE, DIR and SE. -/
def pcctlKey (v : Word) : Nat × Nat × Nat × Nat :=
  (R.PCCTL_MODE.get v, R.PCCTL_DECODE.get v, R.PCCTL_DIR.get v, R.PCCTL_SE.get v)

/-- A changed configuration restarts a channel that is not OFF (R61). -/
def State.chRestart (s : State) (ch : Nat) : State :=
  if (s.chan ch).state = .off then s else s.chSync ch false

/-- A write of PCCTL (R60, R61). -/
def State.pcctlWrite (s : State) (w : Who) (ch : Nat) (v : Word) : State :=
  let a := R.PCCTL ch
  let old := s.rd a
  let m := R.PCCTL_MODE.get v
  let nv := v &&& wmaskAt a
  let nv := if R.PCCTL_WBFILT.get nv = 0 then R.PCCTL_WBFILT.put nv 64 else nv
  if decide (5 ≤ m) || (m == 4 && decide (s.variant.nAdc ≤ ch)) || R.PCCTL_DECODE.get v == 3 then s.chStat ch 1
  else if pcctlKey nv != pcctlKey old && !s.chOpen ch then s.chStat ch 2
  else
    let s1 := ((s.defer a nv).logCfg w a old nv).chStat ch 0
    let m0 := R.PCCTL_MODE.get old
    let s2 :=
      if m = 0 then (if m0 = 0 then s1 else s1.chOff ch)
      else if m0 = 0 then s1.chSync ch false
      else if pcctlKey nv != pcctlKey old then s1.chRestart ch
      else s1
    if R.PCCTL_CLR.get v = 1 then s2.chClear ch else s2

/-- A write of another configuration register of the block: refused when a field may not hold the value, or may not
change now; a change restarts the channel in the modes that use it (R61). -/
def State.chCfg (s : State) (w : Who) (ch a : Nat) (v : Word) (bad locked : Bool) (modes : List Nat) : State :=
  let old := s.rd a
  let nv := Word.mix old v (wmaskAt a)
  if bad then s.chStat ch 1
  else if locked && nv != old && !s.chOpen ch then s.chStat ch 2
  else
    let s1 := ((s.wr a nv).logCfg w a old nv).chStat ch 0
    if nv != old && modes.contains (s.chMode ch) then s1.chRestart ch else s1

/-- A write of PCIDXCTL (R61, R71): ZQUAL waits for the boundary, ARM arms a single capture. -/
def State.idxctlWrite (s : State) (w : Who) (ch : Nat) (v : Word) : State :=
  let a := R.PCIDXCTL ch
  let old := s.rd a
  if R.PCIDXCTL_ZQUAL.get v != R.PCIDXCTL_ZQUAL.get old && !s.chOpen ch then s.chStat ch 2
  else
    let nv := Word.mix old v (R.PCIDXCTL_ZQUAL.mask + R.PCIDXCTL_ZINV.mask + R.PCIDXCTL_ZMODE.mask)
    let nv := if R.PCIDXCTL_ARM.get v = 1 then R.PCIDXCTL_ZARMED.put (R.PCIDXCTL_ARM.put nv 1) 1 else nv
    ((s.defer a nv).logCfg w a old nv).chStat ch 0

/-- A write of register `a` at offset `off` of channel `ch`'s block. CRCW has no code for 16 (assumption 96), and MTBITS and TMO are stored
as written (assumption 99; both DESIGN CHOICE). -/
def State.chanWrite (s : State) (w : Who) (ch off : Nat) (v : Word) : State :=
  match off with
  | 0x00 => s.pcctlWrite w ch v
  | 0x1C => s.chCfg w ch (R.PCREQ ch) v false false []
  | 0x20 => s.idxctlWrite w ch v
  | 0x2C => s.chCfg w ch (R.PCZDIST ch) v false false []
  | 0x30 =>
    let n := R.PCABS_POSBITS.get v
    let v := if R.PCABS_CLKDIV.get v < 9 then R.PCABS_CLKDIV.put v 9 else v
    s.chCfg w ch (R.PCABS ch) v (R.PCABS_PAR.get v == 3 || decide (n < 8 ∨ 40 < n)) true [2, 3]
  | 0x34 =>
    let v := if R.PCABS2_BADLIM.get v = 0 then R.PCABS2_BADLIM.put v 3 else v
    s.chCfg w ch (R.PCABS2 ch) v false true [2, 3]
  | 0x38 =>
    let v := if s.chMode ch = 3 then R.PCCRC_LINEDLY.put v (s.fld (R.PCCRC ch) R.PCCRC_LINEDLY) else v
    s.chCfg w ch (R.PCCRC ch) v (decide (R.PCCRC_CRCW.get v < 3)) true [2, 3]
  | 0x44 => s.chCfg w ch (R.PCJUMP ch) v false false []
  | 0x48 =>
    let n := R.PCSC_INTERP.get v
    s.chCfg w ch (R.PCSC ch) v (decide (n < 2 ∨ 10 < n)) true [4]
  | 0x4C => s.chCfg w ch (R.PCSCOFS ch) v false false []
  | 0x50 => s.chCfg w ch (R.PCSCGP ch) v false false []
  | 0x04 => s.chStat ch 0
  | _ => s.chStat ch 0

/-! ### Feeding a timebase -/

/-- A word formed from a new step, frame or sample (R144): motion, with the velocity as the timebase now forms it. -/
def State.feedWord (s : State) (t : Nat) : State :=
  let p := s.formTb t s.now
  let s := (s.moveTo t p.1).setVel t p.2
  s.setTb t { s.tb t with fresh := true }

/-- A counted step of the channel of QUAD timebase `t` (R97, R102, R546): `e` is its recorded edge, `up` its direction. -/
def State.feedStep (s : State) (t : Nat) (up : Bool) (e : Nat) : State :=
  let x := s.tb t
  if x.state != .run then s
  else
    let rev := x.down == up
    let steps := if rev || x.holding then [e] else (e :: x.steps).take 9
    let c := (s.chan x.src).count * 256
    let offset := if x.holding then 256 * (x.word / 256 + (if up then 1 else -1)) - c else x.offset
    let s := s.setTb t { x with
      steps := steps, down := !up, holding := false, offset := offset, still := false, hold := false }
    let s := if rev && s.fld (R.TBCFG t) R.TBCFG_EVDIR == 1 then s.arrive (0x20 + t) else s
    s.feedWord t

/-- The velocity over the last samples, in 2^-32 count per PSCLK (R98), truncated toward 0 (assumption 103, DESIGN CHOICE). -/
def sampleVel (l : List (Int × Int)) (vavg : Nat) : Int :=
  match l with
  | [] | [_] => 0
  | (t0, v0) :: rest =>
    let p := rest.getD (min vavg rest.length - 1) (t0, v0)
    truncDiv ((v0 - p.2) * (2 ^ 24 : Nat)) (max (t0 - p.1) 1)

/-- A sample taken into a sampled timebase whose estimate then stands at `est` (R98, R99): forward it moves at once; behind the
word against DIR by less than one count it holds; by more, a discontinuity that TBCORR counts. -/
def State.applyEst (s : State) (t : Nat) (est : Int) : State :=
  let x := s.tb t
  let d := diffSpan (s.span t) est x.word
  let back := if x.down then d else -d
  if back ≤ 0 then
    let s := s.moveTo t est
    s.setTb t { s.tb t with fresh := true, hold := false }
  else if back < 256 then s.setTb t { x with hold := true }
  else (s.jumpTo t est).count (R.TBCORR t) R.TBCORR_BACK 1

/-- A frame or sample of value `v` (1/256 count, unwrapped) taken at edge `t0` into local timebase `t`. The first one after
SYNC is a discontinuity (R546). -/
def State.feedSample (s : State) (t : Nat) (v : Int) (t0 : Nat) : State :=
  let x := s.tb t
  if x.state != .run then s
  else if x.holding then
    let s := s.setTb t { x.stopped s.now with samples := [((t0 : Int), v)], holding := false, stale := false }
    s.jumpTo t (v + x.offset)
  else
    let l := (((t0 : Int), v) :: x.samples).take 9
    let s := (s.setTb t { x with samples := l, stale := false }).setVel t (sampleVel l (s.vavg t))
    let y := s.tb t
    s.applyEst t (normWord (s.modulus t) (sampleForm v y.vel ((s.now : Int) - t0) + y.offset))

/-! ### Quadrature -/

/-- The value of channel register `a` in force at edge `k`, of the present or the one before the last boundary that changed it (R61). -/
def State.effAt (s : State) (a k : Nat) : Word :=
  match s.was.find a with
  | some (e, v) => if k < e then v else s.eff a
  | none => s.eff a

/-- FILT of channel `ch` for an edge that reaches the word at edge `k`: in force at its accepting edge, 2 PSCLK before (R65, R101). -/
def State.filtAt (s : State) (ch k : Nat) : Nat := R.PCCTL_FILT.get (s.effAt (R.PCCTL ch) (k - 2))

/-- The recorded edge of a step or index edge that reaches the word at edge `k` (R68, R101). -/
def State.edgeOf (s : State) (ch k : Nat) : Nat := k - (s.filtAt ch k + 3)

/-- Signal `i` of channel `ch` (0 A, 1 B, 2 Z) may change its accepted level at edge `k`: FILT + 1 samples have seen the new one (R65). -/
def State.accepts (s : State) (ch k i : Nat) : Bool :=
  ((s.chan ch).accK.getD i none).all (fun e => decide (e + s.filtAt ch k + 1 ≤ k))

/-- The accepted level of signal `i` of channel `ch` at edge `k`, when it is seen at `b`. -/
def State.filtered (s : State) (ch k i : Nat) (b : Bool) : Bool :=
  if s.accepts ch k i then b else (s.chan ch).lvl.getD i false

/-- Levels of A, B and Z accepted at edge `k`, with the edges at which they changed. -/
def Channel.accept (x : Channel) (k : Nat) (l : List Bool) : Channel :=
  { x with lvl := l, accK := (upFrom 0 3).map (fun i =>
      if l.getD i false != x.lvl.getD i false then some k else x.accK.getD i none) }

/-- The step of an accepted change of A or B (R66): none when the decoding counts nothing for it, else its direction. -/
def quadStep (decode : Nat) (rev : Bool) (a0 b0 a b : Bool) : Option Bool :=
  let up : Option Bool :=
    if a != a0 then
      (if decode < 2 then some (a != b) else if a then some (!b) else none)
    else if b != b0 && decode == 0 then some (b == a)
    else none
  up.map (fun u => u != rev)

/-- The samples of A and B of channel `ch` that reach the word at edge `k`, filtered (R65-R69). Both levels changing is an illegal
transition; nothing is counted outside TRACK. -/
def State.quadLevels (s : State) (ch k : Nat) (a b : Bool) : State :=
  let x := s.chan ch
  let a0 := x.lvl.getD 0 false
  let b0 := x.lvl.getD 1 false
  let s := s.setChan ch (x.accept k [a, b, x.lvl.getD 2 false])
  if s.chMode ch != 1 then s
  else if a != a0 && b != b0 then s.chFault ch 4
  else if x.state != .track then s
  else
    match quadStep (s.fld (R.PCCTL ch) R.PCCTL_DECODE) (s.fld (R.PCCTL ch) R.PCCTL_DIR == 1) a0 b0 a b with
    | none => s
    | some up =>
      let e := s.edgeOf ch k
      let close := match x.stepK with
        | some e0 => decide (e < e0 + 4)
        | none => false
      let idx := if x.stepK.isSome && x.stepUp != up then none else x.idxRef
      let y := { s.chan ch with
        count := diffSpan (2 ^ 40) (x.count + (if up then 1 else -1)) 0, edgeK := e, edgeWall := s.wallPs e
        stepK := some e, stepUp := up, fast := x.fast || close, idxRef := idx }
      (s.fedBy ch).foldl (fun s t => s.feedStep t up e) (s.setChan ch y)

/-- QUAD_STEP at edge `k`: channel `ch` sees levels `a` and `b`, and accepts those that pass its filter. An absent channel has no balls (R6,
R63). -/
def State.quadEvent (s : State) (ch k : Nat) (a b : Bool) : State :=
  let s := s.advance k
  if s.variant.nLocal ≤ ch then s else s.quadLevels ch k (s.filtered ch k 0 a) (s.filtered ch k 1 b)

/-! ### Index -/

/-- A qualified Z edge at edge `k` (R71, R72): ZCNT, the capture by ZMODE, and the distance check. -/
def State.indexHit (s : State) (ch k : Nat) : State :=
  let a := R.PCIDXCTL ch
  let x := s.chan ch
  let s := s.setFld a R.PCIDXCTL_ZCNT (s.fld a R.PCIDXCTL_ZCNT + 1)
  let y := { x with idxCount := x.count, idxTime := s.wallPs (s.edgeOf ch k) % 2 ^ 24 }
  if s.fld a R.PCIDXCTL_ZMODE = 1 then
    if s.fld a R.PCIDXCTL_ZARMED = 1 then
      (((s.setChan ch y).setFld a R.PCIDXCTL_ZARMED 0).setFld a R.PCIDXCTL_ARM 0).arrive (0x10 + ch)
    else s
  else
    let dist := s.fld (R.PCZDIST ch) R.PCZDIST_DIST
    let miss := match x.idxRef with
      | some (c, up) => up == x.stepUp && dist != 0 && (diffSpan (2 ^ 40) x.count c).natAbs != dist
      | none => false
    let s := (s.setChan ch { y with idxRef := some (x.count, x.stepUp), zmiss := x.zmiss || miss }).arrive (0x10 + ch)
    if miss then (s.count (R.PCERR ch) R.PCERR_ZMISSCNT 1).arrive (0x10 + ch) else s

/-- The levels of A and B qualify Z (R70). -/
def zQualified (zqual : Nat) (a b : Bool) : Bool :=
  match zqual with
  | 0 => true
  | 1 => a && b
  | 2 => a && !b
  | _ => !a && !b

/-- Z of channel `ch` takes the accepted level `z` at edge `k` (R70): a rise, or a fall with ZINV, while A and B hold the levels that ZQUAL
selected at the accepting edge. -/
def State.indexLevel (s : State) (ch k : Nat) (z : Bool) : State :=
  let x := s.chan ch
  let inv := s.fld (R.PCIDXCTL ch) R.PCIDXCTL_ZINV == 1
  let was := (x.lvl.getD 2 false) != inv
  let s := s.setChan ch (x.accept k [x.lvl.getD 0 false, x.lvl.getD 1 false, z])
  let zqual := R.PCIDXCTL_ZQUAL.get (s.effAt (R.PCIDXCTL ch) (k - 2))
  if (z != inv) && !was && zQualified zqual (x.lvl.getD 0 false) (x.lvl.getD 1 false) && s.fld (R.PCCTL ch) R.PCCTL_ZEN == 1 &&
      x.state == .track && (s.chMode ch == 1 || s.chMode ch == 4) then s.indexHit ch k
  else s

/-- INDEX_EDGE at edge `k`: channel `ch` sees Z at level `z`, and accepts it when it passes the filter. An absent channel has no balls (R6,
R63). -/
def State.indexEvent (s : State) (ch k : Nat) (z : Bool) : State :=
  let s := s.advance k
  if s.variant.nLocal ≤ ch then s else s.indexLevel ch k (s.filtered ch k 2 z)

/-! ### Wire checks -/

/-- Pair `i` of channel `ch` reads a valid or an invalid level. -/
def State.setValid (s : State) (ch i : Nat) (b : Bool) : State :=
  let x := s.chan ch
  s.setChan ch { x with valid := (upFrom 0 3).map (fun j => if j = i then b else x.valid.getD j false) }

/-- WBFILT in force at channel `ch` (R73). -/
def State.wbfilt (s : State) (ch : Nat) : Nat := s.effFld (R.PCCTL ch) R.PCCTL_WBFILT

/-- WIRE_BREAK at edge `k`: the pairs of `l` read an invalid level, each since an edge (R73, R76). Those that have done so for WBFILT
PSCLK are broken, and the first checked one, in the order A, B, Z, names the cause. -/
def State.wireBreak (s : State) (ch k : Nat) (l : List (Nat × Nat)) : State :=
  let s := s.advance k
  if s.variant.nLocal ≤ ch then s
  else
    let wb := s.wbfilt ch
    let s := l.foldl (fun s p => s.setValid ch p.1 false) s
    match (upFrom 0 3).find? (fun i => s.checked ch i && l.any (fun p => p.1 == i && decide (p.2 + wb ≤ k))) with
    | some i => s.chFault ch (1 + i)
    | none => s

/-- INVALID_EPISODE_END at edge `k`: pair `i`, invalid since edge `since`, shows a valid level again (R73). An episode shorter than WBFILT is
counted; a longer one was a break. -/
def State.episodeEnd (s : State) (ch i since k : Nat) : State :=
  let s := s.advance k
  if s.variant.nLocal ≤ ch then s
  else
    let s' := s.setValid ch i true
    if !s.checked ch i then s'
    else if k < since + s.wbfilt ch then s'.count (R.PCERR ch) R.PCERR_WBGLITCH 1
    else s'.chFault ch (1 + i)

/-- The channel enters TRACK; CAUSE is kept until then (R75). -/
def State.chTrack (s : State) (ch : Nat) : State := s.setChan ch { s.chan ch with state := .track, cause := 0 }

/-- CHANNEL_SYNC_COMPLETE of a QUAD channel at edge `k`: its checked pairs have read valid levels at 8 successive edges, the first after
SYNC was entered (R75). -/
def State.syncComplete (s : State) (ch k : Nat) : State :=
  let s := s.advance k
  if s.chMode ch == 1 && (s.chan ch).state == .sync && decide ((s.chan ch).syncK + 8 ≤ s.now) then
    let x := s.chan ch
    (s.setChan ch { x with valid := (upFrom 0 3).map (fun i => x.valid.getD i false || s.checked ch i) }).chTrack ch
  else s

/-! ### SSI and BISS -/

/-- Bits, first received first, as a number. -/
def bitsVal (l : List Bool) : Nat := l.foldl (fun n b => 2 * n + b.toNat) 0

/-- Gray code to binary, most significant bit first (R78). -/
def grayVal (l : List Bool) : Nat :=
  (l.foldl (fun (p : Nat × Bool) b => let c := p.2 != b; (2 * p.1 + c.toNat, c)) (0, false)).1

/-- The CRC of R80 over the covered bits. -/
def bissCrc (poly w : Nat) (l : List Bool) : Nat :=
  l.foldl (fun crc b =>
    let fb := b != crc.testBit (w - 1)
    let c := (crc * 2) % 2 ^ w
    if fb then (c ^^^ poly) % 2 ^ w else c) 0

/-- A frame decoded: FRMSTAT, the POSBITS value, TRAIL bits, nE and nW. -/
structure Decoded where
  stat  : Nat
  pos   : Nat
  trail : Nat
  ne    : Bool
  nw    : Bool
deriving DecidableEq, Repr

/-- A frame checked and taken apart (R78-R81); the rank of its errors is assumption 97, DESIGN CHOICE. -/
def State.decodeFrame (s : State) (ch : Nat) (f : Frame) : Decoded :=
  let a := R.PCABS ch
  let biss := s.chMode ch == 3
  let lead := s.fld a R.PCABS_LEAD
  let n := s.fld a R.PCABS_POSBITS
  let tr := s.fld a R.PCABS_TRAIL
  let posB := (f.bits.drop lead).take n
  let trB := (f.bits.drop (lead + n)).take tr
  let rest := f.bits.drop (lead + n + tr)
  let pos := if s.fld a R.PCABS_GRAY = 1 then grayVal posB else bitsVal posB
  let ne := rest.getD 0 false
  let nw := rest.getD 1 false
  let w := s.fld (R.PCCRC ch) R.PCCRC_CRCW
  let crcOk := bissCrc (s.fld (R.PCCRC ch) R.PCCRC_CRCPOLY) w (f.bits.take (lead + n + tr + 2)) ==
    2 ^ w - 1 - bitsVal ((rest.drop 2).take w)
  let ones := ((posB ++ trB).filter id).length + (rest.getD 0 false).toNat
  let parOk := match s.fld a R.PCABS_PAR with
    | 1 => ones % 2 == 0
    | 2 => ones % 2 == 1
    | _ => true
  let stat :=
    if !f.idle then 5
    else if biss then
      (if !f.ack then 3 else if !f.start then 4 else if !crcOk then 1 else if !ne then 6 else 0)
    else if !parOk then 2 else 0
  { stat := stat, pos := pos, trail := bitsVal trB, ne := biss && ne, nw := biss && nw }

/-- A frame request falls at the present edge: a pin epoch boundary, REQPER pin epochs after the last one (R83). -/
def State.frameDue (s : State) (ch : Nat) : Bool :=
  let per := s.fld (R.PCREQ ch) R.PCREQ_REQPER
  s.now % 8 == 0 && per != 0 && (s.chan ch).reqK.all (fun e => decide (e + 8 * per ≤ s.now))

/-- FRAME_REQUEST at the present boundary (R83): skipped while a frame or its TMO runs. -/
def State.frameRequest (s : State) (ch : Nat) : State :=
  let x := { s.chan ch with reqK := some s.now }
  if !(s.chMode ch == 2 || s.chMode ch == 3) || x.state == .off || !s.frameDue ch then s
  else if x.frameRun.isSome || decide (s.now < x.busyTill) then (s.setChan ch x).count (R.PCERR ch) R.PCERR_REQSKIP 1
  else s.setChan ch { x with frameRun := some s.now }

/-- The position that a good frame gives its timebase in 1/256 count (R105): signed or not, then unwrapped modulo 2^POSBITS
the shorter way round. -/
def State.frameValue (s : State) (t ch pos : Nat) : Int :=
  let n := s.fld (R.PCABS ch) R.PCABS_POSBITS
  let signed := s.fld (R.TBCFG t) R.TBCFG_MTSIGN == 1 && s.fld (R.PCABS2 ch) R.PCABS2_MTBITS != 0
  match (s.tb t).holding, (s.tb t).samples with
  | false, (_, v) :: _ => v + 256 * diffSpan (2 ^ n) pos (v / 256)
  | _, _ => 256 * (if signed then sx n pos else pos)

/-- A frame that counts as good is used (R75, R81-R83). -/
def State.goodFrame (s : State) (ch : Nat) (d : Decoded) (t0 : Nat) : State :=
  let x := s.chan ch
  let n := s.fld (R.PCABS ch) R.PCABS_POSBITS
  let lim := s.fld (R.PCJUMP ch) R.PCJUMP_LIMIT
  let jump := match x.lastGood with
    | some p => lim != 0 && decide (lim < (diffSpan (2 ^ n) d.pos p).natAbs)
    | none => false
  let s := s.setChan ch { x with badRun := 0, warn := s.chMode ch == 3 && !d.nw, lastGood := some d.pos }
  if jump then s.chFault ch 7
  else
    let y := s.chan ch
    let s := s.setChan ch { y with count := d.pos, edgeK := t0, edgeWall := s.wallPs t0 }
    let s := if y.state = .sync then s.chTrack ch else s
    (s.fedBy ch).foldl (fun s t => s.feedSample t (s.frameValue t ch d.pos) t0) s

/-- ENCODER_FRAME, reaching the word at edge `k` (R79-R83, R101). -/
def State.frameEvent (s : State) (ch k : Nat) (f : Frame) : State :=
  let s := s.advance k
  let x := s.chan ch
  match x.frameRun with
  | none => s
  | some k0 =>
    let d := s.decodeFrame ch f
    let y := { x with
      frameRun := none, busyTill := k + 200 * s.fld (R.PCABS2 ch) R.PCABS2_TMO, raw := d.pos, trail := d.trail
      ne := d.ne, nw := d.nw, cds := f.cds, frmstat := d.stat }
    let s := s.setChan ch y
    let s := if s.chMode ch = 3 ∧ f.ack = true then s.setFld (R.PCCRC ch) R.PCCRC_LINEDLY f.delay else s
    let s := if d.stat = 0 then s else s.count (R.PCERR ch) R.PCERR_BADFRM 1
    if !(x.state == .sync || x.state == .track) then s
    else if d.stat = 0 then s.goodFrame ch d (k0 + s.fld (R.PCABS2 ch) R.PCABS2_SAMPDLY)
    else
      let run := x.badRun + 1
      let lim := s.fld (R.PCABS2 ch) R.PCABS2_BADLIM
      let s := s.setChan ch { y with badRun := run }
      if (if lim = 0 then 3 else lim) ≤ run then
        s.chFault ch (if s.chMode ch == 3 && f.ack && f.start && !d.ne then 6 else 5)
      else s

/-! ### sin/cos -/

/-- The corrected pair, scaled by 2^30 (R84): cos × (1 + GAIN/32768) - PHASE/32768 × sin. -/
def State.sincosPair (s : State) (ch : Nat) (si co : Int) : Int × Int :=
  let sn := si - sx 16 (s.fld (R.PCSCOFS ch) R.PCSCOFS_OFFS)
  let c := co - sx 16 (s.fld (R.PCSCOFS ch) R.PCSCOFS_OFFC)
  let g := sx 16 (s.fld (R.PCSCGP ch) R.PCSCGP_GAIN)
  let p := sx 16 (s.fld (R.PCSCGP ch) R.PCSCGP_PHASE)
  (sn * 32768, c * (32768 + g) - p * sn)

/-- The quadrant of a direction, 0 to 3 from the positive cos axis, with the direction turned back into the first one. -/
def quadrant (sn c : Int) : Nat × Int × Int :=
  if 0 ≤ sn ∧ 0 < c then (0, sn, c)
  else if 0 < sn ∧ c ≤ 0 then (1, -c, sn)
  else if sn ≤ 0 ∧ c < 0 then (2, -sn, -c)
  else (3, c, -sn)

/-- Cosine and sine of 90°/2, 90°/4 and so on to 90°/2^14, in units of 2^-96, rounded to the nearest. -/
def halvings : List (Int × Int) :=
  [(0xb504f333f9de6484597d89b3, 0xb504f333f9de6484597d89b3),
   (0xec835e79946a31457e610232, 0x61f78a9abaa58b4698916153),
   (0xfb14be7fbae581562172a362, 0x31f17078d34c156c97323004),
   (0xfec46d1e89292cf041390efe, 0x1917a6bc29b42be1d8e72d91),
   (0xffb10f1bcb6bef1d421e8edb, 0xc8fb2f886ec09f376a17955),
   (0xffec4304266865d956575523, 0x648557de8d99f7e4e29cf6e),
   (0xfffb10b4dc96dabbb47903f8, 0x3243a3f9bd8f08cc3c75f42),
   (0xfffec42c7454926b38e31078, 0x1921f0fe6700711ab967fe7),
   (0xffffb10b10e80e953031437d, 0xc90fc5f66525d257480f79),
   (0xffffec42c3773235ec9e2e76, 0x6487eabb991cb611ad1d7b),
   (0xfffffb10b0d19f76491a7032, 0x3243f655d966c0c3b0abf3),
   (0xfffffec42c33a50c1e35716e, 0x1921fb49ee4ea67a2535d1),
   (0xffffffb10b0cdd15f048884e, 0xc90fda8d75abdcb23c56e),
   (0xffffffec42c33682aa9dc5cd, 0x6487ed4e7b3cc45ac447f)]

/-- The greatest multiple of 90°/2^14 that is not above the angle of a direction in the first quadrant: at each halving the direction is
turned back when it lies beyond. The table's error, 2^-97, is far below what two corrected samples of 31 bits can resolve, and
the one direction of the quadrant that lies on a boundary, 45°, is met exactly, since its cosine and sine are equal. -/
def angleFloor (sn c : Int) : Nat :=
  (halvings.foldl (fun (p : Nat × Int × Int) h =>
    let (n, v, u) := p
    let cross := v * h.1 - u * h.2
    if 0 ≤ cross then (2 * n + 1, cross, u * h.1 + v * h.2) else (2 * n, v * 2 ^ 96, u * 2 ^ 96)) (0, sn, c)).1

/-- The 16-bit angle of a direction (R84): exact on the axes and at 45° between them, and elsewhere one of the two values that it lies
between, as Config says (assumption 22, DESIGN CHOICE). -/
def angle16 (sn c : Int) : Nat :=
  if sn = 0 ∧ c = 0 then Config.angleOfNothing % 65536
  else
    let q := quadrant sn c
    let n := q.1 * 16384 + angleFloor q.2.1 q.2.2
    if sn = 0 ∨ c = 0 ∨ sn.natAbs = c.natAbs then n
    else (n + (Config.angleUp sn c).toNat) % 65536

/-- The angle of a corrected pair; PCCTL.DIR reverses it. -/
def State.sincosAngle (s : State) (ch : Nat) (p : Int × Int) : Nat :=
  angle16 (if s.fld (R.PCCTL ch) R.PCCTL_DIR = 1 then -p.1 else p.1) p.2

/-- The amplitude in 4 mV, rounded down (assumption 89, DESIGN CHOICE): an ADC LSB is 2 V / 4096 (R534), the pair is scaled by 32768. -/
def sincosAmp (p : Int × Int) : Nat := Nat.sqrt (p.1 * p.1 + p.2 * p.2).natAbs / 32768 * 125 / 1024

/-- Count and fraction in 1/256 count from whole periods and angle (R84). -/
def sincosPos (interp : Nat) (periods : Int) (angle : Nat) : Int × Nat :=
  (periods * (2 ^ interp : Nat) + (angle / 2 ^ (16 - interp) : Nat), angle * 2 ^ interp / 256 % 256)

/-- SINCOS_SAMPLE, reaching the word at edge `k`, 25 PSCLK after the sample instant (R84-R86, R101). -/
def State.sincosEvent (s : State) (ch k : Nat) (si co : Int) (clip : Bool) : State :=
  let s := s.advance k
  let x := s.chan ch
  if s.chMode ch != 4 || x.state == .off then s
  else
    let p := s.sincosPair ch si co
    let ang := s.sincosAngle ch p
    let whole := sincosAmp p
    let amp := min whole 255
    let low := decide (whole < s.fld (R.PCSC ch) R.PCSC_AMIN)
    let high := clip || decide (s.fld (R.PCSC ch) R.PCSC_AMAX < whole)
    let seen := { x with amp := amp, ampLow := some (min amp (x.ampLow.getD 255)), ampHigh := max amp x.ampHigh }
    let y := { seen with
      lowRun := if low then x.lowRun + 1 else 0, highRun := if high then x.highRun + 1 else 0
      goodRun := if low || high then 0 else x.goodRun + 1, sampled := true }
    let step := diffSpan 65536 ang x.angle
    if x.state = .fault then s.setChan ch seen
    else if 4 ≤ y.lowRun then (s.setChan ch y).chFault ch 8
    else if 4 ≤ y.highRun then (s.setChan ch y).chFault ch 9
    else if (x.state = .track ∨ x.sampled = true) ∧ 16384 ≤ step.natAbs then (s.setChan ch y).chFault ch 10
    else if x.state = .sync ∧ y.goodRun < 16 then s.setChan ch { y with angle := ang, periods := 0 }
    else
      let periods : Int := if x.state = .sync then 0
        else if (x.angle : Int) + step < 0 then x.periods - 1
        else if 65536 ≤ (x.angle : Int) + step then x.periods + 1
        else x.periods
      let interp := s.fld (R.PCSC ch) R.PCSC_INTERP
      let pos := sincosPos interp periods ang
      let t0 := k - 25
      let up := if step = 0 then x.stepUp else decide (0 < step)
      let s := s.setChan ch { y with
        state := .track, cause := 0, angle := ang, periods := periods, count := diffSpan (2 ^ 40) pos.1 0, frac := pos.2
        stepUp := up, idxRef := if up == x.stepUp then x.idxRef else none, edgeK := t0, edgeWall := s.wallPs t0 }
      (s.fedBy ch).foldl (fun s t => s.feedSample t (pos.1 * 256 + pos.2) t0) s

/-! ### Mains -/

def MzState.code : MzState → Nat
  | .off => 0
  | .sync => 1
  | .track => 2
  | .lost => 3

/-- MZSTAT.STATE becomes `st`; each change raises MAINS (R88). -/
def State.mzState (s : State) (st : MzState) : State :=
  let s' := { s with mains := { s.mains with state := st } }
  if st = s.mains.state then s else (s'.setFld R.MZSTAT R.MZSTAT_STATE st.code).arrive 0x90

/-- round(a / b), half rounding up. -/
def roundHalf (a : Int) (b : Nat) : Int := (2 * a + b) / (2 * max b 1 : Nat)

/-- A usable crossing stamped `st` with period `p` (R109, R110): cycle 0 at the first of all, then the cycles that fit. More
than one, or a resumption after an earlier one, is a discontinuity. -/
def State.mainsUse (s : State) (st : Int) (p : Nat) (resumed : Bool) : State :=
  let x := s.mains
  let tb := s.tb 28
  let adv := match x.useK with
    | none => 0
    | some s0 => max (roundHalf (st - s0) x.useP) (if resumed then 0 else 1)
  let s := { s with mains := { x with cycle := x.cycle + adv, useK := some st, useP := p } }
  let vel := ((2 ^ 48 / max p 1 : Nat) : Int)
  let s := s.setTb 28 { tb with state := .run, cause := 0, ref := true, holding := false }
  let w := (s.formTb 28 s.now).1
  let s := if (resumed && x.useK.isSome) || decide (1 < adv) then s.jumpTo 28 w
    else (s.moveTo 28 w).setTb 28 { (s.moveTo 28 w).tb 28 with fresh := true }
  s.setVel 28 vel

/-- MAINS_CROSSING, reaching the word at edge `k`: `rise` is the PSCLK of the +H/2 instant, `stamp` the corrected stamp
before MZSKEW, and `high` for how many PSCLK the comparator output then stayed high, which MZFILT judges in µs (R87-R89, R109). -/
def State.mainsCrossing (s : State) (k : Nat) (rise stamp : Int) (high : Nat) : State :=
  let s := s.advance k
  let x := s.mains
  let blanked := match x.riseK with
    | some r => decide (rise - r < (20000 * s.fld R.MZCTL R.MZCTL_MZBLANK : Nat))
    | none => false
  if x.state = .off ∨ blanked = true ∨ high < 200 * s.fld R.MZCTL R.MZCTL_MZFILT then s
  else
    let st := stamp + sx 24 (s.fld R.MZSKEW R.MZSKEW_SKEW)
    let per := x.refK.map (fun r => (st - r).toNat)
    let inr := match per with
      | some p => decide (200 * s.fld R.MZWIN R.MZWIN_PMIN ≤ p ∧ p ≤ 200 * s.fld R.MZWIN R.MZWIN_PMAX)
      | none => false
    let run := if inr then x.runLen + 1 else 0
    let s := { s with mains := { x with
      stampW := wrapN 64 (s.wallPs st), refK := some st, riseK := some rise, runLen := run, sinceK := k } }
    let s := match per with
      | some p => s.wr R.MZPER (BitVec.ofNat 32 p)
      | none => s
    let s := if per.isSome && !inr then s.setFld R.MZSTAT R.MZSTAT_OUTRANGE 1 else s
    if !inr then s
    else if x.state = .track then s.mainsUse st (per.getD 0) false
    else if 2 ≤ run then (s.mzState .track).mainsUse st (per.getD 0) true
    else s

/-- MAINS_LOSS at edge `k` (R88, R89, R110). -/
def State.mainsLoss (s : State) (k : Nat) : State :=
  let x := s.mains
  let loss := s.fld R.MZLOSS R.MZLOSS_LOSS
  if (x.state == .sync || x.state == .track) && loss != 0 && decide (x.sinceK + 8 * loss ≤ k) then
    let s := { s with mains := { x with runLen := 0, refK := none } }
    (s.mzState .lost).tbFault 28 2
  else s

/-- A write of MZCTL (R89): EN switches the comparator. -/
def State.mzctlWrite (s : State) (w : Who) (v : Word) : State :=
  let old := s.rd R.MZCTL
  let nv := v &&& wmaskAt R.MZCTL
  let s := (s.wr R.MZCTL nv).logCfg w R.MZCTL old nv
  let x := s.mains
  if R.MZCTL_EN.get v = 1 then
    if x.state = .off then
      let s := { s with mains := { x with runLen := 0, refK := none, riseK := none, sinceK := s.now } }
      let tb := s.tb 28
      (s.setTb 28 { tb.stopped s.now with state := .run, cause := 0, holding := true }).mzState .sync
    else s
  else if x.state = .off then s
  else (s.mzState .off).tbOff 28

end Sys2Proof.Machine
end

