-- ==== Sys2Proof/Machine/Syllabus.lean ====
section
/-! DEFINITION. The Syllabus and the Slot Economy: queue commands and registers (R150-R155), the refill engine (R156-R163)
and queues and modes (R165). -/

namespace Sys2Proof.Machine

/-- The result of the last write to queue `q`: 0 OK, 1 RIGHTS, 2 NOTNOW, 3 BADCFG, 4 BUSY. -/
def State.qStat (s : State) (q code : Nat) : State := s.setQueue q { s.queue q with wstat := code }

/-- `n` bytes from `a` lie wholly in shared SRAM. -/
def inSramRange (a n : Nat) : Bool := inSram a && inSram (a + n - 1)

/-- The requester may write the registers of queue `q` (R155). -/
def State.qRights (s : State) (w : Who) (q : Nat) : Bool :=
  if (s.queue q).state == .off then w.ring01
  else w.priv || (w.ring01 && s.fld (R.QCFG q) R.QCFG_OWNER == w.id && (s.fld (R.QCFG q) R.QCFG_WORLD == 1) == w.guard)

/-- Guard has been released: the independent step of DAWN after it (R153). -/
def State.guardReleased (s : State) : Bool := (s.fld R.CORERUN R.CORERUN_RUN).testBit 0

/-- A prefetch of the next record of queue `q` is issued when there is one, the buffer is empty and none is outstanding
(R156, R159). -/
def State.issueFetch (s : State) (q : Nat) : State :=
  let x := s.queue q
  let nextLeft := if x.inSlot then x.left - 1 else x.left
  if x.state == .running && x.buf.isNone && !x.fetching && decide (0 < nextLeft) then
    s.setQueue q { x with fetching := true }
  else s

/-- BIND (R153). -/
def State.qBind (s : State) (w : Who) (q : Nat) : State :=
  let sl := s.queueSlot q
  let lg := s.fld (R.QCFG q) R.QCFG_LOG2SIZE
  if !(s.mode.active || (s.mode == .dawn && s.guardReleased)) then s.qStat q 2
  else if (s.slot sl).a.state != 0 || (s.queueOf sl).isSome ||
      decide (s.freeUnbound.length < s.fld R.TTRESV R.TTRESV_GRESV + 1) then s.qStat q 4
  else if decide (lg < 4 ∨ 12 < lg) || !inSramRange (s.qBase q) (16 * s.qSize q) ||
      (s.fld (R.QCFG q) R.QCFG_REPEN == 1 && !inSramRange (s.qRep q) (8 * s.qSize q)) then s.qStat q 3
  else
    let s := (s.setFld (R.QCFG q) R.QCFG_OWNER w.id).setFld (R.QCFG q) R.QCFG_WORLD w.guard.toNat
    (s.setQueue q { Queue.reset with state := .stopped }).logWho w 1 (R.QCMD q) 0 1

/-- START (R154): refill starts at HEAD, and a queue with no record is STARVED, which is no episode of R159. Records already prefetched are
fetched again (R163). -/
def State.qRun (s : State) (q : Nat) : State :=
  let x := s.queue q
  let y := { x.emptied with modestop := false }
  if x.left = 0 then s.setQueue q { y with state := .starved }
  else (s.setQueue q { y with state := .running }).issueFetch q

/-- Reports that wait when their queue is unbound are still written, and hold no HEAD back. -/
def State.orphanReports (s : State) (q : Nat) : State :=
  { s with reports := s.reports.map (fun r => if r.queue = q then { r with queue := 16 } else r) }

/-- A write of QCMD, 1 BIND to 6 DROP (R154, R155); 0 and 7 do nothing. -/
def State.qCmd (s : State) (w : Who) (q cmd : Nat) : State :=
  let x := s.queue q
  let halted := x.state == .stopped || x.state == .halted
  if !s.qRights w q then s.qStat q 1
  else if cmd = 0 ∨ cmd = 7 then s.qStat q 0
  else match cmd with
    | 1 => if x.state = .off then s.qBind w q else s.qStat q 2
    | 2 =>
      if halted && !(s.mode == .safe || s.mode == .service || s.mode == .lockout) then (s.qStat q 0).qRun q
      else s.qStat q 2
    | 3 =>
      if x.state == .running || x.state == .starved || x.state == .suspended then
        let sl := s.queueSlot q
        let s := if x.inSlot && (s.slot sl).a.state != 0 then s.endSlotOnly sl 6 else s
        s.setQueue q { x.emptied with state := .stopped, wstat := 0 }
      else s.qStat q 2
    | 4 =>
      if halted then
        ((s.setQueue q { x with cons := x.tail, wstat := 0 }).freeHead q).logWho w 1 (R.QCMD q) x.head x.tail
      else s.qStat q 2
    | 5 =>
      if halted then ((s.setQueue q { x with state := .off, modestop := false, wstat := 0 }).orphanReports q).logWho w 1 (R.QCMD q) 0 5
      else s.qStat q 2
    | _ =>
      if halted && x.left != 0 then
        ((s.qStat q 0).consume q 21 0 false false false true).logWho w 1 (R.QCMD q) x.cons 6
      else s.qStat q 2

/-- A write of QTAIL (R151, R159): records are only added, never more than the ring holds; a STARVED queue fetches. -/
def State.qTailWrite (s : State) (w : Who) (q v : Nat) : State :=
  let x := s.queue q
  let new := ({ x with tail := v } : Queue).count
  if !s.qRights w q then s.qStat q 1
  else if new < x.count ∨ s.qSize q < new then s.qStat q 3
  else
    let st := if x.state == .starved && new != 0 && v != x.cons then .running else x.state
    (s.setQueue q { x with tail := v, wstat := 0, state := st }).issueFetch q

/-- A write of QCFG (R153, R155): SLOT and LOG2SIZE while OFF only. -/
def State.qCfgWrite (s : State) (w : Who) (q : Nat) (v : Word) : State :=
  let a := R.QCFG q
  let old := s.rd a
  let nv := Word.mix old v (wmaskAt a)
  let key (x : Word) := (R.QCFG_SLOT.get x, R.QCFG_LOG2SIZE.get x)
  let bound := (s.queue q).state != .off
  if !s.qRights w q then s.qStat q 1
  else if bound && key nv != key old then s.qStat q 2
  else if bound && R.QCFG_REPEN.get nv == 1 && R.QCFG_REPEN.get old == 0 &&
      !inSramRange (s.qRep q) (8 * s.qSize q) then s.qStat q 3
  else (s.wr a nv).qStat q 0

/-- A write of QBASE or QREP (R155): while OFF only. -/
def State.qBaseWrite (s : State) (w : Who) (q a : Nat) (v : Word) : State :=
  if !s.qRights w q then s.qStat q 1
  else if (s.queue q).state != .off then s.qStat q 2
  else (s.wr a (v &&& wmaskAt a)).qStat q 0

/-- The modes in which the refill engine loads slots (R33, R165). -/
def State.refills (s : State) : Bool := s.mode == .prepare || s.mode == .run

/-- The record that queue `q` has taken goes into its slot at the present edge, on the word presented there (R156, R160): armed or staged,
reached late when it is behind. The prefetch of the following one is issued. -/
def State.loadSlot (s : State) (q : Nat) (p : Period) : State :=
  let s := (s.setQueue q { s.queue q with buf := none, inSlot := true, waited := false, taken := none }).issueFetch q
  s.armSlot (s.queueSlot q) 6 (s.fld (R.QCFG q) R.QCFG_WORLD == 1) p (s.tb p.tb).prev s.now true none

/-- REFILL of queue `q` at edge `k` (R156-R160, R162): a record that has failed a check, 2 PSCLK after it was taken, is consumed and halts the
queue; one that has passed enters the slot 11 PSCLK after it was taken. -/
def State.refill (s : State) (q k : Nat) : State :=
  let s := s.advance k
  let x := s.queue q
  match x.buf, x.taken with
  | some p, some e =>
    if x.state != .running || x.inSlot || !s.refills then s
    else if x.code != 0 && decide (e + 2 ≤ s.now) then
      ((s.setQueue q { x with buf := none, taken := none }).consume q x.code 0 false false false true).haltQueue q x.code
    else if x.code == 0 && decide (e + 11 ≤ s.now) then s.loadSlot q p
    else s
  | _, _ => s

/-- PREFETCH_COMPLETE of queue `q` at edge `k` (R157, R159, R161): the record is read into the buffer, and taken at once when the slot waits
for it. While a report buffer that was full is emptied, the prefetch is delayed, and the wait is counted. -/
def State.fetchDone (s : State) (q k : Nat) : State :=
  let s := s.advance k
  let x := s.queue q
  if !x.fetching then s
  else if s.repFirst then
    if x.waited then s else (s.setQueue q { x with waited := true }).count (R.QCNT q) R.QCNT_PFWAIT 1
  else
    let i := (if x.inSlot then x.cons + 1 else x.cons) % s.qSize q
    let a := s.qBase q + 16 * i
    let r := s.eccRead a 16
    let s := r.1
    let p := Period.ofWords (s.ld 4 a) (s.ld 4 (a + 4)) (s.ld 4 (a + 8)) (s.ld 4 (a + 12))
    s.setQueue q { x with
      fetching := false, buf := some p, badBuf := r.2, waited := false, taken := if x.inSlot then none else some s.now, code := 0 }

/-- A report may take the bus: it goes after prefetches and MEMW writes, but first while a full buffer is emptied (R161). -/
def State.reportsGo (s : State) : Bool :=
  s.repFirst || (s.memq.isEmpty && (upFrom 0 16).all (fun q => !(s.queue q).fetching))

/-- REPORT_POSTED (R161, R548): the oldest report, its status settled, is written, and HEAD advances past its record. -/
def State.reportPosted (s : State) : State :=
  match s.reports with
  | [] => s
  | r :: rest =>
    if !r.ready || !s.reportsGo then s
    else
      let s := { s with reports := rest, repFirst := s.repFirst && decide (8 < rest.length) }.store r.addr 8 (r.w0 + 2 ^ 32 * r.w1)
      if r.queue < 16 ∧ (s.queue r.queue).state ≠ .off then s.freeHead r.queue else s

/-! ### Queues and modes (R165) -/

/-- Every queue changed by `f`. -/
def State.mapQueues (s : State) (f : Queue → Queue) : State :=
  (upFrom 0 16).foldl (fun s q => s.setQueue q (f (s.queue q))) s

/-- RUN to HOLD: RUNNING and STARVED queues are suspended. -/
def Queue.hold (x : Queue) : Queue :=
  if x.state = .running ∨ x.state = .starved then { x with state := .suspended } else x

/-- A queue that stops: with MODESTOP on entry to SAFE, LOCKOUT and SERVICE, and HALTED ones as they are. -/
def Queue.modeStop (modestop : Bool) (x : Queue) : Queue :=
  if x.state = .off ∨ x.state = .halted then x
  else { x.emptied with state := .stopped, modestop := modestop }

/-- HOLD to RUN, before the HELD slots are resolved: suspended queues resume, and one that had no record goes on being STARVED. -/
def State.resumeQueues (s : State) : State :=
  (upFrom 0 16).foldl (fun s q =>
    let x := s.queue q
    if x.state != .suspended then s
    else if x.inSlot || x.left != 0 then (s.setQueue q { x with state := .running }).issueFetch q
    else s.setQueue q { x with state := .starved }) s

/-- SAFE to PREPARE: queues with MODESTOP restart at HEAD. -/
def State.restartQueues (s : State) : State :=
  (upFrom 0 16).foldl (fun s q => if (s.queue q).modestop then s.qRun q else s) s

end Sys2Proof.Machine
end

