-- ==== Sys2Proof/Machine/Enward.lean ====
section
/-! DEFINITION. The Enward Ring: links and roll call (R348-R353), the cycle's start and ring time (R354, R357), publications (R358-R362),
messages received (R365-R367), forecasts (R368-R374), breaks and recovery (R377-R380). -/

namespace Sys2Proof.Machine

/-! ### States -/

def EnState.code : EnState → Nat
  | .down => 0
  | .roll => 1
  | .up => 2
  | .wrapped => 3
  | .lost => 4
  | .repeats => 5

/-- ENSTAT.STATE becomes `st` (R379): a change raises ENRING, and a member that leaves the ring gives OWNER back (R357). -/
def State.enState (s : State) (st : EnState) : State :=
  if s.en.state == st then s
  else
    let back := s.enJoined && !s.en.master && (st == .lost || st == .repeats || st == .down)
    let s := { s with en := { s.en with state := st } }.arrive 0xC3
    if back then s.setFld R.WALLCTL R.WALLCTL_OWNER s.en.owner0 else s

/-- ENSTAT. -/
def State.enStat (s : State) : Word :=
  let x := s.en
  BitVec.ofNat 32 (x.state.code + 8 * x.addr + 256 * x.ndev + 16384 * x.brk.isSome.toNat + 32768 * x.wrapHere.toNat +
    65536 * (x.brk.getD 0 % 32) + 2 ^ 24 * s.enSilent)

/-! ### Publications and subscriptions -/

/-- Subscription `i` is resolved by the publication table (R360); a new NOPUB raises ENSUBFLT. -/
def State.enResolve (s : State) (i : Nat) : State :=
  let a := R.ENSUB i
  let key := (s.fld a R.ENSUB_OWNER, s.fld a R.ENSUB_INDEX)
  let was := s.fld a R.ENSUB_NOPUB
  if s.fld a R.ENSUB_EN = 0 then s.setFld a R.ENSUB_NOPUB 0
  else
    match s.en.table.findIdx? (· == key) with
    | some n => (s.setFld a R.ENSUB_NOPUB 0).setFld a R.ENSUB_SLOT n
    | none => if was = 0 then (s.setFld a R.ENSUB_NOPUB 1).arrive 0xC4 else s

/-- The device's own publications take the record slots that the table gives them (R358). -/
def State.enTakeSlots (s : State) : State :=
  (upFrom 0 4).foldl (fun (s : State) p =>
    let a := R.ENPUB p
    if s.fld a R.ENPUB_EN = 0 then s.setFld a R.ENPUB_NOSLOT 0
    else
      match s.en.table.findIdx? (· == (s.en.addr, p)) with
      | some n =>
        let s := (s.setFld a R.ENPUB_SLOT n).setFld a R.ENPUB_NOSLOT 0
        { s with en := { s.en with pubs := s.en.pubs ++ [(n, s.fld a R.ENPUB_TB)] } }
      | none => s.setFld a R.ENPUB_NOSLOT 1) { s with en := { s.en with pubs := [] } }

/-! ### Roll call and join -/

/-- The device cannot answer for the ring key (R376): SEC is on and the key slot is not SET or its DRBG cannot deliver. -/
def State.enKeyless (s : State) : Bool :=
  s.fld R.ENCFG R.ENCFG_SEC == 1 &&
    ((s.key (3 + s.fld R.ENCFG R.ENCFG_KEYSEL)).state != .set || (s.drbgDraw 7 4).isNone)

/-- The CMAC of characters under the ring key. -/
def State.enMac (s : State) (chars : List Byte) : List Byte :=
  (cmac (s.ringKey (s.fld R.ENCFG R.ENCFG_KEYSEL)) (chars.map BitVec.toNat)).map (BitVec.ofNat 8)

/-- Phase 3 of roll call (R376): the master's nonce, drawn by the master; this device's answer, the CMAC of that nonce, its own nonce and its
address; and the ring nonce, the CMAC of the master's nonce and every answer in address order. With SEC = 0 checks are CRC-32. The
nonces have 128 bits (assumption 94, DESIGN CHOICE). -/
def State.enAuth (s : State) (r : RollResult) (master : Bool) : State :=
  if s.fld R.ENCFG R.ENCFG_SEC = 0 then { s with en := { s.en with ringKey := none, nonce := [] } }
  else
    let draw (s : State) : List Byte × State :=
      match s.drbgDraw 7 4 with
      | some d => ((wordBytes d.1).map (BitVec.ofNat 8), d.2)
      | none => ([], s)
    let a := if master then draw s else (r.nonce, s)
    let b := draw a.2
    let own := s.enMac (a.1 ++ b.1 ++ enBytes 1 (r.addr.getD 0))
    let nonce := s.enMac (a.1 ++ r.below ++ own ++ r.above)
    { b.2 with en := { b.2.en with ringKey := some (s.fld R.ENCFG R.ENCFG_KEYSEL), nonce := nonce } }

/-- The registers that report a roll call (R351, R352, R381). -/
def State.enReport (s : State) (r : RollResult) (auth : Bool) : State :=
  let s := s.wr R.ROLLSTAT (BitVec.ofNat 32 (r.demoted.toNat + 2 * r.coll.toNat + 4 * r.modemis.toNat + 8 * r.overrun.toNat +
    16 * auth.toNat + 65536 * min 65535 r.dur))
  let s := s.setFld R.ENSEC R.ENSEC_SEC (s.fld R.ENCFG R.ENCFG_SEC)
  let s := if auth then (s.count R.ENSEC R.ENSEC_AUTH 1).arrive 0xC5 else s
  let s := if r.demoted || r.coll || r.rival || r.modemis then s.arrive 0xC7 else s
  let s := (upFrom 0 32).foldl (fun (s : State) a => s.wr (R.ENHOP a) (BitVec.ofNat 32 (nth r.hops a % 2 ^ 24))) s
  (upFrom 0 2).foldl (fun (s : State) p => s.setFld (R.ENLINK p) R.ENLINK_DELAY (nth r.links p)) s

/-- A member owns its wall time through the ring from the end of roll call (R357): OWNER is RING, recorded with PATH 6, WRATE is
1, and one step to ring time is pending. -/
def State.enOwnWall (s : State) (step : Int) : State :=
  let old := s.rd R.WALLCTL
  let s := (s.setFld R.WALLCTL R.WALLCTL_OWNER 1).setFld R.WALLCTL R.WALLCTL_WRATE 1
  let s := if R.WALLCTL_OWNER.get old = 1 then s
    else s.log 6 false 0 0 0 R.WALLCTL (old &&& wmaskAt R.WALLCTL).toNat (s.rd R.WALLCTL &&& wmaskAt R.WALLCTL).toNat
  { s with wall := { s.wall with step := some step } }

/-- A roll call or a join completes (R351-R353, R379): with an address the device participates, without one it repeats. -/
def State.enComplete (s : State) (r : RollResult) : State :=
  if s.en.state != .roll then s
  else
    let auth := r.auth || s.enKeyless
    let master := s.fld R.ENCFG R.ENCFG_ROLE == 1 && !r.demoted
    let s := if auth then s else s.enAuth r master
    let s := { s.enReport r auth with enq := s.enq.filter (fun m => m.typ != 7) }
    match r.addr, auth with
    | some a, false =>
      let s := { s with en := { s.en with
        addr := a, ndev := r.ndev, master := master, table := r.table, brk := none, wrapHere := false, turned := [], life := [] } }
      let s := (upFrom 0 12).foldl State.enResolve s.enTakeSlots
      let s := if master then s else s.enOwnWall r.step
      s.enState .up
    | _, _ => s.enState .repeats

/-- A member asks to join by a ROLL request in the safety class (R353); its content is not given (assumption 94, DESIGN CHOICE). -/
def State.enRequest (s : State) : State :=
  if s.fld R.ENCFG R.ENCFG_ROLE == 1 then s
  else
    let f := s.free
    f.2.enSend { typ := 7, cls := 0, bcast := false, dest := 0, tag := 0, body := f.1.toNat }

/-- Roll call starts, or the device waits for it or asks to join (R353, R379): from REPEAT, and only with EN = 1. -/
def State.enStart (s : State) : State :=
  if s.variant.enward && s.fld R.ENCFG R.ENCFG_EN == 1 && s.en.state == .repeats then (s.enState .roll).enRequest else s

/-- ENCMD.ROLL (R351): on the master in PREPARE. -/
def State.encmdRoll (s : State) (w : Who) : State :=
  let ok := s.mode == .prepare && s.en.master && s.enJoined
  if ok then (s.enState .roll).wrReq w.id R.ENWSTAT 0 else s.wrReq w.id R.ENWSTAT 2

/-- A write that the chapter allows to no one, or not to this requester, is refused with RIGHTS in ENWSTAT (the Registers section). -/
def State.enRights (s : State) (w : Who) : State := s.wrReq w.id R.ENWSTAT 1

/-- ENCMD.CLRCNT clears every counter of the window. -/
def State.encmdClrcnt (s : State) : State :=
  let s := [R.ENERR, R.ENFCCNT, R.ENFCCNT2, R.ENDROP].foldl (fun (s : State) a => s.wr a 0) s
  s.setFld R.ENSEC R.ENSEC_AUTH 0

/-! ### Links -/

/-- The link of port `p` goes down (R349, R377): `lanes` still hold lock. A joined device wraps, from the next cycle start on. -/
def State.linkDown (s : State) (p lanes : Nat) : State :=
  let a := R.ENLINK p
  if s.fld a R.ENLINK_UP = 0 then s
  else
    let s := (s.setFld a R.ENLINK_UP 0).setFld a R.ENLINK_LANES lanes
    if s.enJoined then { s with en := { s.en with wrapHere := true } }.enState .wrapped else s

/-- LINK_UP at port `p` after 64 good cycles in both directions (R349, R377): the master announces a heal. -/
def State.linkUp (s : State) (p delay : Nat) : State :=
  let a := R.ENLINK p
  if s.en.state == .down then s
  else
    let s := ((s.setFld a R.ENLINK_UP 1).setFld a R.ENLINK_LANES 255).setFld a R.ENLINK_DELAY delay
    { s with en := { s.en with heal := s.en.master && s.en.state == .wrapped } }

/-! ### Forecasts at the owner (R368) -/

/-- The instant at which slot `i` is predicted to cross, when it is ARMED, PRIMED and its timebase moves along EDIR: by the word and the
velocity that the slots compare at the present edge. -/
def State.fcPredict (s : State) (i : Nat) : Option Nat :=
  let c := (s.slot i).a
  let t := s.tb c.per.tb
  let v : Int := if c.per.tb = 29 then (2 ^ 32 : Nat) else t.pvel
  let d := c.dist (s.span c.per.tb) t.prev
  if c.state == 2 && c.per.fcast == 1 && c.primed && !c.noDir && (if c.down then decide (v < 0) else decide (0 < v)) && decide (d < 0) then
    let n := (-d).toNat * 2 ^ 24
    some (s.wallPs s.now + (n + v.natAbs - 1) / v.natAbs)
  else none

/-- A FORECAST of slot `i` for instant `tp` is sent (R368). One that finds its queue full is not sent, and the forecast stays as it was
(R366). -/
def State.fcTell (s : State) (i tp gen : Nat) : State :=
  let m : EnMsg :=
    { typ := 1, cls := 1, bcast := true, dest := 0, tag := (s.slot i).a.per.tag, body := tp % 2 ^ 48 + gen * 2 ^ 48 }
  match s.enPush m with
  | some s => { s with fcOut := s.fcOut.put i { gen := gen, tp := tp } }.count R.ENFCCNT2 R.ENFCCNT2_SENT 1
  | none => (s.enRefused 1).count R.ENFCCNT2 R.ENFCCNT2_FCDROP 1

/-- The forecast unit examines slot `i` at a cycle start (R368). -/
def State.fcExamine (s : State) (i : Nat) : State :=
  match s.fcPredict i, s.fcOut.find i with
  | none, _ => s
  | some tp, none => if tp ≤ s.wallPs s.now + 800 * s.fld R.ENFCCFG R.ENFCCFG_LOOK then s.fcTell i tp 0 else s
  | some tp, some o =>
    if s.fld R.ENFCCFG R.ENFCCFG_FCTOL < ((tp : Int) - o.tp).natAbs then s.fcTell i tp ((o.gen + 1) % 256) else s

/-! ### Forecasts at the receiver (R371-R374) -/

/-- The enabled map entries for an owner and a TAG. -/
def State.fcMatch (s : State) (src tag : Nat) : List Nat :=
  (upFrom 0 32).filter (fun e =>
    let a := R.FCKEY e
    s.fld a R.FCKEY_EN == 1 && s.fld a R.FCKEY_OWNER == src && s.fld a R.FCKEY_TAG == tag)

/-- The period of map entry `e`. -/
def State.fcPeriod (s : State) (e : Nat) : Period :=
  let w (j : Nat) := (s.rd (R.FCPER e j)).toNat
  .ofWords (w 0) (w 1) (w 2) (w 3)

/-- Slots that the forecast unit holds (TTOCC.PRESTG). -/
def State.preStaged (s : State) : Nat :=
  ((upFrom 0 32).filter (fun i => (s.slot i).a.state != 0 && (s.slot i).fc.isSome)).length

/-- The slot that the limits of R167 give the forecast unit. -/
def State.fcSlot (s : State) : Option Nat :=
  let free := s.freeUnbound
  if s.preStaged < s.fld R.TTRESV R.TTRESV_ENQ && decide (s.fld R.TTRESV R.TTRESV_GRESV < free.length) then
    free.find? (fun i => !s.unsettled i)
  else none

/-- Checks 3 to 7 of R125 with the entry's world; 0 when they pass. -/
def State.fcCheck (s : State) (e : Nat) : Nat :=
  let p := s.fcPeriod e
  if s.malformed p s.fcSlot then resBADREC
  else if s.absentUnit p then resABSENT
  else if s.fld (R.FCKEY e) R.FCKEY_WORLD == 0 && s.guardTarget p then resRIGHTS
  else if s.tbBars p.tb then resTBFAULT
  else if s.refBars p then resUNREF
  else 0

/-- The map entry's slot is still held for it. -/
def State.fcLive (s : State) (e : Nat) : Bool :=
  let x := s.slot (s.fcEntry e).slot
  x.fc == some e && x.a.state != 0

/-- A pre-stage is attempted for map entry `e` (R371); a forecast that the limits prevent is counted once (R167). -/
def State.fcTry (s : State) (e : Nat) : State :=
  let x := s.fcEntry e
  let code := s.fcCheck e
  let key := R.FCKEY e
  let lead := 800 * s.fld R.ENFCCFG R.ENFCCFG_ARMLEAD
  if !s.mode.active then s.setFcEntry e { x with state := .trying }
  else if code != 0 then s.setFcEntry e { x with state := .none, code := code, dead := true }
  else
    match s.fcSlot with
    | none =>
      let s := s.setFcEntry e { x with state := .trying, code := 0, counted := true }
      if x.counted then s else s.count (R.TTREFUSE 1) R.TTREFUSE_B2 1
    | some i =>
      let stage := s.fld key R.FCKEY_MODE == 1 || decide (s.wallPs s.now + lead < x.tp)
      let p := { s.fcPeriod e with stg := stage.toNat }
      let s := s.setFcEntry e { x with state := if stage then .staged else .armed, slot := i, code := 0 }
      s.armAt i 7 (s.fld key R.FCKEY_WORLD == 1) p true (some e)

/-- Ring time bits [47:0] as the full instant nearest the present. -/
def State.ringTime (s : State) (t : Nat) : Nat :=
  let now := s.wallPs s.now
  ((now : Int) + sx 48 (wrapN 48 ((t : Int) - now))).toNat

/-- A FORECAST for map entry `e` (R371): a new one is tried, a later generation moves the arm point. -/
def State.fcForecast (s : State) (tp gen e : Nat) : State :=
  let x := s.fcEntry e
  let y := { x with tp := tp, gen := gen }
  match x.state with
  | .none =>
    if x.dead && gen != 0 then s
    else ((s.setFcEntry e { y with dead := false, counted := false }).count R.ENFCCNT R.ENFCCNT_FORECAST 1).fcTry e
  | _ => (s.setFcEntry e y).count R.ENFCCNT R.ENFCCNT_FORECAST 1

/-- FORECAST_RECEIVED at edge `k` from `src`. -/
def State.fcReceived (s : State) (src tag tp gen : Nat) : State :=
  (s.fcMatch src tag).foldl (fun (s : State) e => s.fcForecast (s.ringTime tp) gen e) s

/-- The staged slot of map entry `e` is armed at the present edge by checks 6 and 7, and evaluated from the next (R372); `late`: as reached
late whatever its position (R373). -/
def State.fcArm (s : State) (e : Nat) (late : Bool) : State :=
  let x := s.fcEntry e
  let i := x.slot
  let p := (s.slot i).a.per
  if s.tbBars p.tb then s.endSlot i 8
  else if s.refBars p then s.endSlot i 9
  else
    let s := (s.setFcEntry e { x with state := .armed }).chainArm i (s.tb p.tb).prev s.now true
    s.setSlot i { s.slot i with late := late || (s.slot i).late }

/-- FORECAST_ARM of map entry `e` (R372): ring time has reached tp less ARMLEAD cycles. With MODE = CONFIRM it is not armed. -/
def State.fcArmPoint (s : State) (e : Nat) : State :=
  let x := s.fcEntry e
  if x.state == .staged && s.fcLive e && s.fld (R.FCKEY e) R.FCKEY_MODE == 0 &&
      decide (x.tp ≤ s.wallPs s.now + 800 * s.fld R.ENFCCFG R.ENFCCFG_ARMLEAD) then s.fcArm e false
  else s

/-- LATERET is counted, with ENFCEVT (R373, R381). -/
def State.lateRet (s : State) : State := (s.count R.ENFCCNT R.ENFCCNT_LATERET 1).arrive 0xC2

/-- A RETRACT for map entry `e` (R373). An armed slot is disarmed as by DISARM, which loses at the slot's detecting edge (R129, R135). -/
def State.fcRetracted (s : State) (e : Nat) : State :=
  let x := s.fcEntry e
  let live := s.fcLive e
  match x.state with
  | .none => s
  | .trying => s.fcClose e false
  | .staged =>
    if live then ((s.endSlot x.slot 17).count R.ENFCCNT R.ENFCCNT_RETRACT 1).fcClose e false
    else s.lateRet.fcClose e false
  | .armed => ((if live && !s.firesNext x.slot then s.endSlot x.slot 6 else s).lateRet).fcClose e false

/-- A CONFIRM for map entry `e` (R373): a slot still STAGED is armed at once, reached late. -/
def State.fcConfirmed (s : State) (e : Nat) : State :=
  let x := s.fcEntry e
  match x.state with
  | .none => s
  | .staged => (if s.fcLive e then s.fcArm e true else s).fcClose e false
  | _ => s.fcClose e false

/-- A pre-stage that was never made by tp (R373). -/
def State.fcMissed (s : State) (e : Nat) : State :=
  if (s.fcEntry e).state == .trying && decide ((s.fcEntry e).tp ≤ s.wallPs s.now) then
    ((s.count R.ENFCCNT2 R.ENFCCNT2_MISS 1).arrive 0xC2).fcClose e false
  else s

/-- FORECAST_EXPIRED of map entry `e` (R373): no message by tp + 2 cycles. -/
def State.fcExpired (s : State) (e : Nat) : State :=
  let x := s.fcEntry e
  let live := s.fcLive e
  let late := decide (x.tp + 1600 ≤ s.wallPs s.now)
  let note (s : State) : State := (s.count R.ENFCCNT R.ENFCCNT_EXPIRED 1).arrive 0xC2
  match x.state with
  | .none => s
  | .trying => s.fcMissed e
  | .staged => if late then (if live then note (s.endSlot x.slot 17) else s).fcClose e false else s
  | .armed => if late then (if live then note s else s).fcClose e false else s

/-! ### The cycle (R354-R357) -/

/-- The header of a ring arrives whole (R354, R355): its check holds, and it numbers this cycle. -/
def State.enHeads (s : State) (cyc : Nat) (l : List EnSection) : Bool :=
  match l with
  | x :: _ => x.check == s.enCheck cyc 0 x.chars && (x.chars.drop 2).take 4 == enBytes 4 cyc
  | [] => false

/-- A header that arrived at port `p`, with a good check or a bad one (R349, R381): the second bad one in succession takes the link down,
and the third raises ENAUTH. -/
def State.enHeaderAt (s : State) (p : Nat) (comes good : Bool) : State :=
  if !comes then s
  else
    let n := if good then 0 else nth s.en.badRun p + 1
    let s := { s with en := { s.en with badRun := s.en.badRun.set p n } }
    let s := if good then s else s.count R.ENERR R.ENERR_HDR 1
    let s := if n = 2 then s.linkDown p (s.fld (R.ENLINK p) R.ENLINK_LANES) else s
    if n = 3 then s.arrive 0xC5 else s

/-- The state machine's part of a cycle (R377-R379): a LOST device joins, the master's ROLL cycle begins a roll call, a break or a heal that
the master marks. -/
def State.enCycleState (s : State) (roll : Bool) (brk : Option Nat) (heal : Bool) : State :=
  if s.enJoined && roll && !s.en.master then s.enState .roll
  else
    match s.en.state, brk, heal with
    | .lost, _, _ => (s.enState .roll).enRequest
    | .up, some b, _ => { s with en := { s.en with brk := some b } }.enState .wrapped
    | .wrapped, _, true => { s with en := { s.en with brk := none, wrapHere := false, heal := false } }.enState .up
    | .wrapped, some b, false => { s with en := { s.en with brk := some b } }
    | _, _, _ => s

/-- The ports whose links are down while the device wraps: their traffic turns back from this cycle start on (R377). -/
def State.enTurn (s : State) : List Nat :=
  if s.en.wrapHere then (upFrom 0 2).filter (fun p => s.fld (R.ENLINK p) R.ENLINK_UP == 0) else []

/-- The sections of a cycle that pass a device, numbered; the master sends all 23 whatever came back. -/
def State.enIncoming (s : State) (l : List EnSection) : List (Nat × EnSection) :=
  if s.en.master && s.enJoined then (upFrom 1 22).map (fun i => (i, l.getD i { chars := [], check := 0 })) else (l.zipIdx.drop 1).map (fun e => (e.2, e.1))

/-- The header that leaves on a ring: the master's own, or the one that came. -/
def State.enHeadOut (s : State) (l : List EnSection) (good : Bool) (h : EnHdr) : List (Nat × EnSection) :=
  if s.en.master && s.enJoined then [(0, s.enSeal 0 (s.enHeader false h.brk h.heal))]
  else (l.take 1).map (fun x => (0, relaySection x good))

/-- A cycle begins on both rings: what will pass, the headers, and what has passed at once. -/
def State.enBegin (s : State) (h : EnHdr) (goodA goodB : Bool) : State :=
  let ring (l : List EnSection) (good : Bool) (start : Nat) : EnRing :=
    { start := start, comes := s.enIncoming l, sent := s.enHeadOut l good h, low := 0 }
  let s := { s with en := { s.en with turned := s.enTurn, ringA := ring h.ringA goodA s.now, ringB := ring h.ringB goodB h.edgeB } }
  s.enPass s.now

/-- What a participant does at a cycle start (R357, R368, R371): a member slews to ring time; forecasts are examined, and pre-stages tried. -/
def State.enAtStart (s : State) (h : EnHdr) : State :=
  let adj : Int := ((800 * h.cycle * 256 + 64 * s.fld (R.ENHOP s.en.addr) R.ENHOP_D : Nat) : Int) - h.arrival
  let s := if s.en.master then s else s.wadj 1 (BitVec.ofInt 32 adj)
  let s := (upFrom 0 32).foldl State.fcExamine s
  (upFrom 0 32).foldl (fun (s : State) e =>
    if (s.fcEntry e).state == .trying then (if (s.fcEntry e).tp ≤ s.wallPs s.now then s.fcMissed e else s.fcTry e) else s) s

/-- The one cycle that announces NIGHT: it passes with the status byte of NIGHT, and the links go off (R38, R380). -/
def State.enLast (s : State) (h : EnHdr) : State :=
  let s := (s.enBegin h true true).enPass (s.now + h.edgeB + 800)
  { s with en := { s.en with state := .down } }

/-- ENWARD_CYCLE (R354-R357, R368, R371, R377): a cycle starts at the present edge, as this device sees it. A member that gets no good header
sees no cycle start. -/
def State.enwardCycle (s : State) (h : EnHdr) : State :=
  if s.en.state == .down then s
  else
    let mine := s.en.master && s.enJoined
    let before := h.cycle - mine.toNat
    let good (l : List EnSection) : Bool := s.enHeads before l
    let goodA := good h.ringA
    let goodB := good h.ringB
    let roll := (goodA && (h.ringA.headD ⟨[], 0⟩).chars.headD 0 == 1) || (goodB && (h.ringB.headD ⟨[], 0⟩).chars.headD 0 == 1)
    let s := (s.enHeaderAt 0 (!h.ringA.isEmpty) goodA).enHeaderAt 1 (!h.ringB.isEmpty) goodB
    if !(mine || goodA || goodB) then s.enBegin h goodA goodB
    else
      let s := s.wr R.ENCYC (BitVec.ofNat 32 h.cycle)
      let s := { s with en := { s.en with
        cyc := h.cycle, taken := s.en.taken.filter (fun t => h.cycle ≤ t.2.2 + 4), toggle := !s.en.toggle } }
      if s.en.farewell then s.enLast h
      else
        let s := s.enCycleState roll h.brk (h.heal || (mine && s.en.heal))
        (if s.enJoined then s.enAtStart h else s).enBegin h goodA goodB

/-- LOST (R378, R379): no cycle start for 2 cycles. -/
def State.enLost (s : State) : State := if s.enJoined then s.enState .lost else s

/-! ### Reception -/

/-- Subscription `i` receives a record; one whose check fails is not used (R355, R361, R362). -/
def State.pubReceived (s : State) (i : Nat) (r : PubRecord) : State :=
  let t := 16 + i
  let a := R.ENSUB i
  let x := s.tb t
  if !s.enJoined || s.kind t != 2 || s.fld a R.ENSUB_EN == 0 || s.fld a R.ENSUB_NOPUB == 1 || x.state == .off ||
      r.check != s.enCheck s.en.cyc (2 + s.fld a R.ENSUB_SLOT) (recordChars r) then s
  else if !r.valid then s.tbFault t 1
  else
    let t0 := 800 * s.en.cyc + r.instant.toNat
    let v := r.word.toInt
    let jump := !x.rxSeen || x.state != .run || (x.rxDisc.any (· != r.discgen.toNat))
    let s := s.setTb t { x with
      state := .run, cause := 0, samples := [((t0 : Int), v)], rxVel := r.vel.toInt, rxSeen := true, rxK := s.now
      rxDisc := some r.discgen.toNat }
    let s := s.putRef t r.ref
    let est := normWord 0 (sampleForm v r.vel.toInt ((s.wallPs s.now : Int) - t0))
    let s := if jump then s.jumpTo t est else s.applyEst t est
    s.setVel t r.vel.toInt

/-- AGE_FAULT of remote timebase `t` (R362): AGEMAX has passed since the last good record. -/
def State.ageFault (s : State) (t : Nat) : State :=
  let x := s.tb t
  if s.kind t == 2 && x.state == .run && decide (x.rxK + s.fld (R.ENSUBLIM (t - 16)) R.ENSUBLIM_AGEMAX ≤ s.now) then
    (s.tbFault t 3).arrive 0xC4
  else s

/-- An EVENT or DATA message enters the receive FIFO, or is dropped; an EVENT whose payload bit 15 is 1 requests a capture
(R367). -/
def State.enFifo (s : State) (m : EnFrame) : State :=
  let s :=
    if s.en.rx.length < 16 then { s with en := { s.en with rx := s.en.rx ++ [m] } }.arrive 0xC0
    else s.count R.ENDROP R.ENDROP_RX 1
  if m.typ = 4 ∧ m.body.getLsbD 15 then
    match s.capture s.now 0 2 with
    | some s => s
    | none => s.captureLost s.now
  else s

/-- The characters of a message before its check, as one number with character 0 lowest (R363). -/
def enBody (m : EnFrame) : Nat :=
  m.typ.toNat + 16 * m.cls.toNat + 64 * m.bcast.toNat + 128 * m.pass.toNat + 2 ^ 8 * m.src.toNat + 2 ^ 16 * m.dest.toNat +
    2 ^ 24 * m.seq.toNat + 2 ^ 32 * m.tag.toNat + 2 ^ 40 * m.body.toNat

/-- The check of a message that arrives holds (R365, R375). -/
def State.enIntact (s : State) (m : EnFrame) : Bool :=
  m.check == s.enCheck s.en.cyc (18 + m.slot.toNat) (enBytes 12 (enBody m))

/-- MESSAGE_RECEIVED (R365, R367): the first good copy of a message is taken. -/
def State.enMessage (s : State) (m : EnFrame) : State :=
  let src := m.src.toNat
  let seen := s.en.taken.any (fun t => t.1 == src && t.2.1 == m.seq.toNat && decide (s.en.cyc ≤ t.2.2 + 4))
  if !s.enJoined || !s.enIntact m || !s.enKnown src || src == s.en.addr || seen || !(m.bcast || m.dest.toNat == s.en.addr) then s
  else
    let s := { s with en := { s.en with taken := (src, m.seq.toNat, s.en.cyc) :: s.en.taken } }
    let b := m.body.toNat
    let tag := m.tag.toNat
    match m.typ.toNat with
    | 1 => s.fcReceived src tag (b % 2 ^ 48) (b / 2 ^ 48)
    | 2 => (s.fcMatch src tag).foldl State.fcRetracted s
    | 3 => (s.fcMatch src tag).foldl State.fcConfirmed s
    | 4 | 5 => s.enFifo m
    | 6 => (s.wr R.ENLASTMODE (BitVec.ofNat 32 (src + 256 * (b % 8)))).arrive 0xC1
    | _ => s

/-- The 16 characters of a message as one number, character 0 lowest (R363). -/
def enChars (m : EnFrame) : Nat := enBody m + 2 ^ 96 * m.check.toNat

/-- ENRX0 to ENRX3: four characters of the oldest message; 0 when there is none. -/
def State.enRx (s : State) (n : Nat) : Word :=
  match s.en.rx with
  | m :: _ => BitVec.ofNat 32 (enChars m / 2 ^ (32 * n))
  | [] => 0

/-- A read of ENRX3 removes the oldest message (R367). -/
def State.enRxPop (s : State) : State := { s with en := { s.en with rx := s.en.rx.drop 1 } }

/-! ### Registers -/

/-- A write of ENTXGO (R366): a DATA message from the requester's registers. -/
def State.entxGo (s : State) (w : Who) : State :=
  let c := s.rdReq w.id R.ENTXCTL
  let cls := R.ENTXCTL_CLASS.get c
  let res (s : State) (code : Nat) : State :=
    (s.wrReq w.id R.ENTXRES (BitVec.ofNat 32 code)).wrReq w.id R.ENWSTAT (BitVec.ofNat 32 code)
  if cls = 1 ∨ cls = 3 then res s 3
  else
    let m : EnMsg :=
      { typ := 5, cls := cls, bcast := R.ENTXCTL_BCAST.get c == 1, dest := R.ENTXCTL_DEST.get c, tag := R.ENTXCTL_TAG.get c
        body := ((s.rdReq w.id (R.ENTXD 0)).toNat + 2 ^ 32 * (s.rdReq w.id (R.ENTXD 1)).toNat) % 2 ^ 56 }
    match s.enPush m with
    | some s => res s 0
    | none => res (s.enRefused cls) 5

/-- A write of a register of the Enward window by requester `w`, with the code it leaves in ENWSTAT (the Registers section
of the chapter). -/
def State.enWrite (s : State) (w : Who) (a : Nat) (v : Word) (kind : Nat) : State :=
  let code (s : State) (n : Nat) : State := s.wrReq w.id R.ENWSTAT (BitVec.ofNat 32 n)
  let old := s.rd a
  let nv := Word.mix old v (wmaskAt a)
  let accept (s : State) : State := code ((s.wr a nv).logCfg w a old nv) 0
  match kind with
  | 0 =>
    if !w.priv then code s 1
    else if s.mode != .prepare then code s 2
    else accept s
  | 1 =>
    let t := R.ENPUB_TB.get nv
    if !w.priv then code s 1
    else if s.mode != .prepare then code s 2
    else if R.ENPUB_EN.get nv == 1 && (!s.variant.hasTb t || s.kind t == 2) then code s 3
    else accept s
  | 2 =>
    let t := 16 + (a - R.ENSUB 0) / 8
    if !w.priv then code s 1
    else if (s.tb t).state == .run && s.mode != .prepare then code s 2
    else (accept s).enResolve (t - 16)
  | 3 =>
    if !w.priv then code s 1
    else if R.ENSUBLIM_AGEMAX.get nv = 0 then code s 3
    else accept s
  | 4 =>
    if !w.priv then code s 1
    else if R.ENFCCFG_LOOK.get nv = 0 then code s 3
    else accept s
  | 5 =>
    let e := (a - R.FCKEY 0) / 0x20
    let per1 := a == R.FCPER e 1
    let t := nv.toNat / 2 ^ 16 % 32
    if !w.priv then code s 1
    else if (s.fcEntry e).state != .none then code s 2
    else if per1 && !decide (16 ≤ t ∧ t ≤ 27) then code s 3
    else accept s
  | _ =>
    if !w.ring0 then code s 1 else code (s.wrReq w.id a (v &&& wmaskAt a)) 0

end Sys2Proof.Machine
end

