-- ==== Sys2Proof/Machine/Recitation.lean ====
section
/-! DEFINITION. The Recitation engine (R382-R390). An instruction is read from RCCODE at the channel's PC; a command that
names another instruction than the one at PC, or another edge than the one at which the channel executes it, changes nothing. -/

namespace Sys2Proof.Machine

/-! ### Outputs -/

/-- The balls of channel `c` take their safe values (R388). -/
def State.rcSafeBalls (s : State) (c : Nat) : Bool :=
  match s.mode with
  | .run | .hold => !s.clocks || (s.rc c).safed
  | .prepare => s.fld (R.RCCFG c) R.RCCFG_PREPLIVE == 0 || !s.clocks || (s.rc c).safed
  | _ => true

/-- What ball `b` of channel `c` drives (R382, R388, R389). -/
def State.rcOut (s : State) (c b : Nat) : Lvl :=
  let x := s.rc c
  if s.unpowered then .z
  else if s.rcSafeBalls c then
    match x.latch with
    | some (safe, z) => if z.testBit b then .z else boolLvl (safe.testBit b)
    | none => .z
  else if x.oe.getLsbD b then boolLvl (x.lvl.getLsbD b) else .z

/-- At the boundary where RUN begins every ball takes its safe values (R388). -/
def State.rcRunEntry (s : State) (c : Nat) : State :=
  s.setRc c { s.rc c with
    lvl := BitVec.ofNat 8 (s.fld (R.RCCFG c) R.RCCFG_SAFE)
    oe := ~~~ BitVec.ofNat 8 (s.fld (R.RCCFG c) R.RCCFG_SAFEZ)
    safed := false }

/-- The safe-state latches of channel `c` are loaded from RCCFG (R389). -/
def State.rcLatch (s : State) (c : Nat) : State :=
  s.setRc c { s.rc c with latch := some (s.fld (R.RCCFG c) R.RCCFG_SAFE, s.fld (R.RCCFG c) R.RCCFG_SAFEZ) }

/-- Ball `b` (0 to 15) of the program of channel `c`: its channel and number there; none in bank 1 without PAIR. -/
def State.rcBall (s : State) (c b : Nat) : Option (Nat × Nat) :=
  if b < 8 then some (c, b)
  else if s.fld (R.RCCFG c) R.RCCFG_PAIR == 1 then some (c + 1, b - 8)
  else none

/-- The ball has a GIO ball connected (R389). -/
def State.rcHasBall (s : State) (c b : Nat) : Bool :=
  match s.rcBall c b with
  | some (c, b) => (s.ballOf (448 + 8 * c + b)).isSome
  | none => false

/-- The levels of the 16 balls of channel `c` as its program reads them: those its filters have accepted, and 0 for a ball
without a GIO ball (R389). -/
def State.rcLevels (s : State) (c : Nat) : BitVec 16 :=
  (s.rc c).acc &&& BitVec.ofNat 16 ((upFrom 0 16).foldl (fun m b => if s.rcHasBall c b then m + 2 ^ b else m) 0)

/-- At edge `k` the balls of channel `c` are seen at `seen`: each filter accepts a new level no sooner than FILT + 1 PSCLK after its
last change (R65, R383). -/
def State.rcAccept (s : State) (c k : Nat) (seen : BitVec 16) : State :=
  let x := s.rc c
  let n := s.fld (R.RCCFG c) R.RCCFG_FILT
  let new (b : Nat) : Bool := seen.getLsbD b != x.acc.getLsbD b && (x.accK.getD b none).all (fun e => decide (e + n + 1 ≤ k))
  s.setRc c { x with
    acc := BitVec.ofNat 16 ((upFrom 0 16).foldl (fun m b => if x.acc.getLsbD b != new b then m + 2 ^ b else m) 0)
    accK := (upFrom 0 16).map (fun b => if new b then some k else x.accK.getD b none) }

/-- The masked balls of a bank take new levels, or new enables (`oe`). -/
def State.rcDrive (s : State) (c bank : Nat) (mask value : BitVec 8) (oe : Bool) : State :=
  match s.rcBall c (8 * bank) with
  | none => s
  | some (c, _) =>
    let x := s.rc c
    if oe then s.setRc c { x with oe := (x.oe &&& ~~~ mask) ||| (value &&& mask) }
    else s.setRc c { x with lvl := (x.lvl &&& ~~~ mask) ||| (value &&& mask) }

/-! ### Counters -/

/-- Counter values at edge `k`, modulo 2^40; the counters stand still while the channel is paused. -/
def Rc.counts (x : Rc) (k : Nat) : Nat × Nat :=
  let d := if x.state = .paused then 0 else k - x.ctK
  ((x.ct0 + if x.on0 then d else 0) % 2 ^ 40, (x.ct1 + if x.on1 then d else 0) % 2 ^ 40)

/-- The channel with its counters brought up to edge `k`. -/
def Rc.counted (x : Rc) (k : Nat) : Rc := { x with ct0 := (x.counts k).1, ct1 := (x.counts k).2, ctK := k }

/-! ### Starting and stopping (R386, R388) -/

/-- The channel executes instructions: RUNNING in PREPARE and RUN, and in HOLD with HOLDRUN. -/
def State.rcRuns (s : State) (c : Nat) : Bool := (s.rc c).state == .running && s.mode.active

/-- The channel stops at edge `k` with WHY code `why`: 1 HALT, 2 STOP, 3 MODE. -/
def State.rcStop (s : State) (c why k : Nat) : State :=
  let x := s.rc c
  if x.state = .stopped then s
  else s.setRc c { x.counted (if x.state = .paused then x.ctK else k) with
    state := .stopped, wait := false, why := why, ctK := k }

/-- HOLD begins (R388): a channel with HOLDRUN = 0 pauses at its next instruction boundary, frozen. -/
def State.rcPause (s : State) (c : Nat) : State :=
  let x := s.rc c
  if x.state = .running ∧ s.fld (R.RCCFG c) R.RCCFG_HOLDRUN = 0 then
    s.setRc c { x.counted s.now with state := .paused, pauseK := s.now }
  else s

/-- HOLD ends in RUN: a paused channel resumes where it stopped. -/
def State.rcResume (s : State) (c : Nat) : State :=
  let x := s.rc c
  if x.state = .paused then
    let d := s.now - x.pauseK
    s.setRc c { x with state := .running, dueK := x.dueK + d, waitK := x.waitK + d, ctK := s.now }
  else s

/-- RCSTAT.WSTAT of a requester. -/
def State.rcStat (s : State) (w : Who) (c code : Nat) : State :=
  s.wrReq w.id (R.RCSTAT c) (BitVec.ofNat 32 (code * 2 ^ 28))

/-- RCCTL.GO (R386, R388): refused with BUSY while running or reserved, with MODE where the mode stops the channel. -/
def State.rcGo (s : State) (w : Who) (c start : Nat) : State :=
  let held := s.mode == .hold && s.fld (R.RCCFG c) R.RCCFG_HOLDRUN == 0
  if (s.rc c).state != .stopped || s.rcReserved c then s.rcStat w c 4
  else if !s.mode.active || held then s.rcStat w c 6
  else
    match s.rcStart c start (s.now + 1) with
    | some s => s.rcStat w c 0
    | none => s.rcStat w c 4

/-- RCCTL.FLUSHTX and FLUSHRX (R387): only while STOPPED. -/
def State.rcFlush (s : State) (w : Who) (c : Nat) (tx rx : Bool) : State :=
  let x := s.rc c
  if x.state != .stopped then s.rcStat w c 2
  else (s.setRc c { x with tx := if tx then [] else x.tx, rx := if rx then [] else x.rx }).rcStat w c 0

/-- A write of RCCTL (R386, R387): STOP wins over GO, and stops the channel at the next edge. A flush that is refused keeps its
NOTNOW. -/
def State.rcCtl (s : State) (w : Who) (c : Nat) (v : Word) : State :=
  let tx := R.RCCTL_FLUSHTX.get v == 1
  let rx := R.RCCTL_FLUSHRX.get v == 1
  let late := (tx || rx) && (s.rc c).state != .stopped
  let s := if tx || rx then s.rcFlush w c tx rx else s
  if R.RCCTL_STOP.get v = 1 then
    let t := s.rcStop c 2 (s.now + 1)
    if late then t else t.rcStat w c 0
  else if R.RCCTL_GO.get v = 1 then s.rcGo w c (R.RCCTL_START.get v)
  else s

/-- A write of RCTX (R387): one word into the TX FIFO, FULL when it is full. -/
def State.rcTxWrite (s : State) (w : Who) (c : Nat) (v : Word) : State :=
  let x := s.rc c
  if 16 ≤ x.tx.length then s.rcStat w c 5 else (s.setRc c { x with tx := x.tx ++ [v] }).rcStat w c 0

/-- A read of RCRX (R387): the oldest word, or 0. -/
def State.rcRxRead (s : State) (c : Nat) : Word × State :=
  let x := s.rc c
  match x.rx with
  | v :: rest => (v, s.setRc c { x with rx := rest })
  | [] => (0, s)

/-- A write of RCCODE (R382, R390): only while STOPPED, and not to a reserved channel. -/
def State.rcCodeWrite (s : State) (w : Who) (c n : Nat) (v : Word) : State :=
  if (s.rc c).state != .stopped || s.rcReserved c then s.rcStat w c 2
  else (s.wr (R.RCCODE c n) (v &&& 0xFFFFFF)).rcStat w c 0

/-- A write of RCCFG (R382, R390). -/
def State.rcCfgWrite (s : State) (w : Who) (c : Nat) (v : Word) : State :=
  let a := R.RCCFG c
  let nv := v &&& wmaskAt a
  let pair := R.RCCFG_PAIR.get nv == 1
  let bad := pair && (c % 2 == 1 || decide (s.variant.nRecit ≤ c + 1) || (s.rc (c + 1)).state != .stopped)
  if !w.priv then s.rcStat w c 1
  else if s.mode != .prepare then s.rcStat w c 2
  else if bad then s.rcStat w c 3
  else (((s.wr a nv).rcLatch c).logWho w 0 a (s.rd a).toNat nv.toNat).rcStat w c 0

/-! ### Microcode (R383-R385) -/

/-- The microcode word at the channel's PC, as a number. -/
def State.rcWord (s : State) (c : Nat) : Nat := (s.rd (R.RCCODE c (s.rc c).pc)).toNat % 2 ^ 24

/-- Bits [lo + w - 1 : lo] of a microcode word. -/
def ucf (v lo w : Nat) : Nat := v / 2 ^ lo % 2 ^ w

/-- The channel executes an instruction with opcode `op` at edge `k`. -/
def State.rcReady (s : State) (c op k : Nat) : Bool :=
  s.rcRuns c && !(s.rc c).wait && decide ((s.rc c).dueK = k) && ucf (s.rcWord c) 20 4 == op

/-- The channel waits at the instruction at its PC, which has opcode `op`. -/
def State.rcWaits (s : State) (c op : Nat) : Bool :=
  s.rcRuns c && (s.rc c).wait && ucf (s.rcWord c) 20 4 == op

/-- The next instruction is at word `pc`, at edge `k`. -/
def State.rcNext (s : State) (c pc k : Nat) : State :=
  s.setRc c { s.rc c with pc := pc % 64, dueK := k, wait := false }

/-- An instruction of opcode `op` that takes one PSCLK: `f` gives its effect and the word that follows, from the microcode
word and PC. -/
def State.rcStep (s : State) (c op k : Nat) (f : State → Nat → Nat → State × Nat) : State :=
  let s := s.advance k
  if s.rcReady c op k then
    let r := f s (s.rcWord c) (s.rc c).pc
    r.1.rcNext c r.2 (k + 1)
  else s

/-- DRIVE and ENABLE. -/
def State.rcDriveOp (s : State) (c k : Nat) (oe : Bool) : State :=
  s.rcStep c oe.toNat k (fun s v pc =>
    (s.rcDrive c (ucf v 16 1) (BitVec.ofNat 8 (ucf v 8 8)) (BitVec.ofNat 8 (ucf v 0 8)) oe, pc + 1))

/-- DELAY: n + 1 PSCLK. -/
def State.rcDelay (s : State) (c k : Nat) : State :=
  let s := s.advance k
  if s.rcReady c 2 k then s.rcNext c ((s.rc c).pc + 1) (k + ucf (s.rcWord c) 0 20 + 1) else s

/-- The level that the instruction at PC waits for or tests is there. -/
def State.rcLevelMet (s : State) (c : Nat) : Bool :=
  let v := s.rcWord c
  (s.rcLevels c).getLsbD (ucf v 16 4) == (ucf v 15 1 == 1)

/-- PSCLK after which the WAITL at the channel's PC stops waiting (R385); none where it never does. -/
def State.rcLimit (s : State) (c : Nat) : Option Nat :=
  let t := ucf (s.rcWord c) 0 15
  if t = 0 then none else some (t * if s.fld (R.RCCFG c) R.RCCFG_TOUNIT = 0 then 128 else 131072)

/-- WAITL: it goes on at once when the level is there, and waits otherwise. -/
def State.rcWaitl (s : State) (c k : Nat) (seen : BitVec 16) : State :=
  let s := s.advance k
  if s.rcReady c 3 k then
    let s := s.rcAccept c k seen
    if s.rcLevelMet c then s.rcNext c ((s.rc c).pc + 1) (k + 1)
    else s.setRc c { s.rc c with wait := true, waitK := k }
  else s

/-- WAITL_MET: the level is accepted while the WAITL waits, no later than its timeout. -/
def State.rcWaitMet (s : State) (c k : Nat) (seen : BitVec 16) : State :=
  let s := s.advance k
  if s.rcWaits c 3 && (s.rcLimit c).all (fun d => decide (k ≤ (s.rc c).waitK + d)) then
    let s := s.rcAccept c k seen
    if s.rcLevelMet c then s.rcNext c ((s.rc c).pc + 1) (k + 1) else s
  else s

/-- WAITL_TIMEOUT (R385): t × U PSCLK have passed; TOPC records the WAITL and the program goes on at TOVEC. -/
def State.rcTimeout (s : State) (c k : Nat) : State :=
  let s := s.advance k
  let x := s.rc c
  if s.rcWaits c 3 && (s.rcLimit c).any (fun d => decide (x.waitK + d = k)) then
    (s.setRc c { x with topc := x.pc }).rcNext c (s.fld (R.RCCFG c) R.RCCFG_TOVEC) (k + 1)
  else s

/-- D of channel `c` becomes `d`. -/
def State.rcSetD (s : State) (c : Nat) (d : Word) : State := s.setRc c { s.rc c with d := d }

/-- SAMPLE. -/
def State.rcSample (s : State) (c k : Nat) (seen : BitVec 16) : State :=
  s.rcStep c 4 k (fun s v pc =>
    let s := s.rcAccept c k seen
    let lv := (s.rcLevels c).toNat / 2 ^ (8 * ucf v 16 1) % 256
    (s.rcSetD c (((s.rc c).d <<< 8) ||| BitVec.ofNat 32 (lv &&& ucf v 8 8)), pc + 1))

/-- PUT: pushes D, or waits, or with NOWAIT goes on without. -/
def State.rcPut (s : State) (c k : Nat) : State :=
  let s := s.advance k
  if s.rcReady c 5 k then
    let x := s.rc c
    let nowait := ucf (s.rcWord c) 0 1 = 1
    if x.rx.length < 16 then
      (s.setRc c { x with rx := x.rx ++ [x.d] }).rcNext c (x.pc + if nowait then 2 else 1) (k + 1)
    else if nowait then s.rcNext c (x.pc + 1) (k + 1)
    else s.setRc c { x with wait := true, waitK := k }
  else s

/-- PUT_RESUME: room for a waiting PUT. -/
def State.rcPutResume (s : State) (c k : Nat) : State :=
  let s := s.advance k
  let x := s.rc c
  if s.rcWaits c 5 && decide (x.rx.length < 16) then
    (s.setRc c { x with rx := x.rx ++ [x.d] }).rcNext c (x.pc + 1) (k + 1)
  else s

/-- The oldest TX word goes into D, and the program goes on. -/
def State.rcPop (s : State) (c k : Nat) : State :=
  let x := s.rc c
  match x.tx with
  | v :: rest => (s.setRc c { x with tx := rest, d := v }).rcNext c (x.pc + 1) (k + 1)
  | [] => s.setRc c { x with wait := true, waitK := k }

/-- GET: pops the TX FIFO into D, waiting while it is empty. -/
def State.rcGet (s : State) (c k : Nat) : State :=
  let s := s.advance k
  if s.rcReady c 6 k then s.rcPop c k else s

/-- GET_RESUME: a word for a waiting GET. -/
def State.rcGetResume (s : State) (c k : Nat) : State :=
  let s := s.advance k
  if s.rcWaits c 6 && !(s.rc c).tx.isEmpty then s.rcPop c k else s

/-- OUTD: each masked ball b of the bank takes bit b + s of D. -/
def State.rcOutd (s : State) (c k : Nat) : State :=
  s.rcStep c 7 k (fun s v pc =>
    (s.rcDrive c (ucf v 16 1) (BitVec.ofNat 8 (ucf v 8 8)) (((s.rc c).d >>> ucf v 0 5).truncate 8) false, pc + 1))

/-- Counter `i` of channel `c` at edge `k`, and the channel with it set. -/
def Rc.ctGet (x : Rc) (i k : Nat) : Nat := if i = 0 then (x.counts k).1 else (x.counts k).2
def Rc.ctSet (x : Rc) (i k n : Nat) : Rc :=
  let y := x.counted k
  if i = 0 then { y with ct0 := n } else { y with ct1 := n }

/-- CNT with operation `op`: 0 load from D, 1 start, 2 stop, 3 read into D. A CNT word of another operation is not this
instruction. -/
def State.rcCnt (s : State) (c k op : Nat) : State :=
  let s := s.advance k
  let v := s.rcWord c
  if s.rcReady c 8 k && ucf v 16 2 == op then
    let i := ucf v 19 1
    let x := s.rc c
    let y := x.counted k
    let y := match op with
      | 0 => x.ctSet i k x.d.toNat
      | 1 => if i = 0 then { y with on0 := true } else { y with on1 := true }
      | 2 => if i = 0 then { y with on0 := false } else { y with on1 := false }
      | _ => { y with d := BitVec.ofNat 32 (x.ctGet i k) }
    (s.setRc c y).rcNext c (x.pc + 1) (k + 1)
  else s

/-- DJNZ: counter less 1, and a jump when the result is not 0. -/
def State.rcDjnz (s : State) (c k : Nat) : State :=
  s.rcStep c 9 k (fun s v pc =>
    let i := ucf v 19 1
    let n := ((s.rc c).ctGet i k + 2 ^ 40 - 1) % 2 ^ 40
    (s.setRc c ((s.rc c).ctSet i k n), if n = 0 then pc + 1 else ucf v 0 6))

/-- JMP. -/
def State.rcJmp (s : State) (c k : Nat) : State := s.rcStep c 10 k (fun s v _ => (s, ucf v 0 6))

/-- JIF. -/
def State.rcJif (s : State) (c k : Nat) (seen : BitVec 16) : State :=
  s.rcStep c 11 k (fun s v pc =>
    let s := s.rcAccept c k seen
    (s, if s.rcLevelMet c then ucf v 0 6 else pc + 1))

/-- JEQ. -/
def State.rcJeq (s : State) (c k : Nat) : State :=
  s.rcStep c 12 k (fun s v pc => (s, if (s.rc c).d.toNat % 256 = ucf v 6 8 then ucf v 0 6 else pc + 1))

/-- LDI. -/
def State.rcLdi (s : State) (c k : Nat) : State :=
  s.rcStep c 13 k (fun s v pc => (s.rcSetD c (BitVec.ofNat 32 (ucf v 0 20)), pc + 1))

/-- IRQ. -/
def State.rcIrq (s : State) (c k : Nat) : State :=
  s.rcStep c 14 k (fun s v pc =>
    ((s.setRc c { s.rc c with code := ucf v 0 8 }).arrive (0xC8 + c), pc + 1))

/-- HALT. -/
def State.rcHalt (s : State) (c k : Nat) : State :=
  let s := s.advance k
  if s.rcReady c 15 k then
    ((s.setRc c { s.rc c with code := ucf (s.rcWord c) 0 8 }).rcStop c 1 k).arrive (0xC8 + c)
  else s

/-! ### What its registers read -/

/-- RCSTAT without its WSTAT. -/
def State.rcStatus (s : State) (c : Nat) : Nat :=
  let x := s.rc c
  let st := if s.rcReserved c then 4 else match x.state, x.wait with
    | .stopped, _ => 0
    | .running, false => 1
    | .running, true => 2
    | .paused, _ => 3
  st + 256 * x.pc + 65536 * x.code + 2 ^ 24 * x.why

/-- RCLVL: accepted levels and enables of balls 0 to 15. -/
def State.rcLvl (s : State) (c : Nat) : Nat :=
  let hi := if s.fld (R.RCCFG c) R.RCCFG_PAIR = 1 then (s.rc (c + 1)).oe.toNat else 0
  (s.rcLevels c).toNat + 65536 * (s.rc c).oe.toNat + 2 ^ 24 * hi

end Sys2Proof.Machine
end

