-- ==== Sys2Proof/Machine/Uart.lean ====
section
/-! DEFINITION. The UARTs (R391-R397). -/

namespace Sys2Proof.Machine

/-- A field of UCFG of UART `u`. -/
def State.ucfg (s : State) (u : Nat) (f : F) : Nat := s.fld (R.UCFG u) f

/-- The UART runs (R397): enabled, from DAWN step 6, in every mode but LOCKOUT and SERVICE. -/
def State.uartOn (s : State) (u : Nat) : Bool :=
  s.fld (R.UCTL u) R.UCTL_EN == 1 &&
    match s.mode with
    | .night | .lockout | .service => false
    | .dawn => decide (6 ≤ s.fld R.DAWNSTAT R.DAWNSTAT_STEP)
    | _ => true

/-- Source `i` of UART `u`: 0 RXDATA, 1 TXROOM, 2 RXERR, 3 LINE. -/
def State.uartIrq (s : State) (u i : Nat) : State := s.arrive (0xD0 + 4 * u + i)

/-- USTAT.WSTAT of a requester. -/
def State.uartStat (s : State) (w : Who) (u code : Nat) : State :=
  s.wrReq w.id (R.USTAT u) (BitVec.ofNat 32 (code * 2 ^ 20))

/-! ### Frames (R391) -/

/-- Ones in the low `n` bits of `c`, modulo 2. -/
def parityOf (n c : Nat) : Bool := (upFrom 0 n).foldl (fun b i => b != c.testBit i) false

/-- The parity bit of character `c` (R391); none with PAR NONE. -/
def State.uartParity (s : State) (u c : Nat) : Option Bool :=
  let n := s.ucfg u R.UCFG_DBITS
  match s.ucfg u R.UCFG_PAR with
  | 1 => some (parityOf n c)
  | 2 => some (!parityOf n c)
  | 3 => some true
  | 4 => some false
  | _ => none

/-- The bits of a frame: start, data with the least significant first, parity, stop. -/
def State.uartFrame (s : State) (u c : Nat) : List Bool :=
  [false] ++ (upFrom 0 (s.ucfg u R.UCFG_DBITS)).map c.testBit ++ (s.uartParity u c).toList ++ [true]

/-- A tick of UART `u` in 64ths of a PSCLK (R391). -/
def State.uartTick (s : State) (u : Nat) : Nat := 64 * s.fld (R.UBAUD u) R.UBAUD_I + s.fld (R.UBAUD u) R.UBAUD_F

/-- Ticks of a frame of UART `u` (R391): 16 for each bit before the stop bits, then 16, 24 or 32. -/
def State.uartTicks (s : State) (u : Nat) : Nat :=
  16 * (1 + s.ucfg u R.UCFG_DBITS + (if s.ucfg u R.UCFG_PAR = 0 then 0 else 1)) + 16 + 8 * s.ucfg u R.UCFG_STOP

/-- `n` ticks of UART `u`, begun at edge `k0`, have passed at the present edge: a tick lies within 1 PSCLK of its instant (R391). -/
def State.ticksPassed (s : State) (u n k0 : Nat) : Bool := decide (n * s.uartTick u ≤ 64 * (s.now + 1 - k0))

/-- The level of TXD at the present edge (R391, R393, R397): mark until the start bit (R396). -/
def State.uartTxd (s : State) (u : Nat) : Bool :=
  match (s.uart u).frame with
  | some (bits, k0) => decide (s.now < k0) || bits.getD (64 * (s.now - k0) / (16 * max (s.uartTick u) 1)) true
  | none => !(s.uartOn u && s.fld (R.UCTL u) R.UCTL_TXBRK == 1)

/-- What function `k` of UART `u` drives: TXD, RXD, RTS_N or DE, CTS_N (R394, R396); in LOCKOUT and SERVICE it stops when the frame
under way has ended (R397). -/
def State.uartOut (s : State) (u k : Nat) : Lvl :=
  let off := (s.mode == .lockout || s.mode == .service) && (s.uart u).frame.isNone
  match k with
  | 0 => boolLvl (s.uartTxd u)
  | 2 =>
    if s.ucfg u R.UCFG_RS485 = 1 then boolLvl ((s.uart u).de && !off)
    else boolLvl (off || (s.ucfg u R.UCFG_RTSCTS == 1 && (s.uart u).rts))
  | _ => .z

/-! ### Flow control (R394, R395) -/

/-- The RX count has fallen to LO, or reached HI: RTS_N follows, and XOFF or XON is owed. -/
def State.uartFlow (s : State) (u old : Nat) : State :=
  let x := s.uart u
  let n := x.rx.length
  let hi := s.fld (R.UFLOW u) R.UFLOW_HI
  let lo := s.fld (R.UFLOW u) R.UFLOW_LO
  let x := if old < hi ∧ hi ≤ n then
      { x with rts := true, owed := if s.ucfg u R.UCFG_XONXOFF = 1 then some true else x.owed }
    else if lo < old ∧ n ≤ lo then
      { x with
        rts := false
        owed := if s.ucfg u R.UCFG_XONXOFF = 1 then (if x.xoff then some false else none) else x.owed }
    else x
  s.setUart u x

/-- The RX FIFO of UART `u` becomes `rx`. -/
def State.uartSetRx (s : State) (u : Nat) (rx : List Nat) : State :=
  let old := (s.uart u).rx.length
  (s.setUart u { s.uart u with rx := rx }).uartFlow u old

/-- The TX FIFO becomes `tx`; TXROOM when its count falls to TXTRIG. -/
def State.uartSetTx (s : State) (u : Nat) (tx : List Nat) : State :=
  let old := (s.uart u).tx.length
  let t := s.fld (R.UTRIG u) R.UTRIG_TXTRIG
  let s := s.setUart u { s.uart u with tx := tx }
  if t < old ∧ tx.length ≤ t then s.uartIrq u 1 else s

/-! ### Receiving (R392, R393, R395, R396) -/

/-- A character with its flags is stored, or dropped with OVR when the FIFO is full. -/
def State.uartStore (s : State) (u c : Nat) (perr ferr brk : Bool) : State :=
  let s := if ferr then s.count (R.UERR u) R.UERR_FERR 1 else s
  let s := if perr then s.count (R.UERR u) R.UERR_PERR 1 else s
  let s := if brk then s.count (R.UERR u) R.UERR_BRK 1 else s
  let x := s.uart u
  if 32 ≤ x.rx.length then (s.count (R.UERR u) R.UERR_OVR 1).uartIrq u 2
  else
    let v := c + 512 * perr.toNat + 1024 * ferr.toNat + 2048 * brk.toNat + 32768
    let s := s.uartSetRx u (x.rx ++ [v])
    let s := if perr || ferr || brk then s.uartIrq u 2 else s
    if (s.uart u).rx.length = s.fld (R.UTRIG u) R.UTRIG_RXTRIG then s.uartIrq u 0 else s

/-- A complete character with its data, parity and first stop bits (R392, R395, R396). -/
def State.uartTake (s : State) (u data : Nat) (par stop : Bool) : State :=
  let n := s.ucfg u R.UCFG_DBITS
  let c := data % 2 ^ n
  let want := s.uartParity u c
  let perr := want.any (· != par)
  let brk := c == 0 && !stop && (want.isNone || !par)
  let x := s.uart u
  if x.brk then s
  else
    let s := if brk then (s.setUart u { x with brk := true }).uartIrq u 3 else s
    let x := s.uart u
    let flow := s.ucfg u R.UCFG_XONXOFF == 1 && !brk && stop
    if s.ucfg u R.UCFG_ECHOSUP == 1 && x.de then s
    else if flow && c == s.fld (R.UFLOW u) R.UFLOW_XOFF then (s.setUart u { x with held := true }).uartIrq u 3
    else if flow && c == s.fld (R.UFLOW u) R.UFLOW_XON then s.setUart u { x with held := false }
    else s.uartStore u c perr (!stop) brk

/-- What the receiver hears: with LOOP only TXD, so here the break that TXBRK makes; else RXD, which without a ball stays at mark
(R192, R397). -/
def State.uartHears (s : State) (u data : Nat) (stop : Bool) : Bool :=
  if s.ucfg u R.UCFG_LOOP = 1 then data == 0 && !stop && s.fld (R.UCTL u) R.UCTL_TXBRK == 1
  else (s.ballOf (384 + 4 * u + 1)).isSome

/-- UART_CHARACTER_RECEIVED at the present edge (R392). -/
def State.uartReceived (s : State) (u data : Nat) (par stop : Bool) : State :=
  if s.uartOn u && s.uartHears u data stop then
    let s := s.uartTake u data par stop
    s.setUart u { s.uart u with rxK := s.now }
  else s

/-- UART_BREAK_END (R392). -/
def State.uartBreakEnd (s : State) (u : Nat) : State := s.setUart u { s.uart u with brk := false }

/-- UART_IDLE_TIMEOUT at the present edge: characters have waited IDLE character times with no new one. -/
def State.uartIdle (s : State) (u : Nat) : State :=
  let n := s.fld (R.UTRIG u) R.UTRIG_IDLE
  if s.uartOn u && !(s.uart u).rx.isEmpty && n != 0 && s.ticksPassed u (n * s.uartTicks u) (s.uart u).rxK then s.uartIrq u 0 else s

/-! ### Sending (R393-R396) -/

/-- The transmitter may start a frame: XON or XOFF owed, or a character and no XOFF received; CTS_N low with RTSCTS; no
TXBRK. -/
def State.uartCanSend (s : State) (u : Nat) : Bool :=
  let x := s.uart u
  s.uartOn u && s.fld (R.UCTL u) R.UCTL_TXBRK == 0 && !(s.ucfg u R.UCFG_RTSCTS == 1 && x.cts) &&
    (x.owed.isSome || (!x.tx.isEmpty && !x.held))

/-- UART_FRAME_TRANSMIT: XOFF or XON goes ahead of the TX FIFO (R395). With RS485 the start bit follows the rise of DE by one bit time;
while DE is high frames follow one another (R396). -/
def State.uartSend (s : State) (u : Nat) : State :=
  let x := s.uart u
  if x.frame.isSome || !s.uartCanSend u then s
  else
    let go (s : State) (c : Nat) : State :=
      let x := s.uart u
      let de := s.ucfg u R.UCFG_RS485 == 1
      let k0 := s.now + if de && !x.de then s.uartTick u / 4 else 0
      s.setUart u { x with frame := some (s.uartFrame u c, k0), char := c, de := de }
    match x.owed, x.tx with
    | some off, _ =>
      let c := if off then s.fld (R.UFLOW u) R.UFLOW_XOFF else s.fld (R.UFLOW u) R.UFLOW_XON
      go (s.setUart u { x with owed := none, xoff := off }) c
    | none, c :: rest => go (s.uartSetTx u rest) c
    | none, [] => s

/-- UART_FRAME_END, no sooner than the frame's last tick: DE falls after the last frame (R396); with LOOP the receiver has heard the
frame. -/
def State.uartFrameEnd (s : State) (u : Nat) : State :=
  let x := s.uart u
  match x.frame with
  | none => s
  | some (_, k0) =>
    if !s.ticksPassed u (s.uartTicks u) k0 then s
    else
    let s := s.setUart u { x with frame := none }
    let s := if s.uartOn u && s.ucfg u R.UCFG_LOOP == 1 then
        let s := s.uartTake u x.char ((s.uartParity u x.char).getD false) true
        s.setUart u { s.uart u with rxK := s.now }
      else s
    if s.uartCanSend u then s else s.setUart u { s.uart u with de := false }

/-- CTS_N_CHANGE (R394); without a ball CTS_N keeps its inactive level (R192). -/
def State.uartCts (s : State) (u : Nat) (high : Bool) : State :=
  if (s.ballOf (384 + 4 * u + 3)).isSome then s.uartCtsTo u high else s

/-! ### Registers -/

/-- A write of UTX (R393). -/
def State.utxWrite (s : State) (w : Who) (u : Nat) (v : Word) : State :=
  let x := s.uart u
  if 32 ≤ x.tx.length then s.uartStat w u 5
  else (s.setUart u { x with tx := x.tx ++ [R.UTX_CHAR.get v] }).uartStat w u 0

/-- A read of URX: the oldest character with its flags, 0 when there is none. -/
def State.urxRead (s : State) (u : Nat) : Word × State :=
  match (s.uart u).rx with
  | v :: rest => (BitVec.ofNat 32 v, s.uartSetRx u rest)
  | [] => (0, s)

/-- A write of UCTL (R393, R397). -/
def State.uctlWrite (s : State) (w : Who) (u : Nat) (v : Word) : State :=
  let s := s.wr (R.UCTL u) (v &&& 3)
  let s := if R.UCTL_FLUSHRX.get v = 1 then s.uartSetRx u [] else s
  let s := if R.UCTL_FLUSHTX.get v = 1 then s.uartSetTx u [] else s
  s.uartStat w u 0

/-- UCTL.EN alone, TXBRK alone. -/
def State.uartEnable (s : State) (w : Who) (u : Nat) (on : Bool) : State :=
  s.uctlWrite w u (R.UCTL_EN.put (s.rd (R.UCTL u)) on.toNat)
def State.uartBreak (s : State) (w : Who) (u : Nat) (on : Bool) : State :=
  s.uctlWrite w u (R.UCTL_TXBRK.put (s.rd (R.UCTL u)) on.toNat)

/-- A write of UCFG, UBAUD or UFLOW (R396, R397): only while EN = 0. -/
def State.uartCfg (s : State) (w : Who) (u a : Nat) (v : Word) : State :=
  let nv := v &&& wmaskAt a
  let d := R.UCFG_DBITS.get nv
  let bad :=
    if a = R.UCFG u then
      decide (d < 5 ∨ 9 < d) || decide (4 < R.UCFG_PAR.get nv) || R.UCFG_STOP.get nv == 3 ||
        (R.UCFG_RS485.get nv == 1 && R.UCFG_RTSCTS.get nv == 1)
    else if a = R.UBAUD u then R.UBAUD_I.get nv == 0
    else decide (R.UFLOW_HI.get nv ≤ R.UFLOW_LO.get nv)
  if s.fld (R.UCTL u) R.UCTL_EN = 1 then s.uartStat w u 2
  else if bad then s.uartStat w u 3
  else ((s.wr a nv).logCfg w a (s.rd a) nv).uartStat w u 0

/-- USTAT without its WSTAT. -/
def State.ustat (s : State) (u : Nat) : Nat :=
  let x := s.uart u
  x.tx.length + 256 * x.rx.length + 65536 * x.frame.isSome.toNat + 2 ^ 17 * x.cts.toNat + 2 ^ 18 * x.held.toNat +
    2 ^ 19 * x.xoff.toNat

end Sys2Proof.Machine
end

