-- ==== Sys2Proof/Machine/Mac.lean ====
section
/-! DEFINITION. The Ethernet MACs and PTP (R404-R408). -/

namespace Sys2Proof.Machine

def State.mac (s : State) (m : Nat) : Mac := s.macs.get .reset m
def State.setMac (s : State) (m : Nat) (x : Mac) : State := { s with macs := s.macs.put m x }

/-- The MAC runs in the mode (R408): from DAWN step 6, in every mode but LOCKOUT and SERVICE. -/
def State.macOn (s : State) (m : Nat) (f : F) : Bool :=
  decide (m < s.variant.nMac) && s.fld (R.ETCFG m) f == 1 &&
    match s.mode with
    | .night | .lockout | .service => false
    | .dawn => decide (6 ≤ s.fld R.DAWNSTAT R.DAWNSTAT_STEP)
    | _ => true

/-- Source `i` of MAC `m`: 0 RXDONE, 1 TXDONE, 2 ERR, 3 MDIODONE. -/
def State.macIrq (s : State) (m i : Nat) : State := s.arrive (0xE4 + 4 * m + i)

/-- The descriptor at index `i` of a ring. -/
def descAt (base : Word) (i : Nat) : Nat := base.toNat / 16 * 16 + 16 * i

/-- The index after `i` in a ring of 2^LOG2N descriptors. -/
def ringNext (log2n i : Nat) : Nat := (i + 1) % 2 ^ log2n

/-- A latency in ns as 1/256 PSCLK: a PSCLK is 5 ns. -/
def latPs (ns : Nat) : Nat := ns * 256 / 5

/-- The status word, the stamp when there is one, and OWN clear, written into a descriptor. -/
def State.descDone (s : State) (d status : Nat) (stamp : Option Nat) : State :=
  let s := match stamp with
    | some t => (s.store (d + 8) 4 (t % 2 ^ 32)).store (d + 12) 4 (t / 2 ^ 32 % 2 ^ 32)
    | none => s
  s.store (d + 4) 4 (status % 2 ^ 31)

/-- `n` bytes from `a`, the first first. -/
def State.bytesAt (s : State) (a n : Nat) : List Nat := (upFrom a n).map (fun i => (s.byte i).toNat)

/-- TRANSMIT_FRAME of MAC `m` at edge `k` (R405, R406): the first di-bit after the delimiter leaves at edge `k`; `abort` and
`excol` are how the attempt ended, with `coll` collisions. -/
def State.macTransmit (s : State) (m : Nat) (abort excol : Bool) (coll : Nat) : State :=
  let head := s.fld (R.ETTXHEAD m) R.ETTXHEAD_INDEX
  let lg := s.fld (R.ETTXCTL m) R.ETTXCTL_LOG2N
  let d := descAt (s.rd (R.ETTXBASE m)) head
  let r := s.eccRead d 16
  let w1 := r.1.ld 4 (d + 4)
  if !s.macOn m R.ETCFG_TXEN || head == s.fld (R.ETTXTAIL m) R.ETTXTAIL_INDEX || w1 / 2 ^ 31 == 0 ||
      !inSramRange d 16 || decide (s.now < (s.mac m).pauseTill) then s
  else
    let s := r.1
    let buf := s.ld 4 d
    let len := w1 % 2048
    let nobuf := !inSramRange buf (max len 1)
    let data := s.bytesAt buf len
    let frame := data ++ List.replicate (60 - data.length) 0
    let ts := w1 / 65536 % 2 == 1
    let status := len + 65536 * ts.toNat + 2 ^ 17 * abort.toNat + 2 ^ 18 * excol.toNat + 2 ^ 21 * nobuf.toNat
    let stamp := wrapN 72 (s.wallAt s.now + latPs (s.fld R.PTPCFG R.PTPCFG_TXLAT) : Nat)
    let s := s.descDone d status (if ts && !nobuf then some stamp else none)
    let s := if nobuf then s else s.setMac m { s.mac m with sent := frame }
    let s := s.count (R.ETCNT m) R.ETCNT_COLL coll
    let s := s.setFld (R.ETTXHEAD m) R.ETTXHEAD_INDEX (ringNext lg head)
    let s := s.macIrq m 1
    if nobuf || abort || excol then s.macIrq m 2 else s

/-- The first six bytes of a frame as a number, the first lowest: the layout of ETMACL and ETMACH (assumption 40, DESIGN CHOICE). -/
def frameDest (l : List Nat) : Nat := numLow (l.take 6)

/-- The unicast address of MAC `m`. -/
def State.macOwn (s : State) (m : Nat) : Nat := (s.rd (R.ETMACL m)).toNat + 2 ^ 32 * s.fld (R.ETMACH m) R.ETMACH_ADDR

/-- The frame is one that the address filter passes (R404). -/
def State.macAccepts (s : State) (m : Nat) (l : List Nat) : Bool :=
  let dst := frameDest l
  let own := s.macOwn m
  let bin := Config.hashBin (l.take 6) % 64
  s.fld (R.ETCFG m) R.ETCFG_PROMISC == 1 || dst == own || dst == 2 ^ 48 - 1 ||
    (dst % 2 == 1 && (s.rd (R.ETHASH m (bin / 32))).getLsbD (bin % 32))

/-- A MAC control frame to address `own`, or to the multicast address of such frames, that asks for a pause: its time in units of 512
bit times (R404; IEEE 802.3: assumption 38, PRESUMED). -/
def pauseOf (own : Nat) (l : List Nat) : Option Nat :=
  if (frameDest l = own ∨ l.take 6 = [0x01, 0x80, 0xC2, 0, 0, 0x01]) ∧ nth l 12 = 0x88 ∧ nth l 13 = 0x08 ∧ nth l 14 = 0 ∧ nth l 15 = 1 then some (256 * nth l 16 + nth l 17) else none

/-- RECEIVED_FRAME of MAC `m` (R405, R406): `l` is the frame without its FCS; its first di-bit after the delimiter was sampled at
the present edge. -/
def State.macReceive (s : State) (m : Nat) (l : List Nat) (badFcs rxer : Bool) : State :=
  if !s.macOn m R.ETCFG_RXEN then s
  else if badFcs && s.fld (R.ETCFG m) R.ETCFG_KEEPBAD == 0 then s.count (R.ETCNT m) R.ETCNT_FCS 1
  else
    let s := if badFcs then s.count (R.ETCNT m) R.ETCNT_FCS 1 else s
    match (if badFcs || rxer then none else pauseOf (s.macOwn m) l), s.fld (R.ETCFG m) R.ETCFG_PAUSE with
    | some q, 1 =>
      let unit := if s.fld (R.ETCFG m) R.ETCFG_SPEED100 = 1 then 1024 else 10240
      s.setMac m { s.mac m with pauseTill := s.now + q * unit }
    | _, _ =>
      if !s.macAccepts m l then s
      else
        let head := s.fld (R.ETRXHEAD m) R.ETRXHEAD_INDEX
        let lg := s.fld (R.ETRXCTL m) R.ETRXCTL_LOG2N
        let d := descAt (s.rd (R.ETRXBASE m)) head
        let r := s.eccRead d 16
        let s := r.1
        let w1 := s.ld 4 (d + 4)
        if head = s.fld (R.ETRXTAIL m) R.ETRXTAIL_INDEX ∨ w1 / 2 ^ 31 = 0 ∨ inSramRange d 16 = false then
          (s.count (R.ETCNT m) R.ETCNT_DROP 1).macIrq m 2
        else
          let buf := s.ld 4 d
          let room := w1 % 2048
          let kept := l.take room
          let nobuf := !inSramRange buf (max kept.length 1)
          let odd := decide (1518 < l.length ∨ l.length < 60)
          let status := l.length % 2048 + 2 ^ 17 * badFcs.toNat + 2 ^ 18 * odd.toNat + 2 ^ 19 * rxer.toNat +
            2 ^ 20 * (decide (room < l.length)).toNat + 2 ^ 21 * nobuf.toNat
          let s := if nobuf then s else s.store buf kept.length (numLow kept)
          let stamp := wrapN 72 ((s.wallAt s.now : Int) - latPs (s.fld R.PTPCFG R.PTPCFG_RXLAT))
          let s := (s.descDone d status (some stamp)).setFld (R.ETRXHEAD m) R.ETRXHEAD_INDEX (ringNext lg head)
          let s := s.macIrq m 0
          if badFcs || odd || rxer || nobuf || decide (room < l.length) then s.macIrq m 2 else s

/-- A write of ETMDIO (R404): GO starts an access unless one is busy; else nothing (assumption 105, DESIGN CHOICE). -/
def State.mdioWrite (s : State) (m : Nat) (v : Word) : State :=
  if s.fld (R.ETMDIO m) R.ETMDIO_BUSY = 1 then s
  else
    let go := R.ETMDIO_GO.get v
    s.wr (R.ETMDIO m) (R.ETMDIO_BUSY.put (v &&& wmaskAt (R.ETMDIO m)) go)

/-- MDIO_DONE: the access completes; a read gives DATA. -/
def State.mdioDone (s : State) (m : Nat) (data : Nat) : State :=
  let v := s.rd (R.ETMDIO m)
  if R.ETMDIO_BUSY.get v = 0 then s
  else
    let v := if R.ETMDIO_WRITE.get v = 1 then v else R.ETMDIO_DATA.put v data
    (s.wr (R.ETMDIO m) (R.ETMDIO_GO.put (R.ETMDIO_BUSY.put v 0) 0)).macIrq m 3

/-- The requester that PTPCFG names, or the Staff port (R407). -/
def State.ptpRights (s : State) (w : Who) : Bool :=
  w.isStaff || (w.ring == 0 && w.id == s.fld R.PTPCFG R.PTPCFG_CORE && w.guard == (s.fld R.PTPCFG R.PTPCFG_WORLD == 1))

/-- A write of PTPADJ (R407, R111). -/
def State.ptpAdj (s : State) (w : Who) (v : Word) : State := if s.ptpRights w then s.wadj 2 v else s.wallStat 1

/-- A write of PTPSTEPL, the low half of a step (R407, R111). -/
def State.ptpLow (s : State) (w : Who) (v : Word) : State :=
  if !s.ptpRights w then s.wallStat 1 else if s.wallOwned 2 then s.wallStat 6 else (s.wr R.PTPSTEPL v).wallStat 0

/-- A write of PTPSTEPH (R407, R111). -/
def State.ptpStep (s : State) (w : Who) (v : Word) : State :=
  if s.ptpRights w then s.wstep 2 (s.rd R.PTPSTEPL) v else s.wallStat 1

/-- A write of ETCFG (R408): Guard ring 0 or the Staff port, while the MAC is disabled (else assumption 105, DESIGN CHOICE). -/
def State.etcfgWrite (s : State) (w : Who) (m : Nat) (v : Word) : State :=
  let a := R.ETCFG m
  let nv := v &&& wmaskAt a
  if w.priv && s.fld a R.ETCFG_TXEN == 0 && s.fld a R.ETCFG_RXEN == 0 then (s.wr a nv).logCfg w a (s.rd a) nv else s

/-- A write of another register of the block: ring 0 of either world or the Staff port (R408). -/
def State.macWrite (s : State) (w : Who) (a : Nat) (v : Word) : State :=
  if w.ring0 then
    let nv := Word.mix (s.rd a) v (wmaskAt a)
    (s.wr a nv).logCfg w a (s.rd a) nv
  else s

end Sys2Proof.Machine
end

