-- ==== Sys2Proof/Machine/HallMonitor.lean ====
section
/-! DEFINITION. The Hall Monitor (R467-R488): watch channels, inputs, measurements, the rule sheet, alarms, the event log and
retention RAM. -/

namespace Sys2Proof.Machine

def State.watch (s : State) (n : Nat) : Watch := s.hall.watches.get .reset n
def State.setWatch (s : State) (n : Nat) (x : Watch) : State :=
  { s with hall := { s.hall with watches := s.hall.watches.put n x } }
def State.hallIn (s : State) (i : Nat) : HallIn := s.hall.inputs.get .reset i
def State.setHallIn (s : State) (i : Nat) (x : HallIn) : State :=
  { s with hall := { s.hall with inputs := s.hall.inputs.put i x } }

/-- The main domain is powered. -/
def State.mainOn (s : State) : Bool := s.mode != .night

/-! ### Watch channels -/

/-- A field of HWCFG of channel `n`. -/
def State.hwcfg (s : State) (n : Nat) (f : F) : Nat := s.fld (R.HWCFG n) f

/-- Strobes per second (HWCFG.RATE). -/
def State.hwRate (s : State) (n : Nat) : Nat := 250 * 2 ^ s.hwcfg n R.HWCFG_RATE

/-- A recorded |TBVEL| exceeds the watch rate limit RATE/2 × MULT counts/s (R55, R472): a velocity of 2^32 is one count per
PSCLK, 200,000,000 counts/s. -/
def State.tooFast (s : State) (n : Nat) : Bool :=
  decide (s.hwRate n * s.hwcfg n R.HWCFG_MULT * 2 ^ 32 < 2 * 200000000 * (s.watch n).speed)

/-- A count in 40 bits, wrapping as R69 states. -/
def wrap40 (x : Int) : Int := diffSpan (2 ^ 40) x 0

/-- `n` whole ticks have passed at HMTIME since `since`. -/
def Hall.passed (h : Hall) (since : Option Nat) (n : Nat) : Bool :=
  since.all (fun t => decide (n ≤ (h.time + 2 ^ 48 - t) % 2 ^ 48))

/-- Channel `n` may strobe (R471): the whole ticks of its strobe period have passed since the last. -/
def State.strobeDue (s : State) (n : Nat) : Bool := s.hall.passed (s.watch n).strobeT (32768 / s.hwRate n)

/-- WATCH_STROBE of channel `n` (R471): levels `a` and `b` are sampled. -/
def State.watchStrobe (s : State) (n : Nat) (a b : Bool) : State :=
  let x := { s.watch n with strobeT := some s.hall.time }
  if !s.hall.alive || x.state != .watch || !s.strobeDue n then s
  else
    match x.pair with
    | none => s.setWatch n { x with pair := some (a, b) }
    | some (a0, b0) =>
      let y := { x with pair := some (a, b) }
      if a != a0 && b != b0 then
        s.setWatch n { y with valid := false, illegal := true, errs := min 255 (x.errs + 1) }
      else
        match quadStep 0 (s.hwcfg n R.HWCFG_DIR == 1) a0 b0 a b with
        | none => s.setWatch n y
        | some up =>
          let m : Int := s.hwcfg n R.HWCFG_MULT
          s.setWatch n { y with count := wrap40 (x.count + if up then m else -m) }

/-- A channel in MIRROR loads its count from its timebase at a tick (R473, R474). -/
def State.watchMirror (s : State) (n : Nat) : State :=
  let x := s.watch n
  let t := s.tb (s.hwcfg n R.HWCFG_TB)
  if x.state != .mirror then s
  else if t.state == .run && t.ref then
    s.setWatch n { x with valid := true, count := wrap40 (t.word / 256), speed := t.vel.natAbs }
  else s.setWatch n { x with valid := false, speed := t.vel.natAbs }

/-- Every channel in MIRROR returns to WATCH (R55, R473). -/
def State.watchReturn (s : State) : State :=
  (upFrom 0 4).foldl (fun (s : State) n =>
    let x := s.watch n
    if x.state != .mirror then s
    else s.setWatch n { x with
      state := .watch, night := x.count, pair := none, valid := x.valid && !s.tooFast n }) s

/-- HWCFG of channel `n` becomes `v` (R473, R475): a change of a field of an enabled channel clears VALID. -/
def State.hwcfgApply (s : State) (n : Nat) (v : Word) : State :=
  let old := s.rd (R.HWCFG n)
  let x := s.watch n
  let y :=
    if R.HWCFG_EN.get v = 0 then { x with state := WatchState.off, valid := false }
    else if R.HWCFG_EN.get old = 0 then { x with state := WatchState.watch, valid := false, pair := none }
    else if v != old then { x with valid := false }
    else x
  (s.setWatch n y).wr (R.HWCFG n) v

/-! ### Inputs and measurements -/

/-- Input `i` may be sampled (R476): the whole ticks of its period of 1, 4, 16, 64 or 256 ms have passed since the last sample. -/
def State.sampleDue (s : State) (i : Nat) : Bool :=
  s.hall.passed (s.hallIn i).sampleT (32768 * 4 ^ s.fld (R.HICFG i) R.HICFG_PER / 1000)

/-- INPUT_SAMPLE of input `i` (R476). -/
def State.inputSample (s : State) (i : Nat) (level : Bool) : State :=
  let a := R.HICFG i
  let x := { s.hallIn i with sampleT := some s.hall.time }
  if !s.hall.alive || s.fld a R.HICFG_EN = 0 || !s.sampleDue i then s
  else
    let l := (level :: x.samples).take 3
    let vote := decide (2 ≤ (l.filter id).length)
    let cand := (if s.fld a R.HICFG_MAJ = 1 then vote else level) != (s.fld a R.HICFG_INV == 1)
    let run := if cand == x.filt then 0 else x.run + 1
    if s.fld a R.HICFG_DEB < run then
      let s := s.setHallIn i { x with filt := cand, samples := l, run := 0 }
      { s with hall := { s.hall with changed := s.hall.changed ||| 2 ^ i } }
    else s.setHallIn i { x with samples := l, run := run }

/-- One step of a filter: y + floor((x - y) / 2^k), from the first sample (R477). -/
def filterStep (k : Nat) (y : Option (Int × Int)) (x : Int) : Option (Int × Int) :=
  match y with
  | none => some (x, x)
  | some (y, _) => some (y + (x - y) / ((2 ^ k : Nat) : Int), x)

/-- MEASUREMENT (R477), once per 1,024 evaluations: temperature in 1/16 °C, VBAT in mV. -/
def State.measure (s : State) (temp vbat : Int) : State :=
  if s.hall.alive && s.hall.passed s.hall.measT (1024 * 32) then
    { s with hall := { s.hall with
      measT := some s.hall.time
      temp := filterStep (s.fld R.HACFG R.HACFG_KT) s.hall.temp temp
      vbat := filterStep (s.fld R.HACFG R.HACFG_KB) s.hall.vbat vbat } }
  else s

/-! ### The rule sheet -/

/-- The Hall Monitor runs on its RC oscillator (R22). -/
def State.onRc (s : State) : Bool := s.fld R.CLKSTAT R.CLKSTAT_HMXTAL == 0

/-- The condition of rule `r` holds (R478). -/
def State.ruleCond (s : State) (r : Nat) : Bool :=
  let a := R.HMRULEA r
  let arg := s.fld a R.HMRULEA_ARG
  let th := s.fld (R.HMRULEB r) R.HMRULEB_TH
  match s.fld a R.HMRULEA_SRC with
  | 1 => (s.hallIn (arg % 8)).filt == (s.fld a R.HMRULEA_LVL == 1)
  | 2 => s.hall.changed.testBit (arg % 8)
  | 3 => s.hall.temp.any (fun t => decide (sx 16 th ≤ t.1))
  | 4 => s.hall.temp.any (fun t => decide (t.1 ≤ sx 16 th))
  | 5 => s.hall.vbat.any (fun t => decide (t.1 ≤ (th : Int)))
  | 6 => s.hwcfg (arg % 4) R.HWCFG_EN == 1 && !(s.watch (arg % 4)).valid
  | 7 =>
    let x := s.watch (arg % 4)
    x.state == .watch && decide (th < (x.count - x.night).natAbs)
  | 8 => s.onRc
  | 9 => (s.rd R.HMALARM).getLsbD arg
  | _ => false

/-- DAWN step 1 has begun since the main domain was last without power (R487): not while a DAWN that follows a power-on or a brown-out
waits for its clocks. -/
def State.stepOne (s : State) : Bool := s.clocks || decide (1 < s.fld R.RSTCAUSE R.RSTCAUSE_LAST)

/-- WHEN of rule `r` admits the state of the main domain (R478, R487). -/
def State.ruleWhen (s : State) (r : Nat) : Bool :=
  match s.fld (R.HMRULEA r) R.HMRULEA_WHEN with
  | 0 => true
  | 1 => !s.mainOn
  | 2 => s.mainOn && s.stepOne
  | _ => false

/-- Evaluations before the present one at which the condition of rule `r` must also have held. -/
def State.rulePersist (s : State) (r : Nat) : Nat :=
  s.fld (R.HMRULEA r) R.HMRULEA_PERSIST * (if s.fld (R.HMRULEA r) R.HMRULEA_PSCALE = 1 then 128 else 1)

/-- A rule that fires: its number, and whether LOG and ZERO act (the first evaluation of an unbroken run). -/
structure Firing where
  rule  : Nat
  first : Bool
deriving DecidableEq, Repr

def State.act1 (s : State) (f : Firing) (bit : F) : Bool := s.fld (R.HMRULEB f.rule) bit == 1

/-- The value that an entry of the event log keeps (R484). -/
def State.logValue (s : State) (r : Nat) : Nat :=
  let arg := s.fld (R.HMRULEA r) R.HMRULEA_ARG
  match s.fld (R.HMRULEA r) R.HMRULEA_SRC with
  | 1 | 2 => (upFrom 0 8).foldl (fun m i => m + 2 ^ i * (s.hallIn i).filt.toNat) 0
  | 3 | 4 => wrapN 16 ((s.hall.temp.map (·.1)).getD 0)
  | 5 => wrapN 16 ((s.hall.vbat.map (·.1)).getD 0)
  | 6 | 7 => wrapN 16 (s.watch (arg % 4)).count
  | _ => 0

/-- One LOG action (R484, R485). -/
def State.hallLog (s : State) (f : Firing) : State :=
  let h := s.hall
  let acts := s.fld (R.HMRULEB f.rule) ⟨16, 5⟩
  let s := s.wr (R.HMLOGE h.next 0) (BitVec.ofNat 32 h.time)
  let s := s.wr (R.HMLOGE h.next 1)
    (BitVec.ofNat 32 (f.rule + 16 * acts + 512 * s.mainOn.toNat + 65536 * s.logValue f.rule))
  let s := { s with hall := { s.hall with
    next := (h.next + 1) % 32, total := (h.total + 1) % 256
    lost := if h.unread = 32 then min 255 (h.lost + 1) else h.lost, unread := min 32 (h.unread + 1) } }
  if s.mainOn then s.arrive 0xEF else s

/-- HMALARM bit `b` is latched; HMALARMI when it was not, while the main domain is powered (R481, R488). -/
def State.latchAlarm (s : State) (b : Nat) : State :=
  let was := (s.rd R.HMALARM).getLsbD b
  let s := s.wr R.HMALARM (s.rd R.HMALARM ||| BitVec.ofNat 32 (2 ^ b))
  if s.mainOn && !was then s.arrive 0xEE else s

/-- The Logbook entries of a zeroize (R482): KIND 3, EVENT 7, PATH 6. -/
def State.zeroLog (s : State) : State :=
  { s.hall.zlog.foldl (fun (s : State) k => s.log 6 false 0 3 7 k 0 0) s with hall := { s.hall with zlog := [] } }

/-- What a zeroize erases (R482): slots 1 to 6 and bytes 0 to 255 of retention RAM; the flag clears and HMALARM.ZERO latches. -/
def State.zeroize (s : State) : State :=
  let s := [1, 2, 3, 4, 5, 6].foldl (fun (s : State) k => s.setKey k { state := .erased, key := [] }) s
  let s := (upFrom 0 64).foldl (fun (s : State) i => s.wr (R.HMRET i) 0) s
  let s := { s with hall := { s.hall with zpend := false, zlog := [1, 2, 3, 4, 5, 6] } }
  let s := s.latchAlarm 17
  if s.mainOn then
    { s with staff := { s.staff with sess := .closed, chal := [] } }.zeroLog.setFld R.SEALSTAT R.SEALSTAT_NOKEY 1
  else s

/-- An evaluation falls now: every 32 ticks (R468). -/
def State.evalDue (s : State) : Bool := s.hall.alive && s.hall.time % 32 == 0 && s.hall.evalT != some s.hall.time

/-- Every rule is judged on the state before; the actions run by kind, in rule order (R479, R480). -/
def State.hallJudge (s : State) : State :=
  let cond := (upFrom 0 16).map (fun r => (r, if s.ruleCond r then s.hall.held.get 0 r + 1 else 0))
  let met := cond.filter (fun c => s.ruleWhen c.1 && decide (s.rulePersist c.1 < c.2))
  let fires : List Firing := met.filterMap (fun c =>
    let first := !s.hall.met.testBit c.1
    if first || s.fld (R.HMRULEA c.1) R.HMRULEA_FIRE == 1 then some { rule := c.1, first := first } else none)
  let s := { s with hall := { s.hall with
    evalT := some s.hall.time, held := cond.filter (fun c => c.2 != 0), met := met.foldl (fun m c => m ||| 2 ^ c.1) 0, changed := 0 } }
  let on (bit : F) := fires.filter (fun f => s.act1 f bit)
  let log := (on R.HMRULEB_LOG).filter (·.first)
  let alarm := on R.HMRULEB_ALARM
  let zero := (on R.HMRULEB_ZERO).filter (·.first)
  let lock := on R.HMRULEB_LOCK
  let wake := on R.HMRULEB_WAKE
  let s := log.foldl State.hallLog s
  let s := alarm.foldl (fun (s : State) f => s.latchAlarm f.rule) s
  let s := zero.foldl (fun (s : State) _ => s.zeroize) s
  let s := lock.foldl (fun (s : State) f => (s.latchAlarm f.rule).demandLockout .hall 5) s
  if !wake.isEmpty && !s.mainOn then { s with hall := { s.hall with wakeout := true } } else s

/-- HM_TICK (R55, R468, R473); a session lockout counts down to its last tick (R422). -/
def State.hallTick (s : State) : State :=
  if !s.hall.alive then s
  else
    let left := if s.hall.lockout = 0 then 0 else max 1 (s.hall.lockout - 1)
    let s := { s with hall := { s.hall with time := (s.hall.time + 1) % 2 ^ 48, lockout := left } }
    if s.hall.unmirror then { s with hall := { s.hall with unmirror := false } }.watchReturn
    else (upFrom 0 4).foldl State.watchMirror s

/-! ### Reset of the domain (R467, R515) -/

/-- Every register field whose Reset column reads H takes its value after a Hall Monitor reset. -/
def hallFields (a : Nat) : Word :=
  match rowAt a with
  | some r => r.mask (fun _ t => match t with | .h _ => true | _ => false)
  | none => 0

/-- The register file with its H fields at their reset values. -/
def resetHall (regs : Tab Word) : Tab Word :=
  regs.map (fun e => (e.1, Word.mix e.2 (resetAt e.1) (hallFields e.1)))

/-- The crystal stops or starts (R22). -/
def State.crystal (s : State) (on : Bool) : State := s.setFld R.CLKSTAT R.CLKSTAT_HMXTAL on.toNat

/-- HM_RESET: VBAT falls below the reset threshold (R467): POR is latched, WAKEOUT is high, the session counters restart
(R422). The domain stands still until VBAT_GOOD. -/
def State.hallReset (s : State) : State :=
  let s := { s with regs := resetHall s.regs, hall := { Hall.reset with alive := false } }
  (s.crystal false).latchAlarm 16

/-- VBAT_GOOD (R515): the domain runs from its reset state, on its RC oscillator until the crystal starts (R523). -/
def State.vbatGood (s : State) : State :=
  if s.hall.alive then s else { s with hall := { s.hall with alive := true } }

/-- LOCKOUT_EXPIRED (R421, R422): the last tick of the lockout. -/
def State.lockoutExpired (s : State) : State :=
  if s.hall.lockout = 1 then { s with hall := { s.hall with lockout := 0 } } else s

/-! ### Registers (R470) -/

/-- HMSTAT.WSTAT of a requester. -/
def State.hallStat (s : State) (w : Who) (code : Nat) : State := s.wrReq w.id R.HMSTAT (BitVec.ofNat 32 (code * 256))

/-- DAWN has not reached step 7 (R487). -/
def State.beforeHandover (s : State) : Bool := s.mode == .dawn && decide (s.fld R.DAWNSTAT R.DAWNSTAT_STEP < 7)

/-- Why a write to a configuration register or to the rule sheet is refused: 1 RIGHTS, 2 NOTNOW, 4 LOCKED (R470, R483). -/
def State.hallCode (s : State) (w : Who) : Nat :=
  if s.fld R.HMCTL R.HMCTL_HMLOCK = 1 then (if w.isStaff && s.mode == .service then 0 else 4)
  else if !w.priv then 1
  else if s.mode != .prepare then 2
  else 0

/-- A value that the register refuses with BADCFG. -/
def hallBad (a : Nat) (v : Word) : Bool :=
  (upFrom 0 4).any (fun n => a == R.HWCFG n &&
    (decide (4 < R.HWCFG_RATE.get v) || R.HWCFG_SETTLE.get v == 0 || R.HWCFG_MULT.get v == 0)) ||
  (upFrom 0 8).any (fun i => a == R.HICFG i && decide (4 < R.HICFG_PER.get v))

/-- A write that waits for the next evaluation: every register but HMALARM and retention RAM (R470). -/
def State.hallWrite (s : State) (w : Who) (a : Nat) (v : Word) : State :=
  let code := s.hallCode w
  if s.beforeHandover then s.hallStat w 2
  else if code != 0 then s.hallStat w code
  else if s.hall.write.isSome then s.hallStat w 5
  else if hallBad a v then s.hallStat w 3
  else
    let x : HallWrite := { addr := a, val := v, who := w.id, guard := w.guard, ring := w.ring }
    { s with hall := { s.hall with write := some x } }.hallStat w 0

/-- HMLOGN.SEEN is the index up to which software has read (R484). -/
def State.hallSeen (s : State) (v : Word) : State :=
  let n := R.HMLOGN_SEEN.get v
  { s with hall := { s.hall with seen := n, unread := (s.hall.next + 32 - n) % 32 } }

/-- The waiting write takes effect and is recorded (R470). -/
def State.hallWritten (s : State) : State :=
  match s.hall.write with
  | none => s
  | some x =>
    let s := { s with hall := { s.hall with write := none } }
    let old := s.rd x.addr
    let v := Word.mix old x.val (wmaskAt x.addr)
    let who : Who := { id := x.who, guard := x.guard, ring := x.ring }
    if x.addr = R.HMLOGN then s.hallSeen x.val
    else
      let s := s.logWho who 0 x.addr old.toNat v.toNat
      if x.addr = R.HMCTL then s.setFld R.HMCTL R.HMCTL_HMLOCK (s.fld R.HMCTL R.HMCTL_HMLOCK ||| x.val.toNat % 2)
      else
        match (upFrom 0 4).find? (fun n => x.addr == R.HWCFG n) with
        | some n => s.hwcfgApply n v
        | none => s.wr x.addr v

/-- HM_WRITE_APPLY (R470): the waiting write takes effect at the next evaluation, before its rules are judged. -/
def State.hallApply (s : State) : State := if s.evalDue then s.hallWritten else s

/-- HM_EVALUATION (R468, R479, R480): a write that still waits takes effect, and the rules are judged. -/
def State.hallEvaluate (s : State) : State := if s.evalDue then s.hallWritten.hallJudge else s

/-- HMALARM_CLEAR (R470, R481): Guard ring 0 or the Staff port, in any mode. -/
def State.alarmClear (s : State) (w : Who) (mask : Word) : State :=
  if s.beforeHandover then s.hallStat w 2
  else if w.priv then (s.wr R.HMALARM (s.rd R.HMALARM &&& ~~~ mask)).hallStat w 0
  else s.hallStat w 1

/-- A write of HWSTAT of channel `n`: ILLEGAL, write 1 to clear. -/
def State.hwstatWrite (s : State) (w : Who) (n : Nat) (v : Word) : State :=
  let code := s.hallCode w
  if s.beforeHandover then s.hallStat w 2
  else if code != 0 then s.hallStat w code
  else if R.HWSTAT_ILLEGAL.get v = 1 then (s.setWatch n { s.watch n with illegal := false }).hallStat w 0
  else s.hallStat w 0

/-- A write of retention RAM word `i` (R470, R486): the Guard half needs Guard ring 0 or the Staff port. -/
def State.retWrite (s : State) (w : Who) (i : Nat) (v : Word) : State :=
  if s.beforeHandover then s.hallStat w 2
  else if w.priv || (64 ≤ i && w.ring0) then (s.wr (R.HMRET i) v).hallStat w 0
  else s.hallStat w 1

/-- HWSTAT of channel `n`. -/
def State.hwstat (s : State) (n : Nat) : Nat :=
  let x := s.watch n
  (match x.state with
    | .off => 0
    | .watch => 1
    | .mirror => 2) + 4 * x.valid.toNat + 8 * x.illegal.toNat + 256 * x.errs

/-- HMSTAT without its WSTAT. -/
def State.hmstat (s : State) : Nat :=
  s.fld R.CLKSTAT R.CLKSTAT_HMXTAL + 2 * s.hall.wakeout.toNat + 4 * s.hall.zpend.toNat + 8 * s.hall.write.isSome.toNat +
    16 * s.fld R.HMCTL R.HMCTL_HMLOCK

end Sys2Proof.Machine
end

