-- ==== Sys2Proof/Machine/Modes.lean ====
section
/-! DEFINITION. Modes, Dawn and Reset: mode requests (R36-R44), transitions and their effects (R38), resets (R46), the DAWN
sequence (R48-R56), supplies and clocks (R23, R515-R520), watchdog counting (R499), ESTOP_N (R301) and the pin epoch boundary
(R20). -/

namespace Sys2Proof.Machine

/-! ### Watchdog counting (R499) -/

/-- The logical cores of the variant. -/
def State.coreList (s : State) : List Nat := (upFrom 0 5).filter (fun l => s.variant.hasCore l)

/-- The watchdog of core `l` counts: enabled, the core released, in PREPARE, RUN and HOLD, and for G also in SAFE. -/
def State.wdCounts (s : State) (l : Nat) : Bool :=
  s.fld (R.WDCTL l) R.WDCTL_EN == 1 && (s.fld R.CORERUN R.CORERUN_RUN).testBit l &&
    (s.mode.active || (l == 0 && s.mode == .safe))

/-- A new interval of the watchdog of core `l` begins at the present edge. -/
def State.wdInterval (s : State) (l : Nat) : State :=
  { s with wdStart := s.wdStart.put l s.now, wdOut := s.wdOut.filter (· != l) }

/-- Each start of counting begins a new interval with NEXTKEY 0x5AA5. -/
def State.wdUpdate (s : State) : State :=
  s.coreList.foldl (fun (s : State) l =>
    let was := s.fld (R.WDSTAT l) R.WDSTAT_COUNTING == 1
    let now := s.wdCounts l
    if now == was then s
    else
      let s := s.setFld (R.WDSTAT l) R.WDSTAT_COUNTING now.toNat
      if now then (s.wdInterval l).setFld (R.WDSTAT l) R.WDSTAT_NEXTKEY 0x5AA5 else s) s

/-! ### Cores (R45) -/

/-- A core is released: from reset it starts at its Guard entry in Guard ring 0, and after a halt it resumes (R45, R257). -/
def State.coreRelease (s : State) (l : Nat) : State :=
  let c := s.core l
  let c := if c.started then c else { c with pc := s.rd (R.GENTRY l), started := true }
  let s := s.setCore l { c with third := false }
  (s.setFld R.CORERUN ⟨l, 1⟩ 1).wdUpdate

/-- A core is held: it keeps its registers and stacks, and its queued Bell requests are dropped (R45, R321). -/
def State.coreHold (s : State) (l : Nat) : State :=
  (((s.setFld R.CORERUN ⟨l, 1⟩ 0).bellDrop l (fun _ => true))).wdUpdate

/-- A write of CORERUN by Guard ring 0 of G (R45): a 1 for an absent core refuses the whole write. -/
def State.corerunWrite (s : State) (v : Word) : State :=
  let absent := (upFrom 0 5).any (fun l => v.getLsbD l && !s.variant.hasCore l)
  if absent then s.wr R.MODERESP (BitVec.ofNat 32 (4 + 65536 * 7))
  else
    s.coreList.foldl (fun (s : State) l =>
      let on := (s.fld R.CORERUN R.CORERUN_RUN).testBit l
      if v.getLsbD l && !on then s.coreRelease l else if !v.getLsbD l && on then s.coreHold l else s) s

/-- The reset of core `l` alone (R300): registers and stacks at their reset values, save sets discarded, Bell requests dropped;
TCM, world control block and armed slots are kept. With the save sets gone no NMI or double-fault handler is active. -/
def State.coreReset (s : State) (l : Nat) : State :=
  let s := s.setCore l .reset
  let s := { s with regs := s.regs.erase (fun a => decide (R.SAVE l 0 ≤ a ∧ a < R.SAVE l 0 + 0x400)) }
  let s := (s.setFld (R.NMIPEND l) R.NMIPEND_NMIACT 0).setFld (R.DFSTAT l) R.DFSTAT_ACTIVE 0
  s.bellDrop l (fun _ => true)

/-! ### Outputs at a change of mode -/

/-- Event line `l` at the boundary where RUN begins (R172). -/
def State.lineRun (s : State) (l : Nat) : State :=
  let b := s.safeBit l
  s.setLine l { s.line l with fd := { a := .idle b, b := .idle b }, safed := false }

/-- Generator `g` at the boundary where RUN begins (R172). -/
def State.genRun (s : State) (g : Nat) : State := s.setGen g { (s.gen g).stopSafe with safed := false }

/-- PWM channel `c` at the boundary `k` where RUN begins (R172). -/
def State.pwmStart (s : State) (c k : Nat) : State :=
  let x := s.pwm c
  let duty := if s.effFld (R.PWMCFG c) R.PWMCFG_SAFE = 1 then 4 * x.per else 0
  (s.setPwm c { x with duty := duty, startK := k, next := none, safed := false }).setFld (R.PWMDUTY c) R.PWMDUTY_DUTY duty

/-- Sigma-delta output `i` at the boundary where RUN begins (R172). -/
def State.sdStart (s : State) (i : Nat) : State :=
  let code := if s.effFld (R.SDCFG i) R.SDCFG_SAFE = 1 then s.effFld (R.SDCFG i) R.SDCFG_SAFECODE else 0
  { s with inForce := s.inForce.erase (· == R.SDCODE i) }.setSd i { s.sd i with code := code, safed := false }
    |>.setFld (R.SDCODE i) R.SDCODE_CODE code

/-- Every event line, generator, PWM channel and sigma-delta output changed. -/
def State.mapLines (s : State) (f : State → Nat → State) : State := (upFrom 0 64).foldl f s
def State.mapGens (s : State) (f : State → Nat → State) : State := (upFrom 0 16).foldl f s
def State.mapPwms (s : State) (f : State → Nat → State) : State := (upFrom 0 16).foldl f s
def State.mapSds (s : State) (f : State → Nat → State) : State := (upFrom 0 8).foldl f s
def State.mapRcs (s : State) (f : State → Nat → State) : State := (upFrom 0 s.variant.nRecit).foldl f s

/-- PREPARE to RUN at boundary `k`: every output starts from its safe level (R38, R172, R388, R402). -/
def State.outputsRun (s : State) (k : Nat) : State :=
  let s := s.mapLines State.lineRun
  let s := ((s.mapGens State.genRun).mapPwms (fun s c => s.pwmStart c k)).mapSds State.sdStart
  (s.mapRcs State.rcRunEntry).attRunEntry

/-- Event line `l` at the boundary `k` where HOLD begins (R173): LOW and HIGH discard the edges that would land after it. -/
def State.lineHold (s : State) (k l : Nat) : State :=
  let x := s.line l
  let late (e : FdEntry) : Bool := decide (4 * k < e.at)
  if s.effFld (R.EVCFG l) R.EVCFG_HOLD ≤ 1 then
    let n := x.fd.a.dropped late
    let s := s.setLine l { x with fd := x.fd.map (·.drop late) }
    if n = 0 then s else s.count R.EVHDROP R.EVHDROP_COUNT n
  else s

/-- Generator `g` at the boundary `k` where HOLD begins (R182). A step edge placed after it waits for HOLD to end (assumption 93,
DEDUCED). -/
def State.genHold (s : State) (k g : Nat) : State :=
  let x := s.gen g
  if s.effFld (R.PTCFG g) R.PTCFG_HOLDRUN = 1 ∨ !(x.state == .running || x.state == .dirwait) then s
  else
    let s := s.genStep g (k - 1)
    let x := s.gen g
    let waits := x.fd.a.dropped (fun e => decide (4 * k < e.at)) != 0
    s.setGen g { x.cut (4 * k) with state := .held, first := x.first || waits }

/-- Generator `g` when HOLD ends in RUN at boundary `k` (R182): it continues from the kept phase, once DIRSU has run out. -/
def State.genResume (s : State) (k g : Nat) : State :=
  let x := s.gen g
  if x.state != .held then s
  else if k < x.dirTill then s.setGen g { x with state := .dirwait }
  else s.genGo g k

/-- PWM channel `c` at the boundary `k` where HOLD begins: KEEP keeps the level that results (R173). -/
def State.pwmHold (s : State) (k c : Nat) : State := s.setPwm c { s.pwm c with kept := s.pwmRun c k }

/-- A RATE that was written in HOLD to a generator without HOLDRUN takes effect when HOLD ends (R182). -/
def State.ratesAfterHold (s : State) : State :=
  s.mapGens (fun s g => if (s.inForce.find (R.PTRATE g)).isSome then s.commitRate g else s)

/-- RUN or HOLD ends in a mode in which the outputs are safe: generators stop, and their direction is held (R170, R182). -/
def State.genStopAll (s : State) : State := s.mapGens State.genPark

/-- Entry to PREPARE: every output is at its safe state, and the safe path lets go, for forcing (R170, R178). -/
def State.outputsPrepare (s : State) : State :=
  let s := s.mapLines (fun s l => s.setLine l { (s.line l).toSafe with safed := false })
  let s := s.mapGens (fun s g => s.setGen g { (s.gen g).stopSafe with safed := false })
  let s := s.mapPwms (fun s c => s.setPwm c { s.pwm c with safed := false })
  let s := s.mapSds (fun s i => s.setSd i { s.sd i with safed := false })
  let s := s.mapRcs (fun s c => s.setRc c { s.rc c with safed := false })
  { s with att := { s.att with safed := false } }

/-- Where PREPARE ends, forces end with it (R178). -/
def State.endForces (s : State) : State :=
  let forced (a : Nat) : Bool := a == R.EVFEN 0 || a == R.EVFEN 1
  { (s.wr (R.EVFEN 0) 0).wr (R.EVFEN 1) 0 with inForce := s.inForce.erase forced }

/-! ### What a transition does (R38) -/

/-- Every slot that is not FREE ends with status MODE, and the queues stop (R38, R165). -/
def State.disarmAll (s : State) (modestop : Bool) : State :=
  (s.endSlots (fun _ _ => true) 7).mapQueues (Queue.modeStop modestop)

/-- The Shop world of every core is halted, and Shop requests in the Bell queues are dropped (R288, R321). -/
def State.haltShop (s : State) : State :=
  s.coreList.foldl (fun (s : State) l =>
    (s.setCore l { s.core l with shopHalted := true }).bellDrop l (fun r => !r.guard)) s

/-- What SAFE, LOCKOUT and SERVICE have in common: outputs safe, slots disarmed, queues and Recitation channels stopped. -/
def State.enterSafe (s : State) : State :=
  let s := s.safePath.disarmAll true
  s.mapRcs (fun s c => s.rcStop c 3 s.now)

/-- LOCKSTAT on entry to LOCKOUT (R506); a DAWN that policy kept locked leaves the cause (R507). -/
def State.lockStat (s : State) (cause : Nat) : State :=
  let n := s.fld R.LOCKSTAT R.LOCKSTAT_COUNT + 1
  let s := s.setFld R.LOCKSTAT R.LOCKSTAT_COUNT n
  if cause = 9 ∧ s.fld R.LOCKSTAT R.LOCKSTAT_PEND = 1 ∧ s.fld R.LOCKSTAT R.LOCKSTAT_CLROK = 0 then s
  else
    let ok := if cause = 9 then 1 else (s.fld R.GPOLICY R.GPOLICY_CLR / 2 ^ (cause - 1)) % 2
    ((s.setFld R.LOCKSTAT R.LOCKSTAT_CAUSE cause).setFld R.LOCKSTAT R.LOCKSTAT_PEND 1).setFld R.LOCKSTAT R.LOCKSTAT_CLROK ok

/-- Every world of every core is halted (R38). -/
def State.haltAll (s : State) : State :=
  s.coreList.foldl (fun (s : State) l => s.bellDrop l (fun _ => true)) s

/-- The ring unit becomes a repeater (R379, R380). -/
def State.enRepeat (s : State) : State :=
  if s.en.state == .down then s else s.enState .repeats

/-- The safety-class MODE message of entry to SAFE (R38, R363, R380). -/
def State.enModeMsg (s : State) (old new : Mode) (req : ModeReq) : State :=
  if s.enJoined then
    s.enSend { typ := 6, cls := 0, bcast := true, dest := 0, tag := 0, body := new.code + 256 * old.code + 65536 * req.code }
  else s

/-- IDSTAT's count of SERVICE openings (R451). -/
def State.idCount (s : State) : State :=
  (s.setFld R.IDSTAT R.IDSTAT_COUNT s.otp.count).setFld R.IDSTAT R.IDSTAT_SATURATED (decide (64 ≤ s.otp.count)).toNat

/-- The session ends with the main domain's part of it (R423). -/
def State.endSession (s : State) : State :=
  { s with staff := { s.staff with sess := .closed, chal := [], access := none } }

/-- The steps of R457 that follow the first: the session ends, its Logbook entry, SVCPEND, the erase, the counter. HMLOCK clears
on entry (R487). -/
def State.serviceOpen (s : State) : State :=
  let s := (s.log 5 false 0 3 6 0 0 0).logFlush.endSession
  let n := s.otp.count
  let s := { s with otp := { s.otp with svcpend := some n } }.serviceErase
  let s := { s with otp := { s.otp.counted with svcpend := none } }.idCount
  s.setFld R.HMCTL R.HMCTL_HMLOCK 0

/-- An entry to LOCKOUT cancels stage 2 of every watchdog (R500). -/
def State.cancelStage2 (s : State) : State :=
  s.coreList.foldl (fun (s : State) l =>
    if s.fld (R.WDSTAT l) R.WDSTAT_S2PEND = 1 then s.setFld (R.WDSTAT l) R.WDSTAT_S2PEND 0 else s) s

/-- The effects of a transition from `old` to its target at boundary `k` (R38, R165, R173, R380, R388). -/
def State.modeEffects (s : State) (old : Mode) (t : Trans) (k : Nat) : State :=
  match t.target with
  | .prepare =>
    if old == .dawn then s.outputsPrepare
    else if old == .safe then s.outputsPrepare.restartQueues
    else ((s.disarmAll false).outputsPrepare).mapRcs State.rcResume
  | .run =>
    if old == .hold then
      ((s.mapGens (fun s g => s.genResume k g)).ratesAfterHold.mapRcs State.rcResume).resumeQueues.resolveHeld
    else s.outputsRun k
  | .hold =>
    let s := ((s.mapLines (fun s l => s.lineHold k l)).mapGens (fun s g => s.genHold k g)).mapPwms (fun s c => s.pwmHold k c)
    (s.mapRcs State.rcPause).mapQueues Queue.hold
  | .safe => (s.enterSafe.haltShop).enModeMsg old .safe t.req
  | .lockout => ((s.enterSafe.haltAll).lockStat t.cause).enRepeat.cancelStage2
  | .service => (s.enterSafe.haltAll).enRepeat.serviceOpen
  | _ => s

/-! ### Reset of the main domain (R46-R48, R423, R549) -/

/-- Event line `l` is driving its safe state (R47). -/
def State.drivesSafe (s : State) (l : Nat) : Bool :=
  (s.line l).latch.isSome && ((s.line l).safed || !s.clocks || s.lineOut l == (s.line l).latch.getD .z)

/-- The bits of a register that a reset of the main domain leaves (R13, R47, R438): "H" fields, the function of a ball, the
index and number of the Logbook's last entry, and what PINBANK measures of the bank supplies, which are none of the main domain's
(R517). -/
def keptBits (por : Bool) (a : Nat) : Word :=
  let h := hallFields a
  if a = R.LBSTAT then h ||| BitVec.ofNat 32 R.LBSTAT_NEXT.mask
  else if a = R.LBSEQ then BitVec.allOnes 32
  else if a = R.PINBANK then BitVec.ofNat 32 R.PINBANK_SUPPLY.mask
  else if !por && decide (R.PINFN 0 ≤ a ∧ a ≤ R.PINFN 95) then BitVec.ofNat 32 R.PINFN_FUNC.mask
  else h

/-- The register file after a reset of the main domain. -/
def resetMain (por : Bool) (regs : Tab Word) : Tab Word :=
  regs.filterMap (fun e =>
    let m := keptBits por e.1
    if m = 0 then none else some (e.1, Word.mix (resetAt e.1) e.2 m))

/-- Memory that a reset leaves: MRAM and the Logbook; TCM and shared SRAM are zeroed by DAWN step 2 or lost in NIGHT (R330,
R331). -/
def keptMem (a : Nat) : Bool := decide (a < 0x20000000 ∨ 0x40000000 ≤ a)

/-- The main domain after a reset; `por`: by power-on, which also clears the safe-state latches (R47). Registers take their Reset
columns, and each unit its reset state. -/
def State.resetUnits (s : State) (por : Bool) : State :=
  let keep (l : Nat) : Line := { Line.reset with latch := if !por && s.drivesSafe l then (s.line l).latch else none, safed := true }
  let gen (g : Nat) : Gen := { Gen.reset with latch := if !por && s.genIsSafe g then (s.gen g).latch else none, safed := true }
  let pwm (c : Nat) : Pwm := { Pwm.reset with latch := if !por && s.pwmIsSafe c then (s.pwm c).latch else none, safed := true }
  let sd (i : Nat) : Sd := { Sd.reset with latch := if !por && s.sdIsSafe i then (s.sd i).latch else none, safed := true }
  let rc (c : Nat) : Rc := { Rc.reset with latch := if !por && s.rcSafeBalls c then (s.rc c).latch else none, safed := true }
  let oe := if !por && (s.safeMode || !s.clocks || s.att.safed) then s.att.latch else none
  { pending := s.pending, variant := s.variant, freeCtr := s.freeCtr, rdata := s.rdata, now := 0
    regs := resetMain por s.regs, inForce := [], was := [], mem := s.mem.filter (fun c => keptMem c.1)
    ecc := s.ecc.erase (fun a => !keptMem a), mrq := [], mrRun := false, openLines := s.openLines, scrub := 0, scrubDue := 0, dip := s.dip
    mode := .dawn, trans := none, dawn := if s.resetN then .waitClock else .waitReset, stepK := 0, supply := s.supply
    resetN := s.resetN, refOk := s.refOk, pllOk := s.pllOk, clocks := false, dawnEnd := none, estopN := s.estopN, estopAt := none
    svcLow := s.svcLow.map (fun _ => 0), chans := [], mains := .reset, tbs := []
    wall := { base := 0, baseK := 0, hist := [], adj := 0, step := none }, caps := [], capSeq := 0, handed := false, capAt := []
    slots := [], memq := [], acts := [], ttPeak := 0, queues := [], reports := [], repFirst := false
    lines := (upFrom 0 64).map (fun l => (l, keep l)), gens := (upFrom 0 16).map (fun g => (g, gen g))
    pwms := (upFrom 0 16).map (fun c => (c, pwm c)), sds := (upFrom 0 8).map (fun i => (i, sd i))
    pins := s.pins.map (fun e => (e.1, { e.2 with conn := if por then 0 else e.2.conn, sw := none, wstat := 0 }))
    bankOk := s.bankOk, loaded := false, cores := [], rcs := (upFrom 0 8).map (fun c => (c, rc c)), uarts := []
    att := { Att.reset with latch := oe, safed := true }, macs := [], bells := [], enq := [], en := .reset
    fcMap := [], fcOut := [], logQ := s.logQ, staff := .reset, owners := [], page := [], snapK := 0, hall := s.hall, keys := s.keys
    otp := s.otp, certBuf := [], attRec := none, signing := none
    noise := List.replicate s.variant.nNoise .starting, drbgs := [], drbgLast := 6, crypto := [], crLast := 5, wdStart := [], wdOut := [], wdStage := []
    restart := .none, safeTest := none }

/-- RSTCAUSE after a reset of kind `bit` (R46). -/
def State.rstCause (s : State) (bit : Nat) : State :=
  (s.setFld R.RSTCAUSE ⟨bit, 1⟩ 1).setFld R.RSTCAUSE R.RSTCAUSE_LAST bit

/-- A reset of the main domain of kind `bit` that leads to DAWN (R41, R46, R549). A reset with the clocks running first lets the
MRAM controller and the Logbook finish what they hold; `begun`: otherwise, whether the first program had begun (R339). -/
def State.mainReset (s : State) (bit : Nat) (path : Nat × Bool × Nat) (clockLoss begun : Bool) : State :=
  let s := if clockLoss then { (if begun then s.mrNext else s) with mrq := [], logQ := [] } else s.mrFlush.logFlush
  let old := s.rd R.MODESTAT
  let svc := s.mode == .service
  let s := (s.resetUnits false).rstCause bit
  let s := if svc then s.setFld R.RSTCAUSE R.RSTCAUSE_SVCDONE 1 else s
  s.log path.1 path.2.1 path.2.2 2 0 R.MODESTAT old.toNat (s.rd R.MODESTAT).toNat

/-- NIGHT: the main domain is off, or held in reset (R520), and mirrored watch channels return to WATCH at the next tick (R55). -/
def State.toNight (s : State) : State :=
  let s := s.resetUnits false
  { s with mode := .night, dawn := .none, hall := { s.hall with unmirror := true } }

/-! ### Completing a transition (R38, R41) -/

/-- MODESTAT after a completed transition. -/
def State.modeStat (s : State) (old new : Mode) (req : ModeReq) (busy : Bool) : State :=
  s.wr R.MODESTAT (BitVec.ofNat 32 (new.code + 8 * busy.toNat + 16 * old.code + 256 * req.code))

/-- DAWN has ended: STEP reads 0, and DAWNTIME stands (DAWNSTAT, DAWNTIME). -/
def State.dawnOver (s : State) : State :=
  if s.mode == .dawn then
    { s with dawn := .none, dawnEnd := some s.now }.setFld R.DAWNSTAT R.DAWNSTAT_STEP 0
  else s

/-- The mode takes effect at boundary `k` with its effects, MODECHG for every core and its Logbook entry (R38, R41). A mode of
PREPARE, RUN or HOLD that is reached with ESTOP_N low asks for SAFE at once (R36). -/
def State.complete (s : State) (t : Trans) (k : Nat) : State :=
  let old := s.mode
  let ms := s.rd R.MODESTAT
  let s := if (old == .run || old == .hold) && t.target != .run && t.target != .hold then s.genStopAll else s
  let s := if old == .prepare then s.endForces else s
  let s := { s.dawnOver with trans := none, mode := t.target }
  let s := if old == .hold && t.target != .run then s.ratesAfterHold else s
  let s := (s.modeStat old t.target t.req false).modeEffects old t k
  let s := s.coreList.foldl (fun (s : State) l => s.arrive (0x98 + l)) s.wdUpdate
  let s := s.log t.path.1 t.path.2.1 t.path.2.2 2 0 R.MODESTAT ms.toNat (s.rd R.MODESTAT).toNat
  if !s.estopN then s.demandSafe .estop else s

/-- A requested NIGHT (R36, R38, R380, R469): the outputs go safe, pending MRAM writes and Logbook entries are programmed, a participant of
the ring announces NIGHT in one more cycle, and WAKEOUT will go low. -/
def State.completeNight (s : State) (t : Trans) : State :=
  let s := s.safePath
  let ms := s.rd R.MODESTAT
  let new := 16 * s.mode.code + 256 * t.req.code
  let s := (s.mrFlush.log t.path.1 t.path.2.1 t.path.2.2 2 0 R.MODESTAT ms.toNat new).logFlush
  let en := if s.enJoined then { s.en with farewell := true, pubs := [], ringA := .reset, ringB := .reset } else .reset
  let s := s.toNight
  { s with en := en, hall := { s.hall with sleepDue := true } }

/-- NIGHT_WAKEOUT_LOW (R469). -/
def State.wakeoutLow (s : State) : State :=
  if s.hall.sleepDue then { s with en := .reset, hall := { s.hall with sleepDue := false, wakeout := false } } else s

/-! ### Mode requests (R36-R44) -/

/-- A condition of the transition table (R36). -/
inductive ModeCond | always | dawn | run | estop | service | clear
deriving DecidableEq, Repr

/-- The row of the transition table for a path: who may ask, and the condition; none when the table has no such path. -/
def modeRow (src target : Mode) : Option (List ModeReq × ModeCond) :=
  match target, src with
  | .prepare, .dawn => some ([.guard], .dawn)
  | .safe, .dawn => some ([.fault], .always)
  | .lockout, .dawn => some ([.fault], .always)
  | .run, .prepare => some ([.guard, .staff], .run)
  | .hold, .run => some ([.guard, .shop, .staff], .always)
  | .run, .hold => some ([.guard, .shop, .staff], .estop)
  | .prepare, .run | .prepare, .hold => some ([.guard, .staff], .always)
  | .safe, .prepare | .safe, .run | .safe, .hold => some ([.estop, .fault, .guard, .staff], .always)
  | .prepare, .safe => some ([.guard, .staff], .estop)
  | .lockout, .prepare | .lockout, .run | .lockout, .hold | .lockout, .safe =>
    some ([.fault, .guard, .staff, .hall], .always)
  | .dawn, .lockout => some ([.staff, .supply], .clear)
  | .dawn, .night => some ([.supply], .always)
  | .dawn, _ => some ([.supply, .staff, .guard, .fault], .always)
  | .service, .prepare | .service, .safe | .service, .lockout => some ([.staff], .service)
  | .night, .prepare | .night, .safe | .night, .lockout => some ([.supply, .guard, .staff], .always)
  | .night, .night => none
  | .night, _ => some ([.supply], .always)
  | _, _ => none

/-- SVCREQ_N has been low for at least 100 ms (R36). -/
def State.svcHeld (s : State) : Bool := s.svcLow.any (fun k => decide (k + 20000000 ≤ s.now))

/-- WHY of the first failing condition, 0 when all hold (R43, R50, R507). -/
def State.modeWhy (s : State) : ModeCond → Nat
  | .always => 0
  | .dawn =>
    if s.fld R.LOCKSTAT R.LOCKSTAT_PEND == 1 && s.fld R.LOCKSTAT R.LOCKSTAT_CLROK == 0 then 2 else 0
  | .run =>
    if !s.estopN then 1 else if s.fltsum != 0 then 2 else if s.fld R.DAWNSTAT R.DAWNSTAT_IMGBAD = 1 then 3 else 0
  | .estop => if s.estopN then 0 else 1
  | .service => if s.svcHeld then 0 else 4
  | .clear => if s.fld R.LOCKSTAT R.LOCKSTAT_CLROK = 1 then 0 else 6

/-- The requester of R36 that `w` is. -/
def Who.modeReq (w : Who) : ModeReq := if w.isStaff then .staff else if w.guard then .guard else .shop

/-- STATUS and WHY of a request (R36, R39, R42, R43, R427). -/
def State.judge (s : State) (target : Mode) (req : ModeReq) : Nat × Nat :=
  let preempts := target == .safe || target == .lockout
  if s.trans.isSome && !preempts then (5, 0)
  else
    match modeRow s.srcMode target with
    | none => (2, 0)
    | some (who, cond) =>
      if !who.contains req then (3, 0)
      else if req == .staff && s.staff.sess != .opened then (4, 5)
      else
        let why := s.modeWhy cond
        if why = 0 then (1, 0) else (4, why)

/-- The path of a requester's Logbook entry (R41, R438). -/
def Who.path (w : Who) : Nat × Bool × Nat := if w.isStaff then (5, false, 0) else (w.id, w.guard, w.ring)

/-- An accepted request is carried out: DAWN at once as a reset, PREPARE from DAWN as R36, R52 and R56 redirect it, and the others
as a transition. -/
def State.carryOut (s : State) (w : Who) (target : Mode) : State :=
  let req := w.modeReq
  match target with
  | .dawn =>
    if s.mode == .lockout then
      (s.setFld R.LOCKSTAT R.LOCKSTAT_PEND 0).mainReset 7 w.path false false
    else s.mainReset (if w.isStaff then 4 else 5) w.path false false
  | .prepare =>
    if s.mode == .dawn then
      let s := if !s.estopN then (s.setFld R.DAWNSTAT R.DAWNSTAT_ESTOPLOW 1).accept .safe .estop 0 (6, false, 0)
        else if s.fld R.DAWNSTAT R.DAWNSTAT_HMALARM = 1 then s.accept .safe .hall 0 (6, false, 0)
        else s.accept .prepare req 0 w.path
      s.modeResp 1 .prepare req 0
    else s.accept .prepare req 0 w.path
  | _ => s.accept target req 6 w.path

/-- A mode request by `w`, who may make one (R36-R44). -/
def State.modeRequest (s : State) (w : Who) (target : Mode) : State :=
  let req := w.modeReq
  match s.judge target req with
  | (1, _) => s.carryOut w target
  | (status, why) => s.modeResp status target req why

/-- The mode that a code names. -/
def Mode.ofCode : Nat → Mode
  | 0 => .night
  | 1 => .dawn
  | 2 => .prepare
  | 3 => .run
  | 4 => .hold
  | 5 => .safe
  | 6 => .service
  | _ => .lockout

/-- A write of MODEREQ (R42): without the key it requests nothing. -/
def State.modereqWrite (s : State) (w : Who) (v : Word) : State :=
  let target := Mode.ofCode (R.MODEREQ_TARGET.get v)
  if R.MODEREQ_KEY.get v != 0xA55A then s.modeResp 6 target w.modeReq 0 else s.modeRequest w target

/-! ### ESTOP_N and SVCREQ_N -/

/-- The glitch filter passes a change of ESTOP_N at edge `k`: FILT + 1 samples since the last one have seen the new level (R65, R301).
With the clocks stopped nothing is sampled, and the level is taken as it is. -/
def State.estopPasses (s : State) (k : Nat) : Bool :=
  !s.clocks || s.estopAt.all (fun e => decide (e + s.effFld R.ESTOPCFG R.ESTOPCFG_FILT + 1 ≤ k))

/-- ESTOP_N_FALL, accepted at edge `k` (R36, R52, R301, R302). -/
def State.estopFall (s : State) (k : Nat) : State :=
  let t := s.advance k
  if !s.estopN || !t.estopPasses k then t
  else
    let s := { t with estopN := false, estopAt := some k }
    let s := (s.setFld R.ESTOPSTAT R.ESTOPSTAT_FELL 1).count R.ESTOPSTAT R.ESTOPSTAT_COUNT 1
    let s := s.coreList.foldl (fun (s : State) l => s.nmi l R.NMIPEND_ESTOP) s
    if s.mode == .dawn then s.setFld R.DAWNSTAT R.DAWNSTAT_ESTOPLOW 1 else s.demandSafe .estop

/-- ESTOP_N_RISE at edge `k` (R301). -/
def State.estopRise (s : State) (k : Nat) : State :=
  let t := s.advance k
  if s.estopN || !t.estopPasses k then t else { t with estopN := true, estopAt := some k }

/-- A write of ESTOPCFG (R301). -/
def State.estopcfgWrite (s : State) (w : Who) (v : Word) : State :=
  let stat (s : State) (code : Nat) : State := s.setFld R.ESTOPSTAT R.ESTOPSTAT_WSTAT code
  let nv := v &&& wmaskAt R.ESTOPCFG
  if !w.priv then stat s 1
  else if s.mode != .prepare then stat s 2
  else stat ((s.defer R.ESTOPCFG nv).logCfg w R.ESTOPCFG (s.rd R.ESTOPCFG) nv) 0

/-- SVCREQ_N_CHANGE at edge `k`. -/
def State.svcreq (s : State) (k : Nat) (low : Bool) : State :=
  let s := s.advance k
  if low then (if s.svcLow.isSome then s else { s with svcLow := some s.now }) else { s with svcLow := none }

/-! ### Supplies, RESET_N and clocks (R23, R46, R515-R520) -/

/-- A power-on reset (R46, R47, R506, R520): the latches and LOCKSTAT.PEND are cleared, and DAWN follows when RESET_N is high. -/
def State.powerUp (s : State) (por : Bool) : State :=
  let s := s.resetUnits por
  let s := if por then (s.rstCause 0).setFld R.LOCKSTAT R.LOCKSTAT_PEND 0 else s
  let s := s.log 6 false 0 2 0 R.MODESTAT 0 (s.rd R.MODESTAT).toNat
  if s.resetN then s else { s with mode := .night }

/-- POWER_ON: VDD, VDDA and VDDM rise through their thresholds. It is a power-on reset when VDD had been lost (R46). -/
def State.powerOn (s : State) : State :=
  if s.suppliesGood || s.mode != .night then s
  else
    let por := !s.supply.headD true
    { s with supply := [true, true, true], dip := (false, false) }.powerUp por

/-- BROWN_OUT of supply `i` (0 VDD, 1 VDDA, 2 VDDM); `begun`: the program of the first MRAM operation had begun (R46, R55, R339,
R508). -/
def State.brownOut (s : State) (i : Nat) (begun : Bool) : State :=
  let lost (s : State) : State := { s with supply := s.supply.set i false, dip := (false, false) }
  if s.mode == .night then { (lost s).rstCause 1 with dawn := .none }
  else
    let svc := s.mode == .service
    let s := { (if begun then s.mrNext else s) with mrq := [], logQ := [] }.safePath
    let s := (lost s.toNight).rstCause 1
    if svc then s.setFld R.RSTCAUSE R.RSTCAUSE_SVCDONE 1 else s

/-- SUPPLY_DIP of VDD or VDDM (R516): no program starts while it lasts; SUPSTAT counts it. -/
def State.supplyDip (s : State) (vdd begun : Bool) : State :=
  if s.mode == .night then s
  else
    let s := { s with dip := if vdd then (true, s.dip.2) else (s.dip.1, true), mrRun := begun && !s.mrq.isEmpty }
    s.count R.SUPSTAT (if vdd then R.SUPSTAT_VDDDIP else R.SUPSTAT_VDDMDIP) 1

/-- SUPPLY_DIP_END (R516). -/
def State.supplyDipEnd (s : State) (vdd : Bool) : State :=
  { s with dip := if vdd then (false, s.dip.2) else (s.dip.1, false) }

/-- RESET_PIN (R46): held low for at least 1 µs it resets the main domain, and DAWN follows when it rises. -/
def State.resetPin (s : State) (low : Bool) : State :=
  if low then
    if !s.resetN then s
    else
      let s := { s with resetN := false }
      if s.mode == .night then s else s.mainReset 2 (6, false, 0) false false
  else
    let s := { s with resetN := true }
    if s.dawn == .waitReset && s.suppliesGood then { s with mode := .dawn, dawn := .waitClock } else s

/-- PLL_LOCK_LOSS or REFERENCE_ABSENT (R23): outputs safe, clocks stop, reset with cause CLOCK, and its counter counts. -/
def State.clockLoss (s : State) (ref begun : Bool) : State :=
  if s.mode == .night then s
  else
    let s := { s.safePath with clocks := false, refOk := s.refOk && !ref, pllOk := false }
    (s.mainReset 3 (6, false, 0) true begun).count R.CLKSTAT (if ref then R.CLKSTAT_REFLOSS else R.CLKSTAT_LOCKLOSS) 1

/-! ### The DAWN sequence (R48-R51) -/

def State.dawnStep (s : State) (n : Nat) : State := s.setFld R.DAWNSTAT R.DAWNSTAT_STEP n

/-- A DAWN step fails and DAWN ends in LOCKOUT (the DAWN table): LOCKCAUSE 1 OTP, 2 SELFTEST, 3 IDENT, 4 DAWNTMO. -/
def State.dawnFail (s : State) (step cause : Nat) : State :=
  let s := (s.setFld R.DAWNSTAT R.DAWNSTAT_FAILSTEP step).setFld R.DAWNSTAT R.DAWNSTAT_LOCKCAUSE cause
  { s with dawn := .none }.accept .lockout .fault 9 (6, false, 0)

/-- Step 1 (R57, R453, R458, R482): OTP is read, and a pending zeroize or SERVICE erase completed. -/
def State.dawnOtp (s : State) (enroll : Bool) : State :=
  let s := if s.hall.zpend then s.zeroize else s
  let s := match s.otp.svcpend with
    | some n =>
      let s := s.serviceErase
      { s with otp := { (if s.otp.count = n then s.otp.counted else s.otp) with svcpend := none } }
    | none => s
  let s := s.idCount.setFld R.IDSTAT R.IDSTAT_BOOTKEY s.otp.bootkey.toNat
  let s := s.setFld R.IDSTAT R.IDSTAT_ENRDAWN enroll.toNat
  let s := s.wr R.SERIALL (BitVec.ofNat 32 s.otp.serial)
  let s := s.wr R.SERIALH (BitVec.ofNat 32 (s.otp.serial / 2 ^ 32))
  s.setFld R.CERTLEN R.CERTLEN_LEN s.otp.cert.length

/-- DAWN_START at t = 0 (R20, R23): steps 1 to 4, up to the wait for step 5. -/
def State.dawnStart (s : State) (r : DawnResult) : State :=
  if s.dawn != .waitClock || s.mode != .dawn || !s.resetN || !s.suppliesGood then s
  else
    let s := { s with clocks := true, refOk := true, pllOk := true, now := 0, staff := { s.staff with uart := r.uart } }
    let s := if s.estopN then s else s.setFld R.DAWNSTAT R.DAWNSTAT_ESTOPLOW 1
    let s := s.dawnOtp r.enroll
    if r.otpFail then s.dawnFail 1 1
    else
      let s := { s with en := { s.en with state := if s.variant.enward then .repeats else .down } }
      let s := s.listOpen
      if r.selfFail then (s.dawnStep 2).dawnFail 2 2
      else
        let s := (upFrom 0 8).foldl (fun (s : State) i =>
          s.wr (R.MEAS i) (BitVec.ofNat 32 (numLow ((r.meas.drop (4 * i)).take 4)))) s
        let s := if r.imgOk then s
          else (s.setFld R.DAWNSTAT R.DAWNSTAT_IMGBAD 1).setFld R.DAWNSTAT R.DAWNSTAT_FAILSTEP 4
        { s.dawnStep 5 with dawn := .identity }

/-! ### Step 6: the configuration load -/

/-- A read-only register whose "L" fields the image gives: TBCFG, RNGCFG, SEALCFG and SEALLIM. The others come from OTP, the Logbook or
a step of DAWN. -/
def imageRo (a : Nat) : Bool :=
  a == R.RNGCFG || (upFrom 0 32).any (fun t => a == R.TBCFG t) || (upFrom 0 4).any (fun r => a == R.SEALCFG r || a == R.SEALLIM r)

/-- The bits that step 6 loads: the "L" fields, and of HWCFG all of them (R13, R475). -/
def loadBits (a : Nat) : Word :=
  match rowAt a with
  | some r => r.mask (fun acc t => match t with | .l _ => acc != .ro || imageRo a | _ => false)
  | none => 0

/-- The fields of register `a` whose value in `v` a write could not store: the table forbids it, or it names hardware that the variant
lacks (R1, R4, R61, R96, R107, R382, R397, R398, R462). -/
def State.imageBad (s : State) (a : Nat) (v : Word) : List F :=
  let one (reg : Nat → Nat) (n : Nat) (f : F) (bad : Nat → Nat → Bool) : List F :=
    match (upFrom 0 n).find? (fun i => a == reg i) with
    | some i => if bad i (f.get v) then [f] else []
    | none => []
  let kind (t k : Nat) : Bool := decide (16 ≤ t ∧ t < 28) && !(k == 0 || k == 3 || (k == 2 && s.variant.enward))
  let src (t x : Nat) : Bool :=
    if t < 16 then decide (s.variant.nLocal ≤ x)
    else R.TBCFG_KIND.get v == 3 && (!s.variant.hasTb x || (decide (16 ≤ x ∧ x < 28) && decide (t ≤ x)))
  one R.PCCTL 16 R.PCCTL_MODE (fun c m => decide (4 < m) || (m == 4 && decide (s.variant.nAdc ≤ c))) ++
  one R.PCCTL 16 R.PCCTL_DECODE (fun _ d => d == 3) ++
  one R.PCABS 16 R.PCABS_PAR (fun _ p => p == 3) ++
  one R.PCABS 16 R.PCABS_POSBITS (fun _ p => decide (p < 8 ∨ 40 < p)) ++
  one R.PCCRC 16 R.PCCRC_CRCW (fun _ p => decide (p < 3)) ++
  one R.PCSC 16 R.PCSC_INTERP (fun _ p => decide (p < 2 ∨ 10 < p)) ++
  one R.TBCFG 32 R.TBCFG_KIND kind ++ one R.TBCFG 32 R.TBCFG_SRC src ++
  one R.TBGDEN 32 ⟨0, 32⟩ (fun _ d => d == 0) ++
  one R.EVCFG 64 R.EVCFG_SAFE (fun _ x => x == 3) ++
  one R.PWMCFG 16 R.PWMCFG_SAFE (fun _ x => x == 3) ++ one R.SDCFG 8 R.SDCFG_SAFE (fun _ x => x == 3) ++
  one R.RCCFG 8 R.RCCFG_PAIR (fun c p => p == 1 && (c % 2 == 1 || decide (s.variant.nRecit ≤ c + 1))) ++
  one R.UCFG 4 R.UCFG_DBITS (fun _ d => decide (d < 5 ∨ 9 < d)) ++ one R.UCFG 4 R.UCFG_PAR (fun _ p => decide (4 < p)) ++
  one R.UCFG 4 R.UCFG_STOP (fun _ x => x == 3) ++
  one R.UCFG 4 R.UCFG_RTSCTS (fun _ x => x == 1 && R.UCFG_RS485.get v == 1) ++
  one R.UCFG 4 R.UCFG_RS485 (fun _ x => x == 1 && R.UCFG_RTSCTS.get v == 1) ++
  one R.UBAUD 4 R.UBAUD_I (fun _ i => i == 0) ++
  one R.UFLOW 4 R.UFLOW_HI (fun _ h => decide (h ≤ R.UFLOW_LO.get v)) ++
  one R.UFLOW 4 R.UFLOW_LO (fun _ l => decide (R.UFLOW_HI.get v ≤ l)) ++
  one (fun _ => R.ACFG) 1 R.ACFG_NIN (fun _ n => decide (1024 < n)) ++
  one (fun _ => R.ACFG) 1 R.ACFG_NOUT (fun _ n => decide (1024 < n)) ++
  one (fun _ => R.ATIME) 1 R.ATIME_CYCLE (fun _ n => decide (n < 250 ∨ 10000 < n)) ++
  one (fun _ => R.ATIME) 1 R.ATIME_LDW (fun _ n => n == 0) ++
  one (fun _ => R.RNGCFG) 1 R.RNGCFG_POLICY (fun _ p => s.variant == .fn4808 && p == 0) ++
  one (fun _ => R.WALLCTL) 1 R.WALLCTL_OWNER (fun _ x => (x == 1 && !s.variant.enward) || (x == 2 && s.variant.nMac == 0))

/-- What a register stores instead of a value of one of its fields: ROLLTMO, PCCTL.WBFILT, PCABS.CLKDIV, PCABS2.BADLIM, TBCFG.STILLT,
PTCFG.DIRSU, ACHK.INTLIM, WALLCTL.WRATE. -/
def imageFix (a : Nat) (v : Word) : Word :=
  let fix (p : Bool) (f : F) (least d : Nat) (v : Word) : Word := if p && decide (f.get v < least) then f.put v d else v
  let v := fix (a == R.ROLLTMO) R.ROLLTMO_MS 1 200 v
  let v := fix ((upFrom 0 16).any (fun i => a == R.PCCTL i)) R.PCCTL_WBFILT 1 64 v
  let v := fix ((upFrom 0 16).any (fun i => a == R.PCABS i)) R.PCABS_CLKDIV 9 9 v
  let v := fix ((upFrom 0 16).any (fun i => a == R.PCABS2 i)) R.PCABS2_BADLIM 1 3 v
  let v := fix ((upFrom 0 32).any (fun i => a == R.TBCFG i)) R.TBCFG_STILLT 1 50 v
  let v := fix ((upFrom 0 16).any (fun i => a == R.PTCFG i)) R.PTCFG_DIRSU 1 1 v
  let v := fix (a == R.ACHK) R.ACHK_INTLIM 1 3 v
  fix (a == R.WALLCTL) R.WALLCTL_WRATE 1 1 v

/-- One register of the image. A register of absent hardware takes nothing (R3), and a field keeps its value where the image gives
one that a write could not store (R1, assumption 27). -/
def State.loadReg (s : State) (a : Nat) (v : Word) : State :=
  if s.variant.absentAt a then s
  else match (upFrom 0 4).find? (fun n => a == R.HWCFG n) with
    | some n => if hallBad a v then s else s.hwcfgApply n (Word.mix (s.rd a) v (wmaskAt a))
    | none =>
      let v := (s.imageBad a v).foldl (fun (w : Word) f => f.put w (s.fld a f)) v
      s.wr a (imageFix a (Word.mix (s.rd a) v (loadBits a)))

/-- The safe-state latch of PWM channel `c` and of sigma-delta output `i`, from the table in force (R171). -/
def State.pwmLatch (s : State) (c : Nat) : State :=
  s.setPwm c { s.pwm c with latch := some (safeLvl (s.effFld (R.PWMCFG c) R.PWMCFG_SAFE)), safed := false }
def State.sdLatch (s : State) (i : Nat) : State := s.setSd i { s.sd i with latch := some (s.sdSafe i), safed := false }

/-- Every output takes the safe state of the loaded table, and the balls their functions (R48, R190, R194, R389, R402). A function that
the variant lacks reaches no ball (R6). -/
def State.loadOutputs (s : State) : State :=
  let s := { s with loaded := true }
  let s := s.mapLines (fun s l => s.setLine l { Line.reset with latch := some (s.lineSafeLvl l) })
  let s := s.mapGens (fun s g => s.setGen g { s.gen g with latch := some (s.genSafeLvls g), safed := false })
  let s := (s.mapPwms State.pwmLatch).mapSds State.sdLatch
  let s := s.mapRcs (fun s c => (s.rcLatch c).rcRunEntry c)
  let s := { s with att := { s.att with latch := some (s.fld R.ACFG R.ACFG_OEOFF == 1), safed := false } }
  let s := (upFrom 0 96).foldl (fun (s : State) b =>
    let f := s.fld (R.PINFN b) R.PINFN_FUNC
    s.setPin b { s.pin b with conn := if funcValid f && s.variant.hasFunc f then f else 0, sw := none }) s
  s.setFld R.PINBANK R.PINBANK_BANKERR
    (bankErrBits (s.fld R.PINBANK R.PINBANK_VSEL) (s.fld R.PINBANK R.PINBANK_SUPPLY) s.bankOk)

/-- Channels and timebases act on the load (R61, R118, R119). -/
def State.loadPositions (s : State) : State :=
  let s := (upFrom 0 s.variant.nLocal).foldl (fun (s : State) t =>
    s.setTb t { s.tb t with src := s.fld (R.TBCFG t) R.TBCFG_SRC }) s
  let s := (upFrom 0 s.variant.nLocal).foldl (fun (s : State) c => if s.chMode c = 0 then s else s.chSync c false) s
  let s := (upFrom 16 12).foldl (fun (s : State) t =>
    if s.kind t == 0 then s
    else s.setTb t { s.tb t with state := .run, src := s.fld (R.TBCFG t) R.TBCFG_SRC, rxK := s.now }) s
  let s := if s.fld R.MZCTL R.MZCTL_EN = 1 then
      { s with mains := { s.mains with sinceK := s.now } }.setTb 28 { s.tb 28 with state := .run, holding := true }
        |>.mzState .sync
    else s
  ([29, 30, 31].foldl (fun (s : State) t => s.setTb t { s.tb t with state := .run, ref := t == 29 }) s).followRefs

/-- Step 6 loads the configuration (R13): registers (EN = 1 with MAX = 0 is no value of a watchdog, R501), outputs, positions, the ring's wall-time owner (R357), the seal key (R445). -/
def State.loadConfig (s : State) (cfg : List (Nat × Word)) : State :=
  let s := cfg.foldl (fun (s : State) e => s.loadReg e.1 e.2) s
  let s := (upFrom 0 5).foldl (fun (s : State) l =>
    if s.fld (R.WDCFG l) R.WDCFG_MAX = 0 then s.setFld (R.WDCTL l) R.WDCTL_EN 0 else s) s
  let s := s.loadOutputs.loadPositions
  { s with en := { s.en with owner0 := s.fld R.WALLCTL R.WALLCTL_OWNER } }.sealKeyGen

/-! ### Steps 5, 7, 8 and 9 -/

/-- The image or the configuration is rejected: DAWN skips steps 7 to 10 and ends in PREPARE (R50); the timebases that no configuration
starts run all the same (R119). -/
def State.dawnBad (s : State) : State := { s.loadPositions with dawn := .none }.accept .prepare .fault 0 (6, false, 0)

/-- Guard release (step 9), and the wait of step 10 (R45, R49). -/
def State.guardRelease (s : State) : State := { (s.coreRelease 0).dawnStep 10 with dawn := .guardInit }

/-- What follows step 5: the load of step 6, unless the image was rejected, and step 7. -/
def State.dawnLoad (s : State) (cfgOk : Bool) (cfg : List (Nat × Word)) : State :=
  if s.fld R.DAWNSTAT R.DAWNSTAT_IMGBAD = 1 then s.dawnBad
  else if !cfgOk then
    ((s.setFld R.DAWNSTAT R.DAWNSTAT_IMGBAD 1).setFld R.DAWNSTAT R.DAWNSTAT_FAILSTEP 6).dawnBad
  else { (s.loadConfig cfg).dawnStep 7 with dawn := .handover, stepK := s.now }

/-- DAWN_IDENTITY_CHECK (R49, R51, R446, R448), which waits for the end of step 3: `ok` says that the test signature verifies, and the certificate where one is stored. -/
def State.identityCheck (s : State) (ok cfgOk : Bool) (cfg : List (Nat × Word)) : State :=
  if s.dawn != .identity then s
  else if s.rngStopped then
    ((s.setFld R.DAWNSTAT R.DAWNSTAT_RNGSTOP 1).setFld R.DAWNSTAT R.DAWNSTAT_IDENTUNV 1).dawnLoad cfgOk cfg
  else if s.fld R.RNGSTAT R.RNGSTAT_READY = 0 then s.setFld R.DAWNSTAT R.DAWNSTAT_RNGLATE 1
  else if !s.rngDone then s
  else
    let blank := s.otp.cert.isEmpty
    match (s.key 0).state with
    | .erased => (s.setFld R.IDSTAT R.IDSTAT_KEY 3).dawnFail 5 3
    | .empty => ((s.keyGen { id := 7, guard := false, ring := 0 } 0).setFld R.IDSTAT R.IDSTAT_KEY 1).dawnLoad cfgOk cfg
    | .set =>
      if ok then
        ((s.setFld R.IDSTAT R.IDSTAT_KEY 2).setFld R.IDSTAT R.IDSTAT_CERT (if blank then 0 else 1)).dawnLoad cfgOk cfg
      else (s.setFld R.IDSTAT R.IDSTAT_CERT (if blank then 0 else 2)).dawnFail 5 3

/-- The result of the hand-over for a timebase: its HOSTAT code, its offset, whether it is referenced (R53, R106). V is the encoder's
count; an absolute source keeps the offset 0 but for the turns of a singleturn one. -/
def State.handoverOf (s : State) (n t : Nat) : Nat × Int × Bool :=
  let x := s.watch n
  let y := s.tb t
  let ch := y.src
  let v := (s.chan ch).count
  if s.chMode ch == 2 || s.chMode ch == 3 then
    if (s.chan ch).state != .track then (4, y.offset, false)
    else if s.fld (R.PCABS2 ch) R.PCABS2_MTBITS != 0 then
      if x.valid && decide (s.fld R.HOTOL R.HOTOL_COUNTS < (v - x.count).natAbs) then (3, 0, false) else (2, 0, true)
    else if x.valid then
      let span : Int := (2 ^ s.fld (R.PCABS ch) R.PCABS_POSBITS : Nat)
      -- the turn number nearest to W, the smaller of two equally near
      let turns := -((-2 * (x.count - v) + span) / (2 * span))
      (1, 256 * (turns * span), true)
    else (4, 0, false)
  else if x.valid then (1, y.offset + (normWord (s.modulus t) (256 * x.count) - y.word), true)
  else (4, y.offset - y.word, false)

/-- The offset of local timebase `t` becomes `off`: a discontinuity where that moves its word (R117). -/
def State.seedTb (s : State) (t : Nat) (off : Int) (ref : Bool) : State :=
  let x := s.tb t
  let w := normWord (s.modulus t) (x.word + (off - x.offset))
  let s := s.putRef t ref
  let s := s.setTb t ((s.tb t).shifted (off - x.offset))
  if w = x.word then s.setTb t { s.tb t with word := w } else s.jumpTo t w

/-- One watch channel at the hand-over epoch (R53, R473). -/
def State.handoverCh (s : State) (n : Nat) : State :=
  let t := s.hwcfg n R.HWCFG_TB
  let code (s : State) (c : Nat) : State := s.setFld R.HOSTAT ⟨4 * n, 4⟩ c
  if s.hwcfg n R.HWCFG_EN = 0 ∨ s.hwcfg n R.HWCFG_ASSIGNED = 0 then s
  else if !s.variant.hasTb t then code s 5
  else
    let r := s.handoverOf n t
    let s := code (s.seedTb t r.2.1 r.2.2) r.1
    s.setWatch n { s.watch n with state := .mirror }

/-- The assigned absolute channels have all left SYNC, or step 7 has lasted almost 0.5 ms (assumption 44, DESIGN CHOICE). -/
def State.handoverDue (s : State) : Bool :=
  let waits (n : Nat) : Bool :=
    let t := s.hwcfg n R.HWCFG_TB
    let ch := (s.tb t).src
    s.hwcfg n R.HWCFG_EN == 1 && s.hwcfg n R.HWCFG_ASSIGNED == 1 && s.variant.hasTb t &&
      (s.chMode ch == 2 || s.chMode ch == 3) && (s.chan ch).state == .sync
  !(upFrom 0 4).any waits || decide (s.stepK + 100000 ≤ s.now + 8)

/-- Step 8 when Enward is present and enabled (R49, R351), and step 9 otherwise. -/
def State.dawnRing (s : State) : State :=
  if s.variant.enward && s.fld R.ENCFG R.ENCFG_EN == 1 then { s.enStart.dawnStep 8 with dawn := .rollCall } else s.guardRelease

/-- The hand-over epoch (R53, R56). -/
def State.handover (s : State) : State :=
  if s.dawn != .handover || !s.handoverDue then s
  else
    let s := (upFrom 0 4).foldl State.handoverCh s
    let s := { s with handed := true }
    let s := s.wr R.HMSYNCL (BitVec.ofNat 32 s.hall.time)
    let s := s.wr R.HMSYNCH (BitVec.ofNat 32 (s.hall.time / 2 ^ 32))
    let s := s.wr R.HMSYNCWL (BitVec.ofNat 32 (s.wallAt s.now))
    let s := s.wr R.HMSYNCWH (BitVec.ofNat 32 (s.wallAt s.now / 2 ^ 32))
    let s := s.zeroLog
    let s := if s.rd R.HMALARM != 0 then s.setFld R.DAWNSTAT R.DAWNSTAT_HMALARM 1 else s
    s.dawnRing

/-- ROLL_CALL (R351): it completes step 8 when DAWN waits for it. -/
def State.rollCall (s : State) (r : RollResult) : State :=
  let s := s.enComplete r
  if s.dawn == .rollCall then s.guardRelease else s

/-- JOIN (R353, R379): a member that reaches step 8, or that has left LOCKOUT, SERVICE or a repeater state, is admitted. -/
def State.joinRing (s : State) (r : RollResult) : State :=
  let idle := s.mode == .lockout || s.mode == .service || s.mode == .night || (s.mode == .dawn && s.dawn != .guardInit)
  if s.fld R.ENCFG R.ENCFG_ROLE == 1 then s
  else if s.dawn == .rollCall then s.rollCall r
  else if idle then s
  else s.enStart.enComplete r

/-- ROLL_CALL_TIMEOUT (R49). -/
def State.rollTimeout (s : State) : State :=
  if s.dawn == .rollCall then (s.setFld R.DAWNSTAT R.DAWNSTAT_RINGDOWN 1).guardRelease else s

/-- DAWN_TIMEOUT (R36): no PREPARE request within 1 s of Guard release. -/
def State.dawnTimeout (s : State) : State :=
  if s.dawn == .guardInit && s.mode == .dawn && s.trans.isNone then s.dawnFail 10 4 else s

/-- A WAKE action while the supplies have been left on starts DAWN as after a power-on reset (R520). -/
def State.wakeUp (s old : State) : State :=
  if s.hall.wakeout && !old.hall.wakeout && s.mode == .night && s.suppliesGood then s.powerUp true else s

/-! ### The pin epoch boundary (R20) -/

/-- A timebase register whose write waited comes into force: a modulus, or a ratio, which its denominator commits (R104, R108). -/
def State.commitTb (s : State) (a : Nat) (old : Word) : State :=
  let s0 := { s with inForce := s.inForce.erase (· == a) }
  match (upFrom 0 32).find? (fun t => a == R.TBMOD t), (upFrom 0 32).find? (fun t => a == R.TBGDEN t) with
  | some t, _ => s0.commitMod t old.toNat
  | _, some t => { s0 with inForce := s0.inForce.erase (· == R.TBGNUM t) }.commitRatio t
  | _, _ => if (upFrom 0 32).any (fun t => a == R.TBGNUM t) then s else s0

/-- A register of a channel comes into force; edges accepted before the boundary go by the value `old` (R61). -/
def State.commitCh (s : State) (a : Nat) (old : Word) : State :=
  { s with inForce := s.inForce.erase (· == a), was := s.was.put a (s.now, old) }

/-- An output's register comes into force: a rate, unless it waits for HOLD to end (R180, R182), a code (R186), and a table entry, which
reloads the safe-state latch (R174, R183, R185, R187). -/
def State.commitOut (s : State) (a : Nat) : State :=
  let s0 := { s with inForce := s.inForce.erase (· == a) }
  let is (reg : Nat → Nat) (n : Nat) : Option Nat := (upFrom 0 n).find? (fun i => a == reg i)
  match is R.PTRATE 16, is R.SDCODE 8, is R.EVCFG 64, is R.PTCFG 16, is R.PWMCFG 16, is R.SDCFG 8 with
  | some g, _, _, _, _, _ => if s.mode == .hold && s.effFld (R.PTCFG g) R.PTCFG_HOLDRUN == 0 then s else s.commitRate g
  | _, some i, _, _, _, _ => s0.setSd i { s0.sd i with code := s0.fld a R.SDCODE_CODE }
  | _, _, some l, _, _, _ => s0.setLine l { s0.line l with latch := some (s0.lineSafeLvl l) }
  | _, _, _, some g, _, _ => s0.setGen g { s0.gen g with latch := some (s0.genSafeLvls g) }
  | _, _, _, _, some c, _ => s0.pwmLatch c
  | _, _, _, _, _, some i => s0.sdLatch i
  | _, _, _, _, _, _ => s0

/-- A register whose write waited comes into force at the boundary. -/
def State.commitReg (s : State) (a : Nat) (old : Word) : State :=
  if a / 0x10000 = 0x4001 then
    if a % 0x10000 < 0x800 then s.commitTb a old
    else if 0x40018000 ≤ a ∧ a < 0x40018800 then s.commitCh a old
    else { s with inForce := s.inForce.erase (· == a) }
  else s.commitOut a

/-- Every write that waited for a boundary takes effect. -/
def State.commitAll (s : State) : State := s.inForce.foldl (fun (s : State) e => s.commitReg e.1 e.2) s

/-- What CLKOBS drives (R24): the pin epoch strobe, the Enward cycle strobe, the reference clock, the Hall Monitor clock. -/
def State.clkobs (s : State) : Bool :=
  match s.effFld R.CLKOBS R.CLKOBS_SEL with
  | 1 => s.clocks && s.now % 8 == 0
  | 2 => s.clocks && s.enStrobe
  | 3 => Config.refLevel s.now
  | 4 => Config.hallLevel s.now
  | _ => false

/-- The level that function `f` drives, whichever unit owns it (R189). Before step 6 the safe-state latches alone drive (R48). -/
def State.drive (s : State) (f : Nat) : Lvl :=
  match f / 64 with
  | 6 => if s.loaded then s.uartOut (f % 64 / 4) (f % 4) else .z
  | 7 => s.rcOut (f % 64 / 8) (f % 8)
  | 8 => s.attOutLvl (f % 64)
  | 9 => if s.loaded then boolLvl s.clkobs else .z
  | _ => s.ownDrive f

/-- The dedicated balls that a variant may lack (R540): those of a position channel, of an Enward port, of a MAC, and REF_CLK. -/
inductive DedBall | ps (ch : Nat) | en (port : Nat) | mac (m : Nat) | refClk
deriving DecidableEq, Repr

/-- A ball's input buffer, output driver and internal pull-down, each on or off. -/
structure Pad where
  input  : Bool
  driver : Bool
  pull   : Bool
deriving DecidableEq, Repr

/-- The unit that owns a dedicated ball is there (R540). -/
def Variant.ballPresent (v : Variant) : DedBall → Bool
  | .ps ch => decide (ch < v.nLocal)
  | .en _ => v.enward
  | .mac m => decide (m < v.nMac)
  | .refClk => decide (0 < v.nMac)

/-- The pad of a dedicated ball: of absent hardware as R6 states; a receiver of a position channel; an output-capable one is high-Z with
its pull-down on until step 6 (R47, R519), and REF_CLK is driven while MAC 0's REFEXT is 0 (R532). -/
def State.pad (s : State) (b : DedBall) : Pad :=
  if !s.variant.ballPresent b then { input := false, driver := false, pull := true }
  else
    let on := s.loaded && !s.unpowered
    match b with
    | .ps _ => { input := true, driver := false, pull := false }
    | .refClk => { input := true, driver := on && s.fld (R.ETCFG 0) R.ETCFG_REFEXT == 0, pull := !on }
    | _ => { input := true, driver := on, pull := !on }

/-- A step of wall time on a ring member or master by the ring's own owner restarts roll call (R357). -/
def State.ringStep (s : State) : State :=
  if s.wall.step.isSome && s.en.master && s.enJoined && s.fld R.WALLCTL R.WALLCTL_OWNER != 1 then s.enState .roll else s

/-- The next pin epoch boundary falls (R20, R111, R114): wall time slews or steps, and everything that waited for it takes effect. -/
def State.atBoundary (s : State) : State :=
  let s := s.advance (nextBoundary s.now)
  let s := s.ringStep.wallBoundary
  let s := (s.tbList.foldl State.tbEffect s).commitAll
  (upFrom 0 96).foldl (fun (s : State) b => s.pinSwitch s.drive b) s

/-- PIN_EPOCH_BOUNDARY (R20, R37, R111, R115): the next boundary falls. -/
def State.boundary (s : State) : State := if s.clocks then s.atBoundary.handover else s

/-- MODE_TRANSITION: the next boundary B falls, and the accepted transition takes effect at it (R37). The crossings of edge B are
judged when B is left, so the new mode governs them (R35). -/
def State.modeTransition (s : State) : State :=
  match s.trans with
  | none => s
  | some t =>
    let s := if s.clocks then s.atBoundary else s
    if t.target == .night then s.completeNight t else s.complete t s.now

/-- CLKOBS_WRITE (R24). -/
def State.clkobsWrite (s : State) (v : Word) : State := s.defer R.CLKOBS (v &&& wmaskAt R.CLKOBS)

/-- DAWNTIME in µs. -/
def State.dawnTime (s : State) : Nat := (s.dawnEnd.getD s.now) / 200

end Sys2Proof.Machine
end

