-- ==== Sys2Proof/Machine/Guard.lean ====
section
/-! DEFINITION. The Guard Pair and Fault Reaction: divergence and restart (R494-R497), watchdogs (R499-R501), the Guard policy
(R504, R505), SAFETEST (R510). -/

namespace Sys2Proof.Machine

/-- The result of a requester's last write (FRWSTAT): 0 OK, 1 RIGHTS, 2 NOTNOW, 3 BADCFG, 4 LOCKED. -/
def State.frw (s : State) (w : Who) (code : Nat) : State := s.wrReq w.id R.FRWSTAT (BitVec.ofNat 32 code)

/-- Guard ring 0 of G, or the Staff port. -/
def Who.g0 (w : Who) : Bool := w.isStaff || (w.id == 0 && w.guard && w.ring == 0)

/-! ### Reactions (R494, R504) -/

/-- Restarts of G still permitted before the next DAWN. -/
def State.restartLeft (s : State) : Bool :=
  decide (s.fld R.PAIRSTAT R.PAIRSTAT_RESTARTS < s.fld R.GPOLICY R.GPOLICY_RSTMAX)

/-- G is restarted under SAFE when the policy bit is 0 and a restart is left, and otherwise locks out with `cause`, or with RSTMAX
(8). In DAWN the mode does not change (R494, R504). -/
def State.guardReaction (s : State) (bit : F) (cause : Nat) (what : GRestart) : State :=
  if s.fld R.GPOLICY bit = 1 then s.demandLockout .fault cause
  else if s.restartLeft then
    let s := s.demandSafe .fault
    { s with restart := what }
  else s.demandLockout .fault 8

/-- The pair is frozen: G is held by CORERUN. -/
def State.freezePair (s : State) : State := s.coreHold 0

/-- What PAIRSTAT, PAIRPC0, PAIRPC1 and PAIRADDR record of a divergence (R494). -/
def State.recordPair (s : State) (what pc0 pc1 addr : Nat) : State :=
  let s := ((s.setFld R.PAIRSTAT R.PAIRSTAT_DIV 1).setFld R.PAIRSTAT R.PAIRSTAT_WHAT what).count R.PAIRSTAT R.PAIRSTAT_COUNT 1
  let s := (s.wr R.PAIRPC0 (BitVec.ofNat 32 pc0)).wr R.PAIRPC1 (BitVec.ofNat 32 pc1)
  s.wr R.PAIRADDR (BitVec.ofNat 32 addr)

/-- The reaction to a divergence (R494, R495): outputs safe, then SAFE with a restart of the pair, or LOCKOUT. -/
def State.diverged (s : State) (what pc0 pc1 addr : Nat) : State :=
  let s := (s.freezePair.recordPair what pc0 pc1 addr).nmi 0 R.NMIPEND_PAIR
  let s := s.safePath.guardReaction R.GPOLICY_DIVACT 1 .pair
  if s.restart == .pair then (s.coreReset 0).setFld R.PAIRSTAT R.PAIRSTAT_RESTARTING 1 else s

/-- G runs: released, in a mode that runs cores, and not being restarted. -/
def State.gRuns (s : State) : Bool := s.canRun 0 true && s.restart == .none

/-- DIVERGENCE of kind `what` (1 RETIRE to 6 CHECKER); PAIRADDR is 0 for RETIRE, DRBG and DELIVERY (R490, R494). -/
def State.divergence (s : State) (what pc0 pc1 addr : Nat) : State :=
  if s.gRuns && decide (1 ≤ what ∧ what ≤ 6) then
    s.diverged what pc0 pc1 (if what = 1 ∨ what = 4 ∨ what = 5 then 0 else addr)
  else s

/-- G is released again after a reset (R495, R504). -/
def State.gRestarted (s : State) : State :=
  let s := s.setFld R.PAIRSTAT R.PAIRSTAT_RESTARTS (s.fld R.PAIRSTAT R.PAIRSTAT_RESTARTS + 1)
  let s := { s.setFld R.PAIRSTAT R.PAIRSTAT_RESTARTING 0 with restart := .none }
  (s.coreRelease 0).arrive 0xF2

/-- PAIR_RESTART (R495): the TCM comparison ends, with the first differing address or none. -/
def State.pairRestart (s : State) (diff : Option Nat) : State :=
  if s.restart != .pair || s.mode == .lockout then s
  else
    match diff with
    | none => s.gRestarted
    | some a =>
      let s := (s.wr R.PAIRADDR (BitVec.ofNat 32 a)).setFld R.PAIRSTAT R.PAIRSTAT_TCMDIFF 1
      let s := { s.setFld R.PAIRSTAT R.PAIRSTAT_RESTARTING 0 with restart := .none }
      s.accept .lockout .fault 7 (6, false, 0)

/-- The reaction to a third fault of core `l` (R504). -/
def State.thirdPolicy (s : State) (l : Nat) : State :=
  if l = 0 then s.guardReaction R.GPOLICY_G3ACT 2 .third
  else
    let s := s.arrive 0xF3
    if s.fld R.GPOLICY R.GPOLICY_C3ACT = 1 then s.demandLockout .fault 3 else s.demandSafe .fault

/-- G_THIRD_FAULT_RESTART (R504): 1 µs after the mode has taken effect. -/
def State.gThirdRestart (s : State) : State :=
  if s.restart == .third && s.trans.isNone && s.mode != .lockout then s.gRestarted else s

/-- A write of PAIRINJ (R497): the divergence comes in the next CCLK, with WHAT INJECTED. Its address is a free value, except for
the kinds that have none (assumption 45, DEDUCED). -/
def State.pairInj (s : State) (w : Who) (v : Word) : State :=
  let what := R.PAIRINJ_WHAT.get v
  if R.PAIRINJ_GO.get v = 0 then s
  else if !w.g0 then s.frw w 1
  else if s.mode != .prepare then s.frw w 2
  else if what = 0 ∨ 6 < what then s.frw w 3
  else
    let s := s.frw w 0
    let pc := (s.core 0).pc.toNat
    if !s.gRuns then s
    else if what = 1 ∨ what = 4 ∨ what = 5 then s.diverged 7 pc pc 0
    else
      let r := s.free
      r.2.diverged 7 pc pc r.1.toNat

/-- A write of PAIRSTAT: DIV and TCMDIFF, write 1 to clear, by Guard ring 0 or the Staff port (R496). -/
def State.pairstatWrite (s : State) (w : Who) (v : Word) : State :=
  if w.priv then (s.wr R.PAIRSTAT (s.rd R.PAIRSTAT &&& ~~~ (v &&& 3))).frw w 0 else s.frw w 1

/-- A write of GPOLICY (R505). -/
def State.gpolicyWrite (s : State) (w : Who) (v : Word) : State :=
  let old := s.rd R.GPOLICY
  let m := wmaskAt R.GPOLICY
  let nv := Word.mix old v m ||| (old &&& 0x80000000)
  if !w.g0 then s.frw w 1
  else if R.GPOLICY_PLOCK.get old = 1 then s.frw w 4
  else if s.mode != .prepare then s.frw w 2
  else ((s.wr R.GPOLICY nv).logWho w 0 R.GPOLICY (old &&& m).toNat (nv &&& m).toNat).frw w 0

/-! ### Watchdogs -/

/-- Stage 1 (R500): EXP, WDEXP, the NMI of G, and the reaction of WDACT; stage 2 is then pending, and follows at once when GRACE
is 0. -/
def State.wdExpire (s : State) (l : Nat) (bad : Bool) : State :=
  let a := R.WDSTAT l
  let s := { s with wdStage := s.wdStage.put l s.now }.setFld a R.WDSTAT_EXP 1
  let s := if bad then s.setFld a R.WDSTAT_BADKICK 1 else s
  let s := s.arrive 0xF1
  let s := if l = 0 then s.nmi 0 R.NMIPEND_WDOG else s
  if s.fld R.GPOLICY R.GPOLICY_WDACT = 1 then s.demandLockout .fault 4
  else
    let s := (s.demandSafe .fault).setFld a R.WDSTAT_S2PEND 1
    if s.fld (R.WDCTL l) R.WDCTL_GRACE = 0 then s.mainReset 6 (6, false, 0) false false else s

/-- MAX × 10 µs have passed in the present interval of the watchdog of core `l`, and it has not expired for that (R499). -/
def State.wdPassed (s : State) (l : Nat) : Bool :=
  s.fld (R.WDSTAT l) R.WDSTAT_COUNTING == 1 && !s.wdOut.contains l &&
    decide (s.wdStart.get 0 l + 2000 * s.fld (R.WDCFG l) R.WDCFG_MAX ≤ s.now)

/-- WATCHDOG_EXPIRY of core `l` at the present edge (R499): MAX × 10 µs have passed without a good kick. -/
def State.watchdogExpiry (s : State) (l : Nat) : State :=
  if s.wdPassed l then { s with wdOut := l :: s.wdOut }.wdExpire l false else s

/-- Stage 2 of the watchdog of core `l` is pending and its GRACE ms have passed; EXP has not been cleared, nor LOCKOUT entered (R500). -/
def State.stage2Due (s : State) (l : Nat) : Bool :=
  s.fld (R.WDSTAT l) R.WDSTAT_S2PEND == 1 && s.fld (R.WDSTAT l) R.WDSTAT_EXP == 1 && s.mode != .lockout &&
    decide (s.wdStage.get 0 l + 200000 * s.fld (R.WDCTL l) R.WDCTL_GRACE ≤ s.now)

/-- WATCHDOG_STAGE_2 at the present edge (R500): the reset with cause WATCHDOG. -/
def State.watchdogStage2 (s : State) (l : Nat) : State :=
  if s.stage2Due l then
    s.mainReset 6 (6, false, 0) false false
  else s

/-- A write of WDKICK of core `l` (R499). -/
def State.wdKick (s : State) (w : Who) (l : Nat) (key : Nat) : State :=
  let a := R.WDSTAT l
  if w.id != l || !decide (w.ring ≤ 1) then s.frw w 1
  else
    let s := s.frw w 0
    let next := s.fld a R.WDSTAT_NEXTKEY
    if s.fld a R.WDSTAT_COUNTING = 0 then s
    else if key = next ∧ s.wdStart.get 0 l + 2000 * s.fld (R.WDCFG l) R.WDCFG_MIN ≤ s.now then
      (s.wdInterval l).setFld a R.WDSTAT_NEXTKEY (if next = 0x5AA5 then 0xA55A else 0x5AA5)
    else s.wdExpire l true

/-- A write of WDCFG or WDCTL of core `l` (R501). -/
def State.wdWrite (s : State) (w : Who) (l a : Nat) (v : Word) : State :=
  let old := s.rd a
  let m := wmaskAt a
  let nv := Word.mix old v m
  let nv := if a = R.WDCTL l then R.WDCTL_LOCK.put nv (R.WDCTL_LOCK.get old ||| R.WDCTL_LOCK.get v) else nv
  let max := R.WDCFG_MAX.get (if a = R.WDCFG l then nv else s.rd (R.WDCFG l))
  let en := R.WDCTL_EN.get (if a = R.WDCTL l then nv else s.rd (R.WDCTL l))
  if !w.g0 then s.frw w 1
  else if s.fld (R.WDCTL l) R.WDCTL_LOCK = 1 then s.frw w 4
  else if s.mode != .prepare then s.frw w 2
  else if max = 0 ∧ en = 1 then s.frw w 3
  else (((s.wr a nv).logWho w 0 a (old &&& m).toNat (nv &&& m).toNat).frw w 0).wdUpdate

/-- A write of WDSTAT: EXP and BADKICK, write 1 to clear, by Guard ring 0 of G or the Staff port (R500). -/
def State.wdstatWrite (s : State) (w : Who) (l : Nat) (v : Word) : State :=
  let a := R.WDSTAT l
  if !w.g0 then s.frw w 1
  else
    let s := (s.wr a (s.rd a &&& ~~~ (v &&& 6))).frw w 0
    if R.WDSTAT_EXP.get v = 1 then s.setFld a R.WDSTAT_S2PEND 0 else s

/-! ### SAFETEST (R510) -/

/-- A write of SAFETEST. -/
def State.safetestWrite (s : State) (w : Who) (v : Word) : State :=
  let b := R.SAFETEST_COPY.get v == 1
  if R.SAFETEST_GO.get v = 0 then s.setFld R.SAFETEST R.SAFETEST_COPY b.toNat
  else if !w.g0 then s.frw w 1
  else if s.mode != .prepare || s.safeTest.isSome then s.frw w 2
  else
    let s := (s.setFld R.SAFETEST R.SAFETEST_COPY b.toNat).setFld R.SAFETEST R.SAFETEST_BUSY 1
    { s with safeTest := some b }.frw w 0

/-- The level sampled at ball `b`: as driven, unless the failing copy lets another through (`wrong`). -/
def State.sampled (s : State) (wrong : List Nat) (b : Nat) : Bool :=
  (s.ballLevel s.drive b == .hi) != wrong.contains b

/-- Function `f` is on a ball whose sampled level is not `want`. -/
def State.testFails (s : State) (wrong : List Nat) (f : Nat) (want : Bool) : Bool :=
  (upFrom 0 96).any (fun b => (s.pin b).conn == f && s.sampled wrong b != want)

/-- The event lines of bank `n` that failed: open-drain lines are excluded, HIGHZ counts as level 0. -/
def State.safeFails (s : State) (wrong : List Nat) (n : Nat) : Word :=
  lineMask n (fun l => s.effFld (R.EVCFG l) R.EVCFG_OD == 0 && s.testFails wrong (64 + l) (s.safeBit l))

/-- A step, direction or PWM output failed. -/
def State.safeFailX (s : State) (wrong : List Nat) : Bool :=
  (upFrom 0 16).any (fun i =>
    s.testFails wrong (128 + i) (s.effFld (R.PTCFG i) R.PTCFG_STEPINV == 1) ||
      s.testFails wrong (192 + i) (s.dirOut i == .hi) ||
      s.testFails wrong (256 + i) (s.effFld (R.PWMCFG i) R.PWMCFG_SAFE == 1))

/-- SAFETEST_COMPLETE: the samples of the last edge of the 4 epochs are judged; `wrong` names the balls that the copy under test
left at the wrong level. -/
def State.safetestDone (s : State) (wrong : List Nat) : State :=
  if s.safeTest.isNone then s
  else
    let r0 := s.safeFails wrong 0
    let r1 := s.safeFails wrong 1
    let rx := s.safeFailX wrong
    let s := ((s.wr (R.SAFERES 0) r0).wr (R.SAFERES 1) r1).setFld R.SAFETEST R.SAFETEST_RESX rx.toNat
    { s.setFld R.SAFETEST R.SAFETEST_BUSY 0 with safeTest := none }

end Sys2Proof.Machine
end

