-- ==== Sys2Proof/Machine/IrqCtl.lean ====
section
/-! DEFINITION. The interrupt controller: its sources and their rights (R303-R306), save sets and what is active on a core
(R314, R315), and the candidates (R309, R311, R313). -/

namespace Sys2Proof.Machine

/-! ### Sources (R303, R304) -/

/-- The core that hardware fixes for source `n`, if any. -/
def fixedCore (n : Nat) : Option Nat :=
  if (0x98 ≤ n ∧ n < 0x9D) ∨ (0xA0 ≤ n ∧ n < 0xA5) ∨ (0xA8 ≤ n ∧ n < 0xAD) ∨ (0xB0 ≤ n ∧ n < 0xB5) then some (n % 8) else none

/-- Hardware fixes the Guard world too: MODECHG and SHOPHELD. -/
def fixedGuard (n : Nat) : Bool := decide ((0x98 ≤ n ∧ n < 0x9D) ∨ (0xB0 ≤ n ∧ n < 0xB5))

/-- IRQCFG of source `n` (R303); of absent hardware it reads 0 (R5). -/
def State.irqcfg (s : State) (n : Nat) : Word :=
  if !s.hasSrc n then 0
  else
    let v := s.rd (R.IRQCFG n)
    match fixedCore n with
    | none => v
    | some l =>
      let v := R.IRQCFG_FIXED.put (R.IRQCFG_CORE.put v l) 1
      if fixedGuard n then R.IRQCFG_WORLD.put v 1 else v

def State.irqLevel (s : State) (n : Nat) : Nat := R.IRQCFG_LEVEL.get (s.irqcfg n)
def State.irqCore (s : State) (n : Nat) : Nat := R.IRQCFG_CORE.get (s.irqcfg n)
def State.irqGuard (s : State) (n : Nat) : Bool := R.IRQCFG_WORLD.get (s.irqcfg n) == 1
def State.irqPend (s : State) (n : Nat) : Bool := s.fld (R.IRQCNT n) R.IRQCNT_COUNT != 0
def State.irqEn (s : State) (n : Nat) : Bool := s.fld (R.IRQCNT n) R.IRQCNT_EN == 1

/-- The result of a requester's last write to the window: 0 OK, 1 RIGHTS, 2 PARTIAL, 3 ABSENT. -/
def State.irqStat (s : State) (w : Who) (code : Nat) : State := s.wrReq w.id R.IRQWSTAT (BitVec.ofNat 32 code)

/-- A write of IRQCFGn (R304). -/
def State.irqcfgWrite (s : State) (w : Who) (n : Nat) (v : Word) : State :=
  let core := R.IRQCFG_CORE.get v
  if !w.priv then s.irqStat w 1
  else if !s.hasSrc n then s.irqStat w 0
  else if (fixedCore n).isNone && !(decide (core < 5) && s.variant.hasCore core) then s.irqStat w 3
  else (s.wr (R.IRQCFG n) (v &&& wmaskAt (R.IRQCFG n))).irqStat w 0

/-- The sources of bank `n` that `w` may enable, disable, set or clear (R304). -/
def State.irqMay (s : State) (w : Who) (n : Nat) : Bool :=
  w.priv || (w.shop && w.ring == 0 && !s.irqGuard n && s.irqCore n == w.id)

/-- One bit of a mask write: 0 PENDSET, 1 PENDCLR, 2 ENSET, 3 ENCLR (R306). A source of absent hardware ignores it (R5). -/
def State.irqBit (s : State) (kind n : Nat) : State :=
  if !s.hasSrc n then s
  else match kind with
    | 0 => s.arrive n
    | 1 => s.setFld (R.IRQCNT n) R.IRQCNT_COUNT 0
    | 2 => s.setFld (R.IRQCNT n) R.IRQCNT_EN 1
    | _ => s.setFld (R.IRQCNT n) R.IRQCNT_EN 0

/-- A mask write to bank `b` (R304, R306). -/
def State.irqMask (s : State) (w : Who) (kind b : Nat) (mask : Word) : State :=
  let asked := (upFrom 0 32).filter (fun i => mask.getLsbD i)
  let may := asked.filter (fun i => s.irqMay w (32 * b + i))
  let s' := may.foldl (fun (s : State) i => s.irqBit kind (32 * b + i)) s
  s'.irqStat w (if may.length = asked.length then 0 else if may.isEmpty then 1 else 2)

/-- A write of IRQCNTn: OVF, write 1 to clear (R304). -/
def State.irqOvf (s : State) (w : Who) (n : Nat) (v : Word) : State :=
  if R.IRQCNT_OVF.get v = 0 then s.irqStat w 0
  else if s.irqMay w n then (s.setFld (R.IRQCNT n) R.IRQCNT_OVF 0).irqStat w 0
  else s.irqStat w 1

/-- PENDn and ENn. -/
def State.irqBank (s : State) (b : Nat) (p : State → Nat → Bool) : Word :=
  BitVec.ofNat 32 ((upFrom 0 32).foldl (fun m i => if p s (32 * b + i) then m + 2 ^ i else m) 0)

/-! ### What is active on a core (R314, R315, R317) -/

/-- Indexes of the save sets: 0 to 6 for levels 1 to 7, 7 the Bell, 8 the NMI. -/
def bellSet : Nat := 7
def nmiSet : Nat := 8

/-- Word `j` of save set `n` of core `l`. -/
def saveAddr (l n j : Nat) : Nat := R.SAVE l (16 * n + j)

def ssSRC : F := ⟨0, 8⟩
def ssSLOT : F := ⟨8, 5⟩
def ssLEVEL : F := ⟨13, 3⟩
def ssWORLD : F := ⟨16, 1⟩
def ssSW : F := ⟨17, 1⟩
def ssKIND : F := ⟨18, 2⟩
def ssACT : F := ⟨20, 1⟩

def State.sstat (s : State) (l n : Nat) : Word := s.rd (saveAddr l n 15)

/-- Save set `n` of core `l` holds a context not yet returned to. -/
def State.saveAct (s : State) (l n : Nat) : Bool := ssACT.get (s.sstat l n) == 1

/-- Current priority: the highest active level, 0 when none is (R315, R317). -/
def State.cp (s : State) (l : Nat) : Nat := ([7, 6, 5, 4, 3, 2, 1].find? (fun k => s.saveAct l (k - 1))).getD 0

def State.nmiAct (s : State) (l : Nat) : Bool := s.fld (R.NMIPEND l) R.NMIPEND_NMIACT == 1
def State.dfAct (s : State) (l : Nat) : Bool := s.fld (R.DFSTAT l) R.DFSTAT_ACTIVE == 1

/-- A lesson is active on the core, be it beneath an NMI handler (R326). -/
def State.lessonAct (s : State) (l : Nat) : Bool := s.saveAct l bellSet

/-- The core runs a lesson now: the Bell stacks are current. -/
def State.inLesson (s : State) (l : Nat) : Bool := s.lessonAct l && !s.nmiAct l

/-! ### Candidates (R309, R311, R313) -/

/-- Items 1 to 5 of R311 for source `n` on core `l`. -/
def State.passes5 (s : State) (l n : Nat) : Bool :=
  s.hasSrc n && s.irqEn n && s.irqPend n && s.irqCore n == l && decide (1 ≤ s.irqLevel n) &&
    decide (stwIML.get (s.core l).stw < s.irqLevel n) && decide (s.cp l < s.irqLevel n) &&
    !s.lessonAct l && !s.nmiAct l && !s.dfAct l

/-- Item 6 of R311. -/
def State.passes6 (s : State) (l n : Nat) : Bool :=
  s.irqGuard n || (!(s.core l).guard && !(s.core l).shopHalted)

/-- The sources that are enabled and pending. -/
def State.liveSources (s : State) : List Nat :=
  s.regs.filterMap (fun e =>
    if R.IRQCNT 0 ≤ e.1 ∧ e.1 ≤ R.IRQCNT 255 ∧ R.IRQCNT_COUNT.get e.2 ≠ 0 ∧ R.IRQCNT_EN.get e.2 = 1 then
      some ((e.1 - R.IRQCNT 0) / 4)
    else none)

/-- The candidate of core `l`: the highest level, and among equal levels the lowest source (R309). -/
def State.candidate (s : State) (l : Nat) : Option Nat :=
  let better (best : Option Nat) (n : Nat) : Option Nat :=
    if s.passes5 l n && s.passes6 l n then
      match best with
      | some b => if s.irqLevel b < s.irqLevel n ∨ (s.irqLevel b = s.irqLevel n ∧ n < b) then some n else best
      | none => some n
    else best
  s.liveSources.foldl better none

/-- A Shop candidate waits only because the core runs in the Guard world (R313). -/
def State.shopHeld (s : State) (l : Nat) : Bool :=
  (s.core l).guard && !(s.core l).shopHalted && s.liveSources.any (fun n => s.passes5 l n && !s.irqGuard n)

/-! ### Core blocks and save sets (R319 and the block's rights) -/

/-- ISTAT of core `l`. SRC is that of the innermost active interrupt. -/
def State.istat (s : State) (l : Nat) : Word :=
  let cp := s.cp l
  let src := if cp = 0 then 0 else ssSRC.get (s.sstat l (cp - 1))
  let act := (upFrom 0 7).foldl (fun m n => m + 2 ^ n * (s.saveAct l n).toNat) 0
  BitVec.ofNat 32 (src + 256 * cp + 2048 * (s.lessonAct l).toNat + 4096 * (s.shopHeld l).toNat + 65536 * act)

/-- BELLSTAT of core `l`. -/
def State.bellstat (s : State) (l : Nat) : Word :=
  let v := R.BELLSTAT_QDEPTH.put (s.rd (R.BELLSTAT l)) (s.bell l).length
  R.BELLSTAT_ACT.put v (s.lessonAct l).toNat

/-- Guard ring 0 of core `l` or of G, or the Staff port. -/
def Who.rules (w : Who) (l : Nat) : Bool := w.isStaff || (w.guard0 && (w.id == l || w.id == 0))

/-- A write of register `a` of the block of core `l`: Shop ring 0 of the core writes only IVECS, LBASES and BELLCFG. -/
def State.irqBlock (s : State) (w : Who) (l a : Nat) (v : Word) : State :=
  let off := a - R.IVECG l 0
  let shopOk := w.shop && w.id == l && (decide (0x20 ≤ off ∧ off < 0x3C) || off == 0x74 || off == 0x78)
  if w.rules l || shopOk then (s.wr a (Word.mix (s.rd a) v (wmaskAt a))).irqStat w 0 else s.irqStat w 1

/-- A write of word `j` of a save set of core `l` (R319): words 0 to 14 are writable, SSTAT is not. -/
def State.saveWrite (s : State) (w : Who) (l a j : Nat) (v : Word) : State :=
  if w.rules l then (if j < 15 then s.wr a v else s).irqStat w 0 else s.irqStat w 1

end Sys2Proof.Machine
end

