-- ==== Sys2Proof/Machine/Views.lean ====
section
/-! DEFINITION. What a read of a register returns (R9): views of unit state, the latched halves (R64, R95), per-requester
registers, and the clearing of RC fields and the other effects of a read (R9, R387, R393, R465, R544). -/

namespace Sys2Proof.Machine

/-- A word from a number, modulo 2^32. -/
def w32 (n : Nat) : Word := BitVec.ofNat 32 n

/-- One bit for each of `n` instances that `p` holds of. -/
def bitsOf (n : Nat) (p : Nat → Bool) : Nat := (upFrom 0 n).foldl (fun m i => if p i then m + 2 ^ i else m) 0

/-! ### Position channels and mains (Position Sources at the Balls) -/

def chCode : ChState → Nat
  | .off => 0
  | .sync => 1
  | .track => 2
  | .fault => 3

def State.pcstat (s : State) (c : Nat) : Word :=
  let x := s.chan c
  w32 (chCode x.state + 16 * x.cause + 256 * bitsOf 3 (fun i => x.lvl.getD i false) + 2048 * x.fast.toNat + 4096 * x.warn.toNat +
    8192 * x.zmiss.toNat + 65536 * x.wstat)

/-- The register at offset `r` of channel `c`'s block, as the low half's read latches the high one. -/
def State.chanView (s : State) (c r : Nat) : Word :=
  let x := s.chan c
  let n := wrapN 40 x.count
  match r with
  | 0x04 => s.pcstat c
  | 0x08 => w32 n
  | 0x0C => w32 (n / 2 ^ 32 + 256 * x.frac)
  | 0x10 => w32 x.edgeWall
  | 0x14 => w32 (x.edgeWall / 2 ^ 32)
  | 0x24 => w32 (wrapN 40 x.idxCount)
  | 0x28 => w32 (wrapN 40 x.idxCount / 2 ^ 32 + 256 * x.idxTime)
  | 0x3C => w32 x.raw
  | 0x40 => w32 (x.raw / 2 ^ 32 % 256 + 256 * x.trail + 65536 * x.ne.toNat + 131072 * x.nw.toNat + 262144 * x.cds.toNat +
      2 ^ 20 * x.frmstat)
  | 0x54 => w32 (x.amp + 256 * x.ampLow.getD 0 + 65536 * x.ampHigh)
  | _ => s.rd (0x40018000 + 0x80 * c + r)

/-! ### Timebases -/

def State.tbstat (s : State) (t : Nat) : Word :=
  let x := s.tb t
  w32 (x.state.code + 4 * x.ref.toNat + 8 * x.down.toNat + 16 * x.still.toNat + 32 * x.stale.toNat + 64 * x.wrap.toNat +
    256 * x.cause + 4096 * x.wstat + 65536 * x.discgen)

/-- PSCLK since the sample in use, for the sampled kinds (R98, R361). -/
def State.tbAge (s : State) (t : Nat) : Nat :=
  let age : Int :=
    match s.kind t with
    | 2 => ((s.tb t).samples.head?.map (fun x => (s.wallPs s.now : Int) - x.1)).getD 0
    | 4 => (s.mains.useK.map (fun k => (s.now : Int) - k)).getD 0
    | _ => ((s.tb t).samples.head?.map (fun x => (s.now : Int) - x.1)).getD 0
  min age.toNat 0xFFFFFF

/-- The register at offset `r` of timebase `t`'s block; one that its kind does not use reads 0 (R95). A velocity beyond
32 bits wraps (assumption 102, DESIGN CHOICE). -/
def State.tbView (s : State) (t r : Nat) : Word :=
  let x := s.tb t
  let n := wrapN 48 x.word
  if !kindUses (s.kind t) r then 0
  else match r with
    | 0x00 => R.TBCFG_KIND.put (R.TBCFG_SRC.put (s.rd (R.TBCFG t)) x.src) (s.kind t)
    | 0x04 => s.tbstat t
    | 0x08 => w32 n
    | 0x0C => w32 (n / 2 ^ 32 + 65536 * x.high)
    | 0x10 => wordOf x.vel
    | 0x24 => wordOf x.rev
    | 0x30 => w32 (s.tbAge t)
    | _ => s.rd (0x40010000 + 0x40 * t + r)

/-- The wall-time block (R111) and the remainder of a slew. -/
def State.wallView (s : State) (r : Nat) : Word :=
  let n := s.wallAt s.now
  match r with
  | 0x00 => w32 n
  | 0x04 => w32 (n / 2 ^ 32)
  | 0x08 => w32 (n / 2 ^ 64)
  | 0x0C => wordOf s.wall.adj
  | _ => s.rd (0x40010800 + r)

/-- Capture bank `b` (R120): the words of a timebase are its position word, its status copy and its velocity. -/
def State.capView (s : State) (b r : Nat) : Word :=
  let x := s.caps.get .reset b
  match r with
  | 0x00 => w32 x.seq
  | 0x04 => w32 x.src
  | 0x08 => w32 x.wall
  | 0x0C => w32 (x.wall / 2 ^ 32)
  | 0x10 => w32 (x.src2 + 256 * (x.wall / 2 ^ 64))
  | _ =>
    let i := (r - 0x20) / 4
    let p := x.words.getD (i / 3) (0, 0, 0)
    match i % 3 with
    | 0 => w32 (wrapN 48 p.1)
    | 1 => w32 (wrapN 48 p.1 / 2 ^ 32 + 65536 * p.2.1)
    | _ => wordOf p.2.2

/-- A register of window 0x4001. -/
def State.posView (s : State) (off : Nat) : Word :=
  if off < 0x800 then s.tbView (off / 0x40) (off % 0x40)
  else if off < 0x900 then s.wallView (off - 0x800)
  else if off = 0x904 then
    R.CAPSTAT_FULL.put (s.rd R.CAPSTAT) (bitsOf 4 (fun b => (s.caps.get .reset b).full))
  else if 0x4000 ≤ off ∧ off < 0x8000 then s.capView ((off - 0x4000) / 0x200) (off % 0x200)
  else if 0x8000 ≤ off ∧ off < 0x8800 then s.chanView ((off - 0x8000) / 0x80) (off % 0x80)
  else if off = 0x8808 then w32 s.mains.stampW
  else if off = 0x880C then w32 (s.mains.stampW / 2 ^ 32)
  else s.rd (0x40010000 + off)

/-! ### The Timetable and the Syllabus -/

def State.ttslot (s : State) (i : Nat) : Word :=
  let x := s.slot i
  w32 (x.a.state + 8 * x.a.primed.toNat + 16 * x.a.edir.toNat + 32 * x.disc.toNat + 64 * x.rawpl.toNat + 128 * x.latef.toNat +
    256 * x.status + 65536 * x.req + 524288 * x.guard.toNat)

/-- TTMAP: one bit for each FREE slot. -/
def State.ttmap (s : State) : Word := w32 (bitsOf 32 (fun i => (s.slot i).a.state == 0))

def State.ttbound (s : State) : Nat := bitsOf 32 (fun i => (s.queueOf i).isSome)

def State.ttocc (s : State) : Word :=
  w32 (s.occupied + 256 * s.ttPeak + 65536 * ((upFrom 0 32).filter (fun i => (s.queueOf i).isSome)).length + 2 ^ 24 * s.preStaged)

/-- A register of window 0x4002. -/
def State.ttView (s : State) (off : Nat) : Word :=
  let i := off / 0x40
  let x := s.slot i
  if off < 0x800 then
    match off % 0x40 with
    | 0x10 => s.ttslot i
    | 0x14 => w32 (wrapN 48 x.a.cap)
    | 0x18 => w32 (wrapN 48 x.a.cap / 2 ^ 32)
    | 0x1C => w32 x.whenT
    | 0x20 => w32 (x.whenT / 2 ^ 32)
    | r => if x.everArmed then w32 (x.a.per.word (r / 4)) else 0
  else match off with
    | 0x81C => s.ttmap
    | 0x830 => if s.variant.enward then s.rd R.TTRESV else R.TTRESV_ENQ.put (s.rd R.TTRESV) 0
    | 0x834 => s.ttocc
    | 0x83C => w32 s.ttbound
    | _ =>
      if 0x840 ≤ off ∧ off < 0x858 then
        let r := (off - 0x840) / 4
        R.TTQUOTA_GUARDH.put (R.TTQUOTA_SHOPH.put (s.rd (R.TTQUOTA r)) (s.heldBy r false)) (s.heldBy r true)
      else s.rd (0x40020000 + off)

def qCode : QState → Nat
  | .off => 0
  | .stopped => 1
  | .running => 2
  | .starved => 3
  | .suspended => 4
  | .halted => 5

def State.qstat (s : State) (q : Nat) : Word :=
  let x := s.queue q
  w32 (qCode x.state + 8 * x.buf.isSome.toNat + 16 * x.modestop.toNat + 256 * x.why + 65536 * x.wstat)

def State.sylstat (s : State) : Word :=
  w32 (bitsOf 16 (fun q => (s.queue q).state == .starved) + 65536 * bitsOf 16 (fun q => (s.queue q).state == .halted))

/-- A register of window 0x4003. -/
def State.sylView (s : State) (off : Nat) : Word :=
  let q := off / 0x40
  if off = 0x800 then s.sylstat
  else match off % 0x40 with
    | 0x0C => w32 ((s.queue q).head + 65536 * (s.queue q).seq)
    | 0x10 => w32 (s.queue q).tail
    | 0x18 => s.qstat q
    | _ => s.rd (0x40030000 + off)

/-! ### Outputs and pins -/

/-- The logic level of event line `l` (EVLVL), which HOLD and the safe path leave as it is (R173). -/
def State.lineLevel (s : State) (l : Nat) : Bool := (s.line l).fd.a.lvl

def State.evlvl (s : State) (n : Nat) : Word := w32 (bitsOf 32 (fun i => s.lineLevel (32 * n + i)))

/-- The ball that function `f` is connected to reads high; a function on no ball reads 0 (R192). -/
def State.ballHigh (s : State) (f : Nat) : Bool := (s.ballOf f).any (fun b => s.ballLevel s.drive b == .hi)

def genCode : GenState → Nat
  | .stopped => 0
  | .running => 1
  | .dirwait => 2
  | .held => 3

/-- A register of window 0x4004. -/
def State.outView (s : State) (off : Nat) : Word :=
  let g := (off - 0x400) / 0x20
  let x := s.gen g
  let c := (off - 0x800) / 0x10
  let i := (off - 0xA00) / 0x10
  if off = 0x100 ∨ off = 0x104 then s.evlvl ((off - 0x100) / 4)
  else if off = 0x120 ∨ off = 0x124 then w32 (bitsOf 32 (fun l => s.ballHigh (64 + 32 * ((off - 0x120) / 4) + l)))
  else if 0x400 ≤ off ∧ off < 0x600 then
    match off % 0x20 with
    | 0x0C => wordOf x.count
    | 0x14 => w32 (genCode x.state + 4 * x.dlate.toNat + 8 * x.pinlost.toNat + 16 * x.fdflt.toNat)
    | 0x18 => w32 x.rem
    | _ => s.rd (0x40040000 + off)
  else if 0x800 ≤ off ∧ off < 0x900 ∧ off % 0x10 = 0x0C then w32 ((s.pwm c).clamp.toNat + 2 * (s.pwm c).pinlost.toNat)
  else if 0xA00 ≤ off ∧ off < 0xA80 ∧ off % 0x10 = 0x08 then w32 (s.sd i).pinlost.toNat
  else s.rd (0x40040000 + off)

/-- PINFN of ball `b`, with BUSY, WSTAT and LEVEL. -/
def State.pinfn (s : State) (b : Nat) : Word :=
  let p := s.pin b
  let v := R.PINFN_BUSY.put (s.rd (R.PINFN b)) p.sw.isSome.toNat
  R.PINFN_LEVEL.put (R.PINFN_WSTAT.put v p.wstat) (s.ballLevel s.drive b == .hi).toNat

/-! ### The interrupt controller -/

/-- A register of window 0x4005. -/
def State.irqView (s : State) (off : Nat) : Word :=
  if off < 0x400 then s.irqcfg (off / 4)
  else if 0x800 ≤ off ∧ off < 0x820 then s.irqBank ((off - 0x800) / 4) State.irqPend
  else if 0x860 ≤ off ∧ off < 0x880 then s.irqBank ((off - 0x860) / 4) State.irqEn
  else if 0x1000 ≤ off ∧ off < 0x1500 ∧ off % 0x100 = 0x40 then s.istat ((off - 0x1000) / 0x100)
  else if 0x1000 ≤ off ∧ off < 0x1500 ∧ off % 0x100 = 0x7C then s.bellstat ((off - 0x1000) / 0x100)
  else s.rd (0x40050000 + off)

/-! ### Enward -/

def fcCode : FcState → Nat
  | .none => 0
  | .staged => 1
  | .armed => 2
  | .trying => 3

/-- A register of window 0x4006. -/
def State.enView (s : State) (off : Nat) : Word :=
  if off = 0x04 then s.enStat
  else if off = 0x180 then w32 s.en.rx.length
  else if 0x184 ≤ off ∧ off < 0x194 then s.enRx ((off - 0x184) / 4)
  else if 0x1000 ≤ off ∧ off % 0x20 = 0x14 then
    let x := s.fcEntry ((off - 0x1000) / 0x20)
    w32 (fcCode x.state + 16 * x.slot + 4096 * x.code + 65536 * x.gen)
  else s.rd (0x40060000 + off)

/-! ### Legacy interfaces -/

/-- A register of window 0x4007, for requester `id`. -/
def State.rcView (s : State) (id off : Nat) : Word :=
  let c := off / 0x400
  let x := s.rc c
  let n := x.counts s.now
  match off % 0x400 with
  | 0x108 => w32 (s.rcStatus c) ||| s.rdReq id (R.RCSTAT c)
  | 0x10C => x.d
  | 0x110 => w32 (s.rcLvl c)
  | 0x118 => x.rx.headD 0
  | 0x11C => w32 (x.tx.length + 256 * x.rx.length)
  | 0x120 => w32 n.1
  | 0x124 => w32 (n.1 / 2 ^ 32)
  | 0x128 => w32 n.2
  | 0x12C => w32 (n.2 / 2 ^ 32)
  | 0x130 => w32 x.topc
  | _ => s.rd (0x40070000 + off)

/-- A register of window 0x4008. -/
def State.uartView (s : State) (id off : Nat) : Word :=
  let u := off / 0x100
  match off % 0x100 with
  | 0x10 => w32 ((s.uart u).rx.headD 0)
  | 0x14 => w32 (s.ustat u) ||| s.rdReq id (R.USTAT u)
  | _ => s.rd (0x40080000 + off)

/-! ### The Hall Monitor window -/

/-- A temperature or voltage register: the filtered value and the last sample. -/
def measured : Option (Int × Int) → Word
  | some (y, x) => w32 (wrapN 16 y + 65536 * wrapN 16 x)
  | none => 0

/-- A register of window 0x400D. -/
def State.hallView (s : State) (id off : Nat) : Word :=
  let h := s.hall
  let n := (off - 0x40) / 0x20
  let cnt := wrapN 40 (s.watch n).count
  let night := wrapN 40 (s.watch n).night
  if off = 0x04 then w32 s.hmstat ||| s.rdReq id R.HMSTAT
  else if off = 0x0C then w32 h.time
  else if off = 0x10 then w32 (h.time / 2 ^ 32)
  else if 0x40 ≤ off ∧ off < 0xC0 then
    match off % 0x20 with
    | 0x04 => w32 (s.hwstat n)
    | 0x08 => w32 cnt
    | 0x0C => w32 (cnt / 2 ^ 32)
    | 0x10 => w32 night
    | 0x14 => w32 (night / 2 ^ 32)
    | _ => s.rd (0x400D0000 + off)
  else if off = 0x120 then
    w32 (bitsOf 8 (fun i => (s.hallIn i).filt) + 256 * bitsOf 8 (fun i => (s.hallIn i).samples.headD false))
  else if off = 0x140 then measured h.temp
  else if off = 0x144 then measured h.vbat
  else if off = 0x280 then w32 h.met
  else if off = 0x284 then w32 (h.next + 256 * h.seen + 65536 * h.lost + 2 ^ 24 * h.total)
  else s.rd (0x400D0000 + off)

/-! ### Presence, randomness and secrets -/

/-- UNITPRES (R57): what the variant has. -/
def State.unitpres (s : State) : Word :=
  let v := s.variant
  let code := match v with
    | .fn4816 => 1
    | .fn4812 => 2
    | .fn4808 => 3
  w32 (code + 16 * v.nPhys + 256 * v.nLocal + 8192 * v.enward.toNat + 16384 * v.nMac + 65536 * v.nAdc + 2 ^ 20 * v.nRecit +
    2 ^ 24 * (2 ^ v.nNoise - 1) + 2 ^ 27 * v.nDrbg)

/-- CORETOP (R57): physical cores, the lower member of the pair, the independent cores. -/
def State.coretop (s : State) : Word :=
  let v := s.variant
  w32 (2 ^ v.nPhys - 1 + 256 * v.nInd + 65536 * (2 ^ v.nInd - 1))

/-- KEYSTAT, MRSTAT, and the other words of window 0x400C that are views. -/
def State.certWord (s : State) (i : Nat) : Nat :=
  nth s.otp.cert (4 * i) + 256 * nth s.otp.cert (4 * i + 1) + 65536 * nth s.otp.cert (4 * i + 2) + 2 ^ 24 * nth s.otp.cert (4 * i + 3)

def State.mrstat (s : State) : Word :=
  R.MRSTAT_OPEN.put (R.MRSTAT_QUEUE.put (s.rd R.MRSTAT) (min 15 s.mrq.length)) s.openCount

/-- A register of window 0x400E. -/
def State.sysView (s : State) (off : Nat) : Word :=
  if off = 0x24 then w32 s.dawnTime
  else if off = 0x44 then R.ESTOPSTAT_LEVEL.put (s.rd R.ESTOPSTAT) s.estopN.toNat
  else if off = 0x204 then w32 (s.now / 8)
  else if off = 0x600 then w32 s.fltsum
  else if off = 0x604 then w32 s.fltwarn
  else if off = 0x3014 then s.mrstat
  else if 0x4000 ≤ off ∧ off < 0x8000 then w32 (s.ld 4 (0x400E0000 + off))
  else if 0x8000 ≤ off ∧ off < 0x9000 then s.page.get 0 (off - 0x8000)
  else s.rd (0x400E0000 + off)

/-! ### Every register -/

/-- The halves that a read of the low half at `a` latches for its requester (R64, R95). -/
def latchedBy (a : Nat) : List Nat :=
  let off := a % 0x10000
  match a / 0x10000 with
  | 0x4001 =>
    if off < 0x800 then (if off % 0x40 = 0x08 then [a + 4, a + 8] else [])
    else if off = 0x800 then [a + 4, a + 8]
    else if 0x8000 ≤ off ∧ off < 0x8800 then
      (if off % 0x80 = 0x08 ∨ off % 0x80 = 0x10 ∨ off % 0x80 = 0x24 ∨ off % 0x80 = 0x3C then [a + 4] else [])
    else if off = 0x8808 then [a + 4] else []
  | 0x4002 => if off < 0x800 ∧ (off % 0x40 = 0x14 ∨ off % 0x40 = 0x1C) then [a + 4] else []
  | 0x4007 => if off % 0x400 = 0x120 ∨ off % 0x400 = 0x128 then [a + 4] else []
  | 0x400D => if off = 0x0C ∨ (0x40 ≤ off ∧ off < 0xC0 ∧ off % 0x20 = 0x08) then [a + 4] else []
  | _ => []

/-- The register is a half that a read of its low half latches. -/
def isLatched (a : Nat) : Bool :=
  (latchedBy (a - 4)).contains a || (latchedBy (a - 8)).contains a

/-- The register is kept once per requester. -/
def isPerReq (a : Nat) : Bool :=
  match rowAt a with
  | some r => r.held == .perReq
  | none => false

/-- The mask of the fields that a read returns: WO fields read 0 (R9). -/
def readMask (a : Nat) : Word :=
  match rowAt a with
  | some r => r.mask (fun t _ => t != .wo)
  | none => 0

/-- The value of the register at `a` itself, before any effect of reading it. -/
def State.live (s : State) (id a : Nat) : Word :=
  let off := a % 0x10000
  match a / 0x10000 with
  | 0x4001 => s.posView off
  | 0x4002 => s.ttView off
  | 0x4003 => s.sylView off
  | 0x4004 => s.outView off
  | 0x4005 => s.irqView off
  | 0x4006 => s.enView off
  | 0x4007 => s.rcView id off
  | 0x4008 => s.uartView id off
  | 0x4009 => if off = 0x0C then w32 s.astat ||| s.rdReq id R.ASTAT else s.rd a
  | 0x400A =>
    if off = 0x44 then wordOf s.wall.adj
    else if a = R.ETCFG 1 then R.ETCFG_REFEXT.put (s.rd a) (s.fld (R.ETCFG 0) R.ETCFG_REFEXT)
    else s.rd a
  | 0x400B =>
    if off = 0x104 then s.drbgStat id
    else if 0x200 ≤ off ∧ off < 0x228 then s.drbgInst ((off - 0x200) / 4)
    else s.rd a
  | 0x400C =>
    if off = 0 then w32 s.keyStat
    else if 0x800 ≤ off ∧ off < 0x1000 then w32 (s.certWord ((off - 0x800) / 4))
    else s.rd a
  | 0x400D => s.hallView id off
  | 0x400E => s.sysView off
  | 0x400F =>
    if off = 0 then s.unitpres else if off = 4 then s.coretop else R.DEVID_STEP.put (s.rd a) s.otp.step
  | _ => if off < 0x180 then s.pinfn (off / 4) else s.rd a

/-- What a read by requester `id` returns. -/
def State.look (s : State) (id a : Nat) : Word :=
  if isLatched a then s.rdReq id a
  else if isPerReq a && a != R.DRBGST then s.rdReq id a &&& readMask a
  else s.live id a &&& readMask a

/-! ### The effects of a read -/

/-- The RC fields of the register at `a`. -/
def rcMask (a : Nat) : Word :=
  match rowAt a with
  | some r => r.mask (fun t _ => t == .rc)
  | none => 0

/-- RC fields that a unit's state holds (R9): PCSCAMP, HWSTAT.HWERR, HMLOGN.LOST. A peak (TTOCC.PEAK, BELLSTAT.QPEAK) starts
again at the present value. -/
def State.clearUnit (s : State) (id a : Nat) : State :=
  let off := a % 0x10000
  match a / 0x10000 with
  | 0x4001 =>
    if 0x8000 ≤ off ∧ off < 0x8800 ∧ off % 0x80 = 0x54 then
      let c := (off - 0x8000) / 0x80
      s.setChan c { s.chan c with ampLow := none, ampHigh := 0 }
    else s
  | 0x4002 => if off = 0x834 then { s with ttPeak := s.occupied } else s
  | 0x4005 =>
    if 0x1000 ≤ off ∧ off % 0x100 = 0x7C then
      let l := (off - 0x1000) / 0x100
      s.setFld a R.BELLSTAT_QPEAK (s.bell l).length
    else s
  | 0x400B =>
    if off = 0x104 then s.wrReq id R.DRBGST (R.DRBGST_WAIT.put (s.rdReq id R.DRBGST) 0) else s
  | 0x400D =>
    if 0x40 ≤ off ∧ off < 0xC0 ∧ off % 0x20 = 0x04 then
      let n := (off - 0x40) / 0x20
      s.setWatch n { s.watch n with errs := 0 }
    else if off = 0x284 then { s with hall := { s.hall with lost := 0 } }
    else s
  | _ => s

/-- The registers of LONGCNT and of the bus blocks that count as the one at `a` does: those of both members of the Guard pair for
either (R259, R265). -/
def Variant.alike (v : Variant) (a : Nat) : List Nat :=
  let p := v.phys 0
  let both (base step off : Nat) : List Nat :=
    if off / step = p ∨ off / step = p + 1 then [base + step * p + off % step, base + step * (p + 1) + off % step] else [a]
  if 0x400E0300 ≤ a ∧ a < 0x400E0318 then both 0x400E0300 4 (a - 0x400E0300)
  else if 0x400E0400 ≤ a ∧ a < 0x400E0460 then both 0x400E0400 0x10 (a - 0x400E0400)
  else [a]

/-- The RC fields of the register at `a` are cleared. -/
def State.clearRc (s : State) (id a : Nat) : State :=
  let m := rcMask a
  if m = 0 then s
  else
    let s :=
      if isPerReq a then s.wrReq id a (s.rdReq id a &&& ~~~ m)
      else (s.variant.alike a).foldl (fun (s : State) b => s.wr b (s.rd b &&& ~~~ m)) s
    s.clearUnit id a

/-- A register is read by requester `id` (R9, R64, R95, R387, R393, R465): the value, and the state after the read. -/
def State.regRead (s : State) (id a : Nat) : Word × State :=
  let v := s.look id a
  let s := (latchedBy a).foldl (fun (s : State) h => s.wrReq id h (s.live id h &&& readMask h)) s
  let off := a % 0x10000
  match a / 0x10000 with
  | 0x4006 => if off = 0x190 then (v, s.enRxPop) else (v, s.clearRc id a)
  | 0x4007 => if off % 0x400 = 0x118 then s.rcRxRead (off / 0x400) else (v, s.clearRc id a)
  | 0x4008 => if off % 0x100 = 0x10 then s.urxRead (off / 0x100) else (v, s.clearRc id a)
  | 0x400B =>
    if off = 0x100 then s.drbgRead id
    else if off = 0x10 then
      (if s.fld R.RNGSTAT R.RNGSTAT_RAWON = 1 ∧ id = 5 then s.free else (0, s))
    else (v, s.clearRc id a)
  | _ => (v, s.clearRc id a)

end Sys2Proof.Machine
end

