-- ==== Sys2Proof/Machine/Bus.lean ====
section
/-! DEFINITION. The peripheral region as its requesters reach it: own views (R280), mapping and absence (R3, R58, R328, R329), the
rights that the chapters give (R42, R45, R280, R304, R319, R390, R397, R434, R436, R442, R454, R465), the effect of a write of any
register (R9-R11), and what a Staff port write tells the owner of a block (R434). -/

namespace Sys2Proof.Machine

/-! ### Where a register lies -/

/-- The register that core `l` reaches at `a`: its own views stand for its per-core blocks (R280, the core blocks and save sets). -/
def ownAddr (l a : Nat) : Nat :=
  if 0x400E0800 ≤ a ∧ a < 0x400E1000 then
    (if a < 0x400E0C00 then 0x400E1000 + 0x400 * l + (a - 0x400E0800) else 0)
  else if 0x40050F00 ≤ a ∧ a < 0x40051000 then 0x40051000 + 0x100 * l + (a - 0x40050F00)
  else if 0x40053C00 ≤ a ∧ a < 0x40054000 then 0x40054000 + 0x400 * l + (a - 0x40053C00)
  else a

/-- The address lies in a view that each core has of its own (R429). -/
def isOwnView (a : Nat) : Bool :=
  decide ((0x400E0800 ≤ a ∧ a < 0x400E1000) ∨ (0x40050F00 ≤ a ∧ a < 0x40051000) ∨ (0x40053C00 ≤ a ∧ a < 0x40054000))

/-- The window is one of the sixteen (R328). -/
def inWindows (a : Nat) : Bool := decide (0x40010000 ≤ a ∧ a < 0x40110000)

/-! ### Rights (R279, R280, R304 and the access sections of the unit chapters) -/

/-- Shop ring 0 may reach this offset of its world control block through its own view (R280). -/
def shopBlock (r : Nat) : Bool :=
  r == 0x08 || r == 0x0C || r == 0x1C || r == 0x48 || r == 0x4C || decide (0x180 ≤ r ∧ r < 0x1C0)

/-- A write of a Shop region that is locked, or of a LOCK bit (R280). -/
def State.lockBars (s : State) (l r : Nat) (v : Word) : Bool :=
  decide (0x180 ≤ r ∧ r < 0x1C0) &&
    (s.fld (R.RSHBASE l ((r - 0x180) / 8)) R.RSHBASE_LOCK == 1 || (r % 8 == 0 && R.RSHBASE_LOCK.get v == 1))

/-- An access by a core to its world control block, or to one of the blocks at 0x400E_1000 (R278, R280). -/
def State.blockBars (s : State) (w : Who) (l r : Nat) (own write : Bool) (v : Word) : Bool :=
  if own then
    if w.guard0 then write && r == 0
    else !(w.ring == 0 && shopBlock r) || (write && s.lockBars l r v)
  else !(w.guard0 && w.id == 0)

/-- The access by a core raises a privilege fault with cause REG. `own`: it was made through the core's own view. -/
def State.regBars (s : State) (w : Who) (a : Nat) (own write : Bool) (v : Word) : Bool :=
  let off := a % 0x10000
  let r0 := w.ring == 0
  match a / 0x10000 with
  | 0x4005 =>
    !r0 || (0x4000 ≤ off && w.shop && !write && (off - 0x4000) / 0x400 != w.id)
  | 0x4006 => !r0 && !write
  | 0x4007 => decide (1 < w.ring) && !(write && off % 0x400 == 0x100)
  | 0x4008 => !r0
  | 0x400A => !r0
  | 0x400B => ((off == 0x100 || off == 0x104) && decide (1 < w.ring)) || (decide (0x200 ≤ off) && !r0)
  | 0x400C =>
    if off < 0x40 then (if off = 0 ∨ off = 8 then !r0 else !w.guard0)
    else if 0x1000 ≤ off then decide (1 < w.ring)
    else !r0
  | 0x400D => !r0 && !write
  | 0x400E =>
    if off = 0x04 then write && !r0
    else if off = 0x10 then write && !(w.guard0 && w.id == 0)
    else if 0x500 ≤ off ∧ off < 0x528 then !r0
    else if 0x600 ≤ off ∧ off < 0x800 then !r0 && !write
    else if 0x1000 ≤ off ∧ off < 0x2400 then s.blockBars w ((off - 0x1000) / 0x400) (off % 0x400) own write v
    else if 0x3000 ≤ off ∧ off < 0x3800 then !r0 || (write && off != 0x3018 && !w.guard0)
    else if 0x3800 ≤ off ∧ off < 0x9000 then !r0
    else if off = 0x9000 then !r0 || (write && !w.guard0)
    else false
  | _ => false

/-- The chapters withhold the register from the Staff port (R45, R430, R454). -/
def withheld (a : Nat) (write : Bool) : Bool :=
  decide (a = R.KEYCMD ∨ (R.KEYDATA 0 ≤ a ∧ a ≤ R.KEYUSE)) || (write && a == R.CORERUN)

/-! ### Writes -/

/-- A write as the access types say (R9-R11): RW bits stored, W1S bits set, W1C bits cleared, everything else unchanged. -/
def typed (a : Nat) (old v : Word) : Word :=
  match rowAt a with
  | some r =>
    let set := r.mask (fun t _ => t == .w1s)
    let clr := r.mask (fun t _ => t == .w1c)
    ((Word.mix old v (r.mask (fun t _ => t == .rw)) ||| (v &&& set)) &&& ~~~ (v &&& clr))
  | none => old

/-- A register that no rule of its own governs: it is stored as its access types say, and recorded when it is a configuration
register (R9, R437). -/
def State.plainWrite (s : State) (w : Who) (a : Nat) (v : Word) : State :=
  if isPerReq a then s.wrReq w.id a (Word.mix (s.rdReq w.id a) v (wmaskAt a))
  else
    let nv := typed a (s.rd a) v
    (s.wr a nv).logCfg w a (s.rd a) nv

/-- The fields of a register that a write can change. -/
def writableMask (a : Nat) : Word :=
  match rowAt a with
  | some r => r.mask (fun t _ => t == .rw || t == .w1s || t == .w1c)
  | none => 0

/-- A write of a world control block (R280, R299): the double-fault save set is RO except to Guard ring 0 of its core, and Shop code
reaches only GTCNT.COUNTS. Every accepted write is recorded. -/
def State.blockWrite (s : State) (w : Who) (l a : Nat) (v : Word) : State :=
  let r := a % 0x400
  let v := if w.shop && r == 0x0C then R.GTCNT_COUNTG.put v (s.fld a R.GTCNT_COUNTG) else v
  let m := writableMask a
  if m = 0 || (0x200 ≤ r && !(w.guard0 && w.id == l)) then s
  else
    let nv := typed a (s.rd a) v
    (s.wr a nv).logWho w 0 a (s.rd a &&& m).toNat (nv &&& m).toNat

/-- A write of window 0x4001. The Bool says that the unit has accepted it. -/
def State.posWrite (s : State) (w : Who) (off : Nat) (v : Word) : State × Bool :=
  let a := 0x40010000 + off
  if off < 0x800 then
    let t := off / 0x40
    let judged (s : State) : State × Bool := (s, (s.tb t).wstat == 0)
    if !kindUses (s.kind t) (off % 0x40) then judged (s.tbStat t 1)
    else match off % 0x40 with
    | 0x00 => judged (s.tbCfgWrite w t v)
    | 0x04 => judged ((s.setTb t { s.tb t with wrap := (s.tb t).wrap && R.TBSTAT_WRAP.get v == 0 }).tbStat t 0)
    | 0x14 | 0x18 => judged (s.tbSetWrite t a v)
    | 0x1C => judged (s.tbCmd w t (R.TBCMD_CMD.get v) (R.TBCMD_NEWSRC.get v))
    | 0x20 => judged (s.tbModWrite w t v)
    | 0x28 => judged (s.tbNumWrite w t v)
    | 0x2C => judged (s.tbDenWrite w t v)
    | 0x34 => judged (s.tbSynWrite t v)
    | _ => (s.tbStat t 0, false)
  else
    let wall (s : State) : State × Bool := (s, s.fld R.WALLCTL R.WALLCTL_WSTAT == 0)
    if off = 0x80C then wall (s.wadj 0 v)
    else if off = 0x810 then wall (s.wstepLow v)
    else if off = 0x814 then wall (s.wstep 0 (s.rd R.WSTEPL) v)
    else if off = 0x818 then wall (s.wallCtl w v)
    else if off = 0x900 then (if v.getLsbD 0 then (s.capGo, true) else (s, true))
    else if off = 0x908 then (s.capFree (R.CAPFREE_FREE.get v), true)
    else if 0x8000 ≤ off ∧ off < 0x8800 then
      let c := (off - 0x8000) / 0x80
      if off % 0x80 = 0x04 then
        let x := s.chan c
        (s.setChan c { x with fast := x.fast && R.PCSTAT_FAST.get v == 0, zmiss := x.zmiss && R.PCSTAT_ZMISS.get v == 0, wstat := 0 },
          true)
      else
        let s := s.chanWrite w c (off % 0x80) v
        (s, writableMask a != 0 && (s.chan c).wstat == 0)
    else if off = 0x8800 then (s.mzctlWrite w v, true)
    else (s.plainWrite w a v, writableMask a != 0)

/-- A write of window 0x4002. -/
def State.ttWrite (s : State) (w : Who) (off : Nat) (v : Word) : State × Bool :=
  let a := 0x40020000 + off
  let res (s : State) : State × Bool := (s, ((s.rd a ^^^ v) &&& wmaskAt a) == 0)
  match off with
  | 0x810 => (s.ttNewGo w (v.getLsbD 0), true)
  | 0x818 => (s.ttCmd w (R.TTCMD_CMD.get v) (R.TTCMD_SLOT.get v), true)
  | 0x820 => res (s.ttMembase w v)
  | 0x82C =>
    if R.TTINJ_GO.get v = 1 then
      (s.ttInj w (R.TTINJ_SLOT.get v) (R.TTINJ_FIELD.get v) (R.TTINJ_BIT.get v) (R.TTINJ_LINE.get v) (R.TTINJ_GEN.get v == 1), true)
    else (s, true)
  | 0x830 => res (s.ttResv w a v)
  | _ => if 0x840 ≤ off ∧ off < 0x858 then res (s.ttResv w a v) else (s.plainWrite w a v, writableMask a != 0)

/-- A write of window 0x4003. -/
def State.sylWrite (s : State) (w : Who) (off : Nat) (v : Word) : State × Bool :=
  let a := 0x40030000 + off
  let q := off / 0x40
  let judged (s : State) : State × Bool := (s, (s.queue q).wstat == 0)
  match off % 0x40 with
  | 0x00 => if off < 0x400 then judged (s.qCfgWrite w q v) else (s, false)
  | 0x04 | 0x08 => judged (s.qBaseWrite w q a v)
  | 0x10 => judged (s.qTailWrite w q (R.QTAIL_TAIL.get v))
  | 0x14 => judged (s.qCmd w q (R.QCMD_CMD.get v))
  | _ => (s, false)

/-- A write of PTNSTEP (R183). -/
def State.ptNstepWrite (s : State) (w : Who) (g : Nat) (v : Word) : State :=
  if s.worldBars w (R.PTCFG g) R.PTCFG_WORLD then s.outStat w 1
  else (s.wr (R.PTNSTEP g) (v &&& wmaskAt (R.PTNSTEP g))).outStat w 0

/-- A write of PTCTL (R181, R183): STOP wins over GO. -/
def State.ptCtl (s : State) (w : Who) (g : Nat) (v : Word) : State :=
  if s.worldBars w (R.PTCFG g) R.PTCFG_WORLD then s.outStat w 1
  else if R.PTCTL_STOP.get v = 1 then s.ptStop w g
  else if R.PTCTL_GO.get v = 1 then s.ptGo w g
  else s.outStat w 0

/-- A write of PTSTAT, PWMSTAT or SDSTAT: write 1 to clear. A Shop write to an output of the Guard world is refused (R183, R185,
R187). -/
def State.ptstatWrite (s : State) (w : Who) (g : Nat) (v : Word) : State :=
  let x := s.gen g
  if s.worldBars w (R.PTCFG g) R.PTCFG_WORLD then s.outStat w 1
  else
    (s.outStat w 0).setGen g { x with
      dlate := x.dlate && R.PTSTAT_DLATE.get v == 0, pinlost := x.pinlost && R.PTSTAT_PINLOST.get v == 0
      fdflt := x.fdflt && R.PTSTAT_FDFLT.get v == 0 }
def State.pwmstatWrite (s : State) (w : Who) (c : Nat) (v : Word) : State :=
  let x := s.pwm c
  if s.worldBars w (R.PWMCFG c) R.PWMCFG_WORLD then s.outStat w 1
  else (s.outStat w 0).setPwm c { x with clamp := x.clamp && R.PWMSTAT_CLAMP.get v == 0, pinlost := x.pinlost && R.PWMSTAT_PINLOST.get v == 0 }
def State.sdstatWrite (s : State) (w : Who) (i : Nat) (v : Word) : State :=
  if s.worldBars w (R.SDCFG i) R.SDCFG_WORLD then s.outStat w 1
  else (s.outStat w 0).setSd i { s.sd i with pinlost := (s.sd i).pinlost && R.SDSTAT_PINLOST.get v == 0 }

/-- A PWMCFG or SDCFG write (R185, R187): as R174. A channel on a ball that is not safety-class cannot be given to the Guard
world. -/
def State.pwmCfgWrite (s : State) (w : Who) (c : Nat) (v : Word) : State :=
  s.outCfg w (R.PWMCFG c) v R.PWMCFG_SAFE false (R.PWMCFG_WORLD.get v == 1 && s.onUnsafeBall (256 + c))
def State.sdCfgWrite (s : State) (w : Who) (i : Nat) (v : Word) : State :=
  s.outCfg w (R.SDCFG i) v R.SDCFG_SAFE false (R.SDCFG_WORLD.get v == 1 && s.onUnsafeBall (320 + i))

/-- A write of window 0x4004. -/
def State.outWrite (s : State) (w : Who) (off : Nat) (v : Word) : State × Bool :=
  let a := 0x40040000 + off
  let judged (s : State) : State × Bool := (s, s.rdReq w.id R.OUTWSTAT == 0 || s.rdReq w.id R.OUTWSTAT == 6)
  if off < 0x100 then judged (s.evcfgWrite w (off / 4) v)
  else if 0x108 ≤ off ∧ off < 0x120 then judged (s.evWrite w (off / 4 % 2) ((off - 0x108) / 8 + 1) v)
  else if 0x130 ≤ off ∧ off < 0x140 then judged (s.forceWrite w ((off - 0x130) / 8) (off / 4 % 2) v)
  else if 0x400 ≤ off ∧ off < 0x600 then
    let g := (off - 0x400) / 0x20
    match off % 0x20 with
    | 0x00 => judged (s.ptcfgWrite w g v)
    | 0x04 => judged (s.ptrateWrite w g v)
    | 0x08 => judged (s.ptNstepWrite w g v)
    | 0x10 => judged (s.ptCtl w g v)
    | 0x14 => judged (s.ptstatWrite w g v)
    | _ => (s, false)
  else if 0x800 ≤ off ∧ off < 0x900 then
    let c := (off - 0x800) / 0x10
    match off % 0x10 with
    | 0x00 => judged (s.pwmCfgWrite w c v)
    | 0x04 => judged (s.pwmPerWrite w c v)
    | 0x08 => judged (s.pwmDutyWrite w c v)
    | _ => judged (s.pwmstatWrite w c v)
  else if 0xA00 ≤ off ∧ off < 0xA80 then
    let i := (off - 0xA00) / 0x10
    match off % 0x10 with
    | 0x00 => judged (s.sdCfgWrite w i v)
    | 0x04 => judged (s.sdCodeWrite w i v)
    | _ => judged (s.sdstatWrite w i v)
  else if writableMask a = 0 then (s, false)
  else judged ((s.plainWrite w a v).outStat w 0)

/-- A write of window 0x4005. -/
def State.irqWrite (s : State) (w : Who) (off : Nat) (v : Word) : State × Bool :=
  let a := 0x40050000 + off
  let judged (s : State) : State × Bool := (s, s.rdReq w.id R.IRQWSTAT == 0 || s.rdReq w.id R.IRQWSTAT == 2)
  if off < 0x400 then judged (s.irqcfgWrite w (off / 4) v)
  else if off < 0x800 then judged (s.irqOvf w ((off - 0x400) / 4) v)
  else if 0x820 ≤ off ∧ off < 0x840 then judged (s.irqMask w 0 ((off - 0x820) / 4) v)
  else if 0x840 ≤ off ∧ off < 0x860 then judged (s.irqMask w 1 ((off - 0x840) / 4) v)
  else if 0x880 ≤ off ∧ off < 0x8A0 then judged (s.irqMask w 2 ((off - 0x880) / 4) v)
  else if 0x8A0 ≤ off ∧ off < 0x8C0 then judged (s.irqMask w 3 ((off - 0x8A0) / 4) v)
  else if 0x1000 ≤ off ∧ off < 0x1500 then judged (s.irqBlock w ((off - 0x1000) / 0x100) a v)
  else if 0x4000 ≤ off ∧ off < 0x5400 then
    judged (s.saveWrite w ((off - 0x4000) / 0x400) a ((off - 0x4000) % 0x400 / 4 % 16) v)
  else (s, false)

/-- A write of window 0x4006. -/
def State.enWindow (s : State) (w : Who) (off : Nat) (v : Word) : State × Bool :=
  let a := 0x40060000 + off
  let judged (s : State) : State × Bool := (s, s.rdReq w.id R.ENWSTAT == 0)
  if off = 0 then judged (s.enWrite w a v 0)
  else if off = 0x08 then
    let t := if R.ENCMD_CLRCNT.get v = 1 then s.encmdClrcnt else s
    judged (if !w.priv then s.enRights w else if R.ENCMD_ROLL.get v = 1 then t.encmdRoll w else t.wrReq w.id R.ENWSTAT 0)
  else if 0x40 ≤ off ∧ off < 0x50 then judged (s.enWrite w a v 1)
  else if 0x80 ≤ off ∧ off < 0xE0 then judged (s.enWrite w a v (if off % 8 = 0 then 2 else 3))
  else if off = 0x100 then judged (s.enWrite w a v 4)
  else if 0x1000 ≤ off then (if off % 0x20 < 0x14 then judged (s.enWrite w a v 5) else (s.enRights w, false))
  else if off = 0x14C then
    (if !w.ring0 then (s.enRights w, false) else if v.getLsbD 0 then judged (s.entxGo w) else (s.wrReq w.id R.ENWSTAT 0, true))
  else if 0x140 ≤ off ∧ off < 0x14C then judged (s.enWrite w a v 6)
  else (s.enRights w, false)

/-- A write of window 0x4007. -/
def State.rcWindow (s : State) (w : Who) (off : Nat) (v : Word) : State × Bool :=
  let a := 0x40070000 + off
  let c := off / 0x400
  let r := off % 0x400
  let judged (s : State) : State × Bool := (s, s.rdReq w.id (R.RCSTAT c) == 0)
  if r < 0x100 then judged (s.rcCodeWrite w c (r / 4) v)
  else match r with
    | 0x100 => judged (s.rcCfgWrite w c v)
    | 0x104 => judged (s.rcCtl w c v)
    | 0x114 => judged (s.rcTxWrite w c v)
    | 0x134 => judged ((s.plainWrite w a v).rcStat w c 0)
    | _ => (s, false)

/-- A write of window 0x4008. -/
def State.uartWindow (s : State) (w : Who) (off : Nat) (v : Word) : State × Bool :=
  let a := 0x40080000 + off
  let u := off / 0x100
  let judged (s : State) : State × Bool := (s, s.rdReq w.id (R.USTAT u) == 0)
  match off % 0x100 with
  | 0x00 | 0x04 | 0x1C => judged (s.uartCfg w u a v)
  | 0x08 => judged (s.uctlWrite w u v)
  | 0x0C => judged (s.utxWrite w u v)
  | 0x18 => judged ((s.plainWrite w a v).uartStat w u 0)
  | _ => (s, false)

/-- A write of window 0x4009. -/
def State.attWindow (s : State) (w : Who) (off : Nat) (v : Word) : State × Bool :=
  let a := 0x40090000 + off
  let n := off % 0x80 / 4
  let judged (s : State) : State × Bool := (s, s.rdReq w.id R.ASTAT == 0 || s.rdReq w.id R.ASTAT == 0x60000)
  if off = 0x08 then judged (s.actlWrite w v)
  else if 0x180 ≤ off ∧ off < 0x200 then judged (s.aoutWrite w n v)
  else if 0x200 ≤ off ∧ off < 0x280 then judged (s.aosetWrite w n v)
  else if 0x280 ≤ off ∧ off < 0x300 then judged (s.aoclrWrite w n v)
  else if writableMask a = 0 then (s, false)
  else if 0x480 ≤ off ∧ off < 0x580 then judged ((s.plainWrite w a v).attStat w 0)
  else judged (s.attCfg w a v)

/-- A write of window 0x400A. -/
def State.macWindow (s : State) (w : Who) (off : Nat) (v : Word) : State × Bool :=
  let a := 0x400A0000 + off
  let m := off / 0x1000
  match off % 0x1000 with
  | 0x00 => (s.etcfgWrite w m v, w.priv)
  | 0x34 => (if w.ring0 then s.mdioWrite m v else s, w.ring0)
  | 0x44 => (s.ptpAdj w v, s.ptpRights w)
  | 0x48 => (s.ptpLow w v, s.ptpRights w)
  | 0x4C => (s.ptpStep w v, s.ptpRights w)
  | _ => (s.macWrite w a v, w.ring0 && writableMask a != 0)

/-- A write of windows 0x400B to 0x400D. -/
def State.secretWindow (s : State) (w : Who) (a : Nat) (v : Word) : State × Bool :=
  if a = R.RNGCFG then (s.rawenWrite w v, w.isStaff && s.mode == .service)
  else if a = R.RNGCUT then (s.rngcutWrite w v, w.priv && s.mode == .prepare)
  else if a = R.KEYCMD then (s.keyCmd w v, true)
  else if a = R.KEYUSE then (s.keyuseWrite w v, true)
  else if a = R.CRCTL then (s.crctlWrite w v, true)
  else (s.plainWrite w a v, isPerReq a && writableMask a != 0)

def State.hallWindow (s : State) (w : Who) (off : Nat) (v : Word) : State × Bool :=
  let a := 0x400D0000 + off
  let judged (s : State) : State × Bool := (s, (s.rdReq w.id R.HMSTAT) &&& 0xF00 == 0)
  if off = 0x08 then judged (s.alarmClear w v)
  else if 0x400 ≤ off ∧ off < 0x600 then judged (s.retWrite w ((off - 0x400) / 4) v)
  else if 0x40 ≤ off ∧ off < 0xC0 ∧ off % 0x20 = 0x04 then judged (s.hwstatWrite w ((off - 0x40) / 0x20) v)
  else if wmaskAt a = 0 then (s, false)
  else judged (s.hallWrite w a v)

/-- SNAPCTL (R435, R436): PER is stored, and NOW asks for a refresh, which key 0x1000 of the page's table remembers. -/
def State.snapctl (s : State) (v : Word) : State :=
  let s := s.setFld R.SNAPCTL R.SNAPCTL_PER (R.SNAPCTL_PER.get v)
  if R.SNAPCTL_NOW.get v = 1 then { s with page := s.page.put 0x1000 1 } else s

/-- A write of window 0x400E. A written 0 in ROLLTMO.MS is stored as 200 (assumption 104, DESIGN CHOICE). -/
def State.sysWrite (s : State) (w : Who) (off : Nat) (v : Word) : State × Bool :=
  let a := 0x400E0000 + off
  let judged (s : State) : State × Bool := (s, s.rdReq w.id R.FRWSTAT == 0)
  let l := (off - 0x700) / 0x10
  if off = 0x04 then
    let s := s.modereqWrite w v
    (s, s.fld R.MODERESP R.MODERESP_STATUS == 1)
  else if off = 0x10 then (if w.guard0 && w.id == 0 then (s.corerunWrite v, true) else (s, false))
  else if off = 0x28 then
    let v := if R.ROLLTMO_MS.get v = 0 then 200 else v
    (s.plainWrite w a v, true)
  else if off = 0x40 then
    let s := s.estopcfgWrite w v
    (s, s.fld R.ESTOPSTAT R.ESTOPSTAT_WSTAT == 0)
  else if off = 0x208 then (s.clkobsWrite v, true)
  else if off = 0x610 then judged (s.gpolicyWrite w v)
  else if off = 0x620 then judged (s.pairstatWrite w v)
  else if off = 0x630 then judged (s.safetestWrite w v)
  else if off = 0x63C then judged (s.pairInj w v)
  else if 0x700 ≤ off ∧ off < 0x750 then
    match off % 0x10 with
    | 0x08 => judged (s.wdKick w l (R.WDKICK_KEY.get v))
    | 0x0C => judged (s.wdstatWrite w l v)
    | _ => judged (s.wdWrite w l a v)
  else if 0x1000 ≤ off ∧ off < 0x2400 then (s.blockWrite w ((off - 0x1000) / 0x400) a v, writableMask a != 0)
  else if off = 0x3010 then (s.mrscrubWrite w v, w.priv)
  else if off = 0x3018 then
    let s := s.mrlcmdWrite w v
    (s, s.rdReq w.id R.MRLRES == 0)
  else if off = 0x300C then (if w.priv then (s.plainWrite w a v, true) else (s, false))
  else if off = 0x9000 then (if w.priv then (s.snapctl v, true) else (s, false))
  else (s.plainWrite w a v, writableMask a != 0)

/-- A write of the register at `a` by `w`, and whether its unit has accepted it. -/
def State.regWrite (s : State) (w : Who) (a : Nat) (v : Word) : State × Bool :=
  let off := a % 0x10000
  match a / 0x10000 with
  | 0x4001 => s.posWrite w off v
  | 0x4002 => s.ttWrite w off v
  | 0x4003 => s.sylWrite w off v
  | 0x4004 => s.outWrite w off v
  | 0x4005 => s.irqWrite w off v
  | 0x4006 => s.enWindow w off v
  | 0x4007 => s.rcWindow w off v
  | 0x4008 => s.uartWindow w off v
  | 0x4009 => s.attWindow w off v
  | 0x400A => s.macWindow w off v
  | 0x400B => s.secretWindow w a v
  | 0x400C => s.secretWindow w a v
  | 0x400D => s.hallWindow w off v
  | 0x400E => s.sysWrite w off v
  | 0x4010 =>
    if off < 0x180 then
      let s := s.pinfnWrite w (off / 4) v
      (s, (s.pin (off / 4)).wstat == 0)
    else (s.pinbankWrite w v, w.priv && s.mode == .prepare)
  | _ => (s, false)

/-! ### Owners (R434) -/

/-- The instance block that holds the register at `a`, by its first address (R434; assumption 46, DEDUCED for the registers that several
outputs share). -/
def blockOf (a : Nat) : Nat :=
  let off := a % 0x10000
  let base := a - off
  let cell (z : Nat) : Nat := a / z * z
  match a / 0x10000 with
  | 0x4001 =>
    if off < 0x800 then cell 0x40 else if off < 0x4000 then cell 0x100 else if off < 0x8000 then cell 0x200
    else if off < 0x8800 then cell 0x80 else base + 0x8800
  | 0x4002 => if off < 0x800 then cell 0x40 else base + 0x800
  | 0x4003 => if off < 0x800 then cell 0x40 else base + 0x800
  | 0x4004 =>
    if off < 0x100 then cell 4 else if off < 0x400 then base + 0x100 else if off < 0x600 then cell 0x20
    else if off < 0xF00 then cell 0x10 else base + 0xF00
  | 0x4005 => if off < 0x1000 then base else if off < 0x4000 then cell 0x100 else cell 0x400
  | 0x4007 => cell 0x400
  | 0x4008 => cell 0x100
  | 0x400A => cell 0x1000
  | 0x400E =>
    if off < 0x700 then cell 0x100 else if off < 0x800 then cell 0x10 else if off < 0x2400 then cell 0x400 else cell 0x1000
  | 0x4010 => if off < 0x180 then cell 4 else base + 0x200
  | _ => base

/-- The logical core that owns the block of the register at `a`, if any (R434). -/
def State.ownerOf (s : State) (a : Nat) : Option Nat :=
  let off := a % 0x10000
  let core (n : Nat) : Option Nat := if n < 5 then some n else none
  if a / 0x10000 = 0x4003 ∧ off < 0x800 then
    (if (s.queue (off / 0x40)).state == .off then none else core (s.fld (R.QCFG (off / 0x40)) R.QCFG_OWNER))
  else if a / 0x10000 = 0x4002 ∧ off < 0x800 then
    (if (s.slot (off / 0x40)).everArmed then core (s.slot (off / 0x40)).req else none)
  else (s.owners.find (blockOf a)).map (·.1)

/-- A window write that changes a block owned by core `l` (R434). -/
def State.stateChg (s : State) (l a : Nat) : State :=
  ((s.wr (R.STCHGADDR l) (w32 a)).count (R.STCHGCNT l) R.STCHGCNT_COUNT 1).arrive (0xA0 + l)

/-- A write of the register at `a` by `w`, with what it does to the record of owners (R434). -/
def State.busWrite (s : State) (w : Who) (a : Nat) (v : Word) : State :=
  let r := s.regWrite w a v
  if !r.2 || isPerReq a then r.1
  else if w.isStaff then
    match s.ownerOf a with
    | some l => r.1.stateChg l a
    | none => r.1
  else { r.1 with owners := r.1.owners.put (blockOf a) (w.id, w.guard) }

end Sys2Proof.Machine
end

