-- ==== Sys2Proof/Machine/Staff.lean ====
section
/-! DEFINITION. The Staff port: frames and replies (R410-R416), the register map (R428), sessions (R417-R424), the command
register with the identity and key commands (R426, R427, R449-R453), the window (R429-R432) and the snapshot page (R435). -/

namespace Sys2Proof.Machine

/-! ### The address map that every bus master shares (R328, R329) -/

/-- What lies at an address of the shared map. -/
inductive Place | mram | sram | far (p : Nat) | periph | unmapped
deriving DecidableEq, Repr

/-- The shared map from 0x1000_0000 on. A TCM alias has 128 KiB of code and 64 KiB of data. -/
def placeOf (a : Nat) : Place :=
  if 0x10000000 ≤ a ∧ a < 0x10800000 then .mram
  else if 0x20000000 ≤ a ∧ a < 0x20200000 then .sram
  else if 0x30000000 ≤ a ∧ a < 0x30C00000 then
    let off := a % 0x200000
    if off < 0x20000 ∨ (0x100000 ≤ off ∧ off < 0x110000) then .far ((a - 0x30000000) / 0x200000) else .unmapped
  else if inWindows a then .periph
  else .unmapped

/-- The key under which memory holds a byte of the shared map. -/
def Variant.placeKey (v : Variant) (a : Nat) : Nat :=
  match placeOf a with
  | .far p => v.tcmKey p a
  | _ => a

/-! ### The reply -/

def State.updStaff (s : State) (f : Staff → Staff) : State := { s with staff := f s.staff }

/-- The reply to the request just carried out is fixed (R411, R415). -/
def State.staffReply (s : State) (st addr data : Nat) : State :=
  s.updStaff (fun x => { x with reply := (st, addr, data) })

/-- STATUS, ADDR and DATA of a reply as the port sends them, in [31:24], [23:16] and [15:0]. -/
def replyWord (r : Nat × Nat × Nat) : Word := w32 (2 ^ 24 * r.1 + 65536 * r.2.1 + r.2.2)

/-- CRC-8 of R414 over bytes, polynomial 0x07, initial value 0xFF. -/
def crc8 (l : List Nat) : Nat :=
  let bit (c : Nat) (_ : Nat) : Nat := if 128 ≤ c then (2 * c % 256) ^^^ 7 else 2 * c
  l.foldl (fun c b => (upFrom 0 8).foldl bit (c ^^^ b)) 0xFF

/-- A reply frame, bits 39:0: STATUS, ADDR, DATA and a good CRC (R413-R415). -/
def replyFrame (r : Nat × Nat × Nat) : BitVec 40 :=
  let v := (replyWord r).toNat
  BitVec.ofNat 40 (256 * v + crc8 [v / 2 ^ 24 % 256, v / 65536 % 256, v / 256 % 256, v % 256])

/-! ### Sixteen-bit registers that hold bytes, byte 2i in bits [15:8] (R418) -/

def pairAt (l : List Nat) (i : Nat) : Nat := 256 * nth l (2 * i) + nth l (2 * i + 1)

/-- The byte string, padded to `n` bytes, with word `i` at `v`. -/
def putPair (n : Nat) (l : List Nat) (i v : Nat) : List Nat :=
  ((l ++ List.replicate (n - l.length) 0).set (2 * i) (v / 256 % 256)).set (2 * i + 1) (v % 256)

/-- The first bytes of `old` replaced by `l`. -/
def overlay (l old : List Nat) : List Nat := l ++ old.drop l.length

/-! ### Sessions (R417-R424) -/

def SessState.code : SessState → Nat
  | .closed => 0
  | .drawing => 1
  | .challenged => 2
  | .opened => 3

/-- A session event of the Logbook (R438). -/
def State.sessLog (s : State) (event code new : Nat) : State := s.log 5 false 0 3 event code 0 new

/-- A nonce is there: CHALLENGED, with 10 s to answer (R418, R420). -/
def State.challenge (s : State) (nonce : List Word) : State :=
  s.updStaff (fun x => { x with sess := .challenged, chal := wordBytes nonce, resp := [], chalK := s.now })

/-- STCMD OPEN (R418, R420): the result code, and the state. A refused OPEN leaves a challenge or an open session as it is. -/
def State.sessOpen (s : State) : Nat × State :=
  let refuse (code : Nat) : Nat × State :=
    (code, if s.staff.sess == .drawing then s.updStaff (fun x => { x with sess := .closed }) else s)
  if s.hall.lockout != 0 then refuse 3
  else if (s.key 1).state != .set then refuse 6
  else if s.rngStopped then refuse 5
  else
    match s.drbgDraw 9 8 with
    | some (n, s) => (0, s.challenge n)
    | none => (4, s.updStaff (fun x => { x with sess := .drawing, chal := [], resp := [] }))

/-- NONCE_DRAWN (R420). -/
def State.nonceDrawn (s : State) : State :=
  if s.staff.sess != .drawing then s
  else
    match s.drbgDraw 9 8 with
    | some (n, s) => (s.challenge n).updStaff (fun x => { x with cmdRes := 0x100 })
    | none => s

/-- The lockout that failure number `f` begins, in s (R421); 0: none. -/
def lockoutOf (f : Nat) : Nat := if f < 5 then 0 else min (60 * 2 ^ (f - 5)) 3600

/-- The tag that answers the challenge in force (R419). -/
def State.proofTag (s : State) : List Nat := hmac256 (s.key 1).key ([0x46, 0x4E, 0x53, 0x54] ++ s.staff.chal)

/-- STCMD PROVE (R419-R421). -/
def State.prove (s : State) : Nat × State :=
  let good := (s.key 1).state == .set && s.proofTag == putPair 32 s.staff.resp 16 0
  let was := s.staff.sess
  let s := s.updStaff (fun x => { x with chal := [], resp := [] })
  if was != .challenged then (7, s)
  else if good then
    let s := { s with hall := { s.hall with fails := 0, snum := (s.hall.snum + 1) % 65536 } }
    (0, (s.updStaff (fun x => { x with sess := .opened, memWr := 0 })).sessLog 1 2 0)
  else
    let f := min 15 (s.hall.fails + 1)
    let s := ({ s with hall := { s.hall with fails := f } }.updStaff (fun x => { x with sess := .closed })).sessLog 2 2 f
    let t := lockoutOf f
    (8, if t = 0 then s else { s with hall := { s.hall with lockout := s.hall.lockout + 32768 * t } }.sessLog 3 2 t)

/-- An open session ends with a Logbook entry: 4 CLOSE, 5 IDLE (R420). -/
def State.sessEnd (s : State) (event code : Nat) : State :=
  (s.sessLog event code s.staff.memWr).updStaff (fun x => { x with sess := .closed, chal := [], resp := [] })

/-- PSCLK in a second. -/
def pscSecond : Nat := 200000000

/-- CHALLENGE_EXPIRED at the present edge: 10 s without PROVE (R418, R420). -/
def State.challengeExpired (s : State) : State :=
  if s.staff.sess == .challenged && decide (s.staff.chalK + 10 * pscSecond ≤ s.now) then s.updStaff (fun x => { x with sess := .closed, chal := [], resp := [] }) else s

/-- SESSION_IDLE at the present edge: STIDLE seconds without a good request (R420). -/
def State.sessionIdle (s : State) : State :=
  if s.staff.sess == .opened && decide (s.staff.goodK + s.staff.idle * pscSecond ≤ s.now) then s.sessEnd 5 0 else s

/-! ### The snapshot page (R435, R436) -/

/-- The page's words beside GEN and WHEN: offset, and the register that it copies. -/
def pageMap : List (Nat × Nat) :=
  [(0x10, R.MODESTAT), (0x14, R.FLTSUM), (0x18, R.DAWNSTAT), (0x1C, R.TTOCC), (0x20, R.TTMAP), (0x24, R.TTLATECNT),
   (0x28, R.EVLVL 0), (0x2C, R.EVLVL 1), (0x30, R.ENSTAT), (0x34, R.ASTAT), (0x38, R.SYLSTAT)] ++
  (upFrom 0 32).flatMap (fun t =>
    [(0x40 + 8 * t, R.TBPOSL t), (0x44 + 8 * t, R.TBPOSH t), (0x140 + 4 * t, R.TBSTAT t), (0x1C0 + 4 * t, R.TTSLOT t)]) ++
  (upFrom 0 16).flatMap (fun i => [(0x240 + 4 * i, R.QSTAT i), (0x280 + 4 * i, R.PCSTAT i)]) ++
  (upFrom 0 5).flatMap (fun l => [(0x2C0 + 4 * l, R.ISTAT l), (0x2E0 + 4 * l, R.BELLSTAT l)])

/-- A word of the page: the register as it reads, without any effect of a read; 0 for absent hardware (R436). -/
def State.pageWord (s : State) (a : Nat) : Word :=
  if s.variant.absentAt a then 0 else s.live 6 a &&& readMask a

/-- A refresh (R435). The cell at 0x1000 says that one has been asked for, and snapK when the last one was. -/
def State.snapRefresh (s : State) : State :=
  let gen := s.page.get 0 0 + 2
  let wall := s.wallAt s.now
  let page := pageMap.foldl (fun (p : Tab Word) e => p.put e.1 (s.pageWord e.2)) s.page
  { s with page := (((page.put 0 gen).put 8 (w32 wall)).put 12 (w32 (wall / 2 ^ 32))).put 0x1000 0, snapK := s.now }

/-- SNAPSHOT_REFRESH at the present edge: the interval of PER × 100 µs has passed since the last one, or a refresh has been asked for. -/
def State.snapshotRefresh (s : State) : State :=
  let per := s.fld R.SNAPCTL R.SNAPCTL_PER
  if s.mode != .night && ((per != 0 && decide (s.snapK + 20000 * per ≤ s.now)) || s.page.get 0 0x1000 == 1) then s.snapRefresh else s

/-- A refresh is asked for. -/
def State.snapAsk (s : State) : State := { s with page := s.page.put 0x1000 1 }

/-! ### Identity and key commands (R449-R453) -/

/-- ENROLL is strapped: high at t = 0 of this DAWN and now (R453). -/
def State.strapped (s : State) (env : StaffEnv) : Bool := env.enroll && s.fld R.IDSTAT R.IDSTAT_ENRDAWN == 1

/-- The 79 bytes that an attestation signs (R449). -/
def State.attestMessage (s : State) : List Nat :=
  let flags := s.fld R.DAWNSTAT R.DAWNSTAT_IMGBAD + 2 * s.otp.bootkey.toNat + 4 * (decide (64 ≤ s.otp.count)).toNat +
    8 * s.otp.cert.isEmpty.toNat
  [0x46, 0x4E, 0x41, 0x54] ++ putPair 32 s.staff.xin 16 0 ++ bytesHigh 8 s.otp.serial ++
    [s.mode.code, min 64 s.otp.count, flags] ++ wordBytes ((upFrom 0 8).map (fun i => s.rd (R.MEAS i)))

/-- ATTEST: signing starts with a secret k of the key-generation instance; the signature is kept until it is complete. -/
def State.attest (s : State) : Nat × State :=
  let key := s.fld R.IDSTAT R.IDSTAT_KEY
  if key != 1 && key != 2 then (14, s)
  else if (s.key 0).state != .set then (13, s)
  else if s.keyGenCode != 0 then (s.keyGenCode, s)
  else if s.signing.isSome then (4, s)
  else
    match s.drbgDraw 8 8 with
    | none => (4, s)
    | some (k, s) =>
      let m := s.attestMessage
      (4, { s with signing := some (m ++ Config.ecSign (s.key 0).key (wordBytes k) (sha256 m)) })

/-- ATTEST_COMPLETE (R449). -/
def State.attestComplete (s : State) : State :=
  match s.signing with
  | none => s
  | some m =>
    { s with signing := none, attRec := some ((m.drop 36).take 43) }.updStaff (fun x =>
      { x with xout := overlay (m.drop 79) x.xout, cmdRes := 0x3000 })

/-- Output of a command in XOUT. -/
def State.toXout (s : State) (l : List Nat) : State := s.updStaff (fun x => { x with xout := overlay l x.xout })

/-- The 32 bytes in XIN. -/
def State.xinKey (s : State) : List Nat := putPair 32 s.staff.xin 16 0

/-- The certificate area is blank (R448). -/
def State.certBlank (s : State) : Bool := s.otp.cert.isEmpty

/-- The conditions of R452 that come before those of the single command, in their order: NOSESS, MODE, NOSTRAP. -/
def State.idGate (s : State) (session : Bool) (modes : Mode → Bool) (strap : Bool) : Nat :=
  if session && s.staff.sess != .opened then 2 else if !modes s.mode then 9 else if strap then 11 else 0

/-- CERTWR (R452): a chunk is appended to the buffer of at most 64. -/
def State.certwr (s : State) : Nat × State :=
  if !s.certBlank then (13, s)
  else if 2048 ≤ s.certBuf.length then (12, s)
  else (0, { s with certBuf := s.certBuf ++ s.xinKey })

/-- CERTSEAL (R452): the filled buffer is checked and programmed. -/
def State.certseal (s : State) (ok : Bool) : Nat × State :=
  if !s.certBlank || s.certBuf.isEmpty then (13, s)
  else if !ok then (12, s)
  else
    let s := { s.logFlush with otp := { s.otp with cert := s.certBuf }, certBuf := [] }
    (0, (s.setFld R.IDSTAT R.IDSTAT_CERT 1).setFld R.CERTLEN R.CERTLEN_LEN s.otp.cert.length)

/-- GENKEY (R452). -/
def State.genkey (s : State) : Nat × State :=
  let k := pairAt s.staff.xin 0 % 16
  if k < 3 ∨ 6 < k then (12, s)
  else if s.keyGenCode != 0 then (s.keyGenCode, s)
  else (0, s.keyGen .staff k)

/-- ERASEKEY (R452). -/
def State.erasekey (s : State) : Nat × State :=
  let k := pairAt s.staff.xin 0 % 16
  if k = 0 ∨ k = 2 ∨ 6 < k then (12, s) else (0, s.keyWrite .staff k { state := .erased, key := [] })

/-- IDKILL (R446, R452). -/
def State.idkill (s : State) : Nat × State :=
  if pairAt s.staff.xin 0 != 0xD1E5 then (12, s)
  else (0, (s.keyWrite .staff 0 { state := .erased, key := [] }).setFld R.IDSTAT R.IDSTAT_KEY 3)

/-- A command of STCMD codes 0x30 to 0x3F (R452): the result code, and the state. -/
def State.idCmd (s : State) (env : StaffEnv) (code : Nat) : Nat × State :=
  let inPrepare (m : Mode) : Bool := m == .prepare
  let all (_ : Mode) : Bool := true
  let loose := !s.strapped env
  let gate (session : Bool) (modes : Mode → Bool) (strap : Bool) (x : Nat × State) : Nat × State :=
    let g := s.idGate session modes strap
    if g = 0 then x else (g, s)
  let setKey (k : Nat) : Nat × State :=
    gate true keyModes false (0, s.keyWrite .staff k { state := .set, key := s.xinKey })
  match code with
  | 0x30 => gate false all false s.attest
  | 0x31 =>
    match s.attRec with
    | some m => (0, s.toXout m)
    | none => (13, s)
  | 0x32 => if (s.key 0).state == .set then (0, s.toXout (Config.ecPublic (s.key 0).key)) else (13, s)
  | 0x33 =>
    let n := pairAt s.staff.xin 0 % 64
    (0, s.toXout ((upFrom (32 * n) 32).map (nth s.otp.cert)))
  | 0x34 =>
    gate false keyModes loose
      (if (s.key 1).state == .set then (13, s) else (0, s.keyWrite .staff 1 { state := .set, key := s.xinKey }))
  | 0x35 => gate false inPrepare loose s.certwr
  | 0x36 => gate false inPrepare loose (s.certseal env.certOk)
  | 0x37 => gate true inPrepare loose s.idkill
  | 0x38 => setKey 1
  | 0x3A => setKey 3
  | 0x3B => setKey 4
  | 0x3C => setKey 5
  | 0x3D => setKey 6
  | 0x3E => gate true keyModes false s.genkey
  | 0x3F => gate true keyModes false s.erasekey
  | _ => (10, s)

/-- A write of STCMD (R426): the result code, and the state before STCMDRES is written. -/
def State.stcmdRun (s : State) (env : StaffEnv) (v : Nat) : Nat × State :=
  let code := v % 256
  let inSession (x : State) : Nat × State := if s.staff.sess == .opened then (0, x) else (2, s)
  if v / 256 != 0x5A then (1, s)
  else if code = 1 then s.sessOpen
  else if code = 2 then s.prove
  else if code = 3 then inSession (s.sessEnd 4 3)
  else if code = 0x20 then inSession s.snapAsk
  else if 0x30 ≤ code ∧ code < 0x40 then
    let r := s.idCmd env code
    (r.1, r.2.updStaff (fun x => { x with xin := [] }))
  else (10, s)

/-- A write of STCMD: STCMDRES, and the reply status and data: OK, or REFUSED for a command that was not accepted (R415). -/
def State.stcmd (s : State) (env : StaffEnv) (v : Nat) : Nat × Nat × State :=
  let r := s.stcmdRun env v
  let res := r.1 + 256 * (v % 256)
  (if r.1 = 0 ∨ r.1 = 4 then 0 else 0x0D, res, r.2.updStaff (fun x => { x with cmdRes := res }))

/-- A write of STMODEREQ (R427). A request for DAWN that is accepted is answered so, and resets the port's registers (R44, R423). -/
def State.stmodereq (s : State) (v : Nat) : Nat × Nat × State :=
  let target := Mode.ofCode (v % 8)
  let r := if v / 256 != 0xA5 then (6, 0) else s.judge target .staff
  let res := r.1 + 16 * (v % 8) + 256 * r.2
  let t := if v / 256 != 0xA5 then s else s.modeRequest .staff target
  (if r.1 = 1 then 0 else 0x0D, res,
    if r.1 = 1 && target == .dawn then t else t.updStaff (fun x => { x with modeRes := res }))

/-! ### The window (R429-R432) -/

/-- The size of a window access; WINCTL.SIZE 3 counts as a word (assumption 47, DESIGN CHOICE). -/
def winSize (size : Nat) : Nat := min 4 (2 ^ size)

/-- Checks 1 to 8 of R430: the status of the first that fails, 0 when none does. -/
def State.winCheck (s : State) (x : WinAccess) : Nat :=
  let a := x.addr
  let p := placeOf a
  if s.staff.sess != .opened then 2
  else if x.write && s.mode == .lockout then 0x0E
  else if a < 0x10000000 ∨ isOwnView a then 6
  else if a % x.n != 0 then 0x0A
  else if 0x40000000 ≤ a ∧ x.n != 4 then 0x0B
  else
    match p with
    | .unmapped => 6
    | .far q => if s.variant.nPhys ≤ q then 7 else 0
    | .periph => if s.variant.absentAt a then 7 else if (rowAt a).isNone then 6 else if withheld a x.write then 8 else 0
    | .mram => if s.anySealed a x.n then 8 else 0
    | .sram => 0

/-- The access ends with its reply status (R431). -/
def State.winEnd (s : State) (x : WinAccess) (st : Nat) : State :=
  s.updStaff (fun t => { t with access := none, winLast := st, rdStat := if x.write then t.rdStat else st
                                winErrs := if st = 0 then t.winErrs else min 255 (t.winErrs + 1) })

/-- A read that has passed checks 1 to 8: its data, whether it is uncorrectable, and the state. -/
def State.winRead (s : State) (x : WinAccess) : Nat × Bool × State :=
  match placeOf x.addr with
  | .periph =>
    let r := s.regRead 5 x.addr
    (r.1.toNat, false, r.2)
  | p =>
    let s := if p == .mram then s.mrFlush else s
    let k := s.variant.placeKey x.addr
    let r := s.eccRead k x.n
    (r.1.peek x.n k, r.2, r.1)

/-- A write that has passed its checks. Window writes to memory are counted for the CLOSE and IDLE entries (R437, R438). -/
def State.winWrite (s : State) (x : WinAccess) : State :=
  let mem (s : State) : State := s.updStaff (fun t => { t with memWr := t.memWr + 1 })
  match placeOf x.addr with
  | .periph => s.busWrite .staff x.addr (w32 x.val)
  | .mram => mem (s.mrPush (.write 5 x.addr x.n (x.val % 2 ^ (8 * x.n))))
  | _ => mem (s.store (s.variant.placeKey x.addr) x.n x.val)

/-- WINDOW_ACCESS_COMPLETE (R430-R432, R434). -/
def State.winComplete (s : State) : State :=
  match s.staff.access with
  | none => s
  | some x =>
    let st := s.winCheck x
    if st != 0 then s.winEnd x st
    else if x.write then (s.winWrite x).winEnd x 0
    else
      let r := s.winRead x
      if r.2.1 then r.2.2.winEnd x 0x0C
      else (r.2.2.updStaff (fun t => { t with winData := r.1 })).winEnd x 0

/-- An access of `n` bytes starts at WINADDR; with INC a write advances WINADDR at its start (R431). -/
def Staff.start (x : Staff) (write : Bool) : Staff :=
  let n := winSize x.size
  { x with access := some { write := write, addr := x.winAddr, n := n, val := x.winData }
           winAddr := if write && x.inc then (x.winAddr + n) % 2 ^ 32 else x.winAddr }

/-- The next read of a block: WINADDR advances, then the read starts (R431). -/
def Staff.next (x : Staff) : Staff := { x with winAddr := (x.winAddr + winSize x.size) % 2 ^ 32 }.start false

/-! ### The register map (R428) -/

/-- The lockout left in s, a begun one counted whole (STLOCK). -/
def State.lockSeconds (s : State) : Nat := (s.hall.lockout + 32767) / 32768

/-- A 16-bit half of a register of the window map. -/
def State.halfOf (s : State) (a i : Nat) : Nat := (s.live 5 a).toNat / 65536 ^ i % 65536

/-- The register at Staff address `r` as it reads; none: no register there. -/
def State.staffView (s : State) (r : Nat) : Option Nat :=
  let x := s.staff
  match r with
  | 0x00 => some (s.halfOf R.DEVID 0)
  | 0x01 => some (s.halfOf R.DEVID 1 % 256 + 256 * (s.halfOf R.UNITPRES 0 % 16))
  | 0x02 => some (s.halfOf R.UNITPRES 0)
  | 0x03 => some (s.halfOf R.UNITPRES 1)
  | 0x04 => some (s.halfOf R.CORETOP 0)
  | 0x05 => some (s.halfOf R.CORETOP 1)
  | 0x06 => some (s.halfOf R.MODESTAT 0 % 2048)
  | 0x07 => some (s.halfOf R.FLTSUM 0)
  | 0x08 => some (s.halfOf R.DAWNSTAT 0)
  | 0x09 => some (s.fld R.DAWNSTAT R.DAWNSTAT_LOCKCAUSE)
  | 0x0A => some (s.halfOf R.RSTCAUSE 0 % 512 + 4096 * s.fld R.RSTCAUSE R.RSTCAUSE_LAST)
  | 0x0B => some (x.sess.code + 4 * ((s.key 1).state == .set).toNat + 8 * x.uart.toNat + 16 * x.mode3.toNat)
  | 0x0C => some (s.hall.fails % 16 + 16 * min 3600 s.lockSeconds)
  | 0x0D => some (s.hall.snum % 65536)
  | 0x0E => some (x.crcErrs + 256 * x.frmErrs)
  | 0x0F => some x.modeRes
  | 0x30 => some 0
  | 0x31 => some x.cmdRes
  | 0x32 => some 0
  | 0x40 => some (x.winAddr % 65536)
  | 0x41 => some (x.winAddr / 65536)
  | 0x42 => some (x.winData % 65536)
  | 0x43 => some (x.winData / 65536)
  | 0x44 => some (x.size + 4 * x.inc.toNat)
  | 0x45 => some (x.winLast + 16 * x.access.isSome.toNat + 256 * x.winErrs)
  | 0x46 => some x.idle
  | _ =>
    if 0x10 ≤ r ∧ r < 0x20 then some (pairAt x.chal (r - 0x10))
    else if (0x20 ≤ r ∧ r < 0x30) ∨ (0x50 ≤ r ∧ r < 0x60) then some 0
    else if 0x60 ≤ r ∧ r < 0x80 then some (pairAt x.xout (r - 0x60))
    else none

/-- The register may be used without a session (R417). -/
def staffOpen (r : Nat) : Bool := decide (r < 0x34 ∨ (0x50 ≤ r ∧ r < 0x80))

/-- A READ of a mapped register that may be used: reply status, data and the state (R428, R431). -/
def State.staffRead (s : State) (r : Nat) : Nat × Nat × State :=
  let v := (s.staffView r).getD 0
  let x := s.staff
  if r = 0x0E then (0, v, s.updStaff (fun x => { x with crcErrs := 0, frmErrs := 0 }))
  else if r = 0x45 then (0, v, s.updStaff (fun x => { x with winErrs := 0 }))
  else if r = 0x42 ∨ r = 0x43 then
    if x.access.isSome then (1, 0, s)
    else (x.rdStat, if x.rdStat = 0 then v else 0, if r = 0x43 && x.inc then s.updStaff Staff.next else s)
  else (0, v, s)

/-- A WRITE of a mapped register that may be used. -/
def State.staffWrite (s : State) (env : StaffEnv) (r v : Nat) : Nat × Nat × State :=
  let x := s.staff
  let ok (s : State) : Nat × Nat × State := (0, (s.staffView r).getD 0, s)
  if r = 0x30 then s.stcmd env v
  else if r = 0x32 then s.stmodereq v
  else if 0x40 ≤ r ∧ r ≤ 0x44 ∧ x.access.isSome then (1, 0, s)
  else match r with
    | 0x40 => ok (s.updStaff (fun x => { x with winAddr := x.winAddr / 65536 * 65536 + v }))
    | 0x41 => ok (s.updStaff (fun x => { x with winAddr := x.winAddr % 65536 + 65536 * v }))
    | 0x42 => ok (s.updStaff (fun x => { x with winData := x.winData / 65536 * 65536 + v }))
    | 0x43 => ok (s.updStaff (fun x => { x with winData := x.winData % 65536 + 65536 * v }.start true))
    | 0x44 =>
      let s := s.updStaff (fun x => { x with size := v % 4, inc := v / 4 % 2 == 1 })
      ok (if v / 8 % 2 = 1 then s.updStaff (·.start false) else s)
    | 0x46 => ok (s.updStaff (fun x => { x with idle := if 10 ≤ v ∧ v ≤ 3600 then v else 300 }))
    | _ =>
      if 0x20 ≤ r ∧ r < 0x30 then ok (s.updStaff (fun x => { x with resp := putPair 32 x.resp (r - 0x20) v }))
      else if 0x50 ≤ r ∧ r < 0x60 then ok (s.updStaff (fun x => { x with xin := putPair 32 x.xin (r - 0x50) v }))
      else ok s

/-! ### Frames (R410-R416) -/

/-- DAWN step 1 has not completed (R416). -/
def State.notReady (s : State) : Bool := s.mode == .dawn && (s.dawn == .waitReset || s.dawn == .waitClock)

/-- A request whose frame is good: it is carried out and its reply fixed (R413, R415, R416). -/
def State.staffDo (s : State) (env : StaffEnv) (cmd addr data : Nat) : State :=
  let s := s.updStaff (fun x => { x with goodK := s.now })
  let put (r : Nat × Nat × State) : State := r.2.2.staffReply r.1 addr r.2.1
  let none (st : Nat) : State := s.staffReply st addr 0
  if s.notReady then none 9
  else if cmd = 0 then none 0
  else if cmd != 1 && cmd != 2 then none 5
  else if (s.staffView addr).isNone then none 6
  else if !staffOpen addr && s.staff.sess != .opened then none 2
  else if cmd = 1 then put (s.staffRead addr)
  else put (s.staffWrite env addr data)

/-- A frame as the port takes it: in SPI form its STDO carries the reply to the frame before it, in UART form its own reply
follows (R411, R412); `rdata` is what the port has sent. -/
def State.exchange (s : State) (f : State → State) : State :=
  if s.mode == .night then s
  else if s.staff.uart then
    let t := f s
    { t with rdata := replyWord t.staff.reply }
  else { f s with rdata := replyWord s.staff.reply }

/-- The five bytes of a frame, bits 39:32 first. -/
def frameBytes (v : Nat) : List Nat := bytesHigh 5 v

/-- A frame of 40 bits is checked and carried out (R414, R415). -/
def State.frameDo (s : State) (env : StaffEnv) (whole : Bool) (v : Nat) : State :=
  let b := frameBytes v
  if s.notReady then s.staffReply 9 (nth b 1) 0
  else if !whole then (s.updStaff (fun x => { x with frmErrs := min 255 (x.frmErrs + 1) })).staffReply 4 0 0
  else if crc8 (b.take 4) != nth b 4 then (s.updStaff (fun x => { x with crcErrs := min 255 (x.crcErrs + 1) })).staffReply 3 0 0
  else s.staffDo env (nth b 0) (nth b 1) (256 * nth b 2 + nth b 3)

/-- SPI_FRAME: `edges` rising edges of STCK, in mode 3 or 0, with the 40 bits that STDI carried (R410). -/
def State.spiFrame (s : State) (env : StaffEnv) (edges : Nat) (mode3 : Bool) (v : Nat) : State :=
  if s.staff.uart || s.mode == .night then s
  else (s.updStaff (fun x => { x with mode3 := mode3 })).exchange (fun (s : State) => s.frameDo env (edges == 40) v)

/-- UART_FORM_REQUEST: the five bytes after a sync character; not `whole`: begun too early or with too long a gap (R412). -/
def State.uartRequest (s : State) (env : StaffEnv) (whole : Bool) (v : Nat) : State :=
  if !s.staff.uart || s.mode == .night then s
  else s.exchange (fun (s : State) => s.frameDo env whole v)

/-- A good request with a CMD, a register and data. -/
def State.staffSend (s : State) (env : StaffEnv) (cmd addr data : Nat) : State :=
  s.exchange (fun (s : State) => s.staffDo env cmd addr data)

/-- A WRITE of STCMD with its key. -/
def State.staffCmd (s : State) (env : StaffEnv) (code : Nat) : State := s.staffSend env 2 0x30 (0x5A00 + code)

end Sys2Proof.Machine
end

