-- ==== Sys2Proof/Machine/Operands.lean ====
section
/-! DEFINITION. How a core's instruction reaches its operands: detected faults, the region unit (R289, R290), the checks of a data
access (R219, R240), loads and stores through the store buffer (R269-R276), and the operand and return stacks with their fills and
spills (R197-R203, R323). -/

namespace Sys2Proof.Machine

/-! ### Faults detected by an instruction (R293) -/

/-- A detected fault: KIND and CAUSE, the address that FADDR holds (none: the instruction's own, R297), WRITE and RSTK. -/
structure Flt where
  kind  : Nat
  cause : Nat
  addr  : Option Nat := none
  write : Bool := false
  rstk  : Bool := false
deriving DecidableEq, Repr

/-- What a part of an instruction comes to: a value, or a fault. The state holds what has been done, moves of R199 included. -/
inductive Out (α : Type)
  | ok (s : State) (a : α)
  | bad (s : State) (f : Flt)

/-- The next part of the instruction, unless a fault has been detected. -/
def Out.bind {α β : Type} : Out α → (State → α → Out β) → Out β
  | .ok s a, f => f s a
  | .bad s e, _ => .bad s e

/-- A check: the fault it detects, if any. -/
def State.guardBy (s : State) : Option Flt → Out Unit
  | some f => .bad s f
  | none => .ok s ()

def Flt.illegal (cause : Nat) : Flt := { kind := 1, cause := cause }
def Flt.priv (cause : Nat) : Flt := { kind := 7, cause := cause }
def Flt.fetchOdd (t : Nat) : Flt := { kind := 2, cause := 0, addr := some t }
def Flt.stkPtr (v : Nat) : Flt := { kind := 2, cause := 2, addr := some v }
def Flt.stack (cause : Nat) (r : Bool) : Flt := { kind := 5, cause := cause, rstk := r }
def Flt.gate (cause i : Nat) : Flt := { kind := 6, cause := cause, addr := some i }

/-! ### The region unit (R289-R291) -/

inductive AccKind | read | write | exec
deriving DecidableEq, Repr

/-- Class `c` grants ring `r`: rings 0 to c − 1 for c from 1 to 4 (R289, R291). -/
def classGrants (c r : Nat) : Bool := decide (1 ≤ c ∧ c ≤ 4 ∧ r < c)

/-- Block `b` of 64 bytes lies in the region with these base and limit registers, and the region is enabled. -/
def inRegion (base lim : Word) (b : Nat) : Bool :=
  base.getLsbD 3 && decide (base.toNat / 64 ≤ b ∧ b ≤ lim.toNat / 64)

/-- The registers of region `i` of a world of core `l`. -/
def State.region (s : State) (l : Nat) (guard : Bool) (i : Nat) : Word × Word :=
  if guard then (s.rd (R.RGBASE l i), s.rd (R.RGLIM l i)) else (s.rd (R.RSHBASE l i), s.rd (R.RSHLIM l i))

/-- What a region grants: its class for the kind of access. -/
def regionClass (k : AccKind) (p : Word × Word) : Nat :=
  match k with
  | .exec => p.1.toNat % 8
  | .read => p.2.toNat % 8
  | .write => p.2.toNat / 8 % 8

/-- A Guard region with EXCL = 1 holds the block (R289), or an enabled sealed region does (R344). -/
def State.exclusive (s : State) (l b : Nat) : Bool :=
  (upFrom 0 16).any (fun i =>
    let p := s.region l true i
    inRegion p.1 p.2 b && p.1.getLsbD 4) || (s.sealedAt (64 * b)).isSome

/-- The block is permitted for the kind of access to a world and ring of core `l` (R289). A sealed region without its key is
refused to both worlds (R346). -/
def State.blockOk (s : State) (l : Nat) (guard : Bool) (ring : Nat) (k : AccKind) (b : Nat) : Bool :=
  let barred := if guard then (s.sealedAt (64 * b)).isSome && s.sealKey.isNone else s.exclusive l b
  let grants :=
    match (upFrom 0 16).find? (fun i => let p := s.region l guard i; inRegion p.1 p.2 b) with
    | some i => classGrants (regionClass k (s.region l guard i)) ring
    | none => false
  !barred && grants

/-- Every byte of an access of at most 65 bytes is permitted. -/
def State.regionOk (s : State) (l : Nat) (guard : Bool) (ring : Nat) (k : AccKind) (a n : Nat) : Bool :=
  s.blockOk l guard ring k (a % 2 ^ 32 / 64) && s.blockOk l guard ring k ((a + n - 1) % 2 ^ 32 / 64)

/-! ### Where a core's access goes (R213, R269) -/

/-- The place of an address as a core sees it; none: unmapped. -/
def targetOf (a : Nat) : Option Target :=
  if a < 0x20000 ∨ (0x100000 ≤ a ∧ a < 0x110000) then some .tcm
  else match placeOf a with
    | .mram => some .mram
    | .sram => some .sram
    | .far p => some (.far p)
    | .periph => some .periph
    | .unmapped => none

/-- The key of memory, or the register address, that an address of core `l` names. -/
def Variant.accessKey (v : Variant) (l a : Nat) : Target → Nat
  | .tcm => v.tcmKey (v.phys l) a
  | .far p => v.tcmKey p a
  | .periph => ownAddr l a
  | _ => a

/-- A data access whose address is no multiple of its size is split at the boundary of the aligned block (R272). -/
def splitAt (a n : Nat) : List (Nat × Nat) :=
  if a % n = 0 then [(a, n)]
  else
    let m := n - a % n
    [(a, m), ((a + m) % 2 ^ 32, n - m)]

/-- The pieces of a group of `n` bytes, cut at 16-byte boundaries on the bus (R265). -/
def cut16 (a : Nat) : Nat → Nat → List (Nat × Nat)
  | 0, _ => []
  | fuel + 1, n => if n = 0 then [] else let m := min n (16 - a % 16); (a, m) :: cut16 (a + m) fuel (n - m)

/-! ### The checks of a data access, in the order of R219 -/

/-- Privilege: a TCM alias is for Guard ring 0 (R214, cause ALIAS); a register's own rights (cause REG). -/
def State.privFault (s : State) (w : Who) (a n : Nat) (write : Bool) (v : Word) : Option Flt :=
  let isFar (b : Nat) : Bool := match placeOf b with | .far _ => true | _ => false
  let reg := a / 4 * 4
  if (isFar a || isFar ((a + n - 1) % 2 ^ 32)) && !w.guard0 then some { kind := 7, cause := 2, addr := some a, write := write }
  else if inWindows a && s.regBars w (ownAddr w.id reg) (isOwnView reg) write v then
    some { kind := 7, cause := 4, write := write }
  else none

/-- Alignment in the peripheral region (R240). -/
def alignFault (a n : Nat) (write : Bool) : Option Flt :=
  if 0x40000000 ≤ a ∧ a % n ≠ 0 then some { kind := 2, cause := 3, addr := some a, write := write } else none

/-- The bus error of one part, `n` bytes at `a`, of the access at `fa`: NARROW, ABSENT or UNMAPPED (R12, R3, R213, R329). FADDR is
the address of the access, whichever of its parts fails (R205, R297). -/
def State.partFault (s : State) (l fa a n : Nat) (write : Bool) : Option Flt :=
  let err (cause : Nat) : Option Flt := some { kind := 3, cause := cause, addr := some fa, write := write }
  if 0x40000000 ≤ a ∧ n ≠ 4 then err 2
  else match targetOf a with
    | none => err 0
    | some (.far p) => if s.variant.nPhys ≤ p then err 1 else none
    | some .periph =>
      let r := ownAddr l a
      if s.variant.absentAt r then err 1 else if (rowAt r).isNone then err 0 else none
    | some _ => none

/-- The first fault of a list of checks. -/
def firstOf (l : List (Option Flt)) : Option Flt := (l.find? Option.isSome).join

/-- Every check of a data access of `n` bytes at `a` for a world and ring of core `l`. -/
def State.dataFault (s : State) (w : Who) (k : AccKind) (a n : Nat) (v : Word) : Option Flt :=
  let write := k == .write
  firstOf ([s.privFault w a n write v, alignFault a n write,
    if s.regionOk w.id w.guard w.ring k a n then none else some { kind := 7, cause := 1, addr := some a, write := write }] ++
    (splitAt a n).map (fun p => s.partFault w.id a p.1 p.2 write))

/-! ### The store buffer (R269-R271) -/

/-- The entry's effect is made: its write completes (R269, R335). -/
def State.sbFinish (s : State) (l : Nat) (e : SbEntry) : State :=
  if e.done then s
  else match e.tgt with
    | .mram =>
      let queued := s.mrq.any (fun op => match op with | .write who _ _ _ => who == l | _ => false)
      (if queued then s else s.mrPush (.write l e.addr e.n e.val)).mrFlush
    | .periph => s.busWrite { id := l, guard := e.guard, ring := e.ring } e.addr (w32 e.val)
    | _ => s.store e.addr e.n e.val

/-- The list without its first element that `p` holds of. -/
def eraseFirst {α : Type} (p : α → Bool) : List α → List α
  | [] => []
  | x :: l => if p x then l else x :: eraseFirst p l

/-- The oldest entry that `p` holds of completes and leaves. -/
def State.sbLeave (s : State) (l : Nat) (p : SbEntry → Bool) : State :=
  match (s.core l).sb.find? p with
  | none => s
  | some e =>
    let s := s.sbFinish l e
    s.setCore l { s.core l with sb := eraseFirst p (s.core l).sb }

/-- `n` entries that `p` holds of leave, the oldest first. -/
def State.sbDrop (s : State) (l : Nat) (p : SbEntry → Bool) : Nat → State
  | 0 => s
  | n + 1 => (s.sbLeave l p).sbDrop l p n

/-- A counter of the bus block, for both members of the Guard pair alike. -/
def State.busCount (s : State) (l : Nat) (reg : Nat → Nat) (f : F) (n : Nat) : State :=
  let p := s.variant.phys l
  let s := s.count (reg p) f n
  if l = 0 then s.count (reg (p + 1)) f n else s

/-- An instruction of core `l` has waited for the buffer: a count of CCLK, which is a free value (the model keeps no time within an
instruction), enters SBOVL, or SBFULL (`full`) (R261). -/
def State.sbStall (s : State) (l : Nat) (full : Bool) : State :=
  let r := s.free
  if full then r.2.busCount l R.SBFULL R.SBFULL_CCLK r.1.toNat else r.2.busCount l R.SBOVL R.SBOVL_CCLK r.1.toNat

/-- FENCE, XCHG and CAS wait until every entry has left, the oldest first; SBOVL counts the wait (R275, R276). -/
def State.sbDrain (s : State) (l : Nat) : State :=
  if (s.core l).sb.isEmpty then s else (s.sbDrop l (fun _ => true) (s.core l).sb.length).sbStall l false

/-- The entry holds some byte of `n` bytes at key `k` of memory. -/
def SbEntry.meets (e : SbEntry) (k n : Nat) : Bool := e.tgt != .periph && decide (e.addr < k + n ∧ k < e.addr + e.n)

/-- The entry holds all of them. -/
def SbEntry.covers (e : SbEntry) (k n : Nat) : Bool := e.tgt != .periph && decide (e.addr ≤ k ∧ k + n ≤ e.addr + e.n)

/-- How many entries for target `t` stand up to the last one that `p` holds of. -/
def sbUpTo (q : List SbEntry) (t : Target) (p : SbEntry → Bool) : Nat :=
  (q.foldl (fun (m : Nat × Nat) e =>
    if e.tgt == t then (m.1 + 1, if p e then m.1 + 1 else m.2) else m) (0, 0)).2

/-- Every entry that meets some part, and every older entry for the same target, leaves; SBOVL counts the wait (R270). -/
def State.sbClear (s : State) (l : Nat) (p : SbEntry → Bool) : State :=
  let ts := ((s.core l).sb.filter p).map SbEntry.tgt
  if ts.isEmpty then s
  else (ts.foldl (fun (s : State) t => s.sbDrop l (fun e => e.tgt == t) (sbUpTo (s.core l).sb t p)) s).sbStall l false

/-- An entry is made; a full buffer first lets its oldest entry leave, and SBFULL counts the stall (R269). -/
def State.sbPush (s : State) (l : Nat) (e : SbEntry) : State :=
  let s := if (s.core l).sb.length < 4 then s else (s.sbLeave l (fun _ => true)).sbStall l true
  s.setCore l { s.core l with sb := (s.core l).sb ++ [e] }

/-! ### Loads and stores that have passed their checks -/

/-- The value that the youngest overlapping entry forwards, when it covers the part (R270). -/
def forwarded (q : List SbEntry) (k n : Nat) : Option Nat :=
  match q.reverse.find? (fun e => e.meets k n) with
  | some e => if e.covers k n then some (e.val / 2 ^ (8 * (k - e.addr)) % 2 ^ (8 * n)) else none
  | none => none

/-- A part of the access at `fa` read from memory (R332): MRAM after the operations that its controller holds (R334, R336). -/
def State.readMem (s : State) (w : Who) (fa a n : Nat) : Out Nat :=
  match targetOf a with
  | none => .bad s { kind := 3, cause := 0, addr := some fa }
  | some t =>
    let s := if t == .mram then s.mrFlush else s
    let k := s.variant.accessKey w.id a t
    let r := s.eccRead k n
    if r.2 then .bad r.1 { kind := 3, cause := 4, addr := some fa } else .ok r.1 (r.1.peek n k)

/-- The parts of the load at `fa` read from memory, the first in the lowest bytes. -/
def State.readParts (s : State) (w : Who) (fa : Nat) : List (Nat × Nat) → Out Nat
  | [] => .ok s 0
  | (a, n) :: ps =>
    (s.readMem w fa a n).bind (fun s x => (s.readParts w fa ps).bind (fun s y => .ok s (x + 2 ^ (8 * n) * y)))

/-- The keys of parts that do not lie in the peripheral region. -/
def State.partKeys (s : State) (w : Who) (ps : List (Nat × Nat)) : List (Nat × Nat) :=
  ps.map (fun p => (s.variant.accessKey w.id p.1 ((targetOf p.1).getD .sram), p.2))

/-- A load at `fa` from memory: forwarded when some entry covers each of `whole`, each the youngest to overlap it; else it waits until
no overlapping entry is left and reads the parts `ps` (R270, R272). A split load is checked part by part, a fill group as one. -/
def State.loadParts (s : State) (w : Who) (fa : Nat) (whole ps : List (Nat × Nat)) : Out Nat :=
  let ks := s.partKeys w whole
  let q := (s.core w.id).sb
  let fs := ks.map (fun k => forwarded q k.1 k.2)
  if fs.all Option.isSome then
    .ok s ((fs.zip ks).foldr (fun (x : Option Nat × Nat × Nat) acc => x.1.getD 0 + 2 ^ (8 * x.2.2) * acc) 0)
  else (s.sbClear w.id (fun e => ks.any (fun k => e.meets k.1 k.2))).readParts w fa ps

/-- A load of `n` bytes that has passed its checks. A peripheral load waits for every older peripheral entry (R270). -/
def State.loadAt (s : State) (w : Who) (a n : Nat) : Out Nat :=
  if targetOf a == some .periph then
    let s := s.sbClear w.id (fun e => e.tgt == .periph)
    let r := s.regRead w.id (ownAddr w.id a)
    .ok r.2 r.1.toNat
  else s.loadParts w a (splitAt a n) (splitAt a n)

/-- The entries of a store of parts. -/
def State.storeParts (s : State) (w : Who) (v : Nat) : List (Nat × Nat) → State
  | [] => s
  | (a, n) :: ps =>
    let t := (targetOf a).getD .sram
    let e : SbEntry := { addr := s.variant.accessKey w.id a t, n := n, val := v % 2 ^ (8 * n), tgt := t, guard := w.guard
                         ring := w.ring, done := false }
    (s.sbPush w.id e).storeParts w (v / 2 ^ (8 * n)) ps

/-- A load with its checks: `n` bytes at `a` (R238, R240). -/
def State.load (s : State) (w : Who) (a n : Nat) : Out Nat :=
  (s.guardBy (s.dataFault w .read a n 0)).bind (fun s _ => s.loadAt w a n)

/-- A store with its checks: the low `n` bytes of `v` at `a`. -/
def State.storeOp (s : State) (w : Who) (a n : Nat) (v : Word) : Out Unit :=
  (s.guardBy (s.dataFault w .write a n v)).bind (fun s _ => .ok (s.storeParts w (v.toNat % 2 ^ (8 * n)) (splitAt a n)) ())

/-- The place of an atomic access (R230): TCM data or shared SRAM, else a bus error: ABSENT where R3 or R214 says so (R240), else
ATOMIC. -/
def State.atomicPlace (s : State) (w : Who) (a : Nat) : Option Flt :=
  let absent := (s.partFault w.id a a 4 true).any (fun f => f.kind == 3 && f.cause == 1)
  if (0x100000 ≤ a ∧ a < 0x110000) ∨ inSram a = true then none
  else some { kind := 3, cause := if absent then 1 else 3, addr := some a, write := true }

/-- The alignment of an atomic access: cause PERIPH in the peripheral region (R240), else ATOMIC (R230). -/
def atomicAlign (a : Nat) : Option Flt :=
  if a % 4 = 0 then none else some { kind := 2, cause := if 0x40000000 ≤ a then 3 else 1, addr := some a, write := true }

/-- XCHG and CAS at an address (R230, R276): the value read; `new` gives what is written for it. -/
def State.atomic (s : State) (w : Who) (a : Nat) (new : Nat → Option Word) : Out Nat :=
  let region (k : AccKind) : Option Flt :=
    if s.regionOk w.id w.guard w.ring k a 4 then none else some { kind := 7, cause := 1, addr := some a, write := k == .write }
  (s.guardBy (firstOf [s.privFault w a 4 true 0, atomicAlign a, region .read, region .write, s.atomicPlace w a])).bind (fun s _ =>
    ((s.sbDrain w.id).readMem w a a 4).bind (fun s old =>
      match new old with
      | some v => .ok (s.store (s.variant.accessKey w.id a ((targetOf a).getD .sram)) 4 v.toNat) old
      | none => .ok s old))

/-! ### The contexts active on a core (R314, R317) -/

/-- The save sets of levels that are active on core `l`, the innermost first. -/
def State.levelSets (s : State) (l : Nat) : List Nat := ([6, 5, 4, 3, 2, 1, 0]).filter (fun n => s.saveAct l n)

/-- The active contexts, the innermost first: the saved DSP and RSP, and whether the entry switched stacks. -/
def State.contexts (s : State) (l : Nat) : List (Word × Word × Bool) :=
  let ofSet (n : Nat) : Word × Word × Bool :=
    (s.rd (saveAddr l n 2), s.rd (saveAddr l n 3), ssSW.get (s.sstat l n) == 1)
  (if s.dfAct l then [(s.rd (R.DFSAVE l 2), s.rd (R.DFSAVE l 3), true)] else []) ++
    (if s.nmiAct l then [ofSet nmiSet] else []) ++ (s.levelSets l).map ofSet

/-- The context that owns the home `h` of a stack: counted from the outermost, 0 the code beneath every delivery. -/
def ownerOfHome (r : Bool) (h : Word) : List (Word × Word × Bool) → Nat
  | [] => 0
  | c :: cs => if c.2.2 || decide (h.toNat < (if r then c.2.1 else c.1).toNat) then cs.length + 1 else ownerOfHome r h cs

/-! ### The stacks (R197-R203) -/

def Core.sp (c : Core) (r : Bool) : Word := if r then c.rsp else c.dsp
def Core.base (c : Core) (r : Bool) : Word := if r then c.rsbase else c.dsbase
def Core.lim (c : Core) (r : Bool) : Word := if r then c.rslim else c.dslim
def Core.chip (c : Core) (r : Bool) : List Entry := if r then c.rets else c.ops
def Core.setSp (c : Core) (r : Bool) (v : Word) : Core := if r then { c with rsp := v } else { c with dsp := v }
def Core.setChip (c : Core) (r : Bool) (q : List Entry) : Core := if r then { c with rets := q } else { c with ops := q }
def Core.bellStack (c : Core) (r : Bool) : List Word := if r then c.bellRets else c.bellOps
def Core.setBell (c : Core) (r : Bool) (q : List Word) : Core := if r then { c with bellRets := q } else { c with bellOps := q }

/-- The depth of a Bell stack (R323). -/
def bellDepth (r : Bool) : Nat := if r then 4 else 8

/-- The range [lim, base) lies wholly in TCM data or in shared SRAM (R202). -/
def stackArea (lim base : Word) : Bool :=
  decide (lim.toNat ≤ base.toNat ∧ ((0x100000 ≤ lim.toNat ∧ base.toNat ≤ 0x110000) ∨
    (0x20000000 ≤ lim.toNat ∧ base.toNat ≤ 0x20200000)))

/-- A stack is aligned and has its range where R202 asks: the fault that R202 gives otherwise. WSR keeps it so; the stacks that an entry
or a return loads may not be, and then their first use faults (GHDSBASE). -/
def areaFault (base lim sp : Word) (r : Bool) : Option Flt :=
  match [sp, base, lim].find? (fun v => v.toNat % 4 != 0) with
  | some v => some (.stkPtr v.toNat)
  | none => if stackArea lim base then none else some (.stack 2 r)

/-- Checks 1 and 2 of R199 for `p` pops and `q` pushes, or the limits of a Bell stack. -/
def State.stackFault (s : State) (l : Nat) (r : Bool) (p q : Nat) : Option Flt :=
  let c := s.core l
  if s.inLesson l then
    let n := (c.bellStack r).length
    if n < p then some (.stack 1 r) else if bellDepth r < n - p + q then some (.stack 0 r) else none
  else if p + q ≠ 0 ∧ areaFault (c.base r) (c.lim r) (c.sp r) r ≠ none then areaFault (c.base r) (c.lim r) (c.sp r) r
  else if (c.base r).toNat < (c.sp r).toNat + 4 * p then some (.stack 1 r)
  else if (c.sp r).toNat + 4 * p < (c.lim r).toNat + 4 * q then some (.stack 0 r)
  else none

/-- The home of the entry at depth `i`. -/
def homeAt (sp : Word) (i : Nat) : Word := sp + BitVec.ofNat 32 (4 * i)

def onChip (q : List Entry) (h : Word) : Bool := q.any (fun e => e.home == h)

/-- Runs of homes, each 4 above the one before it. -/
def runs : List Nat → List (List Nat)
  | [] => []
  | h :: t =>
    match runs t with
    | (g :: gs) :: rest => if g = h + 4 then (h :: g :: gs) :: rest else [h] :: (g :: gs) :: rest
    | _ => [[h]]

/-- The parts of a group of words at a run of homes: one for the core's own TCM, else cut at 16-byte blocks (R265). -/
def groupParts (h n : Nat) : List (Nat × Nat) := if targetOf h == some .tcm then [(h, n)] else cut16 h 4 n

/-- The faults of a fill or spill group: the region unit, then the bus (R199, R289). -/
def State.groupFault (s : State) (w : Who) (k : AccKind) (h n : Nat) : Option Flt :=
  let write := k == .write
  firstOf ([s.privFault w h n write 0, alignFault h 4 write,
    if s.regionOk w.id w.guard w.ring k h n then none else some { kind := 7, cause := 1, addr := some h, write := write }] ++
    (groupParts h n).map (fun p =>
      s.partFault w.id h p.1 (if 0x40000000 ≤ p.1 ∧ p.2 ≠ 4 then 1 else 4) write))

/-- Entries put in their places by home among those of the running context, which stand first. -/
def chipInsert (q : List Entry) (sp : Word) (es : List Entry) : List Entry :=
  es.foldl (fun (q : List Entry) e =>
    let h := q.takeWhile (fun x => decide (sp.toNat ≤ x.home.toNat ∧ x.home.toNat < e.home.toNat))
    h ++ e :: q.drop h.length) q

/-- The words of a run read onto the chip. -/
def State.fillRun (s : State) (w : Who) (r : Bool) (hs : List Nat) : Out Unit :=
  let h := hs.headD 0
  let n := 4 * hs.length
  (s.guardBy (s.groupFault w .read h n)).bind (fun s _ =>
    (s.loadParts w h [(h, n)] (groupParts h n)).bind (fun s v =>
      let c := s.core w.id
      let cx := s.contexts w.id
      let es := (upFrom 0 hs.length).map (fun i =>
        let home : Word := w32 (h + 4 * i)
        ({ home := home, val := w32 (v / 2 ^ (32 * i)), own := ownerOfHome r home cx } : Entry))
      .ok (s.setCore w.id (c.setChip r (chipInsert (c.chip r) (c.sp r) es))) ()))

def State.fillRuns (s : State) (w : Who) (r : Bool) : List (List Nat) → Out Unit
  | [] => .ok s ()
  | g :: gs => (s.fillRun w r g).bind (fun s _ => s.fillRuns w r gs)

/-- Step 3 of R199: groups of up to four of the shallowest entries in memory, until the top `p` are on chip. -/
def State.fill (s : State) (w : Who) (r : Bool) (p : Nat) : Nat → Out Unit
  | 0 => .ok s ()
  | fuel + 1 =>
    let c := s.core w.id
    let sp := c.sp r
    let depth := ((c.base r).toNat - sp.toNat) / 4
    if (upFrom 0 p).all (fun i => onChip (c.chip r) (homeAt sp i)) then .ok s ()
    else
      let missing := ((upFrom 0 (min depth 20)).filter (fun i => !onChip (c.chip r) (homeAt sp i))).take 4
      (s.fillRuns w r (runs (missing.map (fun i => (homeAt sp i).toNat)))).bind (fun s _ => s.fill w r p fuel)

/-- The run of on-chip entries at these homes is written to them and leaves the chip. -/
def State.spillRun (s : State) (w : Who) (r : Bool) (es : List Entry) : Out Unit :=
  let h := (es.map (fun e => e.home.toNat)).headD 0
  let n := 4 * es.length
  let v := es.foldr (fun e x => e.val.toNat + 2 ^ 32 * x) 0
  (s.guardBy (s.groupFault w .write h n)).bind (fun s _ =>
    let s := s.storeParts w v (groupParts h n)
    let c := s.core w.id
    .ok (s.setCore w.id (c.setChip r ((c.chip r).take ((c.chip r).length - es.length)))) ())

/-- The entries cut into runs of rising homes. -/
def entryRuns : List Entry → List (List Entry)
  | [] => []
  | e :: t =>
    match entryRuns t with
    | (g :: gs) :: rest =>
      if g.home.toNat = e.home.toNat + 4 then (e :: g :: gs) :: rest else [e] :: (g :: gs) :: rest
    | _ => [[e]]

/-- Runs leave in the order given, the deepest first. -/
def State.spillRuns (s : State) (w : Who) (r : Bool) : List (List Entry) → Out Unit
  | [] => .ok s ()
  | g :: gs => (s.spillRun w r g).bind (fun s _ => s.spillRuns w r gs)

/-- The `k` deepest on-chip entries are spilled. -/
def State.spillDeep (s : State) (w : Who) (r : Bool) (k : Nat) : Out Unit :=
  let q := (s.core w.id).chip r
  s.spillRuns w r (entryRuns (q.drop (q.length - k))).reverse

/-- Step 4 of R199. -/
def State.spill (s : State) (w : Who) (r : Bool) (p q : Nat) : Nat → Out Unit
  | 0 => .ok s ()
  | fuel + 1 =>
    if ((s.core w.id).chip r).length + q ≤ 16 + p then .ok s ()
    else (s.spillDeep w r 4).bind (fun s _ => s.spill w r p q fuel)

/-- All but the `keep` shallowest entries are spilled, in groups of up to four (R202). -/
def State.spillAll (s : State) (w : Who) (r : Bool) (keep : Nat) : Nat → Out Unit
  | 0 => .ok s ()
  | fuel + 1 =>
    let n := ((s.core w.id).chip r).length
    if n ≤ keep then .ok s () else (s.spillDeep w r (min 4 (n - keep))).bind (fun s _ => s.spillAll w r keep fuel)

/-- The top `p` entries of a stack, the top first, once they are on chip. -/
def State.tops (s : State) (l : Nat) (r : Bool) (p : Nat) : List Word :=
  let c := s.core l
  if s.inLesson l then (c.bellStack r).take p
  else (upFrom 0 p).map (fun i => ((c.chip r).find? (fun e => e.home == homeAt (c.sp r) i)).elim 0 Entry.val)

/-- Steps 3 and 4 of R199 for `p` pops and `q` pushes: the fills, the operands (top first), the spills. -/
def State.moves (s : State) (w : Who) (r : Bool) (p q : Nat) : Out (List Word) :=
  if s.inLesson w.id then .ok s (s.tops w.id r p)
  else
    (s.fill w r p 8).bind (fun s _ =>
      let v := s.tops w.id r p
      (s.spill w r p q 8).bind (fun s _ => .ok s v))

/-- R199 for `p` pops and `q` pushes: the checks, then the moves. -/
def State.prepare (s : State) (w : Who) (r : Bool) (p q : Nat) : Out (List Word) :=
  (s.guardBy (s.stackFault w.id r p q)).bind (fun s _ => s.moves w r p q)

/-- R199 for an instruction on both stacks, as (pops, pushes) of each: the limit checks of both come before any move (R219); the
operands of each. -/
def State.prepareBoth (s : State) (w : Who) (o r : Nat × Nat) : Out (List Word × List Word) :=
  (s.guardBy (firstOf [s.stackFault w.id false o.1 o.2, s.stackFault w.id true r.1 r.2])).bind (fun s _ =>
    (s.moves w false o.1 o.2).bind (fun s v => (s.moves w true r.1 r.2).bind (fun s u => .ok s (v, u))))

/-- `p` entries are popped. -/
def State.popN (s : State) (l : Nat) (r : Bool) (p : Nat) : State :=
  let c := s.core l
  if s.inLesson l then s.setCore l (c.setBell r ((c.bellStack r).drop p))
  else
    let hs := (upFrom 0 p).map (homeAt (c.sp r))
    let q := hs.foldl (fun (q : List Entry) h => eraseFirst (fun e => e.home == h) q) (c.chip r)
    s.setCore l ((c.setChip r q).setSp r (homeAt (c.sp r) p))

/-- A word is pushed. -/
def State.push (s : State) (l : Nat) (r : Bool) (v : Word) : State :=
  let c := s.core l
  if s.inLesson l then s.setCore l (c.setBell r (v :: c.bellStack r))
  else
    let h := c.sp r - 4
    s.setCore l ((c.setChip r ({ home := h, val := v, own := (s.contexts l).length } :: c.chip r)).setSp r h)

/-- Words are pushed in order, the last ending on top. -/
def State.pushAll (s : State) (l : Nat) (r : Bool) (vs : List Word) : State :=
  vs.foldl (fun (s : State) v => s.push l r v) s

/-- The requester that core `l` is now: its world and ring. -/
def State.who (s : State) (l : Nat) : Who := { id := l, guard := (s.core l).guard, ring := (s.core l).ring }

end Sys2Proof.Machine
end

