-- ==== Sys2Proof/Machine/Exceptions.lean ====
section
/-! DEFINITION. Taking an exception and returning from one: save sets (R314), the start and the end of a lesson (R322-R325),
synchronous faults (R294-R297), exhaustion, double and third faults (R298-R300), RETF (R296), and the gates GATE, GRET and RETW
(R281-R288). -/

namespace Sys2Proof.Machine

/-! ### Save sets (R314) -/

/-- ACCG as RSR returns it. -/
def Core.accg (c : Core) : Word := wordOf (sx 8 (c.acc.toNat / 2 ^ 64))

/-- Words 0 to 14 of a save set for the context that resumes at `pc`. -/
def Core.saveWords (c : Core) (pc : Word) : List Word :=
  [pc, c.stw, c.dsp, c.rsp, w32 c.acc.toNat, w32 (c.acc.toNat / 2 ^ 32), c.accg, c.x.a, c.x.b, c.x.cfg, c.x.step, c.y.a, c.y.b,
   c.y.cfg, c.y.step]

/-- The words of `vs` stored at successive registers from `a`. -/
def State.wrAll (s : State) (a : Nat) : List Word → State
  | [] => s
  | v :: vs => (s.wr a v).wrAll (a + 4) vs

/-- The 15 words from register `a`. -/
def State.rdSave (s : State) (a : Nat) : List Word := (upFrom 0 15).map (fun j => s.rd (a + 4 * j))

def wAt (l : List Word) (i : Nat) : Word := l.getD i 0

/-- ACC from its three parts. -/
def accOf (lo hi g : Word) : BitVec 72 := BitVec.ofNat 72 (lo.toNat + 2 ^ 32 * hi.toNat + 2 ^ 64 * g.toNat)

/-- The bits of XCFG that a table defines. -/
def xcfgMask : Word := 0x1FFFFFF

/-- Words 0 to 14 of a save set are restored; PC is even and reserved bits read 0 (R195, R11). -/
def Core.restored (c : Core) (l : List Word) : Core :=
  { c with
    pc := wAt l 0 &&& 0xFFFFFFFE, stw := wAt l 1 &&& stwMask, dsp := wAt l 2, rsp := wAt l 3
    acc := accOf (wAt l 4) (wAt l 5) (wAt l 6)
    x := { a := wAt l 7, b := wAt l 8, cfg := wAt l 9 &&& xcfgMask, step := wAt l 10 }
    y := { a := wAt l 11, b := wAt l 12, cfg := wAt l 13 &&& xcfgMask, step := wAt l 14 } }

/-- SSTAT of a context not yet returned to. -/
def sstatOf (src slot level : Nat) (guard sw : Bool) (kind : Nat) : Word :=
  w32 (src % 256 + 256 * (slot % 32) + 8192 * level + 65536 * guard.toNat + 131072 * sw.toNat + 262144 * kind + 2 ^ 20)

/-- Save set `n` of core `l` is written for the context at `pc`. -/
def State.saveEnter (s : State) (l n : Nat) (pc : Word) (sstat : Word) : State :=
  s.wrAll (saveAddr l n 0) ((s.core l).saveWords pc ++ [sstat])

/-- ACT of save set `n` is cleared. -/
def State.saveClear (s : State) (l n : Nat) : State := s.setFld (saveAddr l n 15) ssACT 0

/-! ### Lessons (R322-R325) -/

/-- STW at the start of a lesson: its world, ring 0, SAT and RND of BELLCFG, SV and AV clear, IML kept. -/
def lessonStw (stw : Word) (guard : Bool) (cfg : Word) : Word :=
  stwRND.put (stwSAT.put ((stw &&& 0x70) ||| w32 guard.toNat) (R.BELLCFG_SAT.get cfg)) (R.BELLCFG_RND.get cfg)

/-- Steps 2 to 5 of R322. -/
def State.lessonBegin (s : State) (l : Nat) (r : BellReq) : State :=
  let c := s.core l
  let base := s.rd (if r.guard then R.LBASEG l else R.LBASES l)
  let c := { c with
    acc := 0, x := .zero, y := .zero, stw := lessonStw c.stw r.guard (s.rd (R.BELLCFG l))
    bellOps := [w32 r.tagw, w32 r.word, wordOf (sx 16 (r.word / 2 ^ 32)), w32 r.time], bellRets := []
    lesson := (r.tagw / 256 % 32, r.tagw % 256), pc := base + w32 (32 * r.entry), waiting := false }
  (s.setCore l c).count (R.BELLCNT l) R.BELLCNT_STARTED 1

/-- The request at the head of the Bell queue leaves it and its lesson starts; `chain`: the save set stays as it is (R325). -/
def State.lessonStart (s : State) (l : Nat) (chain : Bool) : State :=
  match s.bell l with
  | [] => s
  | r :: rest =>
    let s := { s with bells := s.bells.put l rest }
    let sstat := sstatOf (r.tagw % 256) (r.tagw / 256 % 32) 0 r.guard false 1
    (if chain then s else s.saveEnter l bellSet (s.core l).pc sstat).lessonBegin l r

/-- Some NMIPEND bit of core `l` is 1 (R302). -/
def State.nmiPending (s : State) (l : Nat) : Bool := (s.rd (R.NMIPEND l)).toNat % 16 != 0

/-- The end of a lesson (R325): the next request's lesson, or the interrupted context. A pending NMI is taken before a chained
lesson starts. -/
def State.lessonEnd (s : State) (l : Nat) : State :=
  let s := s.setCore l { s.core l with bellOps := [], bellRets := [] }
  if (s.bell l).isEmpty || s.nmiPending l then
    (s.setCore l ((s.core l).restored (s.rdSave (saveAddr l bellSet 0)))).saveClear l bellSet
  else s.lessonStart l true

/-- A lesson is aborted (R324): WHY 1 FAULT or 2 TIME, with its slot and TAG. -/
def State.lessonAbort (s : State) (l why : Nat) : State :=
  let x := (s.core l).lesson
  let a := R.BELLSTAT l
  let s := ((s.setFld a R.BELLSTAT_WHY why).setFld a R.BELLSTAT_SLOT x.1).setFld a R.BELLSTAT_TAG x.2
  ((s.count (R.BELLCNT l) R.BELLCNT_ABORT 1).arrive (0xA8 + l)).lessonEnd l

/-! ### Faults (R294-R300) -/

/-- FSTAT, FADDR and FCNT of the world of the fault (R294, R297). -/
def State.recordFault (s : State) (l : Nat) (f : Flt) (a : Word) : State :=
  let c := s.core l
  let v := w32 (f.kind + 16 * f.cause + 256 * c.guard.toNat + 512 * c.ring + 2048 * f.write.toNat + 4096 * f.rstk.toNat)
  let addr := w32 (f.addr.getD a.toNat)
  if c.guard then ((s.wr (R.FSTATG l) v).wr (R.FADDRG l) addr).count (R.FCNT l) R.FCNT_GUARD 1
  else ((s.wr (R.FSTATS l) v).wr (R.FADDRS l) addr).count (R.FCNT l) R.FCNT_SHOP 1

/-- Base, limit and pointer of a stack meet R202: the fault that R202 gives otherwise. -/
def boundFault (base lim sp : Word) (r : Bool) : Option Flt :=
  firstOf [areaFault base lim sp r,
    if sp.toNat < lim.toNat then some (.stack 0 r) else if base.toNat < sp.toNat then some (.stack 1 r) else none]

/-- Both stacks are replaced: bounds and pointers, and what stays on chip of each. -/
def Core.setStacks (c : Core) (dsbase dslim rsbase rslim dsp rsp : Word) : Core :=
  { c with dsbase := dsbase, dslim := dslim, rsbase := rsbase, rslim := rslim, dsp := dsp, rsp := rsp }

/-- GDSBASE, GDSLIM, GRSBASE and GRSLIM. -/
def State.gStacks (s : State) (l : Nat) : Word × Word × Word × Word :=
  (s.rd (R.GDSBASE l), s.rd (R.GDSLIM l), s.rd (R.GRSBASE l), s.rd (R.GRSLIM l))

/-- The fault that the GDS and GRS stacks raise at an entry that pushes `n` words (R298, R299). -/
def State.gStackFault (s : State) (l n : Nat) : Option Flt :=
  let g := s.gStacks l
  firstOf [boundFault g.1 g.2.1 g.1 false, boundFault g.2.2.1 g.2.2.2 g.2.2.1 true,
    if g.2.2.1.toNat < g.2.2.2.toNat + 4 * n then some (.stack 0 true) else none]

/-- The core stands on the GDS and GRS stacks, both empty. -/
def State.onGStacks (s : State) (l : Nat) : State :=
  let g := s.gStacks l
  s.setCore l ((s.core l).setStacks g.1 g.2.1 g.2.2.1 g.2.2.2 g.1 g.2.2.1)

/-- STW becomes Guard ring 0 with IML 7, and control passes to a vector. -/
def State.guardEnter (s : State) (l : Nat) (vec : Word) : State :=
  let c := (s.core l).setWorld true 0
  s.setCore l { c with stw := stwIML.put c.stw 7, pc := vec &&& 0xFFFFFFFE, waiting := false }

/-- A third fault (R300, R504). -/
def State.thirdFault (s : State) (l kind : Nat) : State :=
  let s := s.coreReset l
  let s := s.setCore l { s.core l with third := true }
  let s := s.coreHold l
  let p := s.variant.phys l
  let bits := if l = 0 then 2 ^ p + 2 ^ (p + 1) else 2 ^ p
  let s := s.setFld R.CORERST R.CORERST_PHYS (s.fld R.CORERST R.CORERST_PHYS ||| bits)
  let s := (s.setFld (R.DFSTAT l) R.DFSTAT_THIRD 1).setFld (R.DFSTAT l) R.DFSTAT_KIND3 kind
  (s.setFld (R.DFSAVE l 15) ssACT 0).thirdPolicy l

/-- The context of a first fault, kept until its handler's first instruction retires (R295, R299). -/
def Core.firstFault (c : Core) (kind : Nat) (a : Word) : FirstFault :=
  { kind := kind, pc := a, stw := c.stw, dsp := c.dsp, rsp := c.rsp, bnd := [c.dsbase, c.dslim, c.rsbase, c.rslim] }

/-- Double-fault entry (R299): the context of the first fault goes to the double-fault save set and DFBND. -/
def State.doubleFault (s : State) (l kind2 : Nat) : State :=
  let c := s.core l
  let ff := c.fault.getD (c.firstFault kind2 c.pc)
  let s := ((s.setFld (R.DFSTAT l) R.DFSTAT_KIND1 ff.kind).setFld (R.DFSTAT l) R.DFSTAT_KIND2 kind2).setFld (R.DFSTAT l)
    R.DFSTAT_ACTIVE 1
  let s := s.count (R.FCNT l) R.FCNT_GUARD 1
  let saved := { c with stw := ff.stw, dsp := ff.dsp, rsp := ff.rsp }
  let s := s.wrAll (R.DFSAVE l 0) (saved.saveWords ff.pc ++ [sstatOf 0 0 0 true false 3])
  let s := s.wrAll (R.DFBND l 0) ff.bnd
  match s.gStackFault l 0 with
  | some f => s.thirdFault l f.kind
  | none => (s.onGStacks l).guardEnter l (s.rd (R.DFVEC l))

/-- What an operation on the stacks leaves, whether it faulted or not. -/
def Out.state {α : Type} : Out α → State
  | .ok s _ => s
  | .bad s _ => s

/-- Every on-chip entry of both stacks is spilled as far as the region unit permits; the chip is then empty. -/
def State.spillLoose (s : State) (w : Who) : State :=
  let s := (s.spillAll w false 0 8).state
  let s := (s.spillAll w true 0 8).state
  s.setCore w.id { s.core w.id with ops := [], rets := [] }

/-- FRMW of a frame (R285). -/
def frmw (ring : Nat) (guard stk : Bool) (nres : Nat) (xw : Bool) (i kind : Nat) : Word :=
  w32 (ring + 4 * guard.toNat + 8 * stk.toNat + 16 * nres + 128 * xw.toNat + 256 * i + 16384 * kind + 0xA75E * 65536)

/-- The six stack words that a frame holds, in the order pushed (R285). -/
def Core.stackWords (c : Core) : List Word := [c.dsbase, c.dslim, c.rsbase, c.rslim, c.dsp, c.rsp]

/-- The Shop exhaustion entry (R298) of the fault at `a` whose push failed: cause 0 LIMIT, 1 SPILL. The Shop entries on chip
go to their homes, since the frame's return leaves OC = 0. -/
def State.exhaust (s : State) (l cause : Nat) (a : Word) : State :=
  let c := s.core l
  let v := w32 (9 + 16 * cause + 512 * c.ring)
  let s := ((s.wr (R.FSTATG l) v).wr (R.FADDRG l) a).count (R.FCNT l) R.FCNT_GUARD 1
  let s := s.setCore l { s.core l with fault := (s.core l).fault.map (fun f => { f with kind := 9 }) }
  match s.gStackFault l 9 with
  | some f => s.doubleFault l f.kind
  | none =>
    let s := (s.spillLoose { id := l, guard := false, ring := 0 }).onGStacks l
    let s := s.pushAll l true (c.stackWords ++ [frmw 0 true true 0 false 0 1, c.stw, a])
    s.guardEnter l (s.rd (R.EXVEC l))

/-- A synchronous fault of the instruction at `a` (R294): FSTAT and FADDR, then STW and A pushed at ring 0, then the vector. A
lesson is aborted instead (R324); a Guard fault before the handler's first instruction has retired is a double fault, and one
while DFSTAT.ACTIVE is 1 a third fault (R299, R300). -/
def State.faultEntry (s : State) (l : Nat) (f : Flt) (a : Word) : State :=
  let c := s.core l
  let s := s.setCore l { c with pc := a, waiting := false }
  if s.inLesson l then ((s.recordFault l f a).lessonAbort l 1)
  else if c.guard && s.dfAct l then s.thirdFault l f.kind
  else if c.guard && c.fault.isSome then s.doubleFault l f.kind
  else
    let s := s.setCore l { s.core l with fault := some (c.firstFault f.kind a) }
    let s := s.recordFault l f a
    match s.prepare { id := l, guard := c.guard, ring := 0 } true 0 2 with
    | .ok s _ =>
      let s := s.pushAll l true [c.stw, a]
      let vec := s.rd (if c.guard then R.FVECG l else R.FVECS l)
      s.setCore l { (s.core l).setWorld c.guard 0 with pc := vec &&& 0xFFFFFFFE }
    | .bad s g => if c.guard then s.doubleFault l g.kind else s.exhaust l (if g.kind = 5 then 0 else 1) a

/-! ### Returns -/

/-- RETF at `a` (R296). -/
def State.retf (s : State) (l : Nat) : Out Unit :=
  let w := s.who l
  if s.inLesson l || w.ring != 0 then .bad s (.priv 0)
  else
    (s.prepare w true 2 0).bind (fun s v =>
      let stw := wAt v 1
      if (stwWORLD.get stw == 1) != w.guard then .bad s (.priv 5)
      else
        let s := s.popN l true 2
        .ok (s.setCore l { s.core l with pc := wAt v 0 &&& 0xFFFFFFFE, stw := stw &&& stwMask }) ())

/-- The on-chip entries of the innermost of `n` contexts are discarded (R317). -/
def Core.discard (c : Core) (n : Nat) : Core :=
  { c with ops := c.ops.filter (fun e => decide (e.own < n)), rets := c.rets.filter (fun e => decide (e.own < n)) }

/-- RETI through a save set at `a`, with the bounds `b` that are in force after it (checks 2 to 4 and the return of R317). -/
def State.retiFrom (s : State) (l a : Nat) (b : List Word) : Out Unit :=
  let v := s.rdSave a
  let shop := ssWORLD.get (s.rd (a + 60)) == 0
  let inside (sp lim base : Word) : Bool := decide (lim.toNat ≤ sp.toNat ∧ sp.toNat ≤ base.toNat)
  if (wAt v 0).getLsbD 0 then .bad s (.fetchOdd (wAt v 0).toNat)
  else if shop && stwWORLD.get (wAt v 1) == 1 then .bad s (.priv 5)
  else if !inside (wAt v 2) (wAt b 1) (wAt b 0) then .bad s (.stack 2 false)
  else if !inside (wAt v 3) (wAt b 3) (wAt b 2) then .bad s (.stack 2 true)
  else
    let c := ((s.core l).discard (s.contexts l).length).restored v
    .ok (s.setCore l { c with dsbase := wAt b 0, dslim := wAt b 1, rsbase := wAt b 2, rslim := wAt b 3 }) ()

/-- RETI (R317). -/
def State.reti (s : State) (l : Nat) : Out Unit :=
  let c := s.core l
  let cur := [c.dsbase, c.dslim, c.rsbase, c.rslim]
  let xbnd := [s.rd (R.XDSBASE l), s.rd (R.XDSLIM l), s.rd (R.XRSBASE l), s.rd (R.XRSLIM l)]
  let set (n : Nat) (done : State → State) : Out Unit :=
    if (ssWORLD.get (s.sstat l n) == 1) != c.guard then .bad s (.priv 0)
    else
      let sw := ssSW.get (s.sstat l n) == 1
      (s.retiFrom l (saveAddr l n 0) (if sw then xbnd else cur)).bind (fun s _ => .ok (done (s.saveClear l n)) ())
  if c.ring != 0 || s.inLesson l then .bad s (.priv 0)
  else if s.dfAct l then
    if (ssWORLD.get (s.rd (R.DFSAVE l 15)) == 1) != c.guard then .bad s (.priv 0)
    else
      (s.retiFrom l (R.DFSAVE l 0) ((upFrom 0 4).map (fun i => s.rd (R.DFBND l i)))).bind (fun s _ =>
        .ok ((s.setFld (R.DFSAVE l 15) ssACT 0).setFld (R.DFSTAT l) R.DFSTAT_ACTIVE 0) ())
  else if s.nmiAct l then set nmiSet (fun s => s.setFld (R.NMIPEND l) R.NMIPEND_NMIACT 0)
  else if s.cp l = 0 then .bad s (.priv 0)
  else set (s.cp l - 1) id

/-! ### Gates (R281-R286) -/

/-- A gate entry (R281). -/
structure GateEntry where
  valid   : Bool
  pc      : Word
  tring   : Nat
  xw      : Bool
  stk     : Bool
  maxcall : Nat
  narg    : Nat
  nres    : Nat
  imlset  : Bool
  iml     : Nat
  bounds  : List Word
  clean   : Bool
deriving DecidableEq, Repr

/-- The eight words of an entry. -/
def GateEntry.of (w : List Word) : GateEntry :=
  let w0 := wAt w 0
  let n := (wAt w 1).toNat
  { valid := w0.getLsbD 0, pc := w0 &&& 0xFFFFFFFE, tring := n % 4, xw := n.testBit 2, stk := n.testBit 3, maxcall := n / 16 % 4
    narg := n / 64 % 8, nres := n / 512 % 8, imlset := n.testBit 12, iml := n / 8192 % 8, bounds := (w.drop 2).take 4
    clean := decide (n < 65536) && wAt w 6 == 0 && wAt w 7 == 0 }

/-- `n` words read from `a` by loads. -/
def State.loadWords (s : State) (w : Who) (a : Nat) : Nat → Out (List Word)
  | 0 => .ok s []
  | n + 1 => (s.load w (a % 2 ^ 32) 4).bind (fun s v => (s.loadWords w (a + 4) n).bind (fun s vs => .ok s (w32 v :: vs)))

/-- The Guard table is used: from the Guard world, or through XGMASK (R282). -/
def State.guardTable (s : State) (l i : Nat) : Bool :=
  (s.core l).guard || (if i < 32 then s.rd (R.XGMASKL l) else s.rd (R.XGMASKH l)).getLsbD (i % 32)

/-- A gate entry's stacks meet R202 and have room for NARG entries and a frame of 9 words (check 8 of R283). -/
def GateEntry.stacksOk (g : GateEntry) : Bool :=
  let b := wAt g.bounds
  (boundFault (b 0) (b 1) (b 0) false).isNone && (boundFault (b 2) (b 3) (b 2) true).isNone &&
    decide ((b 1).toNat + 4 * g.narg ≤ (b 0).toNat ∧ (b 3).toNat + 36 ≤ (b 2).toNat)

/-- Checks 4 to 8 of R283: the cause of the gate violation. `gt`: the entry is the Guard table's. -/
def GateEntry.cause (g : GateEntry) (c : Core) (gt : Bool) : Option Nat :=
  let cross := gt && !c.guard
  if !g.valid || !g.clean then some 2
  else if g.maxcall < c.ring then some 3
  else if !cross && c.ring < g.tring then some 4
  else if (cross && (!g.xw || 1 < g.tring)) || (!gt && g.xw) then some 5
  else if (g.xw && !g.stk) || (g.stk && !g.stacksOk) then some 6
  else none

/-- The STW with which the callee runs (R284 step 5). -/
def GateEntry.stw (g : GateEntry) (c : Core) : Word :=
  let d := c.setWorld (g.xw || c.guard) g.tring
  if g.imlset then stwIML.put d.stw g.iml else d.stw

/-- An accepted GATE at `a` through entry `i` (R284). -/
def State.gateEnter (s : State) (w : Who) (i : Nat) (a : Word) (g : GateEntry) : Out Unit :=
  let l := w.id
  let stw := g.stw (s.core l)
  let f := frmw g.tring (g.xw || (s.core l).guard) g.stk g.nres g.xw i 0
  let old := (s.core l).stw
  let go (s : State) : Out Unit := .ok (s.setCore l { s.core l with stw := stw, pc := g.pc }) ()
  if g.stk then
    (s.prepare w false g.narg 0).bind (fun s args =>
      (s.spillAll w false g.narg 8).bind (fun s _ =>
        (s.spillAll w true 0 8).bind (fun s _ =>
          let s := s.popN l false g.narg
          let frame := (s.core l).stackWords ++ [f, old, a + 2]
          let b := wAt g.bounds
          let s := s.setCore l ((s.core l).setStacks (b 0) (b 1) (b 2) (b 3) (b 0) (b 2))
          go ((s.pushAll l true frame).pushAll l false args.reverse))))
  else (s.prepare w true 0 3).bind (fun s _ => go (s.pushAll l true [f, old, a + 2]))

/-- GATE i at `a` (R282, R283). The table is read in its own world at ring 0. -/
def State.gate (s : State) (l i : Nat) (a : Word) : Out Unit :=
  let w := s.who l
  let gt := s.guardTable l i
  let count := s.fld (R.GTCNT l) (if gt then R.GTCNT_COUNTG else R.GTCNT_COUNTS)
  let base := s.rd (if gt then R.GTABG l else R.GTABS l)
  if s.inLesson l then .bad s (.priv 0)
  else if min 64 count ≤ i then .bad s (.gate 0 i)
  else
    match s.loadWords { id := l, guard := gt, ring := 0 } (base.toNat + 32 * i) 8 with
    | .bad s _ => .bad s (.gate 1 i)
    | .ok s ws =>
      let g := GateEntry.of ws
      match g.cause (s.core l) gt with
      | some c => .bad s (.gate c i)
      | none => s.gateEnter w i a g

/-- FRMW matches the running code, and the frame's STW is one to which it may return (check 3 of R286). -/
def frameOk (c : Core) (f stw : Word) : Bool :=
  let n := f.toNat
  let back := stwWORLD.get stw == 1
  n / 65536 == 0xA75E && n % 4 == c.ring && n.testBit 2 == c.guard &&
    (if back == c.guard then decide (c.ring ≤ stwRING.get stw)
     else c.guard && (n.testBit 7 || n / 16384 % 4 == 1))

/-- GRET (R286). -/
def State.gret (s : State) (l : Nat) : Out Unit :=
  let w := s.who l
  if s.inLesson l then .bad s (.priv 0)
  else
    (s.prepare w true 3 0).bind (fun s v =>
      let f := wAt v 2
      let stw := wAt v 1
      let c := s.core l
      let bad (s : State) : Out Unit := .bad s (.gate 7 (f.toNat / 256 % 64))
      let nres := f.toNat / 16 % 8
      let back (s : State) : Out Unit :=
        .ok (s.setCore l { s.core l with stw := stw &&& stwMask, pc := wAt v 0 &&& 0xFFFFFFFE }) ()
      if !frameOk c f stw then bad s
      else if !f.getLsbD 3 then back (s.popN l true 3)
      else if c.rsbase.toNat < c.rsp.toNat + 36 then bad s
      else
        (s.prepare w true 9 0).bind (fun s v =>
          -- from the top: RSP, DSP, RSLIM, RSBASE, DSLIM, DSBASE at depths 3 to 8
          let b := wAt v
          if (boundFault (b 8) (b 7) (b 4) false).isSome || (boundFault (b 6) (b 5) (b 3) true).isSome then bad s
          else
            (s.prepare w false nres 0).bind (fun s res =>
              if (b 4).toNat < (b 7).toNat + 4 * nres then .bad s (.stack 0 false)
              else
                let c := { s.core l with ops := [], rets := [] }
                let s := s.setCore l (c.setStacks (b 8) (b 7) (b 6) (b 5) (b 4) (b 3))
                back (s.pushAll l false res.reverse))))

/-- Some save set of the core is active (R320). -/
def State.anySave (s : State) (l : Nat) : Bool := s.dfAct l || (upFrom 0 9).any (fun n => s.saveAct l n)

/-- RETW (R287, R288, R320). The halt of the core's Shop world ends. -/
def State.retw (s : State) (l : Nat) : Out Unit :=
  let w := s.who l
  if s.inLesson l || !w.guard0 || s.anySave l then .bad s (.priv 0)
  else if s.mode == .safe || s.mode == .lockout || s.mode == .service then .bad s (.priv 7)
  else
    (s.prepare w true 8 0).bind (fun s v =>
      -- top first: PC, STW, DSP, RSP, DSBASE, DSLIM, RSBASE, RSLIM
      let b := wAt v
      if (b 0).getLsbD 0 then .bad s (.fetchOdd (b 0).toNat)
      else
        (s.guardBy (firstOf [boundFault (b 4) (b 5) (b 2) false, boundFault (b 6) (b 7) (b 3) true])).bind (fun s _ =>
          (s.spillAll w false 0 8).bind (fun s _ =>
            (s.spillAll w true 8 8).bind (fun s _ =>
              let c := (s.popN l true 8).core l
              let stw := stwWORLD.put (b 1 &&& stwMask) 0
              let c := { c with ops := [], rets := [], stw := stw, pc := b 0, shopHalted := false }
              .ok (s.setCore l (c.setStacks (b 4) (b 5) (b 6) (b 7) (b 2) (b 3))) ()))))

end Sys2Proof.Machine
end

