-- ==== Sys2Proof/Machine/Interrupts.lean ====
section
/-! DEFINITION. Deliveries to a core: what is deliverable (R302, R310, R311, R322), the entries of interrupts and of the NMI (R315,
R302), the lesson's time limit (R324), and the interrupts that a change of the whole state raises (R313, R502). -/

namespace Sys2Proof.Machine

/-- No rule holds deliveries to core `l` back (R310): it is released, no fault is in progress, no double-fault handler is active,
and no debugger holds it. -/
def State.canDeliver (s : State) (l : Nat) : Bool :=
  s.clocks && s.canRun l true && (s.core l).fault.isNone && !s.dfAct l && !(s.core l).debugHalt

/-- The NMI is deliverable (R302). -/
def State.nmiDue (s : State) (l : Nat) : Bool := s.canDeliver l && s.nmiPending l && !s.nmiAct l

/-- The lesson at the head of the Bell queue is deliverable (R322). -/
def State.lessonDue (s : State) (l : Nat) : Bool :=
  s.canDeliver l && !s.lessonAct l && !s.nmiAct l && !(s.bell l).isEmpty

/-- The interrupt candidate, when the core would commit it now: the NMI and a lesson come first (R310). -/
def State.irqDue (s : State) (l : Nat) : Option Nat :=
  if s.canDeliver l && !s.nmiDue l && !s.lessonDue l then s.candidate l else none

/-- Some delivery is possible now (R235). -/
def State.anyDue (s : State) (l : Nat) : Bool := s.nmiDue l || s.lessonDue l || (s.irqDue l).isSome

/-- Step 3 of R315: the bounds go to XBND, and the core stands on the Guard handler stacks. -/
def State.switchStacks (s : State) (l : Nat) : State :=
  let c := s.core l
  let s := s.wrAll (R.XDSBASE l) [c.dsbase, c.dslim, c.rsbase, c.rslim]
  let db := s.rd (R.GHDSBASE l)
  let rb := s.rd (R.GHRSBASE l)
  s.setCore l (c.setStacks db (s.rd (R.GHDSLIM l)) rb (s.rd (R.GHRSLIM l)) db rb)

/-- An entry through save set `n` into world `guard` at a vector (R315): `beneath`, the stacks in use belong to a Shop-world
context. -/
def State.deliver (s : State) (l n : Nat) (sstat : Word) (guard beneath : Bool) (vec : Word) : State :=
  let sw := guard && beneath
  let s := s.saveEnter l n (s.core l).pc (ssSW.put sstat sw.toNat)
  let s := if sw then s.switchStacks l else s
  s.setCore l { (s.core l).setWorld guard 0 with pc := vec &&& 0xFFFFFFFE, waiting := false }

/-- INTERRUPT_ENTRY (R315): the candidate, when it is what the core commits. -/
def State.interruptEntry (s : State) (l : Nat) : State :=
  match s.irqDue l with
  | none => s
  | some n =>
    let k := s.irqLevel n
    let g := s.irqGuard n
    let vec := s.rd (if g then R.IVECG l (k - 1) else R.IVECS l (k - 1))
    let s := s.setFld (R.IRQCNT n) R.IRQCNT_COUNT (s.fld (R.IRQCNT n) R.IRQCNT_COUNT - 1)
    s.deliver l (k - 1) (sstatOf n 0 k g false 0) g (!(s.core l).guard) vec

/-- LESSON_ENTRY (R322). -/
def State.lessonEntry (s : State) (l : Nat) : State :=
  if s.lessonDue l && !s.nmiDue l then s.lessonStart l false else s

/-- The context that the running code interrupted or is belongs to the Shop world: beneath a lesson, the one it interrupted
(R315, R326). -/
def State.shopBeneath (s : State) (l : Nat) : Bool :=
  if s.lessonAct l then stwWORLD.get (s.rd (saveAddr l bellSet 1)) == 0 else !(s.core l).guard

/-- NMI_ENTRY (R302, R315). -/
def State.nmiEntry (s : State) (l : Nat) : State :=
  if s.nmiDue l then
    let beneath := s.shopBeneath l
    let vec := s.rd (R.NMIVEC l)
    (s.deliver l nmiSet (sstatOf 0 0 0 true false 2) true beneath vec).setFld (R.NMIPEND l) R.NMIPEND_NMIACT 1
  else s

/-- LESSON_TIME_LIMIT (R324): the lesson has run for LIMIT × 16 CCLK. -/
def State.lessonLimit (s : State) (l : Nat) : State :=
  if s.inLesson l && s.fld (R.BELLCFG l) R.BELLCFG_LIMIT != 0 then s.lessonAbort l 2 else s

/-! ### Interrupts raised by a change of state -/

/-- The bits of FLTSUM that have risen. -/
def fltRise (old new : State) : Nat :=
  let a := old.fltsum
  let b := new.fltsum
  if a = b then 0 else ((upFrom 0 11).filter (fun i => b.testBit i && !a.testBit i)).length

/-- SHOPHELD of core `l` becomes pending when a Shop candidate begins to wait behind the Guard world (R313). -/
def heldRise (old : State) (new : State) (l : Nat) : State :=
  if new.shopHeld l && !old.shopHeld l then new.arrive (0xB0 + l) else new

/-- FLTSUMI for each fault bit that has risen (R502), and SHOPHELD (R313). -/
def settle (old new : State) : State :=
  let s := new.arriveAll (List.replicate (fltRise old new) 0xF0)
  (upFrom 0 5).foldl (heldRise old) s

/-- What a command answers. -/
abbrev Ans := Host.Outcome State Fault Refusal

/-- The next state, with the interrupts that the change as a whole raises. -/
def done (old new : State) : Ans := .next (settle old new)

end Sys2Proof.Machine
end

