-- ==== Sys2Proof/Machine/Isa.lean ====
section
/-! DEFINITION. What the instructions of a core share: the fetch check (R213, R220, R290), the frame of an instruction (R219), stack
operands, transfers of control (R223-R226), special registers (R196, R202, R208), loads and stores (R238-R240), products through X
and Y (R241, R246-R254), division (R229, R255, R256) and reserved codes (R245). The meaning of each instruction is given in
CoreStack, CoreAlu, CoreControl and CoreMem. -/

namespace Sys2Proof

/-- The bytes of an access. -/
def Size.bytes : Size → Nat
  | .byte => 1
  | .half => 2
  | .word => 4

end Sys2Proof

namespace Sys2Proof.Machine

/-! ### The frame of an instruction -/

/-- Core `l` executes: it may run, does not wait (R235), and no debugger holds it (R236). -/
def State.runs (s : State) (l : Nat) : Bool :=
  s.clocks && s.canRun l (s.core l).guard && !(s.core l).waiting && !(s.core l).debugHalt

/-- Core `l` holds the 16-byte line of address `a` (R263). -/
def Core.holdsLine (c : Core) (a : Nat) : Bool := c.lines.any (fun x => x.1 == a / 16 * 16)

/-- The addresses that R213 marks no-execute. -/
def noExec (a : Nat) : Bool :=
  decide (0x100000 ≤ a ∧ a < 0x110000) || decide (0x40000000 ≤ a) ||
    (match placeOf a with | .far _ => true | _ => false)

/-- The fetch of the halfword at PC (R290, R213, R332). -/
def State.fetch (s : State) (l : Nat) : Out Unit :=
  let c := s.core l
  let a := c.pc.toNat
  if noExec a then .bad s { kind := 4, cause := 0, addr := some a }
  else if !s.regionOk l c.guard c.ring .exec a 2 then .bad s { kind := 4, cause := 1, addr := some a }
  else
    match targetOf a with
    | none => .bad s { kind := 3, cause := 0, addr := some a }
    | some t =>
      if c.holdsLine a then .ok s ()
      else
        let r := s.eccRead (s.variant.accessKey l a t) 2
        if r.2 then .bad r.1 { kind := 3, cause := 4, addr := some a } else .ok r.1 ()

/-- PC of core `l` becomes `v`. -/
def State.setPc (s : State) (l : Nat) (v : Word) : State := s.setCore l { s.core l with pc := v }

/-- The instruction at PC is fetched and carried out by `f`, which is given its address A; PC then is A + 2 unless `f` moves it. A
fault is taken at A (R294). `f` answers whether the instruction retires: the first to retire in a handler ends the protection of
R295. -/
def State.instrB (s : State) (l : Nat) (f : State → Word → Out Bool) : State :=
  if !s.runs l then s
  else
    let a := (s.core l).pc
    match s.fetch l with
    | .bad s g => s.faultEntry l g a
    | .ok s _ =>
      match f (s.setPc l (a + 2)) a with
      | .ok s retired => if retired then s.setCore l { s.core l with fault := none } else s
      | .bad s g => s.faultEntry l g a

/-- An instruction that always retires. -/
def State.instr (s : State) (l : Nat) (f : State → Word → Out Unit) : State :=
  s.instrB l (fun (s : State) a => (f s a).bind (fun s _ => .ok s true))

/-! ### Stack operands -/

/-- An instruction that pops `p` operands (top first) and pushes the `q` words that `f` gives, the last on top; `f` may also
change the core's registers. -/
def State.coreOp (s : State) (l p q : Nat) (f : Core → List Word → Core × List Word) : Out Unit :=
  (s.prepare (s.who l) false p q).bind (fun s v =>
    let s := s.popN l false p
    let r := f (s.core l) v
    .ok ((s.setCore l r.1).pushAll l false r.2) ())

/-- An instruction on the operand stack alone. -/
def State.stackOp (s : State) (l p q : Nat) (f : List Word → List Word) : Out Unit :=
  (s.prepare (s.who l) false p q).bind (fun s v => .ok ((s.popN l false p).pushAll l false (f v)) ())

/-- ( a -- r ) -/
def State.unary (s : State) (l : Nat) (f : Word → Word) : Out Unit := s.stackOp l 1 1 (fun v => [f (wAt v 0)])

/-- ( a b -- r ) -/
def State.binary (s : State) (l : Nat) (f : Word → Word → Word) : Out Unit := s.stackOp l 2 1 (fun v => [f (wAt v 1) (wAt v 0)])

/-- A saturating form: the exact result is clamped to `n` bits, and SV is set when it clamps (R209, R228). -/
def State.saturating (s : State) (l p n : Nat) (f : List Word → Int) : Out Unit :=
  s.coreOp l p 1 (fun c v =>
    let r := clampS n (f v)
    (c.stickSV r.2, [wordOf r.1]))

/-- An instruction on ACC that pops `p` operands. -/
def State.accOp (s : State) (l p : Nat) (f : Core → List Word → Core) : Out Unit := s.coreOp l p 0 (fun c v => (f c v, []))

/-- A shift count of 32 or more empties the word (R228). -/
def shl (a : Word) (n : Nat) : Word := if n < 32 then a <<< n else 0
def shr (a : Word) (n : Nat) : Word := if n < 32 then a >>> n else 0
def sar (a : Word) (n : Nat) : Word := if n < 32 then a.sshiftRight n else if a.msb then 0xFFFFFFFF else 0

/-- Leading zeros. -/
def clz (a : Word) : Nat := ((upFrom 0 32).find? (fun i => a.getLsbD (31 - i))).getD 32

/-- TOR. -/
def State.torOp (s : State) (l : Nat) : Out Unit :=
  (s.prepareBoth (s.who l) (1, 0) (0, 1)).bind (fun s v => .ok ((s.popN l false 1).push l true (wAt v.1 0)) ())

/-- FROMR (`pop`) and RFETCH. -/
def State.fromrOp (s : State) (l : Nat) (pop : Bool) : Out Unit :=
  (s.prepareBoth (s.who l) (0, 1) (1, if pop then 0 else 1)).bind (fun s v =>
    .ok ((if pop then s.popN l true 1 else s).push l false (wAt v.2 0)) ())

/-- PICK `i`: as an instruction that pops i + 1 entries and pushes i + 2 (R199, R237). -/
def State.pickOp (s : State) (l i : Nat) : Out Unit :=
  if 16 ≤ i then .bad s (.illegal 0)
  else (s.prepare (s.who l) false (i + 1) (i + 2)).bind (fun s v => .ok (s.push l false (wAt v i)) ())

/-- Extraction of an `n`-bit result of `a` pushed after `p` operands are popped; SV when it saturates (R211). -/
def State.extracted (s : State) (l p n sh : Nat) (a : Core → List Word → Int) : Out Unit :=
  s.coreOp l p 1 (fun c v =>
    let r := c.extracts n sh (a c v)
    (c.stickSV r.2, [r.1]))

/-- MULQ (R212). -/
def State.mulqOp (s : State) (l : Nat) : Out Unit := s.extracted l 2 32 32 (fun _ v => product true (wAt v 1) (wAt v 0))

/-- EXT8, EXT16 and EXT32 (R211). -/
def State.extOp (s : State) (l n sh : Nat) : Out Unit := s.extracted l 0 n sh (fun c _ => c.acc.toInt)

/-- LDA: hi:lo sign-extended, without a change of AV (R242). -/
def Core.loadAcc (c : Core) (lo hi : Word) : Core := { c with acc := BitVec.ofInt 72 (sx 64 (lo.toNat + 2 ^ 32 * hi.toNat)) }

/-- ASRA (R243). -/
def Core.asra (c : Core) (sh : Nat) : Core := { c with acc := c.acc.sshiftRight sh }

/-! ### Transfers of control (R223-R226) -/

/-- A + 2 + 2 × `off`. -/
def relTarget (a : Word) (off : Int) : Word := a + 2 + wordOf (2 * off)

/-- A compare-and-branch with `p` operands (R223). -/
def State.branch (s : State) (l p : Nat) (a : Word) (off : Int) (cond : List Word → Bool) : Out Unit :=
  (s.prepare (s.who l) false p 0).bind (fun s v =>
    let s := s.popN l false p
    .ok (if cond v then s.setPc l (relTarget a off) else s) ())

/-- The top entry of a stack replaced. -/
def State.setTop (s : State) (l : Nat) (r : Bool) (v : Word) : State := (s.popN l r 1).push l r v

/-- LOOP (R225). -/
def State.loopOp (s : State) (l : Nat) (a : Word) (off : Nat) : Out Unit :=
  (s.prepare (s.who l) true 1 1).bind (fun s v =>
    let c := wAt v 0 - 1
    .ok (if c = 0 then s.popN l true 1 else (s.setTop l true c).setPc l (a - w32 (2 * off))) ())

/-- A target popped from stack `r`, checked before anything is popped (R226). -/
def State.popTarget (s : State) (l : Nat) (r : Bool) (done : State → Word → Out Unit) : Out Unit :=
  (s.prepare (s.who l) r 1 0).bind (fun s v =>
    let t := wAt v 0
    if t.getLsbD 0 then .bad s (.fetchOdd t.toNat) else done s t)

/-- CALLI with the return address `ret`: the checks of both stacks, then that of the target (R219, R226). -/
def State.calliOp (s : State) (l : Nat) (ret : Word) : Out Unit :=
  (s.prepareBoth (s.who l) (1, 0) (0, 1)).bind (fun s v =>
    let t := wAt v.1 0
    if t.getLsbD 0 then .bad s (.fetchOdd t.toNat)
    else .ok (((s.popN l false 1).push l true ret).setPc l t) ())

/-! ### Special registers (R196) -/

/-- DEPTH (R198). -/
def Core.depth (c : Core) : Word := w32 (c.ops.length + 256 * c.rets.length)

/-- COREID: the lower physical core, REDUNDANT, LOGICAL. -/
def Variant.coreId (v : Variant) (l : Nat) : Word := w32 (v.phys l + 8 * (decide (l = 0)).toNat + 16 * l)

/-- What RSR `n` pushes; none: not listed (R196). -/
def State.specialReg (s : State) (l : Nat) (a : Word) (n : Nat) : Option Word :=
  let c := s.core l
  match n with
  | 0x00 => some a
  | 0x01 => some c.stw
  | 0x02 => some c.dsp
  | 0x03 => some c.dsbase
  | 0x04 => some c.dslim
  | 0x05 => some c.rsp
  | 0x06 => some c.rsbase
  | 0x07 => some c.rslim
  | 0x08 => some c.depth
  | 0x10 => some (w32 c.acc.toNat)
  | 0x11 => some (w32 (c.acc.toNat / 2 ^ 32))
  | 0x12 => some c.accg
  | 0x18 => some c.x.a
  | 0x19 => some c.x.b
  | 0x1A => some c.x.cfg
  | 0x1B => some c.x.step
  | 0x1C => some c.y.a
  | 0x1D => some c.y.b
  | 0x1E => some c.y.cfg
  | 0x1F => some c.y.step
  | 0x20 => some (s.variant.coreId l)
  | _ => none

/-- RSR `n` at `a`: the register is read after the spill that the push needs (R199). -/
def State.rsr (s : State) (l : Nat) (a : Word) (n : Nat) : Out Unit :=
  match s.specialReg l a n with
  | none => .bad s (.illegal 0)
  | some _ =>
    (s.prepare (s.who l) false 0 1).bind (fun s _ => .ok (s.push l false ((s.specialReg l a n).getD 0)) ())

/-- ACC with one of its three parts written. -/
def accPart (acc : BitVec 72) (n : Nat) (v : Word) : BitVec 72 :=
  let x := acc.toNat
  let lo := if n = 0x10 then v.toNat else x % 2 ^ 32
  let hi := if n = 0x11 then v.toNat else x / 2 ^ 32 % 2 ^ 32
  let g := if n = 0x12 then v.toNat % 256 else x / 2 ^ 64
  BitVec.ofNat 72 (lo + 2 ^ 32 * hi + 2 ^ 64 * g)

/-- An address register with one of its four parts written: A, B, CFG, STEP. -/
def Xreg.part (x : Xreg) (k : Nat) (v : Word) : Xreg :=
  match k with
  | 0 => { x with a := v }
  | 1 => { x with b := v }
  | 2 => { x with cfg := v &&& xcfgMask }
  | _ => { x with step := v }

/-- The core with a special register written that has no rule of its own; none: WSR of that number is illegal. -/
def Core.wsr (c : Core) (n : Nat) (v : Word) : Option Core :=
  if 0x10 ≤ n ∧ n ≤ 0x12 then some { c with acc := accPart c.acc n v }
  else if 0x18 ≤ n ∧ n ≤ 0x1B then some { c with x := c.x.part (n - 0x18) v }
  else if 0x1C ≤ n ∧ n ≤ 0x1F then some { c with y := c.y.part (n - 0x1C) v }
  else none

/-- WSR of ACC, X or Y, by number; any other number is illegal here (R196). -/
def State.wsrPlain (s : State) (l n : Nat) : Out Unit :=
  if ((s.core l).wsr n 0).isNone then .bad s (.illegal 0)
  else s.coreOp l 1 0 (fun c v => ((c.wsr n (wAt v 0)).getD c, []))

/-- The bits of STW that a WSR writes in ring 0, and in the others (R208). -/
def stwRing0 : Word := 0x3770
def stwRingN : Word := 0x3700

/-- WSR STW (R208). -/
def State.wsrStw (s : State) (l : Nat) : Out Unit :=
  (s.prepare (s.who l) false 1 0).bind (fun s v =>
    let c := s.core l
    let v := wAt v 0
    if c.ring != 0 && stwIML.get v != stwIML.get c.stw then .bad s (.priv 3)
    else
      let s := s.popN l false 1
      let m := if c.ring = 0 then stwRing0 else stwRingN
      .ok (s.setCore l { s.core l with stw := Word.mix c.stw v m }) ())

/-- WSR DSP (`r` false) or RSP (R202, R203, R323). -/
def State.wsrPointer (s : State) (l : Nat) (r : Bool) : Out Unit :=
  let w := s.who l
  if s.inLesson l then .bad s (.priv 0)
  else
    (s.prepare w false 1 0).bind (fun s v =>
      let c := s.core l
      let v := wAt v 0
      if v.toNat % 4 != 0 then .bad s (.stkPtr v.toNat)
      else if v.toNat < (c.lim r).toNat then .bad s (.stack 0 r)
      else if (c.base r).toNat < v.toNat then .bad s (.stack 1 r)
      else
        (s.spillAll w r (if r then 0 else 1) 8).bind (fun s _ =>
          let s := s.popN l false 1
          .ok (s.setCore l (((s.core l).setChip r []).setSp r v)) ()))

/-- The core with a bound of a stack written: its base, or its limit (`lim`). -/
def Core.setBound (c : Core) (r lim : Bool) (v : Word) : Core :=
  match r, lim with
  | false, false => { c with dsbase := v }
  | false, true => { c with dslim := v }
  | true, false => { c with rsbase := v }
  | true, true => { c with rslim := v }

/-- WSR of DSBASE, DSLIM, RSBASE or RSLIM (R202, R203, R323). -/
def State.wsrBound (s : State) (l : Nat) (r lim : Bool) : Out Unit :=
  let w := s.who l
  if s.inLesson l || w.ring != 0 then .bad s (.priv 0)
  else
    (s.prepare w false 1 0).bind (fun s v =>
      let v := wAt v 0
      let t := s.popN l false 1
      let c := (t.core l).setBound r lim v
      if v.toNat % 4 != 0 then .bad s (.stkPtr v.toNat)
      else if !stackArea (c.lim r) (c.base r) || !decide ((c.lim r).toNat ≤ (c.sp r).toNat ∧ (c.sp r).toNat ≤ (c.base r).toNat) then
        .bad s (.stack 2 r)
      else .ok (t.setCore l c) ())

/-- WSR `n`. -/
def State.wsr (s : State) (l n : Nat) : Out Unit :=
  match n with
  | 0x01 => s.wsrStw l
  | 0x02 => s.wsrPointer l false
  | 0x03 => s.wsrBound l false false
  | 0x04 => s.wsrBound l false true
  | 0x05 => s.wsrPointer l true
  | 0x06 => s.wsrBound l true false
  | 0x07 => s.wsrBound l true true
  | _ => s.wsrPlain l n

/-! ### Loads and stores (R238, R239) -/

/-- An `n`-byte value in a stack entry (R209). -/
def extended (signed : Bool) (n v : Nat) : Word := if signed then wordOf (sx (8 * n) v) else w32 (v % 2 ^ (8 * n))

/-- The address of an offset load or store (R238). -/
def offsetAddr (tos : Word) (off n : Nat) : Nat := (tos.toNat + off * n) % 2 ^ 32

/-- LD ( addr -- v ) -/
def State.ldOp (s : State) (l : Nat) (signed : Bool) (n off : Nat) : Out Unit :=
  let w := s.who l
  (s.prepare w false 1 1).bind (fun s v =>
    (s.load w (offsetAddr (wAt v 0) off n) n).bind (fun s x => .ok (s.setTop l false (extended signed n x)) ()))

/-- ST ( v addr -- ) -/
def State.stOp (s : State) (l n off : Nat) : Out Unit :=
  let w := s.who l
  (s.prepare w false 2 0).bind (fun s v =>
    (s.storeOp w (offsetAddr (wAt v 0) off n) n (wAt v 1)).bind (fun s _ => .ok (s.popN l false 2) ()))

/-- X, or Y. -/
def Core.xreg (c : Core) (y : Bool) : Xreg := if y then c.y else c.x

/-- X or Y stepped after an access of `e` bytes that completed (R204, R205). -/
def State.stepReg (s : State) (l : Nat) (y : Bool) (e : Nat) : State :=
  let c := s.core l
  s.setCore l (if y then { c with y := c.y.stepped e } else { c with x := c.x.stepped e })

/-- LDX or LDY ( -- v ) (R239): the privilege check of the access precedes the stack checks (R219). -/
def State.ldxOp (s : State) (l : Nat) (y signed : Bool) (n : Nat) : Out Unit :=
  let w := s.who l
  let a := ((s.core l).xreg y).a.toNat
  (s.guardBy (s.privFault w a n false 0)).bind (fun s _ =>
    (s.prepare w false 0 1).bind (fun s _ =>
      (s.load w a n).bind (fun s x => .ok ((s.stepReg l y n).push l false (extended signed n x)) ())))

/-- STX or STY ( v -- ) (R239). -/
def State.stxOp (s : State) (l : Nat) (y : Bool) (n : Nat) : Out Unit :=
  let w := s.who l
  let a := ((s.core l).xreg y).a.toNat
  let top := wAt (s.tops l false 1) 0
  (s.guardBy (s.privFault w a n true top)).bind (fun s _ =>
    (s.prepare w false 1 0).bind (fun s v =>
      (s.storeOp w a n (wAt v 0)).bind (fun s _ => .ok ((s.stepReg l y n).popN l false 1) ())))

/-- FENCE (R231, R275): the store buffer empties, and the held lines go. -/
def State.fenceOp (s : State) (l : Nat) : State :=
  let s := s.sbDrain l
  s.setCore l { s.core l with lines := [] }

/-- XCHG ( v addr -- old ). -/
def State.xchgOp (s : State) (l : Nat) : Out Unit :=
  let w := s.who l
  (s.prepare w false 2 1).bind (fun s v =>
    (s.atomic w (wAt v 0).toNat (fun _ => some (wAt v 1))).bind (fun s old =>
      .ok ((s.popN l false 2).push l false (w32 old)) ()))

/-- CAS ( new exp addr -- old ). -/
def State.casOp (s : State) (l : Nat) : Out Unit :=
  let w := s.who l
  (s.prepare w false 3 1).bind (fun s v =>
    (s.atomic w (wAt v 0).toNat (fun old => if old = (wAt v 1).toNat then some (wAt v 2) else none)).bind (fun s old =>
      .ok ((s.popN l false 3).push l false (w32 old)) ()))

/-- ARM ( addr -- result ) (R232). -/
def State.armOp (s : State) (l : Nat) : Out Unit :=
  let w := s.who l
  (s.prepare w false 1 1).bind (fun s v =>
    (s.loadWords w (wAt v 0).toNat 4).bind (fun s p =>
      let n (i : Nat) : Nat := (wAt p i).toNat
      let r := s.armRequest w (Period.ofWords (n 0) (n 1) (n 2) (n 3))
      .ok (r.2.setTop l false r.1) ()))

/-! ### Products through X and Y (R241, R246) -/

/-- One accumulation of the words at XA and YA: `frac`, twice the product; `sub`, it is subtracted. -/
def State.macPair (s : State) (l : Nat) (frac sub : Bool) : Out Unit :=
  let w := s.who l
  let xa := (s.core l).x.a.toNat
  let ya := (s.core l).y.a.toNat
  let fy := s.dataFault w .read ya 4 0
  -- a peripheral register is not read for X when the check of Y fails: the pair is one access
  let fx := firstOf [s.dataFault w .read xa 4 0, if targetOf xa == some .periph then fy else none]
  (s.guardBy fx).bind (fun s _ => (s.loadAt w xa 4).bind (fun s x =>
    (s.guardBy fy).bind (fun s _ => (s.loadAt w ya 4).bind (fun s y =>
      let d := product frac (w32 x) (w32 y)
      let s := (s.stepReg l false 4).stepReg l true 4
      .ok (s.setCore l ((s.core l).accAdd (if sub then -d else d))) ()))))

/-- LONGCNT of the core's physical cores: both members of the Guard pair count alike (R259). -/
def State.longCount (s : State) (l : Nat) (f : F) : State :=
  let p := s.variant.phys l
  let s := s.count (R.LONGCNT p) f 1
  if l = 0 then s.count (R.LONGCNT (p + 1)) f 1 else s

/-- The iterations of a MACN-family instruction at `a` (R250-R253): `n` remain, and `stop` more may be made before a delivery or a
halt is committed. False: the instruction was suspended. -/
def State.macLoop (l : Nat) (frac sub : Bool) (a : Word) : Nat → Option Nat → State → Out Bool
  | 0, _, s => .ok (s.popN l true 1) true
  | n + 1, stop, s =>
    (s.macPair l frac sub).bind (fun s _ =>
      let s := s.setTop l true (w32 n)
      if stop == some 1 && n != 0 then .ok ((s.setPc l a).longCount l R.LONGCNT_MACNBRK) false
      else s.macLoop l frac sub a n (stop.map (· - 1)))

/-- MACN, MSUN, MACNI or MSUNI. -/
def State.macn (s : State) (l : Nat) (frac sub : Bool) (a : Word) (stop : Option Nat) : Out Bool :=
  (s.prepare (s.who l) true 1 0).bind (fun s v => s.macLoop l frac sub a (wAt v 0).toNat stop)

/-! ### Division (R229, R255, R256) -/

/-- A division ( a b -- r ) at `a`; `abandon`: a delivery or a halt is committed at one of the edges 1 to 16. -/
def State.divide (s : State) (l : Nat) (a : Word) (abandon : Bool) (f : Word → Word → Word) : Out Bool :=
  (s.prepare (s.who l) false 2 1).bind (fun s v =>
    if wAt v 0 = 0 then .bad s { kind := 8, cause := 0 }
    else if abandon then .ok ((s.setPc l a).longCount l R.LONGCNT_DIVABORT) false
    else .ok ((s.popN l false 2).push l false (f (wAt v 1) (wAt v 0))) true)

/-! ### Reserved codes (R245) -/

/-- A byte stored where the core's own view, the region unit and the bus permit it. -/
def State.reservedByte (s : State) (w : Who) (a : Word) (b : Byte) : State :=
  let mine := match targetOf a.toNat with | some .tcm => true | some .sram => true | some .mram => true | _ => false
  if mine && (s.dataFault w .write a.toNat 1 (b.zeroExtend 32)).isNone then s.storeParts w b.toNat [(a.toNat, 1)] else s

/-- A stack pointer moved within its limits, as WSR of it moves it (R202). -/
def State.reservedSp (s : State) (l : Nat) (r : Bool) : Option Word → Out Unit
  | none => .ok s ()
  | some v =>
    let c := s.core l
    if s.inLesson l || v.toNat % 4 != 0 || !decide ((c.lim r).toNat ≤ v.toNat ∧ v.toNat ≤ (c.base r).toNat) then .ok s ()
    else (s.spillAll (s.who l) r 0 8).bind (fun s _ => .ok (s.setCore l (((s.core l).setChip r []).setSp r v)) ())

/-- The fault that an access of the effect raises: one of a data access (DA of R218, which takes in the region refusal), never of a
kind that R245 excludes, nor in the peripheral region. -/
def State.reservedFault (s : State) (w : Who) : Option (Word × Size × Bool) → Option Flt
  | none => none
  | some (a, z, store) =>
    if a.toNat < 0x40000000 then
      (s.dataFault w (if store then .write else .read) a.toNat z.bytes 0).filter (fun f => f.kind != 7 || f.cause == 1)
    else none

/-- The part's fault is taken in `t`, the state before the part: a fault leaves nothing done but moves (R219). -/
def Out.undoing {α : Type} (t : State) : Out α → Out α
  | .ok s a => .ok s a
  | .bad _ f => .bad t f

/-- A reserved code does `e`, within R245. -/
def State.reserved (s : State) (l : Nat) (e : ReservedEffect) : Out Unit :=
  let w := s.who l
  let p := min 16 e.pops
  let rp := min 16 e.rpops
  let vs := e.pushes.take 16
  let rs := e.rpush.take 16
  (s.guardBy (s.reservedFault w e.access)).bind (fun s _ =>
    (s.prepareBoth w (p, vs.length) (rp, rs.length)).bind (fun t _ =>
      let s := (((t.popN l false p).pushAll l false vs).popN l true rp).pushAll l true rs
      ((s.reservedSp l false e.dsp).bind (fun s _ => (s.reservedSp l true e.rsp).bind (fun s _ =>
        let s := e.bytes.foldl (fun (s : State) x => s.reservedByte w x.1 x.2) s
        let c := s.core l
        .ok (s.setCore l { c with
          acc := e.acc.getD c.acc, x := { c.x with a := e.xa.getD c.x.a }, y := { c.y with a := e.ya.getD c.y.a } }) ()))).undoing t))

/-! ### Waiting and debugging (R235, R236) -/

/-- WAIT. -/
def State.waitOp (s : State) (l : Nat) : Out Unit :=
  if (s.core l).ring != 0 || s.inLesson l then .bad s (.priv 0)
  else if s.anyDue l then .ok s ()
  else .ok (s.setCore l { s.core l with waiting := true }) ()

/-- A debugger's BRK in SERVICE: the core halts at its PC (R236). -/
def State.debugStop (s : State) (l : Nat) : State :=
  if s.clocks && s.variant.hasCore l then s.setCore l { s.core l with debugHalt := true } else s

end Sys2Proof.Machine
end

