-- ==== Sys2Proof/Machine/CoreAlu.lean ====
section
/-! DEFINITION. The meanings of the ALU, multiply and divide instructions (R228, R229, R212), the arithmetic immediates and extractions (R237, R211). -/

namespace Sys2Proof.Machine

/-- ADD ( a b -- r ) (R228). -/
def execAdd (l : Nat) (s : State) : Ans := done s (s.instr l (fun (s : State) _ => s.binary l (fun x y => x + y)))

/-- SUB ( a b -- r ) (R228). -/
def execSub (l : Nat) (s : State) : Ans := done s (s.instr l (fun (s : State) _ => s.binary l (fun x y => x - y)))

/-- AND ( a b -- r ) (R228). -/
def execAnd (l : Nat) (s : State) : Ans := done s (s.instr l (fun (s : State) _ => s.binary l (fun x y => x &&& y)))

/-- OR ( a b -- r ) (R228). -/
def execOr (l : Nat) (s : State) : Ans := done s (s.instr l (fun (s : State) _ => s.binary l (fun x y => x ||| y)))

/-- XOR ( a b -- r ) (R228). -/
def execXor (l : Nat) (s : State) : Ans := done s (s.instr l (fun (s : State) _ => s.binary l (fun x y => x ^^^ y)))

/-- SHL ( a b -- r ) (R228). -/
def execShl (l : Nat) (s : State) : Ans :=
  done s (s.instr l (fun (s : State) _ => s.binary l (fun x y => shl x y.toNat)))

/-- SHR ( a b -- r ) (R228). -/
def execShr (l : Nat) (s : State) : Ans :=
  done s (s.instr l (fun (s : State) _ => s.binary l (fun x y => shr x y.toNat)))

/-- SAR ( a b -- r ) (R228). -/
def execSar (l : Nat) (s : State) : Ans :=
  done s (s.instr l (fun (s : State) _ => s.binary l (fun x y => sar x y.toNat)))

/-- MIN ( a b -- r ) (R228). -/
def execMin (l : Nat) (s : State) : Ans :=
  done s (s.instr l (fun (s : State) _ => s.binary l (fun x y => if x.slt y then x else y)))

/-- MAX ( a b -- r ) (R228). -/
def execMax (l : Nat) (s : State) : Ans :=
  done s (s.instr l (fun (s : State) _ => s.binary l (fun x y => if x.slt y then y else x)))

/-- MINU ( a b -- r ) (R228). -/
def execMinu (l : Nat) (s : State) : Ans :=
  done s (s.instr l (fun (s : State) _ => s.binary l (fun x y => if x.ult y then x else y)))

/-- MAXU ( a b -- r ) (R228). -/
def execMaxu (l : Nat) (s : State) : Ans :=
  done s (s.instr l (fun (s : State) _ => s.binary l (fun x y => if x.ult y then y else x)))

/-- SLT ( a b -- r ) (R228). -/
def execSlt (l : Nat) (s : State) : Ans :=
  done s (s.instr l (fun (s : State) _ => s.binary l (fun x y => w32 (x.slt y).toNat)))

/-- SLTU ( a b -- r ) (R228). -/
def execSltu (l : Nat) (s : State) : Ans :=
  done s (s.instr l (fun (s : State) _ => s.binary l (fun x y => w32 (x.ult y).toNat)))

/-- NOT ( a -- r ) (R228). -/
def execNot (l : Nat) (s : State) : Ans := done s (s.instr l (fun (s : State) _ => s.unary l (fun x => ~~~x)))

/-- NEG ( a -- r ) (R228). -/
def execNeg (l : Nat) (s : State) : Ans := done s (s.instr l (fun (s : State) _ => s.unary l (fun x => -x)))

/-- ABS ( a -- r ) (R228). -/
def execAbs (l : Nat) (s : State) : Ans :=
  done s (s.instr l (fun (s : State) _ => s.unary l (fun x => if x.msb then -x else x)))

/-- SEXT8 ( a -- r ) (R228). -/
def execSext8 (l : Nat) (s : State) : Ans :=
  done s (s.instr l (fun (s : State) _ => s.unary l (fun x => extended true 1 x.toNat)))

/-- SEXT16 ( a -- r ) (R228). -/
def execSext16 (l : Nat) (s : State) : Ans :=
  done s (s.instr l (fun (s : State) _ => s.unary l (fun x => extended true 2 x.toNat)))

/-- ZEXT8 ( a -- r ) (R228). -/
def execZext8 (l : Nat) (s : State) : Ans :=
  done s (s.instr l (fun (s : State) _ => s.unary l (fun x => extended false 1 x.toNat)))

/-- ZEXT16 ( a -- r ) (R228). -/
def execZext16 (l : Nat) (s : State) : Ans :=
  done s (s.instr l (fun (s : State) _ => s.unary l (fun x => extended false 2 x.toNat)))

/-- CLZ ( a -- r ) (R228). -/
def execClz (l : Nat) (s : State) : Ans := done s (s.instr l (fun (s : State) _ => s.unary l (fun x => w32 (clz x))))

/-- ADDS, clamped to 32 bits; SV when it clamps (R228, R209). -/
def execAdds (l : Nat) (s : State) : Ans :=
  done s (s.instr l (fun (s : State) _ => s.saturating l 2 32 (fun v => (wAt v 1).toInt + (wAt v 0).toInt)))

/-- SUBS, clamped to 32 bits; SV when it clamps (R228, R209). -/
def execSubs (l : Nat) (s : State) : Ans :=
  done s (s.instr l (fun (s : State) _ => s.saturating l 2 32 (fun v => (wAt v 1).toInt - (wAt v 0).toInt)))

/-- NEGS, clamped to 32 bits; SV when it clamps (R228, R209). -/
def execNegs (l : Nat) (s : State) : Ans :=
  done s (s.instr l (fun (s : State) _ => s.saturating l 1 32 (fun v => -(wAt v 0).toInt)))

/-- ABSS, clamped to 32 bits; SV when it clamps (R228, R209). -/
def execAbss (l : Nat) (s : State) : Ans :=
  done s (s.instr l (fun (s : State) _ => s.saturating l 1 32 (fun v => ((wAt v 0).toInt.natAbs : Int))))

/-- SAT16, clamped to 16 bits; SV when it clamps (R228, R209). -/
def execSat16 (l : Nat) (s : State) : Ans :=
  done s (s.instr l (fun (s : State) _ => s.saturating l 1 16 (fun v => (wAt v 0).toInt)))

/-- MUL ( a b -- r ): Low 32 bits (R229). -/
def execMul (l : Nat) (s : State) : Ans := done s (s.instr l (fun (s : State) _ => s.binary l (fun x y => x * y)))

/-- MULHS ( a b -- r ): High 32 bits of the signed product (R229). -/
def execMulhs (l : Nat) (s : State) : Ans :=
  done s (s.instr l (fun (s : State) _ => s.binary l (fun x y => wordOf (x.toInt * y.toInt / 2 ^ 32))))

/-- MULHU ( a b -- r ): High 32 bits of the unsigned product (R229). -/
def execMulhu (l : Nat) (s : State) : Ans :=
  done s (s.instr l (fun (s : State) _ => s.binary l (fun x y => w32 (x.toNat * y.toNat / 2 ^ 32))))

/-- MULQ ( a b -- r ): the Q31 product (R212). -/
def execMulq (l : Nat) (s : State) : Ans := done s (s.instr l (fun (s : State) _ => s.mulqOp l))

/-- DIV ( a b -- r ) (R229, R255); `abandon`: a delivery or a halt abandons it (R256). -/
def execDiv (l : Nat) (abandon : Bool) (s : State) : Ans :=
  done s (s.instrB l (fun (s : State) a => s.divide l a abandon (fun x y => wordOf (x.toInt.tdiv y.toInt))))

/-- DIVU ( a b -- r ) (R229, R255); `abandon`: a delivery or a halt abandons it (R256). -/
def execDivu (l : Nat) (abandon : Bool) (s : State) : Ans :=
  done s (s.instrB l (fun (s : State) a => s.divide l a abandon (fun x y => w32 (x.toNat / y.toNat))))

/-- REM ( a b -- r ) (R229, R255); `abandon`: a delivery or a halt abandons it (R256). -/
def execRem (l : Nat) (abandon : Bool) (s : State) : Ans :=
  done s (s.instrB l (fun (s : State) a => s.divide l a abandon (fun x y => wordOf (x.toInt.tmod y.toInt))))

/-- REMU ( a b -- r ) (R229, R255); `abandon`: a delivery or a halt abandons it (R256). -/
def execRemu (l : Nat) (abandon : Bool) (s : State) : Ans :=
  done s (s.instrB l (fun (s : State) a => s.divide l a abandon (fun x y => w32 (x.toNat % y.toNat))))

/-- ADDI i ( a -- a+i ) (R237). -/
def execAddi (l : Nat) (i : BitVec 8) (s : State) : Ans :=
  done s (s.instr l (fun (s : State) _ => s.unary l (fun x => x + i.signExtend 32)))

/-- SHLI n ( a -- r ) (R237). -/
def execShli (l : Nat) (n : BitVec 5) (s : State) : Ans :=
  done s (s.instr l (fun (s : State) _ => s.unary l (fun x => shl x n.toNat)))

/-- SHRI n ( a -- r ) (R237). -/
def execShri (l : Nat) (n : BitVec 5) (s : State) : Ans :=
  done s (s.instr l (fun (s : State) _ => s.unary l (fun x => shr x n.toNat)))

/-- SARI n ( a -- r ) (R237). -/
def execSari (l : Nat) (n : BitVec 5) (s : State) : Ans :=
  done s (s.instr l (fun (s : State) _ => s.unary l (fun x => sar x n.toNat)))

/-- RORI n ( a -- r ) (R237). -/
def execRori (l : Nat) (n : BitVec 5) (s : State) : Ans :=
  done s (s.instr l (fun (s : State) _ => s.unary l (fun x => x.rotateRight n.toNat)))

/-- EXT8 s ( -- r ) (R211). -/
def execExt8 (l : Nat) (sh : BitVec 6) (s : State) : Ans :=
  done s (s.instr l (fun (s : State) _ => s.extOp l 8 sh.toNat))

/-- EXT16 s ( -- r ) (R211). -/
def execExt16 (l : Nat) (sh : BitVec 6) (s : State) : Ans :=
  done s (s.instr l (fun (s : State) _ => s.extOp l 16 sh.toNat))

/-- EXT32 s ( -- r ) (R211). -/
def execExt32 (l : Nat) (sh : BitVec 6) (s : State) : Ans :=
  done s (s.instr l (fun (s : State) _ => s.extOp l 32 sh.toNat))

end Sys2Proof.Machine
end

