-- ==== Sys2Proof/Machine/CoreControl.lean ====
section
/-! DEFINITION. The meanings of the transfers of control (R223-R226), the control group (R233-R236) and the codes that R244 makes illegal. -/

namespace Sys2Proof.Machine

/-- BEQ ( a b -- ) (R223). -/
def execBeq (l : Nat) (off : BitVec 8) (s : State) : Ans :=
  done s (s.instr l (fun (s : State) a => s.branch l 2 a off.toInt (fun v => wAt v 1 == wAt v 0)))

/-- BNE ( a b -- ) (R223). -/
def execBne (l : Nat) (off : BitVec 8) (s : State) : Ans :=
  done s (s.instr l (fun (s : State) a => s.branch l 2 a off.toInt (fun v => let x := wAt v 1; let y := wAt v 0; x != y)))

/-- BLT ( a b -- ) (R223). -/
def execBlt (l : Nat) (off : BitVec 8) (s : State) : Ans :=
  done s (s.instr l (fun (s : State) a => s.branch l 2 a off.toInt (fun v => let x := wAt v 1; let y := wAt v 0; x.slt y)))

/-- BGE ( a b -- ) (R223). -/
def execBge (l : Nat) (off : BitVec 8) (s : State) : Ans :=
  done s (s.instr l (fun (s : State) a => s.branch l 2 a off.toInt (fun v => let x := wAt v 1; let y := wAt v 0; y.sle x)))

/-- BLTU ( a b -- ) (R223). -/
def execBltu (l : Nat) (off : BitVec 8) (s : State) : Ans :=
  done s (s.instr l (fun (s : State) a => s.branch l 2 a off.toInt (fun v => let x := wAt v 1; let y := wAt v 0; x.ult y)))

/-- BGEU ( a b -- ) (R223). -/
def execBgeu (l : Nat) (off : BitVec 8) (s : State) : Ans :=
  done s (s.instr l (fun (s : State) a => s.branch l 2 a off.toInt (fun v => let x := wAt v 1; let y := wAt v 0; y.ule x)))

/-- BGT ( a b -- ) (R223). -/
def execBgt (l : Nat) (off : BitVec 8) (s : State) : Ans :=
  done s (s.instr l (fun (s : State) a => s.branch l 2 a off.toInt (fun v => let x := wAt v 1; let y := wAt v 0; y.slt x)))

/-- BLE ( a b -- ) (R223). -/
def execBle (l : Nat) (off : BitVec 8) (s : State) : Ans :=
  done s (s.instr l (fun (s : State) a => s.branch l 2 a off.toInt (fun v => let x := wAt v 1; let y := wAt v 0; x.sle y)))

/-- BZ ( a -- ) (R223). -/
def execBz (l : Nat) (off : BitVec 8) (s : State) : Ans :=
  done s (s.instr l (fun (s : State) a => s.branch l 1 a off.toInt (fun v => let x := wAt v 0; x == 0)))

/-- BNZ ( a -- ) (R223). -/
def execBnz (l : Nat) (off : BitVec 8) (s : State) : Ans :=
  done s (s.instr l (fun (s : State) a => s.branch l 1 a off.toInt (fun v => let x := wAt v 0; x != 0)))

/-- BLTZ ( a -- ) (R223). -/
def execBltz (l : Nat) (off : BitVec 8) (s : State) : Ans :=
  done s (s.instr l (fun (s : State) a => s.branch l 1 a off.toInt (fun v => let x := wAt v 0; x.msb)))

/-- BGEZ ( a -- ) (R223). -/
def execBgez (l : Nat) (off : BitVec 8) (s : State) : Ans :=
  done s (s.instr l (fun (s : State) a => s.branch l 1 a off.toInt (fun v => let x := wAt v 0; !x.msb)))

/-- BGTZ ( a -- ) (R223). -/
def execBgtz (l : Nat) (off : BitVec 8) (s : State) : Ans :=
  done s (s.instr l (fun (s : State) a => s.branch l 1 a off.toInt (fun v => let x := wAt v 0; (0 : Word).slt x)))

/-- BLEZ ( a -- ) (R223). -/
def execBlez (l : Nat) (off : BitVec 8) (s : State) : Ans :=
  done s (s.instr l (fun (s : State) a => s.branch l 1 a off.toInt (fun v => let x := wAt v 0; x.sle 0)))

/-- BODD ( a -- ) (R223). -/
def execBodd (l : Nat) (off : BitVec 8) (s : State) : Ans :=
  done s (s.instr l (fun (s : State) a => s.branch l 1 a off.toInt (fun v => let x := wAt v 0; x.getLsbD 0)))

/-- BEVEN ( a -- ) (R223). -/
def execBeven (l : Nat) (off : BitVec 8) (s : State) : Ans :=
  done s (s.instr l (fun (s : State) a => s.branch l 1 a off.toInt (fun v => let x := wAt v 0; !x.getLsbD 0)))

/-- JMP (R224). -/
def execJmp (l : Nat) (off : BitVec 12) (s : State) : Ans :=
  done s (s.instr l (fun (s : State) a => .ok (s.setPc l (relTarget a off.toInt)) ()))

/-- CALL R:( -- A+2 ) (R224). -/
def execCall (l : Nat) (off : BitVec 12) (s : State) : Ans :=
  done s (s.instr l (fun (s : State) a => (s.prepare (s.who l) true 0 1).bind (fun s _ => .ok ((s.push l true (a + 2)).setPc l (relTarget a off.toInt)) ())))

/-- LOOP (R225). -/
def execLoop (l : Nat) (off : BitVec 11) (s : State) : Ans :=
  done s (s.instr l (fun (s : State) a => s.loopOp l a off.toNat))

/-- RET R:( t -- ) (R226). -/
def execRet (l : Nat) (s : State) : Ans :=
  done s (s.instr l (fun (s : State) _ => s.popTarget l true (fun s t => .ok ((s.popN l true 1).setPc l t) ())))

/-- JMPI ( t -- ) (R226). -/
def execJmpi (l : Nat) (s : State) : Ans :=
  done s (s.instr l (fun (s : State) _ => s.popTarget l false (fun s t => .ok ((s.popN l false 1).setPc l t) ())))

/-- CALLI ( t -- ) R:( -- A+2 ) (R226). -/
def execCalli (l : Nat) (s : State) : Ans :=
  done s (s.instr l (fun (s : State) a => s.calliOp l (a + 2)))

/-- GATE i (R281-R284). -/
def execGate (l : Nat) (i : BitVec 6) (s : State) : Ans :=
  done s (s.instr l (fun (s : State) a => s.gate l i.toNat a))

/-- GRET (R286). -/
def execGret (l : Nat) (s : State) : Ans := done s (s.instr l (fun (s : State) _ => s.gret l))

/-- RETW (R287). -/
def execRetw (l : Nat) (s : State) : Ans := done s (s.instr l (fun (s : State) _ => s.retw l))

/-- RETF (R296). -/
def execRetf (l : Nat) (s : State) : Ans := done s (s.instr l (fun (s : State) _ => s.retf l))

/-- RETI (R317). -/
def execReti (l : Nat) (s : State) : Ans := done s (s.instr l (fun (s : State) _ => s.reti l))

/-- ENDL: illegal outside a lesson (R234), else its end (R325). -/
def execEndl (l : Nat) (s : State) : Ans :=
  done s (s.instr l (fun (s : State) _ => if s.inLesson l then .ok (s.lessonEnd l) () else .bad s (.illegal 1)))

/-- WAIT (R235). -/
def execWait (l : Nat) (s : State) : Ans := done s (s.instr l (fun (s : State) _ => s.waitOp l))

/-- BRK (R236); `debugger`: a JTAG debugger is attached. -/
def execBrk (l : Nat) (debugger : Bool) (s : State) : Ans :=
  done s (if s.mode == .service && debugger then s.debugStop l else s.instr l (fun (s : State) _ => .bad s (.illegal 2)))

/-- A code that R244 makes illegal. -/
def execIllegalOpcode (l : Nat) (_code : BitVec 16) (s : State) : Ans :=
  done s (s.instr l (fun (s : State) _ => .bad s (.illegal 0)))

end Sys2Proof.Machine
end

