-- ==== Sys2Proof/Machine/CoreMem.lean ====
section
/-! DEFINITION. The meanings of the memory group (R230-R232), the loads and stores (R238-R240), the signal-processing groups (R241-R243) and the reserved codes (R245). -/

namespace Sys2Proof.Machine

/-- XCHG ( v addr -- old ) (R230). -/
def execXchg (l : Nat) (s : State) : Ans := done s (s.instr l (fun (s : State) _ => s.xchgOp l))

/-- CAS ( new exp addr -- old ) (R230). -/
def execCas (l : Nat) (s : State) : Ans := done s (s.instr l (fun (s : State) _ => s.casOp l))

/-- FENCE (R231, R275). -/
def execFence (l : Nat) (s : State) : Ans := done s (s.instr l (fun (s : State) _ => .ok (s.fenceOp l) ()))

/-- ARM ( addr -- result ) (R232). -/
def execArm (l : Nat) (s : State) : Ans := done s (s.instr l (fun (s : State) _ => s.armOp l))

/-- LD.BS, LD.HS, LD.W ( addr -- v ) (R238). -/
def execLdSigned (l : Nat) (size : Size) (off : BitVec 8) (s : State) : Ans :=
  done s (s.instr l (fun (s : State) _ => s.ldOp l true size.bytes off.toNat))

/-- LD.BZ, LD.HZ, LD.W ( addr -- v ) (R238). -/
def execLdZero (l : Nat) (size : Size) (off : BitVec 8) (s : State) : Ans :=
  done s (s.instr l (fun (s : State) _ => s.ldOp l false size.bytes off.toNat))

/-- ST.B, ST.H, ST.W ( v addr -- ) (R238). -/
def execSt (l : Nat) (size : Size) (off : BitVec 8) (s : State) : Ans :=
  done s (s.instr l (fun (s : State) _ => s.stOp l size.bytes off.toNat))

/-- LDX or LDY (`y`), sign-extended (R239). -/
def execLdxSigned (l : Nat) (y : Bool) (size : Size) (s : State) : Ans :=
  done s (s.instr l (fun (s : State) _ => s.ldxOp l y true size.bytes))

/-- LDX or LDY (`y`), zero-extended (R239). -/
def execLdxZero (l : Nat) (y : Bool) (size : Size) (s : State) : Ans :=
  done s (s.instr l (fun (s : State) _ => s.ldxOp l y false size.bytes))

/-- STX or STY (`y`) (R239). -/
def execStx (l : Nat) (y : Bool) (size : Size) (s : State) : Ans :=
  done s (s.instr l (fun (s : State) _ => s.stxOp l y size.bytes))

/-- MAC (R241, R246). -/
def execMac (l : Nat) (s : State) : Ans := done s (s.instr l (fun (s : State) _ => s.macPair l true false))

/-- MSU (R241, R246). -/
def execMsu (l : Nat) (s : State) : Ans := done s (s.instr l (fun (s : State) _ => s.macPair l true true))

/-- MACI (R241, R246). -/
def execMaci (l : Nat) (s : State) : Ans := done s (s.instr l (fun (s : State) _ => s.macPair l false false))

/-- MSUI (R241, R246). -/
def execMsui (l : Nat) (s : State) : Ans := done s (s.instr l (fun (s : State) _ => s.macPair l false true))

/-- MACN R:( n -- ) (R250-R254); `stop`: a delivery or a halt is committed after so many iterations. -/
def execMacn (l : Nat) (stop : Option Nat) (s : State) : Ans :=
  done s (s.instrB l (fun (s : State) a => s.macn l true false a stop))

/-- MSUN R:( n -- ) (R250-R254); `stop`: a delivery or a halt is committed after so many iterations. -/
def execMsun (l : Nat) (stop : Option Nat) (s : State) : Ans :=
  done s (s.instrB l (fun (s : State) a => s.macn l true true a stop))

/-- MACNI R:( n -- ) (R250-R254); `stop`: a delivery or a halt is committed after so many iterations. -/
def execMacni (l : Nat) (stop : Option Nat) (s : State) : Ans :=
  done s (s.instrB l (fun (s : State) a => s.macn l false false a stop))

/-- MSUNI R:( n -- ) (R250-R254); `stop`: a delivery or a halt is committed after so many iterations. -/
def execMsuni (l : Nat) (stop : Option Nat) (s : State) : Ans :=
  done s (s.instrB l (fun (s : State) a => s.macn l false true a stop))

/-- CLRA (R242). -/
def execClra (l : Nat) (s : State) : Ans :=
  done s (s.instr l (fun (s : State) _ => s.accOp l 0 (fun c _ => c.accSet 0)))

/-- MACS ( a b -- ) (R242). -/
def execMacs (l : Nat) (s : State) : Ans :=
  done s (s.instr l (fun (s : State) _ => s.accOp l 2 (fun c v => c.accAdd (product true (wAt v 1) (wAt v 0)))))

/-- MSUS ( a b -- ) (R242). -/
def execMsus (l : Nat) (s : State) : Ans :=
  done s (s.instr l (fun (s : State) _ => s.accOp l 2 (fun c v => c.accAdd (-(product true (wAt v 1) (wAt v 0))))))

/-- MACSI ( a b -- ) (R242). -/
def execMacsi (l : Nat) (s : State) : Ans :=
  done s (s.instr l (fun (s : State) _ => s.accOp l 2 (fun c v => c.accAdd (product false (wAt v 1) (wAt v 0)))))

/-- MSUSI ( a b -- ) (R242). -/
def execMsusi (l : Nat) (s : State) : Ans :=
  done s (s.instr l (fun (s : State) _ => s.accOp l 2 (fun c v => c.accAdd (-(product false (wAt v 1) (wAt v 0))))))

/-- MPYS ( a b -- ) (R242). -/
def execMpys (l : Nat) (s : State) : Ans :=
  done s (s.instr l (fun (s : State) _ => s.accOp l 2 (fun c v => c.accSet (product true (wAt v 1) (wAt v 0)))))

/-- MPYSI ( a b -- ) (R242). -/
def execMpysi (l : Nat) (s : State) : Ans :=
  done s (s.instr l (fun (s : State) _ => s.accOp l 2 (fun c v => c.accSet (product false (wAt v 1) (wAt v 0)))))

/-- ADDA ( x -- ) (R242). -/
def execAdda (l : Nat) (s : State) : Ans :=
  done s (s.instr l (fun (s : State) _ => s.accOp l 1 (fun c v => c.accAdd ((wAt v 0).toInt * 2 ^ 32))))

/-- ADDAL ( x -- ) (R242). -/
def execAddal (l : Nat) (s : State) : Ans :=
  done s (s.instr l (fun (s : State) _ => s.accOp l 1 (fun c v => c.accAdd (wAt v 0).toInt)))

/-- NEGA (R242). -/
def execNega (l : Nat) (s : State) : Ans :=
  done s (s.instr l (fun (s : State) _ => s.accOp l 0 (fun c _ => c.accSet (-c.acc.toInt))))

/-- LDA ( lo hi -- ) (R242). -/
def execLda (l : Nat) (s : State) : Ans :=
  done s (s.instr l (fun (s : State) _ => s.accOp l 2 (fun c v => c.loadAcc (wAt v 1) (wAt v 0))))

/-- ASLA s (R243). -/
def execAsla (l : Nat) (sh : BitVec 6) (s : State) : Ans :=
  done s (s.instr l (fun (s : State) _ => s.accOp l 0 (fun c _ => c.accSet (c.acc.toInt * 2 ^ sh.toNat))))

/-- ASRA s: floor, never AV (R243). -/
def execAsra (l : Nat) (sh : BitVec 6) (s : State) : Ans :=
  done s (s.instr l (fun (s : State) _ => s.accOp l 0 (fun c _ => c.asra sh.toNat)))

/-- A reserved code: an effect within the bounds of R245. -/
def execReservedCode (l : Nat) (_code : BitVec 16) (e : ReservedEffect) (s : State) : Ans :=
  done s (s.instr l (fun (s : State) _ => s.reserved l e))

end Sys2Proof.Machine
end

