-- ==== Sys2Proof/Machine/CoreStack.lean ====
section
/-! DEFINITION. The meanings of the literals (R221, R222), the stack group (R227), the stack immediate (R237) and the special registers (R196). -/

namespace Sys2Proof.Machine

/-- LIT ( -- v ) (R221). -/
def execLit (l : Nat) (v : BitVec 15) (s : State) : Ans :=
  done s (s.instr l (fun (s : State) _ => s.stackOp l 0 1 (fun _ => [v.signExtend 32])))

/-- LITX ( a -- (a << 12) | lit ) (R222). -/
def execLitx (l : Nat) (v : BitVec 12) (s : State) : Ans :=
  done s (s.instr l (fun (s : State) _ => s.unary l (fun x => (x <<< 12) ||| v.zeroExtend 32)))

/-- NOP ( -- ) (R227). -/
def execNop (l : Nat) (s : State) : Ans := done s (s.instr l (fun (s : State) _ => s.stackOp l 0 0 (fun _ => [])))

/-- DUP ( a -- a a ) (R227). -/
def execDup (l : Nat) (s : State) : Ans :=
  done s (s.instr l (fun (s : State) _ => s.stackOp l 1 2 (fun v => [wAt v 0, wAt v 0])))

/-- DROP ( a -- ) (R227). -/
def execDrop (l : Nat) (s : State) : Ans := done s (s.instr l (fun (s : State) _ => s.stackOp l 1 0 (fun _ => [])))

/-- SWAP ( a b -- b a ) (R227). -/
def execSwap (l : Nat) (s : State) : Ans :=
  done s (s.instr l (fun (s : State) _ => s.stackOp l 2 2 (fun v => [wAt v 0, wAt v 1])))

/-- OVER ( a b -- a b a ) (R227). -/
def execOver (l : Nat) (s : State) : Ans :=
  done s (s.instr l (fun (s : State) _ => s.stackOp l 2 3 (fun v => [wAt v 1, wAt v 0, wAt v 1])))

/-- ROT ( a b c -- b c a ) (R227). -/
def execRot (l : Nat) (s : State) : Ans :=
  done s (s.instr l (fun (s : State) _ => s.stackOp l 3 3 (fun v => [wAt v 1, wAt v 0, wAt v 2])))

/-- NIP ( a b -- b ) (R227). -/
def execNip (l : Nat) (s : State) : Ans :=
  done s (s.instr l (fun (s : State) _ => s.stackOp l 2 1 (fun v => [wAt v 0])))

/-- TUCK ( a b -- b a b ) (R227). -/
def execTuck (l : Nat) (s : State) : Ans :=
  done s (s.instr l (fun (s : State) _ => s.stackOp l 2 3 (fun v => [wAt v 0, wAt v 1, wAt v 0])))

/-- DUP2 ( a b -- a b a b ) (R227). -/
def execDup2 (l : Nat) (s : State) : Ans :=
  done s (s.instr l (fun (s : State) _ => s.stackOp l 2 4 (fun v => [wAt v 1, wAt v 0, wAt v 1, wAt v 0])))

/-- DROP2 ( a b -- ) (R227). -/
def execDrop2 (l : Nat) (s : State) : Ans := done s (s.instr l (fun (s : State) _ => s.stackOp l 2 0 (fun _ => [])))

/-- TOR ( a -- ) R:( -- a ) (R227). -/
def execTor (l : Nat) (s : State) : Ans := done s (s.instr l (fun (s : State) _ => s.torOp l))

/-- FROMR ( -- a ) R:( a -- ) (R227). -/
def execFromr (l : Nat) (s : State) : Ans := done s (s.instr l (fun (s : State) _ => s.fromrOp l true))

/-- RFETCH ( -- a ) R:( a -- a ) (R227). -/
def execRfetch (l : Nat) (s : State) : Ans := done s (s.instr l (fun (s : State) _ => s.fromrOp l false))

/-- RDROP R:( a -- ) (R227). -/
def execRdrop (l : Nat) (s : State) : Ans :=
  done s (s.instr l (fun (s : State) _ => (s.prepare (s.who l) true 1 0).bind (fun s _ => .ok (s.popN l true 1) ())))

/-- PICK i ( xi … x0 -- xi … x0 xi ) (R237); i of 16 and more is illegal (R244). -/
def execPick (l : Nat) (i : BitVec 8) (s : State) : Ans :=
  done s (s.instr l (fun (s : State) _ => s.pickOp l i.toNat))

/-- RSR n ( -- v ) (R196). -/
def execRsr (l : Nat) (n : BitVec 8) (s : State) : Ans := done s (s.instr l (fun (s : State) a => s.rsr l a n.toNat))

/-- WSR n ( v -- ) (R196), each number by its own rule. -/
def execWsr (l : Nat) (n : BitVec 8) (s : State) : Ans := done s (s.instr l (fun (s : State) _ => s.wsr l n.toNat))

/-- WSR of DSP, or of RSP (`r`) (R202). -/
def execWsrStackPointer (l : Nat) (r : Bool) (s : State) : Ans :=
  done s (s.instr l (fun (s : State) _ => s.wsrPointer l r))

/-- WSR of a base or limit of a stack (R202). -/
def execWsrStackBound (l : Nat) (r : Bool) (lim : Bool) (s : State) : Ans :=
  done s (s.instr l (fun (s : State) _ => s.wsrBound l r lim))

/-- WSR STW (R208). -/
def execWsrStw (l : Nat) (s : State) : Ans := done s (s.instr l (fun (s : State) _ => s.wsrStw l))

end Sys2Proof.Machine
end

