-- ==== Sys2Proof/Machine/Request.lean ====
section
/-! DEFINITION. What the commands that are not instructions share: a register written or read by a requester (R9, R240, R430), a mode
request (R42, R427), the store buffer's ports and the shared bus (R263-R269), the ends of MRAM operations (R334, R335), and the TAP
(R459). -/

namespace Sys2Proof.Machine

/-! ### Register requests -/

/-- Core `l` writes `n` bytes of `v` at the register address `a` now (R9, R240): the checks of a store come first, and its older stores
to the peripheral region complete before it (R269). A fault is taken at the core's PC. -/
def State.coreWrite (s : State) (l a n : Nat) (v : Word) : State :=
  if !s.runs l || decide (a < 0x40000000) then s
  else
    let w := s.who l
    match s.dataFault w .write a n v with
    | some f => s.faultEntry l f (s.core l).pc
    | none => (s.sbClear l (fun e => e.tgt == .periph)).busWrite w (ownAddr l a) v

/-- Core `l` reads `n` bytes at the register address `a` now; `rdata` is what the core receives. -/
def State.coreRead (s : State) (l a n : Nat) : State :=
  if !s.runs l || decide (a < 0x40000000) then s
  else
    match s.load (s.who l) a n with
    | .ok s v => { s with rdata := w32 v }
    | .bad s f => s.faultEntry l f (s.core l).pc

/-- The Staff port makes a window access from its start to its end (R430, R431). The window serves one access at a time. -/
def State.windowDo (s : State) (x : WinAccess) : State :=
  if s.staff.access.isSome then s
  else
    let s := (s.updStaff (fun t => { t with access := some x })).winComplete
    if x.write then s else { s with rdata := w32 s.staff.winData }

/-- A requester writes a register, by `n` bytes. -/
def State.writeN (s : State) (r : Rq) (a n : Nat) (v : Word) : State :=
  match r with
  | .core l => s.coreWrite l a n v
  | .staff => s.windowDo { write := true, addr := a, n := n, val := v.toNat }

/-- A requester writes a register. -/
def State.request (s : State) (r : Rq) (a : Nat) (v : Word) : State := s.writeN r a 4 v

/-- A requester reads a register. -/
def State.requestRead (s : State) (r : Rq) (a : Nat) : State :=
  match r with
  | .core l => s.coreRead l a 4
  | .staff => s.windowDo { write := false, addr := a, n := 4, val := 0 }

/-- A requester writes one field of a register, its other fields as they read. -/
def State.requestFld (s : State) (r : Rq) (a : Nat) (f : F) (x : Nat) : State := s.request r a (f.put (s.rd a) x)

/-- A requester asks for a mode: a core through MODEREQ (R42), the Staff port through STMODEREQ (R427). -/
def State.askMode (s : State) (r : Rq) (m : Mode) : State :=
  match r with
  | .core l => s.coreWrite l R.MODEREQ 4 (R.MODEREQ_KEY.put (w32 m.code) 0xA55A)
  | .staff => s.staffSend { enroll := false, certOk := false } 2 0x32 (0xA500 + m.code)

/-- A world control block's register as a core reaches it: its own view (`block` none), or the block of a core (R280). -/
def blockAddr (block : Option Nat) (off : Nat) : Nat :=
  match block with
  | none => 0x400E0800 + off
  | some l => 0x400E1000 + 0x400 * l + off

/-- CORERUN as it reads with the bit of core `l` changed. -/
def State.corerun (s : State) (l : Nat) (on : Bool) : Word :=
  let v := s.rd R.CORERUN
  if on then v ||| w32 (2 ^ l) else v &&& ~~~(w32 (2 ^ l))

/-! ### The store buffer's ports (R269) -/

/-- The CCLK that instructions of core `l` have waited for the entry: SBOVL (R270, R275, R276) and SBFULL (R269). -/
def State.sbWaited (s : State) (l ovl full : Nat) : State :=
  (s.busCount l R.SBOVL R.SBOVL_CCLK ovl).busCount l R.SBFULL R.SBFULL_CCLK full

/-- STORE_BUFFER_DRAIN: by the TCM port, the oldest TCM entry completes and leaves; by the bus port, the oldest completed entry leaves
(R269). -/
def State.sbPort (s : State) (l : Nat) (tcm : Bool) (ovl full : Nat) : State :=
  let p (e : SbEntry) : Bool := if tcm then e.tgt == .tcm else e.done
  if s.clocks && (s.core l).sb.any p then (s.sbLeave l p).sbWaited l ovl full else s

/-- The entry that the bus port presents: the oldest bus entry not yet presented whose older entries to the same target have completed
(R269); with its place in the buffer. -/
def State.sbPresents (s : State) (l : Nat) : Option (Nat × SbEntry) :=
  let q := (s.core l).sb
  let queued := s.mrq.any (fun op => match op with | .write who _ _ _ => who == l | _ => false)
  let ready (x : SbEntry × Nat) : Bool :=
    let e := x.1
    e.tgt != .tcm && !e.done && !(e.tgt == .mram && queued) && (q.take x.2).all (fun o => o.tgt != e.tgt || o.done)
  (q.zipIdx.find? ready).map (fun x => (x.2, x.1))

/-- The transfer of the entry that core `l` presents ends (R269): it completes, but to MRAM, where its program follows (R335). -/
def State.sbTransfer (s : State) (l : Nat) : State :=
  match s.sbPresents l with
  | none => s
  | some (i, e) =>
    if e.tgt == .mram then s.mrPush (.write l e.addr e.n e.val)
    else
      let s := s.sbFinish l e
      s.setCore l { s.core l with sb := (s.core l).sb.set i { e with done := true } }

/-- The class of R266 in which a member of the bus stands. -/
def busClass : BusMember → Nat
  | .core 0 => 0
  | .enward => 1
  | .refill => 2
  | _ => 3

/-- The member is there. -/
def Variant.hasMember (v : Variant) : BusMember → Bool
  | .core l => v.hasCore l
  | .enward => v.enward
  | .mac m => decide (m < v.nMac)
  | _ => true

/-- The member has the transfer pending: a core's buffered store is one that it presents, a MEMW write one that waits, and a core that
waits in WAIT makes no access of its own (R235); the stores it made before WAIT still leave the buffer (R269). -/
def State.busPending (s : State) (m : BusMember) (x : BusXfer) : Bool :=
  match m, x with
  | .core l, .store => (s.sbPresents l).isSome
  | .core l, _ => !(s.core l).waiting
  | .refill, .store => !s.memq.isEmpty
  | _, .store => false
  | _, .atomic => false
  | _, _ => true

/-- The PSCLK for which a transfer holds the bus (R265): 1 up to 4 bytes within one aligned word, else 2. -/
def State.busHold (s : State) (m : BusMember) (x : BusXfer) : Nat :=
  match m, x with
  | .core l, .store => (s.sbPresents l).elim 1 (fun e => if e.2.addr % 4 + e.2.n ≤ 4 then 1 else 2)
  | _, .store => 1
  | _, .word => 1
  | _, _ => 2

/-- BUS_TRANSFER (R265-R268): a pending transfer granted after `wait` PSCLK holds the bus for its time and ends. A buffered store, or the
oldest MEMW write, then takes effect; what the other transfers move is moved by the command that uses it. -/
def State.busTransfer (s : State) (m : BusMember) (x : BusXfer) (wait : Nat) : State :=
  if !s.clocks || !s.variant.hasMember m || !s.busPending m x then s
  else
    let s := s.count (R.BUSUSE (busClass m)) R.BUSUSE_PSCLK (s.busHold m x)
    match m with
    | .core l =>
      let s := s.busCount l R.BUSSTALL R.BUSSTALL_WAIT wait
      let top (s : State) (p : Nat) : State := s.setFld (R.BUSMAX p) R.BUSMAX_MAX (max (s.fld (R.BUSMAX p) R.BUSMAX_MAX) (min 0xFFFF wait))
      let p := s.variant.phys l
      let s := top s p
      let s := if l = 0 then top s (p + 1) else s
      if x == .store then s.sbTransfer l else s
    | .refill => if x == .store then s.memwDone else s
    | _ => s

/-! ### Fetch lines and MRAM (R263, R334, R335) -/

/-- FETCH_LINE_ARRIVAL: core `l` holds the line of `a` as memory has it, and the latest other one. A line with an uncorrectable word is
not held, so that its fetch meets the error. -/
def State.lineArrives (s : State) (l a : Nat) : State :=
  let b := a / 16 * 16
  match targetOf b with
  | some .sram | some .mram =>
    if !s.clocks || !s.variant.hasCore l || (s.core l).waiting then s
    else
      let r := s.eccRead b 16
      let c := r.1.core l
      let old := c.lines.filter (fun x => x.1 != b)
      if r.2 then r.1.setCore l { c with lines := old }
      else r.1.setCore l { c with lines := (b, r.1.peek 16 b) :: old.take 1 }
  | _ => s

/-- MRAM_READ_COMPLETE: a read of the array, queued behind the operations that the controller holds (R334, R336), checks the 64-bit word
of `a`; a core's fetch also brings it the line. -/
def State.mramRead (s : State) (a : Nat) (fetch : Option Nat) : State :=
  if !s.clocks || memKind a != 3 || decide (a < 0x10000000) || decide (0x10800000 ≤ a) then s
  else
    let s := s.mrFlush
    match fetch with
    | some l => s.lineArrives l a
    | none =>
      let r := s.eccRead (a / 8 * 8) 8
      { r.1 with rdata := w32 (r.1.peek 4 (a / 4 * 4)) }

/-- MRAM_PROGRAM_COMPLETE (R335): no program runs in a dip of VDDM or VDD (R516). -/
def State.mramProgram (s : State) : State :=
  if !s.clocks || ((s.dip.1 || s.dip.2) && !s.mrRun) then s else s.mrNext

/-! ### Events that several shared operations make -/

/-- PIN_FUNCTION_SWITCH at edge `k` (R191). -/
def State.pinSwitchAt (s : State) (b k : Nat) : State :=
  let s := s.advance k
  s.pinSwitch s.drive b

/-- A RETRACT, and a CONFIRM, for every map entry of its owner and TAG (R373). -/
def State.fcRetracts (s : State) (src tag : Nat) : State := (s.fcMatch src tag).foldl State.fcRetracted s
def State.fcConfirms (s : State) (src tag : Nat) : State := (s.fcMatch src tag).foldl State.fcConfirmed s

/-- UART_FORM_GAP_TIMEOUT (R412): the request is discarded and counted. -/
def State.gapTimeout (s : State) : State :=
  if !s.staff.uart || s.mode == .night then s else s.updStaff (fun x => { x with frmErrs := min 255 (x.frmErrs + 1) })

/-- The STCMD code of SETKEY for a slot: 1 the session key, 3 to 6 the customer keys (R452). -/
def setkeyCode (slot : Nat) : Nat := if slot = 1 then 0x38 else 0x37 + min slot 6

/-- A CRCTL value with GO. -/
def crWord (op key len : Nat) : Word := w32 (op + 16 * (key % 4) + 256 * (len % 32) + 2 ^ 31)

/-! ### The TAP (R459) -/

/-- The value of IDCODE: DEVID.STEP, 0x4816, the manufacturer's code (a free value: the spec does not give it), and bit 0 of IEEE
1149.1. -/
def State.idcode (s : State) : Word × State :=
  let f := s.free
  (w32 (2 ^ 28 * (s.otp.step % 16) + 0x4816 * 4096 + f.1.toNat % 2048 * 2 + 1), f.2)

/-- JTAG_INSTRUCTION: nothing outside SERVICE. BYPASS, SAMPLE/PRELOAD and EXTEST move the boundary register alone, whose cells the spec
does not list. -/
def State.jtag (s : State) (op : JtagOp) : State :=
  let onCore (l : Nat) (f : Core → Core) : State := if s.variant.hasCore l then s.setCore l (f (s.core l)) else s
  if s.mode != .service || !s.clocks then s
  else match op with
    | .bypass => s
    | .sample => s
    | .extest => s
    | .idcode =>
      let r := s.idcode
      { r.2 with rdata := r.1 }
    | .halt l => onCore l (fun c => { c with debugHalt := true })
    | .resume l => onCore l (fun c => { c with debugHalt := false })
    | .readCore l n => { s with rdata := if s.variant.hasCore l then (s.specialReg l (s.core l).pc n.toNat).getD 0 else 0 }
    | .writeCore l n v =>
      onCore l (fun c => if n = 0 then { c with pc := v &&& 0xFFFFFFFE } else (c.wsr n.toNat v).getD c)
    | .rawTap on src =>
      s.rawenWrite .staff (R.RNGCFG_RAWSRC.put (R.RNGCFG_RAWEN.put 0 on.toNat) src)
    | .rawWord =>
      let r := s.regRead 5 R.RNGRAW
      { r.2 with rdata := r.1 }

end Sys2Proof.Machine
end

