-- ==== Sys2Proof/Machine/Delivery.lean ====
section
/-! DEFINITION. The meanings of the commands of one part of the table: The store buffer, the bus, regions, interrupts, deliveries and MRAM (R263-R269, R291, R302-R326, R334-R340). -/

namespace Sys2Proof.Machine

/-- STORE_BUFFER_DRAIN (R269). -/
def execStoreBufferDrain (l : Nat) (tcm : Bool) (ovl full : Nat) (s : State) : Ans := done s (s.sbPort l tcm ovl full)

/-- BUS_TRANSFER (R265). -/
def execBusTransfer (m : BusMember) (x : BusXfer) (wait : Nat) (s : State) : Ans := done s (s.busTransfer m x wait)

/-- FETCH_LINE_ARRIVAL (R263). -/
def execFetchLineArrival (l : Nat) (a : Word) (s : State) : Ans := done s (s.lineArrives l a.toNat)

/-- REGION_WRITE (R291). -/
def execRegionWrite (r : Rq) (block : Option Nat) (guard lim : Bool) (n : Nat) (v : Word) (s : State) : Ans :=
  done s (s.request r (blockAddr block (0x100 + 0x80 * (!guard).toNat + 8 * n + 4 * lim.toNat)) v)

/-- IRQCFG_WRITE (R304). -/
def execIrqcfgWrite (r : Rq) (n : Nat) (v : Word) (s : State) : Ans := done s (s.request r (R.IRQCFG n) v)

/-- PENDSET_WRITE (R306). -/
def execPendsetWrite (r : Rq) (b : Nat) (mask : Word) (s : State) : Ans := done s (s.request r (R.PENDSET b) mask)

/-- PENDCLR_WRITE (R306). -/
def execPendclrWrite (r : Rq) (b : Nat) (mask : Word) (s : State) : Ans := done s (s.request r (R.PENDCLR b) mask)

/-- ENSET_WRITE (R306). -/
def execEnsetWrite (r : Rq) (b : Nat) (mask : Word) (s : State) : Ans := done s (s.request r (R.ENSET b) mask)

/-- ENCLR_WRITE (R306). -/
def execEnclrWrite (r : Rq) (b : Nat) (mask : Word) (s : State) : Ans := done s (s.request r (R.ENCLR b) mask)

/-- INTERRUPT_ENTRY (R315). -/
def execInterruptEntry (l : Nat) (s : State) : Ans := done s (s.interruptEntry l)

/-- LESSON_ENTRY (R322). -/
def execLessonEntry (l : Nat) (s : State) : Ans := done s (s.lessonEntry l)

/-- NMI_ENTRY (R302). -/
def execNmiEntry (l : Nat) (s : State) : Ans := done s (s.nmiEntry l)

/-- LESSON_TIME_LIMIT (R324). -/
def execLessonTimeLimit (l : Nat) (s : State) : Ans := done s (s.lessonLimit l)

/-- MRAM_READ_COMPLETE (R334). -/
def execMramReadComplete (a : Word) (fetch : Option Nat) (s : State) : Ans := done s (s.mramRead a.toNat fetch)

/-- MRAM_PROGRAM_COMPLETE (R335). -/
def execMramProgramComplete (s : State) : Ans := done s (s.mramProgram)

/-- SCRUB_READ (R338). -/
def execScrubRead (s : State) : Ans := done s (s.scrubRead)

/-- MRSCRUB_WRITE (R338). -/
def execMrscrubWrite (r : Rq) (v : Word) (s : State) : Ans := done s (s.request r R.MRSCRUB v)

/-- LINE_OPEN (R340). -/
def execLineOpen (r : Rq) (line : Nat) (s : State) : Ans :=
  done s (s.request r R.MRLCMD (R.MRLCMD_LINE.put (R.MRLCMD_CMD.put 0 1) line))

/-- LINE_CLOSE (R340). -/
def execLineClose (r : Rq) (line : Nat) (s : State) : Ans :=
  done s (s.request r R.MRLCMD (R.MRLCMD_LINE.put (R.MRLCMD_CMD.put 0 2) line))

/-- LINE_ZERO (R340). -/
def execLineZero (r : Rq) (line : Nat) (s : State) : Ans :=
  done s (s.request r R.MRLCMD (R.MRLCMD_LINE.put (R.MRLCMD_CMD.put 0 3) line))

end Sys2Proof.Machine
end

