-- ==== Sys2Proof/Machine/Drives.lean ====
section
/-! DEFINITION. The meanings of the commands of one part of the table: Outputs and pins (Outputs and Pins). -/

namespace Sys2Proof.Machine

/-- EVSET_REGISTER_WRITE (R175). -/
def execEvsetRegisterWrite (r : Rq) (n : Nat) (mask : Word) (s : State) : Ans := done s (s.request r (R.EVSET n) mask)

/-- EVCLR_REGISTER_WRITE (R175). -/
def execEvclrRegisterWrite (r : Rq) (n : Nat) (mask : Word) (s : State) : Ans := done s (s.request r (R.EVCLR n) mask)

/-- EVTOG_REGISTER_WRITE (R175). -/
def execEvtogRegisterWrite (r : Rq) (n : Nat) (mask : Word) (s : State) : Ans := done s (s.request r (R.EVTOG n) mask)

/-- EVCFG_WRITE (R174). -/
def execEvcfgWrite (r : Rq) (line : Nat) (v : Word) (s : State) : Ans := done s (s.request r (R.EVCFG line) v)

/-- FORCE_WRITE (R178). -/
def execForceWrite (r : Rq) (levels : Bool) (n : Nat) (v : Word) (s : State) : Ans :=
  done s (s.request r (if levels then R.EVFLVL n else R.EVFEN n) v)

/-- PTRATE_WRITE (R179). -/
def execPtrateWrite (r : Rq) (g : Nat) (v : Word) (s : State) : Ans := done s (s.request r (R.PTRATE g) v)

/-- PTCTL_GO (R181). -/
def execPtctlGo (r : Rq) (g : Nat) (s : State) : Ans := done s (s.request r (R.PTCTL g) (R.PTCTL_GO.put 0 1))

/-- PTCTL_STOP (R181). -/
def execPtctlStop (r : Rq) (g : Nat) (s : State) : Ans := done s (s.request r (R.PTCTL g) (R.PTCTL_STOP.put 0 1))

/-- PULSE_TRAIN_DONE (R181). -/
def execPulseTrainDone (g : Nat) (s : State) : Ans := done s (s.ptDone g)

/-- DIRSU_ELAPSED (R182). -/
def execDirsuElapsed (g k : Nat) (s : State) : Ans := done s ((s.advance k).dirsuDone g)

/-- PWMPER_WRITE (R185). -/
def execPwmperWrite (r : Rq) (c : Nat) (v : Word) (s : State) : Ans := done s (s.request r (R.PWMPER c) v)

/-- PWMDUTY_WRITE (R185). -/
def execPwmdutyWrite (r : Rq) (c : Nat) (v : Word) (s : State) : Ans := done s (s.request r (R.PWMDUTY c) v)

/-- SDCODE_WRITE (R186). -/
def execSdcodeWrite (r : Rq) (i : Nat) (v : Word) (s : State) : Ans := done s (s.request r (R.SDCODE i) v)

/-- PINFN_WRITE (R190). -/
def execPinfnWrite (r : Rq) (b : Nat) (v : Word) (s : State) : Ans := done s (s.request r (R.PINFN b) v)

/-- PIN_FUNCTION_SWITCH (R191). -/
def execPinFunctionSwitch (b k : Nat) (s : State) : Ans := done s (s.pinSwitchAt b k)

/-- PINBANK_WRITE (R194). -/
def execPinbankWrite (r : Rq) (v : Word) (s : State) : Ans := done s (s.request r R.PINBANK v)

/-- BANK_SUPPLY_MISMATCH (R194). -/
def execBankSupplyMismatch (bank code : Nat) (inRange : Bool) (s : State) : Ans :=
  done s (s.bankSupply bank code inRange)

/-- PULSE_TRAIN_STEP (R179). -/
def execPulseTrainStep (g k : Nat) (s : State) : Ans := done s ((s.advance k).genStep g k)

/-- PWM_PERIOD_START (R185). -/
def execPwmPeriodStart (c k : Nat) (s : State) : Ans := done s ((s.advance k).pwmPeriod c k)

end Sys2Proof.Machine
end

