-- ==== Sys2Proof/Machine/Keys.lean ====
section
/-! DEFINITION. The meanings of the commands of one part of the table: Keys, the crypto engine and random numbers (Identity, Randomness and Secrets). -/

namespace Sys2Proof.Machine

/-- KEYCMD_SET (R454). -/
def execKeycmdSet (r : Rq) (slot : Nat) (s : State) : Ans :=
  done s (s.request r R.KEYCMD (R.KEYCMD_KEY.put (R.KEYCMD_SLOT.put (R.KEYCMD_CMD.put 0 1) slot) 0xC3A5))

/-- KEYCMD_GEN (R454). -/
def execKeycmdGen (r : Rq) (slot : Nat) (s : State) : Ans :=
  done s (s.request r R.KEYCMD (R.KEYCMD_KEY.put (R.KEYCMD_SLOT.put (R.KEYCMD_CMD.put 0 2) slot) 0xC3A5))

/-- KEYCMD_ERASE (R454). -/
def execKeycmdErase (r : Rq) (slot : Nat) (s : State) : Ans :=
  done s (s.request r R.KEYCMD (R.KEYCMD_KEY.put (R.KEYCMD_SLOT.put (R.KEYCMD_CMD.put 0 3) slot) 0xC3A5))

/-- AES_ENCRYPT (R456). -/
def execAesEncryptGo (r : Rq) (key : Nat) (s : State) : Ans := done s (s.request r R.CRCTL (crWord 1 key 0))

/-- AES_DECRYPT (R456). -/
def execAesDecryptGo (r : Rq) (key : Nat) (s : State) : Ans := done s (s.request r R.CRCTL (crWord 2 key 0))

/-- CMAC_START (R456). -/
def execCmacStart (r : Rq) (key : Nat) (s : State) : Ans := done s (s.request r R.CRCTL (crWord 3 key 0))

/-- CMAC_UPDATE (R456). -/
def execCmacUpdate (r : Rq) (key : Nat) (s : State) : Ans := done s (s.request r R.CRCTL (crWord 4 key 0))

/-- CMAC_FINAL (R456). -/
def execCmacFinal (r : Rq) (key len : Nat) (s : State) : Ans := done s (s.request r R.CRCTL (crWord 5 key len))

/-- CRYPTO_DONE (R456). -/
def execCryptoDone (s : State) : Ans := done s (s.cryptoDone)

/-- SOURCE_STARTUP_PASS (R460). -/
def execSourceStartupPass (i : Nat) (s : State) : Ans := done s (s.sourcePass i)

/-- SOURCE_HEALTH_FAIL (R460). -/
def execSourceHealthFail (i : Nat) (apt : Bool) (s : State) : Ans := done s (s.sourceFail i apt)

/-- DRBG_INSTANTIATE (R464). -/
def execDrbgInstantiate (n : Nat) (s : State) : Ans := done s (s.drbgInstantiate n)

/-- DRBG_RESEED (R463). -/
def execDrbgReseed (n k : Nat) (bits : Bool) (s : State) : Ans := done s ((s.advance k).drbgReseed n bits)

/-- DRBGOUT_READ (R465). -/
def execDrbgoutRead (r : Rq) (s : State) : Ans := done s (s.requestRead r R.DRBGOUT)

/-- DRBG_REFILL (R465). -/
def execDrbgRefill (n : Nat) (s : State) : Ans := done s (s.drbgRefill n)

/-- RAWEN_WRITE (R466). -/
def execRawenWrite (r : Rq) (on : Bool) (src : Nat) (s : State) : Ans :=
  done s (s.request r R.RNGCFG (R.RNGCFG_RAWSRC.put (R.RNGCFG_RAWEN.put 0 on.toNat) src))

end Sys2Proof.Machine
end

