-- ==== Sys2Proof/Machine/Legacy.lean ====
section
/-! DEFINITION. The meanings of the commands of one part of the table: The legacy interfaces: Recitation, UARTs, Attendance, Ethernet (Legacy Interfaces). -/

namespace Sys2Proof.Machine

/-- RCCTL_GO (R386). -/
def execRcctlGo (r : Rq) (c start : Nat) (s : State) : Ans :=
  done s (s.request r (R.RCCTL c) (R.RCCTL_START.put (R.RCCTL_GO.put 0 1) start))

/-- RCCTL_STOP (R386). -/
def execRcctlStop (r : Rq) (c : Nat) (s : State) : Ans := done s (s.request r (R.RCCTL c) (R.RCCTL_STOP.put 0 1))

/-- RCCTL_FLUSHTX (R387). -/
def execRcctlFlushtx (r : Rq) (c : Nat) (s : State) : Ans := done s (s.request r (R.RCCTL c) (R.RCCTL_FLUSHTX.put 0 1))

/-- RCCTL_FLUSHRX (R387). -/
def execRcctlFlushrx (r : Rq) (c : Nat) (s : State) : Ans := done s (s.request r (R.RCCTL c) (R.RCCTL_FLUSHRX.put 0 1))

/-- RCTX_WRITE (R387). -/
def execRctxWrite (r : Rq) (c : Nat) (v : Word) (s : State) : Ans := done s (s.request r (R.RCTX c) v)

/-- RCRX_READ (R387). -/
def execRcrxRead (r : Rq) (c : Nat) (s : State) : Ans := done s (s.requestRead r (R.RCRX c))

/-- RCCODE_WRITE (R390). -/
def execRccodeWrite (r : Rq) (c n : Nat) (v : Word) (s : State) : Ans := done s (s.request r (R.RCCODE c n) v)

/-- DRIVE (R384). -/
def execRcDrive (c k : Nat) (s : State) : Ans := done s (s.rcDriveOp c k false)

/-- ENABLE (R384). -/
def execRcEnable (c k : Nat) (s : State) : Ans := done s (s.rcDriveOp c k true)

/-- DELAY (R384). -/
def execRcDelay (c k : Nat) (s : State) : Ans := done s (s.rcDelay c k)

/-- WAITL (R385). -/
def execRcWaitl (c k : Nat) (acc : BitVec 16) (s : State) : Ans := done s (s.rcWaitl c k acc)

/-- WAITL_MET (R383). -/
def execRcWaitlMet (c k : Nat) (acc : BitVec 16) (s : State) : Ans := done s (s.rcWaitMet c k acc)

/-- WAITL_TIMEOUT (R385). -/
def execRcWaitlTimeout (c k : Nat) (s : State) : Ans := done s (s.rcTimeout c k)

/-- SAMPLE (R384). -/
def execRcSample (c k : Nat) (acc : BitVec 16) (s : State) : Ans := done s (s.rcSample c k acc)

/-- PUT (R384). -/
def execRcPut (c k : Nat) (s : State) : Ans := done s (s.rcPut c k)

/-- PUT_RESUME (R384). -/
def execRcPutResume (c k : Nat) (s : State) : Ans := done s (s.rcPutResume c k)

/-- GET (R384). -/
def execRcGet (c k : Nat) (s : State) : Ans := done s (s.rcGet c k)

/-- GET_RESUME (R384). -/
def execRcGetResume (c k : Nat) (s : State) : Ans := done s (s.rcGetResume c k)

/-- OUTD (R384). -/
def execRcOutd (c k : Nat) (s : State) : Ans := done s (s.rcOutd c k)

/-- CNT_LOAD (R384). -/
def execRcCntLoad (c k : Nat) (s : State) : Ans := done s (s.rcCnt c k 0)

/-- CNT_START (R384). -/
def execRcCntStart (c k : Nat) (s : State) : Ans := done s (s.rcCnt c k 1)

/-- CNT_STOP (R384). -/
def execRcCntStop (c k : Nat) (s : State) : Ans := done s (s.rcCnt c k 2)

/-- CNT_READ (R384). -/
def execRcCntRead (c k : Nat) (s : State) : Ans := done s (s.rcCnt c k 3)

/-- DJNZ (R384). -/
def execRcDjnz (c k : Nat) (s : State) : Ans := done s (s.rcDjnz c k)

/-- RC_JMP (R384). -/
def execRcJmp (c k : Nat) (s : State) : Ans := done s (s.rcJmp c k)

/-- JIF (R384). -/
def execRcJif (c k : Nat) (acc : BitVec 16) (s : State) : Ans := done s (s.rcJif c k acc)

/-- JEQ (R384). -/
def execRcJeq (c k : Nat) (s : State) : Ans := done s (s.rcJeq c k)

/-- LDI (R384). -/
def execRcLdi (c k : Nat) (s : State) : Ans := done s (s.rcLdi c k)

/-- RC_IRQ (R384). -/
def execRcIrq (c k : Nat) (s : State) : Ans := done s (s.rcIrq c k)

/-- HALT (R384). -/
def execRcHalt (c k : Nat) (s : State) : Ans := done s (s.rcHalt c k)

/-- UTX_WRITE (R393). -/
def execUtxWrite (r : Rq) (u : Nat) (v : Word) (s : State) : Ans := done s (s.request r (R.UTX u) v)

/-- URX_READ (R393). -/
def execUrxRead (r : Rq) (u : Nat) (s : State) : Ans := done s (s.requestRead r (R.URX u))

/-- UART_ENABLE (R397). -/
def execUartEnable (r : Rq) (u : Nat) (on : Bool) (s : State) : Ans :=
  done s (s.requestFld r (R.UCTL u) R.UCTL_EN on.toNat)

/-- TXBRK (R393). -/
def execTxbrk (r : Rq) (u : Nat) (on : Bool) (s : State) : Ans :=
  done s (s.requestFld r (R.UCTL u) R.UCTL_TXBRK on.toNat)

/-- UART_FLUSHRX (R397). -/
def execUartFlushrx (r : Rq) (u : Nat) (s : State) : Ans := done s (s.requestFld r (R.UCTL u) R.UCTL_FLUSHRX 1)

/-- UART_FLUSHTX (R397). -/
def execUartFlushtx (r : Rq) (u : Nat) (s : State) : Ans := done s (s.requestFld r (R.UCTL u) R.UCTL_FLUSHTX 1)

/-- UART_CHARACTER_RECEIVED (R392). -/
def execUartCharacterReceived (u k data : Nat) (par stop : Bool) (s : State) : Ans :=
  done s ((s.advance k).uartReceived u data par stop)

/-- UART_FRAME_TRANSMIT (R393). -/
def execUartFrameTransmit (u k : Nat) (s : State) : Ans := done s ((s.advance k).uartSend u)

/-- CTS_N_CHANGE (R394). -/
def execCtsNChange (u : Nat) (high : Bool) (s : State) : Ans := done s (s.uartCts u high)

/-- UART_IDLE_TIMEOUT (R397). -/
def execUartIdleTimeout (u k : Nat) (s : State) : Ans := done s ((s.advance k).uartIdle u)

/-- SCAN_CYCLE (R398). -/
def execScanCycle (k : Nat) (inputs : List Word) (word : Nat) (s : State) : Ans := done s ((s.advance k).scanCycle inputs word)

/-- ATTENDANCE_ENABLE (R400). -/
def execAttendanceEnable (r : Rq) (on : Bool) (s : State) : Ans :=
  done s (s.request r R.ACTL (R.ACTL_EN.put 0 on.toNat))

/-- CLRFLT (R400). -/
def execClrflt (r : Rq) (s : State) : Ans := done s (s.requestFld r R.ACTL R.ACTL_CLRFLT 1)

/-- AOUT_WRITE (R403). -/
def execAoutWrite (r : Rq) (n : Nat) (v : Word) (s : State) : Ans := done s (s.request r (R.AOUT n) v)

/-- AOSET_WRITE (R403). -/
def execAosetWrite (r : Rq) (n : Nat) (v : Word) (s : State) : Ans := done s (s.request r (R.AOSET n) v)

/-- AOCLR_WRITE (R403). -/
def execAoclrWrite (r : Rq) (n : Nat) (v : Word) (s : State) : Ans := done s (s.request r (R.AOCLR n) v)

/-- TRANSMIT_FRAME (R405). -/
def execTransmitFrame (m k : Nat) (abort excol : Bool) (coll : Nat) (s : State) : Ans :=
  done s ((s.advance k).macTransmit m abort excol coll)

/-- RECEIVED_FRAME (R406). -/
def execReceivedFrame (m k : Nat) (bytes : List Nat) (badFcs rxer : Bool) (s : State) : Ans :=
  done s ((s.advance k).macReceive m bytes badFcs rxer)

/-- MDIO_GO (R404). -/
def execMdioGo (r : Rq) (m phy reg data : Nat) (write : Bool) (s : State) : Ans :=
  done s (s.request r (R.ETMDIO m) (w32 (phy % 32 + 32 * (reg % 32) + 1024 * write.toNat + 2048 + 65536 * (data % 65536))))

/-- MDIO_DONE (R404). -/
def execMdioDone (m data : Nat) (s : State) : Ans := done s (s.mdioDone m data)

/-- PTPADJ_WRITE (R407). -/
def execPtpadjWrite (r : Rq) (v : Word) (s : State) : Ans := done s (s.request r R.PTPADJ v)

/-- PTPSTEP_WRITE (R407). -/
def execPtpstepWrite (r : Rq) (v : Word) (s : State) : Ans := done s (s.request r R.PTPSTEPH v)

/-- UART_FRAME_END (R396). -/
def execUartFrameEnd (u k : Nat) (s : State) : Ans := done s ((s.advance k).uartFrameEnd u)

/-- UART_BREAK_END (R392). -/
def execUartBreakEnd (u : Nat) (s : State) : Ans := done s (s.uartBreakEnd u)

end Sys2Proof.Machine
end

