-- ==== Sys2Proof/Machine/Pair.lean ====
section
/-! DEFINITION. The meanings of the commands of one part of the table: The Guard pair, fault reaction and the TAP (Guard Pair and Fault Reaction; R459). -/

namespace Sys2Proof.Machine

/-- DIVERGENCE (R494). -/
def execDivergence (what pc0 pc1 addr : Nat) (s : State) : Ans := done s (s.divergence what pc0 pc1 addr)

/-- PAIR_RESTART (R495). -/
def execPairRestart (diff : Option Nat) (s : State) : Ans := done s (s.pairRestart diff)

/-- PAIRINJ (R497). -/
def execPairinj (r : Rq) (what : Nat) (s : State) : Ans :=
  done s (s.request r R.PAIRINJ (R.PAIRINJ_WHAT.put (R.PAIRINJ_GO.put 0 1) what))

/-- WDKICK (R499). -/
def execWdkick (r : Rq) (l key : Nat) (s : State) : Ans := done s (s.request r (R.WDKICK l) (R.WDKICK_KEY.put 0 key))

/-- WATCHDOG_EXPIRY (R500). -/
def execWatchdogExpiry (l k : Nat) (s : State) : Ans := done s ((s.advance k).watchdogExpiry l)

/-- WATCHDOG_STAGE_2 (R500). -/
def execWatchdogStage2 (l k : Nat) (s : State) : Ans := done s ((s.advance k).watchdogStage2 l)

/-- G_THIRD_FAULT_RESTART (R504). -/
def execGThirdFaultRestart (s : State) : Ans := done s (s.gThirdRestart)

/-- GPOLICY_WRITE (R505). -/
def execGpolicyWrite (r : Rq) (v : Word) (s : State) : Ans := done s (s.request r R.GPOLICY v)

/-- SAFETEST (R510). -/
def execSafetest (r : Rq) (copyB : Bool) (s : State) : Ans :=
  done s (s.request r R.SAFETEST (R.SAFETEST_COPY.put (R.SAFETEST_GO.put 0 1) copyB.toNat))

/-- SAFETEST_COMPLETE (R510). -/
def execSafetestComplete (wrong : List Nat) (s : State) : Ans := done s (s.safetestDone wrong)

/-- JTAG_INSTRUCTION (R459). -/
def execJtagInstruction (op : JtagOp) (s : State) : Ans := done s (s.jtag op)

end Sys2Proof.Machine
end

