-- ==== Sys2Proof/Machine/Periods.lean ====
section
/-! DEFINITION. The meanings of the commands of one part of the table: The Timetable and the Syllabus (Timetable; Syllabus and Slot Economy). -/

namespace Sys2Proof.Machine

/-- TTNEWGO (R125). -/
def execTtnewgo (r : Rq) (s : State) : Ans := done s (s.request r R.TTNEWGO (R.TTNEWGO_GO.put 0 1))

/-- DISARM (R129). -/
def execDisarm (r : Rq) (slot : Nat) (s : State) : Ans :=
  done s (s.request r R.TTCMD (R.TTCMD_SLOT.put (R.TTCMD_CMD.put 0 1) slot))

/-- CROSSING (R130). -/
def execCrossing (slot k : Nat) (s : State) : Ans := done s ((s.advance k).detect slot k)

/-- OUTPUT_EDGE (R143). -/
def execOutputEdge (gen : Bool) (n k : Nat) (s : State) : Ans :=
  done s (if gen then (s.advance k).landGen n k else (s.advance k).landLine n k)

/-- COMPARE_FAULT (R147). -/
def execCompareFault (slot : Nat) (s : State) : Ans := done s (s.compareFault slot)

/-- FINE_DELAY_FAULT (R547). -/
def execFineDelayFault (gen : Bool) (n : Nat) (s : State) : Ans := done s (s.fineDelayFault gen n)

/-- LATENT_DIVERGENCE (R148). -/
def execLatentDivergence (slot : Nat) (s : State) : Ans := done s (s.latent slot)

/-- TTINJ (R149). -/
def execTtinj (r : Rq) (v : Word) (s : State) : Ans := done s (s.request r R.TTINJ v)

/-- TTMEMBASE_WRITE (R141). -/
def execTtmembaseWrite (r : Rq) (v : Word) (s : State) : Ans := done s (s.request r R.TTMEMBASE v)

/-- TTRESV_WRITE (R168). -/
def execTtresvWrite (r : Rq) (quota : Option Nat) (v : Word) (s : State) : Ans :=
  done s (s.request r (match quota with | some n => R.TTQUOTA n | none => R.TTRESV) v)

/-- QCMD_BIND (R153). -/
def execQcmdBind (r : Rq) (q : Nat) (s : State) : Ans := done s (s.request r (R.QCMD q) (R.QCMD_CMD.put 0 1))

/-- QCMD_START (R154). -/
def execQcmdStart (r : Rq) (q : Nat) (s : State) : Ans := done s (s.request r (R.QCMD q) (R.QCMD_CMD.put 0 2))

/-- QCMD_STOP (R154). -/
def execQcmdStop (r : Rq) (q : Nat) (s : State) : Ans := done s (s.request r (R.QCMD q) (R.QCMD_CMD.put 0 3))

/-- QCMD_FLUSH (R154). -/
def execQcmdFlush (r : Rq) (q : Nat) (s : State) : Ans := done s (s.request r (R.QCMD q) (R.QCMD_CMD.put 0 4))

/-- QCMD_UNBIND (R154). -/
def execQcmdUnbind (r : Rq) (q : Nat) (s : State) : Ans := done s (s.request r (R.QCMD q) (R.QCMD_CMD.put 0 5))

/-- QCMD_DROP (R154). -/
def execQcmdDrop (r : Rq) (q : Nat) (s : State) : Ans := done s (s.request r (R.QCMD q) (R.QCMD_CMD.put 0 6))

/-- QTAIL_WRITE (R151). -/
def execQtailWrite (r : Rq) (q : Nat) (v : Word) (s : State) : Ans := done s (s.request r (R.QTAIL q) v)

/-- REFILL (R156). -/
def execRefill (q k : Nat) (s : State) : Ans := done s (s.refill q k)

/-- PREFETCH_COMPLETE (R157). -/
def execPrefetchComplete (q k : Nat) (s : State) : Ans := done s (s.fetchDone q k)

/-- REPORT_POSTED (R161). -/
def execReportPosted (s : State) : Ans := done s (s.reportPosted)

end Sys2Proof.Machine
end

