-- ==== Sys2Proof/Machine/Port.lean ====
section
/-! DEFINITION. The meanings of the commands of one part of the table: The Staff port, its window, the snapshot and the Logbook (Staff Port; R446-R453). -/

namespace Sys2Proof.Machine

/-- SPI_FRAME (R410). -/
def execSpiFrame (env : StaffEnv) (edges : Nat) (mode3 : Bool) (v : BitVec 40) (s : State) : Ans :=
  done s (s.spiFrame env edges mode3 v.toNat)

/-- UART_FORM_REQUEST (R412). -/
def execUartFormRequest (env : StaffEnv) (whole : Bool) (v : BitVec 40) (s : State) : Ans :=
  done s (s.uartRequest env whole v.toNat)

/-- STAFF_NOP (R413). -/
def execStaffNop (s : State) : Ans := done s (s.staffSend { enroll := false, certOk := false } 0 0 0)

/-- STAFF_READ (R415). -/
def execStaffRead (a : BitVec 8) (s : State) : Ans :=
  done s (s.staffSend { enroll := false, certOk := false } 1 a.toNat 0)

/-- STAFF_WRITE (R415). -/
def execStaffWrite (env : StaffEnv) (a : BitVec 8) (v : BitVec 16) (s : State) : Ans :=
  done s (s.staffSend env 2 a.toNat v.toNat)

/-- OPEN (R418). -/
def execOpenSession (s : State) : Ans := done s (s.staffCmd { enroll := false, certOk := false } 1)

/-- NONCE_DRAWN (R420). -/
def execNonceDrawn (s : State) : Ans := done s (s.nonceDrawn)

/-- PROVE (R419). -/
def execProve (s : State) : Ans := done s (s.staffCmd { enroll := false, certOk := false } 2)

/-- CLOSE (R426). -/
def execCloseSession (s : State) : Ans := done s (s.staffCmd { enroll := false, certOk := false } 3)

/-- SNAP (R426). -/
def execSnap (s : State) : Ans := done s (s.staffCmd { enroll := false, certOk := false } 0x20)

/-- CHALLENGE_EXPIRED (R420). -/
def execChallengeExpired (k : Nat) (s : State) : Ans := done s ((s.advance k).challengeExpired)

/-- SESSION_IDLE (R420). -/
def execSessionIdle (k : Nat) (s : State) : Ans := done s ((s.advance k).sessionIdle)

/-- LOCKOUT_EXPIRED (R421). -/
def execLockoutExpired (s : State) : Ans := done s (s.lockoutExpired)

/-- WINDOW_READ_START (R431). -/
def execWindowReadStart (size : Nat) (inc : Bool) (s : State) : Ans :=
  done s (s.staffSend { enroll := false, certOk := false } 2 0x44 (size % 4 + 4 * inc.toNat + 8))

/-- WINDATAH_READ (R431). -/
def execWindatahRead (s : State) : Ans := done s (s.staffSend { enroll := false, certOk := false } 1 0x43 0)

/-- WINDOW_WRITE_START (R431). -/
def execWindowWriteStart (v : BitVec 16) (s : State) : Ans :=
  done s (s.staffSend { enroll := false, certOk := false } 2 0x43 v.toNat)

/-- WINDOW_ACCESS_COMPLETE (R430). -/
def execWindowAccessComplete (s : State) : Ans := done s (s.winComplete)

/-- SNAPSHOT_REFRESH (R435). -/
def execSnapshotRefresh (k : Nat) (s : State) : Ans := done s ((s.advance k).snapshotRefresh)

/-- SNAPCTL_NOW (R435). -/
def execSnapctlNow (r : Rq) (s : State) : Ans := done s (s.requestFld r R.SNAPCTL R.SNAPCTL_NOW 1)

/-- LOGBOOK_ENTRY (R439). -/
def execLogbookEntry (s : State) : Ans := done s (s.logProgram)

/-- ATTEST (R449). -/
def execAttest (s : State) : Ans := done s (s.staffCmd { enroll := false, certOk := false } 0x30)

/-- ATTEST_COMPLETE (R449). -/
def execAttestComplete (s : State) : Ans := done s (s.attestComplete)

/-- ATTREC (R449). -/
def execAttrec (s : State) : Ans := done s (s.staffCmd { enroll := false, certOk := false } 0x31)

/-- IDPUB (R452). -/
def execIdpub (s : State) : Ans := done s (s.staffCmd { enroll := false, certOk := false } 0x32)

/-- CERTRD (R452). -/
def execCertrd (s : State) : Ans := done s (s.staffCmd { enroll := false, certOk := false } 0x33)

/-- ENROLL (R453). -/
def execEnroll (env : StaffEnv) (s : State) : Ans := done s (s.staffCmd env 0x34)

/-- CERTWR (R452). -/
def execCertwr (env : StaffEnv) (s : State) : Ans := done s (s.staffCmd env 0x35)

/-- CERTSEAL (R452). -/
def execCertseal (env : StaffEnv) (s : State) : Ans := done s (s.staffCmd env 0x36)

/-- SETKEY (R452). -/
def execSetkey (slot : Nat) (s : State) : Ans :=
  done s (s.staffCmd { enroll := false, certOk := false } (setkeyCode slot))

/-- GENKEY (R452). -/
def execGenkey (s : State) : Ans := done s (s.staffCmd { enroll := false, certOk := false } 0x3E)

/-- ERASEKEY (R452). -/
def execErasekey (s : State) : Ans := done s (s.staffCmd { enroll := false, certOk := false } 0x3F)

/-- IDKILL (R446). -/
def execIdkill (env : StaffEnv) (s : State) : Ans := done s (s.staffCmd env 0x37)

/-- UART_FORM_GAP_TIMEOUT (R412). -/
def execUartFormGapTimeout (s : State) : Ans := done s (s.gapTimeout)

end Sys2Proof.Machine
end

