-- ==== Sys2Proof/Machine/Position.lean ====
section
/-! DEFINITION. The meanings of the commands of one part of the table: Registers in general and the position sources (R9, R64, R544; Position Sources at the Balls). -/

namespace Sys2Proof.Machine

/-- CLKOBS_WRITE (R24). -/
def execClkobsWrite (r : Rq) (v : Word) (s : State) : Ans := done s (s.request r R.CLKOBS v)

/-- REGISTER_WRITE (R9). -/
def execRegisterWrite (r : Rq) (a : Word) (size : Size) (v : Word) (s : State) : Ans :=
  done s (s.writeN r a.toNat size.bytes v)

/-- RC_FIELD_READ (R544). -/
def execRcFieldRead (r : Rq) (a : Word) (s : State) : Ans := done s (s.requestRead r a.toNat)

/-- LATCHED_READ (R64). -/
def execLatchedRead (r : Rq) (a : Word) (s : State) : Ans := done s (s.requestRead r a.toNat)

/-- CHANNEL_MODE_WRITE (R61). -/
def execChannelModeWrite (r : Rq) (ch : Nat) (v : Word) (s : State) : Ans := done s (s.request r (R.PCCTL ch) v)

/-- CHANNEL_CLEAR (R75). -/
def execChannelClear (r : Rq) (ch : Nat) (s : State) : Ans := done s (s.requestFld r (R.PCCTL ch) R.PCCTL_CLR 1)

/-- QUAD_STEP (R66). -/
def execQuadStep (ch k : Nat) (a b : Bool) (s : State) : Ans := done s (s.quadEvent ch k a b)

/-- INDEX_EDGE (R71). -/
def execIndexEdge (ch k : Nat) (z : Bool) (s : State) : Ans := done s (s.indexEvent ch k z)

/-- INDEX_ARM (R71). -/
def execIndexArm (r : Rq) (ch : Nat) (s : State) : Ans := done s (s.requestFld r (R.PCIDXCTL ch) R.PCIDXCTL_ARM 1)

/-- WIRE_BREAK (R73). -/
def execWireBreak (ch k : Nat) (pairs : List (Nat × Nat)) (s : State) : Ans := done s (s.wireBreak ch k pairs)

/-- INVALID_EPISODE_END (R73). -/
def execInvalidEpisodeEnd (ch pair since k : Nat) (s : State) : Ans := done s (s.episodeEnd ch pair since k)

/-- CHANNEL_SYNC_COMPLETE (R75). -/
def execChannelSyncComplete (ch k : Nat) (s : State) : Ans := done s (s.syncComplete ch k)

/-- FRAME_REQUEST (R83). -/
def execFrameRequest (ch : Nat) (s : State) : Ans := done s (s.frameRequest ch)

/-- ENCODER_FRAME (R81). -/
def execEncoderFrame (ch k : Nat) (f : Frame) (s : State) : Ans := done s (s.frameEvent ch k f)

/-- SINCOS_SAMPLE (R84). -/
def execSincosSample (ch k : Nat) (sn cs : Int) (clip : Bool) (s : State) : Ans :=
  done s (s.sincosEvent ch k sn cs clip)

/-- MAINS_CROSSING (R87). -/
def execMainsCrossing (k : Nat) (rise stamp : Int) (high : Nat) (s : State) : Ans :=
  done s (s.mainsCrossing k rise stamp high)

/-- MAINS_LOSS (R88). -/
def execMainsLoss (k : Nat) (s : State) : Ans := done s ((s.advance k).mainsLoss k)

/-- MAINS_ENABLE (R89). -/
def execMainsEnable (r : Rq) (s : State) : Ans := done s (s.requestFld r R.MZCTL R.MZCTL_EN 1)

/-- MAINS_DISABLE (R89). -/
def execMainsDisable (r : Rq) (s : State) : Ans := done s (s.requestFld r R.MZCTL R.MZCTL_EN 0)

end Sys2Proof.Machine
end

