-- ==== Sys2Proof/Machine/Ring.lean ====
section
/-! DEFINITION. The meanings of the commands of one part of the table: The Enward ring. -/

namespace Sys2Proof.Machine

/-- LINK_DOWN (R349). -/
def execLinkDown (port lanes : Nat) (s : State) : Ans := done s (s.linkDown port lanes)

/-- LINK_UP (R349). -/
def execLinkUp (port delay : Nat) (s : State) : Ans := done s (s.linkUp port delay)

/-- ENCMD_ROLL (R351). -/
def execEncmdRoll (r : Rq) (s : State) : Ans := done s (s.request r R.ENCMD (R.ENCMD_ROLL.put 0 1))

/-- ENCMD_CLRCNT (R380). -/
def execEncmdClrcnt (r : Rq) (s : State) : Ans := done s (s.request r R.ENCMD (R.ENCMD_CLRCNT.put 0 1))

/-- JOIN (R353). -/
def execJoin (k : Nat) (x : RollResult) (s : State) : Ans := done s ((s.advance k).joinRing x)

/-- ENWARD_CYCLE (R354). -/
def execEnwardCycle (k : Nat) (h : EnHdr) (s : State) : Ans := done s ((s.advance k).enwardCycle h)

/-- PUBLICATION_RECEIVED (R361). -/
def execPublicationReceived (k i : Nat) (x : PubRecord) (s : State) : Ans := done s ((s.advance k).pubReceived i x)

/-- AGE_FAULT (R362). -/
def execAgeFault (k t : Nat) (s : State) : Ans := done s ((s.advance k).ageFault t)

/-- MESSAGE_RECEIVED (R365). -/
def execMessageReceived (k : Nat) (m : EnFrame) (s : State) : Ans := done s ((s.advance k).enMessage m)

/-- FORECAST_RECEIVED (R371). -/
def execForecastReceived (k src tag tp gen : Nat) (s : State) : Ans := done s ((s.advance k).fcReceived src tag tp gen)

/-- FORECAST_ARM (R372). -/
def execForecastArm (k e : Nat) (s : State) : Ans := done s ((s.advance k).fcArmPoint e)

/-- RETRACT_RECEIVED (R373). -/
def execRetractReceived (k src tag : Nat) (s : State) : Ans := done s ((s.advance k).fcRetracts src tag)

/-- CONFIRM_RECEIVED (R373). -/
def execConfirmReceived (k src tag : Nat) (s : State) : Ans := done s ((s.advance k).fcConfirms src tag)

/-- FORECAST_EXPIRED (R373). -/
def execForecastExpired (k e : Nat) (s : State) : Ans := done s ((s.advance k).fcExpired e)

/-- LOST (R378). -/
def execEnwardLost (k : Nat) (s : State) : Ans := done s ((s.advance k).enLost)

/-- ENTXGO (R366). -/
def execEntxgo (r : Rq) (s : State) : Ans := done s (s.request r R.ENTXGO (R.ENTXGO_GO.put 0 1))

/-- ENRX3_READ (R367). -/
def execEnrx3Read (r : Rq) (s : State) : Ans := done s (s.requestRead r (R.ENRX 3))

end Sys2Proof.Machine
end

