-- ==== Sys2Proof/Machine/Supply.lean ====
section
/-! DEFINITION. The meanings of the commands of one part of the table: Power, DAWN, modes and the pins of the main domain: POWER_ON to CORE_HALT, the supply and ESTOP_N rows (Modes, DAWN and Reset; R301, R516). -/

namespace Sys2Proof.Machine

/-- POWER_ON (R46). -/
def execPowerOn (s : State) : Ans := done s (s.powerOn)

/-- BROWN_OUT (R46). -/
def execBrownOut (supply : Nat) (begun : Bool) (s : State) : Ans := done s (s.brownOut supply begun)

/-- SUPPLY_DIP (R516). -/
def execSupplyDip (vdd begun : Bool) (s : State) : Ans := done s (s.supplyDip vdd begun)

/-- RESET_PIN (R46). -/
def execResetPin (low : Bool) (s : State) : Ans := done s (s.resetPin low)

/-- PLL_LOCK_LOSS (R23). -/
def execPllLockLoss (begun : Bool) (s : State) : Ans := done s (s.clockLoss false begun)

/-- REFERENCE_ABSENT (R23). -/
def execReferenceAbsent (begun : Bool) (s : State) : Ans := done s (s.clockLoss true begun)

/-- DAWN_START (R23). -/
def execDawnStart (d : DawnResult) (s : State) : Ans := done s (s.dawnStart d)

/-- DAWN_IDENTITY_CHECK (R448). -/
def execDawnIdentityCheck (ok cfgOk : Bool) (cfg : List (Nat × Word)) (s : State) : Ans :=
  done s (s.identityCheck ok cfgOk cfg)

/-- ROLL_CALL (R351). -/
def execRollCall (k : Nat) (x : RollResult) (s : State) : Ans := done s ((s.advance k).rollCall x)

/-- ROLL_CALL_TIMEOUT (R49). -/
def execRollCallTimeout (k : Nat) (s : State) : Ans := done s ((s.advance k).rollTimeout)

/-- DAWN_TIMEOUT (R36). -/
def execDawnTimeout (k : Nat) (s : State) : Ans := done s ((s.advance k).dawnTimeout)

/-- MODE_REQUEST_NIGHT (R36). -/
def execModeRequestNight (r : Rq) (s : State) : Ans := done s (s.askMode r .night)

/-- MODE_REQUEST_DAWN (R46). -/
def execModeRequestDawn (r : Rq) (s : State) : Ans := done s (s.askMode r .dawn)

/-- MODE_REQUEST_PREPARE (R36). -/
def execModeRequestPrepare (r : Rq) (s : State) : Ans := done s (s.askMode r .prepare)

/-- MODE_REQUEST_RUN (R36). -/
def execModeRequestRun (r : Rq) (s : State) : Ans := done s (s.askMode r .run)

/-- MODE_REQUEST_HOLD (R36). -/
def execModeRequestHold (r : Rq) (s : State) : Ans := done s (s.askMode r .hold)

/-- MODE_REQUEST_SAFE (R36). -/
def execModeRequestSafe (r : Rq) (s : State) : Ans := done s (s.askMode r .safe)

/-- MODE_REQUEST_SERVICE (R457). -/
def execModeRequestService (r : Rq) (s : State) : Ans := done s (s.askMode r .service)

/-- MODE_REQUEST_LOCKOUT (R36). -/
def execModeRequestLockout (r : Rq) (s : State) : Ans := done s (s.askMode r .lockout)

/-- STAFF_CLEAR (R507). -/
def execStaffClear (s : State) : Ans := done s (if s.mode == .lockout then s.askMode .staff .dawn else s)

/-- MODE_TRANSITION (R38). -/
def execModeTransition (s : State) : Ans := done s (s.modeTransition)

/-- NIGHT_WAKEOUT_LOW (R469). -/
def execNightWakeoutLow (s : State) : Ans := done s (s.wakeoutLow)

/-- CORE_RELEASE (R45). -/
def execCoreRelease (r : Rq) (l : Nat) (s : State) : Ans := done s (s.request r R.CORERUN (s.corerun l true))

/-- CORE_HALT (R45). -/
def execCoreHalt (r : Rq) (l : Nat) (s : State) : Ans := done s (s.request r R.CORERUN (s.corerun l false))

/-- ESTOP_N_FALL (R302). -/
def execEstopNFall (k : Nat) (s : State) : Ans := done s (s.estopFall k)

/-- ESTOPCFG_WRITE (R301). -/
def execEstopcfgWrite (r : Rq) (v : Word) (s : State) : Ans := done s (s.request r R.ESTOPCFG v)

/-- ESTOP_N_RISE (R301). -/
def execEstopNRise (k : Nat) (s : State) : Ans := done s (s.estopRise k)

/-- SVCREQ_N_CHANGE (R36). -/
def execSvcreqNChange (k : Nat) (low : Bool) (s : State) : Ans := done s (s.svcreq k low)

/-- SUPPLY_DIP_END (R516). -/
def execSupplyDipEnd (vdd : Bool) (s : State) : Ans := done s (s.supplyDipEnd vdd)

end Sys2Proof.Machine
end

