-- ==== Sys2Proof/Machine/Timing.lean ====
section
/-! DEFINITION. The meanings of the commands of one part of the table: Timebases, wall time and captures, the pin epoch boundary (Timebases; R20). -/

namespace Sys2Proof.Machine

/-- SET (R114). -/
def execTbSet (r : Rq) (t : Nat) (s : State) : Ans := done s (s.request r (R.TBCMD t) (R.TBCMD_CMD.put 0 1))

/-- ACCEPT (R114). -/
def execTbAccept (r : Rq) (t : Nat) (s : State) : Ans := done s (s.request r (R.TBCMD t) (R.TBCMD_CMD.put 0 2))

/-- SHIFT (R114). -/
def execTbShift (r : Rq) (t : Nat) (s : State) : Ans := done s (s.request r (R.TBCMD t) (R.TBCMD_CMD.put 0 3))

/-- UNREF (R114). -/
def execTbUnref (r : Rq) (t : Nat) (s : State) : Ans := done s (s.request r (R.TBCMD t) (R.TBCMD_CMD.put 0 4))

/-- SWITCHB (R114). -/
def execTbSwitchb (r : Rq) (t newsrc : Nat) (s : State) : Ans :=
  done s (s.request r (R.TBCMD t) (R.TBCMD_NEWSRC.put (R.TBCMD_CMD.put 0 5) newsrc))

/-- SWITCHD (R114). -/
def execTbSwitchd (r : Rq) (t newsrc : Nat) (s : State) : Ans :=
  done s (s.request r (R.TBCMD t) (R.TBCMD_NEWSRC.put (R.TBCMD_CMD.put 0 6) newsrc))

/-- TIMEBASE_COMMAND_EFFECT (R115). -/
def execTimebaseCommandEffect (t : Nat) (s : State) : Ans := done s (s.tbEffect t)

/-- TBCFG_KIND_WRITE (R96). -/
def execTbcfgKindWrite (r : Rq) (t : Nat) (v : Word) (s : State) : Ans := done s (s.request r (R.TBCFG t) v)

/-- TBMOD_WRITE (R104). -/
def execTbmodWrite (r : Rq) (t : Nat) (v : Word) (s : State) : Ans := done s (s.request r (R.TBMOD t) v)

/-- TBGDEN_WRITE (R108). -/
def execTbgdenWrite (r : Rq) (t : Nat) (v : Word) (s : State) : Ans := done s (s.request r (R.TBGDEN t) v)

/-- TBSYNVEL_WRITE (R113). -/
def execTbsynvelWrite (r : Rq) (t : Nat) (v : Word) (s : State) : Ans := done s (s.request r (R.TBSYNVEL t) v)

/-- WADJ_WRITE (R111). -/
def execWadjWrite (r : Rq) (v : Word) (s : State) : Ans := done s (s.request r R.WADJ v)

/-- WSTEPH_WRITE (R111). -/
def execWstephWrite (r : Rq) (v : Word) (s : State) : Ans := done s (s.request r R.WSTEPH v)

/-- WALLCTL_WRITE (R112). -/
def execWallctlWrite (r : Rq) (v : Word) (s : State) : Ans := done s (s.request r R.WALLCTL v)

/-- STANDSTILL (R102). -/
def execStandstill (t k : Nat) (s : State) : Ans := done s ((s.advance k).standstill t k)

/-- EXTRAPOLATION_STALE (R98). -/
def execExtrapolationStale (t k : Nat) (s : State) : Ans := done s ((s.advance k).stale t k)

/-- CAPCMD_GO (R120). -/
def execCapcmdGo (r : Rq) (s : State) : Ans := done s (s.request r R.CAPCMD (R.CAPCMD_GO.put 0 1))

/-- CAPFREE_WRITE (R121). -/
def execCapfreeWrite (r : Rq) (mask : Word) (s : State) : Ans := done s (s.request r R.CAPFREE mask)

/-- PIN_EPOCH_BOUNDARY (R20). -/
def execPinEpochBoundary (s : State) : Ans := done s (s.boundary)

end Sys2Proof.Machine
end

