-- ==== Sys2Proof/Machine/Watch.lean ====
section
/-! DEFINITION. The meanings of the commands of one part of the table: The Hall Monitor. -/

namespace Sys2Proof.Machine

/-- HM_RESET (R467). -/
def execHmReset (s : State) : Ans := done s (s.hallReset)

/-- HM_TICK (R468). -/
def execHmTick (s : State) : Ans := done s (s.hallTick)

/-- HM_EVALUATION (R479). -/
def execHmEvaluation (s : State) : Ans := done s (s.hallEvaluate.wakeUp s)

/-- WATCH_STROBE (R471). -/
def execWatchStrobe (n : Nat) (a b : Bool) (s : State) : Ans := done s (s.watchStrobe n a b)

/-- INPUT_SAMPLE (R476). -/
def execInputSample (i : Nat) (level : Bool) (s : State) : Ans := done s (s.inputSample i level)

/-- MEASUREMENT (R477). -/
def execMeasurement (temp vbat : Int) (s : State) : Ans := done s (s.measure temp vbat)

/-- HM_WRITE_APPLY (R470). -/
def execHmWriteApply (s : State) : Ans := done s (s.hallApply)

/-- HMALARM_CLEAR (R481). -/
def execHmalarmClear (r : Rq) (mask : Word) (s : State) : Ans := done s (s.request r R.HMALARM mask)

/-- HMLOCK_SET (R483). -/
def execHmlockSet (r : Rq) (s : State) : Ans := done s (s.request r R.HMCTL (R.HMCTL_HMLOCK.put 0 1))

/-- HM_CRYSTAL_STOP (R22). -/
def execHmCrystalStop (s : State) : Ans := done s (s.crystal false)

/-- HM_CRYSTAL_START (R523). -/
def execHmCrystalStart (s : State) : Ans := done s (s.crystal true)

/-- VBAT_GOOD (R515). -/
def execVbatGood (s : State) : Ans := done s (s.vbatGood)

end Sys2Proof.Machine
end

