-- ==== Sys2Proof/Machine/Dispatch.lean ====
section
/-! DEFINITION. One arm for each command. -/

namespace Sys2Proof.Machine

def exec (i : Instr) (s : State) : Host.Outcome State Fault Refusal :=
  match i with
  | .powerOn => Sys2Proof.Machine.execPowerOn s
  | .brownOut supply begun => Sys2Proof.Machine.execBrownOut supply begun s
  | .supplyDip vdd begun => Sys2Proof.Machine.execSupplyDip vdd begun s
  | .resetPin low => Sys2Proof.Machine.execResetPin low s
  | .pllLockLoss begun => Sys2Proof.Machine.execPllLockLoss begun s
  | .referenceAbsent begun => Sys2Proof.Machine.execReferenceAbsent begun s
  | .dawnStart d => Sys2Proof.Machine.execDawnStart d s
  | .dawnIdentityCheck ok cfgOk cfg => Sys2Proof.Machine.execDawnIdentityCheck ok cfgOk cfg s
  | .rollCall k x => Sys2Proof.Machine.execRollCall k x s
  | .rollCallTimeout k => Sys2Proof.Machine.execRollCallTimeout k s
  | .dawnTimeout k => Sys2Proof.Machine.execDawnTimeout k s
  | .modeRequestNight r => Sys2Proof.Machine.execModeRequestNight r s
  | .modeRequestDawn r => Sys2Proof.Machine.execModeRequestDawn r s
  | .modeRequestPrepare r => Sys2Proof.Machine.execModeRequestPrepare r s
  | .modeRequestRun r => Sys2Proof.Machine.execModeRequestRun r s
  | .modeRequestHold r => Sys2Proof.Machine.execModeRequestHold r s
  | .modeRequestSafe r => Sys2Proof.Machine.execModeRequestSafe r s
  | .modeRequestService r => Sys2Proof.Machine.execModeRequestService r s
  | .modeRequestLockout r => Sys2Proof.Machine.execModeRequestLockout r s
  | .staffClear => Sys2Proof.Machine.execStaffClear s
  | .modeTransition => Sys2Proof.Machine.execModeTransition s
  | .nightWakeoutLow => Sys2Proof.Machine.execNightWakeoutLow s
  | .coreRelease r l => Sys2Proof.Machine.execCoreRelease r l s
  | .coreHalt r l => Sys2Proof.Machine.execCoreHalt r l s
  | .clkobsWrite r v => Sys2Proof.Machine.execClkobsWrite r v s
  | .registerWrite r a size v => Sys2Proof.Machine.execRegisterWrite r a size v s
  | .rcFieldRead r a => Sys2Proof.Machine.execRcFieldRead r a s
  | .latchedRead r a => Sys2Proof.Machine.execLatchedRead r a s
  | .channelModeWrite r ch v => Sys2Proof.Machine.execChannelModeWrite r ch v s
  | .channelClear r ch => Sys2Proof.Machine.execChannelClear r ch s
  | .quadStep ch k a b => Sys2Proof.Machine.execQuadStep ch k a b s
  | .indexEdge ch k z => Sys2Proof.Machine.execIndexEdge ch k z s
  | .indexArm r ch => Sys2Proof.Machine.execIndexArm r ch s
  | .wireBreak ch k pairs => Sys2Proof.Machine.execWireBreak ch k pairs s
  | .invalidEpisodeEnd ch pair since k => Sys2Proof.Machine.execInvalidEpisodeEnd ch pair since k s
  | .channelSyncComplete ch k => Sys2Proof.Machine.execChannelSyncComplete ch k s
  | .frameRequest ch => Sys2Proof.Machine.execFrameRequest ch s
  | .encoderFrame ch k f => Sys2Proof.Machine.execEncoderFrame ch k f s
  | .sincosSample ch k sn cs clip => Sys2Proof.Machine.execSincosSample ch k sn cs clip s
  | .mainsCrossing k rise stamp high => Sys2Proof.Machine.execMainsCrossing k rise stamp high s
  | .mainsLoss k => Sys2Proof.Machine.execMainsLoss k s
  | .mainsEnable r => Sys2Proof.Machine.execMainsEnable r s
  | .mainsDisable r => Sys2Proof.Machine.execMainsDisable r s
  | .tbSet r t => Sys2Proof.Machine.execTbSet r t s
  | .tbAccept r t => Sys2Proof.Machine.execTbAccept r t s
  | .tbShift r t => Sys2Proof.Machine.execTbShift r t s
  | .tbUnref r t => Sys2Proof.Machine.execTbUnref r t s
  | .tbSwitchb r t newsrc => Sys2Proof.Machine.execTbSwitchb r t newsrc s
  | .tbSwitchd r t newsrc => Sys2Proof.Machine.execTbSwitchd r t newsrc s
  | .timebaseCommandEffect t => Sys2Proof.Machine.execTimebaseCommandEffect t s
  | .tbcfgKindWrite r t v => Sys2Proof.Machine.execTbcfgKindWrite r t v s
  | .tbmodWrite r t v => Sys2Proof.Machine.execTbmodWrite r t v s
  | .tbgdenWrite r t v => Sys2Proof.Machine.execTbgdenWrite r t v s
  | .tbsynvelWrite r t v => Sys2Proof.Machine.execTbsynvelWrite r t v s
  | .wadjWrite r v => Sys2Proof.Machine.execWadjWrite r v s
  | .wstephWrite r v => Sys2Proof.Machine.execWstephWrite r v s
  | .wallctlWrite r v => Sys2Proof.Machine.execWallctlWrite r v s
  | .standstill t k => Sys2Proof.Machine.execStandstill t k s
  | .extrapolationStale t k => Sys2Proof.Machine.execExtrapolationStale t k s
  | .capcmdGo r => Sys2Proof.Machine.execCapcmdGo r s
  | .capfreeWrite r mask => Sys2Proof.Machine.execCapfreeWrite r mask s
  | .arm l => Sys2Proof.Machine.execArm l s
  | .ttnewgo r => Sys2Proof.Machine.execTtnewgo r s
  | .disarm r slot => Sys2Proof.Machine.execDisarm r slot s
  | .crossing slot k => Sys2Proof.Machine.execCrossing slot k s
  | .outputEdge gen n k => Sys2Proof.Machine.execOutputEdge gen n k s
  | .compareFault slot => Sys2Proof.Machine.execCompareFault slot s
  | .fineDelayFault gen n => Sys2Proof.Machine.execFineDelayFault gen n s
  | .latentDivergence slot => Sys2Proof.Machine.execLatentDivergence slot s
  | .ttinj r v => Sys2Proof.Machine.execTtinj r v s
  | .ttmembaseWrite r v => Sys2Proof.Machine.execTtmembaseWrite r v s
  | .ttresvWrite r quota v => Sys2Proof.Machine.execTtresvWrite r quota v s
  | .qcmdBind r q => Sys2Proof.Machine.execQcmdBind r q s
  | .qcmdStart r q => Sys2Proof.Machine.execQcmdStart r q s
  | .qcmdStop r q => Sys2Proof.Machine.execQcmdStop r q s
  | .qcmdFlush r q => Sys2Proof.Machine.execQcmdFlush r q s
  | .qcmdUnbind r q => Sys2Proof.Machine.execQcmdUnbind r q s
  | .qcmdDrop r q => Sys2Proof.Machine.execQcmdDrop r q s
  | .qtailWrite r q v => Sys2Proof.Machine.execQtailWrite r q v s
  | .refill q k => Sys2Proof.Machine.execRefill q k s
  | .prefetchComplete q k => Sys2Proof.Machine.execPrefetchComplete q k s
  | .reportPosted => Sys2Proof.Machine.execReportPosted s
  | .evsetRegisterWrite r n mask => Sys2Proof.Machine.execEvsetRegisterWrite r n mask s
  | .evclrRegisterWrite r n mask => Sys2Proof.Machine.execEvclrRegisterWrite r n mask s
  | .evtogRegisterWrite r n mask => Sys2Proof.Machine.execEvtogRegisterWrite r n mask s
  | .evcfgWrite r line v => Sys2Proof.Machine.execEvcfgWrite r line v s
  | .forceWrite r levels n v => Sys2Proof.Machine.execForceWrite r levels n v s
  | .ptrateWrite r g v => Sys2Proof.Machine.execPtrateWrite r g v s
  | .ptctlGo r g => Sys2Proof.Machine.execPtctlGo r g s
  | .ptctlStop r g => Sys2Proof.Machine.execPtctlStop r g s
  | .pulseTrainDone g => Sys2Proof.Machine.execPulseTrainDone g s
  | .dirsuElapsed g k => Sys2Proof.Machine.execDirsuElapsed g k s
  | .pwmperWrite r c v => Sys2Proof.Machine.execPwmperWrite r c v s
  | .pwmdutyWrite r c v => Sys2Proof.Machine.execPwmdutyWrite r c v s
  | .sdcodeWrite r n v => Sys2Proof.Machine.execSdcodeWrite r n v s
  | .pinfnWrite r b v => Sys2Proof.Machine.execPinfnWrite r b v s
  | .pinFunctionSwitch b k => Sys2Proof.Machine.execPinFunctionSwitch b k s
  | .pinbankWrite r v => Sys2Proof.Machine.execPinbankWrite r v s
  | .bankSupplyMismatch bank code inRange => Sys2Proof.Machine.execBankSupplyMismatch bank code inRange s
  | .lit l v => Sys2Proof.Machine.execLit l v s
  | .litx l v => Sys2Proof.Machine.execLitx l v s
  | .beq l off => Sys2Proof.Machine.execBeq l off s
  | .bne l off => Sys2Proof.Machine.execBne l off s
  | .blt l off => Sys2Proof.Machine.execBlt l off s
  | .bge l off => Sys2Proof.Machine.execBge l off s
  | .bltu l off => Sys2Proof.Machine.execBltu l off s
  | .bgeu l off => Sys2Proof.Machine.execBgeu l off s
  | .bgt l off => Sys2Proof.Machine.execBgt l off s
  | .ble l off => Sys2Proof.Machine.execBle l off s
  | .bz l off => Sys2Proof.Machine.execBz l off s
  | .bnz l off => Sys2Proof.Machine.execBnz l off s
  | .bltz l off => Sys2Proof.Machine.execBltz l off s
  | .bgez l off => Sys2Proof.Machine.execBgez l off s
  | .bgtz l off => Sys2Proof.Machine.execBgtz l off s
  | .blez l off => Sys2Proof.Machine.execBlez l off s
  | .bodd l off => Sys2Proof.Machine.execBodd l off s
  | .beven l off => Sys2Proof.Machine.execBeven l off s
  | .jmp l off => Sys2Proof.Machine.execJmp l off s
  | .call l off => Sys2Proof.Machine.execCall l off s
  | .loop l off => Sys2Proof.Machine.execLoop l off s
  | .nop l => Sys2Proof.Machine.execNop l s
  | .dup l => Sys2Proof.Machine.execDup l s
  | .drop l => Sys2Proof.Machine.execDrop l s
  | .swap l => Sys2Proof.Machine.execSwap l s
  | .over l => Sys2Proof.Machine.execOver l s
  | .rot l => Sys2Proof.Machine.execRot l s
  | .nip l => Sys2Proof.Machine.execNip l s
  | .tuck l => Sys2Proof.Machine.execTuck l s
  | .dup2 l => Sys2Proof.Machine.execDup2 l s
  | .drop2 l => Sys2Proof.Machine.execDrop2 l s
  | .tor l => Sys2Proof.Machine.execTor l s
  | .fromr l => Sys2Proof.Machine.execFromr l s
  | .rfetch l => Sys2Proof.Machine.execRfetch l s
  | .rdrop l => Sys2Proof.Machine.execRdrop l s
  | .add l => Sys2Proof.Machine.execAdd l s
  | .sub l => Sys2Proof.Machine.execSub l s
  | .and l => Sys2Proof.Machine.execAnd l s
  | .or l => Sys2Proof.Machine.execOr l s
  | .xor l => Sys2Proof.Machine.execXor l s
  | .not l => Sys2Proof.Machine.execNot l s
  | .neg l => Sys2Proof.Machine.execNeg l s
  | .shl l => Sys2Proof.Machine.execShl l s
  | .shr l => Sys2Proof.Machine.execShr l s
  | .sar l => Sys2Proof.Machine.execSar l s
  | .adds l => Sys2Proof.Machine.execAdds l s
  | .subs l => Sys2Proof.Machine.execSubs l s
  | .negs l => Sys2Proof.Machine.execNegs l s
  | .abs l => Sys2Proof.Machine.execAbs l s
  | .abss l => Sys2Proof.Machine.execAbss l s
  | .min l => Sys2Proof.Machine.execMin l s
  | .max l => Sys2Proof.Machine.execMax l s
  | .minu l => Sys2Proof.Machine.execMinu l s
  | .maxu l => Sys2Proof.Machine.execMaxu l s
  | .sext8 l => Sys2Proof.Machine.execSext8 l s
  | .sext16 l => Sys2Proof.Machine.execSext16 l s
  | .zext8 l => Sys2Proof.Machine.execZext8 l s
  | .zext16 l => Sys2Proof.Machine.execZext16 l s
  | .clz l => Sys2Proof.Machine.execClz l s
  | .slt l => Sys2Proof.Machine.execSlt l s
  | .sltu l => Sys2Proof.Machine.execSltu l s
  | .sat16 l => Sys2Proof.Machine.execSat16 l s
  | .mul l => Sys2Proof.Machine.execMul l s
  | .mulhs l => Sys2Proof.Machine.execMulhs l s
  | .mulhu l => Sys2Proof.Machine.execMulhu l s
  | .mulq l => Sys2Proof.Machine.execMulq l s
  | .div l abandon => Sys2Proof.Machine.execDiv l abandon s
  | .divu l abandon => Sys2Proof.Machine.execDivu l abandon s
  | .rem l abandon => Sys2Proof.Machine.execRem l abandon s
  | .remu l abandon => Sys2Proof.Machine.execRemu l abandon s
  | .xchg l => Sys2Proof.Machine.execXchg l s
  | .cas l => Sys2Proof.Machine.execCas l s
  | .fence l => Sys2Proof.Machine.execFence l s
  | .ret l => Sys2Proof.Machine.execRet l s
  | .jmpi l => Sys2Proof.Machine.execJmpi l s
  | .calli l => Sys2Proof.Machine.execCalli l s
  | .gate l n => Sys2Proof.Machine.execGate l n s
  | .gret l => Sys2Proof.Machine.execGret l s
  | .retw l => Sys2Proof.Machine.execRetw l s
  | .retf l => Sys2Proof.Machine.execRetf l s
  | .reti l => Sys2Proof.Machine.execReti l s
  | .endl l => Sys2Proof.Machine.execEndl l s
  | .wait l => Sys2Proof.Machine.execWait l s
  | .brk l debugger => Sys2Proof.Machine.execBrk l debugger s
  | .pick l n => Sys2Proof.Machine.execPick l n s
  | .addi l n => Sys2Proof.Machine.execAddi l n s
  | .shli l n => Sys2Proof.Machine.execShli l n s
  | .shri l n => Sys2Proof.Machine.execShri l n s
  | .sari l n => Sys2Proof.Machine.execSari l n s
  | .rori l n => Sys2Proof.Machine.execRori l n s
  | .ext8 l sh => Sys2Proof.Machine.execExt8 l sh s
  | .ext16 l sh => Sys2Proof.Machine.execExt16 l sh s
  | .ext32 l sh => Sys2Proof.Machine.execExt32 l sh s
  | .rsr l n => Sys2Proof.Machine.execRsr l n s
  | .wsr l n => Sys2Proof.Machine.execWsr l n s
  | .wsrStackPointer l r => Sys2Proof.Machine.execWsrStackPointer l r s
  | .wsrStackBound l r lim => Sys2Proof.Machine.execWsrStackBound l r lim s
  | .wsrStw l => Sys2Proof.Machine.execWsrStw l s
  | .ldSigned l size off => Sys2Proof.Machine.execLdSigned l size off s
  | .ldZero l size off => Sys2Proof.Machine.execLdZero l size off s
  | .st l size off => Sys2Proof.Machine.execSt l size off s
  | .ldxSigned l y size => Sys2Proof.Machine.execLdxSigned l y size s
  | .ldxZero l y size => Sys2Proof.Machine.execLdxZero l y size s
  | .stx l y size => Sys2Proof.Machine.execStx l y size s
  | .mac l => Sys2Proof.Machine.execMac l s
  | .msu l => Sys2Proof.Machine.execMsu l s
  | .maci l => Sys2Proof.Machine.execMaci l s
  | .msui l => Sys2Proof.Machine.execMsui l s
  | .macn l stop => Sys2Proof.Machine.execMacn l stop s
  | .msun l stop => Sys2Proof.Machine.execMsun l stop s
  | .macni l stop => Sys2Proof.Machine.execMacni l stop s
  | .msuni l stop => Sys2Proof.Machine.execMsuni l stop s
  | .clra l => Sys2Proof.Machine.execClra l s
  | .macs l => Sys2Proof.Machine.execMacs l s
  | .msus l => Sys2Proof.Machine.execMsus l s
  | .macsi l => Sys2Proof.Machine.execMacsi l s
  | .msusi l => Sys2Proof.Machine.execMsusi l s
  | .mpys l => Sys2Proof.Machine.execMpys l s
  | .mpysi l => Sys2Proof.Machine.execMpysi l s
  | .adda l => Sys2Proof.Machine.execAdda l s
  | .addal l => Sys2Proof.Machine.execAddal l s
  | .nega l => Sys2Proof.Machine.execNega l s
  | .lda l => Sys2Proof.Machine.execLda l s
  | .asla l sh => Sys2Proof.Machine.execAsla l sh s
  | .asra l sh => Sys2Proof.Machine.execAsra l sh s
  | .illegalOpcode l code => Sys2Proof.Machine.execIllegalOpcode l code s
  | .reservedCode l code e => Sys2Proof.Machine.execReservedCode l code e s
  | .storeBufferDrain l tcm ovl full => Sys2Proof.Machine.execStoreBufferDrain l tcm ovl full s
  | .busTransfer m x wait => Sys2Proof.Machine.execBusTransfer m x wait s
  | .fetchLineArrival l a => Sys2Proof.Machine.execFetchLineArrival l a s
  | .estopNFall k => Sys2Proof.Machine.execEstopNFall k s
  | .estopcfgWrite r v => Sys2Proof.Machine.execEstopcfgWrite r v s
  | .regionWrite r block guard lim n v => Sys2Proof.Machine.execRegionWrite r block guard lim n v s
  | .irqcfgWrite r n v => Sys2Proof.Machine.execIrqcfgWrite r n v s
  | .pendsetWrite r b mask => Sys2Proof.Machine.execPendsetWrite r b mask s
  | .pendclrWrite r b mask => Sys2Proof.Machine.execPendclrWrite r b mask s
  | .ensetWrite r b mask => Sys2Proof.Machine.execEnsetWrite r b mask s
  | .enclrWrite r b mask => Sys2Proof.Machine.execEnclrWrite r b mask s
  | .interruptEntry l => Sys2Proof.Machine.execInterruptEntry l s
  | .lessonEntry l => Sys2Proof.Machine.execLessonEntry l s
  | .nmiEntry l => Sys2Proof.Machine.execNmiEntry l s
  | .lessonTimeLimit l => Sys2Proof.Machine.execLessonTimeLimit l s
  | .mramReadComplete a fetch => Sys2Proof.Machine.execMramReadComplete a fetch s
  | .mramProgramComplete => Sys2Proof.Machine.execMramProgramComplete s
  | .scrubRead => Sys2Proof.Machine.execScrubRead s
  | .mrscrubWrite r v => Sys2Proof.Machine.execMrscrubWrite r v s
  | .lineOpen r line => Sys2Proof.Machine.execLineOpen r line s
  | .lineClose r line => Sys2Proof.Machine.execLineClose r line s
  | .lineZero r line => Sys2Proof.Machine.execLineZero r line s
  | .linkDown port lanes => Sys2Proof.Machine.execLinkDown port lanes s
  | .linkUp port delay => Sys2Proof.Machine.execLinkUp port delay s
  | .encmdRoll r => Sys2Proof.Machine.execEncmdRoll r s
  | .encmdClrcnt r => Sys2Proof.Machine.execEncmdClrcnt r s
  | .join k x => Sys2Proof.Machine.execJoin k x s
  | .enwardCycle k h => Sys2Proof.Machine.execEnwardCycle k h s
  | .publicationReceived k n x => Sys2Proof.Machine.execPublicationReceived k n x s
  | .ageFault k t => Sys2Proof.Machine.execAgeFault k t s
  | .messageReceived k m => Sys2Proof.Machine.execMessageReceived k m s
  | .forecastReceived k src tag tp gen => Sys2Proof.Machine.execForecastReceived k src tag tp gen s
  | .forecastArm k e => Sys2Proof.Machine.execForecastArm k e s
  | .retractReceived k src tag => Sys2Proof.Machine.execRetractReceived k src tag s
  | .confirmReceived k src tag => Sys2Proof.Machine.execConfirmReceived k src tag s
  | .forecastExpired k e => Sys2Proof.Machine.execForecastExpired k e s
  | .enwardLost k => Sys2Proof.Machine.execEnwardLost k s
  | .entxgo r => Sys2Proof.Machine.execEntxgo r s
  | .enrx3Read r => Sys2Proof.Machine.execEnrx3Read r s
  | .rcctlGo r c start => Sys2Proof.Machine.execRcctlGo r c start s
  | .rcctlStop r c => Sys2Proof.Machine.execRcctlStop r c s
  | .rcctlFlushtx r c => Sys2Proof.Machine.execRcctlFlushtx r c s
  | .rcctlFlushrx r c => Sys2Proof.Machine.execRcctlFlushrx r c s
  | .rctxWrite r c v => Sys2Proof.Machine.execRctxWrite r c v s
  | .rcrxRead r c => Sys2Proof.Machine.execRcrxRead r c s
  | .rccodeWrite r c n v => Sys2Proof.Machine.execRccodeWrite r c n v s
  | .rcDrive c k => Sys2Proof.Machine.execRcDrive c k s
  | .rcEnable c k => Sys2Proof.Machine.execRcEnable c k s
  | .rcDelay c k => Sys2Proof.Machine.execRcDelay c k s
  | .rcWaitl c k acc => Sys2Proof.Machine.execRcWaitl c k acc s
  | .rcWaitlMet c k acc => Sys2Proof.Machine.execRcWaitlMet c k acc s
  | .rcWaitlTimeout c k => Sys2Proof.Machine.execRcWaitlTimeout c k s
  | .rcSample c k acc => Sys2Proof.Machine.execRcSample c k acc s
  | .rcPut c k => Sys2Proof.Machine.execRcPut c k s
  | .rcPutResume c k => Sys2Proof.Machine.execRcPutResume c k s
  | .rcGet c k => Sys2Proof.Machine.execRcGet c k s
  | .rcGetResume c k => Sys2Proof.Machine.execRcGetResume c k s
  | .rcOutd c k => Sys2Proof.Machine.execRcOutd c k s
  | .rcCntLoad c k => Sys2Proof.Machine.execRcCntLoad c k s
  | .rcCntStart c k => Sys2Proof.Machine.execRcCntStart c k s
  | .rcCntStop c k => Sys2Proof.Machine.execRcCntStop c k s
  | .rcCntRead c k => Sys2Proof.Machine.execRcCntRead c k s
  | .rcDjnz c k => Sys2Proof.Machine.execRcDjnz c k s
  | .rcJmp c k => Sys2Proof.Machine.execRcJmp c k s
  | .rcJif c k acc => Sys2Proof.Machine.execRcJif c k acc s
  | .rcJeq c k => Sys2Proof.Machine.execRcJeq c k s
  | .rcLdi c k => Sys2Proof.Machine.execRcLdi c k s
  | .rcIrq c k => Sys2Proof.Machine.execRcIrq c k s
  | .rcHalt c k => Sys2Proof.Machine.execRcHalt c k s
  | .utxWrite r u v => Sys2Proof.Machine.execUtxWrite r u v s
  | .urxRead r u => Sys2Proof.Machine.execUrxRead r u s
  | .uartEnable r u on => Sys2Proof.Machine.execUartEnable r u on s
  | .txbrk r u on => Sys2Proof.Machine.execTxbrk r u on s
  | .uartFlushrx r u => Sys2Proof.Machine.execUartFlushrx r u s
  | .uartFlushtx r u => Sys2Proof.Machine.execUartFlushtx r u s
  | .uartCharacterReceived u k data par stop => Sys2Proof.Machine.execUartCharacterReceived u k data par stop s
  | .uartFrameTransmit u k => Sys2Proof.Machine.execUartFrameTransmit u k s
  | .ctsNChange u high => Sys2Proof.Machine.execCtsNChange u high s
  | .uartIdleTimeout u k => Sys2Proof.Machine.execUartIdleTimeout u k s
  | .scanCycle k inputs word => Sys2Proof.Machine.execScanCycle k inputs word s
  | .attendanceEnable r on => Sys2Proof.Machine.execAttendanceEnable r on s
  | .clrflt r => Sys2Proof.Machine.execClrflt r s
  | .aoutWrite r n v => Sys2Proof.Machine.execAoutWrite r n v s
  | .aosetWrite r n v => Sys2Proof.Machine.execAosetWrite r n v s
  | .aoclrWrite r n v => Sys2Proof.Machine.execAoclrWrite r n v s
  | .transmitFrame m k abort excol coll => Sys2Proof.Machine.execTransmitFrame m k abort excol coll s
  | .receivedFrame m k bytes badFcs rxer => Sys2Proof.Machine.execReceivedFrame m k bytes badFcs rxer s
  | .mdioGo r m phy reg data write => Sys2Proof.Machine.execMdioGo r m phy reg data write s
  | .mdioDone m data => Sys2Proof.Machine.execMdioDone m data s
  | .ptpadjWrite r v => Sys2Proof.Machine.execPtpadjWrite r v s
  | .ptpstepWrite r v => Sys2Proof.Machine.execPtpstepWrite r v s
  | .spiFrame env edges mode3 v => Sys2Proof.Machine.execSpiFrame env edges mode3 v s
  | .uartFormRequest env whole v => Sys2Proof.Machine.execUartFormRequest env whole v s
  | .staffNop => Sys2Proof.Machine.execStaffNop s
  | .staffRead a => Sys2Proof.Machine.execStaffRead a s
  | .staffWrite env a v => Sys2Proof.Machine.execStaffWrite env a v s
  | .openSession => Sys2Proof.Machine.execOpenSession s
  | .nonceDrawn => Sys2Proof.Machine.execNonceDrawn s
  | .prove => Sys2Proof.Machine.execProve s
  | .closeSession => Sys2Proof.Machine.execCloseSession s
  | .snap => Sys2Proof.Machine.execSnap s
  | .challengeExpired k => Sys2Proof.Machine.execChallengeExpired k s
  | .sessionIdle k => Sys2Proof.Machine.execSessionIdle k s
  | .lockoutExpired => Sys2Proof.Machine.execLockoutExpired s
  | .windowReadStart size inc => Sys2Proof.Machine.execWindowReadStart size inc s
  | .windatahRead => Sys2Proof.Machine.execWindatahRead s
  | .windowWriteStart v => Sys2Proof.Machine.execWindowWriteStart v s
  | .windowAccessComplete => Sys2Proof.Machine.execWindowAccessComplete s
  | .snapshotRefresh k => Sys2Proof.Machine.execSnapshotRefresh k s
  | .snapctlNow r => Sys2Proof.Machine.execSnapctlNow r s
  | .logbookEntry => Sys2Proof.Machine.execLogbookEntry s
  | .attest => Sys2Proof.Machine.execAttest s
  | .attestComplete => Sys2Proof.Machine.execAttestComplete s
  | .attrec => Sys2Proof.Machine.execAttrec s
  | .idpub => Sys2Proof.Machine.execIdpub s
  | .certrd => Sys2Proof.Machine.execCertrd s
  | .enroll env => Sys2Proof.Machine.execEnroll env s
  | .certwr env => Sys2Proof.Machine.execCertwr env s
  | .certseal env => Sys2Proof.Machine.execCertseal env s
  | .setkey slot => Sys2Proof.Machine.execSetkey slot s
  | .genkey => Sys2Proof.Machine.execGenkey s
  | .erasekey => Sys2Proof.Machine.execErasekey s
  | .idkill env => Sys2Proof.Machine.execIdkill env s
  | .keycmdSet r slot => Sys2Proof.Machine.execKeycmdSet r slot s
  | .keycmdGen r slot => Sys2Proof.Machine.execKeycmdGen r slot s
  | .keycmdErase r slot => Sys2Proof.Machine.execKeycmdErase r slot s
  | .aesEncryptGo r key => Sys2Proof.Machine.execAesEncryptGo r key s
  | .aesDecryptGo r key => Sys2Proof.Machine.execAesDecryptGo r key s
  | .cmacStart r key => Sys2Proof.Machine.execCmacStart r key s
  | .cmacUpdate r key => Sys2Proof.Machine.execCmacUpdate r key s
  | .cmacFinal r key len => Sys2Proof.Machine.execCmacFinal r key len s
  | .cryptoDone => Sys2Proof.Machine.execCryptoDone s
  | .sourceStartupPass n => Sys2Proof.Machine.execSourceStartupPass n s
  | .sourceHealthFail n apt => Sys2Proof.Machine.execSourceHealthFail n apt s
  | .drbgInstantiate n => Sys2Proof.Machine.execDrbgInstantiate n s
  | .drbgReseed n k bits => Sys2Proof.Machine.execDrbgReseed n k bits s
  | .drbgoutRead r => Sys2Proof.Machine.execDrbgoutRead r s
  | .drbgRefill n => Sys2Proof.Machine.execDrbgRefill n s
  | .rawenWrite r on src => Sys2Proof.Machine.execRawenWrite r on src s
  | .hmReset => Sys2Proof.Machine.execHmReset s
  | .hmTick => Sys2Proof.Machine.execHmTick s
  | .hmEvaluation => Sys2Proof.Machine.execHmEvaluation s
  | .watchStrobe n a b => Sys2Proof.Machine.execWatchStrobe n a b s
  | .inputSample n level => Sys2Proof.Machine.execInputSample n level s
  | .measurement temp vbat => Sys2Proof.Machine.execMeasurement temp vbat s
  | .hmWriteApply => Sys2Proof.Machine.execHmWriteApply s
  | .hmalarmClear r mask => Sys2Proof.Machine.execHmalarmClear r mask s
  | .hmlockSet r => Sys2Proof.Machine.execHmlockSet r s
  | .hmCrystalStop => Sys2Proof.Machine.execHmCrystalStop s
  | .divergence what pc0 pc1 addr => Sys2Proof.Machine.execDivergence what pc0 pc1 addr s
  | .pairRestart diff => Sys2Proof.Machine.execPairRestart diff s
  | .pairinj r what => Sys2Proof.Machine.execPairinj r what s
  | .wdkick r l key => Sys2Proof.Machine.execWdkick r l key s
  | .watchdogExpiry l k => Sys2Proof.Machine.execWatchdogExpiry l k s
  | .watchdogStage2 l k => Sys2Proof.Machine.execWatchdogStage2 l k s
  | .gThirdFaultRestart => Sys2Proof.Machine.execGThirdFaultRestart s
  | .gpolicyWrite r v => Sys2Proof.Machine.execGpolicyWrite r v s
  | .safetest r copyB => Sys2Proof.Machine.execSafetest r copyB s
  | .safetestComplete wrong => Sys2Proof.Machine.execSafetestComplete wrong s
  | .pinEpochBoundary => Sys2Proof.Machine.execPinEpochBoundary s
  | .pulseTrainStep g k => Sys2Proof.Machine.execPulseTrainStep g k s
  | .pwmPeriodStart c k => Sys2Proof.Machine.execPwmPeriodStart c k s
  | .estopNRise k => Sys2Proof.Machine.execEstopNRise k s
  | .svcreqNChange k low => Sys2Proof.Machine.execSvcreqNChange k low s
  | .supplyDipEnd vdd => Sys2Proof.Machine.execSupplyDipEnd vdd s
  | .hmCrystalStart => Sys2Proof.Machine.execHmCrystalStart s
  | .vbatGood => Sys2Proof.Machine.execVbatGood s
  | .uartFrameEnd u k => Sys2Proof.Machine.execUartFrameEnd u k s
  | .uartBreakEnd u => Sys2Proof.Machine.execUartBreakEnd u s
  | .uartFormGapTimeout => Sys2Proof.Machine.execUartFormGapTimeout s
  | .jtagInstruction op => Sys2Proof.Machine.execJtagInstruction op s

end Sys2Proof.Machine
end

