-- ==== Sys2Proof/Safety.lean ====
section
/-! DEFINITION. What every step keeps (Inv), what a change raises beside itself (Raised), and the states in which a core carries out the
instruction at its PC from entries that it holds on chip (Ready, Handy), or a requester's access reaches its register. -/

namespace Sys2Proof.Machine

/-! ### What every step keeps -/

/-- The memory is in its canonical form, and the Logbook's buffer holds at most its 32 entries (R439). -/
def State.Inv (s : State) : Prop := Memory.wf s.mem = true ∧ s.logQ.length ≤ 32

/-- `t` is `u` but for the interrupts that a change as a whole raises: FLTSUMI (0xF0, R502) and SHOPHELD (0xB0 to 0xB4, R313), with
IRQLOST. -/
def Raised (u t : State) : Prop :=
  t = { u with regs := t.regs } ∧
    ∀ a, a ≠ R.IRQCNT 0xF0 → (∀ l, l < 5 → a ≠ R.IRQCNT (0xB0 + l)) → a ≠ R.IRQLOST → t.regs.find a = u.regs.find a

/-! ### A core carries out the instruction at its PC -/

/-- The halfword at the PC of core `l` can be fetched (R213, R290, R332): execution is permitted there, and the core holds the line, or
the check bits of the word agree. -/
def State.Fetches (s : State) (l : Nat) : Prop :=
  noExec (s.core l).pc.toNat = false ∧
  s.regionOk l (s.core l).guard (s.core l).ring .exec (s.core l).pc.toNat 2 = true ∧
  ∃ t, targetOf (s.core l).pc.toNat = some t ∧
    ((s.core l).holdsLine (s.core l).pc.toNat = true ∨
      ∀ w ∈ eccWords (s.variant.accessKey l (s.core l).pc.toNat t) 2, s.ecc.get 0 w = 0)

/-- Core `l` runs and fetches its instruction. -/
def State.Ready (s : State) (l : Nat) : Prop := s.runs l = true ∧ s.Fetches l

/-- The entries of a stack of core `l`, top first: its Bell stack in a lesson (R323), else those on chip (R198). -/
def State.held (s : State) (l : Nat) (r : Bool) : List Word :=
  if s.inLesson l then (s.core l).bellStack r else ((s.core l).chip r).map Entry.val

/-- Stack `r` of core `l` gives `p` entries and takes `q` with no move of R199: within the Bell stack in a lesson; else its bounds meet
R202, the top `p` are on chip at their homes, the limits admit it, and at most 16 are then on chip. -/
def State.Handy (s : State) (l : Nat) (r : Bool) (p q : Nat) : Prop :=
  if s.inLesson l then p ≤ ((s.core l).bellStack r).length ∧ ((s.core l).bellStack r).length - p + q ≤ bellDepth r
  else
    (p + q ≠ 0 → areaFault ((s.core l).base r) ((s.core l).lim r) ((s.core l).sp r) r = none) ∧
    ((s.core l).sp r).toNat + 4 * p ≤ ((s.core l).base r).toNat ∧
    ((s.core l).lim r).toNat + 4 * q ≤ ((s.core l).sp r).toNat + 4 * p ∧
    (((s.core l).chip r).take p).map Entry.home = (upFrom 0 p).map (homeAt ((s.core l).sp r)) ∧
    ((s.core l).chip r).length + q ≤ 16 + p

/-- The entries of a stack after words are pushed in order from a pointer at `sp`. -/
def pushedOn (own : Nat) (q : List Entry) (sp : Word) : List Word → List Entry
  | [] => q
  | v :: vs => pushedOn own ({ home := sp - 4, val := v, own := own } :: q) (sp - 4) vs

/-- Core `c` after `p` entries of its stack `r` have been taken and the words `vs` pushed, the last on top. -/
def State.restack (s : State) (l : Nat) (r : Bool) (p : Nat) (vs : List Word) (c : Core) : Core :=
  if s.inLesson l then c.setBell r (vs.reverse ++ (c.bellStack r).drop p)
  else
    let sp := c.sp r + BitVec.ofNat 32 (4 * p)
    (c.setChip r (pushedOn (s.contexts l).length ((c.chip r).drop p) sp vs)).setSp r (sp - BitVec.ofNat 32 (4 * vs.length))

/-- Core `l` after an instruction at A that retires: PC is A + 2, and no fault of R295 is in progress. -/
def State.next (s : State) (l : Nat) : Core := { s.core l with pc := (s.core l).pc + 2, fault := none }

/-! ### Tables of the instruction set, as the chapters print them

Each row: the instruction of a core, the entries it pops, the words it pushes (top last) for those popped (top first). -/

/-- LIT (R221) and the stack group on the operand stack (R227). -/
inductive StackRow : (Nat → Instr) → Nat → Nat → (List Word → List Word) → Prop
  | lit (v : BitVec 15) : StackRow (fun l => .lit l v) 0 1 (fun _ => [BitVec.ofInt 32 v.toInt])
  | nop : StackRow .nop 0 0 (fun _ => [])
  | dup : StackRow .dup 1 2 (fun v => [wAt v 0, wAt v 0])
  | drop : StackRow .drop 1 0 (fun _ => [])
  | swap : StackRow .swap 2 2 (fun v => [wAt v 0, wAt v 1])
  | over : StackRow .over 2 3 (fun v => [wAt v 1, wAt v 0, wAt v 1])
  | rot : StackRow .rot 3 3 (fun v => [wAt v 1, wAt v 0, wAt v 2])
  | nip : StackRow .nip 2 1 (fun v => [wAt v 0])
  | tuck : StackRow .tuck 2 3 (fun v => [wAt v 0, wAt v 1, wAt v 0])
  | dup2 : StackRow .dup2 2 4 (fun v => [wAt v 1, wAt v 0, wAt v 1, wAt v 0])
  | drop2 : StackRow .drop2 2 0 (fun _ => [])

/-- The wrapping two-operand instructions ( a b -- r ) of R228 and R229. -/
inductive BinaryRow : (Nat → Instr) → (Word → Word → Word) → Prop
  | add : BinaryRow .add (fun a b => BitVec.ofNat 32 (a.toNat + b.toNat))
  | sub : BinaryRow .sub (fun a b => BitVec.ofInt 32 (a.toNat - b.toNat))
  | and : BinaryRow .and (fun a b => a &&& b)
  | or : BinaryRow .or (fun a b => a ||| b)
  | xor : BinaryRow .xor (fun a b => a ^^^ b)
  | shl : BinaryRow .shl (fun a n => if 32 ≤ n.toNat then 0 else BitVec.ofNat 32 (a.toNat * 2 ^ n.toNat))
  | shr : BinaryRow .shr (fun a n => if 32 ≤ n.toNat then 0 else BitVec.ofNat 32 (a.toNat / 2 ^ n.toNat))
  | sar : BinaryRow .sar (fun a n => if 32 ≤ n.toNat then (if a.toInt < 0 then 0xFFFFFFFF else 0) else BitVec.ofInt 32 (a.toInt / 2 ^ n.toNat))
  | min : BinaryRow .min (fun a b => if a.toInt ≤ b.toInt then a else b)
  | max : BinaryRow .max (fun a b => if a.toInt ≤ b.toInt then b else a)
  | minu : BinaryRow .minu (fun a b => if a.toNat ≤ b.toNat then a else b)
  | maxu : BinaryRow .maxu (fun a b => if a.toNat ≤ b.toNat then b else a)
  | slt : BinaryRow .slt (fun a b => if a.toInt < b.toInt then 1 else 0)
  | sltu : BinaryRow .sltu (fun a b => if a.toNat < b.toNat then 1 else 0)
  | mul : BinaryRow .mul (fun a b => BitVec.ofNat 32 (a.toNat * b.toNat))
  | mulhs : BinaryRow .mulhs (fun a b => BitVec.ofInt 32 (a.toInt * b.toInt / 2 ^ 32))
  | mulhu : BinaryRow .mulhu (fun a b => BitVec.ofNat 32 (a.toNat * b.toNat / 2 ^ 32))

/-- The wrapping one-operand instructions ( a -- r ) of R222, R228 and R237. -/
inductive UnaryRow : (Nat → Instr) → (Word → Word) → Prop
  | litx (v : BitVec 12) : UnaryRow (fun l => .litx l v) (fun a => BitVec.ofNat 32 (a.toNat * 4096 + v.toNat))
  | not : UnaryRow .not (fun a => ~~~a)
  | neg : UnaryRow .neg (fun a => BitVec.ofInt 32 (-a.toInt))
  | abs : UnaryRow .abs (fun a => BitVec.ofNat 32 a.toInt.natAbs)
  | sext8 : UnaryRow .sext8 (fun a => (a.truncate 8).signExtend 32)
  | sext16 : UnaryRow .sext16 (fun a => (a.truncate 16).signExtend 32)
  | zext8 : UnaryRow .zext8 (fun a => (a.truncate 8).zeroExtend 32)
  | zext16 : UnaryRow .zext16 (fun a => (a.truncate 16).zeroExtend 32)
  | clz : UnaryRow .clz (fun a => BitVec.ofNat 32 (if a = 0 then 32 else 31 - Nat.log2 a.toNat))
  | addi (i : BitVec 8) : UnaryRow (fun l => .addi l i) (fun a => BitVec.ofInt 32 (a.toInt + i.toInt))
  | shli (n : BitVec 5) : UnaryRow (fun l => .shli l n) (fun a => BitVec.ofNat 32 (a.toNat * 2 ^ n.toNat))
  | shri (n : BitVec 5) : UnaryRow (fun l => .shri l n) (fun a => BitVec.ofNat 32 (a.toNat / 2 ^ n.toNat))
  | sari (n : BitVec 5) : UnaryRow (fun l => .sari l n) (fun a => BitVec.ofInt 32 (a.toInt / 2 ^ n.toNat))
  | rori (n : BitVec 5) : UnaryRow (fun l => .rori l n)
      (fun a => BitVec.ofNat 32 (a.toNat / 2 ^ n.toNat + a.toNat * 2 ^ (32 - n.toNat)))

/-- The saturating instructions of R228: the entries popped, the bits of the range, the exact result for the entries (top first). -/
inductive SaturatingRow : (Nat → Instr) → Nat → Nat → (List Word → Int) → Prop
  | adds : SaturatingRow .adds 2 32 (fun v => (wAt v 1).toInt + (wAt v 0).toInt)
  | subs : SaturatingRow .subs 2 32 (fun v => (wAt v 1).toInt - (wAt v 0).toInt)
  | negs : SaturatingRow .negs 1 32 (fun v => -(wAt v 0).toInt)
  | abss : SaturatingRow .abss 1 32 (fun v => ((wAt v 0).toInt.natAbs : Int))
  | sat16 : SaturatingRow .sat16 1 16 (fun v => (wAt v 0).toInt)

/-- The instructions that extract (R211, R212): the entries popped, the width n, the shift s, and the value A or A′. -/
inductive ExtractRow : (Nat → Instr) → Nat → Nat → Nat → (Core → List Word → Int) → Prop
  | ext8 (sh : BitVec 6) : ExtractRow (fun l => .ext8 l sh) 0 8 sh.toNat (fun c _ => c.acc.toInt)
  | ext16 (sh : BitVec 6) : ExtractRow (fun l => .ext16 l sh) 0 16 sh.toNat (fun c _ => c.acc.toInt)
  | ext32 (sh : BitVec 6) : ExtractRow (fun l => .ext32 l sh) 0 32 sh.toNat (fun c _ => c.acc.toInt)
  | mulq : ExtractRow .mulq 2 32 32 (fun _ v => 2 * (wAt v 1).toInt * (wAt v 0).toInt)

/-- `t` is the rounded quotient of R211 for A, the shift `sh` and RND. -/
def roundedTo (rnd sh : Nat) (a t : Int) : Prop :=
  (rnd ≠ 1 ∧ rnd ≠ 2 ∨ sh = 0 → t * 2 ^ sh ≤ a ∧ a < (t + 1) * 2 ^ sh) ∧
  (rnd = 1 ∧ sh ≠ 0 → (2 * t - 1) * 2 ^ sh ≤ 2 * a ∧ 2 * a < (2 * t + 1) * 2 ^ sh) ∧
  (rnd = 2 ∧ sh ≠ 0 → (2 * t - 1) * 2 ^ sh ≤ 2 * a ∧ 2 * a ≤ (2 * t + 1) * 2 ^ sh ∧
    ((2 * t - 1) * 2 ^ sh = 2 * a ∨ 2 * a = (2 * t + 1) * 2 ^ sh → t % 2 = 0))

/-- The branches of R223: the entries popped and the condition on them (top first). -/
inductive BranchRow : (Nat → BitVec 8 → Instr) → Nat → (List Word → Prop) → Prop
  | beq : BranchRow .beq 2 (fun v => wAt v 1 = wAt v 0)
  | bne : BranchRow .bne 2 (fun v => wAt v 1 ≠ wAt v 0)
  | blt : BranchRow .blt 2 (fun v => (wAt v 1).toInt < (wAt v 0).toInt)
  | bge : BranchRow .bge 2 (fun v => (wAt v 0).toInt ≤ (wAt v 1).toInt)
  | bltu : BranchRow .bltu 2 (fun v => (wAt v 1).toNat < (wAt v 0).toNat)
  | bgeu : BranchRow .bgeu 2 (fun v => (wAt v 0).toNat ≤ (wAt v 1).toNat)
  | bgt : BranchRow .bgt 2 (fun v => (wAt v 0).toInt < (wAt v 1).toInt)
  | ble : BranchRow .ble 2 (fun v => (wAt v 1).toInt ≤ (wAt v 0).toInt)
  | bz : BranchRow .bz 1 (fun v => wAt v 0 = 0)
  | bnz : BranchRow .bnz 1 (fun v => wAt v 0 ≠ 0)
  | bltz : BranchRow .bltz 1 (fun v => (wAt v 0).toInt < 0)
  | bgez : BranchRow .bgez 1 (fun v => 0 ≤ (wAt v 0).toInt)
  | bgtz : BranchRow .bgtz 1 (fun v => 0 < (wAt v 0).toInt)
  | blez : BranchRow .blez 1 (fun v => (wAt v 0).toInt ≤ 0)
  | bodd : BranchRow .bodd 1 (fun v => (wAt v 0).toNat % 2 = 1)
  | beven : BranchRow .beven 1 (fun v => (wAt v 0).toNat % 2 = 0)

/-- The instructions on ACC of R242 and R243 whose exact result sets AV out of range: the entries popped and that result. -/
inductive AccRow : (Nat → Instr) → Nat → (Int → List Word → Int) → Prop
  | clra : AccRow .clra 0 (fun _ _ => 0)
  | macs : AccRow .macs 2 (fun a v => a + 2 * (wAt v 1).toInt * (wAt v 0).toInt)
  | msus : AccRow .msus 2 (fun a v => a - 2 * (wAt v 1).toInt * (wAt v 0).toInt)
  | macsi : AccRow .macsi 2 (fun a v => a + (wAt v 1).toInt * (wAt v 0).toInt)
  | msusi : AccRow .msusi 2 (fun a v => a - (wAt v 1).toInt * (wAt v 0).toInt)
  | mpys : AccRow .mpys 2 (fun _ v => 2 * (wAt v 1).toInt * (wAt v 0).toInt)
  | mpysi : AccRow .mpysi 2 (fun _ v => (wAt v 1).toInt * (wAt v 0).toInt)
  | adda : AccRow .adda 1 (fun a v => a + (wAt v 0).toInt * 2 ^ 32)
  | addal : AccRow .addal 1 (fun a v => a + (wAt v 0).toInt)
  | nega : AccRow .nega 0 (fun a _ => -a)
  | asla (sh : BitVec 6) : AccRow (fun l => .asla l sh) 0 (fun a _ => a * 2 ^ sh.toNat)
  | asra (sh : BitVec 6) : AccRow (fun l => .asra l sh) 0 (fun a _ => a / 2 ^ sh.toNat)
  | lda : AccRow .lda 2 (fun _ v => (wAt v 0).toInt * 2 ^ 32 + (wAt v 1).toNat)

/-! ### Faults -/

/-- Core `l` enters a fault of the instruction at its PC as R294 says, in full: outside a lesson, with no earlier fault of the Guard
world in progress (R299), and with room on chip for the two words. -/
def State.EntersFaults (s : State) (l : Nat) : Prop :=
  s.Ready l ∧ s.inLesson l = false ∧ ((s.core l).guard = true → s.dfAct l = false ∧ (s.core l).fault = none) ∧ s.Handy l true 0 2

/-- From `s` to `t` core `l` has entered the fault of the instruction at its PC (R294, R297). -/
def TookFault (s t : State) (l kind cause : Nat) (addr : Word) (write rstk : Bool) : Prop :=
  let c := s.core l
  let d := t.core l
  let g := c.guard
  t.rd (if g then R.FSTATG l else R.FSTATS l) =
    w32 (kind + 16 * cause + 256 * g.toNat + 512 * c.ring + 2048 * write.toNat + 4096 * rstk.toNat) ∧
  t.rd (if g then R.FADDRG l else R.FADDRS l) = addr ∧
  t.fld (R.FCNT l) (if g then R.FCNT_GUARD else R.FCNT_SHOP) =
    min (2 ^ (if g then R.FCNT_GUARD else R.FCNT_SHOP).w - 1) (s.fld (R.FCNT l) (if g then R.FCNT_GUARD else R.FCNT_SHOP) + 1) ∧
  d = { s.restack l true 0 [c.stw, c.pc] c with
    pc := s.rd (if g then R.FVECG l else R.FVECS l) &&& 0xFFFFFFFE, stw := c.stw &&& 0xFFFFFFF9, waiting := false
    fault := some { kind := kind, pc := c.pc, stw := c.stw, dsp := c.dsp, rsp := c.rsp, bnd := [c.dsbase, c.dslim, c.rsbase, c.rslim] } } ∧
  t.mem = s.mem

/-! ### Special registers (R196) -/

/-- What RSR `n` pushes on core `l` of `s`. -/
inductive RsrRow : Nat → (State → Nat → Word) → Prop
  | pc : RsrRow 0x00 (fun s l => (s.core l).pc)
  | stw : RsrRow 0x01 (fun s l => (s.core l).stw)
  | dsp : RsrRow 0x02 (fun s l => (s.core l).dsp)
  | dsbase : RsrRow 0x03 (fun s l => (s.core l).dsbase)
  | dslim : RsrRow 0x04 (fun s l => (s.core l).dslim)
  | rsp : RsrRow 0x05 (fun s l => (s.core l).rsp)
  | rsbase : RsrRow 0x06 (fun s l => (s.core l).rsbase)
  | rslim : RsrRow 0x07 (fun s l => (s.core l).rslim)
  | depth : RsrRow 0x08 (fun s l => BitVec.ofNat 32 ((s.core l).ops.length + 256 * (s.core l).rets.length))
  | accl : RsrRow 0x10 (fun s l => (s.core l).acc.truncate 32)
  | acch : RsrRow 0x11 (fun s l => ((s.core l).acc >>> 32).truncate 32)
  | accg : RsrRow 0x12 (fun s l => (((s.core l).acc >>> 64).truncate 8).signExtend 32)
  | xa : RsrRow 0x18 (fun s l => (s.core l).x.a)
  | xb : RsrRow 0x19 (fun s l => (s.core l).x.b)
  | xcfg : RsrRow 0x1A (fun s l => (s.core l).x.cfg)
  | xstep : RsrRow 0x1B (fun s l => (s.core l).x.step)
  | ya : RsrRow 0x1C (fun s l => (s.core l).y.a)
  | yb : RsrRow 0x1D (fun s l => (s.core l).y.b)
  | ycfg : RsrRow 0x1E (fun s l => (s.core l).y.cfg)
  | ystep : RsrRow 0x1F (fun s l => (s.core l).y.step)
  | coreid : RsrRow 0x20 (fun s l =>
      BitVec.ofNat 32 (s.variant.phys l + (if l = 0 then 8 else 0) + 16 * l))

/-- What WSR `n` does to a core, for the registers that have no rule of their own. -/
inductive WsrRow : Nat → (Core → Word → Core) → Prop
  | accl : WsrRow 0x10 (fun c v => { c with acc := (c.acc &&& ~~~0xFFFFFFFF) ||| v.zeroExtend 72 })
  | acch : WsrRow 0x11 (fun c v => { c with acc := (c.acc &&& ~~~((0xFFFFFFFF : BitVec 72) <<< 32)) ||| (v.zeroExtend 72 <<< 32) })
  | accg : WsrRow 0x12 (fun c v => { c with acc := (c.acc &&& ~~~((0xFF : BitVec 72) <<< 64)) ||| (v.zeroExtend 72 <<< 64) })
  | xa : WsrRow 0x18 (fun c v => { c with x := { c.x with a := v } })
  | xb : WsrRow 0x19 (fun c v => { c with x := { c.x with b := v } })
  | xcfg : WsrRow 0x1A (fun c v => { c with x := { c.x with cfg := v &&& 0x1FFFFFF } })
  | xstep : WsrRow 0x1B (fun c v => { c with x := { c.x with step := v } })
  | ya : WsrRow 0x1C (fun c v => { c with y := { c.y with a := v } })
  | yb : WsrRow 0x1D (fun c v => { c with y := { c.y with b := v } })
  | ycfg : WsrRow 0x1E (fun c v => { c with y := { c.y with cfg := v &&& 0x1FFFFFF } })
  | ystep : WsrRow 0x1F (fun c v => { c with y := { c.y with step := v } })

/-! ### Memory as a core reaches it -/

/-- Where memory holds the byte that core `l` has at address `a`: its own TCM by its own addresses, the rest by the shared map. -/
def State.cellOf (s : State) (l a : Nat) : Nat := s.variant.accessKey l a ((targetOf a).getD .sram)

/-- The value of `n` bytes at `a` as core `l` reads them, the lowest address in the lowest byte (R197). -/
def State.value (s : State) (l : Nat) : Nat → Nat → Nat
  | 0, _ => 0
  | n + 1, a => (s.byte (s.cellOf l a)).toNat + 256 * s.value l n (a + 1)

/-- Core `l` may read `n` bytes at `a` of memory, and nothing waits that the read must see first: the checks of R219 pass, its store
buffer and the MRAM controller are empty, the check bits agree, and no sealed region is met. -/
def State.Loads (s : State) (l a n : Nat) : Prop :=
  s.dataFault (s.who l) .read a n 0 = none ∧ a + n ≤ 0x40000000 ∧ (s.core l).sb = [] ∧ s.mrq = [] ∧ s.ecc = [] ∧
    ∀ i, i < n → s.sealedAt (s.cellOf l (a + i)) = none

/-- Core `l` may store `n` bytes of `v` at the aligned address `a` of memory, and its store buffer has room. -/
def State.Stores (s : State) (l a n : Nat) (v : Word) : Prop :=
  s.dataFault (s.who l) .write a n v = none ∧ a % n = 0 ∧ a < 0x40000000 ∧ (s.core l).sb.length < 4

/-- The store buffer entry of such a store (R269). -/
def State.entryOf (s : State) (l a n : Nat) (v : Word) : SbEntry :=
  { addr := s.cellOf l a, n := n, val := v.toNat % 256 ^ n, tgt := (targetOf a).getD .sram, guard := (s.core l).guard
    ring := (s.core l).ring, done := false }

/-- `y` is `x` with its low `n` bits reversed. -/
def isReversed (n x y : Nat) : Prop := y < 2 ^ n ∧ ∀ i, i < n → y.testBit i = x.testBit (n - 1 - i)

/-- `v` is the address after an access of `e` bytes through `x` (R204). -/
def isStepped (x : Xreg) (e : Nat) (v : Word) : Prop :=
  let len := x.cfg.toNat % 2 ^ 24
  let o := (x.a - x.b).toNat
  (len = 0 → v = x.a + x.step) ∧
  (len ≠ 0 → x.cfg.getLsbD 24 = false ∨ (∀ i, len ≠ 2 ^ i) ∨ len < e →
    v = x.b + BitVec.ofInt 32 ((o + x.step.toInt) % len)) ∧
  (x.cfg.getLsbD 24 = true → ∀ i, len = 2 ^ i → e ≤ len → ∀ n, len / e = 2 ^ n →
    ∃ a b w, isReversed n (o % len / e) a ∧ isReversed n ((x.step.toInt.tdiv e % (2 ^ n : Nat)).toNat) b ∧
      isReversed n ((a + b) % 2 ^ n) w ∧ v = x.b + BitVec.ofNat 32 (o % e + e * w))

/-- The register through which an access is made. -/
def Core.through (c : Core) (y : Bool) : Xreg := if y then c.y else c.x

/-- The core with that register's address at `v`. -/
def Core.steppedTo (c : Core) (y : Bool) (v : Word) : Core :=
  if y then { c with y := { c.y with a := v } } else { c with x := { c.x with a := v } }

/-- One accumulation through X and Y on core `l` (R241, R246), from the core `c` to the core `d`: memory as `s` has it. -/
def State.MacStep (s : State) (l : Nat) (frac sub : Bool) (c d : Core) : Prop :=
  let p : Int := (if frac then 2 else 1) * (BitVec.ofNat 32 (s.value l 4 c.x.a.toNat)).toInt * (BitVec.ofNat 32 (s.value l 4 c.y.a.toNat)).toInt
  let x := if sub then c.acc.toInt - p else c.acc.toInt + p
  s.Loads l c.x.a.toNat 4 ∧ s.Loads l c.y.a.toNat 4 ∧
  ∃ xa ya, isStepped c.x 4 xa ∧ isStepped c.y 4 ya ∧
    d = { c with
      x := { c.x with a := xa }, y := { c.y with a := ya }, acc := BitVec.ofInt 72 x
      stw := if -2 ^ 71 ≤ x ∧ x < 2 ^ 71 then c.stw else c.stw ||| 0x2000 }

/-- `n` accumulations one after another. -/
inductive State.MacSteps (s : State) (l : Nat) (frac sub : Bool) : Nat → Core → Core → Prop
  | zero (c : Core) : s.MacSteps l frac sub 0 c c
  | succ {n : Nat} {c d e : Core} : s.MacStep l frac sub c d → s.MacSteps l frac sub n d e → s.MacSteps l frac sub (n + 1) c e

/-! ### Gates (R281-R285) -/

/-- The eight words of gate entry `i` of the table that core `l` uses (R282), as memory holds them. -/
def State.gateWord (s : State) (l i j : Nat) : Word :=
  let gt := s.guardTable l i
  BitVec.ofNat 32 (s.value l 4 ((s.rd (if gt then R.GTABG l else R.GTABS l)).toNat + 32 * i + 4 * j))

/-- Checks 1 to 8 of R283 pass for GATE `i` on core `l`, and the entry can be read at ring 0 of its table's world. -/
def State.GateOpen (s : State) (l i : Nat) : Prop :=
  let c := s.core l
  let gt := s.guardTable l i
  let base := (s.rd (if gt then R.GTABG l else R.GTABS l)).toNat
  let w := s.gateWord l i
  let tring := (w 1).toNat % 4
  let xw := (w 1).getLsbD 2
  let stk := (w 1).getLsbD 3
  s.inLesson l = false ∧
  i < s.fld (R.GTCNT l) (if gt then R.GTCNT_COUNTG else R.GTCNT_COUNTS) ∧ i < 64 ∧
  base + 32 * i + 32 ≤ 0x40000000 ∧ c.sb = [] ∧ s.mrq = [] ∧ s.ecc = [] ∧
  (∀ j, j < 8 → s.dataFault { id := l, guard := gt, ring := 0 } .read (base + 32 * i + 4 * j) 4 0 = none) ∧
  (∀ j, j < 32 → s.sealedAt (s.cellOf l (base + 32 * i + j)) = none) ∧
  (w 0).getLsbD 0 = true ∧ (w 1).toNat < 65536 ∧ w 6 = 0 ∧ w 7 = 0 ∧
  c.ring ≤ (w 1).toNat / 16 % 4 ∧
  ((c.guard = true ∨ gt = false) → tring ≤ c.ring) ∧
  (gt = true → c.guard = false → xw = true ∧ tring ≤ 1) ∧ (gt = false → xw = false) ∧
  (xw = true → stk = true) ∧
  (stk = true →
    let narg := (w 1).toNat / 64 % 8
    (∀ j, 2 ≤ j → j ≤ 5 → (w j).toNat % 4 = 0) ∧ stackArea (w 3) (w 2) = true ∧ stackArea (w 5) (w 4) = true ∧
      (w 3).toNat + 4 * narg ≤ (w 2).toNat ∧ (w 5).toNat + 36 ≤ (w 4).toNat)

/-- STW of the callee (R284 step 5). -/
def State.calleeStw (s : State) (l i : Nat) : Word :=
  let c := s.core l
  let n := s.gateWord l i 1
  let a := (c.stw &&& 0xFFFFFFF8) ||| (if n.getLsbD 2 then 1 else c.stw &&& 1) ||| BitVec.ofNat 32 (2 * (n.toNat % 4))
  if n.getLsbD 12 then (a &&& 0xFFFFFF8F) ||| BitVec.ofNat 32 (16 * (n.toNat / 8192 % 8)) else a

/-- FRMW of the frame of a gate (R285). -/
def State.gateFrame (s : State) (l i : Nat) : Word :=
  let n := s.gateWord l i 1
  let world := if n.getLsbD 2 then 1 else (s.core l).stw.toNat % 2
  BitVec.ofNat 32 (n.toNat % 4 + 4 * world + 8 * (n.toNat / 8 % 2) + 16 * (n.toNat / 512 % 8) + 128 * (n.toNat / 4 % 2) + 256 * i +
    0xA75E * 65536)

/-! ### A requester's access reaches its register -/

/-- The requester as a register sees it: a core in its world and ring, or the Staff port. -/
def State.asker (s : State) : Rq → Who
  | .core l => s.who l
  | .staff => .staff

/-- A write of `v` by `r` reaches the register at `a` (R240, R430): core `l` runs, the checks of its store pass, and no older store of
its own to the peripheral region waits; or the window of the Staff port is free and its checks pass. -/
def State.Reaches (s : State) (r : Rq) (a : Nat) (v : Word) : Prop :=
  match r with
  | .core l => l < 5 ∧ s.runs l = true ∧ 0x40000000 ≤ a ∧ s.dataFault (s.who l) .write a 4 v = none ∧
      ∀ e ∈ (s.core l).sb, e.tgt ≠ .periph
  | .staff => s.staff.access = none ∧ 0x40000000 ≤ a ∧ s.winCheck { write := true, addr := a, n := 4, val := v.toNat } = 0

/-- A read by `r` reaches the register at `a`. -/
def State.ReachesRead (s : State) (r : Rq) (a : Nat) : Prop :=
  match r with
  | .core l => l < 5 ∧ s.runs l = true ∧ 0x40000000 ≤ a ∧ s.dataFault (s.who l) .read a 4 0 = none ∧
      ∀ e ∈ (s.core l).sb, e.tgt ≠ .periph
  | .staff => s.staff.access = none ∧ 0x40000000 ≤ a ∧ s.winCheck { write := false, addr := a, n := 4, val := 0 } = 0

/-- When the write of `v` at `a` by `r` reaches its register, command `i` answers a next state of which `P` holds. -/
def State.Does (s : State) (r : Rq) (a : Nat) (v : Word) (i : Instr) (P : State → Prop) : Prop :=
  s.Reaches r a v → ∃ t, exec i s = .next t ∧ P t

/-- When the read at `a` by `r` reaches its register, command `i` answers a next state of which `P` holds. -/
def State.DoesRead (s : State) (r : Rq) (a : Nat) (i : Instr) (P : State → Prop) : Prop :=
  s.ReachesRead r a → ∃ t, exec i s = .next t ∧ P t

/-- Command `i` answers a next state of which `P` holds. -/
def State.Leads (s : State) (i : Instr) (P : State → Prop) : Prop := ∃ t, exec i s = .next t ∧ P t

/-- Command `i` answers a next state that is `u` but for what the change raises. -/
def State.Gives (s : State) (i : Instr) (u : State) : Prop := ∃ t, exec i s = .next t ∧ Raised u t

/-- `t` is `u` but for what an access itself changes: the record of owners, and for a window access the Staff port and what the owner
of the block is told (R434); and what the change raises. -/
def Asked (u t : State) : Prop :=
  t = { u with regs := t.regs, owners := t.owners, staff := t.staff } ∧
    ∀ a, a ≠ R.IRQCNT 0xF0 → a ≠ R.IRQLOST →
      (∀ l, l < 5 → a ≠ R.IRQCNT (0xB0 + l) ∧ a ≠ R.IRQCNT (0xA0 + l) ∧ a ≠ R.STCHGADDR l ∧ a ≠ R.STCHGCNT l) →
      t.regs.find a = u.regs.find a

/-- When the write of `v` at `a` by `r` reaches its register, command `i` answers `u`, but for what the access itself changes. -/
def State.Sets (s : State) (r : Rq) (a : Nat) (v : Word) (i : Instr) (u : State) : Prop := s.Does r a v i (Asked u)

/-! ### Access types (R9-R11, R64, R95) -/

/-- Registers that no rule but their access types governs. -/
inductive PlainReg : Nat → Prop
  | mzstat : PlainReg R.MZSTAT
  | mzskew : PlainReg R.MZSKEW
  | mzwin : PlainReg R.MZWIN
  | mzloss : PlainReg R.MZLOSS
  | ttfault : PlainReg R.TTFAULT
  | rstcause : PlainReg R.RSTCAUSE
  | corerst : PlainReg R.CORERST
  | hotol : PlainReg R.HOTOL
  | memuewho : PlainReg R.MEMUEWHO
  | gentry (l : Nat) : l < 5 → PlainReg (R.GENTRY l)

/-- The registers of the file that count events in RC fields. -/
inductive CountReg (v : Variant) : Nat → Prop
  | pcerr (c : Nat) : c < v.nLocal → CountReg v (R.PCERR c)
  | ttlatecnt : CountReg v R.TTLATECNT
  | ttrefuse (i : Nat) : i < 2 → CountReg v (R.TTREFUSE i)
  | qfail (q : Nat) : q < 16 → CountReg v (R.QFAIL q)
  | evhdrop : CountReg v R.EVHDROP
  | irqlost : CountReg v R.IRQLOST
  | uerr (u : Nat) : u < 4 → CountReg v (R.UERR u)
  | aerr : CountReg v R.AERR
  | rngerr : CountReg v R.RNGERR
  | clkstat : CountReg v R.CLKSTAT
  | supstat : CountReg v R.SUPSTAT
  | bususe (i : Nat) : i < 4 → CountReg v (R.BUSUSE i)
  | fcnt (l : Nat) : l < 5 → CountReg v (R.FCNT l)

/-- What a write of `v` leaves of a field that reads `old`, by its access type. -/
def Acc.written (t : Acc) (old v : Nat) : Nat :=
  match t with
  | .rw | .wo => v
  | .w1s => old ||| v
  | .w1c => old - (old &&& v)
  | .ro | .rc => old

/-- Register `a` reads `new` after a write of `v` over `old`: each field by its access type. -/
def WrittenByType (a : Nat) (old v new : Word) : Prop :=
  ∃ row, rowAt a = some row ∧ ∀ e ∈ row.fields, e.1.get new = e.2.1.written (e.1.get old) (e.1.get v)

/-- A read of register `a`, which held `old`, returned `got` and leaves `new`: an RC field is returned and reads 0, any other stays. -/
def ReadByType (a : Nat) (old got new : Word) : Prop :=
  ∃ row, rowAt a = some row ∧ ∀ e ∈ row.fields,
    (e.2.1 = .rc → e.1.get got = e.1.get old ∧ e.1.get new = 0) ∧ (e.2.1 ≠ .rc → e.1.get new = e.1.get old)

/-- A low half, and the half that a read of it latches for its requester (R64, R95). -/
inductive LatchRow (v : Variant) : Nat → Nat → Prop
  | count (c : Nat) : c < v.nLocal → LatchRow v (R.PCCOUNTL c) (R.PCCOUNTH c)
  | edge (c : Nat) : c < v.nLocal → LatchRow v (R.PCEDGEL c) (R.PCEDGEH c)
  | index (c : Nat) : c < v.nLocal → LatchRow v (R.PCIDXL c) (R.PCIDXH c)
  | raw (c : Nat) : c < v.nLocal → LatchRow v (R.PCRAWL c) (R.PCRAWH c)
  | stamp : LatchRow v R.MZSTAMPL R.MZSTAMPH
  | wall : LatchRow v R.WALLL R.WALLH
  | walltop : LatchRow v R.WALLL R.WALLTOP

/-! ### Modes -/

/-- The requester as the transition table names it (R36). -/
def State.modeAsker (s : State) : Rq → ModeReq
  | .core l => if (s.core l).guard then .guard else .shop
  | .staff => .staff

/-- The transitions of R36 that a core or the Staff port may ask for, with the conditions that must hold. -/
inductive ModePath (s : State) : Mode → Mode → ModeReq → Prop
  | prepareOfDawn : ¬(s.fld R.LOCKSTAT R.LOCKSTAT_PEND = 1 ∧ s.fld R.LOCKSTAT R.LOCKSTAT_CLROK = 0) → ModePath s .dawn .prepare .guard
  | run (q : ModeReq) : q ∈ [ModeReq.guard, .staff] → s.estopN = true → s.fltsum = 0 →
      s.fld R.DAWNSTAT R.DAWNSTAT_IMGBAD = 0 → ModePath s .prepare .run q
  | hold (q : ModeReq) : q ∈ [ModeReq.guard, .shop, .staff] → ModePath s .run .hold q
  | resume (q : ModeReq) : q ∈ [ModeReq.guard, .shop, .staff] → s.estopN = true → ModePath s .hold .run q
  | prepare (m : Mode) (q : ModeReq) : m ∈ [Mode.run, .hold] → q ∈ [ModeReq.guard, .staff] → ModePath s m .prepare q
  | prepareOfSafe (q : ModeReq) : q ∈ [ModeReq.guard, .staff] → s.estopN = true → ModePath s .safe .prepare q
  | safe (m : Mode) (q : ModeReq) : m ∈ [Mode.prepare, .run, .hold] → q ∈ [ModeReq.guard, .staff] → ModePath s m .safe q
  | lockout (m : Mode) (q : ModeReq) : m ∈ [Mode.prepare, .run, .hold, .safe] → q ∈ [ModeReq.guard, .staff] → ModePath s m .lockout q
  | dawn (m : Mode) (q : ModeReq) : m ≠ .night → m ≠ .lockout → q ∈ [ModeReq.guard, .staff] → ModePath s m .dawn q
  | dawnOfLockout : s.fld R.LOCKSTAT R.LOCKSTAT_CLROK = 1 → ModePath s .lockout .dawn .staff
  | service (m : Mode) (k : Nat) : m ∈ [Mode.prepare, .safe, .lockout] → s.svcLow = some k → k + 20000000 ≤ s.now →
      ModePath s m .service .staff
  | night (m : Mode) (q : ModeReq) : m ∈ [Mode.prepare, .safe, .lockout] → q ∈ [ModeReq.guard, .staff] → ModePath s m .night q

/-- The mode request of `r` is carried out: a core's write of MODEREQ reaches it (R42), or the Staff port has a session (R427). -/
def State.MayAsk (s : State) (r : Rq) (m : Mode) : Prop :=
  match r with
  | .core l => s.Reaches (.core l) R.MODEREQ (BitVec.ofNat 32 (m.code + 65536 * 0xA55A))
  | .staff => s.mode ≠ .night ∧ s.notReady = false ∧ s.staff.sess = .opened

/-- The commands that ask for a mode. -/
inductive ModeRow : Mode → (Rq → Instr) → Prop
  | night : ModeRow .night .modeRequestNight
  | dawn : ModeRow .dawn .modeRequestDawn
  | prepare : ModeRow .prepare .modeRequestPrepare
  | run : ModeRow .run .modeRequestRun
  | hold : ModeRow .hold .modeRequestHold
  | safe : ModeRow .safe .modeRequestSafe
  | service : ModeRow .service .modeRequestService
  | lockout : ModeRow .lockout .modeRequestLockout

/-- The last reset was of kind `i` of R46. -/
def State.ResetBy (t : State) (i : Nat) : Prop :=
  (t.fld R.RSTCAUSE R.RSTCAUSE_CAUSE).testBit i = true ∧ t.fld R.RSTCAUSE R.RSTCAUSE_LAST = i

/-- Every event line drives its safe state (R171). -/
def State.LinesSafe (t : State) : Prop := ∀ l, l < 64 → (t.line l).safed = true ∧ (t.line l).fd.a.e0.v = false ∧ (t.line l).fd.a.e1.v = false

/-! ### Positions and time -/

/-- `y` is `x` brought into the range of an `n`-bit two's complement number. -/
def isWrapped (n : Nat) (x y : Int) : Prop := -2 ^ (n - 1) ≤ y ∧ y < 2 ^ (n - 1) ∧ (y - x) % 2 ^ n = 0

/-- From `u` to `t` channel `ch` has entered FAULT with a cause (R75): its count is held, POSFLT is raised, and the timebases that it
feeds fault with SRCFLT (R118). -/
def ChannelFaulted (u t : State) (ch cause : Nat) : Prop :=
  (t.chan ch).state = .fault ∧ (t.chan ch).cause = cause ∧ (t.chan ch).count = (u.chan ch).count ∧
  t.fld (R.IRQCNT ch) R.IRQCNT_COUNT = min 15 (u.fld (R.IRQCNT ch) R.IRQCNT_COUNT + 1) ∧
  ∀ i, i < 16 → u.variant.hasTb i = true → (u.tb i).src = ch → (u.tb i).state = .run →
    (t.tb i).state = .fault ∧ (t.tb i).cause = 1 ∧ (t.tb i).vel = 0 ∧ (t.tb i).word = (u.tb i).word

/-- Pair `i` (A, B, Z) of channel `ch` is level-checked (R73). -/
def State.PairChecked (s : State) (ch i : Nat) : Prop :=
  let m := s.fld (R.PCCTL ch) R.PCCTL_MODE
  s.fld (R.PCCTL ch) R.PCCTL_SE = 0 ∧
    (i = 0 ∧ m ∈ [1, 2, 3] ∨ i = 1 ∧ m = 1 ∨ i = 2 ∧ m ∈ [1, 4] ∧ s.fld (R.PCCTL ch) R.PCCTL_ZEN = 1)

/-- The decoding of R66 counts a step for the change from levels `a0`, `b0` to `a`, `b`, upward or not. -/
inductive StepRow (decode : Nat) (rev : Bool) : Bool → Bool → Bool → Bool → Option Bool → Prop
  | changeA (a0 b0 a : Bool) : a ≠ a0 → decode < 2 → StepRow decode rev a0 b0 a b0 (some ((a != b0) != rev))
  | riseA (b0 : Bool) : 2 ≤ decode → StepRow decode rev false b0 true b0 (some (!b0 != rev))
  | fallA (b0 : Bool) : 2 ≤ decode → StepRow decode rev true b0 false b0 none
  | changeB (a0 b0 b : Bool) : b ≠ b0 → decode = 0 → StepRow decode rev a0 b0 a0 b (some ((b == a0) != rev))
  | ignoreB (a0 b0 b : Bool) : b ≠ b0 → decode ≠ 0 → StepRow decode rev a0 b0 a0 b none
  | none (a0 b0 : Bool) : StepRow decode rev a0 b0 a0 b0 none

/-- The levels of A and B that ZQUAL selects (R70). -/
def zSelected (zqual : Nat) (a b : Bool) : Prop :=
  zqual = 0 ∨ zqual = 1 ∧ a = true ∧ b = true ∨ zqual = 2 ∧ a = true ∧ b = false ∨ zqual = 3 ∧ a = false ∧ b = false

/-- `y` is `x` brought into the range of the word of timebase `i` (R91). -/
def State.isWord (s : State) (i : Nat) (x y : Int) : Prop :=
  if s.modulus i = 0 then isWrapped 48 x y else 0 ≤ y ∧ y < 256 * s.modulus i ∧ (y - x) % (256 * s.modulus i) = 0

/-- The timebase commands without a new source: the command's code, the kinds that have it (R114). -/
inductive TbRow : (Rq → Nat → Instr) → Nat → List Nat → Prop
  | set : TbRow .tbSet 1 [1, 3, 6]
  | accept : TbRow .tbAccept 2 [1]
  | shift : TbRow .tbShift 3 [1, 3, 6]
  | unref : TbRow .tbUnref 4 [1]

/-- SWITCHB and SWITCHD (R114). -/
inductive SwitchRow : (Rq → Nat → Nat → Instr) → Nat → Prop
  | switchb : SwitchRow .tbSwitchb 5
  | switchd : SwitchRow .tbSwitchd 6

/-- A watch channel is assigned to timebase `i` and the hand-over has not happened (R54). -/
def State.awaitsHandover (s : State) (i : Nat) : Prop :=
  s.handed = false ∧ ∃ n, n < 4 ∧ s.fld (R.HWCFG n) R.HWCFG_ASSIGNED = 1 ∧ s.fld (R.HWCFG n) R.HWCFG_TB = i

/-- Checks 1 to 8 of R125 pass for period `p` of requester `w`, and slot `i` is the lowest that may take it (R126, R166). -/
def State.ArmPasses (s : State) (w : Who) (p : Period) (i : Nat) : Prop :=
  (w.isStaff = true ∨ w.ring ≤ 1) ∧ s.mode ∈ [Mode.prepare, .run, .hold] ∧
  (1 ≤ p.dirq ∧ 1 ≤ p.act ∧ p.act ≤ 12 ∧ 4 * p.hyst < s.span p.tb ∧ (s.modulus p.tb ≠ 0 → p.pos < 256 * s.modulus p.tb) ∧
    (p.act = 12 → p.arg % 32 ≠ i) ∧ (p.act = 11 → s.fld R.TTMEMBASE R.TTMEMBASE_EN = 1)) ∧
  (s.variant.hasTb p.tb = true ∧ (p.fcast = 1 → s.variant.enward = true) ∧ (p.act = 8 → s.variant.hasCore (p.arg % 8) = true) ∧
    (p.act = 9 → s.variant.enward = true) ∧ (p.act = 10 → p.arg % 8 < s.variant.nRecit)) ∧
  (w.shop = true → (p.act = 8 → p.arg / 8 % 2 = 0) ∧
    (1 ≤ p.act → p.act ≤ 3 → R.EVCFG_WORLD.get (s.eff (R.EVCFG (p.arg % 64))) = 0) ∧
    (4 ≤ p.act → p.act ≤ 5 → R.PTCFG_WORLD.get (s.eff (R.PTCFG (p.arg % 16))) = 0)) ∧
  ((s.tb p.tb).state = .run ∧ (s.kind p.tb = 2 → (s.tb p.tb).rxSeen = true)) ∧
  ((s.tb p.tb).ref = true ∨ p.uref = 1) ∧
  (i < 32 ∧ (s.slot i).a.state = 0 ∧ s.queueOf i = none ∧ s.unsettled i = false ∧
    (∀ j, j < i → (s.slot j).a.state ≠ 0 ∨ (s.queueOf j).isSome = true ∨ s.unsettled j = true) ∧
    s.heldBy w.id w.guard < s.fld (R.TTQUOTA w.id) (if w.guard then R.TTQUOTA_GUARDQ else R.TTQUOTA_SHOPQ) ∧
    (w.shop = true → s.fld R.TTRESV R.TTRESV_GRESV < s.freeUnbound.length))

/-- Period `p` stands before its position on the word presented (R130): its distance d is negative. -/
def State.isAhead (s : State) (p : Period) : Prop :=
  let d := diffSpan (s.span p.tb) (s.tb p.tb).word p.posInt
  p.dirq = 1 ∧ d < 0 ∨ p.dirq = 2 ∧ 0 < d ∨ p.dirq = 3 ∧ d ≠ 0

/-- Slot `i` of `t` holds `p` in both copies for requester `w`, STAGED or ARMED. -/
def HoldsPeriod (t : State) (i : Nat) (w : Who) (p : Period) : Prop :=
  (t.slot i).a = (t.slot i).b ∧ (t.slot i).a.per = p ∧ (t.slot i).a.state = (if p.stg = 1 then 1 else 2) ∧ (t.slot i).status = 1 ∧
    (t.slot i).req = w.id ∧ (t.slot i).guard = w.guard

/-- What a Timetable fault does beside its output and its slot (R147): TTFAULT keeps the first, G has its NMI bit, and SAFE is asked for
in PREPARE, RUN and HOLD. -/
def TimetableFaulted (s t : State) (kind place gen field : Nat) : Prop :=
  (s.fld R.TTFAULT R.TTFAULT_SEEN = 0 → t.fld R.TTFAULT R.TTFAULT_KIND = kind ∧ t.fld R.TTFAULT R.TTFAULT_WHERE = place ∧
    t.fld R.TTFAULT R.TTFAULT_GEN = gen ∧ t.fld R.TTFAULT R.TTFAULT_FIELD = field) ∧
  t.fld R.TTFAULT R.TTFAULT_SEEN = 1 ∧ t.fld (R.NMIPEND 0) R.NMIPEND_TTFAULT = 1 ∧
  (s.trans = none → s.mode ∈ [Mode.prepare, .run, .hold] → ∃ tr, t.trans = some tr ∧ tr.target = .safe ∧ tr.req = .fault)

/-- Requester `w` may write the registers of queue `q` (R155). -/
def State.MayQueue (s : State) (w : Who) (q : Nat) : Prop :=
  if (s.queue q).state = .off then w.isStaff = true ∨ w.ring ≤ 1
  else w.priv = true ∨ (w.isStaff = true ∨ w.ring ≤ 1) ∧ s.fld (R.QCFG q) R.QCFG_OWNER = w.id ∧
    (s.fld (R.QCFG q) R.QCFG_WORLD = 1 ↔ w.guard = true)

/-- HEAD of queue `q` while the reports `l` wait: the record of the oldest one of its own, else the record `i` (R161). -/
def headOf (q : Nat) (l : List Report) (i : Nat) : Nat :=
  match l.find? (fun r => r.queue == q) with
  | some r => r.idx
  | none => i

/-- Checks 3 to 5 of R125 pass for a record of queue `q` in its slot, for the world that bound the queue (R127, R160). -/
def State.RefillForms (s : State) (q : Nat) (p : Period) : Prop :=
  let shop := s.fld (R.QCFG q) R.QCFG_WORLD = 0 ∧ s.fld (R.QCFG q) R.QCFG_OWNER ≠ 5
  (1 ≤ p.dirq ∧ 1 ≤ p.act ∧ p.act ≤ 12 ∧ 4 * p.hyst < s.span p.tb ∧ (s.modulus p.tb ≠ 0 → p.pos < 256 * s.modulus p.tb) ∧
    (p.act = 12 → p.arg % 32 ≠ s.queueSlot q) ∧ (p.act = 11 → s.fld R.TTMEMBASE R.TTMEMBASE_EN = 1)) ∧
  (s.variant.hasTb p.tb = true ∧ (p.fcast = 1 → s.variant.enward = true) ∧ (p.act = 8 → s.variant.hasCore (p.arg % 8) = true) ∧
    (p.act = 9 → s.variant.enward = true) ∧ (p.act = 10 → p.arg % 8 < s.variant.nRecit)) ∧
  (shop → (p.act = 8 → p.arg / 8 % 2 = 0) ∧
    (1 ≤ p.act → p.act ≤ 3 → R.EVCFG_WORLD.get (s.eff (R.EVCFG (p.arg % 64))) = 0) ∧
    (4 ≤ p.act → p.act ≤ 5 → R.PTCFG_WORLD.get (s.eff (R.PTCFG (p.arg % 16))) = 0))

/-! ### The Staff port -/

/-- Request `row` reaches the port whole and good with a CMD, a register and data (R410-R414): a frame of 40 edges in SPI form, five
characters in UART form, or a command that names the request itself. -/
inductive State.Carries (s : State) : Instr → StaffEnv → Nat → Nat → Nat → Prop
  | spi (env : StaffEnv) (m : Bool) (v : BitVec 40) : s.staff.uart = false →
      crc8 [v.toNat / 2 ^ 32, v.toNat / 2 ^ 24 % 256, v.toNat / 2 ^ 16 % 256, v.toNat / 2 ^ 8 % 256] = v.toNat % 256 →
      s.Carries (.spiFrame env 40 m v) env (v.toNat / 2 ^ 32) (v.toNat / 2 ^ 24 % 256) (v.toNat / 2 ^ 8 % 65536)
  | uart (env : StaffEnv) (v : BitVec 40) : s.staff.uart = true →
      crc8 [v.toNat / 2 ^ 32, v.toNat / 2 ^ 24 % 256, v.toNat / 2 ^ 16 % 256, v.toNat / 2 ^ 8 % 256] = v.toNat % 256 →
      s.Carries (.uartFormRequest env true v) env (v.toNat / 2 ^ 32) (v.toNat / 2 ^ 24 % 256) (v.toNat / 2 ^ 8 % 65536)
  | nop (env : StaffEnv) : s.Carries .staffNop env 0 0 0
  | read (env : StaffEnv) (a : BitVec 8) : s.Carries (.staffRead a) env 1 a.toNat 0
  | write (env : StaffEnv) (a : BitVec 8) (v : BitVec 16) : s.Carries (.staffWrite env a v) env 2 a.toNat v.toNat

/-- The 16-bit register at Staff address `a` reads `v` (R428). -/
inductive State.StaffReads (s : State) : Nat → Nat → Prop
  | stid : s.StaffReads 0x00 ((s.live 5 R.DEVID).toNat % 65536)
  | ststep : s.StaffReads 0x01 ((s.live 5 R.DEVID).toNat / 65536 % 256 + 256 * (s.unitpres.toNat % 16))
  | unitpres (i : Nat) : i < 2 → s.StaffReads (0x02 + i) (s.unitpres.toNat / 65536 ^ i % 65536)
  | coretop (i : Nat) : i < 2 → s.StaffReads (0x04 + i) (s.coretop.toNat / 65536 ^ i % 65536)
  | stmode : s.StaffReads 0x06 ((s.live 5 R.MODESTAT).toNat % 2048)
  | stfault : s.StaffReads 0x07 s.fltsum
  | stdawn : s.StaffReads 0x08 ((s.live 5 R.DAWNSTAT).toNat % 65536)
  | stdawnh : s.StaffReads 0x09 (s.fld R.DAWNSTAT R.DAWNSTAT_LOCKCAUSE)
  | strst : s.StaffReads 0x0A ((s.rd R.RSTCAUSE).toNat % 512 + 4096 * s.fld R.RSTCAUSE R.RSTCAUSE_LAST)
  | stsess : s.StaffReads 0x0B (s.staff.sess.code + 4 * (decide ((s.key 1).state = .set)).toNat + 8 * s.staff.uart.toNat +
      16 * s.staff.mode3.toNat)
  | stlock : s.StaffReads 0x0C (s.hall.fails % 16 + 16 * min 3600 s.lockSeconds)
  | stsnum : s.StaffReads 0x0D (s.hall.snum % 65536)
  | stmoderes : s.StaffReads 0x0F s.staff.modeRes
  | chal (i : Nat) : i < 16 → s.StaffReads (0x10 + i) (256 * nth s.staff.chal (2 * i) + nth s.staff.chal (2 * i + 1))
  | resp (i : Nat) : i < 16 → s.StaffReads (0x20 + i) 0
  | stcmd : s.StaffReads 0x30 0
  | stcmdres : s.StaffReads 0x31 s.staff.cmdRes
  | stmodereq : s.StaffReads 0x32 0
  | winaddrl : s.StaffReads 0x40 (s.staff.winAddr % 65536)
  | winaddrh : s.StaffReads 0x41 (s.staff.winAddr / 65536)
  | winctl : s.StaffReads 0x44 (s.staff.size + 4 * s.staff.inc.toNat)
  | stidle : s.StaffReads 0x46 s.staff.idle
  | xin (i : Nat) : i < 16 → s.StaffReads (0x50 + i) 0
  | xout (i : Nat) : i < 32 → s.StaffReads (0x60 + i) (256 * nth s.staff.xout (2 * i) + nth s.staff.xout (2 * i + 1))

end Sys2Proof.Machine
end

