-- ==== Sys2Proof/WellFormed.lean ====
section
/-! DEFINITION. Well-formed commands: every operand names something that the spec has, and a code that is executed as illegal or
reserved is one that R244 or R245 lists. -/

namespace Sys2Proof

/-- The requester is one of the five logical cores, or the Staff port. -/
def Rq.wf : Rq → Bool
  | .core l => decide (l < 5)
  | .staff => true

/-- The bus has this member. -/
def BusMember.wf : BusMember → Bool
  | .core l => decide (l < 5)
  | .mac m => decide (m < 2)
  | _ => true

/-- The core that a TAP instruction names exists in the family. -/
def JtagOp.wf : JtagOp → Bool
  | .halt l => decide (l < 5)
  | .resume l => decide (l < 5)
  | .readCore l _ => decide (l < 5)
  | .writeCore l _ _ => decide (l < 5)
  | .rawTap _ src => decide (src < 3)
  | _ => true

/-- A register's address: in the peripheral region, a multiple of 4. -/
def regAddr (a : Word) : Bool := decide (0x40000000 ≤ a.toNat ∧ a.toNat % 4 = 0)

/-- The special registers that RSR reads, and those that WSR writes (R196). -/
def rsrListed (n : Nat) : Bool := decide (n ≤ 8 ∨ (0x10 ≤ n ∧ n ≤ 0x12) ∨ (0x18 ≤ n ∧ n ≤ 0x20))
def wsrListed (n : Nat) : Bool := rsrListed n && decide (n ≠ 0 ∧ n ≠ 8 ∧ n ≠ 0x20)

/-- The codes of R244. -/
def isIllegal (c : Nat) : Bool :=
  let n := c % 256
  decide (c = 0) ||
  match c / 256 with
  | 0x0F | 0x1F | 0x3F => true
  | 0x10 => decide (16 ≤ n)
  | 0x12 => n.testBit 5
  | 0x13 => decide (n / 64 = 3)
  | 0x14 => !rsrListed n
  | 0x15 => !wsrListed n
  | 0x16 => decide (64 ≤ n)
  | 0x17 => decide (n / 32 % 4 = 3 ∨ n / 8 % 4 = 3 ∨ n % 8 ≠ 0)
  | g => decide (0x20 ≤ g ∧ g < 0x30 ∧ (g / 4 % 4 = 3 ∨ g % 4 = 3))

/-- The codes of R245. -/
def isReserved (c : Nat) : Bool :=
  let within (a b : Nat) : Bool := decide (a ≤ c ∧ c ≤ b)
  within 0x000B 0x000F || within 0x0014 0x00FF || within 0x011B 0x01FF || within 0x0208 0x02FF || within 0x0304 0x03FF ||
  within 0x040A 0x04FF || within 0x0500 0x0EFF || within 0x1800 0x1EFF || within 0x3808 0x38FF || within 0x390B 0x39FF ||
  within 0x3A80 0x3AFF || within 0x3B00 0x3EFF

/-- Every operand of the command lies in its range. -/
def Instr.wf : Instr → Bool
  | .powerOn => true
  | .brownOut supply _ => decide (supply < 3)
  | .supplyDip _ _ => true
  | .resetPin _ => true
  | .pllLockLoss _ => true
  | .referenceAbsent _ => true
  | .dawnStart _ => true
  | .dawnIdentityCheck _ _ _ => true
  | .rollCall _ _ => true
  | .rollCallTimeout _ => true
  | .dawnTimeout _ => true
  | .modeRequestNight r => r.wf
  | .modeRequestDawn r => r.wf
  | .modeRequestPrepare r => r.wf
  | .modeRequestRun r => r.wf
  | .modeRequestHold r => r.wf
  | .modeRequestSafe r => r.wf
  | .modeRequestService r => r.wf
  | .modeRequestLockout r => r.wf
  | .staffClear => true
  | .modeTransition => true
  | .nightWakeoutLow => true
  | .coreRelease r l => r.wf && decide (l < 5)
  | .coreHalt r l => r.wf && decide (l < 5)
  | .clkobsWrite r _ => r.wf
  | .registerWrite r a _ _ => r.wf && decide (0x40000000 ≤ a.toNat)
  | .rcFieldRead r a => r.wf && regAddr a
  | .latchedRead r a => r.wf && regAddr a
  | .channelModeWrite r ch _ => r.wf && decide (ch < 16)
  | .channelClear r ch => r.wf && decide (ch < 16)
  | .quadStep ch _ _ _ => decide (ch < 16)
  | .indexEdge ch _ _ => decide (ch < 16)
  | .indexArm r ch => r.wf && decide (ch < 16)
  | .wireBreak ch k pairs => decide (ch < 16) && pairs.all (fun p => decide (p.1 < 3 ∧ p.2 ≤ k))
  | .invalidEpisodeEnd ch pair since k => decide (ch < 16) && decide (pair < 3) && decide (since ≤ k)
  | .channelSyncComplete ch _ => decide (ch < 16)
  | .frameRequest ch => decide (ch < 16)
  | .encoderFrame ch _ _ => decide (ch < 16)
  | .sincosSample ch _ _ _ _ => decide (ch < 16)
  | .mainsCrossing _ _ _ _ => true
  | .mainsLoss _ => true
  | .mainsEnable r => r.wf
  | .mainsDisable r => r.wf
  | .tbSet r t => r.wf && decide (t < 32)
  | .tbAccept r t => r.wf && decide (t < 32)
  | .tbShift r t => r.wf && decide (t < 32)
  | .tbUnref r t => r.wf && decide (t < 32)
  | .tbSwitchb r t newsrc => r.wf && decide (t < 32) && decide (newsrc < 32)
  | .tbSwitchd r t newsrc => r.wf && decide (t < 32) && decide (newsrc < 32)
  | .timebaseCommandEffect t => decide (t < 32)
  | .tbcfgKindWrite r t _ => r.wf && decide (t < 32)
  | .tbmodWrite r t _ => r.wf && decide (t < 32)
  | .tbgdenWrite r t _ => r.wf && decide (t < 32)
  | .tbsynvelWrite r t _ => r.wf && decide (t < 32)
  | .wadjWrite r _ => r.wf
  | .wstephWrite r _ => r.wf
  | .wallctlWrite r _ => r.wf
  | .standstill t _ => decide (t < 32)
  | .extrapolationStale t _ => decide (t < 32)
  | .capcmdGo r => r.wf
  | .capfreeWrite r _ => r.wf
  | .arm l => decide (l < 5)
  | .ttnewgo r => r.wf
  | .disarm r slot => r.wf && decide (slot < 32)
  | .crossing slot _ => decide (slot < 32)
  | .outputEdge gen n _ => decide (n < if gen then 16 else 64)
  | .compareFault slot => decide (slot < 32)
  | .fineDelayFault gen n => decide (n < if gen then 16 else 64)
  | .latentDivergence slot => decide (slot < 32)
  | .ttinj r _ => r.wf
  | .ttmembaseWrite r _ => r.wf
  | .ttresvWrite r quota _ => r.wf && quota.all (fun n => decide (n < 6))
  | .qcmdBind r q => r.wf && decide (q < 16)
  | .qcmdStart r q => r.wf && decide (q < 16)
  | .qcmdStop r q => r.wf && decide (q < 16)
  | .qcmdFlush r q => r.wf && decide (q < 16)
  | .qcmdUnbind r q => r.wf && decide (q < 16)
  | .qcmdDrop r q => r.wf && decide (q < 16)
  | .qtailWrite r q _ => r.wf && decide (q < 16)
  | .refill q _ => decide (q < 16)
  | .prefetchComplete q _ => decide (q < 16)
  | .reportPosted => true
  | .evsetRegisterWrite r n _ => r.wf && decide (n < 2)
  | .evclrRegisterWrite r n _ => r.wf && decide (n < 2)
  | .evtogRegisterWrite r n _ => r.wf && decide (n < 2)
  | .evcfgWrite r line _ => r.wf && decide (line < 64)
  | .forceWrite r _ n _ => r.wf && decide (n < 2)
  | .ptrateWrite r g _ => r.wf && decide (g < 16)
  | .ptctlGo r g => r.wf && decide (g < 16)
  | .ptctlStop r g => r.wf && decide (g < 16)
  | .pulseTrainDone g => decide (g < 16)
  | .dirsuElapsed g _ => decide (g < 16)
  | .pwmperWrite r c _ => r.wf && decide (c < 16)
  | .pwmdutyWrite r c _ => r.wf && decide (c < 16)
  | .sdcodeWrite r i _ => r.wf && decide (i < 8)
  | .pinfnWrite r b _ => r.wf && decide (b < 96)
  | .pinFunctionSwitch b _ => decide (b < 96)
  | .pinbankWrite r _ => r.wf
  | .bankSupplyMismatch bank code _ => decide (bank < 4) && decide (code < 16)
  | .lit l _ => decide (l < 5)
  | .litx l _ => decide (l < 5)
  | .beq l _ => decide (l < 5)
  | .bne l _ => decide (l < 5)
  | .blt l _ => decide (l < 5)
  | .bge l _ => decide (l < 5)
  | .bltu l _ => decide (l < 5)
  | .bgeu l _ => decide (l < 5)
  | .bgt l _ => decide (l < 5)
  | .ble l _ => decide (l < 5)
  | .bz l _ => decide (l < 5)
  | .bnz l _ => decide (l < 5)
  | .bltz l _ => decide (l < 5)
  | .bgez l _ => decide (l < 5)
  | .bgtz l _ => decide (l < 5)
  | .blez l _ => decide (l < 5)
  | .bodd l _ => decide (l < 5)
  | .beven l _ => decide (l < 5)
  | .jmp l _ => decide (l < 5)
  | .call l _ => decide (l < 5)
  | .loop l _ => decide (l < 5)
  | .nop l => decide (l < 5)
  | .dup l => decide (l < 5)
  | .drop l => decide (l < 5)
  | .swap l => decide (l < 5)
  | .over l => decide (l < 5)
  | .rot l => decide (l < 5)
  | .nip l => decide (l < 5)
  | .tuck l => decide (l < 5)
  | .dup2 l => decide (l < 5)
  | .drop2 l => decide (l < 5)
  | .tor l => decide (l < 5)
  | .fromr l => decide (l < 5)
  | .rfetch l => decide (l < 5)
  | .rdrop l => decide (l < 5)
  | .add l => decide (l < 5)
  | .sub l => decide (l < 5)
  | .and l => decide (l < 5)
  | .or l => decide (l < 5)
  | .xor l => decide (l < 5)
  | .not l => decide (l < 5)
  | .neg l => decide (l < 5)
  | .shl l => decide (l < 5)
  | .shr l => decide (l < 5)
  | .sar l => decide (l < 5)
  | .adds l => decide (l < 5)
  | .subs l => decide (l < 5)
  | .negs l => decide (l < 5)
  | .abs l => decide (l < 5)
  | .abss l => decide (l < 5)
  | .min l => decide (l < 5)
  | .max l => decide (l < 5)
  | .minu l => decide (l < 5)
  | .maxu l => decide (l < 5)
  | .sext8 l => decide (l < 5)
  | .sext16 l => decide (l < 5)
  | .zext8 l => decide (l < 5)
  | .zext16 l => decide (l < 5)
  | .clz l => decide (l < 5)
  | .slt l => decide (l < 5)
  | .sltu l => decide (l < 5)
  | .sat16 l => decide (l < 5)
  | .mul l => decide (l < 5)
  | .mulhs l => decide (l < 5)
  | .mulhu l => decide (l < 5)
  | .mulq l => decide (l < 5)
  | .div l _ => decide (l < 5)
  | .divu l _ => decide (l < 5)
  | .rem l _ => decide (l < 5)
  | .remu l _ => decide (l < 5)
  | .xchg l => decide (l < 5)
  | .cas l => decide (l < 5)
  | .fence l => decide (l < 5)
  | .ret l => decide (l < 5)
  | .jmpi l => decide (l < 5)
  | .calli l => decide (l < 5)
  | .gate l _ => decide (l < 5)
  | .gret l => decide (l < 5)
  | .retw l => decide (l < 5)
  | .retf l => decide (l < 5)
  | .reti l => decide (l < 5)
  | .endl l => decide (l < 5)
  | .wait l => decide (l < 5)
  | .brk l _ => decide (l < 5)
  | .pick l i => decide (l < 5) && decide (i.toNat < 16)
  | .addi l _ => decide (l < 5)
  | .shli l _ => decide (l < 5)
  | .shri l _ => decide (l < 5)
  | .sari l _ => decide (l < 5)
  | .rori l _ => decide (l < 5)
  | .ext8 l _ => decide (l < 5)
  | .ext16 l _ => decide (l < 5)
  | .ext32 l _ => decide (l < 5)
  | .rsr l _ => decide (l < 5)
  | .wsr l _ => decide (l < 5)
  | .wsrStackPointer l _ => decide (l < 5)
  | .wsrStackBound l _ _ => decide (l < 5)
  | .wsrStw l => decide (l < 5)
  | .ldSigned l _ _ => decide (l < 5)
  | .ldZero l _ _ => decide (l < 5)
  | .st l _ _ => decide (l < 5)
  | .ldxSigned l _ _ => decide (l < 5)
  | .ldxZero l _ _ => decide (l < 5)
  | .stx l _ _ => decide (l < 5)
  | .mac l => decide (l < 5)
  | .msu l => decide (l < 5)
  | .maci l => decide (l < 5)
  | .msui l => decide (l < 5)
  | .macn l stop => decide (l < 5) && stop.all (fun j => decide (0 < j))
  | .msun l stop => decide (l < 5) && stop.all (fun j => decide (0 < j))
  | .macni l stop => decide (l < 5) && stop.all (fun j => decide (0 < j))
  | .msuni l stop => decide (l < 5) && stop.all (fun j => decide (0 < j))
  | .clra l => decide (l < 5)
  | .macs l => decide (l < 5)
  | .msus l => decide (l < 5)
  | .macsi l => decide (l < 5)
  | .msusi l => decide (l < 5)
  | .mpys l => decide (l < 5)
  | .mpysi l => decide (l < 5)
  | .adda l => decide (l < 5)
  | .addal l => decide (l < 5)
  | .nega l => decide (l < 5)
  | .lda l => decide (l < 5)
  | .asla l _ => decide (l < 5)
  | .asra l _ => decide (l < 5)
  | .illegalOpcode l code => decide (l < 5) && isIllegal code.toNat
  | .reservedCode l code _ => decide (l < 5) && isReserved code.toNat
  | .storeBufferDrain l _ _ _ => decide (l < 5)
  | .busTransfer m _ _ => m.wf
  | .fetchLineArrival l _ => decide (l < 5)
  | .estopNFall _ => true
  | .estopcfgWrite r _ => r.wf
  | .regionWrite r block _ _ n _ => r.wf && block.all (fun l => decide (l < 5)) && decide (n < 16)
  | .irqcfgWrite r n _ => r.wf && decide (n < 256)
  | .pendsetWrite r b _ => r.wf && decide (b < 8)
  | .pendclrWrite r b _ => r.wf && decide (b < 8)
  | .ensetWrite r b _ => r.wf && decide (b < 8)
  | .enclrWrite r b _ => r.wf && decide (b < 8)
  | .interruptEntry l => decide (l < 5)
  | .lessonEntry l => decide (l < 5)
  | .nmiEntry l => decide (l < 5)
  | .lessonTimeLimit l => decide (l < 5)
  | .mramReadComplete a fetch => decide (0x10000000 ≤ a.toNat ∧ a.toNat < 0x10800000) && fetch.all (fun l => decide (l < 5))
  | .mramProgramComplete => true
  | .scrubRead => true
  | .mrscrubWrite r _ => r.wf
  | .lineOpen r line => r.wf && decide (line < 0x20000)
  | .lineClose r line => r.wf && decide (line < 0x20000)
  | .lineZero r line => r.wf && decide (line < 0x20000)
  | .linkDown port lanes => decide (port < 2) && decide (lanes < 256)
  | .linkUp port _ => decide (port < 2)
  | .encmdRoll r => r.wf
  | .encmdClrcnt r => r.wf
  | .join _ _ => true
  | .enwardCycle _ _ => true
  | .publicationReceived _ i _ => decide (i < 12)
  | .ageFault _ t => decide (t < 32)
  | .messageReceived _ _ => true
  | .forecastReceived _ src tag tp gen => decide (src < 256) && decide (tag < 256) && decide (tp < 2 ^ 48) && decide (gen < 256)
  | .forecastArm _ e => decide (e < 32)
  | .retractReceived _ src tag => decide (src < 256) && decide (tag < 256)
  | .confirmReceived _ src tag => decide (src < 256) && decide (tag < 256)
  | .forecastExpired _ e => decide (e < 32)
  | .enwardLost _ => true
  | .entxgo r => r.wf
  | .enrx3Read r => r.wf
  | .rcctlGo r c start => r.wf && decide (c < 8) && decide (start < 64)
  | .rcctlStop r c => r.wf && decide (c < 8)
  | .rcctlFlushtx r c => r.wf && decide (c < 8)
  | .rcctlFlushrx r c => r.wf && decide (c < 8)
  | .rctxWrite r c _ => r.wf && decide (c < 8)
  | .rcrxRead r c => r.wf && decide (c < 8)
  | .rccodeWrite r c n _ => r.wf && decide (c < 8) && decide (n < 64)
  | .rcDrive c _ => decide (c < 8)
  | .rcEnable c _ => decide (c < 8)
  | .rcDelay c _ => decide (c < 8)
  | .rcWaitl c _ _ => decide (c < 8)
  | .rcWaitlMet c _ _ => decide (c < 8)
  | .rcWaitlTimeout c _ => decide (c < 8)
  | .rcSample c _ _ => decide (c < 8)
  | .rcPut c _ => decide (c < 8)
  | .rcPutResume c _ => decide (c < 8)
  | .rcGet c _ => decide (c < 8)
  | .rcGetResume c _ => decide (c < 8)
  | .rcOutd c _ => decide (c < 8)
  | .rcCntLoad c _ => decide (c < 8)
  | .rcCntStart c _ => decide (c < 8)
  | .rcCntStop c _ => decide (c < 8)
  | .rcCntRead c _ => decide (c < 8)
  | .rcDjnz c _ => decide (c < 8)
  | .rcJmp c _ => decide (c < 8)
  | .rcJif c _ _ => decide (c < 8)
  | .rcJeq c _ => decide (c < 8)
  | .rcLdi c _ => decide (c < 8)
  | .rcIrq c _ => decide (c < 8)
  | .rcHalt c _ => decide (c < 8)
  | .utxWrite r u _ => r.wf && decide (u < 4)
  | .urxRead r u => r.wf && decide (u < 4)
  | .uartEnable r u _ => r.wf && decide (u < 4)
  | .txbrk r u _ => r.wf && decide (u < 4)
  | .uartFlushrx r u => r.wf && decide (u < 4)
  | .uartFlushtx r u => r.wf && decide (u < 4)
  | .uartCharacterReceived u _ data _ _ => decide (u < 4) && decide (data < 512)
  | .uartFrameTransmit u _ => decide (u < 4)
  | .ctsNChange u _ => decide (u < 4)
  | .uartIdleTimeout u _ => decide (u < 4)
  | .scanCycle _ _ word => decide (word < 65536)
  | .attendanceEnable r _ => r.wf
  | .clrflt r => r.wf
  | .aoutWrite r n _ => r.wf && decide (n < 32)
  | .aosetWrite r n _ => r.wf && decide (n < 32)
  | .aoclrWrite r n _ => r.wf && decide (n < 32)
  | .transmitFrame m _ _ _ _ => decide (m < 2)
  | .receivedFrame m _ bytes _ _ => decide (m < 2) && bytes.all (fun b => decide (b < 256))
  | .mdioGo r m phy reg data _ => r.wf && decide (m < 2) && decide (phy < 32) && decide (reg < 32) && decide (data < 65536)
  | .mdioDone m data => decide (m < 2) && decide (data < 65536)
  | .ptpadjWrite r _ => r.wf
  | .ptpstepWrite r _ => r.wf
  | .spiFrame _ _ _ _ => true
  | .uartFormRequest _ _ _ => true
  | .staffNop => true
  | .staffRead _ => true
  | .staffWrite _ _ _ => true
  | .openSession => true
  | .nonceDrawn => true
  | .prove => true
  | .closeSession => true
  | .snap => true
  | .challengeExpired _ => true
  | .sessionIdle _ => true
  | .lockoutExpired => true
  | .windowReadStart size _ => decide (size < 4)
  | .windatahRead => true
  | .windowWriteStart _ => true
  | .windowAccessComplete => true
  | .snapshotRefresh _ => true
  | .snapctlNow r => r.wf
  | .logbookEntry => true
  | .attest => true
  | .attestComplete => true
  | .attrec => true
  | .idpub => true
  | .certrd => true
  | .enroll _ => true
  | .certwr _ => true
  | .certseal _ => true
  | .setkey slot => decide (slot = 1 ∨ (3 ≤ slot ∧ slot ≤ 6))
  | .genkey => true
  | .erasekey => true
  | .idkill _ => true
  | .keycmdSet r slot => r.wf && decide (slot < 16)
  | .keycmdGen r slot => r.wf && decide (slot < 16)
  | .keycmdErase r slot => r.wf && decide (slot < 16)
  | .aesEncryptGo r key => r.wf && decide (key < 4)
  | .aesDecryptGo r key => r.wf && decide (key < 4)
  | .cmacStart r key => r.wf && decide (key < 4)
  | .cmacUpdate r key => r.wf && decide (key < 4)
  | .cmacFinal r key len => r.wf && decide (key < 4) && decide (len ≤ 16)
  | .cryptoDone => true
  | .sourceStartupPass i => decide (i < 3)
  | .sourceHealthFail i _ => decide (i < 3)
  | .drbgInstantiate n => decide (n < 10)
  | .drbgReseed n _ _ => decide (n < 10)
  | .drbgoutRead r => r.wf
  | .drbgRefill n => decide (n < 10)
  | .rawenWrite r _ src => r.wf && decide (src < 3)
  | .hmReset => true
  | .hmTick => true
  | .hmEvaluation => true
  | .watchStrobe n _ _ => decide (n < 4)
  | .inputSample i _ => decide (i < 8)
  | .measurement _ _ => true
  | .hmWriteApply => true
  | .hmalarmClear r _ => r.wf
  | .hmlockSet r => r.wf
  | .hmCrystalStop => true
  | .divergence what _ _ _ => decide (1 ≤ what ∧ what ≤ 6)
  | .pairRestart _ => true
  | .pairinj r what => r.wf && decide (what < 16)
  | .wdkick r l key => r.wf && decide (l < 5) && decide (key < 65536)
  | .watchdogExpiry l _ => decide (l < 5)
  | .watchdogStage2 l _ => decide (l < 5)
  | .gThirdFaultRestart => true
  | .gpolicyWrite r _ => r.wf
  | .safetest r _ => r.wf
  | .safetestComplete wrong => wrong.all (fun b => decide (b < 96))
  | .pinEpochBoundary => true
  | .pulseTrainStep g _ => decide (g < 16)
  | .pwmPeriodStart c _ => decide (c < 16)
  | .estopNRise _ => true
  | .svcreqNChange _ _ => true
  | .supplyDipEnd _ => true
  | .hmCrystalStart => true
  | .vbatGood => true
  | .uartFrameEnd u _ => decide (u < 4)
  | .uartBreakEnd u => decide (u < 4)
  | .uartFormGapTimeout => true
  | .jtagInstruction op => op.wf

end Sys2Proof
end

