-- ==== Sys2Proof/Certificates/Slice0/Obligations.lean ====
section
/-! DEFINITION. The statements. -/

open Sys2Proof Sys2Proof.Machine

/-! ### The block as a whole -/

/-- A step takes the command that has waited longest and carries it out on the state with the rest of the queue; with no command
waiting, it changes nothing (assumption 5, DESIGN CHOICE). -/
def Obligations.StepRunsFront : Prop :=
  (∀ (s : State) (c : Instr) (rest : List Instr), step { s with pending := c :: rest } = exec c { s with pending := rest }) ∧
  (∀ s : State, s.pending = [] → step s = .next s)

/-! ### The instruction set -/

/-- R221, R227, R199: LIT and the stack group, from entries on chip (or of the Bell stack in a lesson): the entries that the table pops
and pushes, PC at A + 2, and nothing else changed. -/
def Obligations.StackGroupMovesEntries : Prop :=
  (∀ i p q f, StackRow i p q f → ∀ (s : State) l, s.Ready l → s.Handy l false p q →
    exec (i l) s = .next (s.setCore l (s.restack l false p (f ((s.held l false).take p)) (s.next l)))) ∧
  (∀ (s : State) l (i : BitVec 8), i.toNat < 16 → s.Ready l → s.Handy l false (i.toNat + 1) (i.toNat + 2) →
    exec (.pick l i) s = .next (s.setCore l (s.restack l false 0 [wAt (s.held l false) i.toNat] (s.next l)))) ∧
  (∀ (s : State) l, s.Ready l → s.Handy l false 1 0 → s.Handy l true 0 1 →
    exec (.tor l) s = .next (s.setCore l
      (s.restack l true 0 [wAt (s.held l false) 0] (s.restack l false 1 [] (s.next l))))) ∧
  (∀ (s : State) l, s.Ready l → s.Handy l true 1 0 → s.Handy l false 0 1 →
    exec (.fromr l) s = .next (s.setCore l
      (s.restack l false 0 [wAt (s.held l true) 0] (s.restack l true 1 [] (s.next l))))) ∧
  (∀ (s : State) l, s.Ready l → s.Handy l true 1 1 → s.Handy l false 0 1 →
    exec (.rfetch l) s = .next (s.setCore l (s.restack l false 0 [wAt (s.held l true) 0] (s.next l)))) ∧
  (∀ (s : State) l, s.Ready l → s.Handy l true 1 0 →
    exec (.rdrop l) s = .next (s.setCore l (s.restack l true 1 [] (s.next l))))

/-- R222, R228, R229, R237: the wrapping results of the ALU and multiply instructions and of the immediates; STW, ACC and every other
part of the machine are left as they were.
R229, R255: quotient toward zero, remainder with the sign of the dividend, when the divisor is not 0. R256: a division that a
delivery abandons leaves its operands, with PC at A, and is counted in LONGCNT. -/
def Obligations.ArithmeticAndDivision : Prop :=
  ((∀ i f, BinaryRow i f → ∀ (s : State) l, s.Ready l → s.Handy l false 2 1 →
      exec (i l) s = .next (s.setCore l
        (s.restack l false 2 [f (wAt (s.held l false) 1) (wAt (s.held l false) 0)] (s.next l)))) ∧
    (∀ i f, UnaryRow i f → ∀ (s : State) l, s.Ready l → s.Handy l false 1 1 →
      exec (i l) s = .next (s.setCore l (s.restack l false 1 [f (wAt (s.held l false) 0)] (s.next l))))) ∧
  (∀ (s : State) l, s.Ready l → s.Handy l false 2 1 → wAt (s.held l false) 0 ≠ 0 →
      let a := wAt (s.held l false) 1
      let b := wAt (s.held l false) 0
      let result (v : Word) : Host.Outcome State Fault Refusal := .next (s.setCore l (s.restack l false 2 [v] (s.next l)))
      exec (.div l false) s = result (BitVec.ofInt 32 (a.toInt.tdiv b.toInt)) ∧
      exec (.rem l false) s = result (BitVec.ofInt 32 (a.toInt - b.toInt * a.toInt.tdiv b.toInt)) ∧
      exec (.divu l false) s = result (BitVec.ofNat 32 (a.toNat / b.toNat)) ∧
      exec (.remu l false) s = result (BitVec.ofNat 32 (a.toNat % b.toNat)) ∧
      ∀ i ∈ [Instr.div l true, .rem l true, .divu l true, .remu l true],
        exec i s = .next ((s.setCore l (s.core l)).longCount l R.LONGCNT_DIVABORT))

/-- R209, R228: the saturating instructions clamp the exact result and set SV when they clamp, and never clear it.
R211, R212: extraction by the rounding and saturation of STW, sign-extended into the entry; ACC is unchanged, and SV is set exactly
when a saturation happens. -/
def Obligations.SaturationAndExtraction : Prop :=
  (∀ i p n f, SaturatingRow i p n f → ∀ (s : State) l, s.Ready l → s.Handy l false p 1 →
      let x := f ((s.held l false).take p)
      let y := max (-2 ^ (n - 1)) (min (2 ^ (n - 1) - 1) x)
      exec (i l) s = .next (s.setCore l (s.restack l false p [BitVec.ofInt 32 y]
        { s.next l with stw := if x = y then (s.core l).stw else (s.core l).stw ||| 0x1000 }))) ∧
  (∀ i p n sh a, ExtractRow i p n sh a → ∀ (s : State) l, s.Ready l → s.Handy l false p 1 →
      ∃ t : Int, roundedTo (stwRND.get (s.core l).stw) sh (a (s.core l) ((s.held l false).take p)) t ∧
        let y := max (-2 ^ (n - 1)) (min (2 ^ (n - 1) - 1) t)
        let sat := (s.core l).stw.getLsbD 8
        exec (i l) s = .next (s.setCore l (s.restack l false p
          [if sat then BitVec.ofInt 32 y else ((BitVec.ofInt 64 t).truncate n).signExtend 32]
          { s.next l with stw := if sat && decide (t ≠ y) then (s.core l).stw ||| 0x1000 else (s.core l).stw })))

/-- R223: a branch pops its operands and passes control to A + 2 + 2 × offset when its condition holds, else to A + 2.
R224, R225, R226: the other transfers within a world. -/
def Obligations.BranchesJumpsAndCalls : Prop :=
  (∀ i p cond, BranchRow i p cond → ∀ (s : State) l (off : BitVec 8), s.Ready l → s.Handy l false p 0 →
      let c := s.restack l false p [] (s.next l)
      (cond ((s.held l false).take p) →
        exec (i l off) s = .next (s.setCore l { c with pc := (s.core l).pc + 2 + BitVec.ofInt 32 (2 * off.toInt) })) ∧
      (¬cond ((s.held l false).take p) → exec (i l off) s = .next (s.setCore l c))) ∧
  (∀ (s : State) l, s.Ready l →
      let a := (s.core l).pc
      let n := s.next l
      (∀ off : BitVec 12, exec (.jmp l off) s = .next (s.setCore l { n with pc := a + 2 + BitVec.ofInt 32 (2 * off.toInt) })) ∧
      (∀ off : BitVec 12, s.Handy l true 0 1 →
        exec (.call l off) s = .next (s.setCore l
          { s.restack l true 0 [a + 2] n with pc := a + 2 + BitVec.ofInt 32 (2 * off.toInt) })) ∧
      (∀ off : BitVec 11, s.Handy l true 1 1 →
        (wAt (s.held l true) 0 = 1 → exec (.loop l off) s = .next (s.setCore l (s.restack l true 1 [] n))) ∧
        (wAt (s.held l true) 0 ≠ 1 →
          exec (.loop l off) s = .next (s.setCore l
            { s.restack l true 1 [wAt (s.held l true) 0 - 1] n with pc := a - BitVec.ofNat 32 (2 * off.toNat) }))) ∧
      (s.Handy l true 1 0 → (wAt (s.held l true) 0).toNat % 2 = 0 →
        exec (.ret l) s = .next (s.setCore l { s.restack l true 1 [] n with pc := wAt (s.held l true) 0 })) ∧
      (s.Handy l false 1 0 → (wAt (s.held l false) 0).toNat % 2 = 0 →
        exec (.jmpi l) s = .next (s.setCore l { s.restack l false 1 [] n with pc := wAt (s.held l false) 0 })) ∧
      (s.Handy l false 1 0 → s.Handy l true 0 1 → (wAt (s.held l false) 0).toNat % 2 = 0 →
        exec (.calli l) s = .next (s.setCore l
          { s.restack l true 0 [a + 2] (s.restack l false 1 [] n) with pc := wAt (s.held l false) 0 })))

/-- R206, R242, R243: ACC becomes the exact result modulo 2^72; AV is set when it lies outside [-2^71, 2^71), and never cleared.
R241, R246, R250-R252: one accumulation, or as many as the top of the return stack says, through X and Y. A delivery committed after
`j` of `n` iterations leaves PC at A with the count at n - j, and LONGCNT counts it. -/
def Obligations.AccumulatorInstructions : Prop :=
  (∀ i p f, AccRow i p f → ∀ (s : State) l, s.Ready l → s.Handy l false p 0 →
      let x := f (s.core l).acc.toInt ((s.held l false).take p)
      exec (i l) s = .next (s.setCore l (s.restack l false p []
        { s.next l with
          acc := BitVec.ofInt 72 x
          stw := if -2 ^ 71 ≤ x ∧ x < 2 ^ 71 then (s.core l).stw else (s.core l).stw ||| 0x2000 }))) ∧
  (∀ (s : State) l (frac sub : Bool) (one : Instr) (many : Option Nat → Instr), s.Ready l →
      (frac, sub, one, many) ∈ [(true, false, Instr.mac l, Instr.macn l), (true, true, .msu l, .msun l),
        (false, false, .maci l, .macni l), (false, true, .msui l, .msuni l)] →
      (∀ d, s.MacStep l frac sub (s.next l) d → exec one s = .next (s.setCore l d)) ∧
      (s.Handy l true 1 0 →
        let n := (wAt (s.held l true) 0).toNat
        (∀ d stop, s.MacSteps l frac sub n (s.next l) d → (∀ j, stop = some j → j = 0 ∨ n ≤ j) →
          exec (many stop) s = .next (s.setCore l (s.restack l true 1 [] d))) ∧
        (∀ d j, 0 < j → j < n → s.MacSteps l frac sub j (s.core l) d →
          exec (many (some j)) s =
            .next ((s.setCore l (s.restack l true 1 [BitVec.ofNat 32 (n - j)] d)).longCount l R.LONGCNT_MACNBRK))))

/-- R196: RSR pushes each listed special register, PC as the instruction's own address; WSR stores ACC, X and Y. The numbers with a rule of
their own (R202, R208) are the rows WSR_STACK_POINTER, WSR_STACK_BOUND and WSR_STW, and mean the same in either spelling.
R208: WSR STW writes SAT, RND, SV and AV, and IML in ring 0 only; WORLD and RING are never written. A change of IML from another ring
is a privilege fault. -/
def Obligations.SpecialRegistersReadAndWrite : Prop :=
  ((∀ n f, RsrRow n f → ∀ (s : State) l, s.Ready l → s.Handy l false 0 1 →
      exec (.rsr l (BitVec.ofNat 8 n)) s = .next (s.setCore l (s.restack l false 0 [f s l] (s.next l)))) ∧
    (∀ n f, WsrRow n f → ∀ (s : State) l, s.Ready l → s.Handy l false 1 0 →
      exec (.wsr l (BitVec.ofNat 8 n)) s =
        .next (s.setCore l (s.restack l false 1 [] (f (s.next l) (wAt (s.held l false) 0))))) ∧
    (∀ (s : State) l, exec (.wsr l 1) s = exec (.wsrStw l) s ∧
      exec (.wsr l 2) s = exec (.wsrStackPointer l false) s ∧ exec (.wsr l 5) s = exec (.wsrStackPointer l true) s ∧
      exec (.wsr l 3) s = exec (.wsrStackBound l false false) s ∧ exec (.wsr l 4) s = exec (.wsrStackBound l false true) s ∧
      exec (.wsr l 6) s = exec (.wsrStackBound l true false) s ∧ exec (.wsr l 7) s = exec (.wsrStackBound l true true) s)) ∧
  (∀ (s : State) l, s.Ready l → s.Handy l false 1 0 →
      let c := s.core l
      let v := wAt (s.held l false) 0
      (c.ring = 0 → ∃ t, exec (.wsrStw l) s = .next t ∧ Raised (s.setCore l (s.restack l false 1 []
        { s.next l with stw := (c.stw &&& 0xFFFFC88F) ||| (v &&& 0x3770) })) t) ∧
      (c.ring ≠ 0 → v.toNat / 16 % 8 = c.stw.toNat / 16 % 8 →
        exec (.wsrStw l) s = .next (s.setCore l (s.restack l false 1 []
          { s.next l with stw := (c.stw &&& 0xFFFFC8FF) ||| (v &&& 0x3700) }))) ∧
      (c.ring ≠ 0 → v.toNat / 16 % 8 ≠ c.stw.toNat / 16 % 8 → s.EntersFaults l →
        ∃ t, exec (.wsrStw l) s = .next t ∧ TookFault s t l 7 3 c.pc false false))

/-- R202, R203: WSR of a stack pointer (`r`, of RSP) with nothing else on chip moves the pointer within its limits; WSR of a base or a limit
from ring 0 sets a multiple of 4 that leaves the range in TCM data or in shared SRAM, with the pointer inside.
R199: a push that finds 16 entries on chip spills the 4 deepest to their homes, one group in the core's own TCM; a pop that finds none
fills the shallowest from memory. -/
def Obligations.StacksMoveSpillAndFill : Prop :=
  (∀ (s : State) l (r : Bool), s.Ready l → s.Handy l false 1 0 → s.inLesson l = false →
      let c := s.core l
      let v := wAt (s.held l false) 0
      (v.toNat % 4 = 0 → (c.lim r).toNat ≤ v.toNat → v.toNat ≤ (c.base r).toNat → (c.chip r).length = (if r then 0 else 1) →
        exec (.wsrStackPointer l r) s =
          .next (s.setCore l (((s.restack l false 1 [] (s.next l)).setChip r []).setSp r v))) ∧
      (∀ lim : Bool, c.ring = 0 → v.toNat % 4 = 0 →
        let d := (s.restack l false 1 [] (s.next l)).setBound r lim v
        stackArea (d.lim r) (d.base r) = true → (d.lim r).toNat ≤ (d.sp r).toNat → (d.sp r).toNat ≤ (d.base r).toNat →
        exec (.wsrStackBound l r lim) s = .next (s.setCore l d))) ∧
  ((∀ (s : State) l (v : BitVec 15) e0 e1 e2 e3 top, s.Ready l → s.inLesson l = false →
      let c := s.core l
      c.ops = top ++ [e0, e1, e2, e3] → top.length = 12 → areaFault c.dsbase c.dslim c.dsp false = none →
      c.dsp.toNat ≤ c.dsbase.toNat → c.dslim.toNat + 4 ≤ c.dsp.toNat →
      e1.home.toNat = e0.home.toNat + 4 → e2.home.toNat = e0.home.toNat + 8 → e3.home.toNat = e0.home.toNat + 12 →
      e0.home.toNat % 4 = 0 → 0x100000 ≤ e0.home.toNat → e0.home.toNat + 16 ≤ 0x110000 →
      s.regionOk l c.guard c.ring .write e0.home.toNat 16 = true → c.sb.length < 4 →
      exec (.lit l v) s = .next (s.setCore l (s.restack l false 0 [BitVec.ofInt 32 v.toInt]
        { s.next l with
          ops := top
          sb := c.sb ++ [{ addr := s.cellOf l e0.home.toNat, n := 16, tgt := .tcm, guard := c.guard, ring := c.ring, done := false
                           val := e0.val.toNat + 2 ^ 32 * (e1.val.toNat + 2 ^ 32 * (e2.val.toNat + 2 ^ 32 * e3.val.toNat)) }] }))) ∧
    (∀ (s : State) l, s.Ready l → s.inLesson l = false →
      let c := s.core l
      c.ops = [] → areaFault c.dsbase c.dslim c.dsp false = none →
      c.dsbase.toNat = c.dsp.toNat + 4 → c.dslim.toNat ≤ c.dsp.toNat → c.dsp.toNat % 4 = 0 →
      0x100000 ≤ c.dsp.toNat → c.dsbase.toNat ≤ 0x110000 → s.Loads l c.dsp.toNat 4 →
      exec (.addi l 1) s = .next (s.setCore l
        { s.next l with ops := [{ home := c.dsp, val := BitVec.ofNat 32 (s.value l 4 c.dsp.toNat) + 1, own := (s.contexts l).length }] })))

/-- R209, R238: a load pushes the bytes at TOS + offset × size, sign- or zero-extended; a store puts its bytes, the address and its rights
into the store buffer, and memory does not change yet (R269).
R204, R205, R239: the same through X and Y, at XA or YA, which steps by R204 when the access completes (assumption 6, DEDUCED). -/
def Obligations.LoadsAndStores : Prop :=
  (∀ (s : State) l (z : Size) (off : BitVec 8), s.Ready l →
      let n := z.bytes
      let a := ((wAt (s.held l false) 0).toNat + off.toNat * n) % 2 ^ 32
      (s.Handy l false 1 1 → s.Loads l a n →
        exec (.ldSigned l z off) s = .next (s.setCore l (s.restack l false 1
          [((BitVec.ofNat 32 (s.value l n a)).truncate (8 * n)).signExtend 32] (s.next l))) ∧
        exec (.ldZero l z off) s = .next (s.setCore l (s.restack l false 1 [BitVec.ofNat 32 (s.value l n a)] (s.next l)))) ∧
      (s.Handy l false 2 0 → s.Stores l a n (wAt (s.held l false) 1) →
        exec (.st l z off) s = .next (s.setCore l (s.restack l false 2 []
          { s.next l with sb := (s.core l).sb ++ [s.entryOf l a n (wAt (s.held l false) 1)] })))) ∧
  (∀ (s : State) l (y : Bool) (z : Size), s.Ready l →
      let n := z.bytes
      let x := (s.core l).through y
      ∃ v, isStepped x n v ∧
      (s.Handy l false 0 1 → s.Loads l x.a.toNat n →
        exec (.ldxSigned l y z) s = .next (s.setCore l (s.restack l false 0
          [((BitVec.ofNat 32 (s.value l n x.a.toNat)).truncate (8 * n)).signExtend 32] ((s.next l).steppedTo y v))) ∧
        exec (.ldxZero l y z) s = .next (s.setCore l (s.restack l false 0
          [BitVec.ofNat 32 (s.value l n x.a.toNat)] ((s.next l).steppedTo y v)))) ∧
      (s.Handy l false 1 0 → s.Stores l x.a.toNat n (wAt (s.held l false) 0) →
        exec (.stx l y z) s = .next (s.setCore l (s.restack l false 1 []
          { (s.next l).steppedTo y v with sb := (s.core l).sb ++ [s.entryOf l x.a.toNat n (wAt (s.held l false) 0)] }))))

/-- R230: XCHG stores its operand, CAS its first operand when the word equals its second; either pushes the old word, and no other byte of
memory changes. R231, R275: FENCE with nothing waiting only lets the held fetch lines go. -/
def Obligations.AtomicsExchangeAndFence : Prop :=
  ∀ (s : State) l, s.Ready l → s.Inv →
    let a := (wAt (s.held l false) 0).toNat
    let old := BitVec.ofNat 32 (s.value l 4 a)
    let place := a % 4 = 0 ∧ (0x100000 ≤ a ∧ a < 0x110000 ∨ 0x20000000 ≤ a ∧ a < 0x20200000)
    let reach := s.Loads l a 4 ∧ s.regionOk l (s.core l).guard (s.core l).ring .write a 4 = true
    let stored (t : State) (v : Word) : Prop := ∀ b, t.byte b =
      if s.cellOf l a ≤ b ∧ b < s.cellOf l a + 4 then BitVec.ofNat 8 (v.toNat / 256 ^ (b - s.cellOf l a)) else s.byte b
    (s.Handy l false 2 1 → place → reach →
      ∃ t, exec (.xchg l) s = .next t ∧ t = { s.setCore l (s.restack l false 2 [old] (s.next l)) with mem := t.mem } ∧
        stored t (wAt (s.held l false) 1)) ∧
    (s.Handy l false 3 1 → place → reach →
      (old = wAt (s.held l false) 1 →
        ∃ t, exec (.cas l) s = .next t ∧ t = { s.setCore l (s.restack l false 3 [old] (s.next l)) with mem := t.mem } ∧
          stored t (wAt (s.held l false) 2)) ∧
      (old ≠ wAt (s.held l false) 1 →
        exec (.cas l) s = .next (s.setCore l (s.restack l false 3 [old] (s.next l))))) ∧
    ((s.core l).sb = [] → exec (.fence l) s = .next (s.setCore l { s.next l with lines := [] }))

/-- R235, R236, R244, R245: WAIT in ring 0 waits unless a delivery is possible, and is a privilege fault in the other rings; BRK halts for a
debugger in SERVICE; an illegal code is an illegal opcode fault; a reserved code does what the bounds of R245 leave free,
and reaches A + 2 (assumption 7, DESIGN CHOICE). -/
def Obligations.WaitBreakAndOddCodes : Prop :=
  ∀ (s : State) l,
    (s.Ready l → (s.core l).ring = 0 → s.inLesson l = false → s.anyDue l = false →
      exec (.wait l) s = .next (s.setCore l { s.next l with waiting := true })) ∧
    (s.Ready l → (s.core l).ring = 0 → s.inLesson l = false → s.anyDue l = true → exec (.wait l) s = .next (s.setCore l (s.next l))) ∧
    (s.EntersFaults l → (s.core l).ring ≠ 0 → ∃ t, exec (.wait l) s = .next t ∧ TookFault s t l 7 0 (s.core l).pc false false) ∧
    (s.mode = .service → s.clocks = true → s.variant.hasCore l = true →
      exec (.brk l true) s = .next (s.setCore l { s.core l with debugHalt := true })) ∧
    (s.EntersFaults l → ∀ d, ¬(s.mode = .service ∧ d = true) →
      ∃ t, exec (.brk l d) s = .next t ∧ TookFault s t l 1 2 (s.core l).pc false false) ∧
    (s.EntersFaults l → ∀ code, ∃ t, exec (.illegalOpcode l code) s = .next t ∧ TookFault s t l 1 0 (s.core l).pc false false) ∧
    (s.Ready l → s.Handy l false 0 0 → s.Handy l true 0 0 → ∀ code, ∀ v : BitVec 72, ∀ xa ya : Word,
      exec (.reservedCode l code ({} : ReservedEffect)) s = .next (s.setCore l (s.next l)) ∧
      exec (.reservedCode l code { acc := some v, xa := some xa, ya := some ya }) s =
        .next (s.setCore l { s.next l with
          acc := v, x := { (s.core l).x with a := xa }, y := { (s.core l).y with a := ya } }))

/-- R218, R219, R226, R229, R234: the other faults that instructions raise, each by its kind and cause, with the instruction retried at
A: an empty or full stack, a stack whose bounds break R202, an odd target, a zero divisor, ENDL outside a lesson, a privileged return from another ring. -/
def Obligations.InstructionFaultsAreTaken : Prop :=
  ∀ (s : State) l, s.EntersFaults l →
    let c := s.core l
    let faults (i : Instr) (kind cause : Nat) (addr : Word) (rstk : Bool) : Prop :=
      ∃ t, exec i s = .next t ∧ TookFault s t l kind cause addr false rstk
    (areaFault c.dsbase c.dslim c.dsp false = none →
      (c.dsbase.toNat < c.dsp.toNat + 4 → faults (.drop l) 5 1 c.pc false) ∧
      (c.dsp.toNat ≤ c.dsbase.toNat → c.dsp.toNat < c.dslim.toNat + 4 → ∀ v, faults (.lit l v) 5 0 c.pc false)) ∧
    (c.dsp.toNat % 4 = 0 → c.dsbase.toNat % 4 = 0 → c.dslim.toNat % 4 = 0 → stackArea c.dslim c.dsbase = false → ∀ v,
      faults (.lit l v) 5 2 c.pc false) ∧
    (c.dsp.toNat % 4 ≠ 0 → ∀ v, faults (.lit l v) 2 2 c.dsp false) ∧
    (areaFault c.rsbase c.rslim c.rsp true = none → c.rsbase.toNat < c.rsp.toNat + 4 → faults (.rdrop l) 5 1 c.pc true) ∧
    (s.Handy l false 1 0 → (wAt (s.held l false) 0).toNat % 2 = 1 → faults (.jmpi l) 2 0 (wAt (s.held l false) 0) false) ∧
    (s.Handy l false 2 1 → wAt (s.held l false) 0 = 0 → ∀ ab, ∀ i ∈ [Instr.div l ab, .divu l ab, .rem l ab, .remu l ab],
      faults i 8 0 c.pc false) ∧
    faults (.endl l) 1 1 c.pc false ∧
    (c.ring ≠ 0 → faults (.retf l) 7 0 c.pc false ∧ faults (.reti l) 7 0 c.pc false ∧ faults (.retw l) 7 0 c.pc false) ∧
    (s.Handy l false 1 1 → ∀ (z : Size) off,
      (let a := ((wAt (s.held l false) 0).toNat + off.toNat * z.bytes) % 2 ^ 32
       a < 0x40000000 → a % z.bytes = 0 → (targetOf a).isSome = true → (∀ p, targetOf a ≠ some (.far p)) →
        s.regionOk l c.guard c.ring .read a z.bytes = false →
        faults (.ldZero l z off) 7 1 (BitVec.ofNat 32 a) false))

/-- R282-R285: an open gate without new stacks pushes FRMW, STW and A + 2 and enters at the entry's PC in its ring and world; with new
stacks it stands on those, with the nine words of the frame and the NARG arguments, when nothing else of the caller is on chip. -/
def Obligations.GatesEnter : Prop :=
  ∀ (s : State) l (i : BitVec 6), s.Ready l → s.GateOpen l i.toNat →
    let c := s.core l
    let w := s.gateWord l i.toNat
    let entered (d : Core) : Prop :=
      ∃ t, exec (.gate l i) s = .next t ∧
        Raised (s.setCore l { d with stw := s.calleeStw l i.toNat, pc := w 0 &&& 0xFFFFFFFE, fault := none }) t
    ((w 1).getLsbD 3 = false → s.Handy l true 0 3 →
      entered (s.restack l true 0 [s.gateFrame l i.toNat, c.stw, c.pc + 2] c)) ∧
    ((w 1).getLsbD 3 = true →
      let narg := (w 1).toNat / 64 % 8
      s.Handy l false narg 0 → c.ops.length = narg → c.rets = [] →
      entered (s.restack l false 0 ((s.held l false).take narg).reverse (s.restack l true 0
        [c.dsbase, c.dslim, c.rsbase, c.rslim, c.dsp + BitVec.ofNat 32 (4 * narg), c.rsp, s.gateFrame l i.toNat, c.stw, c.pc + 2]
        { c with
          ops := [], rets := [], dsbase := w 2, dslim := w 3, rsbase := w 4, rslim := w 5, dsp := w 2, rsp := w 4 })))

/-- R286, R296: GRET returns through a frame of the current ring and world that it matches, RETF to the words that a fault entry pushed; each
restores STW whole. -/
def Obligations.ReturnsRestoreTheCaller : Prop :=
  ∀ (s : State) l, s.Ready l → s.inLesson l = false →
    let c := s.core l
    let r := s.held l true
    let back (d : Core) (v stw : Word) : State := s.setCore l { d with stw := stw &&& 0x3777, pc := v &&& 0xFFFFFFFE, fault := none }
    let f := (wAt r 2).toNat
    (s.Handy l true 3 0 → f / 65536 = 0xA75E → f % 4 = c.ring → f.testBit 2 = c.guard → f.testBit 3 = false →
      (wAt r 1).toNat % 2 = c.guard.toNat → c.ring ≤ (wAt r 1).toNat / 2 % 4 →
      ∃ t, exec (.gret l) s = .next t ∧ Raised (back (s.restack l true 3 [] c) (wAt r 0) (wAt r 1)) t) ∧
    (s.Handy l true 9 0 → f / 65536 = 0xA75E → f % 4 = c.ring → f.testBit 2 = c.guard → f.testBit 3 = true → f.testBit 7 = true →
      c.guard = true → (wAt r 1).toNat % 2 = 0 →
      let nres := f / 16 % 8
      s.Handy l false nres 0 → (∀ i, 3 ≤ i → i < 9 → (wAt r i).toNat % 4 = 0) →
      stackArea (wAt r 7) (wAt r 8) = true → stackArea (wAt r 5) (wAt r 6) = true →
      (wAt r 7).toNat + 4 * nres ≤ (wAt r 4).toNat → (wAt r 4).toNat ≤ (wAt r 8).toNat →
      (wAt r 5).toNat ≤ (wAt r 3).toNat → (wAt r 3).toNat ≤ (wAt r 6).toNat →
      ∃ t, exec (.gret l) s = .next t ∧ Raised (back (s.restack l false 0 ((s.held l false).take nres).reverse
        { c with
          ops := [], rets := [], dsbase := wAt r 8, dslim := wAt r 7, rsbase := wAt r 6, rslim := wAt r 5, dsp := wAt r 4
          rsp := wAt r 3 }) (wAt r 0) (wAt r 1)) t) ∧
    (s.Handy l true 2 0 → c.ring = 0 → (wAt r 1).toNat % 2 = c.guard.toNat →
      ∃ t, exec (.retf l) s = .next t ∧ Raised (back (s.restack l true 2 [] c) (wAt r 0) (wAt r 1)) t)

/-- R287: RETW from Guard ring 0, with no save set active and nothing else on chip, starts the Shop context of the eight words; STW is the
popped one with WORLD forced to Shop, and the core's Shop world is no longer halted. -/
def Obligations.RetwStartsTheShop : Prop :=
  ∀ (s : State) l, s.Ready l → s.inLesson l = false →
    let c := s.core l
    let r := s.held l true
    c.guard = true → c.ring = 0 → s.dfAct l = false → (∀ n, n < 9 → s.saveAct l n = false) →
    s.mode ≠ .safe → s.mode ≠ .lockout → s.mode ≠ .service →
    s.Handy l true 8 0 → c.rets.length = 8 → c.ops = [] →
    (wAt r 0).toNat % 2 = 0 → (∀ i, 2 ≤ i → i < 8 → (wAt r i).toNat % 4 = 0) →
    stackArea (wAt r 5) (wAt r 4) = true → stackArea (wAt r 7) (wAt r 6) = true →
    (wAt r 5).toNat ≤ (wAt r 2).toNat → (wAt r 2).toNat ≤ (wAt r 4).toNat →
    (wAt r 7).toNat ≤ (wAt r 3).toNat → (wAt r 3).toNat ≤ (wAt r 6).toNat →
    ∃ t, exec (.retw l) s = .next t ∧ Raised (s.setCore l { c with
      ops := [], rets := [], dsbase := wAt r 4, dslim := wAt r 5, rsbase := wAt r 6, rslim := wAt r 7, dsp := wAt r 2
      rsp := wAt r 3, stw := wAt r 1 &&& 0x3776, pc := wAt r 0, shopHalted := false, fault := none }) t

/-- R302, R315: the interrupt that a core commits, and the NMI. The save set of the level (or of the NMI) takes the context, the source's
counter counts down, STW names the world and ring 0, a Guard handler above a Shop context stands on the Guard handler stacks, and
control passes to the vector.
R311: the interrupt that a core commits is enabled and pending, set to this core, above IML and above the current priority, and no other
source that passes those checks has a higher level. -/
def Obligations.InterruptsAreEntered : Prop :=
  (∀ (s : State) l, l < 5 →
      let c := s.core l
      let entered (t : State) (set : Nat) (sstat : Word) (guard sw : Bool) (vec : Word) : Prop :=
        (∀ j, j < 15 → t.rd (saveAddr l set j) = wAt (c.saveWords c.pc) j) ∧ t.rd (saveAddr l set 15) = sstat ∧
        (sw = true → t.rd (R.XDSBASE l) = c.dsbase ∧ t.rd (R.XDSLIM l) = c.dslim ∧ t.rd (R.XRSBASE l) = c.rsbase ∧
          t.rd (R.XRSLIM l) = c.rslim) ∧
        t.core l = (let d := { c with
                      pc := vec &&& 0xFFFFFFFE, stw := (c.stw &&& 0xFFFFFFF8) ||| (if guard then 1 else 0), waiting := false }
                    if sw then { d with
                      dsbase := s.rd (R.GHDSBASE l), dslim := s.rd (R.GHDSLIM l), rsbase := s.rd (R.GHRSBASE l)
                      rslim := s.rd (R.GHRSLIM l), dsp := s.rd (R.GHDSBASE l), rsp := s.rd (R.GHRSBASE l) }
                    else d) ∧ t.mem = s.mem
      (∀ n, s.irqDue l = some n →
        let k := s.irqLevel n
        let g := s.irqGuard n
        let sw := g && !c.guard
        ∃ t, exec (.interruptEntry l) s = .next t ∧
          (n < 0xB0 → t.fld (R.IRQCNT n) R.IRQCNT_COUNT + 1 = s.fld (R.IRQCNT n) R.IRQCNT_COUNT) ∧
          entered t (k - 1) (BitVec.ofNat 32 (n + 8192 * k + (if g then 2 ^ 16 else 0) + (if sw then 2 ^ 17 else 0) + 2 ^ 20)) g sw
            (s.rd (if g then R.IVECG l (k - 1) else R.IVECS l (k - 1)))) ∧
      (s.nmiDue l = true → s.lessonAct l = false →
        ∃ t, exec (.nmiEntry l) s = .next t ∧ t.nmiAct l = true ∧
          entered t 8 (BitVec.ofNat 32 (2 ^ 16 + (if c.guard then 0 else 2 ^ 17) + 2 * 2 ^ 18 + 2 ^ 20)) true (!c.guard) (s.rd (R.NMIVEC l)))) ∧
  (∀ (s : State) l n, s.irqDue l = some n →
      s.irqCore n = l ∧ s.irqEn n = true ∧ s.irqPend n = true ∧ stwIML.get (s.core l).stw < s.irqLevel n ∧ s.cp l < s.irqLevel n ∧
      ∀ m ∈ s.liveSources, s.passes5 l m = true → s.passes6 l m = true → s.irqLevel m ≤ s.irqLevel n)

/-- R322, R324, R325: a lesson starts at its entry with ACC, X and Y cleared and four words on the Bell stack, the context kept in the Bell
save set; its time limit aborts it; ENDL restores the context when no request waits, and otherwise starts the next lesson. -/
def Obligations.LessonsRunToTheirEnd : Prop :=
  ∀ (s : State) l, l < 5 →
    let c := s.core l
    let lessonCore (c : Core) (r : BellReq) : Core :=
      { c with
        acc := 0, x := .zero, y := .zero
        stw := (c.stw &&& 0x70) ||| (if r.guard then 1 else 0) |||
          BitVec.ofNat 32 (256 * s.fld (R.BELLCFG l) R.BELLCFG_SAT + 512 * s.fld (R.BELLCFG l) R.BELLCFG_RND)
        bellOps := [BitVec.ofNat 32 r.tagw, BitVec.ofNat 32 r.word, ((BitVec.ofNat 16 (r.word / 2 ^ 32)).signExtend 32),
          BitVec.ofNat 32 r.time]
        bellRets := [], lesson := (r.tagw / 256 % 32, r.tagw % 256)
        pc := s.rd (if r.guard then R.LBASEG l else R.LBASES l) + BitVec.ofNat 32 (32 * r.entry), waiting := false }
    let restored : Core :=
      { (c.restored (s.rdSave (saveAddr l 7 0))) with bellOps := [], bellRets := [] }
    (∀ r rest, s.lessonDue l = true → s.nmiDue l = false → s.bell l = r :: rest →
      ∃ t, exec (.lessonEntry l) s = .next t ∧ t.core l = lessonCore c r ∧ t.bell l = rest ∧
        (∀ j, j < 15 → t.rd (saveAddr l 7 j) = wAt (c.saveWords c.pc) j) ∧ t.saveAct l 7 = true ∧ t.mem = s.mem) ∧
    (s.Ready l → s.inLesson l = true →
      (s.bell l = [] → ∃ t, exec (.endl l) s = .next t ∧ t.core l = { restored with fault := none } ∧ t.saveAct l 7 = false) ∧
      (∀ r rest, s.bell l = r :: rest → s.nmiPending l = false →
        ∃ t, exec (.endl l) s = .next t ∧ t.core l = { lessonCore c r with fault := none } ∧ t.bell l = rest ∧ t.saveAct l 7 = true)) ∧
    (s.inLesson l = true → s.fld (R.BELLCFG l) R.BELLCFG_LIMIT ≠ 0 → s.bell l = [] → s.hasSrc (0xA8 + l) = true →
      s.fld (R.IRQCNT (0xA8 + l)) R.IRQCNT_COUNT < 15 →
      ∃ t, exec (.lessonTimeLimit l) s = .next t ∧ t.core l = restored ∧ t.saveAct l 7 = false ∧
        t.fld (R.BELLSTAT l) R.BELLSTAT_WHY = 2 ∧ t.fld (R.BELLSTAT l) R.BELLSTAT_SLOT = c.lesson.1 % 32 ∧
        t.fld (R.BELLSTAT l) R.BELLSTAT_TAG = c.lesson.2 % 256 ∧
        t.fld (R.IRQCNT (0xA8 + l)) R.IRQCNT_COUNT = s.fld (R.IRQCNT (0xA8 + l)) R.IRQCNT_COUNT + 1)

/-- R317: RETI through the save set of the current level, with the bounds of XBND when the entry switched stacks: the fifteen words are
restored, the handler's entries go, and the level is no longer active. -/
def Obligations.RetiRestoresTheContext : Prop :=
  ∀ (s : State) l, s.Ready l → l < 5 → s.inLesson l = false →
    let c := s.core l
    let n := s.cp l - 1
    let w (j : Nat) : Word := s.rd (saveAddr l n j)
    let sw := (w 15).getLsbD 17
    let b (i : Nat) : Word := if sw then s.rd (R.XDSBASE l + 4 * i) else wAt [c.dsbase, c.dslim, c.rsbase, c.rslim] i
    c.ring = 0 → s.dfAct l = false → s.nmiAct l = false → s.cp l ≠ 0 →
    (w 15).getLsbD 16 = c.guard → (w 0).toNat % 2 = 0 → (c.guard = false → (w 1).toNat % 2 = 0) →
    (b 1).toNat ≤ (w 2).toNat → (w 2).toNat ≤ (b 0).toNat → (b 3).toNat ≤ (w 3).toNat → (w 3).toNat ≤ (b 2).toNat →
    ∃ t, exec (.reti l) s = .next t ∧ t.saveAct l n = false ∧ t.mem = s.mem ∧
      t.core l = { c with
        pc := w 0, stw := w 1 &&& 0x3777, dsp := w 2, rsp := w 3
        acc := BitVec.ofNat 72 ((w 4).toNat + 2 ^ 32 * (w 5).toNat + 2 ^ 64 * (w 6).toNat)
        x := { a := w 7, b := w 8, cfg := w 9 &&& 0x1FFFFFF, step := w 10 }
        y := { a := w 11, b := w 12, cfg := w 13 &&& 0x1FFFFFF, step := w 14 }
        dsbase := b 0, dslim := b 1, rsbase := b 2, rslim := b 3, fault := none
        ops := c.ops.filter (fun e => decide (e.own < (s.contexts l).length))
        rets := c.rets.filter (fun e => decide (e.own < (s.contexts l).length)) }

/-- R299, R300: a fault of Guard code before its handler's first instruction has retired enters the double-fault handler with the first
fault's context saved; a fault while that handler runs resets the core, holds it and is recorded in CORERST and DFSTAT. -/
def Obligations.DoubleAndThirdFaults : Prop :=
  ∀ (s : State) l, s.Ready l → s.inLesson l = false → (s.core l).guard = true → l < 5 →
    let c := s.core l
    (∀ ff : FirstFault, c.fault = some ff → s.dfAct l = false → s.gStackFault l 0 = none →
      ∃ t, exec (.illegalOpcode l 0) s = .next t ∧ t.dfAct l = true ∧
        t.fld (R.DFSTAT l) R.DFSTAT_KIND1 = ff.kind % 16 ∧ t.fld (R.DFSTAT l) R.DFSTAT_KIND2 = 1 ∧
        t.rd (R.DFSAVE l 0) = ff.pc ∧ t.rd (R.DFSAVE l 1) = ff.stw ∧ t.rd (R.DFSAVE l 2) = ff.dsp ∧ t.rd (R.DFSAVE l 3) = ff.rsp ∧
        (t.core l).pc = s.rd (R.DFVEC l) &&& 0xFFFFFFFE ∧ (t.core l).guard = true ∧ (t.core l).ring = 0 ∧
        (t.core l).dsp = s.rd (R.GDSBASE l) ∧ (t.core l).rsp = s.rd (R.GRSBASE l)) ∧
    (s.dfAct l = true → 0 < l →
      ∃ t, exec (.illegalOpcode l 0) s = .next t ∧ (t.core l).third = true ∧ t.canRun l true = false ∧
        t.fld (R.DFSTAT l) R.DFSTAT_THIRD = 1 ∧ t.fld (R.DFSTAT l) R.DFSTAT_KIND3 = 1 ∧
        (t.fld R.CORERST R.CORERST_PHYS).testBit (s.variant.phys l) = true)


/-! ### Supplies, resets, modes and DAWN -/

/-- R46, R47, R516, R520: what the supplies, RESET_N and the loss of a clock do to the main domain. -/
def Obligations.SuppliesAndResets : Prop :=
  ∀ (s : State) (begun : Bool),
    (s.mode = .night → s.supply.all id = false → s.resetN = true →
      s.Leads .powerOn (fun t => t.mode = .dawn ∧ t.dawn = .waitClock ∧ t.supply = [true, true, true] ∧ t.clocks = false ∧
        (s.supply.headD true = false → t.ResetBy 0 ∧ t.fld R.LOCKSTAT R.LOCKSTAT_PEND = 0 ∧ ∀ l, l < 64 → (t.line l).latch = none))) ∧
    (∀ i, i < 3 → s.supply.length = 3 →
      s.Leads (.brownOut i begun) (fun t => t.mode = .night ∧ t.supply.getD i true = false ∧ t.ResetBy 1 ∧
        (s.mode ≠ .night → t.clocks = false ∧ t.mrq = [] ∧ t.logQ = [] ∧ t.LinesSafe))) ∧
    (s.mode ≠ .night → s.resetN = true →
      s.Leads (.resetPin true) (fun t => t.mode = .dawn ∧ t.dawn = .waitReset ∧ t.resetN = false ∧ t.clocks = false ∧ t.ResetBy 2)) ∧
    (s.dawn = .waitReset → s.supply.all id = true →
      s.Gives (.resetPin false) { s with resetN := true, mode := .dawn, dawn := .waitClock }) ∧
    (s.dawn ≠ .waitReset ∨ s.supply.all id = false → s.Gives (.resetPin false) { s with resetN := true }) ∧
    (s.mode ≠ .night →
      s.Leads (.pllLockLoss begun) (fun t => t.mode = .dawn ∧ t.clocks = false ∧ t.pllOk = false ∧ t.ResetBy 3 ∧ t.LinesSafe ∧
        t.fld R.CLKSTAT R.CLKSTAT_LOCKLOSS = min 255 (s.fld R.CLKSTAT R.CLKSTAT_LOCKLOSS + 1)) ∧
      s.Leads (.referenceAbsent begun) (fun t => t.mode = .dawn ∧ t.clocks = false ∧ t.refOk = false ∧ t.ResetBy 3 ∧ t.LinesSafe ∧
        t.fld R.CLKSTAT R.CLKSTAT_REFLOSS = min 255 (s.fld R.CLKSTAT R.CLKSTAT_REFLOSS + 1)) ∧
      ∀ vdd : Bool,
        s.Gives (.supplyDip vdd begun) (
          { s with
            dip := if vdd then (true, s.dip.2) else (s.dip.1, true), mrRun := begun && !s.mrq.isEmpty }.count R.SUPSTAT
              (if vdd then R.SUPSTAT_VDDDIP else R.SUPSTAT_VDDMDIP) 1)) ∧
    (∀ vdd : Bool, s.Gives (.supplyDipEnd vdd) { s with dip := if vdd then (false, s.dip.2) else (s.dip.1, false) })

/-- R36-R44, R427: a request by a path of the table is accepted and answered ACCEPTED; one by no path, or whose condition fails, is
refused; while a transition is in progress only SAFE and LOCKOUT are not BUSY. SAFE and LOCKOUT drive every output safe at
once, and DAWN is a reset. -/
def Obligations.ModeRequestsAreJudged : Prop :=
  ∀ (s : State) r m row, ModeRow m row → s.MayAsk r m →
    let q := s.modeAsker r
    let same (t : State) : Prop := t.mode = s.mode ∧ t.trans = s.trans ∧ t.fld R.MODERESP R.MODERESP_TARGET = m.code
    (s.trans = none → ModePath s s.mode m q → m ≠ .dawn →
      (s.mode = .dawn → s.estopN = true ∧ s.fld R.DAWNSTAT R.DAWNSTAT_HMALARM = 0) →
      s.Leads (row r) (fun t => t.mode = s.mode ∧
        (∃ tr, t.trans = some tr ∧ tr.target = m ∧ tr.req = q ∧ tr.src = s.mode) ∧
        t.rd R.MODERESP = BitVec.ofNat 32 (1 + 16 * m.code + 256 * q.code) ∧ t.fld R.MODESTAT R.MODESTAT_BUSY = 1 ∧
        (m = .safe ∨ m = .lockout → t.LinesSafe))) ∧
    (s.trans = none → ModePath s s.mode m q → m = .dawn → s.resetN = true →
      s.Leads (row r) (fun t => t.mode = .dawn ∧ t.dawn = .waitClock ∧ t.trans = none ∧
        t.ResetBy (if s.mode = .lockout then 7 else if r = .staff then 4 else 5) ∧
        (s.mode = .lockout → t.fld R.LOCKSTAT R.LOCKSTAT_PEND = 0))) ∧
    (s.trans = none → ¬ModePath s s.mode m q →
      s.Leads (row r) (fun t => same t ∧ t.fld R.MODERESP R.MODERESP_STATUS ∈ [2, 3, 4])) ∧
    (s.trans ≠ none → m ≠ .safe → m ≠ .lockout → s.Leads (row r) (fun t => same t ∧ t.fld R.MODERESP R.MODERESP_STATUS = 5)) ∧
    (s.mode = .lockout → exec .staffClear s = exec (.modeRequestDawn .staff) s)

/-- R38, R41, R165, R172, R288, R469, R506: an accepted transition completes at the next pin epoch boundary, in its mode, with MODECHG for
every core, and with its effects on outputs, slots, the Shop world, LOCKSTAT and the session. NIGHT lets WAKEOUT go low. -/
def Obligations.TransitionsComplete : Prop :=
  ∀ (s : State),
    let u := if s.clocks then s.atBoundary else s
    (∀ tr, s.trans = some tr → s.estopN = true → tr.target ≠ .night →
      s.Leads .modeTransition (fun t => t.mode = tr.target ∧ t.trans = none ∧
        t.rd R.MODESTAT = BitVec.ofNat 32 (tr.target.code + 16 * s.mode.code + 256 * tr.req.code) ∧
        (∀ l, s.variant.hasCore l = true →
          t.fld (R.IRQCNT (0x98 + l)) R.IRQCNT_COUNT = min 15 (u.fld (R.IRQCNT (0x98 + l)) R.IRQCNT_COUNT + 1)) ∧
        (tr.target = .run → s.mode ≠ .hold →
          ∀ l, l < 64 → (t.line l).safed = false ∧ (t.line l).fd.a.lvl = decide (R.EVCFG_SAFE.get (u.eff (R.EVCFG l)) = 1)) ∧
        (tr.target ∈ [Mode.safe, .lockout, .service] → t.LinesSafe ∧ ∀ i, i < 32 → (t.slot i).a.state = 0) ∧
        (tr.target = .safe → ∀ l, s.variant.hasCore l = true → (t.core l).shopHalted = true) ∧
        (tr.target = .lockout → t.fld R.LOCKSTAT R.LOCKSTAT_PEND = 1 ∧ (1 ≤ tr.cause → tr.cause < 9 →
          t.fld R.LOCKSTAT R.LOCKSTAT_CAUSE = tr.cause ∧
          t.fld R.LOCKSTAT R.LOCKSTAT_CLROK = u.fld R.GPOLICY R.GPOLICY_CLR / 2 ^ (tr.cause - 1) % 2)) ∧
        (tr.target = .service → t.staff.sess = .closed ∧ ∀ k, 1 ≤ k → k < 7 → k < s.keys.length → (t.key k).state = .erased))) ∧
    (∀ tr, s.trans = some tr → tr.target = .night →
      s.Leads .modeTransition (fun t => t.mode = .night ∧ t.hall.sleepDue = true ∧ t.mrq = [] ∧ t.logQ = [] ∧ t.LinesSafe)) ∧
    (s.trans = none → s.Gives .modeTransition s) ∧
    (s.hall.sleepDue = true →
      s.Gives .nightWakeoutLow { s with en := .reset, hall := { s.hall with sleepDue := false, wakeout := false } }) ∧
    (s.hall.sleepDue = false → s.Gives .nightWakeoutLow s)

/-- R20, R23, R48-R53, R57, R351, R448: the steps of DAWN that end with an event, their failures that lead to LOCKOUT, and the release
of the Guard core. -/
def Obligations.DawnSteps : Prop :=
  ∀ (s : State),
    let failed (t : State) (step cause : Nat) : Prop :=
      (∃ tr, t.trans = some tr ∧ tr.target = .lockout ∧ tr.req = .fault) ∧ t.fld R.DAWNSTAT R.DAWNSTAT_FAILSTEP = step ∧
        t.fld R.DAWNSTAT R.DAWNSTAT_LOCKCAUSE = cause ∧ t.LinesSafe
    let released (u t : State) : Prop :=
      t.dawn = .guardInit ∧ t.fld R.DAWNSTAT R.DAWNSTAT_STEP = 10 ∧ (t.fld R.CORERUN R.CORERUN_RUN).testBit 0 = true ∧
        ((u.core 0).started = false → (t.core 0).pc = u.rd (R.GENTRY 0))
    (s.mode = .dawn → s.dawn = .waitClock → s.resetN = true → s.supply.all id = true → ∀ d : DawnResult,
      (d.otpFail = true → s.Leads (.dawnStart d) (fun t => failed t 1 1 ∧ t.clocks = true)) ∧
      (d.otpFail = false → d.selfFail = true → s.Leads (.dawnStart d) (fun t => failed t 2 2)) ∧
      (d.otpFail = false → d.selfFail = false →
        s.Leads (.dawnStart d) (fun t => t.dawn = .identity ∧ t.clocks = true ∧ t.now = 0 ∧ t.fld R.DAWNSTAT R.DAWNSTAT_STEP = 5 ∧
          (d.imgOk = false → t.fld R.DAWNSTAT R.DAWNSTAT_IMGBAD = 1 ∧ t.fld R.DAWNSTAT R.DAWNSTAT_FAILSTEP = 4) ∧
          ∀ i, i < 8 → (t.rd (R.MEAS i)).toNat = numLow ((d.meas.drop (4 * i)).take 4) % 2 ^ 32))) ∧
    (s.dawn = .identity → s.rngStopped = false → s.fld R.RNGSTAT R.RNGSTAT_READY = 1 → s.rngDone = true → ∀ cfg,
      ((s.key 0).state = .set → s.fld R.DAWNSTAT R.DAWNSTAT_IMGBAD = 0 →
        s.Leads (.dawnIdentityCheck true true cfg) (fun t => t.dawn = .handover ∧ t.fld R.IDSTAT R.IDSTAT_KEY = 2 ∧
          t.fld R.DAWNSTAT R.DAWNSTAT_STEP = 7 ∧ ∀ l, l < 64 → (t.line l).latch ≠ none ∧ (t.line l).safed = false)) ∧
      ((s.key 0).state = .set → ∀ cfgOk, s.Leads (.dawnIdentityCheck false cfgOk cfg) (fun t => failed t 5 3)) ∧
      ((s.key 0).state = .erased → ∀ ok cfgOk, s.Leads (.dawnIdentityCheck ok cfgOk cfg) (fun t => failed t 5 3))) ∧
    (∀ k, let u := s.advance k
      (∀ x, s.dawn = .rollCall → s.Leads (.rollCall k x) (released u)) ∧
      (s.dawn = .rollCall → s.Leads (.rollCallTimeout k) (fun t => released u t ∧ t.fld R.DAWNSTAT R.DAWNSTAT_RINGDOWN = 1)) ∧
      (u.dawn = .guardInit → u.mode = .dawn → u.trans = none → s.Leads (.dawnTimeout k) (fun t => failed t 10 4)))

/-- R45, R257: CORERUN is written by Guard ring 0 of G alone. A core that is released starts at its Guard entry, or resumes where it
halted; one that is halted keeps its registers and stacks. A core that the variant lacks refuses the write. -/
def Obligations.CoresAreReleasedAndHalted : Prop :=
  ∀ (s : State) l, l < 5 → s.fld R.CORERUN R.CORERUN_RUN < 2 ^ (s.variant.nInd + 1) →
    let c := s.core l
    let v := s.rd R.CORERUN
    (s.variant.hasCore l = true → (s.fld R.CORERUN R.CORERUN_RUN).testBit l = false →
      s.Does (.core 0) R.CORERUN (v ||| BitVec.ofNat 32 (2 ^ l)) (.coreRelease (.core 0) l) (fun t =>
        (t.fld R.CORERUN R.CORERUN_RUN).testBit l = true ∧
        t.core l = { c with started := true, third := false, pc := if c.started then c.pc else s.rd (R.GENTRY l) })) ∧
    (s.variant.hasCore l = true → (s.fld R.CORERUN R.CORERUN_RUN).testBit l = true →
      s.Does (.core 0) R.CORERUN (v &&& ~~~(BitVec.ofNat 32 (2 ^ l))) (.coreHalt (.core 0) l) (fun t =>
        (t.fld R.CORERUN R.CORERUN_RUN).testBit l = false ∧ t.core l = c ∧ t.bell l = [])) ∧
    (s.variant.hasCore l = false →
      s.Does (.core 0) R.CORERUN (v ||| BitVec.ofNat 32 (2 ^ l)) (.coreRelease (.core 0) l) (fun t =>
        t.rd R.CORERUN = v ∧ t.fld R.MODERESP R.MODERESP_STATUS = 4 ∧ t.fld R.MODERESP R.MODERESP_WHY = 7))

/-- R36, R52, R301, R302: an accepted fall of ESTOP_N is recorded, sets the NMI bit of every core, and asks for SAFE, or is noted in DAWN;
its level follows. ESTOPCFG is written in PREPARE and counts from the next boundary. SVCREQ_N's low time is measured. -/
def Obligations.EmergencyStopActs : Prop :=
  ∀ (s : State) k,
    let u := s.advance k
    (s.estopN = true → u.estopPasses k = true →
      s.Leads (.estopNFall k) (fun t => t.estopN = false ∧ R.ESTOPSTAT_LEVEL.get (t.live 5 R.ESTOPSTAT) = 0 ∧
        t.fld R.ESTOPSTAT R.ESTOPSTAT_FELL = 1 ∧
        t.fld R.ESTOPSTAT R.ESTOPSTAT_COUNT = min 255 (u.fld R.ESTOPSTAT R.ESTOPSTAT_COUNT + 1) ∧
        (∀ l, s.variant.hasCore l = true → t.fld (R.NMIPEND l) R.NMIPEND_ESTOP = 1) ∧
        (u.mode = .dawn → t.fld R.DAWNSTAT R.DAWNSTAT_ESTOPLOW = 1) ∧
        (u.trans = none → u.mode ∈ [Mode.prepare, .run, .hold] →
          (∃ tr, t.trans = some tr ∧ tr.target = .safe ∧ tr.req = .estop) ∧ t.LinesSafe))) ∧
    (s.estopN = false → u.estopPasses k = true →
      s.Leads (.estopNRise k) (fun t => t.estopN = true ∧ R.ESTOPSTAT_LEVEL.get (t.live 5 R.ESTOPSTAT) = 1)) ∧
    (u.estopPasses k = false → s.Gives (.estopNFall k) u ∧ s.Gives (.estopNRise k) u) ∧
    (∀ r v, (s.asker r).priv = true → s.mode = .prepare →
      s.Does r R.ESTOPCFG v (.estopcfgWrite r v) (fun t => t.rd R.ESTOPCFG = v &&& 0xFF ∧ t.eff R.ESTOPCFG = s.eff R.ESTOPCFG ∧
        t.fld R.ESTOPSTAT R.ESTOPSTAT_WSTAT = 0)) ∧
    (∀ r v, (s.asker r).priv = true → s.mode ≠ .prepare →
      s.Does r R.ESTOPCFG v (.estopcfgWrite r v) (fun t => t.rd R.ESTOPCFG = s.rd R.ESTOPCFG ∧
        t.fld R.ESTOPSTAT R.ESTOPSTAT_WSTAT = 2)) ∧
    (u.svcLow = none → s.Gives (.svcreqNChange k true) { u with svcLow := some u.now }) ∧
    s.Gives (.svcreqNChange k false) { u with svcLow := none }

/-! ### Registers -/

/-- R9-R11, R544: a write of a register that no other rule governs leaves each field as its access type says, and one by
a core that is misaligned, or narrower than a word, faults (R12, R240); a write of CLKOBS waits for the boundary (R24); a read of a register that counts in RC fields returns
them and clears them. R64, R95: a read of a low half latches the other half, which the same requester then reads; the word of a
timebase is read so. -/
def Obligations.RegistersFollowTheirTypes : Prop :=
  ∀ (s : State) r (v : Word),
    s.Sets r R.RSTCAUSE v (.registerWrite r (BitVec.ofNat 32 R.RSTCAUSE) .word v)
      (s.wr R.RSTCAUSE (s.rd R.RSTCAUSE &&& ~~~(v &&& 0x1FF))) ∧
    s.Sets r R.DAWNSTAT v (.registerWrite r (BitVec.ofNat 32 R.DAWNSTAT) .word v) (s.wr R.DAWNSTAT (s.rd R.DAWNSTAT)) ∧
    s.Sets r R.CLKOBS v (.clkobsWrite r v) (s.defer R.CLKOBS (v &&& 7)) ∧
    (∀ l, r = .core 0 → l < 5 → s.variant.hasCore l = true →
      s.Does r (R.FVECG l) v (.registerWrite r (BitVec.ofNat 32 (R.FVECG l)) .word v) (fun t =>
        t.rd (R.FVECG l) = (s.rd (R.FVECG l) &&& 1) ||| (v &&& 0xFFFFFFFE))) ∧
    (∀ a, PlainReg a → s.Does r a v (.registerWrite r (BitVec.ofNat 32 a) .word v) (fun t => WrittenByType a (s.rd a) v (t.rd a))) ∧
    (∀ l (z : Size) (a : Word), r = .core l → l < 5 → s.EntersFaults l → 0x40000000 ≤ a.toNat →
      s.privFault (s.who l) a.toNat z.bytes true v = none →
      (a.toNat % z.bytes ≠ 0 → s.Leads (.registerWrite r a z v) (fun t => TookFault s t l 2 3 a true false)) ∧
      (a.toNat % z.bytes = 0 → z ≠ .word → s.regionOk l (s.core l).guard (s.core l).ring .write a.toNat z.bytes = true →
        s.Leads (.registerWrite r a z v) (fun t => TookFault s t l 3 2 a true false))) ∧
    (∀ a, CountReg s.variant a → s.DoesRead r a (.rcFieldRead r (BitVec.ofNat 32 a)) (fun t => ReadByType a (s.rd a) t.rdata (t.rd a))) ∧
    (∀ a b, LatchRow s.variant a b → s.DoesRead r a (.latchedRead r (BitVec.ofNat 32 a)) (fun t =>
      t.rdata = s.live (s.asker r).id a ∧ t.look (s.asker r).id b = s.live (s.asker r).id b)) ∧
    s.DoesRead r R.CLKSTAT (.rcFieldRead r (BitVec.ofNat 32 R.CLKSTAT)) (fun t =>
      t.rdata = s.rd R.CLKSTAT &&& 0xFFFF01 ∧ t.fld R.CLKSTAT R.CLKSTAT_LOCKLOSS = 0 ∧ t.fld R.CLKSTAT R.CLKSTAT_REFLOSS = 0 ∧
      t.fld R.CLKSTAT R.CLKSTAT_HMXTAL = s.fld R.CLKSTAT R.CLKSTAT_HMXTAL) ∧
    (∀ i, i < 32 → s.variant.hasTb i = true →
      s.DoesRead r (R.TBPOSL i) (.latchedRead r (BitVec.ofNat 32 (R.TBPOSL i))) (fun t =>
        t.rdata = BitVec.ofInt 32 (s.tb i).word ∧
        ((t.rdReq (s.asker r).id (R.TBPOSH i)).toNat : Int) % 65536 = (s.tb i).word / 2 ^ 32 % 65536))

/-! ### Positions -/

/-- R61, R71, R75, R76: MODE starts a channel in SYNC or turns it off, a value that a field may not hold is refused with MODEABS, and a change
while the channel is locked with COND; CLR leaves FAULT once no cause is present; ARM arms one index capture. -/
def Obligations.ChannelsAreConfigured : Prop :=
  ∀ (s : State) r ch (v : Word), ch < s.variant.nLocal →
    let x := s.chan ch
    let old := s.rd (R.PCCTL ch)
    let legal (w : Word) : Prop := R.PCCTL_MODE.get w ≤ 4 ∧ (R.PCCTL_MODE.get w = 4 → ch < s.variant.nAdc) ∧ R.PCCTL_DECODE.get w ≠ 3
    let open' : Prop := s.mode = .prepare ∨ x.state = .off ∨ x.state = .fault
    (legal v → open' → R.PCCTL_CLR.get v = 0 →
      s.Does r (R.PCCTL ch) v (.channelModeWrite r ch v) (fun t =>
        (t.chan ch).wstat = 0 ∧ t.fld (R.PCCTL ch) R.PCCTL_MODE = R.PCCTL_MODE.get v ∧
        t.fld (R.PCCTL ch) R.PCCTL_WBFILT = (if R.PCCTL_WBFILT.get v = 0 then 64 else R.PCCTL_WBFILT.get v) ∧
        (R.PCCTL_MODE.get old = 0 → R.PCCTL_MODE.get v ≠ 0 → (t.chan ch).state = .sync ∧ (t.chan ch).count = 0) ∧
        (R.PCCTL_MODE.get old ≠ 0 → R.PCCTL_MODE.get v = 0 → (t.chan ch).state = .off ∧ (t.chan ch).count = x.count))) ∧
    (¬legal v → s.Does r (R.PCCTL ch) v (.channelModeWrite r ch v) (fun t => (t.chan ch).wstat = 1 ∧ t.rd (R.PCCTL ch) = old)) ∧
    (legal v → ¬open' → R.PCCTL_MODE.get v ≠ R.PCCTL_MODE.get old →
      s.Does r (R.PCCTL ch) v (.channelModeWrite r ch v) (fun t => (t.chan ch).wstat = 2 ∧ t.rd (R.PCCTL ch) = old)) ∧
    (legal old → x.state = .fault →
      let cause := ∃ i, i < 3 ∧ s.PairChecked ch i ∧ x.valid.getD i false = false
      (¬cause → s.Does r (R.PCCTL ch) (R.PCCTL_CLR.put old 1) (.channelClear r ch) (fun t =>
        (t.chan ch).state = .sync ∧ (t.chan ch).count = x.count ∧ (t.chan ch).cause = x.cause ∧ (t.chan ch).wstat = 0)) ∧
      (cause → s.Does r (R.PCCTL ch) (R.PCCTL_CLR.put old 1) (.channelClear r ch) (fun t =>
        (t.chan ch).state = .fault ∧ (t.chan ch).wstat = 3))) ∧
    s.Does r (R.PCIDXCTL ch) (R.PCIDXCTL_ARM.put (s.rd (R.PCIDXCTL ch)) 1) (.indexArm r ch) (fun t =>
      t.fld (R.PCIDXCTL ch) R.PCIDXCTL_ZARMED = 1 ∧ (t.chan ch).wstat = 0)

/-- R65, R66, R68-R72: a level that has not stood FILT + 1 PSCLK since its last change is not accepted. A change of both A and B in SYNC or
TRACK is ILLEGAL; in TRACK a change of one counts the step of the table, with its edge FILT + 3 before; elsewhere only the levels follow. A
qualified Z edge counts in ZCNT, captures count and time, every one or the first after ARM, and with a distance to check a capture that
misses it is counted. -/
def Obligations.StepsAndIndexAreCounted : Prop :=
  ∀ (s : State) ch k, ch < s.variant.nLocal →
    let u := s.advance k
    let x := u.chan ch
    let quad := u.fld (R.PCCTL ch) R.PCCTL_MODE = 1
    let filt := R.PCCTL_FILT.get (u.effAt (R.PCCTL ch) (k - 2))
    let stood (i : Nat) : Prop := ∀ e, x.accK.getD i none = some e → e + filt + 1 ≤ k
    (∀ a0 b0 z0 a b, x.lvl = [a0, b0, z0] →
      ((a ≠ a0 → ¬stood 0) → (b ≠ b0 → ¬stood 1) →
        s.Leads (.quadStep ch k a b) (fun t => (t.chan ch).lvl = x.lvl ∧ (t.chan ch).state = x.state ∧ (t.chan ch).count = x.count)) ∧
      ((a ≠ a0 → stood 0) → (b ≠ b0 → stood 1) →
        (¬quad ∨ x.state ∉ [ChState.sync, .track] ∨ x.state = .sync ∧ (a = a0 ∨ b = b0) →
          s.Leads (.quadStep ch k a b) (fun t =>
            (t.chan ch).lvl = [a, b, z0] ∧ (t.chan ch).state = x.state ∧ (t.chan ch).count = x.count)) ∧
        (quad → x.state ∈ [ChState.sync, .track] → a ≠ a0 → b ≠ b0 →
          s.Leads (.quadStep ch k a b) (fun t => ChannelFaulted u t ch 4)) ∧
        (∀ step, quad → x.state = .track →
          StepRow (u.fld (R.PCCTL ch) R.PCCTL_DECODE) (u.fld (R.PCCTL ch) R.PCCTL_DIR == 1) a0 b0 a b step →
          s.Leads (.quadStep ch k a b) (fun t => (t.chan ch).lvl = [a, b, z0] ∧ (t.chan ch).state = .track ∧
            (step = none → (t.chan ch).count = x.count) ∧
            (∀ up, step = some up → isWrapped 40 (x.count + (if up then 1 else -1)) (t.chan ch).count ∧
              (t.chan ch).edgeK = k - (filt + 3) ∧ (t.chan ch).edgeWall = u.wallPs ((k - (filt + 3) : Nat) : Int)))))) ∧
    (∀ a b, u.fld (R.PCCTL ch) R.PCCTL_MODE ∈ [1, 4] → u.fld (R.PCCTL ch) R.PCCTL_ZEN = 1 → x.state = .track → stood 2 →
      let inv := u.fld (R.PCIDXCTL ch) R.PCIDXCTL_ZINV == 1
      let mode := u.fld (R.PCIDXCTL ch) R.PCIDXCTL_ZMODE
      let dist := u.fld (R.PCZDIST ch) R.PCZDIST_DIST
      let captured (t : State) : Prop := (t.chan ch).idxCount = x.count ∧ (t.chan ch).idxTime = u.wallPs ((k - (filt + 3) : Nat) : Int) % 2 ^ 24
      x.lvl = [a, b, inv] → zSelected (R.PCIDXCTL_ZQUAL.get (u.effAt (R.PCIDXCTL ch) (k - 2))) a b →
      s.Leads (.indexEdge ch k !inv) (fun t => (t.chan ch).lvl = [a, b, !inv] ∧
        t.fld (R.PCIDXCTL ch) R.PCIDXCTL_ZCNT = (u.fld (R.PCIDXCTL ch) R.PCIDXCTL_ZCNT + 1) % 256 ∧
        (mode = 0 → captured t ∧ (t.chan ch).idxRef = some (x.count, x.stepUp) ∧
          (∀ c d, x.idxRef = some (c, x.stepUp) → isWrapped 40 (x.count - c) d → dist ≠ 0 →
            (d.natAbs = dist → (t.chan ch).zmiss = x.zmiss) ∧
            (d.natAbs ≠ dist → (t.chan ch).zmiss = true ∧
              t.fld (R.PCERR ch) R.PCERR_ZMISSCNT = min 255 (u.fld (R.PCERR ch) R.PCERR_ZMISSCNT + 1)))) ∧
        (mode = 1 → u.fld (R.PCIDXCTL ch) R.PCIDXCTL_ZARMED = 1 →
          captured t ∧ t.fld (R.PCIDXCTL ch) R.PCIDXCTL_ZARMED = 0) ∧
        (mode = 1 → u.fld (R.PCIDXCTL ch) R.PCIDXCTL_ZARMED = 0 → (t.chan ch).idxCount = x.idxCount)))

/-- R73, R75, R118: a checked pair that has read an invalid level for WBFILT PSCLK faults the channel, named after the first such pair in the
order A, B, Z; a shorter episode of a checked pair is counted; a QUAD channel in SYNC for 8 edges whose pairs have read valid levels enters
TRACK. -/
def Obligations.WireChecksFaultChannels : Prop :=
  ∀ (s : State) ch k, ch < s.variant.nLocal →
    let u := s.advance k
    let x := u.chan ch
    let wb := R.PCCTL_WBFILT.get (u.eff (R.PCCTL ch))
    let same (t : State) : Prop := (t.chan ch).state = x.state ∧ (t.chan ch).count = x.count
    (∀ pairs : List (Nat × Nat), (∀ p ∈ pairs, p.1 < 3) →
      let broken (i : Nat) : Prop := u.PairChecked ch i ∧ ∃ e, (i, e) ∈ pairs ∧ e + wb ≤ k
      let seen (t : State) : Prop := ∀ p ∈ pairs, (t.chan ch).valid.getD p.1 true = false
      (∀ i, broken i → (∀ j, j < i → ¬broken j) → x.state ∈ [ChState.sync, .track] →
        s.Leads (.wireBreak ch k pairs) (fun t => ChannelFaulted u t ch (1 + i) ∧ seen t)) ∧
      ((∀ i, ¬broken i) → s.Leads (.wireBreak ch k pairs) (fun t => same t ∧ seen t))) ∧
    (∀ i since, i < 3 →
      let does (P : State → Prop) : Prop := s.Leads (.invalidEpisodeEnd ch i since k) (fun t => (t.chan ch).valid.getD i false = true ∧ P t)
      (u.PairChecked ch i → k < since + wb →
        does (fun t => same t ∧ t.fld (R.PCERR ch) R.PCERR_WBGLITCH = min 255 (u.fld (R.PCERR ch) R.PCERR_WBGLITCH + 1))) ∧
      (u.PairChecked ch i → since + wb ≤ k → x.state ∈ [ChState.sync, .track] → does (fun t => ChannelFaulted u t ch (1 + i))) ∧
      (¬u.PairChecked ch i → does (fun t => same t ∧ t.fld (R.PCERR ch) R.PCERR_WBGLITCH = u.fld (R.PCERR ch) R.PCERR_WBGLITCH))) ∧
    (u.fld (R.PCCTL ch) R.PCCTL_MODE = 1 → x.state = .sync →
      (x.syncK + 8 ≤ u.now →
        s.Leads (.channelSyncComplete ch k) (fun t => (t.chan ch).state = .track ∧ (t.chan ch).cause = 0 ∧ (t.chan ch).count = x.count)) ∧
      (u.now < x.syncK + 8 → s.Gives (.channelSyncComplete ch k) u))

/-- R78, R79, R81-R83: a request at a boundary that REQPER names starts a frame or is skipped, and is none at any other; a good SSI frame in
binary sets the count and the sample edge and enters TRACK, a change beyond PCJUMP faults; a frame with a line that is not idle, or a BiSS
frame without ACK or START, is counted as bad, and BADLIM of them in succession fault the channel. (The rank of a frame's errors is
assumption 97, that SYNC forgets the last frame assumption 98, both DESIGN CHOICE.) -/
def Obligations.EncoderFramesAreTaken : Prop :=
  ∀ (s : State) ch k (f : Frame), ch < s.variant.nLocal →
    let mode := s.fld (R.PCCTL ch) R.PCCTL_MODE
    let per := s.fld (R.PCREQ ch) R.PCREQ_REQPER
    let due : Prop := mode ∈ [2, 3] ∧ (s.chan ch).state ≠ .off ∧ per ≠ 0 ∧ s.now % 8 = 0 ∧ ∀ e, (s.chan ch).reqK = some e → e + 8 * per ≤ s.now
    (due → (s.chan ch).frameRun = none → (s.chan ch).busyTill ≤ s.now →
      s.Gives (.frameRequest ch) (s.setChan ch { s.chan ch with frameRun := some s.now, reqK := some s.now })) ∧
    (due → (s.chan ch).frameRun.isSome = true ∨ s.now < (s.chan ch).busyTill →
      s.Leads (.frameRequest ch) (fun t => t.chan ch = { s.chan ch with reqK := some s.now } ∧
        t.fld (R.PCERR ch) R.PCERR_REQSKIP = min 255 (s.fld (R.PCERR ch) R.PCERR_REQSKIP + 1))) ∧
    (¬due → s.Gives (.frameRequest ch) s) ∧
    (∀ k0, let u := s.advance k
      let x := u.chan ch
      let m := u.fld (R.PCCTL ch) R.PCCTL_MODE
      let n := u.fld (R.PCABS ch) R.PCABS_POSBITS
      let lim := u.fld (R.PCABS2 ch) R.PCABS2_BADLIM
      let jump := u.fld (R.PCJUMP ch) R.PCJUMP_LIMIT
      let pos := bitsVal (f.bits.take n)
      x.frameRun = some k0 →
      (m = 2 → x.state ∈ [ChState.sync, .track] → u.fld (R.PCABS ch) R.PCABS_LEAD = 0 → u.fld (R.PCABS ch) R.PCABS_GRAY = 0 →
        u.fld (R.PCABS ch) R.PCABS_PAR = 0 → f.idle = true →
        ((∀ p, x.lastGood = some p → jump = 0 ∨ ∀ d, isWrapped n (pos - p) d → d.natAbs ≤ jump) →
          s.Leads (.encoderFrame ch k f) (fun t => (t.chan ch).state = .track ∧ (t.chan ch).count = pos ∧ (t.chan ch).raw = pos ∧
            (t.chan ch).edgeK = k0 + u.fld (R.PCABS2 ch) R.PCABS2_SAMPDLY ∧ (t.chan ch).badRun = 0 ∧ (t.chan ch).frmstat = 0 ∧
            (t.chan ch).lastGood = some pos ∧ (t.chan ch).frameRun = none ∧
            (t.chan ch).busyTill = k + 200 * u.fld (R.PCABS2 ch) R.PCABS2_TMO)) ∧
        ((∃ p d, x.lastGood = some p ∧ jump ≠ 0 ∧ isWrapped n (pos - p) d ∧ jump < d.natAbs) →
          s.Leads (.encoderFrame ch k f) (fun t => ChannelFaulted u t ch 7))) ∧
      (∀ code, m ∈ [2, 3] →
        f.idle = false ∧ code = 5 ∨ m = 3 ∧ f.idle = true ∧ f.ack = false ∧ code = 3 ∨
          m = 3 ∧ f.idle = true ∧ f.ack = true ∧ f.start = false ∧ code = 4 →
        let counted (t : State) : Prop := (t.chan ch).frmstat = code ∧
          t.fld (R.PCERR ch) R.PCERR_BADFRM = min 255 (u.fld (R.PCERR ch) R.PCERR_BADFRM + 1)
        (x.state ∈ [ChState.sync, .track] → x.badRun + 1 < (if lim = 0 then 3 else lim) →
          s.Leads (.encoderFrame ch k f) (fun t => counted t ∧ (t.chan ch).badRun = x.badRun + 1 ∧ (t.chan ch).state = x.state ∧
            (t.chan ch).count = x.count)) ∧
        (x.state ∈ [ChState.sync, .track] → f.start = false ∨ m = 2 → (if lim = 0 then 3 else lim) ≤ x.badRun + 1 →
          s.Leads (.encoderFrame ch k f) (fun t => counted t ∧ ChannelFaulted u t ch 5)) ∧
        (x.state = .fault → s.Leads (.encoderFrame ch k f) (fun t => counted t ∧ (t.chan ch).state = .fault ∧
          (t.chan ch).count = x.count))))

/-- R84-R86: a sin/cos sample in the window moves the count to periods × 2^INTERP plus the top bits of the angle (its rounding is assumption
22, that of the amplitude assumption 89, both DESIGN CHOICE); SYNC ends with the 16th such sample in succession; the fourth in succession
below AMIN or above AMAX, and a step of 90° or more, fault the channel; in FAULT only the amplitude follows. -/
def Obligations.SinCosSamplesAreTaken : Prop :=
  ∀ (s : State) ch k (sn cs : Int) (clip : Bool), ch < s.variant.nLocal →
    let u := s.advance k
    let x := u.chan ch
    let p := u.sincosPair ch sn cs
    let ang := u.sincosAngle ch p
    let whole := sincosAmp p
    let low := whole < u.fld (R.PCSC ch) R.PCSC_AMIN
    let high := clip = true ∨ u.fld (R.PCSC ch) R.PCSC_AMAX < whole
    let n := u.fld (R.PCSC ch) R.PCSC_INTERP
    let does := s.Leads (.sincosSample ch k sn cs clip)
    let amp (t : State) : Prop := (t.chan ch).amp = min whole 255
    let calm : Prop := (low → x.lowRun < 3) ∧ (high → x.highRun < 3)
    u.fld (R.PCCTL ch) R.PCCTL_MODE = 4 → x.angle < 65536 → ∀ d, isWrapped 16 ((ang : Int) - x.angle) d →
    (x.state ∈ [ChState.sync, .track] → low → 3 ≤ x.lowRun → does (fun t => ChannelFaulted u t ch 8 ∧ amp t)) ∧
    (x.state ∈ [ChState.sync, .track] → ¬low → high → 3 ≤ x.highRun → does (fun t => ChannelFaulted u t ch 9 ∧ amp t)) ∧
    (x.state = .track ∨ x.state = .sync ∧ x.sampled = true → calm → 16384 ≤ d.natAbs → does (fun t => ChannelFaulted u t ch 10 ∧ amp t)) ∧
    (x.state = .sync → calm → (x.sampled = true → d.natAbs < 16384) →
      (low ∨ high ∨ x.goodRun < 15 → does (fun t => (t.chan ch).state = .sync ∧ (t.chan ch).count = x.count ∧ amp t ∧
        (t.chan ch).goodRun = (if low ∨ high then 0 else x.goodRun + 1) ∧ (t.chan ch).angle = ang)) ∧
      (¬low → ¬high → 15 ≤ x.goodRun → 2 ≤ n → n ≤ 10 → does (fun t => (t.chan ch).state = .track ∧ (t.chan ch).cause = 0 ∧ amp t ∧
        (t.chan ch).angle = ang ∧ (t.chan ch).count = ((ang / 2 ^ (16 - n) : Nat) : Int)))) ∧
    (x.state = .track → calm → d.natAbs < 16384 → 2 ≤ n → n ≤ 10 →
      does (fun t => (t.chan ch).state = .track ∧ (t.chan ch).angle = ang ∧ amp t ∧ (t.chan ch).edgeK = k - 25 ∧
        65536 * (t.chan ch).periods + ang = 65536 * x.periods + x.angle + d ∧
        isWrapped 40 ((t.chan ch).periods * 2 ^ n + (ang / 2 ^ (16 - n) : Nat)) (t.chan ch).count ∧
        (t.chan ch).frac = ang * 2 ^ n / 256 % 256)) ∧
    (x.state = .fault → does (fun t => amp t ∧ (t.chan ch).state = .fault ∧ (t.chan ch).count = x.count ∧ (t.chan ch).cause = x.cause)) ∧
    (x.state = .off → s.Gives (.sincosSample ch k sn cs clip) u)

/-- R87-R89, R109, R110: EN switches the comparator. A rise whose output stays high MZFILT µs, outside the blanking time of the one before, is
a crossing: the first only starts a period; one in range is measured, and in TRACK it is used by timebase 28, which counts the cycles that
fit; one out of range is only marked. The loss of the mains faults timebase 28 with its word held. -/
def Obligations.MainsIsMeasured : Prop :=
  ∀ (s : State) r k (rise stamp : Int) (high : Nat),
    let u := s.advance k
    let x := u.mains
    let st := stamp + sx 24 (u.fld R.MZSKEW R.MZSKEW_SKEW)
    let crossing : Prop := 200 * u.fld R.MZCTL R.MZCTL_MZFILT ≤ high ∧
      ∀ r0, x.riseK = some r0 → 20000 * (u.fld R.MZCTL R.MZCTL_MZBLANK : Int) ≤ rise - r0
    let period (p : Nat) : Prop := ∃ r0, x.refK = some r0 ∧ st = r0 + p
    let inRange (p : Nat) : Prop := 200 * u.fld R.MZWIN R.MZWIN_PMIN ≤ p ∧ p ≤ 200 * u.fld R.MZWIN R.MZWIN_PMAX
    let does := s.Leads (.mainsCrossing k rise stamp high)
    (s.mains.state = .off →
      s.Does r R.MZCTL (R.MZCTL_EN.put (s.rd R.MZCTL) 1) (.mainsEnable r) (fun t =>
        t.mains.state = .sync ∧ t.fld R.MZSTAT R.MZSTAT_STATE = 1 ∧ t.fld R.MZCTL R.MZCTL_EN = 1 ∧ (t.tb 28).state = .run ∧
        t.fld (R.IRQCNT 0x90) R.IRQCNT_COUNT = min 15 (s.fld (R.IRQCNT 0x90) R.IRQCNT_COUNT + 1))) ∧
    (s.mains.state ≠ .off →
      s.Does r R.MZCTL (R.MZCTL_EN.put (s.rd R.MZCTL) 0) (.mainsDisable r) (fun t =>
        t.mains.state = .off ∧ t.fld R.MZSTAT R.MZSTAT_STATE = 0 ∧ (t.tb 28).state = .off ∧ (t.tb 28).word = (s.tb 28).word)) ∧
    (x.state = .off ∨ ¬crossing → s.Gives (.mainsCrossing k rise stamp high) u) ∧
    (x.state ≠ .off → crossing → x.refK = none → does (fun t => t.mains.refK = some st ∧ t.mains.riseK = some rise ∧
      t.mains.state = x.state ∧ t.rd R.MZPER = u.rd R.MZPER ∧ t.tb 28 = u.tb 28)) ∧
    (∀ p, x.state = .track → crossing → period p → inRange p → 0 < p →
      does (fun t => t.rd R.MZPER = BitVec.ofNat 32 p ∧ t.mains.state = .track ∧
        t.mains.refK = some st ∧ t.mains.useK = some st ∧ t.mains.useP = p ∧ (t.tb 28).state = .run ∧ (t.tb 28).ref = true ∧
        (t.tb 28).vel = (2 ^ 48 / p : Nat) ∧
        (∀ s0, x.useK = some s0 → 0 < x.useP →
          let n := max ((2 * (st - s0) + x.useP) / (2 * x.useP)) 1
          t.mains.cycle = x.cycle + n ∧ (t.tb 28).discgen = (if 1 < n then ((u.tb 28).discgen + 1) % 256 else (u.tb 28).discgen)))) ∧
    (∀ p, x.state ∈ [MzState.sync, .lost] → crossing → period p → inRange p → 0 < p → 1 ≤ x.runLen →
      does (fun t => t.mains.state = .track ∧ t.fld R.MZSTAT R.MZSTAT_STATE = 2 ∧ t.mains.useK = some st ∧ (t.tb 28).ref = true ∧
        (x.useK = none → t.mains.cycle = x.cycle ∧ (t.tb 28).discgen = (u.tb 28).discgen) ∧
        (x.useK.isSome = true → (t.tb 28).discgen = ((u.tb 28).discgen + 1) % 256))) ∧
    (∀ p, x.state ≠ .off → crossing → period p → ¬inRange p →
      does (fun t => t.fld R.MZSTAT R.MZSTAT_OUTRANGE = 1 ∧ t.mains.state = x.state ∧
        t.mains.useK = x.useK ∧ t.mains.runLen = 0 ∧ t.tb 28 = u.tb 28)) ∧
    (x.state ∈ [MzState.sync, .track] → u.fld R.MZLOSS R.MZLOSS_LOSS ≠ 0 → x.sinceK + 8 * u.fld R.MZLOSS R.MZLOSS_LOSS ≤ k →
      s.Leads (.mainsLoss k) (fun t => t.mains.state = .lost ∧ t.fld R.MZSTAT R.MZSTAT_STATE = 3 ∧
        ((u.tb 28).state = .run → (t.tb 28).state = .fault ∧ (t.tb 28).cause = 2 ∧ (t.tb 28).word = (u.tb 28).word)))

/-! ### Timebases and captures -/

/-- R54, R114, R115: a timebase command of its kind is accepted for the next boundary, with the word as it is until then; otherwise WSTAT
says why: KIND, BUSY, COND, NOTNOW, ABSENT or ORDER. A command of the Staff port at the edge of a core's takes the place of the core's
(that the CCLK of R114 is the edge is assumption 91, DESIGN CHOICE). -/
def Obligations.TimebaseCommandsWaitForTheBoundary : Prop :=
  ∀ (s : State) r i, i < 32 → s.variant.hasTb i = true →
    let x := s.tb i
    let k := s.kind i
    let w := s.asker r
    let taken (t : State) (cmd newsrc : Nat) : Prop := (t.tb i).wstat = 0 ∧ (t.tb i).word = x.word ∧ (t.tb i).cmd =
      some { cmd := cmd, newsrc := newsrc, dueK := (s.now / 8 + 1) * 8, atK := s.now, who := w.id, guard := w.guard, ring := w.ring }
    let refused (t : State) (code : Nat) : Prop := t.tb i = { x with wstat := code }
    let busy : Prop := ∃ c, x.cmd = some c ∧ ¬(r = .staff ∧ c.who ≠ 5 ∧ c.atK = s.now)
    (∀ row cmd kinds, TbRow row cmd kinds →
      let does := s.Does r (R.TBCMD i) (R.TBCMD_CMD.put 0 cmd) (row r i)
      (k ∈ kinds → ¬busy → (cmd = 1 ∨ cmd = 3 → x.state = .run ∧ ¬s.awaitsHandover i) → does (fun t => taken t cmd 0)) ∧
      (k ∉ kinds → does (fun t => refused t 1)) ∧
      (k ∈ kinds → busy → does (fun t => refused t 3)) ∧
      (k ∈ kinds → ¬busy → cmd = 1 ∨ cmd = 3 → s.awaitsHandover i → does (fun t => refused t 3)) ∧
      (k ∈ kinds → ¬busy → cmd = 1 ∨ cmd = 3 → ¬s.awaitsHandover i → x.state ≠ .run → does (fun t => refused t 2))) ∧
    (∀ row cmd n, SwitchRow row cmd → n < 32 →
      let does := s.Does r (R.TBCMD i) (R.TBCMD_NEWSRC.put (R.TBCMD_CMD.put 0 cmd) n) (row r i n)
      (k ≠ 1 → k ≠ 3 → does (fun t => refused t 1)) ∧
      (k = 1 ∨ k = 3 → busy → does (fun t => refused t 3)) ∧
      (k = 1 ∨ k = 3 → ¬busy → cmd = 6 → s.mode ≠ .prepare → does (fun t => refused t 7)) ∧
      (¬busy → (cmd = 6 → s.mode = .prepare) →
        (k = 1 → s.variant.nLocal ≤ n → does (fun t => refused t 4)) ∧
        (k = 1 → n < s.variant.nLocal → (s.chan n).state ∈ [ChState.off, .fault] → does (fun t => refused t 2)) ∧
        (k = 1 → n < s.variant.nLocal → (s.chan n).state ∈ [ChState.sync, .track] → does (fun t => taken t cmd n)) ∧
        (k = 3 → s.variant.hasTb n = false → does (fun t => refused t 4)) ∧
        (k = 3 → s.variant.hasTb n = true → s.kind n = 3 → i ≤ n → does (fun t => refused t 5)) ∧
        (k = 3 → s.variant.hasTb n = true → (s.kind n = 3 → n < i) → does (fun t => taken t cmd n))))

/-- R92, R108, R114-R117: at its boundary a command sets, shifts or switches the word, as a discontinuity or not, or changes the reference,
with that of the virtual timebases that follow it; one whose timebase or source has meanwhile stopped is dropped with COND. (That TBSET is
read at the boundary is assumption 90, DESIGN CHOICE.) -/
def Obligations.TimebaseCommandsTakeEffect : Prop :=
  ∀ (s : State) i c, i < 32 → (s.tb i).cmd = some c → c.dueK ≤ s.now →
    let x := s.tb i
    let k := s.kind i
    let v := sx 48 ((s.rd (R.TBSETL i)).toNat + 2 ^ 32 * s.fld (R.TBSETH i) R.TBSETH_VALUE)
    let does := s.Leads (.timebaseCommandEffect i)
    let jumped (t : State) : Prop := (t.tb i).discgen = (x.discgen + 1) % 256 ∧ (t.tb i).disc = true
    let followed (t : State) (ref : Bool) : Prop := ∀ j, 16 ≤ j → j < 28 → s.kind j = 3 → (s.tb j).src = i → (t.tb j).ref = ref
    let dead := if k = 1 then (s.chan c.newsrc).state ∈ [ChState.off, .fault] else (s.tb c.newsrc).state ≠ .run
    (c.cmd = 1 → x.state = .run → does (fun t => (t.tb i).cmd = none ∧ s.isWord i v (t.tb i).word ∧ jumped t ∧
      (k ≠ 3 → (t.tb i).ref = true ∧ followed t true) ∧ (k = 3 → (t.tb i).ref = x.ref))) ∧
    (c.cmd = 3 → x.state = .run →
      does (fun t => (t.tb i).cmd = none ∧ s.isWord i (x.word + v) (t.tb i).word ∧ jumped t ∧ (t.tb i).ref = x.ref)) ∧
    (c.cmd = 1 ∨ c.cmd = 3 → x.state ≠ .run → does (fun t => t.tb i = { x with cmd := none, wstat := 2 })) ∧
    (c.cmd = 2 → k ≠ 3 → does (fun t => t.tb i = { x with cmd := none, ref := true } ∧ followed t true)) ∧
    (c.cmd = 4 → k ≠ 3 → does (fun t => t.tb i = { x with cmd := none, ref := false } ∧ followed t false)) ∧
    (c.cmd = 5 ∨ c.cmd = 6 → dead → does (fun t => t.tb i = { x with cmd := none, wstat := 2 })) ∧
    (c.cmd = 5 → ¬dead → k = 1 ∨ k = 3 → does (fun t => (t.tb i).cmd = none ∧ (t.tb i).src = c.newsrc ∧ (t.tb i).word = x.word ∧
      (t.tb i).discgen = x.discgen ∧ (k = 1 → (t.tb i).ref = x.ref))) ∧
    (c.cmd = 6 → ¬dead → k = 1 ∨ k = 3 →
      does (fun t => (t.tb i).cmd = none ∧ (t.tb i).src = c.newsrc ∧ jumped t ∧
        (k = 1 → s.isWord i (256 * (s.chan c.newsrc).count + (s.chan c.newsrc).frac) (t.tb i).word ∧ (t.tb i).ref = false) ∧
        (k = 3 → s.eff (R.TBGDEN i) ≠ 0 → s.isWord i ((s.tb c.newsrc).prev * (s.eff (R.TBGNUM i)).toInt / (s.eff (R.TBGDEN i)).toNat)
          (t.tb i).word)))

/-- R95, R96, R104, R107, R108, R111-R113: KIND starts or stops a flexible timebase, in PREPARE or while it does not run; a virtual one never
follows a virtual of equal or higher index; moduli, ratios and rates read back at once and count from the next boundary; slews, steps and
the owner of wall time are taken unless another unit owns it. (The code of a virtual that would follow such a one is assumption 101, DESIGN
CHOICE.) (NOTNOW for a KIND in RUN is assumption 100, DESIGN CHOICE.) -/
def Obligations.TimebaseRegistersAreWritten : Prop :=
  ∀ (s : State) r i (v : Word), i < 32 → s.variant.hasTb i = true →
    let x := s.tb i
    let k := s.kind i
    let has := k ∈ [1, 3, 4, 6]
    let late (t : State) (a : Nat) : Prop := t.rd a = v ∧ t.eff a = s.eff a ∧ (t.tb i).wstat = 0
    let refused (t : State) (a code : Nat) : Prop := t.rd a = s.rd a ∧ t.tb i = { x with wstat := code }
    let owner := s.fld R.WALLCTL R.WALLCTL_OWNER
    let wall (t : State) (code : Nat) : Prop := t.fld R.WALLCTL R.WALLCTL_WSTAT = code
    (16 ≤ i → i < 28 → R.TBCFG_KIND.get v ≠ k →
      let does := s.Does r (R.TBCFG i) v (.tbcfgKindWrite r i v)
      let free := s.mode = .prepare ∨ x.state ≠ .run
      let follows := s.variant.hasTb x.src = true ∧ (s.kind x.src = 3 → x.src < i)
      let started (t : State) : Prop := t.kind i = R.TBCFG_KIND.get v ∧ (t.tb i).wstat = 0 ∧ (t.tb i).state = .run ∧ (t.tb i).cause = 0
      (R.TBCFG_KIND.get v = 2 → s.variant.enward = true → free →
        does (fun t => started t ∧ (t.tb i).ref = false ∧ (t.tb i).src = i - 16 ∧ t.fld (R.TBCFG i) R.TBCFG_SRC = i - 16)) ∧
      (R.TBCFG_KIND.get v = 3 → follows → free → does (fun t => started t ∧ (t.tb i).src = s.fld (R.TBCFG i) R.TBCFG_SRC)) ∧
      (R.TBCFG_KIND.get v = 3 → ¬follows → does (fun t => refused t (R.TBCFG i) 5)) ∧
      (R.TBCFG_KIND.get v = 0 → free →
        does (fun t => t.kind i = 0 ∧ (t.tb i).state = .off ∧ (t.tb i).word = x.word ∧ (t.tb i).wstat = 0)) ∧
      (R.TBCFG_KIND.get v = 0 → ¬free → does (fun t => t.rd (R.TBCFG i) = s.rd (R.TBCFG i) ∧ (t.tb i).wstat ≠ 0 ∧ (t.tb i).state = .run))) ∧
    (R.TBCFG_KIND.get v ≠ k → i < 16 ∨ 28 ≤ i → s.Does r (R.TBCFG i) v (.tbcfgKindWrite r i v) (fun t => refused t (R.TBCFG i) 1)) ∧
    (has → s.mode = .prepare → s.Does r (R.TBMOD i) v (.tbmodWrite r i v) (fun t => late t (R.TBMOD i))) ∧
    (has → s.mode ≠ .prepare → s.Does r (R.TBMOD i) v (.tbmodWrite r i v) (fun t => refused t (R.TBMOD i) 7)) ∧
    (¬has → s.Does r (R.TBMOD i) v (.tbmodWrite r i v) (fun t => refused t (R.TBMOD i) 1)) ∧
    (k = 3 → v ≠ 0 → s.Does r (R.TBGDEN i) v (.tbgdenWrite r i v) (fun t => late t (R.TBGDEN i))) ∧
    (k = 3 → v = 0 → s.Does r (R.TBGDEN i) v (.tbgdenWrite r i v) (fun t => refused t (R.TBGDEN i) 2)) ∧
    (k ≠ 3 → s.Does r (R.TBGDEN i) v (.tbgdenWrite r i v) (fun t => refused t (R.TBGDEN i) 1)) ∧
    (k = 6 → s.Does r (R.TBSYNVEL i) v (.tbsynvelWrite r i v) (fun t => late t (R.TBSYNVEL i))) ∧
    (k ≠ 6 → s.Does r (R.TBSYNVEL i) v (.tbsynvelWrite r i v) (fun t => refused t (R.TBSYNVEL i) 1)) ∧
    (owner ∉ [1, 2] →
      s.Does r R.WADJ v (.wadjWrite r v) (fun t => t.wall = { s.wall with adj := v.toInt } ∧ wall t 0) ∧
      s.Does r R.WSTEPL v (.registerWrite r (BitVec.ofNat 32 R.WSTEPL) .word v) (fun t => t.rd R.WSTEPL = v ∧ t.wall = s.wall ∧ wall t 0) ∧
      (s.wall.step = none → s.Does r R.WSTEPH v (.wstephWrite r v) (fun t => wall t 0 ∧
        t.wall = { s.wall with step := some (sx 64 ((s.rd R.WSTEPL).toNat + 2 ^ 32 * v.toNat)) })) ∧
      (s.wall.step ≠ none → s.Does r R.WSTEPH v (.wstephWrite r v) (fun t => t.wall = s.wall ∧ wall t 3))) ∧
    (owner ∈ [1, 2] → s.Does r R.WADJ v (.wadjWrite r v) (fun t => t.wall = s.wall ∧ wall t 6) ∧
      s.Does r R.WSTEPL v (.registerWrite r (BitVec.ofNat 32 R.WSTEPL) .word v) (fun t => t.rd R.WSTEPL = s.rd R.WSTEPL ∧ wall t 6) ∧
      s.Does r R.WSTEPH v (.wstephWrite r v) (fun t => t.wall = s.wall ∧ wall t 6)) ∧
    (R.WALLCTL_OWNER.get v = owner → s.Does r R.WALLCTL v (.wallctlWrite r v) (fun t => wall t 0 ∧
      t.fld R.WALLCTL R.WALLCTL_OWNER = owner ∧
      t.fld R.WALLCTL R.WALLCTL_WRATE = (if R.WALLCTL_WRATE.get v = 0 then 1 else R.WALLCTL_WRATE.get v))) ∧
    (R.WALLCTL_OWNER.get v ≠ owner → (s.asker r).priv = false → s.Does r R.WALLCTL v (.wallctlWrite r v) (fun t => wall t 1 ∧
      t.fld R.WALLCTL R.WALLCTL_OWNER = owner)) ∧
    (R.WALLCTL_OWNER.get v ∈ [0, 3] → owner ≠ R.WALLCTL_OWNER.get v → (s.asker r).priv = true → s.en.state = .down →
      s.Does r R.WALLCTL v (.wallctlWrite r v) (fun t => wall t 0 ∧ t.fld R.WALLCTL R.WALLCTL_OWNER = R.WALLCTL_OWNER.get v))

/-- R20, R98, R102, R111, R120, R121: standstill and stale samples stop a word's velocity or its extrapolation; a capture fills the lowest free
bank with every word, or is counted as lost; a boundary commits what waited for it, and moves wall time by at most WRATE. -/
def Obligations.CapturesAndBoundaries : Prop :=
  ∀ (s : State) r,
    (∀ i k, i < 32 →
      let u := s.advance k
      let x := u.tb i
      (x.state = .run → u.kind i ∈ [1, 2, 4] → x.still = false → (u.kind i = 1 ∧ u.chMode x.src = 1 → x.steps.headD 0 + u.stillPs i ≤ k) →
        (¬(u.kind i = 1 ∧ u.chMode x.src = 1) → x.zeroK + u.stillPs i ≤ k ∧ x.vel = 0) →
        s.Leads (.standstill i k) (fun t => t.tb i = { x with still := true, vel := 0 } ∧
          (u.fld (R.TBCFG i) R.TBCFG_EVSTILL = 1 → s.variant.hasTb i = true →
            t.fld (R.IRQCNT (0x20 + i)) R.IRQCNT_COUNT = min 15 (u.fld (R.IRQCNT (0x20 + i)) R.IRQCNT_COUNT + 1)))) ∧
      (u.kind i ∉ [1, 2, 4] → s.Gives (.standstill i k) u) ∧
      (∀ t0 v rest, x.samples = (t0, v) :: rest → x.state = .run → u.kind i = 1 → u.chMode x.src ≠ 1 →
        t0 + (if u.chMode x.src = 4 then 160 else 32 * u.fld (R.PCREQ x.src) R.PCREQ_REQPER : Nat) ≤ (k : Int) →
        s.Gives (.extrapolationStale i k) (u.setTb i { x with stale := true }))) ∧
    ((∀ e, (s.now + 1, e) ∉ s.capAt) →
      (∀ b, b < 4 → (s.caps.get .reset b).full = false → (∀ j, j < b → (s.caps.get .reset j).full = true) →
        s.Does r R.CAPCMD 1 (.capcmdGo r) (fun t =>
          let n := if (s.capSeq + 1) % 2 ^ 32 = 0 then 1 else (s.capSeq + 1) % 2 ^ 32
          (t.caps.get .reset b).full = true ∧ (t.caps.get .reset b).seq = n ∧ (t.caps.get .reset b).src2 = 1 ∧
          (t.caps.get .reset b).wall = s.wallAt (s.now + 1) ∧
          (∀ i, i < 32 → s.variant.hasTb i = true → ((t.caps.get .reset b).words.getD i (0, 0, 0)).1 = (s.tb i).word) ∧
          (∀ i, i < 32 → s.variant.hasTb i = false → (t.caps.get .reset b).words.getD i (1, 1, 1) = (0, 0, 0)) ∧
          t.fld R.CAPSTAT R.CAPSTAT_LASTREF = 0 ∧ t.fld R.CAPSTAT R.CAPSTAT_LAST = b)) ∧
      ((∀ b, b < 4 → (s.caps.get .reset b).full = true) →
        s.Does r R.CAPCMD 1 (.capcmdGo r) (fun t => t.caps = s.caps ∧ t.fld R.CAPSTAT R.CAPSTAT_LASTREF = 1 ∧
          t.fld R.CAPSTAT R.CAPSTAT_CAPLOST = min 255 (s.fld R.CAPSTAT R.CAPSTAT_CAPLOST + 1)))) ∧
    (∀ mask : Word, s.Does r R.CAPFREE mask (.capfreeWrite r mask) (fun t => ∀ b, b < 4 →
      t.caps.get .reset b = { s.caps.get .reset b with full := (s.caps.get .reset b).full && !mask.getLsbD b })) ∧
    (s.clocks = true → s.Leads .pinEpochBoundary (fun t => t.now = (s.now / 8 + 1) * 8 ∧ t.wall.step = none ∧
      (∀ l, l < 64 → t.rd (R.EVCFG l) = s.rd (R.EVCFG l) ∧ t.eff (R.EVCFG l) = s.rd (R.EVCFG l)) ∧
      t.eff R.ESTOPCFG = s.rd R.ESTOPCFG ∧
      (let n : Int := s.fld R.WALLCTL R.WALLCTL_WRATE
       t.wall.adj = s.wall.adj - max (-n) (min n s.wall.adj)) ∧ t.wall.baseK = t.now))

/-! ### The Timetable and the Syllabus -/

/-- R123-R132, R135, R136, R166, R232, R548: ARM and TTNEW take a period into the lowest free slot of the pool whose status is settled, when
every check passes; the result word gives the slot and the outcome: armed, armed behind its position, to be fired late, or to be skipped. What
a check refuses is answered with its code, and no slot changes. DISARM ends a slot of its requester's that does not cross meanwhile. -/
def Obligations.PeriodsAreArmed : Prop :=
  ∀ (s : State) (p : Period) (w : Who),
    let answered (res : Nat) (P : State → Prop) : Prop :=
      (∀ r, s.asker r = w →
        (let n (j : Nat) : Nat := (s.rdReq w.id (R.TTNEW j)).toNat
         Period.ofWords (n 0) (n 1) (n 2) (n 3) = p) →
        s.Does r R.TTNEWGO (R.TTNEWGO_GO.put 0 1) (.ttnewgo r) (fun t => t.rdReq w.id R.TTRES = BitVec.ofNat 32 res ∧ P t)) ∧
      (∀ l, s.who l = w → s.Ready l → s.Handy l false 1 1 →
        let a := (wAt (s.held l false) 0).toNat
        (∀ j, j < 4 → s.Loads l (a + 4 * j) 4) →
        Period.ofWords (s.value l 4 a) (s.value l 4 (a + 4)) (s.value l 4 (a + 8)) (s.value l 4 (a + 12)) = p →
        s.Leads (.arm l) (fun t => t.core l = s.restack l false 1 [BitVec.ofNat 32 res] (s.next l) ∧ P t))
    let refused (code : Nat) : Prop := answered (256 * code + 2 ^ 31) (fun t => t.slots = s.slots)
    let ended (t : State) (i st : Nat) : Prop := (t.slot i).a.state = 0 ∧ (t.slot i).b.state = 0 ∧ (t.slot i).status = st
    let entitled := w.isStaff = true ∨ w.ring ≤ 1
    let active := s.mode ∈ [Mode.prepare, .run, .hold]
    (∀ i, s.ArmPasses w p i →
      let held (late : Bool) (t : State) : Prop := HoldsPeriod t i w p ∧ (t.slot i).late = late ∧ (t.slot i).armedK = s.now + 1
      (p.stg = 1 ∨ s.isAhead p → answered i (held false)) ∧
      (p.stg = 0 → ¬s.isAhead p → p.behind = 0 → answered (i + 4096) (held false)) ∧
      (p.stg = 0 → ¬s.isAhead p → p.behind = 1 →
        (s.mode = .hold ∨ p.latepol = 0 → answered (i + 8192) (held true)) ∧
        (s.mode ≠ .hold → p.latepol = 1 → answered (i + 12288) (held true)))) ∧
    (¬entitled → refused 5) ∧
    (entitled → ¬active → refused 2) ∧
    (entitled → active → p.dirq = 0 ∨ p.act = 0 ∨ 12 < p.act → refused 3) ∧
    (entitled → active → p.dirq ≠ 0 → 1 ≤ p.act → p.act ≤ 10 → s.variant.hasTb p.tb = false → refused 4) ∧
    (∀ r i, s.asker r = w → i < 32 →
      let x := s.slot i
      let own := w.priv = true ∨ x.req = w.id ∧ x.guard = w.guard
      let does := s.Does r R.TTCMD (R.TTCMD_SLOT.put (R.TTCMD_CMD.put 0 1) i) (.disarm r i)
      (entitled → x.a.state ≠ 0 → own → s.firesNext i = false → does (fun t => ended t i 6 ∧ t.rdReq w.id R.TTRES = BitVec.ofNat 32 i)) ∧
      (entitled → x.a.state = 0 ∨ own ∧ s.firesNext i = true →
        does (fun t => t.slots = s.slots ∧ t.rdReq w.id R.TTRES = BitVec.ofNat 32 (256 * 8 + 2 ^ 31))) ∧
      (entitled → x.a.state ≠ 0 → ¬own →
        does (fun t => t.slots = s.slots ∧ t.rdReq w.id R.TTRES = BitVec.ofNat 32 (256 * 5 + 2 ^ 31))))

/-- R31-R33, R130-R133, R137, R139, R140, R143, R144: at edge `k`, after the slots below it, a slot whose crossing test succeeds fires, is gated
in HOLD and in PREPARE, and any other is only evaluated; one that was reached late is fired late, skipped or gated. The word compared and
the instant are kept: at most a PSCLK before the edge, and k itself when late. A raw edge is placed one PSCLK on, and an edge lands when its
time has come; a step then lasts its width. (The order of the events of one edge is assumption 95, DESIGN CHOICE.) -/
def Obligations.CrossingsFire : Prop :=
  ∀ (s : State) k,
    (∀ i, i < 32 →
      let u := (s.advance k).evalBelow i
      let x := u.slot i
      let c := x.a
      let p := c.per
      let tb := u.tb p.tb
      let d := (if c.down then -1 else 1) * diffSpan (u.span p.tb) tb.prev p.posInt
      let crosses := c.primed = true ∧ c.dp < 0 ∧ 0 ≤ d ∧ 2 * (d - c.dp) < u.span p.tb
      let freed (t : State) (st : Nat) : Prop := (t.slot i).a.state = 0 ∧ (t.slot i).b.state = 0 ∧ (t.slot i).status = st
      let sent (t : State) : Prop := ∃ a ∈ t.acts, a.slot = i ∧ a.op = .irq (0x60 + p.arg % 16) ∧ a.due = (k + 1) / 2 * 2 + 2
      let held (t : State) : Prop := (t.slot i).a.state = 3 ∧ (t.slot i).status = 5
      u.now = k → c.state = 2 → x.a = x.b → x.evalK < k →
      (x.late = false → tb.pdisc = false → c.noDir = false → c.xinv = false →
        let fires (P : State → Prop) : Prop := s.Leads (.crossing i k) (fun t => (t.slot i).a.cap = tb.prev ∧
          (∃ q : Nat, q ≤ 4 ∧ (t.slot i).whenT = wrapN 72 ((u.wallAt (k - 1) : Int) - 64 * q)) ∧ (t.slot i).latef = false ∧ P t)
        (crosses → u.mode = .hold → fires held) ∧
        (crosses → u.mode = .prepare → p.act ≤ 5 → fires (fun t => freed t 5 ∧ t.lines = u.lines ∧ t.gens = u.gens)) ∧
        (crosses → u.mode ∈ [Mode.prepare, .run] → p.act = 7 → fires (fun t => freed t 2 ∧ sent t)) ∧
        (crosses → u.mode = .run → p.act = 1 ∨ p.act = 2 → p.arg / 64 % 2 = 1 →
          (let fd := (u.line (p.arg % 64)).fd
           fd.a.e0.v = false ∧ fd.b.e0.v = false) →
          fires (fun t => freed t 2 ∧ (t.slot i).rawpl = true ∧ (t.line (p.arg % 64)).fd.a.e0 =
            { v := true, lvl := decide (p.act = 1), tog := false, tap := 0, edge := k + 1, slot := i })) ∧
        (¬crosses → s.Leads (.crossing i k) (fun t => (t.slot i).a.state = 2 ∧ (t.slot i).a.per = p ∧ (t.slot i).evalK = k ∧
          (t.slot i).status = x.status ∧ (t.slot i).a.dp = d ∧
          ((t.slot i).a.primed = true ↔ d < -(p.hyst : Int) ∨ d < 0 ∧ c.primed = true)))) ∧
      (x.late = true →
        let fires (P : State → Prop) : Prop := s.Leads (.crossing i k) (fun t => (t.slot i).a.cap = tb.prev ∧
          (t.slot i).whenT = u.wallAt k ∧ (t.slot i).latef = true ∧ P t)
        (u.mode = .hold → fires held) ∧
        (u.mode ≠ .hold → p.latepol = 1 → fires (fun t => freed t 4 ∧
          t.fld R.TTLATECNT R.TTLATECNT_SKIP = min 65535 (u.fld R.TTLATECNT R.TTLATECNT_SKIP + 1))) ∧
        (u.mode = .prepare → p.latepol = 0 → p.act ≤ 5 → fires (fun t => freed t 5 ∧ t.lines = u.lines ∧ t.gens = u.gens)) ∧
        (u.mode ∈ [Mode.prepare, .run] → p.latepol = 0 → p.act = 7 → fires (fun t => freed t 3 ∧ sent t ∧
          t.fld R.TTLATECNT R.TTLATECNT_LATE = min 65535 (u.fld R.TTLATECNT R.TTLATECNT_LATE + 1))))) ∧
    (∀ l, l < 64 →
      let u := s.advance k
      let x := (u.line l).fd.a
      x.e0.v = true → x.e1.v = false →
      (x.e0.edge ≤ k → s.Leads (.outputEdge false l k) (fun t => (t.line l).fd.a.lvl = x.e0.lvl ∧ (t.line l).fd.a.e0.v = false)) ∧
      (k < x.e0.edge → s.Gives (.outputEdge false l k) u)) ∧
    (∀ g, g < 16 →
      let u := s.advance k
      let x := u.gen g
      (x.fd.a.e0.v = true → x.fd.a.e1.v = false → x.fd.a.lvl = false → x.fd.a.e0.edge ≤ k →
        s.Leads (.outputEdge true g k) (fun t => (t.gen g).fd.a.lvl = x.fd.a.e0.lvl ∧ (t.gen g).fd.a.e0.v = false ∧
          (t.gen g).stepEnd = 4 * x.fd.a.e0.edge + x.fd.a.e0.tap + 4 * (R.PTCFG_WIDTH.get (u.eff (R.PTCFG g)) + 1) ∧
          (t.gen g).count = x.count + (if x.dirOut then 1 else -1) ∧ (t.gen g).rem = x.rem - 1)) ∧
      (x.fd.a.e0.v = false → x.fd.a.e1.v = false → x.fd.a.lvl = true → x.stepEnd ≠ 0 → x.stepEnd / 4 ≤ k →
        s.Leads (.outputEdge true g k) (fun t => (t.gen g).fd.a.lvl = false ∧ (t.gen g).stepEnd = 0 ∧ (t.gen g).count = x.count)))

/-- R141, R146-R149, R168, R547: a live difference of a slot's copies ends the slot CMPFLT with its output safe, one of a fine-delay register
stops that output; one that is not live is counted once. TTINJ makes such differences; TTMEMBASE, TTRESV and TTQUOTA are
privileged. -/
def Obligations.TwinCopiesAreCompared : Prop :=
  ∀ (s : State),
    (∀ i, i < 32 →
      let x := s.slot i
      (x.a = x.b → s.Gives (.compareFault i) s) ∧
      (x.a.state = x.b.state → x.a.state ∈ [1, 2] → x.a.per.pos ≠ x.b.per.pos →
        s.Leads (.compareFault i) (fun t => (t.slot i).a.state = 0 ∧ (t.slot i).b.state = 0 ∧ (t.slot i).status = 15 ∧
          TimetableFaulted s t 1 i 0 1 ∧
          (1 ≤ x.a.per.act → x.a.per.act ≤ 3 → (t.line (x.a.per.arg % 64)).safed = true ∧
            (t.line (x.a.per.arg % 64)).fd.a.e0.v = false ∧ (t.line (x.a.per.arg % 64)).fd.a.e1.v = false) ∧
          (4 ≤ x.a.per.act → x.a.per.act ≤ 5 → (t.gen (x.a.per.arg % 16)).state = .stopped))) ∧
      (x.marked = false → x.a.per.stg ≠ x.b.per.stg →
        s.Leads (.latentDivergence i) (fun t => (t.slot i).marked = true ∧ (t.slot i).a = x.a ∧ (t.slot i).b = x.b ∧
          t.fld R.TTLATENT R.TTLATENT_COUNT = min 65535 (s.fld R.TTLATENT R.TTLATENT_COUNT + 1) ∧
          t.fld R.TTLATENT R.TTLATENT_SLOT = i)) ∧
      (x.marked = true → s.Gives (.latentDivergence i) s)) ∧
    (∀ l, l < 64 →
      ((s.line l).fd.a = (s.line l).fd.b → s.Gives (.fineDelayFault false l) s) ∧
      ((s.line l).fd.a.lvl ≠ (s.line l).fd.b.lvl →
        s.Leads (.fineDelayFault false l) (fun t => (t.line l).safed = true ∧ (t.line l).fd.a = (t.line l).fd.b ∧
          TimetableFaulted s t 2 l 0 14))) ∧
    (∀ g, g < 16 → (s.gen g).fd.a.lvl ≠ (s.gen g).fd.b.lvl →
      s.Leads (.fineDelayFault true g) (fun t => (t.gen g).state = .stopped ∧ (t.gen g).fdflt = true ∧
        TimetableFaulted s t 2 g 1 14)) ∧
    (∀ r (v : Word),
      let w := s.asker r
      let told (t : State) (code : Nat) : Prop := t.rdReq w.id R.TTRES = BitVec.ofNat 32 (256 * code + 2 ^ 31) ∧ t.slots = s.slots
      let i := R.TTINJ_SLOT.get v
      let f := R.TTINJ_FIELD.get v
      let b := R.TTINJ_BIT.get v
      let inj := s.Does r R.TTINJ v (.ttinj r v)
      (R.TTINJ_GO.get v = 1 → w.priv = false → inj (fun t => told t 5)) ∧
      (R.TTINJ_GO.get v = 1 → w.priv = true → s.mode ≠ .prepare → inj (fun t => told t 9)) ∧
      (R.TTINJ_GO.get v = 1 → w.priv = true → s.mode = .prepare →
        (f = 15 ∨ f = 1 ∧ 48 ≤ b → inj (fun t => told t 3)) ∧
        (f = 1 → b < 48 → inj (fun t => (t.slot i).a = (s.slot i).a ∧
          (t.slot i).b = { (s.slot i).b with per := { (s.slot i).b.per with pos := (s.slot i).b.per.pos ^^^ 2 ^ b } } ∧
          t.rdReq w.id R.TTRES = 0)) ∧
        (f = 14 → R.TTINJ_GEN.get v = 1 → 16 ≤ R.TTINJ_LINE.get v → inj (fun t => told t 3 ∧ t.gens = s.gens)) ∧
        (f = 14 → b = 0 → R.TTINJ_GEN.get v = 0 → let l := R.TTINJ_LINE.get v
          inj (fun t => (t.line l).fd.a = (s.line l).fd.a ∧
            (t.line l).fd.b = { (s.line l).fd.b with lvl := !(s.line l).fd.b.lvl } ∧ t.rdReq w.id R.TTRES = 0))) ∧
      (let base := 1024 * R.TTMEMBASE_BASE.get v
       (w.priv = true → 0x20000000 ≤ base → base < 0x20200000 →
         s.Does r R.TTMEMBASE v (.ttmembaseWrite r v) (fun t => t.rd R.TTMEMBASE = v &&& 0xFFFFFC01)) ∧
       (w.priv = true → ¬(0x20000000 ≤ base ∧ base < 0x20200000) →
         s.Does r R.TTMEMBASE v (.ttmembaseWrite r v) (fun t => t.rd R.TTMEMBASE = s.rd R.TTMEMBASE ∧ told t 3))) ∧
      (∀ n, n < 6 →
        (w.priv = true → s.Does r (R.TTQUOTA n) v (.ttresvWrite r (some n) v) (fun t => t.rd (R.TTQUOTA n) = v &&& 0x3F3F)) ∧
        (w.priv = false → s.Does r (R.TTQUOTA n) v (.ttresvWrite r (some n) v) (fun t => t.rd (R.TTQUOTA n) = s.rd (R.TTQUOTA n) ∧ told t 5))) ∧
      (w.priv = true → s.Does r R.TTRESV v (.ttresvWrite r none v) (fun t => t.rd R.TTRESV = v &&& 0x3F3F)) ∧
      (w.priv = false → s.Does r R.TTMEMBASE v (.ttmembaseWrite r v) (fun t => t.rd R.TTMEMBASE = s.rd R.TTMEMBASE ∧ told t 5)))

/-- R150-R165: BIND takes a free slot for its requester, START and QTAIL set the queue to its records, STOP, FLUSH, UNBIND and DROP end or
discard them, and what a rule forbids is answered RIGHTS, NOTNOW, BADCFG or BUSY with nothing else changed. A prefetch reads the record
after the one in the slot, which is checked at the two edges after it is taken; a refill arms it 11 PSCLK after that, or halts the queue; and a
report is written, when the bus is free for it, before HEAD passes its record. -/
def Obligations.QueuesServeTheirRecords : Prop :=
  ∀ (s : State) q, q < 16 →
    let x := s.queue q
    let sl := s.queueSlot q
    let lg := s.fld (R.QCFG q) R.QCFG_LOG2SIZE
    let size := 2 ^ lg
    let rep := s.fld (R.QCFG q) R.QCFG_REPEN
    let base := 16 * s.fld (R.QBASE q) R.QBASE_BASE
    let repBase := 8 * s.fld (R.QREP q) R.QREP_BASE
    let inRam (a n : Nat) : Prop := 0x20000000 ≤ a ∧ a + n ≤ 0x20200000
    let resting := x.state ∈ [QState.stopped, .halted]
    let next := (x.cons + 1) % 8192
    let seq := (x.seq + 1) % 65536
    (∀ r, let w := s.asker r
      let does (row : Rq → Nat → Instr) (n : Nat) (P : State → Prop) : Prop := s.Does r (R.QCMD q) (R.QCMD_CMD.put 0 n) (row r q) P
      let refused (code : Nat) (t : State) : Prop := t.queue q = { x with wstat := code } ∧ t.slots = s.slots
      (¬s.MayQueue w q → ∀ row n,
        (row, n) ∈ [(Instr.qcmdBind, 1), (.qcmdStart, 2), (.qcmdStop, 3), (.qcmdFlush, 4), (.qcmdUnbind, 5), (.qcmdDrop, 6)] →
        does row n (refused 1)) ∧
      (s.MayQueue w q →
        (let open' := s.mode ∈ [Mode.prepare, .run, .hold] ∨ s.mode = .dawn ∧ (s.fld R.CORERUN R.CORERUN_RUN).testBit 0 = true
         let room := (s.slot sl).a.state = 0 ∧ s.queueOf sl = none ∧ s.fld R.TTRESV R.TTRESV_GRESV + 1 ≤ s.freeUnbound.length
         let good := 4 ≤ lg ∧ lg ≤ 12 ∧ inRam base (16 * size) ∧ (rep = 1 → inRam repBase (8 * size))
         (x.state ≠ .off ∨ ¬open' → does .qcmdBind 1 (refused 2)) ∧
         (x.state = .off → open' → ¬room → does .qcmdBind 1 (refused 4)) ∧
         (x.state = .off → open' → room → ¬good → does .qcmdBind 1 (refused 3)) ∧
         (x.state = .off → open' → room → good → does .qcmdBind 1 (fun t =>
           t.queue q = { Queue.reset with state := .stopped } ∧ t.fld (R.QCFG q) R.QCFG_OWNER = w.id ∧
           t.fld (R.QCFG q) R.QCFG_WORLD = w.guard.toNat))) ∧
        (let bars := s.mode ∈ [Mode.safe, .service, .lockout]
         let y := { x with modestop := false, buf := none, fetching := false, inSlot := false, waited := false, taken := none, code := 0, wstat := 0 }
         (¬resting ∨ bars → does .qcmdStart 2 (refused 2)) ∧
         (resting → ¬bars → x.left ≠ 0 → does .qcmdStart 2 (fun t => t.queue q = { y with state := .running, fetching := true })) ∧
         (resting → ¬bars → x.left = 0 → does .qcmdStart 2 (fun t => t.queue q = { y with state := .starved } ∧
           t.fld (R.QCNT q) R.QCNT_STARVE = s.fld (R.QCNT q) R.QCNT_STARVE))) ∧
        (let live := x.state ∈ [QState.running, .starved, .suspended]
         (¬live → does .qcmdStop 3 (refused 2)) ∧
         (live → does .qcmdStop 3 (fun t =>
           t.queue q = { x with
             state := .stopped, inSlot := false, buf := none, fetching := false, waited := false, taken := none, code := 0, wstat := 0 } ∧
           (x.inSlot = true → (s.slot sl).a.state ≠ 0 → (t.slot sl).a.state = 0 ∧ (t.slot sl).status = 6)))) ∧
        (¬resting → does .qcmdFlush 4 (refused 2) ∧ does .qcmdUnbind 5 (refused 2) ∧ does .qcmdDrop 6 (refused 2)) ∧
        (resting → does .qcmdFlush 4 (fun t => t.queue q = { x with cons := x.tail, head := headOf q s.reports x.tail, wstat := 0 })) ∧
        (resting → does .qcmdUnbind 5 (fun t => t.queue q = { x with state := .off, modestop := false, wstat := 0 })) ∧
        (resting → x.left ≠ 0 → rep = 0 → does .qcmdDrop 6 (fun t =>
          t.queue q = { x with seq := seq, cons := next, head := headOf q s.reports next, inSlot := false, wstat := 0 })) ∧
        (resting → x.left ≠ 0 → rep = 1 → does .qcmdDrop 6 (fun t =>
          t.queue q = { x with seq := seq, cons := next, inSlot := false, wstat := 0 } ∧
          t.reports = s.reports ++ [{ queue := q, idx := x.cons, addr := repBase + 8 * (x.cons % size)
                                      w0 := 21 + 256 * sl + 65536 * seq, w1 := 0, ready := true }]))) ∧
      ∀ v, let new := R.QTAIL_TAIL.get v
        let y := { x with tail := new }
        let tail (P : State → Prop) : Prop := s.Does r (R.QTAIL q) v (.qtailWrite r q v) P
        (¬s.MayQueue w q → tail (refused 1)) ∧
        (s.MayQueue w q → y.count < x.count ∨ size < y.count → tail (refused 3)) ∧
        (s.MayQueue w q → x.count ≤ y.count → y.count ≤ size → tail (fun t => (t.queue q).tail = new ∧ (t.queue q).wstat = 0 ∧
          (x.state ∉ [QState.running, .starved] → t.queue q = { y with wstat := 0 }) ∧
          (x.state = .starved → x.buf = none → x.inSlot = false → y.count ≠ 0 → new ≠ x.cons → y.left ≠ 0 →
            (t.queue q).state = .running ∧ (t.queue q).fetching = true)))) ∧
    (∀ k,
      let u := s.advance k
      let y := u.queue q
      let bus (i : Nat) : Nat := 16 * u.fld (R.QBASE q) R.QBASE_BASE + 16 * (i % 2 ^ u.fld (R.QCFG q) R.QCFG_LOG2SIZE)
      (y.fetching = false → s.Gives (.prefetchComplete q k) u) ∧
      (y.fetching = true → u.repFirst = false → u.ecc = [] →
        let a := bus (if y.inSlot then y.cons + 1 else y.cons)
        s.Gives (.prefetchComplete q k) (u.setQueue q { y with
          fetching := false, badBuf := false, waited := false, taken := if y.inSlot then none else some u.now, code := 0
          buf := some (Period.ofWords (u.ld 4 a) (u.ld 4 (a + 4)) (u.ld 4 (a + 8)) (u.ld 4 (a + 12))) })) ∧
      (y.fetching = true → u.repFirst = true → y.waited = false → s.Leads (.prefetchComplete q k) (fun t =>
        t.queue q = { y with waited := true } ∧ t.fld (R.QCNT q) R.QCNT_PFWAIT = min 255 (u.fld (R.QCNT q) R.QCNT_PFWAIT + 1))) ∧
      (∀ p e, y.buf = some p → y.taken = some e → y.state = .running → y.inSlot = false → u.mode ∈ [Mode.prepare, .run] →
        let slot := u.queueSlot q
        let d := diffSpan (u.span p.tb) (u.tb p.tb).prev p.posInt
        let behind : Prop := p.dirq = 1 ∧ 0 ≤ d ∨ p.dirq = 2 ∧ d ≤ 0 ∨ p.dirq = 3 ∧ d = 0
        (y.code = 0 → e + 11 ≤ u.now → s.Leads (.refill q k) (fun t =>
          HoldsPeriod t slot { id := 6, guard := decide (u.fld (R.QCFG q) R.QCFG_WORLD = 1), ring := 0 } p ∧
          (p.stg = 0 → p.dirq ∈ [1, 2, 3] → ((t.slot slot).late = true ↔ behind)) ∧
          (t.queue q).inSlot = true ∧ (t.queue q).buf = none ∧ (t.queue q).taken = none ∧ (t.queue q).state = .running ∧
          (1 < y.left → (t.queue q).fetching = true))) ∧
        (y.code = 0 → u.now < e + 11 → s.Gives (.refill q k) u) ∧
        (y.code ≠ 0 → e + 2 ≤ u.now → s.Leads (.refill q k) (fun t => (t.queue q).state = .halted ∧ (t.queue q).why = y.code ∧
          (t.queue q).cons = (y.cons + 1) % 8192 ∧ (t.queue q).seq = (y.seq + 1) % 65536 ∧ t.slots = u.slots ∧
          min 15 (u.fld (R.IRQCNT (0x70 + q)) R.IRQCNT_COUNT + 1) ≤ t.fld (R.IRQCNT (0x70 + q)) R.IRQCNT_COUNT)))) ∧
    (∀ p e, x.buf = some p → x.taken = some e → x.inSlot = false → x.fetching = false → s.acts = [] → s.clocks = true →
      (s.now = e → s.Leads (.prefetchComplete q (e + 1)) (fun t =>
        (x.badBuf = true ∨ p.dirq = 0 → (t.queue q).code = 18) ∧
        (x.badBuf = false → t.RefillForms q p → (t.queue q).code = 0))) ∧
      (s.now = e + 1 → x.code = 0 → s.Leads (.prefetchComplete q (e + 2)) (fun t =>
        let b := t.tb p.tb
        let runs : Prop := b.state = .run ∧ (t.kind p.tb = 2 → b.rxSeen = true)
        (¬runs → (t.queue q).code = 8) ∧ (runs → b.ref = false → p.uref = 0 → (t.queue q).code = 9) ∧
        (runs → b.ref = true ∨ p.uref = 1 → (t.queue q).code = 0)))) ∧
    (∀ r rest, s.reports = r :: rest →
      let go : Prop := r.ready = true ∧ (s.repFirst = true ∨ s.memq = [] ∧ ∀ i, i < 16 → (s.queue i).fetching = false)
      (¬go → s.Gives .reportPosted s) ∧
      (go → r.queue = q → s.Inv → s.ecc = [] → r.w0 < 2 ^ 32 → r.w1 < 2 ^ 32 →
        s.Leads .reportPosted (fun t => t.reports = rest ∧
          (∀ b, t.byte b =
            if r.addr ≤ b ∧ b < r.addr + 8 then BitVec.ofNat 8 ((r.w0 + 2 ^ 32 * r.w1) / 256 ^ (b - r.addr)) else s.byte b) ∧
          (x.state ≠ .off → (t.queue q).head = headOf q rest x.cons))))

/-! ### Outputs and pins -/

/-- R173-R178, R189-R194: a mask write moves the lines that the requester and the mode allow, and EVREJ and OUTWSTAT say which were refused;
configuration and forcing are written in PREPARE and count from the boundary. PINFN is judged in the order of its checks, and its ball lets
the old function go at B and takes the new one at B + 8. BANKERR is the disagreement of VSEL and SUPPLY. (A forbidden write of PINBANK is
assumption 105, DESIGN CHOICE.) -/
def Obligations.LinesAndPinsAreWritten : Prop :=
  ∀ (s : State),
    (∀ r n (v : Word), n < 2 →
      let w := s.asker r
      let told (t : State) (code : Nat) : Prop := t.rdReq w.id R.OUTWSTAT = BitVec.ofNat 32 code
      let closed (i : Nat) : Prop :=
        ¬(s.mode = .run ∨ s.mode = .hold ∧ R.EVCFG_HOLD.get (s.eff (R.EVCFG (32 * n + i))) = 3)
      let barred (i : Nat) : Prop := w.shop = true ∧ R.EVCFG_WORLD.get (s.eff (R.EVCFG (32 * n + i))) = 1
      let old (i : Nat) : Bool := (s.line (32 * n + i)).fd.a.lvl
      let all (p : Nat → Prop) : Prop := ∀ i, i < 32 → v.getLsbD i = true → p i
      (∀ row a f, (row, a, f) ∈ [(Instr.evsetRegisterWrite, R.EVSET n, fun _ => true), (.evclrRegisterWrite, R.EVCLR n, fun _ => false),
        (.evtogRegisterWrite, R.EVTOG n, fun (b : Bool) => !b)] →
        (w.isStaff = true ∨ w.ring ≤ 1 → s.Does r a v (row r n v) (fun t =>
          (∀ i, i < 32 →
            (v.getLsbD i = true ∧ ¬closed i ∧ ¬barred i → (t.line (32 * n + i)).fd.a.lvl = f (old i)) ∧
            (¬(v.getLsbD i = true ∧ ¬closed i ∧ ¬barred i) → t.line (32 * n + i) = s.line (32 * n + i)) ∧
            ((t.rdReq w.id (R.EVREJ n)).getLsbD i = true ↔ v.getLsbD i = true ∧ (closed i ∨ barred i))) ∧
          (all (fun i => ¬closed i ∧ ¬barred i) → told t 0) ∧
          (v ≠ 0 → all closed → told t 5) ∧
          (v ≠ 0 → ¬all closed → all barred → told t 1) ∧
          (¬all closed → ¬all barred → ¬all (fun i => ¬closed i ∧ ¬barred i) → told t 6))) ∧
        (¬(w.isStaff = true ∨ w.ring ≤ 1) →
          s.Does r a v (row r n v) (fun t => t.lines = s.lines ∧ t.rdReq w.id (R.EVREJ n) = v ∧ told t 1))) ∧
      (∀ l, l < 64 →
        let a := R.EVCFG l
        let does := s.Does r a v (.evcfgWrite r l v)
        let refused (code : Nat) : Prop := does (fun t => told t code ∧ t.rd a = s.rd a)
        let keeps := R.EVCFG_WORLD.get v = R.EVCFG_WORLD.get (s.eff a)
        (w.priv = false → refused 1) ∧
        (w.priv = true → s.mode ≠ .prepare → refused 2) ∧
        (w.priv = true → s.mode = .prepare → ¬keeps → s.lineOwned l = true → refused 4) ∧
        (w.priv = true → s.mode = .prepare → keeps ∨ s.lineOwned l = false →
          (R.EVCFG_SAFE.get v = 3 ∨ R.EVCFG_WORLD.get v = 1 ∧ s.onUnsafeBall (64 + l) = true → refused 3) ∧
          (R.EVCFG_SAFE.get v ≠ 3 → R.EVCFG_WORLD.get v = 0 ∨ s.onUnsafeBall (64 + l) = false →
            does (fun t => told t 0 ∧ t.rd a = v &&& 0x3F ∧ t.eff a = s.eff a)))) ∧
      (∀ levels, let a := if levels then R.EVFLVL n else R.EVFEN n
        let does := s.Does r a v (.forceWrite r levels n v)
        (w.priv = false → does (fun t => told t 1 ∧ t.rd a = s.rd a)) ∧
        (w.priv = true → s.mode ≠ .prepare → does (fun t => told t 2 ∧ t.rd a = s.rd a)) ∧
        (w.priv = true → s.mode = .prepare → does (fun t => told t 0 ∧ t.rd a = v ∧ t.eff a = s.eff a))) ∧
      (w.priv = true → s.mode = .prepare → s.Does r R.PINBANK v (.pinbankWrite r v) (fun t =>
        t.fld R.PINBANK R.PINBANK_VSEL = R.PINBANK_VSEL.get v ∧ t.fld R.PINBANK R.PINBANK_SUPPLY = s.fld R.PINBANK R.PINBANK_SUPPLY ∧
        ∀ i, i < 4 → ((t.fld R.PINBANK R.PINBANK_BANKERR).testBit i = false ↔
          (R.PINBANK_VSEL.get v).testBit i = (s.fld R.PINBANK R.PINBANK_SUPPLY).testBit i ∧ s.bankOk.testBit i = true))) ∧
      (¬(w.priv = true ∧ s.mode = .prepare) → s.Sets r R.PINBANK v (.pinbankWrite r v) s)) ∧
    (∀ i code (ok : Bool), i < 4 → code < 2 →
      s.Leads (.bankSupplyMismatch i code ok) (fun t =>
        ((t.fld R.PINBANK R.PINBANK_SUPPLY).testBit i = true ↔ code = 1) ∧ t.fld R.PINBANK R.PINBANK_VSEL = s.fld R.PINBANK R.PINBANK_VSEL ∧
        (((s.fld R.PINBANK R.PINBANK_VSEL).testBit i = true ↔ code = 1) ∧ ok = true →
          t.fld R.PINBANK R.PINBANK_BANKERR = s.fld R.PINBANK R.PINBANK_BANKERR) ∧
        (¬(((s.fld R.PINBANK R.PINBANK_VSEL).testBit i = true ↔ code = 1) ∧ ok = true) →
          (t.fld R.PINBANK R.PINBANK_BANKERR).testBit i = true))) ∧
    (∀ b, b < 96 →
      (∀ r (v : Word),
        let w := s.asker r
        let a := R.PINFN b
        let cur := s.rd a
        let new := R.PINFN_FUNC.get v
        let old := R.PINFN_FUNC.get cur
        let general := R.PINFN_SAFETY.get cur = 0 ∧ pinAttrs v = pinAttrs cur
        let rights := w.priv = true ∨
          w.shop = true ∧ w.ring = 0 ∧ general ∧ s.guardFunc old = false ∧ s.guardFunc new = false
        let mode := s.mode = .prepare ∨ s.mode ∈ [Mode.run, .hold] ∧ general
        let valid := funcValid new = true ∧ (s.guardFunc new = true → R.PINFN_SAFETY.get v = 1)
        let checks := [(1, rights), (2, mode), (3, (s.pin b).sw = none), (4, valid), (5, s.variant.hasFunc new = true),
          (6, s.funcInUse b new = false), (7, s.bankErr b = false)]
        let does := s.Does r a v (.pinfnWrite r b v)
        (∀ before code p after, checks = before ++ (code, p) :: after → (∀ x ∈ before, x.2) → ¬p →
          does (fun t => t.pin b = { s.pin b with wstat := code } ∧ t.rd a = cur)) ∧
        ((∀ x ∈ checks, x.2) → does (fun t => t.rd a = v &&& 0x7FFF ∧
          t.pin b = { s.pin b with wstat := 0, sw := if new = old then none else some ((s.now + 9) / 8 * 8, false) }))) ∧
      ∀ k, let u := s.advance k
        let p := u.pin b
        (p.sw = none → R.PINFN_PULL.get (u.eff (R.PINFN b)) ≠ 3 → s.Gives (.pinFunctionSwitch b k) u) ∧
        (p.sw = none → R.PINFN_PULL.get (u.eff (R.PINFN b)) = 3 →
          s.Gives (.pinFunctionSwitch b k) (u.setPin b { p with kept := u.ballLevel u.drive b })) ∧
        (∀ e held, p.sw = some (e, held) → u.now < e + 8 * held.toNat → s.Gives (.pinFunctionSwitch b k) u) ∧
        (∀ e, p.sw = some (e, false) → e ≤ u.now →
          s.Leads (.pinFunctionSwitch b k) (fun t => t.pin b = { p with sw := some (e, true), kept := u.ballLevel u.drive b } ∧
            (∀ l, p.conn = 64 + l → l < 64 → (∀ i, i < 96 → u.fld (R.PINFN i) R.PINFN_FUNC ≠ p.conn) →
              (t.rd (R.EVLOST (l / 32))).getLsbD (l % 32) = true))) ∧
        (∀ e, p.sw = some (e, true) → e + 8 ≤ u.now →
          let f := u.fld (R.PINFN b) R.PINFN_FUNC
          let c := (u.rcOwner (f % 64)).1
          let i := (u.rcOwner (f % 64)).2
          s.Leads (.pinFunctionSwitch b k) (fun t => t.pin b = { p with sw := none, conn := f } ∧
            (f / 64 = 7 → (t.rc c).acc.getLsbD i = false ∧ (i < (u.rc c).accK.length → (t.rc c).accK.getD i none = some u.now)))))

/-- R179-R187: a rate, a start, a stop and a budget move a pulse train step by step, with its direction setup; PWM period and duty are
committed together at a period's start, the duty clamped; a sigma-delta code counts from the boundary; a Shop write to a Guard output and
one that the mode forbids are refused. A sigma-delta stream follows the density of its code within two ones (which bits are ones within
that is assumption 88, DESIGN CHOICE). -/
def Obligations.DrivesFollowTheirRegisters : Prop :=
  ∀ (s : State) g k, g < 16 →
    let u := s.advance k
    let y := u.gen g
    let rate := (u.eff (R.PTRATE g)).toInt.natAbs
    let free (x : Gen) : Prop := x.fd.a.e0.v = false ∧ x.fd.b.e0.v = false
    let edge (e tap : Nat) : FdEntry := { v := true, lvl := true, tog := false, tap := tap, edge := e, slot := 32 }
    (∀ r (v : Word),
      let w := s.asker r
      let x := s.gen g
      let told (t : State) (code : Nat) : Prop := t.rdReq w.id R.OUTWSTAT = BitVec.ofNat 32 code
      let setRate := s.Does r (R.PTRATE g) v (.ptrateWrite r g v)
      let go := s.Does r (R.PTCTL g) (R.PTCTL_GO.put 0 1) (.ptctlGo r g)
      let stop := s.Does r (R.PTCTL g) (R.PTCTL_STOP.put 0 1) (.ptctlStop r g)
      let barred (a : Nat) (f : F) : Prop := w.shop = true ∧ f.get (s.eff a) = 1
      let runs (hold : Prop) : Prop := s.mode = .run ∨ s.mode = .hold ∧ hold
      let mayRun := runs (R.PTCFG_HOLDRUN.get (s.eff (R.PTCFG g)) = 1)
      let b := (s.now / 8 + 1) * 8
      (barred (R.PTCFG g) R.PTCFG_WORLD →
        setRate (fun t => told t 1 ∧ t.rd (R.PTRATE g) = s.rd (R.PTRATE g)) ∧ go (fun t => told t 1 ∧ t.gens = s.gens) ∧
        stop (fun t => told t 1 ∧ t.gens = s.gens)) ∧
      (¬barred (R.PTCFG g) R.PTCFG_WORLD →
        (2 ^ 28 < v.toInt.natAbs → setRate (fun t => told t 3 ∧ t.rd (R.PTRATE g) = s.rd (R.PTRATE g))) ∧
        (v.toInt.natAbs ≤ 2 ^ 28 →
          setRate (fun t => told t 0 ∧ t.rd (R.PTRATE g) = v ∧ t.eff (R.PTRATE g) = s.eff (R.PTRATE g))) ∧
        (¬mayRun → go (fun t => told t 5 ∧ t.gens = s.gens)) ∧
        (mayRun → x.state ≠ .stopped → go (fun t => told t 4 ∧ t.gens = s.gens)) ∧
        (mayRun → x.state = .stopped → b < x.dirTill →
          go (fun t => told t 0 ∧ (t.gen g).state = .dirwait ∧ (t.gen g).dlate = true ∧ (t.gen g).first = true)) ∧
        (mayRun → x.state = .stopped → x.dirTill ≤ b → free x →
          let n := s.fld (R.PTNSTEP g) R.PTNSTEP_NSTEP
          go (fun t => told t 0 ∧ (t.gen g).state = .running ∧ (t.gen g).phase = 0 ∧ (t.gen g).rem = n ∧
            ((t.gen g).limited = true ↔ n ≠ 0) ∧ (t.gen g).count = x.count ∧ (t.gen g).fd.a.e0 = edge b 0)) ∧
        (s.mode ∈ [Mode.run, .hold] → stop (fun t => told t 0 ∧ (t.gen g).state = .stopped ∧
          ((t.gen g).fd.a.e0.v = true → (t.gen g).fd.a.e0.at ≤ 4 * (s.now + 1)) ∧
          ((t.gen g).fd.a.e1.v = true → (t.gen g).fd.a.e1.at ≤ 4 * (s.now + 1)))) ∧
        (s.mode ∉ [Mode.run, .hold] → stop (fun t => told t 0 ∧ t.gens = s.gens))) ∧
      (let per := s.Does r (R.PWMPER g) v (.pwmperWrite r g v)
       let duty := s.Does r (R.PWMDUTY g) v (.pwmdutyWrite r g v)
       let open' := runs (R.PWMCFG_HOLD.get (s.eff (R.PWMCFG g)) = 3)
       let active := s.mode ∈ [Mode.prepare, .run, .hold]
       (barred (R.PWMCFG g) R.PWMCFG_WORLD → per (fun t => told t 1 ∧ t.rd (R.PWMPER g) = s.rd (R.PWMPER g)) ∧
         duty (fun t => told t 1 ∧ t.pwms = s.pwms)) ∧
       (¬barred (R.PWMCFG g) R.PWMCFG_WORLD →
         (¬active → per (fun t => told t 5 ∧ t.rd (R.PWMPER g) = s.rd (R.PWMPER g))) ∧
         (active → v.toNat % 2 ^ 20 < 16 → per (fun t => told t 3 ∧ t.rd (R.PWMPER g) = s.rd (R.PWMPER g))) ∧
         (active → 16 ≤ v.toNat % 2 ^ 20 → per (fun t => told t 0 ∧ t.rd (R.PWMPER g) = v &&& 0xFFFFF ∧ t.pwms = s.pwms)) ∧
         (¬open' → duty (fun t => told t 5 ∧ t.pwms = s.pwms)) ∧
         (open' → duty (fun t => told t 0 ∧ t.rd (R.PWMDUTY g) = v &&& 0x3FFFFF ∧
           t.pwm g = { s.pwm g with next := some (s.fld (R.PWMPER g) R.PWMPER_PER, v.toNat % 2 ^ 22) })))) ∧
      (g < 8 →
        let code := s.Does r (R.SDCODE g) v (.sdcodeWrite r g v)
        let open' := runs (R.SDCFG_HOLD.get (s.eff (R.SDCFG g)) = 3)
        (barred (R.SDCFG g) R.SDCFG_WORLD → code (fun t => told t 1 ∧ t.rd (R.SDCODE g) = s.rd (R.SDCODE g))) ∧
        (¬barred (R.SDCFG g) R.SDCFG_WORLD → ¬open' → code (fun t => told t 5 ∧ t.rd (R.SDCODE g) = s.rd (R.SDCODE g))) ∧
        (¬barred (R.SDCFG g) R.SDCFG_WORLD → open' →
          code (fun t => told t 0 ∧ t.rd (R.SDCODE g) = v &&& 0xFFFF ∧ t.eff (R.SDCODE g) = s.eff (R.SDCODE g))))) ∧
    (let x := s.gen g
     let ends := x.state ∈ [GenState.running, .dirwait] ∧ x.limited = true ∧ x.rem = 0 ∧ x.first = false
     (ends → s.Leads (.pulseTrainDone g) (fun t => t.gen g = { x with state := .stopped } ∧
       t.fld (R.IRQCNT (0x80 + g)) R.IRQCNT_COUNT = min 15 (s.fld (R.IRQCNT (0x80 + g)) R.IRQCNT_COUNT + 1))) ∧
     (¬ends → s.Gives (.pulseTrainDone g) s)) ∧
    (let before := y.phase + rate * (k - 1 - y.phaseK)
     let q := 4 * (2 ^ 32 - before) / rate
     (y.state ≠ .running → s.Gives (.pulseTrainStep g k) u) ∧
     (u.clocks = true → y.state = .running → y.phaseK < k → rate ≠ 0 →
       (before + rate < 2 ^ 32 → s.Gives (.pulseTrainStep g k) (u.setGen g { y with phase := before + rate, phaseK := k })) ∧
       (before < 2 ^ 32 → 2 ^ 32 ≤ before + rate → ¬(y.limited = true ∧ y.rem = 0) → free y → y.fd.a.e1.v = false → y.fd.a.lvl = false →
         s.Leads (.pulseTrainStep g k) (fun t => (t.gen g).phase = (before + rate) % 2 ^ 32 ∧ (t.gen g).phaseK = k ∧
           (t.gen g).count = y.count ∧ (t.gen g).rem = y.rem ∧ (t.gen g).fd.a.e0 = edge (k + q / 4) (q % 4))))) ∧
    (¬(y.state = .dirwait ∧ y.dirTill ≤ u.now) → s.Gives (.dirsuElapsed g k) u) ∧
    (y.state = .dirwait → y.dirTill ≤ u.now →
      (y.first = false →
        s.Gives (.dirsuElapsed g k) (u.setGen g { y with state := .running, phaseK := y.dirTill - 1, dirTill := 0 })) ∧
      (y.first = true → free y → s.Leads (.dirsuElapsed g k) (fun t => (t.gen g).state = .running ∧ (t.gen g).first = false ∧
        (t.gen g).count = y.count ∧ (t.gen g).fd.a.e0 = edge y.dirTill 0))) ∧
    (let x := u.pwm g
     let starts : Prop := x.startK < k ∧ (k - x.startK) % x.per = 0
     (¬starts → s.Gives (.pwmPeriodStart g k) u) ∧
     (starts → x.next = none → s.Gives (.pwmPeriodStart g k) (u.setPwm g { x with startK := k })) ∧
     (∀ per duty, starts → x.next = some (per, duty) → s.Gives (.pwmPeriodStart g k) (u.setPwm g { x with
       per := per, duty := min duty (4 * per), startK := k, next := none, clamp := x.clamp || decide (4 * per < duty) }))) ∧
    (∀ c n,
      let d : Int := 2 ^ 18 + 7 * sx 16 c
      let err := sdErr d (Config.sdPick g c)
      err n ≤ 2 ^ 20 ∧ -2 ^ 20 ≤ err n ∧ err (n + 1) = err n + (if sdBit g c n then 2 ^ 19 else 0) - d)

/-! ### Memory, the bus and the interrupt controller -/

/-- R235, R263, R265, R266, R269, R334, R335, R338, R340, R342: the ports of a store buffer and the MRAM controller carry stores to memory, byte
for byte and nowhere else; a transfer holds the bus for 1 PSCLK within a word and 2 beyond it, counted by its class, and a core that waits
makes none but its stores; a fetched line is held; the scrubber moves on; a line is opened, closed and zeroed by those who may, in the order
of the queue. (Which transfers a member asks for is assumption 17, DESIGN CHOICE, that a waiting core's stores leave assumption 112,
DEDUCED.) -/
def Obligations.StoresReachMemory : Prop :=
  ∀ (s : State), s.Inv → s.ecc = [] → s.clocks = true →
    let written (t : State) (a n v : Nat) : Prop := ∀ b, t.byte b =
      if a ≤ b ∧ b < a + n then BitVec.ofNat 8 (v / 256 ^ (b - a)) else s.byte b
    let clear (a n : Nat) : Prop := ∀ b, a ≤ b → b < a + n → s.sealedAt b = none
    let counted (t : State) (a : Nat) (f : F) (n : Nat) : Prop := t.fld a f = min (2 ^ f.w - 1) (s.fld a f + n)
    let moved (l hold wait : Nat) (t : State) : Prop :=
      let p := s.variant.phys l
      counted t (R.BUSUSE (busClass (.core l))) R.BUSUSE_PSCLK hold ∧ counted t (R.BUSSTALL p) R.BUSSTALL_WAIT wait ∧
      t.fld (R.BUSMAX p) R.BUSMAX_MAX = max (s.fld (R.BUSMAX p) R.BUSMAX_MAX) (min 0xFFFF wait)
    (∀ l, l < 5 → s.variant.hasCore l = true → ∀ (e : SbEntry) (rest : List SbEntry),
      let p := s.variant.phys l
      (s.core l).sb = e :: rest →
      (∀ ovl full,
        (e.tgt = .tcm → e.done = false → 0x30000000 ≤ e.addr → s.Leads (.storeBufferDrain l true ovl full) (fun t =>
          (t.core l).sb = rest ∧ written t e.addr e.n e.val ∧ counted t (R.SBOVL p) R.SBOVL_CCLK ovl ∧
          counted t (R.SBFULL p) R.SBFULL_CCLK full)) ∧
        (e.done = true → s.Leads (.storeBufferDrain l false ovl full) (fun t => (t.core l).sb = rest ∧ t.mem = s.mem)) ∧
        ((∀ x ∈ e :: rest, x.tgt ≠ .tcm) → s.Gives (.storeBufferDrain l true ovl full) s)) ∧
      (∀ wait, e.done = false →
        let hold := if e.addr % 4 + e.n ≤ 4 then 1 else 2
        (e.tgt = .sram → 0x20000000 ≤ e.addr → s.Leads (.busTransfer (.core l) .store wait) (fun t => moved l hold wait t ∧
          (t.core l).sb = { e with done := true } :: rest ∧ written t e.addr e.n e.val)) ∧
        (e.tgt = .mram → s.mrq = [] → s.Leads (.busTransfer (.core l) .store wait) (fun t => moved l hold wait t ∧
          (t.core l).sb = e :: rest ∧ t.mrq = [.write l e.addr e.n e.val] ∧ t.mem = s.mem))) ∧
      (∀ a n v rest', s.mrq = .write l a n v :: rest' → s.dip = (false, false) → s.scrubDue = 0 → clear a n →
        e.tgt = .mram → e.done = false →
        s.Leads .mramProgramComplete (fun t => t.mrq = rest' ∧ written t a n v ∧ (t.core l).sb = { e with done := true } :: rest))) ∧
    (∀ l wait, l < 5 → s.variant.hasCore l = true →
      ((s.core l).sb = [] → s.Gives (.busTransfer (.core l) .store wait) s) ∧
      (∀ x ∈ [BusXfer.word, .block, .atomic],
        ((s.core l).waiting = true → s.Gives (.busTransfer (.core l) x wait) s) ∧
        ((s.core l).waiting = false → s.Leads (.busTransfer (.core l) x wait) (fun t =>
          moved l (if x = .word then 1 else 2) wait t ∧ t.mem = s.mem ∧ t.cores = s.cores)))) ∧
    (∀ w rest wait, s.memq = w :: rest → 0x20000000 ≤ w.addr →
      s.Leads (.busTransfer .refill .store wait) (fun t => t.memq = rest ∧ written t w.addr 4 w.val ∧
        counted t (R.BUSUSE 2) R.BUSUSE_PSCLK 1)) ∧
    (∀ m wait, s.variant.hasMember m = true → (∀ l, m ≠ .core l) → ∀ x ∈ [BusXfer.word, .block],
      s.Gives (.busTransfer m x wait) (s.count (R.BUSUSE (busClass m)) R.BUSUSE_PSCLK (if x = .word then 1 else 2))) ∧
    (∀ l (a : Word), l < 5 → s.variant.hasCore l = true →
      let b := a.toNat / 16 * 16
      let c := s.core l
      let held := s.setCore l { c with lines := (b, s.ld 16 b) :: (c.lines.filter (fun x => x.1 != b)).take 1 }
      (c.waiting = true → s.Gives (.fetchLineArrival l a) s) ∧
      (c.waiting = false → clear b 16 →
      (targetOf b = some .sram ∨ targetOf b = some .mram → s.Gives (.fetchLineArrival l a) held) ∧
      (0x10000000 ≤ a.toNat → a.toNat < 0x10800000 → s.mrq = [] →
        s.Gives (.mramReadComplete a (some l)) held ∧
        s.Gives (.mramReadComplete a none) { s with rdata := BitVec.ofNat 32 (s.ld 4 (a.toNat / 4 * 4)) }))) ∧
    (∀ op rest, s.mrq = op :: rest → s.dip = (false, false) → s.scrubDue = 0 →
      (∀ line, op = .flag line false → s.Leads .mramProgramComplete (fun t => t.mrq = rest ∧ line ∈ t.openLines ∧ t.mem = s.mem)) ∧
      (∀ line, op = .flag line true → s.Leads .mramProgramComplete (fun t => t.mrq = rest ∧ line ∉ t.openLines ∧ t.mem = s.mem)) ∧
      (∀ line, op = .zero line → s.Leads .mramProgramComplete (fun t => t.mrq = rest ∧ written t (0x10000000 + 64 * line) 64 0))) ∧
    (s.mrq = [] → s.Gives .mramProgramComplete s) ∧
    (s.fld R.MRSCRUB R.MRSCRUB_PER = 0 → s.Gives .scrubRead s) ∧
    (s.fld R.MRSCRUB R.MRSCRUB_PER ≠ 0 →
      (s.mrq ≠ [] → s.Gives .scrubRead { s with scrubDue := s.scrubDue + 1 }) ∧
      (s.mrq = [] → s.scrub + 1 ≠ 0x20000 → s.Gives .scrubRead { s with scrub := s.scrub + 1 }) ∧
      (s.mrq = [] → s.scrub + 1 = 0x20000 → s.Leads .scrubRead (fun t => t.scrub = 0 ∧
        t.fld R.MRSCRUB R.MRSCRUB_PASSES = (s.fld R.MRSCRUB R.MRSCRUB_PASSES + 1) % 65536))) ∧
    (∀ r (v : Word), s.Does r R.MRSCRUB v (.mrscrubWrite r v) (fun t =>
      t.fld R.MRSCRUB R.MRSCRUB_PER = (if (s.asker r).priv then v.toNat % 65536 else s.fld R.MRSCRUB R.MRSCRUB_PER) ∧
      t.fld R.MRSCRUB R.MRSCRUB_PASSES = s.fld R.MRSCRUB R.MRSCRUB_PASSES)) ∧
    (∀ r line, line < 0x20000 →
      let w := s.asker r
      let may := (w.isStaff = true ∨ w.ring = 0) ∧ (w.shop = true → s.sealedAt (0x10000000 + 64 * line) = none)
      let cmd (n : Nat) (row : Rq → Nat → Instr) (P : State → Prop) : Prop :=
        s.Does r R.MRLCMD (R.MRLCMD_LINE.put (R.MRLCMD_CMD.put 0 n) line) (row r line) P
      let told (code : Nat) (t : State) : Prop := t.rdReq w.id R.MRLRES = BitVec.ofNat 32 code
      let refused (code : Nat) (t : State) : Prop := told code t ∧ t.mrq = s.mrq
      let valid (n : Nat) : Prop := s.fld (R.MRLOPEN n) R.MRLOPEN_VALID = 1
      let has (n : Nat) : Prop := valid n ∧ s.fld (R.MRLOPEN n) R.MRLOPEN_LINE = line
      let none' := ∀ n, n < 8 → ¬has n
      (¬may → cmd 1 .lineOpen (refused 1)) ∧
      (may → ¬none' → cmd 1 .lineOpen (refused 3)) ∧
      (may → none' → (∀ n, n < 8 → valid n) → cmd 1 .lineOpen (refused 2)) ∧
      (may → none' → ∀ n, n < 8 → ¬valid n → (∀ j, j < n → valid j) →
        cmd 1 .lineOpen (fun t => told 0 t ∧ t.rd (R.MRLOPEN n) = BitVec.ofNat 32 (1 + 4 * w.id + 64 * line) ∧
          t.mrq = s.mrq ++ [.flag line false])) ∧
      (may → none' → cmd 2 .lineClose (refused 4)) ∧
      (¬may → none' → cmd 2 .lineClose (refused 1)) ∧
      (∀ n, n < 8 → has n → (∀ j, j < n → ¬has j) →
        let own := w.priv = true ∨ may ∧ s.fld (R.MRLOPEN n) R.MRLOPEN_OWNER = w.id ∧ s.fld (R.MRLOPEN n) R.MRLOPEN_DAWNF = 0
        (own → cmd 2 .lineClose (fun t => told 0 t ∧ t.rd (R.MRLOPEN n) = 0 ∧ t.mrq = s.mrq ++ [.flag line true])) ∧
        (¬own → cmd 2 .lineClose (refused 1))) ∧
      (w.priv = true → cmd 3 .lineZero (fun t => told 0 t ∧ t.mrq = s.mrq ++ [.zero line])) ∧
      (w.priv = false → cmd 3 .lineZero (refused 1)))

/-- R290, R291, R303-R306: a region register reads back as written. IRQCFG is privileged, and needs a core that the variant has; PENDSET adds an
arrival, PENDCLR clears the counter, ENSET and ENCLR change the enable, at each source that the requester may write, and IRQWSTAT says
whether all, some or none were. -/
def Obligations.RegionsAndSourcesAreWritten : Prop :=
  ∀ (s : State) r (v : Word),
    let w := s.asker r
    let told (t : State) (code : Nat) : Prop := t.rdReq w.id R.IRQWSTAT = BitVec.ofNat 32 code
    (∀ (block : Option Nat) l (guard : Bool) n, l < 5 → n < 16 → block = some l ∨ block = none ∧ r = .core l →
      let off := (if guard then 0x100 else 0x180) + 8 * n
      let base := 0x400E1000 + 0x400 * l + off
      s.Does r (blockAddr block off) v (.regionWrite r block guard false n v) (fun t =>
        t.rd base = (if guard then (s.rd base &&& 0x20) ||| (v &&& 0xFFFFFFDF) else (s.rd base &&& 0x10) ||| (v &&& 0xFFFFFFEF))) ∧
      s.Does r (blockAddr block (off + 4)) v (.regionWrite r block guard true n v) (fun t => t.rd (base + 4) = v)) ∧
    (∀ n, n < 256 → s.hasSrc n = true →
      let does := s.Does r (R.IRQCFG n) v (.irqcfgWrite r n v)
      let there := (fixedCore n).isSome = true ∨ v.toNat / 16 % 8 < 5 ∧ s.variant.hasCore (v.toNat / 16 % 8) = true
      (w.priv = false → does (fun t => told t 1 ∧ t.rd (R.IRQCFG n) = s.rd (R.IRQCFG n))) ∧
      (w.priv = true → ¬there → does (fun t => told t 3 ∧ t.rd (R.IRQCFG n) = s.rd (R.IRQCFG n))) ∧
      (w.priv = true → there → does (fun t => told t 0 ∧ t.rd (R.IRQCFG n) = v &&& 0xF7))) ∧
    (∀ b, b < 8 →
      let may (i : Nat) : Prop := w.priv = true ∨
        w.shop = true ∧ w.ring = 0 ∧ s.irqGuard (32 * b + i) = false ∧ s.irqCore (32 * b + i) = w.id
      let asked (i : Nat) : Prop := i < 32 ∧ v.getLsbD i = true
      let answer (t : State) : Prop := ((∀ i, asked i → may i) → told t 0) ∧
        (v ≠ 0 → (∀ i, asked i → ¬may i) → told t 1) ∧ ((∃ i, asked i ∧ may i) → (∃ i, asked i ∧ ¬may i) → told t 2)
      let count (t : State) (i : Nat) : Nat := t.fld (R.IRQCNT (32 * b + i)) R.IRQCNT_COUNT
      let en (t : State) (i : Nat) : Nat := t.fld (R.IRQCNT (32 * b + i)) R.IRQCNT_EN
      let does (row : Rq → Nat → Word → Instr) (a : Nat) (hit : State → Nat → Prop) (alike : State → Nat → Prop) : Prop :=
        s.Does r a v (row r b v) (fun t => answer t ∧ ∀ i, i < 32 → s.hasSrc (32 * b + i) = true →
          (asked i ∧ may i → hit t i) ∧ (¬(asked i ∧ may i) → alike t i))
      let own (i : Nat) : Prop := 32 * b + i ≠ 0xF0 ∧ (32 * b + i < 0xA0 ∨ 0xB8 ≤ 32 * b + i)
      does .pendsetWrite (R.PENDSET b) (fun t i => own i → count t i = min 15 (count s i + 1)) (fun t i => own i → count t i = count s i) ∧
      does .pendclrWrite (R.PENDCLR b) (fun t i => own i → count t i = 0) (fun t i => own i → count t i = count s i) ∧
      does .ensetWrite (R.ENSET b) (fun t i => en t i = 1) (fun t i => en t i = en s i) ∧
      does .enclrWrite (R.ENCLR b) (fun t i => en t i = 0) (fun t i => en t i = en s i))

/-! ### The Enward ring -/

/-- R348-R357, R359-R362, R364, R375-R380: a lost link, or the second bad header in succession, wraps a device that takes part, and a lost cycle
makes it LOST; a roll call is asked for on the master in PREPARE, and a member that is admitted owns its wall time by the ring, which each
cycle slews; a header is repeated, and every section that passes is repeated as it came, a failed one with its check inverted, but for the
device's own status byte, its own records and the message that it inserts; a record of a subscription whose check holds moves its remote
timebase, and its absence faults it; CLRCNT clears the counters. (The formats that the manual leaves open, check and marks among them, are
assumption 94.) -/
def Obligations.RingFollowsItsLinksAndCycles : Prop :=
  ∀ (s : State),
    let raised (u t : State) (n : Nat) : Prop := t.fld (R.IRQCNT n) R.IRQCNT_COUNT = min 15 (u.fld (R.IRQCNT n) R.IRQCNT_COUNT + 1)
    let taking (u : State) : Prop := u.en.state ∈ [EnState.up, .wrapped]
    s.variant.enward = true →
    (∀ p lanes, p < 2 → lanes < 256 →
      let up := s.fld (R.ENLINK p) R.ENLINK_UP = 1
      (¬up → s.Gives (.linkDown p lanes) s) ∧
      (up → ¬taking s → s.Leads (.linkDown p lanes) (fun t => t.en = s.en ∧ t.fld (R.ENLINK p) R.ENLINK_UP = 0 ∧
        t.fld (R.ENLINK p) R.ENLINK_LANES = lanes)) ∧
      (up → taking s → s.Leads (.linkDown p lanes) (fun t => t.en = { s.en with state := .wrapped, wrapHere := true } ∧
        t.fld (R.ENLINK p) R.ENLINK_UP = 0 ∧ t.fld (R.ENLINK p) R.ENLINK_LANES = lanes ∧ (s.en.state = .up → raised s t 0xC3)))) ∧
    (∀ p delay, p < 2 → delay < 65536 →
      (s.en.state = .down → s.Gives (.linkUp p delay) s) ∧
      (s.en.state ≠ .down → s.Leads (.linkUp p delay) (fun t => t.rd (R.ENLINK p) &&& 0xFFFF01FF = BitVec.ofNat 32 (0x1FF + 65536 * delay) ∧
        t.en.state = s.en.state ∧ (t.en.heal = true ↔ s.en.master = true ∧ s.en.state = .wrapped)))) ∧
    (∀ r, let w := s.asker r
      let roll := s.Does r R.ENCMD (R.ENCMD_ROLL.put 0 1) (.encmdRoll r)
      let clear := s.Does r R.ENCMD (R.ENCMD_CLRCNT.put 0 1) (.encmdClrcnt r)
      let ok := s.mode = .prepare ∧ s.en.master = true ∧ taking s
      (w.priv = true → ok → roll (fun t => t.en.state = .roll ∧ t.rdReq w.id R.ENWSTAT = 0 ∧ raised s t 0xC3)) ∧
      (w.priv = true → ¬ok → roll (fun t => t.en = s.en ∧ t.rdReq w.id R.ENWSTAT = 2)) ∧
      (w.priv = true → clear (fun t => t.rd R.ENERR = 0 ∧ t.rd R.ENDROP = 0 ∧ t.rd R.ENFCCNT = 0 ∧ t.rd R.ENFCCNT2 = 0 ∧
        t.fld R.ENSEC R.ENSEC_AUTH = 0 ∧ t.fld R.ENSEC R.ENSEC_SEC = s.fld R.ENSEC R.ENSEC_SEC)) ∧
      (w.priv = false → roll (fun t => t.en = s.en ∧ t.rdReq w.id R.ENWSTAT = 1) ∧
        clear (fun t => t.en = s.en ∧ t.rd R.ENERR = s.rd R.ENERR ∧ t.rdReq w.id R.ENWSTAT = 1))) ∧
    ∀ k, let u := s.advance k
      (∀ x : RollResult,
        (u.fld R.ENCFG R.ENCFG_ROLE = 1 → s.Gives (.join k x) u) ∧
        (u.fld R.ENCFG R.ENCFG_ROLE = 0 → u.mode ∈ [Mode.prepare, .run, .hold, .safe] → u.dawn = .none →
          u.fld R.ENCFG R.ENCFG_EN = 1 → u.en.state = .repeats → x.auth = false →
          (u.enKeyless = true → s.Leads (.join k x) (fun t => t.en.state = .repeats ∧
            t.fld R.ENSEC R.ENSEC_AUTH = min 255 (u.fld R.ENSEC R.ENSEC_AUTH + 1) ∧ raised u t 0xC5)) ∧
          (∀ a, x.addr = some a → u.enKeyless = false → s.Leads (.join k x) (fun t => t.en.state = .up ∧ t.en.addr = a ∧ t.en.ndev = x.ndev ∧
            t.en.master = false ∧ t.en.table = x.table ∧ t.fld R.WALLCTL R.WALLCTL_OWNER = 1 ∧ t.fld R.WALLCTL R.WALLCTL_WRATE = 1 ∧
            t.wall.step = some x.step)) ∧
          (x.addr = none → s.Leads (.join k x) (fun t => t.en.state = .repeats)))) ∧
      (∀ h : EnHdr,
        let x := u.en
        let mine := x.master = true ∧ taking u
        let heads (l : List EnSection) : Prop := u.enHeads (if mine then h.cycle - 1 else h.cycle) l = true
        let fine (l : List EnSection) : Prop := l = [] ∨ heads l
        let starts := mine ∨ heads h.ringA ∨ heads h.ringB
        let roll := ∃ l ∈ [h.ringA, h.ringB], heads l ∧ (l.headD ⟨[], 0⟩).chars.headD 0 = 1
        let usual := x.farewell = false ∧ fine h.ringA ∧ fine h.ringB ∧ starts ∧ (x.master = false → ¬roll)
        let cycle := s.Leads (.enwardCycle k h)
        (x.state = .down → s.Gives (.enwardCycle k h) u) ∧
        (x.state ≠ .down → ¬starts → cycle (fun t => t.rd R.ENCYC = u.rd R.ENCYC ∧ t.en.cyc = x.cyc)) ∧
        (x.state ≠ .down → starts → cycle (fun t => t.rd R.ENCYC = BitVec.ofNat 32 h.cycle ∧ t.en.cyc = h.cycle)) ∧
        (x.state ≠ .down → 0 < x.badRun.length → h.ringA ≠ [] → ¬heads h.ringA → h.ringB = [] → cycle (fun t =>
          t.fld R.ENERR R.ENERR_HDR = min 255 (u.fld R.ENERR R.ENERR_HDR + 1) ∧ nth t.en.badRun 0 = nth x.badRun 0 + 1 ∧
          (nth x.badRun 0 = 1 → t.fld (R.ENLINK 0) R.ENLINK_UP = 0))) ∧
        (x.state = .lost → usual → cycle (fun t => t.en.state = .roll ∧ raised u t 0xC3)) ∧
        (taking u → x.master = false → x.farewell = false → fine h.ringA → fine h.ringB → roll →
          cycle (fun t => t.en.state = .roll ∧ raised u t 0xC3)) ∧
        (x.state = .up → h.brk = none → usual → x.master = false → u.fld R.WALLCTL R.WALLCTL_OWNER = 1 →
          cycle (fun t => t.en.state = .up ∧ t.wall.adj = (BitVec.ofInt 32
            (256 * (800 * h.cycle) + 64 * u.fld (R.ENHOP x.addr) R.ENHOP_D - h.arrival)).toInt)) ∧
        (∀ b, x.state = .up → usual → h.brk = some b →
          cycle (fun t => t.en.state = .wrapped ∧ t.en.brk = some b ∧ raised u t 0xC3)) ∧
        (x.state = .wrapped → usual → h.heal = true →
          cycle (fun t => t.en.state = .up ∧ t.en.brk = none ∧ t.en.wrapHere = false)) ∧
        (usual → taking u ∨ x.state = .repeats → x.master = false → heads h.ringA → u.now ≤ h.edgeB →
          cycle (fun t => t.en.ringA = { start := u.now, comes := (h.ringA.zipIdx.drop 1).map (fun e => (e.2, e.1)), low := 0
                                         sent := (h.ringA.take 1).map (fun y => (0, y)) }))) ∧
      (∀ i (x : EnSection), 0 < i → s.clocks = true → k = s.now + 1 → s.acts = [] → s.fcOut = [] → s.en.master = false →
        s.en.ringA.comes = [(i, x)] → s.en.ringB.comes = [] → s.en.ringA.start + s.enOffset i ≤ k →
        let good := x.check = s.enCheck s.en.cyc i x.chars
        let passed (y : EnSection) : Prop := u.en.ringA = { s.en.ringA with
          comes := [], sent := s.en.ringA.sent ++ [(i, y)], low := u.en.ringA.low }
        let sealed (chars : List Byte) : EnSection := { chars := chars, check := s.enCheck s.en.cyc i chars }
        let own := s.enOwn (i - 2)
        (¬good → u.fld R.ENERR (enErrField i) = min 255 (s.fld R.ENERR (enErrField i) + 1)) ∧
        (¬good → ¬(taking s ∧ 2 ≤ i ∧ i < 18 ∧ own.isSome = true) → passed { x with check := ~~~x.check }) ∧
        (good → s.en.state ∈ [EnState.repeats, .lost] → passed x) ∧
        (good → taking s → i = 1 → ∃ b : Byte, passed (sealed (x.chars.set s.en.addr b)) ∧ b.toNat % 8 = u.mode.code ∧
          (b.getLsbD 4 = true ↔ u.estopN = false) ∧ b.getLsbD 5 = false ∧ b.getLsbD 7 = s.en.toggle) ∧
        (good → taking s → 2 ≤ i → i < 18 → own = none → passed x) ∧
        (∀ t, taking s → 2 ≤ i → i < 18 → own = some t → ∃ r : PubRecord, passed (sealed (recordChars r)) ∧
          r.vel = BitVec.ofInt 32 (u.tb t).vel ∧ (r.valid = true ↔ (u.tb t).state = .run) ∧ r.ref = (u.tb t).ref) ∧
        (good → taking s → 18 ≤ i → emptySlot x.chars = false → passed x) ∧
        (∀ m, good → taking s → 18 ≤ i → emptySlot x.chars = true → s.enq = [m] → m.onA = false → s.en.turned = [] →
          m.cls = 0 ∨ s.en.ringA.low < 2 →
          passed (sealed (s.enMsgChars m)) ∧ u.enq = (if m.onB then [] else [{ m with onA := true }]))) ∧
      (taking u → s.Leads (.enwardLost k) (fun t => t.en.state = .lost ∧ raised u t 0xC3 ∧
        (u.en.master = false → t.fld R.WALLCTL R.WALLCTL_OWNER = u.en.owner0 % 4))) ∧
      (¬taking u → s.Gives (.enwardLost k) u) ∧
      (∀ i, i < 12 → ∀ (y : PubRecord),
        let t0 := 16 + i
        let x := u.tb t0
        let holds := y.check = u.enCheck u.en.cyc (2 + u.fld (R.ENSUB i) R.ENSUB_SLOT) (recordChars y)
        let subscribed := holds ∧ taking u ∧ u.kind t0 = 2 ∧ u.fld (R.ENSUB i) R.ENSUB_EN = 1 ∧ u.fld (R.ENSUB i) R.ENSUB_NOPUB = 0 ∧ x.state ≠ .off
        let receives := s.Leads (.publicationReceived k i y)
        (¬subscribed → s.Gives (.publicationReceived k i y) u) ∧
        (subscribed → y.valid = false → x.state = .run → receives (fun t => (t.tb t0).state = .fault ∧ (t.tb t0).cause = 1 ∧
          (t.tb t0).word = x.word)) ∧
        (subscribed → y.valid = true → receives (fun t => (t.tb t0).state = .run ∧ (t.tb t0).vel = y.vel.toInt ∧ (t.tb t0).ref = y.ref ∧
          (t.tb t0).rxSeen = true ∧ (t.tb t0).rxK = u.now)) ∧
        (subscribed → y.valid = true → x.rxSeen = false → y.vel = 0 → receives (fun t => (t.tb t0).word = y.word.toInt ∧
          (t.tb t0).discgen = (x.discgen + 1) % 256))) ∧
      (∀ i, i < 12 →
        let x := u.tb (16 + i)
        let aged := u.kind (16 + i) = 2 ∧ x.state = .run ∧ x.rxK + u.fld (R.ENSUBLIM i) R.ENSUBLIM_AGEMAX ≤ u.now
        (aged → s.Leads (.ageFault k (16 + i)) (fun t => (t.tb (16 + i)).state = .fault ∧ (t.tb (16 + i)).cause = 3 ∧
          (t.tb (16 + i)).word = x.word ∧ raised u t 0xC4)) ∧
        (¬aged → s.Gives (.ageFault k (16 + i)) u))

/-- R363-R374: a message taken once, from another device of the ring, is queued, reported or acted on by its type; a forecast of a mapped event
stages its period, and is armed, retracted, confirmed or expired by its instants; a DATA message is queued by class, and ENRX3 takes the
oldest received one. (The check of a message is assumption 94.) -/
def Obligations.RingMessagesAndForecasts : Prop :=
  ∀ (s : State), s.variant.enward = true →
    let raised (u t : State) (n : Nat) : Prop := t.fld (R.IRQCNT n) R.IRQCNT_COUNT = min 15 (u.fld (R.IRQCNT n) R.IRQCNT_COUNT + 1)
    let counts (u t : State) (a : Nat) (f : F) : Prop := t.fld a f = min 255 (u.fld a f + 1)
    (∀ r, let w := s.asker r
      let c := s.rdReq w.id R.ENTXCTL
      let cls := R.ENTXCTL_CLASS.get c
      let n := (s.enq.filter (fun m => m.cls == cls)).length
      let go := s.Does r R.ENTXGO (R.ENTXGO_GO.put 0 1) (.entxgo r)
      (cls = 1 ∨ cls = 3 → go (fun t => t.enq = s.enq ∧ t.rdReq w.id R.ENTXRES = 3)) ∧
      (cls = 0 ∨ cls = 2 → n < (if cls = 0 then 4 else 8) → go (fun t => t.rdReq w.id R.ENTXRES = 0 ∧ t.enq = s.enq ++
        [{ typ := 5, cls := cls, bcast := R.ENTXCTL_BCAST.get c == 1, dest := R.ENTXCTL_DEST.get c, tag := R.ENTXCTL_TAG.get c
           body := ((s.rdReq w.id (R.ENTXD 0)).toNat + 2 ^ 32 * (s.rdReq w.id (R.ENTXD 1)).toNat) % 2 ^ 56, seq := s.en.seq }])) ∧
      (cls = 0 ∨ cls = 2 → (if cls = 0 then 4 else 8) ≤ n → go (fun t => t.rdReq w.id R.ENTXRES = 5 ∧ t.enq = s.enq ∧
        counts s t R.ENDROP (if cls = 0 then R.ENDROP_SAFETY else R.ENDROP_DATA))) ∧
      (s.en.rx = [] → s.DoesRead r (R.ENRX 3) (.enrx3Read r) (fun t => t.rdata = 0 ∧ t.en = s.en)) ∧
      (∀ m rest, s.en.rx = m :: rest → s.DoesRead r (R.ENRX 3) (.enrx3Read r) (fun t => t.en = { s.en with rx := rest } ∧
        t.rdata = m.check))) ∧
    ∀ k, let u := s.advance k
      (∀ m : EnFrame,
        let src := m.src.toNat
        let known := src = 0 ∨ src < 32 ∧ u.fld (R.ENHOP src) R.ENHOP_D ≠ 0
        let seen := ∃ c, (src, m.seq.toNat, c) ∈ u.en.taken ∧ u.en.cyc ≤ c + 4
        let intact := m.check = u.enCheck u.en.cyc (18 + m.slot.toNat) (enBytes 12 (enBody m))
        let taken := intact ∧ u.en.state ∈ [EnState.up, .wrapped] ∧ known ∧ src ≠ u.en.addr ∧ ¬seen ∧ (m.bcast = true ∨ m.dest.toNat = u.en.addr)
        let receives := s.Leads (.messageReceived k m)
        (¬taken → s.Gives (.messageReceived k m) u) ∧
        (taken → receives (fun t => (src, m.seq.toNat, u.en.cyc) ∈ t.en.taken)) ∧
        (taken → m.typ = 5 ∨ m.typ = 4 → u.en.rx.length < 16 → receives (fun t => t.en.rx = u.en.rx ++ [m] ∧ raised u t 0xC0)) ∧
        (taken → m.typ = 5 ∨ m.typ = 4 → 16 ≤ u.en.rx.length → receives (fun t => t.en.rx = u.en.rx ∧ counts u t R.ENDROP R.ENDROP_RX)) ∧
        (taken → m.typ = 6 → receives (fun t => t.rd R.ENLASTMODE = BitVec.ofNat 32 (src + 256 * (m.body.toNat % 8)) ∧ raised u t 0xC1))) ∧
      (∀ src tag tp gen,
        (u.fcMatch src tag = [] → s.Gives (.forecastReceived k src tag tp gen) u ∧ s.Gives (.retractReceived k src tag) u ∧
          s.Gives (.confirmReceived k src tag) u) ∧
        ∀ e, u.fcMatch src tag = [e] → e < 32 →
          let x := u.fcEntry e
          let p := u.fcPeriod e
          let new := x.state = .none ∧ (x.dead = false ∨ gen = 0) ∧ u.mode ∈ [Mode.prepare, .run, .hold]
          let forecast := s.Leads (.forecastReceived k src tag tp gen)
          let retract := s.Leads (.retractReceived k src tag)
          let live := u.fcLive e = true ∧ x.slot < 32
          (new → u.fcCheck e ≠ 0 → forecast (fun t => (t.fcEntry e).state = .none ∧ (t.fcEntry e).code = u.fcCheck e ∧
            (t.fcEntry e).dead = true ∧ t.slots = u.slots ∧ counts u t R.ENFCCNT R.ENFCCNT_FORECAST)) ∧
          (new → u.fcCheck e = 0 → u.fcSlot = none → forecast (fun t => (t.fcEntry e).state = .trying ∧ t.slots = u.slots ∧
            counts u t (R.TTREFUSE 1) R.TTREFUSE_B2)) ∧
          (∀ i, new → u.fcCheck e = 0 → u.fcSlot = some i → i < 32 → u.fld (R.FCKEY e) R.FCKEY_MODE = 1 →
            forecast (fun t => (t.fcEntry e).state = .staged ∧ (t.fcEntry e).slot = i ∧ (t.fcEntry e).tp = u.ringTime tp ∧
              (t.fcEntry e).gen = gen ∧ (t.slot i).a.state = 1 ∧ (t.slot i).a.per = { p with stg := 1 } ∧ (t.slot i).req = 7 ∧
              (t.slot i).fc = some e)) ∧
          (x.state = .trying → retract (fun t => (t.fcEntry e).state = .none ∧ t.slots = u.slots)) ∧
          (x.state = .staged → live → retract (fun t => (t.fcEntry e).state = .none ∧ (t.slot x.slot).a.state = 0 ∧
            (t.slot x.slot).status = 17 ∧ counts u t R.ENFCCNT R.ENFCCNT_RETRACT)) ∧
          (x.state ≠ .none → forecast (fun t => t.fcEntry e = { x with tp := u.ringTime tp, gen := gen } ∧ t.slots = u.slots ∧
            counts u t R.ENFCCNT R.ENFCCNT_FORECAST)) ∧
          (x.state = .armed → live → u.firesNext x.slot = false → retract (fun t => (t.fcEntry e).state = .none ∧
            (t.slot x.slot).a.state = 0 ∧ (t.slot x.slot).status = 6 ∧ counts u t R.ENFCCNT R.ENFCCNT_LATERET ∧ raised u t 0xC2)) ∧
          (x.state = .armed → live → u.firesNext x.slot = true → retract (fun t => (t.fcEntry e).state = .none ∧
            t.slots = u.slots ∧ counts u t R.ENFCCNT R.ENFCCNT_LATERET ∧ raised u t 0xC2)) ∧
          (x.state = .armed → s.Leads (.confirmReceived k src tag) (fun t => (t.fcEntry e).state = .none ∧ t.slots = u.slots)) ∧
          (let q := (u.slot x.slot).a.per
           x.state = .staged → live → (u.slot x.slot).a.state = 1 →
           let confirm := s.Leads (.confirmReceived k src tag)
           let ended (t : State) (st : Nat) : Prop := (t.fcEntry e).state = .none ∧ (t.slot x.slot).a.state = 0 ∧ (t.slot x.slot).status = st
           (u.tbBars q.tb = true → confirm (fun t => ended t 8)) ∧
           (u.tbBars q.tb = false → u.refBars q = true → confirm (fun t => ended t 9)) ∧
           (u.tbBars q.tb = false → u.refBars q = false → confirm (fun t => (t.fcEntry e).state = .none ∧
             (t.slot x.slot).a.state = 2 ∧ (t.slot x.slot).a.per = q ∧ (t.slot x.slot).late = true ∧ (t.slot x.slot).armedK = u.now)))) ∧
      (∀ e, e < 32 →
        let x := u.fcEntry e
        let live := u.fcLive e = true ∧ x.slot < 32
        let due := x.state = .staged ∧ u.fcLive e = true ∧ u.fld (R.FCKEY e) R.FCKEY_MODE = 0 ∧
          x.tp ≤ u.wallPs u.now + 800 * u.fld R.ENFCCFG R.ENFCCFG_ARMLEAD
        let q := (u.slot x.slot).a.per
        let late := x.tp + 1600 ≤ u.wallPs u.now
        (¬due → s.Gives (.forecastArm k e) u) ∧
        (due → x.slot < 32 →
          let arms := s.Leads (.forecastArm k e)
          let d := diffSpan (u.span q.tb) (u.tb q.tb).prev q.posInt
          let ahead := q.dirq = 1 ∧ d < 0 ∨ q.dirq = 2 ∧ 0 < d ∨ q.dirq = 3 ∧ d ≠ 0
          let ended (t : State) (st : Nat) : Prop := (t.fcEntry e).state = .none ∧ (t.slot x.slot).a.state = 0 ∧ (t.slot x.slot).status = st
          (u.tbBars q.tb = true → arms (fun t => ended t 8)) ∧
          (u.tbBars q.tb = false → u.refBars q = true → arms (fun t => ended t 9)) ∧
          (u.tbBars q.tb = false → u.refBars q = false → q.dirq ∈ [1, 2, 3] → arms (fun t => (t.fcEntry e).state = .armed ∧
            (t.slot x.slot).a.state = 2 ∧ (t.slot x.slot).a.per = q ∧ (t.slot x.slot).armedK = u.now ∧
            ((t.slot x.slot).a.primed = true ↔ ahead) ∧ ((t.slot x.slot).late = true ↔ ¬ahead ∨ (u.slot x.slot).late = true)))) ∧
        (x.state = .none → s.Gives (.forecastExpired k e) u) ∧
        (x.state ∈ [FcState.staged, .armed] → ¬late → s.Gives (.forecastExpired k e) u) ∧
        (x.state = .armed → late → live → s.Leads (.forecastExpired k e) (fun t => (t.fcEntry e).state = .none ∧ t.slots = u.slots ∧
          counts u t R.ENFCCNT R.ENFCCNT_EXPIRED ∧ raised u t 0xC2)) ∧
        (x.state = .staged → late → live → s.Leads (.forecastExpired k e) (fun t => (t.fcEntry e).state = .none ∧
          (t.slot x.slot).a.state = 0 ∧ (t.slot x.slot).status = 17 ∧ counts u t R.ENFCCNT R.ENFCCNT_EXPIRED)))

/-! ### The legacy interfaces -/

/-- R65, R382-R390: a running channel carries out at the edge at which it is due the instruction at its PC, with the fields of its microcode word,
and one PSCLK later the next; a ball's level is accepted no sooner than FILT + 1 PSCLK after its last change, and reads 0 without a GIO
ball; WAITL, PUT and GET wait and are resumed, or time out; a command that is not the instruction at PC changes nothing. GO, STOP,
the FIFOs and the code store answer by RCSTAT.WSTAT. -/
def Obligations.RecitationRunsItsCode : Prop :=
  ∀ (s : State) c, c < s.variant.nRecit →
    (∀ k,
      let u := s.advance k
      let x := u.rc c
      let v := (u.rd (R.RCCODE c x.pc)).toNat % 2 ^ 24
      let f (lo w : Nat) : Nat := v / 2 ^ lo % 2 ^ w
      let runs := x.state = .running ∧ u.mode ∈ [Mode.prepare, .run, .hold]
      let ready (op : Nat) : Prop := runs ∧ x.wait = false ∧ x.dueK = k ∧ f 20 4 = op
      let waits (op : Nat) : Prop := runs ∧ x.wait = true ∧ f 20 4 = op
      let after (y : Rc) (pc : Nat) : State := u.setRc c { y with pc := pc % 64, dueK := k + 1, wait := false }
      let stays (y : Rc) : State := u.setRc c { y with wait := true, waitK := k }
      let mask := BitVec.ofNat 8 (f 8 8)
      let masked (old new : BitVec 8) : BitVec 8 := (old &&& ~~~mask) ||| (new &&& mask)
      let value := BitVec.ofNat 8 (f 0 8)
      let shifted : BitVec 8 := (x.d >>> f 0 5).truncate 8
      let pair := u.fld (R.RCCFG c) R.RCCFG_PAIR = 1
      let ct := if f 19 1 = 0 then (x.counts k).1 else (x.counts k).2
      let y := x.counted k
      let limit := f 0 15 * if u.fld (R.RCCFG c) R.RCCFG_TOUNIT = 0 then 128 else 131072
      let past := f 0 15 ≠ 0 ∧ x.waitK + limit < k
      let withCt (n : Nat) : Rc := if f 19 1 = 0 then { y with ct0 := n } else { y with ct1 := n }
      (∀ acc, ∀ op row,
        (op, row) ∈ [(0, Instr.rcDrive c k), (1, .rcEnable c k), (2, .rcDelay c k), (3, .rcWaitl c k acc), (4, .rcSample c k acc),
          (5, .rcPut c k), (6, .rcGet c k), (7, .rcOutd c k), (8, .rcCntLoad c k), (8, .rcCntStart c k), (8, .rcCntStop c k),
          (8, .rcCntRead c k), (9, .rcDjnz c k), (10, .rcJmp c k), (11, .rcJif c k acc), (12, .rcJeq c k), (13, .rcLdi c k),
          (14, .rcIrq c k), (15, .rcHalt c k)] →
        ¬ready op → s.Gives row u) ∧
      (f 16 1 = 0 →
        (ready 0 → s.Gives (.rcDrive c k) (after { x with lvl := masked x.lvl value } (x.pc + 1))) ∧
        (ready 1 → s.Gives (.rcEnable c k) (after { x with oe := masked x.oe value } (x.pc + 1))) ∧
        (ready 7 → s.Gives (.rcOutd c k) (after { x with lvl := masked x.lvl shifted } (x.pc + 1)))) ∧
      (f 16 1 = 1 → ¬pair →
        (ready 0 → s.Gives (.rcDrive c k) (after x (x.pc + 1))) ∧ (ready 1 → s.Gives (.rcEnable c k) (after x (x.pc + 1))) ∧
        (ready 7 → s.Gives (.rcOutd c k) (after x (x.pc + 1)))) ∧
      (f 16 1 = 1 → pair →
        let z := u.rc (c + 1)
        let both (row : Instr) (z' : Rc) : Prop :=
          s.Leads row (fun t => t.rc (c + 1) = z' ∧ t.rc c = { x with pc := (x.pc + 1) % 64, dueK := k + 1, wait := false })
        (ready 0 → both (.rcDrive c k) { z with lvl := masked z.lvl value }) ∧
        (ready 1 → both (.rcEnable c k) { z with oe := masked z.oe value }) ∧
        (ready 7 → both (.rcOutd c k) { z with lvl := masked z.lvl shifted })) ∧
      (ready 2 → s.Gives (.rcDelay c k) (u.setRc c { x with pc := (x.pc + 1) % 64, dueK := k + f 0 20 + 1, wait := false })) ∧
      (∀ acc,
        let seen := u.rcAccept c k acc
        let w := seen.rc c
        let a := seen.rcLevels c
        let new (b : Nat) : Prop := acc.getLsbD b ≠ x.acc.getLsbD b ∧
          ∀ e, x.accK.getD b none = some e → e + u.fld (R.RCCFG c) R.RCCFG_FILT + 1 ≤ k
        let met := a.getLsbD (f 16 4) = true ↔ f 15 1 = 1
        (∀ b, b < 16 → (w.acc.getLsbD b = true ↔ (x.acc.getLsbD b = true ↔ ¬new b)) ∧
          (a.getLsbD b = true ↔ w.acc.getLsbD b = true ∧ u.rcHasBall c b = true)) ∧
        w = { x with acc := w.acc, accK := w.accK } ∧
        (ready 3 → met → s.Gives (.rcWaitl c k acc) (after w (x.pc + 1))) ∧
        (ready 3 → ¬met → s.Gives (.rcWaitl c k acc) (stays w)) ∧
        (waits 3 → ¬past → met → s.Gives (.rcWaitlMet c k acc) (after w (x.pc + 1))) ∧
        (waits 3 → ¬past → ¬met → s.Gives (.rcWaitlMet c k acc) (u.setRc c w)) ∧
        (¬waits 3 ∨ past → s.Gives (.rcWaitlMet c k acc) u) ∧
        (ready 4 → s.Gives (.rcSample c k acc)
          (after { w with d := (x.d <<< 8) ||| BitVec.ofNat 32 (a.toNat / 2 ^ (8 * f 16 1) % 256 &&& f 8 8) } (x.pc + 1))) ∧
        (ready 11 → s.Gives (.rcJif c k acc) (after w (if a.getLsbD (f 16 4) == decide (f 15 1 = 1) then f 0 6 else x.pc + 1)))) ∧
      (waits 3 → f 0 15 ≠ 0 → x.waitK + limit = k → s.Gives (.rcWaitlTimeout c k)
        (after { x with topc := x.pc } (u.fld (R.RCCFG c) R.RCCFG_TOVEC))) ∧
      (¬(waits 3 ∧ f 0 15 ≠ 0 ∧ x.waitK + limit = k) → s.Gives (.rcWaitlTimeout c k) u) ∧
      (let pushed := { x with rx := x.rx ++ [x.d] }
       (ready 5 → x.rx.length < 16 → s.Gives (.rcPut c k) (after pushed (x.pc + if f 0 1 = 1 then 2 else 1))) ∧
       (ready 5 → 16 ≤ x.rx.length → f 0 1 = 1 → s.Gives (.rcPut c k) (after x (x.pc + 1))) ∧
       (ready 5 → 16 ≤ x.rx.length → f 0 1 = 0 → s.Gives (.rcPut c k) (stays x)) ∧
       (waits 5 → x.rx.length < 16 → s.Gives (.rcPutResume c k) (after pushed (x.pc + 1))) ∧
       (¬(waits 5 ∧ x.rx.length < 16) → s.Gives (.rcPutResume c k) u)) ∧
      (∀ d rest, x.tx = d :: rest →
        (ready 6 → s.Gives (.rcGet c k) (after { x with tx := rest, d := d } (x.pc + 1))) ∧
        (waits 6 → s.Gives (.rcGetResume c k) (after { x with tx := rest, d := d } (x.pc + 1)))) ∧
      (ready 6 → x.tx = [] → s.Gives (.rcGet c k) (stays x)) ∧
      (¬(waits 6 ∧ x.tx ≠ []) → s.Gives (.rcGetResume c k) u) ∧
      (ready 8 →
        (f 16 2 = 0 → s.Gives (.rcCntLoad c k) (after (withCt x.d.toNat) (x.pc + 1))) ∧
        (f 16 2 = 1 → s.Gives (.rcCntStart c k) (after (if f 19 1 = 0 then { y with on0 := true } else { y with on1 := true }) (x.pc + 1))) ∧
        (f 16 2 = 2 → s.Gives (.rcCntStop c k) (after (if f 19 1 = 0 then { y with on0 := false } else { y with on1 := false }) (x.pc + 1))) ∧
        (f 16 2 = 3 → s.Gives (.rcCntRead c k) (after { y with d := BitVec.ofNat 32 ct } (x.pc + 1)))) ∧
      (ready 9 → s.Gives (.rcDjnz c k)
        (after (withCt ((ct + 2 ^ 40 - 1) % 2 ^ 40)) (if (ct + 2 ^ 40 - 1) % 2 ^ 40 = 0 then x.pc + 1 else f 0 6))) ∧
      (ready 10 → s.Gives (.rcJmp c k) (after x (f 0 6))) ∧
      (ready 12 → s.Gives (.rcJeq c k) (after x (if x.d.toNat % 256 = f 6 8 then f 0 6 else x.pc + 1))) ∧
      (ready 13 → s.Gives (.rcLdi c k) (after { x with d := BitVec.ofNat 32 (f 0 20) } (x.pc + 1))) ∧
      (let raised (t : State) : Prop := t.fld (R.IRQCNT (0xC8 + c)) R.IRQCNT_COUNT = min 15 (u.fld (R.IRQCNT (0xC8 + c)) R.IRQCNT_COUNT + 1)
       (ready 14 → s.Leads (.rcIrq c k) (fun t => raised t ∧ t.rc c =
         { x with code := f 0 8, pc := (x.pc + 1) % 64, dueK := k + 1, wait := false })) ∧
       (ready 15 → s.Leads (.rcHalt c k) (fun t => raised t ∧ (t.rc c).state = .stopped ∧ (t.rc c).why = 1 ∧ (t.rc c).code = f 0 8 ∧
         (t.rc c).pc = x.pc ∧ (t.rc c).d = x.d)))) ∧
    ∀ r (v : Word),
      let w := s.asker r
      let x := s.rc c
      let told (t : State) (code : Nat) : Prop := t.rdReq w.id (R.RCSTAT c) = BitVec.ofNat 32 (code * 2 ^ 28)
      let kept (t : State) (code : Nat) : Prop := told t code ∧ t.rcs = s.rcs
      let reserved := c % 2 = 1 ∧ s.fld (R.RCCFG (c - 1)) R.RCCFG_PAIR = 1
      let bars := s.mode ∉ [Mode.prepare, .run, .hold] ∨ s.mode = .hold ∧ s.fld (R.RCCFG c) R.RCCFG_HOLDRUN = 0
      (∀ start, start < 64 →
        let go := s.Does r (R.RCCTL c) (R.RCCTL_START.put (R.RCCTL_GO.put 0 1) start) (.rcctlGo r c start)
        (x.state ≠ .stopped ∨ reserved → go (fun t => kept t 4)) ∧
        (x.state = .stopped → ¬reserved → bars → go (fun t => kept t 6)) ∧
        (x.state = .stopped → ¬reserved → ¬bars → go (fun t => told t 0 ∧
          t.rc c = { x with state := .running, wait := false, dueK := s.now + 1, pc := start }))) ∧
      (let stop := s.Does r (R.RCCTL c) (R.RCCTL_STOP.put 0 1) (.rcctlStop r c)
       (x.state = .stopped → stop (fun t => kept t 0)) ∧
       (x.state ≠ .stopped → stop (fun t => told t 0 ∧ (t.rc c).state = .stopped ∧ (t.rc c).why = 2 ∧ (t.rc c).pc = x.pc ∧
         (t.rc c).lvl = x.lvl ∧ (t.rc c).oe = x.oe))) ∧
      (let flush (tx : Bool) (P : State → Prop) : Prop :=
         if tx then s.Does r (R.RCCTL c) (R.RCCTL_FLUSHTX.put 0 1) (.rcctlFlushtx r c) P
         else s.Does r (R.RCCTL c) (R.RCCTL_FLUSHRX.put 0 1) (.rcctlFlushrx r c) P
       (x.state = .stopped → flush true (fun t => told t 0 ∧ t.rc c = { x with tx := [] }) ∧
         flush false (fun t => told t 0 ∧ t.rc c = { x with rx := [] })) ∧
       (x.state ≠ .stopped → ∀ b, flush b (fun t => kept t 2))) ∧
      (16 ≤ x.tx.length → s.Does r (R.RCTX c) v (.rctxWrite r c v) (fun t => kept t 5)) ∧
      (x.tx.length < 16 → s.Does r (R.RCTX c) v (.rctxWrite r c v) (fun t => told t 0 ∧ t.rc c = { x with tx := x.tx ++ [v] })) ∧
      (x.rx = [] → s.DoesRead r (R.RCRX c) (.rcrxRead r c) (fun t => t.rdata = 0 ∧ t.rcs = s.rcs)) ∧
      (∀ d rest, x.rx = d :: rest → s.DoesRead r (R.RCRX c) (.rcrxRead r c) (fun t => t.rdata = d ∧ t.rc c = { x with rx := rest })) ∧
      ∀ n, n < 64 →
        let code := s.Does r (R.RCCODE c n) v (.rccodeWrite r c n v)
        (x.state = .stopped → ¬reserved → code (fun t => told t 0 ∧ t.rd (R.RCCODE c n) = v &&& 0xFFFFFF)) ∧
        (x.state ≠ .stopped ∨ reserved → code (fun t => told t 2 ∧ t.rd (R.RCCODE c n) = s.rd (R.RCCODE c n)))

/-- R192, R391-R397: characters go into the FIFOs with their flags, or are refused, dropped or obeyed as XON and XOFF; a receiver without a ball hears
none; a frame is sent bit by bit when the flow control lets it, with RS485 one bit time after DE rises, and ends after its ticks; CTS_N,
breaks, idle time and the triggers raise their sources. -/
def Obligations.SerialPortsServeCharacters : Prop :=
  ∀ (s : State) u, u < 4 →
    let x := s.uart u
    let raised (a t : State) (i : Nat) : Prop :=
      t.fld (R.IRQCNT (0xD0 + 4 * u + i)) R.IRQCNT_COUNT = min 15 (a.fld (R.IRQCNT (0xD0 + 4 * u + i)) R.IRQCNT_COUNT + 1)
    let tick (a : State) : Nat := 64 * a.fld (R.UBAUD u) R.UBAUD_I + a.fld (R.UBAUD u) R.UBAUD_F
    let ticks (a : State) : Nat :=
      16 * (1 + a.fld (R.UCFG u) R.UCFG_DBITS + if a.fld (R.UCFG u) R.UCFG_PAR = 0 then 0 else 1) + 16 + 8 * a.fld (R.UCFG u) R.UCFG_STOP
    let passed (a : State) (n k0 : Nat) : Prop := n * tick a ≤ 64 * (a.now + 1 - k0)
    let on (a : State) : Prop := a.fld (R.UCTL u) R.UCTL_EN = 1 ∧ (a.mode ∈ [Mode.prepare, .run, .hold, .safe] ∨
      a.mode = .dawn ∧ 6 ≤ a.fld R.DAWNSTAT R.DAWNSTAT_STEP)
    (∀ r (v : Word),
      let w := s.asker r
      let told (t : State) (code : Nat) : Prop := t.rdReq w.id (R.USTAT u) = BitVec.ofNat 32 (code * 2 ^ 20)
      (32 ≤ x.tx.length → s.Does r (R.UTX u) v (.utxWrite r u v) (fun t => told t 5 ∧ t.uarts = s.uarts)) ∧
      (x.tx.length < 32 → s.Does r (R.UTX u) v (.utxWrite r u v) (fun t => told t 0 ∧ t.uart u = { x with tx := x.tx ++ [v.toNat % 512] })) ∧
      (x.rx = [] → s.DoesRead r (R.URX u) (.urxRead r u) (fun t => t.rdata = 0 ∧ t.uarts = s.uarts)) ∧
      (∀ c rest, x.rx = c :: rest →
        s.DoesRead r (R.URX u) (.urxRead r u) (fun t => t.rdata = BitVec.ofNat 32 c ∧ (t.uart u).rx = rest ∧ (t.uart u).tx = x.tx)) ∧
      (s.rd (R.UCTL u) &&& 0xFFFFFFFC = 0 →
        let ctl := s.rd (R.UCTL u)
        (∀ b : Bool,
          s.Does r (R.UCTL u) (R.UCTL_EN.put ctl b.toNat) (.uartEnable r u b) (fun t => told t 0 ∧ t.uarts = s.uarts ∧
            t.rd (R.UCTL u) = (ctl &&& 2) ||| BitVec.ofNat 32 b.toNat) ∧
          s.Does r (R.UCTL u) (R.UCTL_TXBRK.put ctl b.toNat) (.txbrk r u b) (fun t => told t 0 ∧ t.uarts = s.uarts ∧
            t.rd (R.UCTL u) = (ctl &&& 1) ||| BitVec.ofNat 32 (2 * b.toNat))) ∧
        s.Does r (R.UCTL u) (R.UCTL_FLUSHRX.put ctl 1) (.uartFlushrx r u) (fun t => told t 0 ∧ (t.uart u).rx = [] ∧
          (t.uart u).tx = x.tx ∧ t.rd (R.UCTL u) = ctl) ∧
        s.Does r (R.UCTL u) (R.UCTL_FLUSHTX.put ctl 1) (.uartFlushtx r u) (fun t => told t 0 ∧ t.uart u = { x with tx := [] } ∧
          t.rd (R.UCTL u) = ctl))) ∧
    (∀ k data (par stop : Bool),
      let row := Instr.uartCharacterReceived u k data par stop
      let a := s.advance k
      let y := { a.uart u with rxK := a.now }
      let counted (t : State) (f : F) (b : Bool) : Prop := t.fld (R.UERR u) f = min 255 (a.fld (R.UERR u) f + b.toNat)
      let cfg (f : F) : Nat := a.fld (R.UCFG u) f
      let c := data % 2 ^ cfg R.UCFG_DBITS
      let want := a.uartParity u c
      let perr := want.any (· != par)
      let brk := c == 0 && !stop && (want.isNone || !par)
      let hears := on a ∧ if cfg R.UCFG_LOOP = 1 then data = 0 ∧ stop = false ∧ a.fld (R.UCTL u) R.UCTL_TXBRK = 1
        else (a.ballOf (384 + 4 * u + 1)).isSome = true
      let echo := cfg R.UCFG_ECHOSUP = 1 ∧ y.de = true
      let stored := y.brk = false ∧ ¬echo ∧ (cfg R.UCFG_XONXOFF = 0 ∨ brk = true ∨ stop = false ∨
        c ≠ a.fld (R.UFLOW u) R.UFLOW_XOFF ∧ c ≠ a.fld (R.UFLOW u) R.UFLOW_XON)
      let flow := y.brk = false ∧ ¬echo ∧ cfg R.UCFG_XONXOFF = 1 ∧ brk = false ∧ stop = true
      (¬hears → s.Gives row a) ∧
      (hears → y.brk = true → s.Gives row (a.setUart u y)) ∧
      (hears → y.brk = false → echo → s.Leads row (fun t => t.uart u = { y with brk := brk })) ∧
      (hears → stored → y.rx.length < 32 → s.Leads row (fun t =>
        (t.uart u).rx = y.rx ++ [c + 512 * perr.toNat + 1024 * (!stop).toNat + 2048 * brk.toNat + 32768] ∧ (t.uart u).brk = brk ∧
        (t.uart u).rxK = a.now ∧
        counted t R.UERR_FERR (!stop) ∧ counted t R.UERR_PERR perr ∧ counted t R.UERR_BRK brk ∧ counted t R.UERR_OVR false ∧
        (y.rx.length + 1 = a.fld (R.UTRIG u) R.UTRIG_RXTRIG → raised a t 0) ∧ (brk = true → raised a t 3) ∧
        (perr = true ∨ stop = false → raised a t 2))) ∧
      (hears → stored → 32 ≤ y.rx.length → s.Leads row (fun t => (t.uart u).rx = y.rx ∧ counted t R.UERR_OVR true ∧ raised a t 2)) ∧
      (hears → flow → c = a.fld (R.UFLOW u) R.UFLOW_XOFF → s.Leads row (fun t => t.uart u = { y with held := true } ∧ raised a t 3)) ∧
      (hears → flow → c ≠ a.fld (R.UFLOW u) R.UFLOW_XOFF → c = a.fld (R.UFLOW u) R.UFLOW_XON →
        s.Leads row (fun t => t.uart u = { y with held := false } ∧ t.rd (R.UERR u) = a.rd (R.UERR u)))) ∧
    (∀ k,
      let a := s.advance k
      let y := a.uart u
      let may := on a ∧ a.fld (R.UCTL u) R.UCTL_TXBRK = 0 ∧ (a.fld (R.UCFG u) R.UCFG_RTSCTS = 1 → y.cts = false) ∧
        (y.owed ≠ none ∨ y.tx ≠ [] ∧ y.held = false)
      let de := a.fld (R.UCFG u) R.UCFG_RS485 == 1
      let bits (c : Nat) : List Bool :=
        [false] ++ (upFrom 0 (a.fld (R.UCFG u) R.UCFG_DBITS)).map c.testBit ++ (a.uartParity u c).toList ++ [true]
      let start := a.now + if de && !y.de then tick a / 4 else 0
      let sends (P : State → Prop) : Prop := s.Leads (.uartFrameTransmit u k) P
      (y.frame.isSome = true ∨ ¬may → s.Gives (.uartFrameTransmit u k) a) ∧
      (∀ off, y.frame = none → may → y.owed = some off →
        let c := a.fld (R.UFLOW u) (if off then R.UFLOW_XOFF else R.UFLOW_XON)
        sends (fun t => t.uart u = { y with owed := none, xoff := off, frame := some (bits c, start), char := c, de := de })) ∧
      (∀ c rest, y.frame = none → may → y.owed = none → y.tx = c :: rest →
        sends (fun t => t.uart u = { y with tx := rest, frame := some (bits c, start), char := c, de := de } ∧
          (rest.length = a.fld (R.UTRIG u) R.UTRIG_TXTRIG → raised a t 1))) ∧
      (y.frame = none → s.Gives (.uartFrameEnd u k) a) ∧
      (∀ b k0, y.frame = some (b, k0) →
        (¬passed a (ticks a) k0 → s.Gives (.uartFrameEnd u k) a) ∧
        (passed a (ticks a) k0 → a.fld (R.UCFG u) R.UCFG_LOOP = 0 → s.Gives (.uartFrameEnd u k)
          (a.setUart u (if a.uartCanSend u then { y with frame := none } else { y with frame := none, de := false }))) ∧
        (passed a (ticks a) k0 → a.fld (R.UCFG u) R.UCFG_LOOP = 1 → on a → y.brk = false → a.fld (R.UCFG u) R.UCFG_ECHOSUP = 0 →
          a.fld (R.UCFG u) R.UCFG_XONXOFF = 0 → y.rx.length < 32 →
          s.Leads (.uartFrameEnd u k) (fun t => (t.uart u).frame = none ∧
            (t.uart u).rx = y.rx ++ [y.char % 2 ^ a.fld (R.UCFG u) R.UCFG_DBITS + 32768]))) ∧
      (let n := a.fld (R.UTRIG u) R.UTRIG_IDLE
       let waits := on a ∧ y.rx ≠ [] ∧ n ≠ 0 ∧ passed a (n * ticks a) y.rxK
       (waits → s.Leads (.uartIdleTimeout u k) (fun t => t.uarts = a.uarts ∧ raised a t 0)) ∧
       (¬waits → s.Gives (.uartIdleTimeout u k) a))) ∧
    s.Gives (.uartBreakEnd u) (s.setUart u { x with brk := false }) ∧
    (let ball := (s.ballOf (384 + 4 * u + 3)).isSome = true
     (¬ball → ∀ high, s.Gives (.ctsNChange u high) s) ∧
     (ball → s.Gives (.ctsNChange u x.cts) s ∧
       s.Leads (.ctsNChange u (!x.cts)) (fun t => t.uart u = { x with cts := !x.cts } ∧ raised s t 3)))

/-- R398-R403: a scan cycle begins at a boundary, CYCLE times 25 pin epochs after the last, with the image that the mode gives; the boards latch
it as OLAT rises when the check word passes, and 8 PSCLK later the inputs are published; failures in succession end in FAULT, and CLRFLT
ends that. EN starts a valid configuration; outputs are written point by point, those of the Guard world by the Guard world alone. (The
phase of the first cycle and the instants within one are assumption 119, DESIGN CHOICE.) -/
def Obligations.AttendanceScans : Prop :=
  ∀ (s : State),
    let raised (t : State) (n : Nat) : Prop := t.fld (R.IRQCNT n) R.IRQCNT_COUNT = min 15 (s.fld (R.IRQCNT n) R.IRQCNT_COUNT + 1)
    (∀ k inputs word,
      let u := s.advance k
      let x := u.att
      let row := Instr.scanCycle k inputs word
      let period := 200 * u.fld R.ATIME R.ATIME_CYCLE
      let begins := x.state ≠ .off ∧ u.clocks = true ∧ u.now % 8 = 0 ∧ (∀ n, x.nextK = some n → u.now = n) ∧
        (x.nextK = none → x.enK < u.now ∧ u.now ≤ x.enK + period)
      let image (n : Nat) : Word :=
        if x.state = .fault then u.rd (R.ASAFE n)
        else if u.mode = .run then u.rd (R.AOUT n)
        else if u.mode = .hold then
          (x.image.getD n (u.rd (R.ASAFE n)) &&& ~~~u.rd (R.AHLIVE n)) ||| (u.rd (R.AOUT n) &&& u.rd (R.AHLIVE n))
        else u.rd (R.ASAFE n)
      let want := if x.cycle / 16 % 2 = 0 then 2 ^ (x.cycle % 16) else 65535 - 2 ^ (x.cycle % 16)
      (¬begins → s.Gives row u) ∧
      (begins → s.Leads row (fun t => t.att.cycle = x.cycle + 1 ∧ t.att.nextK = some (u.now + period) ∧ t.att.state = x.state ∧
        t.att.board = x.board ∧ ∃ c, t.att.shift = some c ∧ c.start = u.now ∧ c.inputs = inputs ∧ c.word = word ∧ c.check = want ∧
          c.latched = false ∧ ∀ n, n < 32 → c.image.getD n 0 = image n))) ∧
    (∀ k (c : AttShift), s.clocks = true → s.att.shift = some c →
      let x := s.att
      let t := s.advance k
      let nin := s.fld R.ACFG R.ACFG_NIN
      let clocks := nin + s.fld R.ACFG R.ACFG_NOUT + if s.fld R.ACFG R.ACFG_CHKEN = 1 then 16 else 0
      let olat := c.start + (s.fld R.ATIME R.ATIME_LDW + 8 + clocks * (8 * (s.fld R.ATIME R.ATIME_SCKDIV + 1)))
      let pass := s.fld R.ACFG R.ACFG_CHKEN = 0 ∨ c.word % 65536 = c.check
      let lim := if s.fld R.ACHK R.ACHK_INTLIM = 0 then 3 else s.fld R.ACHK R.ACHK_INTLIM
      let bit (p : Nat) : Bool := (c.inputs.getD (p / 32) 0).getLsbD (p % 32)
      (t.now < olat → t.att = x) ∧
      (olat ≤ t.now → t.now < olat + 8 → pass → c.latched = false →
        t.att = { x with board := c.image, shift := some { c with latched := true } }) ∧
      (olat ≤ t.now → t.now < olat + 8 → ¬pass → t.att = x) ∧
      (olat + 8 ≤ t.now → t.att.shift = none ∧ t.att.cycle = x.cycle ∧ raised t 0xE0) ∧
      (olat + 8 ≤ t.now → pass →
        t.att.passed = true ∧ t.att.failRun = 0 ∧ t.att.state = x.state ∧ (c.latched = false → t.att.board = c.image) ∧
        (x.state = .run → t.att.stale = false ∧
          t.fld R.ACYCNT R.ACYCNT_COUNT = (s.fld R.ACYCNT R.ACYCNT_COUNT + 1) % 2 ^ 32 ∧
          ∀ p, p < nin → nin ≤ 1024 →
            let old := (s.rd (R.AIN (p / 32))).getLsbD (p % 32)
            let deb := (s.rd (R.ADEB (p / 8))).toNat / 16 ^ (p % 8) % 16
            (t.rd (R.AIN (p / 32))).getLsbD (p % 32) = (if deb ≤ x.deb.get 0 p then bit p else old) ∧
            (bit p ≠ old → deb ≤ x.deb.get 0 p → (s.rd (R.AIEN (p / 32))).getLsbD (p % 32) = true →
              (t.rd (R.ACHG (p / 32))).getLsbD (p % 32) = true ∧ raised t 0xE1))) ∧
      (olat + 8 ≤ t.now → ¬pass →
        t.att.passed = false ∧ t.att.failRun = min 15 (x.failRun + 1) ∧ t.att.stale = true ∧ t.att.board = x.board ∧
        t.fld R.AERR R.AERR_FAIL = min 65535 (s.fld R.AERR R.AERR_FAIL + 1) ∧ (∀ n, n < 32 → t.rd (R.AIN n) = s.rd (R.AIN n)) ∧
        (x.state = .run → lim ≤ x.failRun + 1 → t.att.state = .fault ∧ raised t 0xE2) ∧
        (x.state = .run → x.failRun + 1 < lim → t.att.state = .run) ∧ (x.state = .fault → t.att.state = .fault))) ∧
    let x := s.att
    ∀ r,
      let w := s.asker r
      let told (t : State) (code : Nat) : Prop := t.rdReq w.id R.ASTAT = BitVec.ofNat 32 (code * 65536)
      let entitled := w.isStaff = true ∨ w.ring ≤ 1
      let enable (b : Bool) (P : State → Prop) : Prop := s.Does r R.ACTL (R.ACTL_EN.put 0 b.toNat) (.attendanceEnable r b) P
      let clear (P : State → Prop) : Prop := s.Does r R.ACTL (R.ACTL_CLRFLT.put (s.rd R.ACTL) 1) (.clrflt r) P
      (¬entitled → (∀ b, enable b (fun t => told t 1 ∧ t.att = x)) ∧ clear (fun t => told t 1 ∧ t.att = x)) ∧
      (entitled → x.state = .off →
        (attBad (s.rd R.ACFG) (s.rd R.ATIME) = true → enable true (fun t => told t 3 ∧ t.att = x)) ∧
        (attBad (s.rd R.ACFG) (s.rd R.ATIME) = false → enable true (fun t => told t 0 ∧ t.fld R.ACTL R.ACTL_EN = 1 ∧
          t.att = { x with state := .run, failRun := 0, stale := false, cycle := 0, passed := false, deb := [], nextK := none,
                                  enK := s.now }))) ∧
      (entitled → x.state ≠ .off → enable false (fun t => told t 0 ∧ t.fld R.ACTL R.ACTL_EN = 0 ∧ t.att = { x with state := .off, shift := none })) ∧
      (entitled → (s.fld R.ACTL R.ACTL_EN = 1 ↔ x.state ≠ .off) →
        (x.state = .fault → x.passed = true →
          clear (fun t => told t 0 ∧ t.att = { x with state := .run, failRun := 0, stale := false } ∧ raised t 0xE3)) ∧
        (¬(x.state = .fault ∧ x.passed = true) → clear (fun t => told t 2 ∧ t.att = x))) ∧
      ∀ n (v : Word), n < 32 →
        let out := s.rd (R.AOUT n)
        let guard := if w.shop then s.rd (R.AGUARD n) else 0
        let does (row : Rq → Nat → Word → Instr) (a : Nat) (mask new : Word) : Prop :=
          (entitled → s.Does r a v (row r n v) (fun t => t.rd (R.AOUT n) = new ∧ t.rdReq w.id (R.AREJ n) = mask &&& guard ∧
            told t (if mask &&& guard = 0 then 0 else if mask &&& guard = mask then 1 else 6))) ∧
          (¬entitled → s.Does r a v (row r n v) (fun t => t.rd (R.AOUT n) = out ∧ t.rdReq w.id (R.AREJ n) = mask ∧ told t 1))
        does .aoutWrite (R.AOUT n) 0xFFFFFFFF ((out &&& guard) ||| (v &&& ~~~guard)) ∧
        does .aosetWrite (R.AOSET n) v (out ||| (v &&& ~~~guard)) ∧
        does .aoclrWrite (R.AOCLR n) v (out &&& ~~~(v &&& ~~~guard))

/-- R404-R408: a frame goes out of the buffer and comes into the buffer that the descriptor at HEAD names; the status, the stamp and HEAD
follow, and no other byte changes. MDIO accesses start and end; wall time under PTP obeys the one requester that PTPCFG names. (The layout
of pause frames is assumption 38, PRESUMED.) (A busy ETMDIO is assumption 105, LOG2N as written assumption 121, both DESIGN CHOICE.) -/
def Obligations.FramesMoveThroughRings : Prop :=
  ∀ (s : State) m, m < s.variant.nMac →
    let raised (a t : State) (i : Nat) : Prop :=
      t.fld (R.IRQCNT (0xE4 + 4 * m + i)) R.IRQCNT_COUNT = min 15 (a.fld (R.IRQCNT (0xE4 + 4 * m + i)) R.IRQCNT_COUNT + 1)
    let inSram (a n : Nat) : Prop := 0x20000000 ≤ a ∧ a + n ≤ 0x20200000
    (∀ k,
      let a := s.advance k
      a.Inv → a.ecc = [] →
      let on (f : F) : Prop := a.fld (R.ETCFG m) f = 1 ∧
        (a.mode ∈ [Mode.prepare, .run, .hold, .safe] ∨ a.mode = .dawn ∧ 6 ≤ a.fld R.DAWNSTAT R.DAWNSTAT_STEP)
      let only (t : State) (keep : Nat → Prop) : Prop := ∀ b, ¬keep b → t.byte b = a.byte b
      (∀ (abort excol : Bool) coll,
        let head := a.fld (R.ETTXHEAD m) R.ETTXHEAD_INDEX
        let d := (a.rd (R.ETTXBASE m)).toNat / 16 * 16 + 16 * head
        let w1 := a.ld 4 (d + 4)
        let buf := a.ld 4 d
        let len := w1 % 2048
        let ts := w1 / 65536 % 2
        let stamp := a.wallAt a.now + a.fld R.PTPCFG R.PTPCFG_TXLAT * 256 / 5
        let ready := on R.ETCFG_TXEN ∧ head ≠ a.fld (R.ETTXTAIL m) R.ETTXTAIL_INDEX ∧ 2 ^ 31 ≤ w1 ∧ inSram d 16 ∧
          (a.mac m).pauseTill ≤ a.now
        let row := Instr.transmitFrame m k abort excol coll
        let served (t : State) (nobuf : Bool) : Prop :=
          t.ld 4 (d + 4) = len + 65536 * ts + 2 ^ 17 * abort.toNat + 2 ^ 18 * excol.toNat + 2 ^ 21 * nobuf.toNat ∧
          t.fld (R.ETTXHEAD m) R.ETTXHEAD_INDEX = (head + 1) % 2 ^ a.fld (R.ETTXCTL m) R.ETTXCTL_LOG2N % 256 ∧
          t.fld (R.ETCNT m) R.ETCNT_COLL = min 255 (a.fld (R.ETCNT m) R.ETCNT_COLL + coll) ∧ raised a t 1
        (¬ready → s.Gives row a) ∧
        (ready → inSram buf (max len 1) → s.Leads row (fun t => served t false ∧
          (t.mac m).sent = (upFrom buf len).map (fun b => (a.byte b).toNat) ++ List.replicate (60 - len) 0 ∧
          (ts = 1 → t.ld 4 (d + 8) = stamp % 2 ^ 32 ∧ t.ld 4 (d + 12) = stamp / 2 ^ 32 % 2 ^ 32) ∧
          only t (fun b => d + 4 ≤ b ∧ b < (if ts = 1 then d + 16 else d + 8)) ∧ (abort = true ∨ excol = true → raised a t 2))) ∧
        (ready → ¬inSram buf (max len 1) → s.Leads row (fun t => served t true ∧ t.macs = a.macs ∧ raised a t 2 ∧
          only t (fun b => d + 4 ≤ b ∧ b < d + 8)))) ∧
      (∀ (l : List Nat) (bad rxer : Bool),
        let row := Instr.receivedFrame m k l bad rxer
        let keep := bad = false ∨ a.fld (R.ETCFG m) R.ETCFG_KEEPBAD = 1
        let dst := numLow (l.take 6)
        let own := (a.rd (R.ETMACL m)).toNat + 2 ^ 32 * a.fld (R.ETMACH m) R.ETMACH_ADDR
        let pause := a.fld (R.ETCFG m) R.ETCFG_PAUSE = 1 ∧ bad = false ∧ rxer = false ∧
          (dst = own ∨ l.take 6 = [0x01, 0x80, 0xC2, 0, 0, 0x01]) ∧ nth l 12 = 0x88 ∧ nth l 13 = 0x08 ∧ nth l 14 = 0 ∧ nth l 15 = 1
        let bin := Config.hashBin (l.take 6) % 64
        let mine := a.fld (R.ETCFG m) R.ETCFG_PROMISC = 1 ∨ dst = 2 ^ 48 - 1 ∨ dst = own ∨
          dst % 2 = 1 ∧ (a.rd (R.ETHASH m (bin / 32))).getLsbD (bin % 32) = true
        let head := a.fld (R.ETRXHEAD m) R.ETRXHEAD_INDEX
        let d := (a.rd (R.ETRXBASE m)).toNat / 16 * 16 + 16 * head
        let w1 := a.ld 4 (d + 4)
        let buf := a.ld 4 d
        let n := min l.length (w1 % 2048)
        let free := head ≠ a.fld (R.ETRXTAIL m) R.ETRXTAIL_INDEX ∧ 2 ^ 31 ≤ w1 ∧ inSram d 16
        let odd := decide (1518 < l.length ∨ l.length < 60)
        let trunc := decide (w1 % 2048 < l.length)
        let counted (t : State) (f : F) (b : Bool) : Prop := t.fld (R.ETCNT m) f = min (2 ^ f.w - 1) (a.fld (R.ETCNT m) f + b.toNat)
        (¬on R.ETCFG_RXEN → s.Gives row a) ∧
        (on R.ETCFG_RXEN → ¬keep → s.Leads row (fun t => counted t R.ETCNT_FCS true ∧ t.mem = a.mem ∧ t.macs = a.macs)) ∧
        (on R.ETCFG_RXEN → pause → s.Leads row (fun t => counted t R.ETCNT_FCS false ∧ t.mem = a.mem ∧
          (t.mac m).pauseTill = a.now + (256 * nth l 16 + nth l 17) * (if a.fld (R.ETCFG m) R.ETCFG_SPEED100 = 1 then 1024 else 10240))) ∧
        (on R.ETCFG_RXEN → keep → ¬pause → ¬mine → s.Leads row (fun t => counted t R.ETCNT_FCS bad ∧ t.mem = a.mem ∧
          t.macs = a.macs ∧ t.rd (R.ETRXHEAD m) = a.rd (R.ETRXHEAD m))) ∧
        (on R.ETCFG_RXEN → keep → ¬pause → mine → ¬free → s.Leads row (fun t => counted t R.ETCNT_DROP true ∧ t.mem = a.mem ∧
          raised a t 2)) ∧
        (on R.ETCFG_RXEN → keep → ¬pause → mine → free → inSram buf (max n 1) → buf + n ≤ d + 4 ∨ d + 16 ≤ buf →
          s.Leads row (fun t =>
            let stamp : Int := (a.wallAt a.now : Int) - (a.fld R.PTPCFG R.PTPCFG_RXLAT * 256 / 5 : Nat)
            (∀ i, i < n → t.byte (buf + i) = BitVec.ofNat 8 (nth l i)) ∧
            t.ld 4 (d + 4) = l.length % 2048 + 2 ^ 17 * bad.toNat + 2 ^ 18 * odd.toNat + 2 ^ 19 * rxer.toNat + 2 ^ 20 * trunc.toNat ∧
            ((t.ld 4 (d + 8) : Int) + 2 ^ 32 * t.ld 4 (d + 12) - stamp) % 2 ^ 64 = 0 ∧
            only t (fun b => d + 4 ≤ b ∧ b < d + 16 ∨ buf ≤ b ∧ b < buf + n) ∧
            t.fld (R.ETRXHEAD m) R.ETRXHEAD_INDEX = (head + 1) % 2 ^ a.fld (R.ETRXCTL m) R.ETRXCTL_LOG2N % 256 ∧
            counted t R.ETCNT_FCS bad ∧ raised a t 0 ∧ (bad || odd || rxer || trunc → raised a t 2))) ∧
        (on R.ETCFG_RXEN → keep → ¬pause → mine → free → ¬inSram buf (max n 1) → s.Leads row (fun t =>
          t.ld 4 (d + 4) = l.length % 2048 + 2 ^ 17 * bad.toNat + 2 ^ 18 * odd.toNat + 2 ^ 19 * rxer.toNat + 2 ^ 20 * trunc.toNat + 2 ^ 21 ∧
          only t (fun b => d + 4 ≤ b ∧ b < d + 16) ∧ raised a t 0 ∧ raised a t 2 ∧
          t.fld (R.ETRXHEAD m) R.ETRXHEAD_INDEX = (head + 1) % 2 ^ a.fld (R.ETRXCTL m) R.ETRXCTL_LOG2N % 256)))) ∧
    (∀ r phy reg data (write : Bool),
      let word := BitVec.ofNat 32 (phy % 32 + 32 * (reg % 32) + 1024 * write.toNat + 2048 + 65536 * (data % 65536))
      let old := s.rd (R.ETMDIO m)
      let busy := s.fld (R.ETMDIO m) R.ETMDIO_BUSY = 1
      s.Does r (R.ETMDIO m) word (.mdioGo r m phy reg data write) (fun t => t.rd (R.ETMDIO m) =
        (if busy ∨ (s.asker r).ring0 = false then old else word ||| 0x1000)) ∧
      (¬busy → s.Gives (.mdioDone m data) s) ∧
      (busy → s.Leads (.mdioDone m data) (fun t => raised s t 3 ∧ t.rd (R.ETMDIO m) =
        (if s.fld (R.ETMDIO m) R.ETMDIO_WRITE = 1 then old &&& 0xFFFFE7FF
          else (old &&& 0xE7FF) ||| BitVec.ofNat 32 (65536 * (data % 65536)))))) ∧
    ∀ r (v : Word),
      let w := s.asker r
      let named := w.isStaff = true ∨ w.ring = 0 ∧ w.id = s.fld R.PTPCFG R.PTPCFG_CORE ∧ (w.guard = true ↔ s.fld R.PTPCFG R.PTPCFG_WORLD = 1)
      let wall (t : State) (code : Nat) : Prop := t.fld R.WALLCTL R.WALLCTL_WSTAT = code
      let adj := s.Does r R.PTPADJ v (.ptpadjWrite r v)
      let step := s.Does r R.PTPSTEPH v (.ptpstepWrite r v)
      let owner := s.fld R.WALLCTL R.WALLCTL_OWNER
      (¬named → adj (fun t => t.wall = s.wall ∧ wall t 1) ∧ step (fun t => t.wall = s.wall ∧ wall t 1)) ∧
      (named → owner ≠ 2 → adj (fun t => t.wall = s.wall ∧ wall t 6) ∧ step (fun t => t.wall = s.wall ∧ wall t 6)) ∧
      (named → owner = 2 →
        adj (fun t => t.wall = { s.wall with adj := v.toInt } ∧ wall t 0) ∧
        (s.wall.step = none → step (fun t => wall t 0 ∧
          t.wall = { s.wall with step := some (sx 64 ((s.rd R.PTPSTEPL).toNat + 2 ^ 32 * v.toNat)) })) ∧
        (s.wall.step ≠ none → step (fun t => t.wall = s.wall ∧ wall t 3)))

/-- R410-R417, R428: a request that arrives whole with a good check byte is answered by the first status of R415 that applies, and a register
reads and takes what R428 gives it; a frame that is short, spoilt, or in the other form changes nothing but the counters. In SPI form the
port sends the reply to the frame before. -/
def Obligations.RequestsAreAnswered : Prop :=
  crc8 [0, 0, 0, 0] = 0xD1 ∧
  ∀ (s : State),
    let x := s.staff
    let early := s.mode = .dawn ∧ (s.dawn = .waitReset ∨ s.dawn = .waitClock)
    let mapped (a : Nat) : Prop := a ≤ 0x32 ∨ 0x40 ≤ a ∧ a ≤ 0x46 ∨ 0x50 ≤ a ∧ a ≤ 0x7F
    let locked (a : Nat) : Prop := 0x40 ≤ a ∧ a ≤ 0x46 ∧ x.sess ≠ .opened
    -- the port sends a reply, the reply for the next frame is fixed, and of the port only `y` is new
    let answers (row : Instr) (y : Staff) (st addr data : Nat) : Prop := s.Leads row (fun t =>
      Raised { s with staff := { y with reply := (st, addr, data), mode3 := t.staff.mode3, goodK := t.staff.goodK }, rdata := t.rdata } t ∧
      t.rdata = (let r := if x.uart then t.staff.reply else x.reply; BitVec.ofNat 32 (2 ^ 24 * r.1 + 65536 * r.2.1 + r.2.2)))
    (∀ row env cmd a v, s.Carries row env cmd a v → s.mode ≠ .night →
      (early → answers row x 9 a 0) ∧
      (¬early → cmd = 0 → answers row x 0 a 0 ∧ s.Leads row (fun t => t.staff.goodK = s.now)) ∧
      (¬early → 3 ≤ cmd → answers row x 5 a 0) ∧
      (¬early → cmd = 1 ∨ cmd = 2 → ¬mapped a → answers row x 6 a 0) ∧
      (¬early → cmd = 1 ∨ cmd = 2 → locked a → answers row x 2 a 0) ∧
      (¬early → cmd = 1 → ¬locked a → ∀ y, s.StaffReads a y → a ≠ 0x0B → answers row x 0 a y) ∧
      (¬early → cmd = 1 → a = 0x0E → answers row { x with crcErrs := 0, frmErrs := 0 } 0 a (x.crcErrs + 256 * x.frmErrs)) ∧
      (¬early → cmd = 1 → ¬locked a → a = 0x45 →
        answers row { x with winErrs := 0 } 0 a (x.winLast + 16 * x.access.isSome.toNat + 256 * x.winErrs)) ∧
      (¬early → cmd = 2 → a ≤ 0x0F ∨ 0x10 ≤ a ∧ a ≤ 0x1F ∨ a = 0x31 ∨ 0x60 ≤ a ∧ a ≤ 0x7F → a ≠ 0x0B → ∀ y, s.StaffReads a y →
        answers row x 0 a y) ∧
      (¬early → cmd = 2 → ∀ i, i < 16 →
        (a = 0x20 + i → s.Leads row (fun t => t.staff.reply = (0, a, 0) ∧ nth t.staff.resp (2 * i) = v / 256 % 256 ∧
          nth t.staff.resp (2 * i + 1) = v % 256 ∧ ∀ j, j < 32 → j / 2 ≠ i → nth t.staff.resp j = nth x.resp j)) ∧
        (a = 0x50 + i → s.Leads row (fun t => t.staff.reply = (0, a, 0) ∧ nth t.staff.xin (2 * i) = v / 256 % 256 ∧
          nth t.staff.xin (2 * i + 1) = v % 256 ∧ ∀ j, j < 32 → j / 2 ≠ i → nth t.staff.xin j = nth x.xin j))) ∧
      (¬early → cmd = 2 → x.sess = .opened →
        (a = 0x46 → let n := if 10 ≤ v ∧ v ≤ 3600 then v else 300; answers row { x with idle := n } 0 a n) ∧
        (x.access.isSome = true → 0x40 ≤ a → a ≤ 0x44 → answers row x 1 a 0) ∧
        (x.access = none → v < 65536 →
          (a = 0x40 → answers row { x with winAddr := x.winAddr / 65536 * 65536 + v } 0 a v) ∧
          (a = 0x41 → answers row { x with winAddr := x.winAddr % 65536 + 65536 * v } 0 a v) ∧
          (a = 0x42 → answers row { x with winData := x.winData / 65536 * 65536 + v } 0 a v) ∧
          (a = 0x44 → v / 8 % 2 = 0 → answers row { x with size := v % 4, inc := v / 4 % 2 == 1 } 0 a (v % 8)))) ∧
      (¬early → cmd = 2 → a = 0x30 → v / 256 ≠ 0x5A → answers row { x with cmdRes := 1 + 256 * (v % 256) } 0x0D a (1 + 256 * (v % 256))) ∧
      (¬early → cmd = 2 → a = 0x32 → v / 256 ≠ 0xA5 → answers row { x with modeRes := 6 + 16 * (v % 8) } 0x0D a (6 + 16 * (v % 8)))) ∧
    (∀ env edges (m whole : Bool) (v : BitVec 40),
      let good := crc8 [v.toNat / 2 ^ 32, v.toNat / 2 ^ 24 % 256, v.toNat / 2 ^ 16 % 256, v.toNat / 2 ^ 8 % 256] = v.toNat % 256
      let lost := { x with frmErrs := min 255 (x.frmErrs + 1) }
      let spoilt := { x with crcErrs := min 255 (x.crcErrs + 1) }
      (x.uart = true ∨ s.mode = .night → s.Gives (.spiFrame env edges m v) s) ∧
      (x.uart = false ∨ s.mode = .night → s.Gives (.uartFormRequest env whole v) s ∧ s.Gives .uartFormGapTimeout s) ∧
      (x.uart = false → s.mode ≠ .night → ¬early →
        (edges ≠ 40 → answers (.spiFrame env edges m v) lost 4 0 0) ∧
        (¬good → answers (.spiFrame env 40 m v) spoilt 3 0 0)) ∧
      (x.uart = true → s.mode ≠ .night →
        s.Gives .uartFormGapTimeout { s with staff := lost } ∧
        (¬early → answers (.uartFormRequest env false v) lost 4 0 0) ∧
        (¬early → ¬good → answers (.uartFormRequest env true v) spoilt 3 0 0)) ∧
      (x.uart = false → s.mode ≠ .night → edges ≠ 40 → s.Leads (.spiFrame env edges m v) (fun t => t.staff.mode3 = m))) ∧
    ∀ y, s.mode ≠ .night → ¬early → s.StaffReads 0x0B y → answers (.staffRead 0x0B) x 0 0x0B y

/-- R418-R422, R426, R438, R439: OPEN draws a nonce, or waits for one, or is refused; PROVE opens the session when the tag of the nonce under
the session key stands in RESP, and else counts the failure and locks out from the fifth on; sessions end by CLOSE, by idling and by the end
of their challenge. Session events enter the Logbook, and entries are programmed in their order. (That a lockout adds to what is left is
assumption 123, DEDUCED.) -/
def Obligations.SessionsOpenAndClose : Prop :=
  ∀ (s : State), s.mode ≠ .night → ¬(s.mode = .dawn ∧ (s.dawn = .waitReset ∨ s.dawn = .waitClock)) →
    let x := s.staff
    let k := s.key 1
    let ran (row : Instr) (code res : Nat) (P : State → Prop) : Prop := s.Leads row (fun t => t.staff.cmdRes = res + 256 * code ∧
      t.staff.reply = (if res = 0 ∨ res = 4 then 0 else 0x0D, 0x30, res + 256 * code) ∧ P t)
    let free := s.hall.lockout = 0 ∧ k.state = .set ∧ s.fld R.RNGSTAT R.RNGSTAT_STOPPED = 0
    let draws := (s.drbg 9).state = .ready ∧ (s.drbg 9).reqs < 4096 ∧ s.now < (s.drbg 9).seedK + 200000000 ∧
      s.fld R.RNGSTAT R.RNGSTAT_RAWON = 0
    let is (t : State) (q : SessState) : Prop := t.staff.sess = q
    let kept (t : State) : Prop := is t (if x.sess = .drawing then .closed else x.sess) ∧ t.staff.chal = x.chal
    let challenged (t : State) : Prop := is t .challenged ∧ ∃ n : List Word, n.length = 8 ∧ t.staff.chal = wordBytes n
    let ended (t : State) : Prop := is t .closed ∧ t.staff.chal = [] ∧ t.staff.resp = []
    let logged (t : State) (event addr new : Nat) : Prop := s.logQ.length < 32 → ∃ e, t.logQ = s.logQ ++ [e] ∧
      e.word3 = 5 + 64 * 3 + 256 * event + 65536 * t.hall.snum ∧ e.addr = addr ∧ e.old = 0 ∧ e.new = new
    (s.hall.lockout ≠ 0 → ran .openSession 1 3 kept) ∧
    (s.hall.lockout = 0 → k.state ≠ .set → ran .openSession 1 6 kept) ∧
    (s.hall.lockout = 0 → k.state = .set → s.fld R.RNGSTAT R.RNGSTAT_STOPPED = 1 → ran .openSession 1 5 kept) ∧
    (free → draws → ran .openSession 1 0 challenged) ∧
    (free → ¬draws → ran .openSession 1 4 (fun t => is t .drawing ∧ t.staff.chal = [])) ∧
    (x.sess = .drawing → draws → s.Leads .nonceDrawn (fun t => challenged t ∧ t.staff.cmdRes = 0x100)) ∧
    (x.sess ≠ .drawing ∨ ¬draws → s.Gives .nonceDrawn s) ∧
    (let tag := hmac256 k.key ([0x46, 0x4E, 0x53, 0x54] ++ x.chal)
     let f := min 15 (s.hall.fails + 1)
     let cleared (t : State) : Prop := t.staff.chal = [] ∧ t.staff.resp = []
     (x.sess ≠ .challenged → ran .prove 2 7 (fun t => is t x.sess ∧ cleared t ∧ t.hall = s.hall)) ∧
     (x.sess = .challenged → k.state = .set → tag.length = 32 → x.resp = tag → ran .prove 2 0 (fun t => is t .opened ∧ cleared t ∧
       t.hall = { s.hall with fails := 0, snum := (s.hall.snum + 1) % 65536 } ∧ t.staff.memWr = 0 ∧ logged t 1 2 0)) ∧
     (x.sess = .challenged → k.state ≠ .set ∨ x.resp.length = 32 ∧ x.resp ≠ tag → ran .prove 2 8 (fun t => ended t ∧
       (f < 5 → t.hall = { s.hall with fails := f } ∧ logged t 2 2 f) ∧
       (5 ≤ f → t.hall = { s.hall with fails := f, lockout := s.hall.lockout + 32768 * min (60 * 2 ^ (f - 5)) 3600 } ∧
         (s.logQ.length < 31 → ∃ e e', t.logQ = s.logQ ++ [e, e'] ∧ e.new = f ∧ e.word3 = 5 + 64 * 3 + 256 * 2 + 65536 * s.hall.snum ∧
           e'.word3 = 5 + 64 * 3 + 256 * 3 + 65536 * s.hall.snum ∧ e'.new = min (60 * 2 ^ (f - 5)) 3600))))) ∧
    (x.sess = .opened → ran .closeSession 3 0 (fun t => ended t ∧ logged t 4 3 x.memWr)) ∧
    (x.sess ≠ .opened → ran .closeSession 3 2 (fun t => is t x.sess ∧ t.logQ = s.logQ) ∧ ran .snap 0x20 2 (fun t => t.page = s.page)) ∧
    (∀ j,
      let u := s.advance j
      let y := u.staff
      let idle := y.sess = .opened ∧ y.goodK + 200000000 * y.idle ≤ u.now
      let expired := y.sess = .challenged ∧ y.chalK + 2000000000 ≤ u.now
      (idle → s.Leads (.sessionIdle j) (fun t => ended t ∧ (u.logQ.length < 32 → ∃ e, t.logQ = u.logQ ++ [e] ∧
        e.word3 = 5 + 64 * 3 + 256 * 5 + 65536 * u.hall.snum ∧ e.addr = 0 ∧ e.old = 0 ∧ e.new = y.memWr))) ∧
      (¬idle → s.Gives (.sessionIdle j) u) ∧
      (expired → s.Gives (.challengeExpired j) { u with staff := { y with sess := .closed, chal := [], resp := [] } }) ∧
      (¬expired → s.Gives (.challengeExpired j) u)) ∧
    (s.hall.lockout = 1 → s.Gives .lockoutExpired { s with hall := { s.hall with lockout := 0 } }) ∧
    (s.hall.lockout ≠ 1 → s.Gives .lockoutExpired s) ∧
    (s.logQ = [] → s.Gives .logbookEntry s) ∧
    ∀ e rest, s.Inv → s.logQ = e :: rest →
      let n := s.fld R.LBSTAT R.LBSTAT_NEXT
      let a := R.LOGENT n 0
      let seq := (s.rd R.LBSEQ).toNat % 0xFFFFFFFF + 1
      s.Leads .logbookEntry (fun t => t.logQ = rest ∧ t.rd R.LBSEQ = BitVec.ofNat 32 seq ∧
        t.fld R.LBSTAT R.LBSTAT_NEXT = (n + 1) % 2 ^ R.LBSTAT_NEXT.w ∧ (∀ b, b < a ∨ a + 32 ≤ b → t.byte b = s.byte b) ∧
        t.ld 28 a = (seq + 2 ^ 32 * (e.time % 2 ^ 64) + 2 ^ 96 * e.word3 + 2 ^ 128 * e.addr + 2 ^ 160 * e.old + 2 ^ 192 * e.new) % 2 ^ 224 ∧
        t.ld 4 (a + 28) = crc32 ((upFrom a 28).map (fun b => (t.byte b).toNat)))

/-- R429-R432, R434-R436: a window access starts and, at its end, is judged by R430 and touches what its address names; the port waits for it.
A refresh of the page takes every register as it reads, without the effects of a read. -/
def Obligations.WindowAccessesAreJudged : Prop :=
  ∀ (s : State), s.mode ≠ .night → ¬(s.mode = .dawn ∧ (s.dawn = .waitReset ∨ s.dawn = .waitClock)) →
    let x := s.staff
    let size (n : Nat) : Nat := min 4 (2 ^ n)
    let starts (row : Instr) (reply : Nat × Nat × Nat) (y : Staff) : Prop := s.Leads row (fun t => t.staff = { y with reply := reply })
    (x.sess ≠ .opened → (∀ n b, starts (.windowReadStart n b) (2, 0x44, 0) x) ∧ starts .windatahRead (2, 0x43, 0) x ∧
      ∀ v, starts (.windowWriteStart v) (2, 0x43, 0) x) ∧
    (x.sess = .opened → x.access.isSome = true → (∀ n b, starts (.windowReadStart n b) (1, 0x44, 0) x) ∧ starts .windatahRead (1, 0x43, 0) x ∧
      ∀ v, starts (.windowWriteStart v) (1, 0x43, 0) x) ∧
    (x.sess = .opened → x.access = none →
      (∀ n (inc : Bool), n < 3 → starts (.windowReadStart n inc) (0, 0x44, n + 4 * inc.toNat)
        { x with size := n, inc := inc, access := some { write := false, addr := x.winAddr, n := size n, val := x.winData } }) ∧
      (let data := x.winData / 65536
       let reply := (x.rdStat, 0x43, if x.rdStat = 0 then data else 0)
       (x.inc = false → starts .windatahRead reply x) ∧
       (x.inc = true → starts .windatahRead reply
         { x with winAddr := (x.winAddr + size x.size) % 2 ^ 32
                  access := some { write := false, addr := (x.winAddr + size x.size) % 2 ^ 32, n := size x.size, val := x.winData } })) ∧
      ∀ v : BitVec 16,
        let data := x.winData % 65536 + 65536 * v.toNat
        starts (.windowWriteStart v) (0, 0x43, v.toNat)
          { x with winData := data, winAddr := (if x.inc then (x.winAddr + size x.size) % 2 ^ 32 else x.winAddr)
                   access := some { write := true, addr := x.winAddr, n := size x.size, val := data } }) ∧
    (x.access = none → s.Gives .windowAccessComplete s) ∧
    (∀ acc, x.access = some acc → acc.n ∈ [1, 2, 4] → acc.addr < 2 ^ 32 →
      let a := acc.addr
      let n := acc.n
      let ended (st : Nat) : Staff := { x with access := none, winLast := st, rdStat := (if acc.write then x.rdStat else st)
                                               winErrs := (if st = 0 then x.winErrs else min 255 (x.winErrs + 1)) }
      let fails (st : Nat) : Prop := s.Gives .windowAccessComplete { s with staff := ended st }
      let own := a < 0x10000000 ∨ 0x40050F00 ≤ a ∧ a < 0x40051000 ∨ 0x40053C00 ≤ a ∧ a < 0x40054000 ∨ 0x400E0800 ≤ a ∧ a < 0x400E1000
      let open' := x.sess = .opened ∧ ¬(acc.write = true ∧ s.mode = .lockout) ∧ ¬own ∧ a % n = 0
      (x.sess ≠ .opened → fails 2) ∧
      (x.sess = .opened → acc.write = true → s.mode = .lockout → fails 0x0E) ∧
      (x.sess = .opened → ¬(acc.write = true ∧ s.mode = .lockout) → own → fails 6) ∧
      (x.sess = .opened → ¬(acc.write = true ∧ s.mode = .lockout) → ¬own → a % n ≠ 0 → fails 0x0A) ∧
      (open' → 0x40000000 ≤ a → n ≠ 4 → fails 0x0B) ∧
      (open' → 0x10800000 ≤ a → a < 0x20000000 ∨ 0x20200000 ≤ a ∧ a < 0x30000000 ∨ 0x30C00000 ≤ a ∧ a < 0x40000000 → fails 6) ∧
      (open' → 0x10000000 ≤ a → a < 0x10800000 → s.anySealed a n = true → fails 8) ∧
      (open' → acc.write = true → a = R.CORERUN → n = 4 → fails 8) ∧
      (open' → s.Inv → s.ecc = [] → 0x20000000 ≤ a → a < 0x20200000 →
        (acc.write = false → s.Gives .windowAccessComplete { s with staff := { ended 0 with winData := s.ld n a } }) ∧
        (acc.write = true → s.Leads .windowAccessComplete (fun t => t.staff = { ended 0 with memWr := x.memWr + 1 } ∧
          ∀ b, t.byte b = if a ≤ b ∧ b < a + n then BitVec.ofNat 8 (acc.val / 256 ^ (b - a)) else s.byte b))) ∧
      (open' → acc.write = true → 0x10000000 ≤ a → a < 0x10800000 → s.anySealed a n = false →
        s.Leads .windowAccessComplete (fun t => t.mrq = s.mrq ++ [.write 5 a n (acc.val % 2 ^ (8 * n))] ∧ t.mem = s.mem ∧
          t.staff = { ended 0 with memWr := x.memWr + 1 })) ∧
      (open' → acc.write = true → 0x40000000 ≤ a → n = 4 → (rowAt a).isSome = true → s.variant.absentAt a = false → withheld a true = false →
        s.Leads .windowAccessComplete (fun t => t.staff.access = none ∧ t.staff.winLast = 0)) ∧
      (∀ u l g, open' → acc.write = true → u < 4 → a = R.UTX u → n = 4 → (s.uart u).tx.length < 32 → l < 5 → s.variant.hasCore l = true →
        s.owners.find (0x40080000 + 0x100 * u) = some (l, g) → s.Leads .windowAccessComplete (fun t =>
          t.rd (R.STCHGADDR l) = BitVec.ofNat 32 a ∧ t.fld (R.STCHGCNT l) R.STCHGCNT_COUNT =
            min 65535 (s.fld (R.STCHGCNT l) R.STCHGCNT_COUNT + 1) ∧
          t.fld (R.IRQCNT (0xA0 + l)) R.IRQCNT_COUNT = min 15 (s.fld (R.IRQCNT (0xA0 + l)) R.IRQCNT_COUNT + 1)))) ∧
    (∀ u l (v : Word), u < 4 → (s.uart u).tx.length < 32 → s.Does (.core l) (R.UTX u) v (.utxWrite (.core l) u v) (fun t =>
      t.owners = s.owners.put (0x40080000 + 0x100 * u) (l, (s.core l).guard))) ∧
    (x.sess = .opened → s.Leads .snap (fun t => t.page = s.page.put 0x1000 1 ∧ t.staff.cmdRes = 0x2000 ∧ t.staff.reply = (0, 0x30, 0x2000))) ∧
    (∀ r, s.Does r R.SNAPCTL (R.SNAPCTL_NOW.put (s.rd R.SNAPCTL) 1) (.snapctlNow r) (fun t =>
      t.page = if (s.asker r).priv then s.page.put 0x1000 1 else s.page)) ∧
    ∀ k,
      let u := s.advance k
      let per := u.fld R.SNAPCTL R.SNAPCTL_PER
      let due := per ≠ 0 ∧ u.snapK + 20000 * per ≤ u.now ∨ u.page.get 0 0x1000 = 1
      (¬due → s.Gives (.snapshotRefresh k) u) ∧
      (due → s.Leads (.snapshotRefresh k) (fun t => t = { u with page := t.page, snapK := u.now } ∧ t.page.get 0 0x1000 = 0 ∧
        t.page.get 0 0 = u.page.get 0 0 + 2 ∧ t.page.get 0 8 = BitVec.ofNat 32 (u.wallAt u.now) ∧
        t.page.get 0 12 = BitVec.ofNat 32 (u.wallAt u.now / 2 ^ 32) ∧ t.page.get 0 0x14 = BitVec.ofNat 32 u.fltsum ∧
        ∀ i, i < 32 → u.variant.hasTb i = true → t.page.get 0 (0x40 + 8 * i) = u.live 6 (R.TBPOSL i) &&& readMask (R.TBPOSL i) ∧
          t.page.get 0 (0x140 + 4 * i) = u.live 6 (R.TBSTAT i) &&& readMask (R.TBSTAT i) ∧
          t.page.get 0 (0x1C0 + 4 * i) = u.live 6 (R.TTSLOT i) &&& readMask (R.TTSLOT i)))

/-- R438, R443-R446, R449, R452-R454: the identity and key commands of the Staff port and the key commands of Guard ring 0: the first condition
that fails gives the code, in the order of R452; else the effect follows, and XIN is cleared. A changed slot is first recorded. (An erase of
an EMPTY slot is assumption 116, FLAGS bit 2 assumption 124, both DEDUCED.) -/
def Obligations.KeysAndIdentityAreCommanded : Prop :=
  ∀ (s : State), s.mode ≠ .night → ¬(s.mode = .dawn ∧ (s.dawn = .waitReset ∨ s.dawn = .waitClock)) → s.Inv → s.logQ = [] →
    s.staff.xin.length ≤ 32 → s.keys.length = 7 → s.hall.snum < 65536 →
    let x := s.staff
    let input := x.xin ++ List.replicate (32 - x.xin.length) 0
    let arg := 256 * nth x.xin 0 + nth x.xin 1
    let stopped := s.fld R.RNGSTAT R.RNGSTAT_STOPPED = 1
    let draws := (s.drbg 8).state = .ready ∧ (s.drbg 8).reqs < 4096 ∧ s.now < (s.drbg 8).seedK + 200000000 ∧
      s.fld R.RNGSTAT R.RNGSTAT_RAWON = 0
    let ran (row : Instr) (code res : Nat) (P : State → Prop) : Prop := s.Leads row (fun t => t.staff.cmdRes = res + 256 * code ∧
      t.staff.reply = (if res = 0 ∨ res = 4 then 0 else 0x0D, 0x30, res + 256 * code) ∧ t.staff.xin = [] ∧ P t)
    let kept (t : State) : Prop := t.keys = s.keys ∧ t.otp = s.otp ∧ t.certBuf = s.certBuf ∧ t.staff.xout = x.xout ∧ t.logQ = []
    let sends (t : State) (l : List Nat) : Prop := t.staff.xout = l ++ x.xout.drop l.length ∧ t.keys = s.keys
    -- the entry of EVENT 7 stands in the Logbook, and slot `k` is `v`
    let changed (t : State) (path k : Nat) (v : KeySlot) : Prop :=
      let n := s.fld R.LBSTAT R.LBSTAT_NEXT
      t.keys = s.keys.set k v ∧ t.logQ = [] ∧ t.fld R.LBSTAT R.LBSTAT_NEXT = (n + 1) % 2 ^ R.LBSTAT_NEXT.w ∧
        t.ld 4 (R.LOGENT n 3) = (path + 64 * 3 + 256 * 7 + (if path = 5 then 65536 * s.hall.snum else 0)) % 2 ^ 32 ∧
        t.ld 4 (R.LOGENT n 4) = k
    -- NOSESS, MODE and NOSTRAP, then what `P` says
    let judged (row : Instr) (code : Nat) (session : Bool) (modes : List Mode) (strap : Option StaffEnv) (P : Prop) : Prop :=
      let inSession := session = true → x.sess = .opened
      let strapped := ∀ env, strap = some env → env.enroll = true ∧ s.fld R.IDSTAT R.IDSTAT_ENRDAWN = 1
      (¬inSession → ran row code 2 kept) ∧ (inSession → s.mode ∉ modes → ran row code 9 kept) ∧
        (inSession → s.mode ∈ modes → ¬strapped → ran row code 11 kept) ∧ (inSession → s.mode ∈ modes → strapped → P)
    let keyModes := [Mode.prepare, .safe, .service]
    let fresh (row : Instr) (code k : Nat) : Prop :=
      (stopped → ran row code 5 kept) ∧ (¬stopped → ¬draws → ran row code 4 kept) ∧
        (¬stopped → draws → ran row code 0 (fun t => ∃ l : List Word, l.length = 8 ∧ changed t 5 k { state := .set, key := wordBytes l }))
    (let k0 := s.key 0
     let known := s.fld R.IDSTAT R.IDSTAT_KEY = 1 ∨ s.fld R.IDSTAT R.IDSTAT_KEY = 2
     let flags := s.fld R.DAWNSTAT R.DAWNSTAT_IMGBAD + 2 * s.otp.bootkey.toNat + 4 * (decide (64 ≤ s.otp.count)).toNat +
       8 * (decide (s.otp.cert = [])).toNat
     let msg := [0x46, 0x4E, 0x41, 0x54] ++ input ++ bytesHigh 8 s.otp.serial ++ [s.mode.code, min 64 s.otp.count, flags] ++
       wordBytes ((upFrom 0 8).map (fun i => s.rd (R.MEAS i)))
     let same (t : State) : Prop := t.signing = s.signing ∧ kept t
     (¬known → ran .attest 0x30 14 same) ∧
     (known → k0.state ≠ .set → ran .attest 0x30 13 same) ∧
     (known → k0.state = .set → stopped → ran .attest 0x30 5 same) ∧
     (known → k0.state = .set → ¬stopped → ¬draws ∨ s.signing.isSome = true → ran .attest 0x30 4 same) ∧
     (known → k0.state = .set → ¬stopped → draws → s.signing = none → ran .attest 0x30 4 (fun t => ∃ c : List Word, c.length = 8 ∧
       t.signing = some (msg ++ Config.ecSign k0.key (wordBytes c) (sha256 msg)))) ∧
     (s.signing = none → s.Gives .attestComplete s) ∧
     (∀ m, s.signing = some m → s.Leads .attestComplete (fun t => t.signing = none ∧ t.attRec = some ((m.drop 36).take 43) ∧
       sends t (m.drop 79) ∧ t.staff.cmdRes = 0x3000)) ∧
     (s.attRec = none → ran .attrec 0x31 13 kept) ∧ (∀ m, s.attRec = some m → ran .attrec 0x31 0 (fun t => sends t m)) ∧
     (k0.state = .set → ran .idpub 0x32 0 (fun t => sends t (Config.ecPublic k0.key))) ∧ (k0.state ≠ .set → ran .idpub 0x32 13 kept)) ∧
    ran .certrd 0x33 0 (fun t => sends t ((upFrom (32 * (arg % 64)) 32).map (nth s.otp.cert))) ∧
    (∀ env,
      judged (.enroll env) 0x34 false keyModes (some env)
        (((s.key 1).state = .set → ran (.enroll env) 0x34 13 kept) ∧
          ((s.key 1).state ≠ .set → ran (.enroll env) 0x34 0 (fun t => changed t 5 1 { state := .set, key := input }))) ∧
      judged (.certwr env) 0x35 false [.prepare] (some env)
        ((s.otp.cert ≠ [] → ran (.certwr env) 0x35 13 kept) ∧
          (s.otp.cert = [] → 2048 ≤ s.certBuf.length → ran (.certwr env) 0x35 12 kept) ∧
          (s.otp.cert = [] → s.certBuf.length < 2048 → ran (.certwr env) 0x35 0 (fun t => t.certBuf = s.certBuf ++ input))) ∧
      judged (.certseal env) 0x36 false [.prepare] (some env)
        ((s.otp.cert ≠ [] ∨ s.certBuf = [] → ran (.certseal env) 0x36 13 kept) ∧
          (s.otp.cert = [] → s.certBuf ≠ [] → env.certOk = false → ran (.certseal env) 0x36 12 kept) ∧
          (s.otp.cert = [] → s.certBuf ≠ [] → env.certOk = true → ran (.certseal env) 0x36 0 (fun t =>
            t.otp = { s.otp with cert := s.certBuf } ∧ t.certBuf = [] ∧ t.fld R.IDSTAT R.IDSTAT_CERT = 1))) ∧
      judged (.idkill env) 0x37 true [.prepare] (some env)
        ((arg ≠ 0xD1E5 → ran (.idkill env) 0x37 12 kept) ∧
          (arg = 0xD1E5 → ran (.idkill env) 0x37 0 (fun t => changed t 5 0 { state := .erased, key := [] } ∧
            t.fld R.IDSTAT R.IDSTAT_KEY = 3)))) ∧
    (∀ k ∈ [1, 3, 4, 5, 6], judged (.setkey k) (0x37 + k) true keyModes none
      (ran (.setkey k) (0x37 + k) 0 (fun t => changed t 5 k { state := .set, key := input } ∧ t.staff.sess = x.sess))) ∧
    (let k := arg % 16
     judged .genkey 0x3E true keyModes none
       ((k ∉ [3, 4, 5, 6] → ran .genkey 0x3E 12 kept) ∧ (k ∈ [3, 4, 5, 6] → fresh .genkey 0x3E k)) ∧
     judged .erasekey 0x3F true keyModes none
       ((k ∉ [1, 3, 4, 5, 6] → ran .erasekey 0x3F 12 kept) ∧
         (k ∈ [1, 3, 4, 5, 6] → ran .erasekey 0x3F 0 (fun t => changed t 5 k { state := .erased, key := [] })))) ∧
    ∀ l slot, l < 5 → slot < 16 →
      let w := s.who l
      let path := l + 8 + 16 * w.ring
      let told (t : State) (code : Nat) : Prop := t.rdReq l R.KEYRES = BitVec.ofNat 32 code ∧ ∀ i, i < 8 → t.rdReq l (R.KEYDATA i) = 0
      let mine := w.guard = true ∧ w.ring = 0 ∧ 3 ≤ slot
      let does (op : Nat) (row : Rq → Nat → Instr) (P : State → Prop) : Prop :=
        s.Does (.core l) R.KEYCMD (BitVec.ofNat 32 (op + 256 * slot + 65536 * 0xC3A5)) (row (.core l) slot) P
      let cmd (op : Nat) (row : Rq → Nat → Instr) (Q : Prop) : Prop :=
        (¬mine → does op row (fun t => told t 1 ∧ t.keys = s.keys)) ∧
          (mine → s.mode ∉ keyModes → does op row (fun t => told t 9 ∧ t.keys = s.keys)) ∧
          (mine → s.mode ∈ keyModes → 6 < slot → does op row (fun t => told t 12 ∧ t.keys = s.keys)) ∧
          (mine → s.mode ∈ keyModes → slot ≤ 6 → Q)
      cmd 1 .keycmdSet (does 1 .keycmdSet (fun t => told t 0 ∧
        changed t path slot { state := .set, key := wordBytes ((List.range 8).map (fun i => s.rdReq l (R.KEYDATA i))) })) ∧
      cmd 2 .keycmdGen ((stopped → does 2 .keycmdGen (fun t => told t 5 ∧ t.keys = s.keys)) ∧
        (¬stopped → ¬draws → does 2 .keycmdGen (fun t => told t 4 ∧ t.keys = s.keys)) ∧
        (¬stopped → draws → does 2 .keycmdGen (fun t => told t 0 ∧
          ∃ v : List Word, v.length = 8 ∧ changed t path slot { state := .set, key := wordBytes v }))) ∧
      cmd 3 .keycmdErase (does 3 .keycmdErase (fun t => told t 0 ∧ changed t path slot { state := .erased, key := [] }))

/-- R456, R460-R466: the crypto engine queues an operation with its key and input, or sets ERR, and serves the requesters in turn; a source
passes its start-up or fails, and the RNG is reduced or stops; the instances are instantiated, reseeded, refilled and read in their order.
(The start of the turn is assumption 125, DESIGN CHOICE.) -/
def Obligations.CryptoAndRandomness : Prop :=
  ∀ (s : State),
    let raised (t : State) (n : Nat) : Prop := t.fld (R.IRQCNT n) R.IRQCNT_COUNT = min 15 (s.fld (R.IRQCNT n) R.IRQCNT_COUNT + 1)
    let stat (f : F) : Nat := s.fld R.RNGSTAT f
    (∀ r key len,
      let w := s.asker r
      let id := w.id
      let c := s.crypt id
      let slot := s.key (3 + key % 4)
      let use := s.fld R.KEYUSE R.KEYUSE_USE / 4 ^ (key % 4) % 4
      let runs (op n : Nat) (row : Instr) : Prop :=
        let v := BitVec.ofNat 32 (op + 16 * (key % 4) + 256 * n + 2 ^ 31)
        let good := slot.state = .set ∧ (use = 2 ∨ use = 1 ∧ w.isStaff = false ∧ w.guard = true) ∧ (4 ≤ op → c.cmac.isSome = true) ∧
          (op = 5 → n ≤ 16) ∧ c.queued = none
        (good → s.Does r R.CRCTL v row (fun t => t.rdReq id R.CRSTAT = 1 ∧ t.crypt id = { c with
          queued := some (op, n, slot.key, wordBytes ((List.range 4).map (fun i => s.rdReq id (R.CRIN i)))) })) ∧
        (¬good → s.Does r R.CRCTL v row (fun t => t.rdReq id R.CRSTAT = s.rdReq id R.CRSTAT ||| 4 ∧ t.crypto = s.crypto))
      runs 1 0 (.aesEncryptGo r key) ∧ runs 2 0 (.aesDecryptGo r key) ∧ runs 3 0 (.cmacStart r key) ∧ runs 4 0 (.cmacUpdate r key) ∧
        runs 5 (len % 32) (.cmacFinal r key len)) ∧
    ((∀ i, i < 6 → (s.crypt i).queued = none) → s.crLast < 6 → s.Gives .cryptoDone s) ∧
    (∀ id op len key inp, id < 6 → (s.crypt id).queued = some (op, len, key, inp) →
      (∀ i, i < 6 → i ≠ s.crLast → i < id ∨ id = s.crLast → (s.crypt i).queued = none) →
      let c := (s.crypt id).cmac
      let ends (c' : Option (List Nat)) (out : Option (List Nat)) : Prop := s.Leads .cryptoDone (fun t => t.crLast = id ∧
        t.crypt id = { queued := none, cmac := c' } ∧ t.rdReq id R.CRSTAT = 2 ∧
        ∀ i, i < 4 → t.rdReq id (R.CROUT i) = match out with
          | some o => BitVec.ofNat 32 (numLow ((o.drop (4 * i)).take 4))
          | none => s.rdReq id (R.CROUT i))
      (op = 1 → ends c (some (aesEncrypt key inp))) ∧ (op = 2 → ends c (some (aesDecrypt key inp))) ∧
      (op = 3 → ends (some (List.replicate 16 0)) none) ∧
      (∀ y, c = some y → (op = 4 → ends (some (aesEncrypt key (xorBytes y inp))) none) ∧
        (op = 5 → ends none (some (cmacLast key y (inp.take len)))))) ∧
    (∀ i,
      let here := i < s.variant.nNoise
      let begun := s.clocks = true ∧ s.fld R.DAWNSTAT R.DAWNSTAT_FAILSTEP ≠ 1
      (here → begun → s.source i = .starting → s.Leads (.sourceStartupPass i) (fun t => t.noise = s.noise.set i .healthy ∧
        t.fld R.RNGSTAT R.RNGSTAT_HEALTHY = stat R.RNGSTAT_HEALTHY ||| 2 ^ i)) ∧
      (¬here ∨ ¬begun ∨ s.source i ≠ .starting → s.Gives (.sourceStartupPass i) s) ∧
      ∀ apt : Bool,
        let f := if apt then R.RNGERR_APT else R.RNGERR_RCT
        let failed (t : State) : Prop := t.noise = s.noise.set i .failed ∧ t.fld R.RNGERR f = min 255 (s.fld R.RNGERR f + 1) ∧
          t.fld R.RNGSTAT R.RNGSTAT_FAILED = stat R.RNGSTAT_FAILED ||| 2 ^ i ∧ (t.fld R.RNGSTAT R.RNGSTAT_HEALTHY).testBit i = false
        let row := Instr.sourceHealthFail i apt
        let strict := s.variant = .fn4808 ∨ s.fld R.RNGCFG R.RNGCFG_POLICY = 1
        let last := (s.noise.set i .failed).all (· == .failed) = true
        (¬here ∨ s.source i = .failed → s.Gives row s) ∧
        (here → s.source i ≠ .failed → stat R.RNGSTAT_STOPPED = 1 → s.Leads row failed) ∧
        (here → s.source i ≠ .failed → stat R.RNGSTAT_STOPPED = 0 → ¬strict → ¬last → s.Leads row (fun t => failed t ∧ raised t 0xEC ∧
          t.fld R.RNGSTAT R.RNGSTAT_REDUCED = 1 ∧ t.fld R.RNGSTAT R.RNGSTAT_STOPPED = 0 ∧ t.drbgs = s.drbgs)) ∧
        (here → s.source i ≠ .failed → stat R.RNGSTAT_STOPPED = 0 → strict ∨ last → s.Leads row (fun t => failed t ∧ raised t 0xEC ∧
          t.fld R.RNGSTAT R.RNGSTAT_STOPPED = 1 ∧ (∀ n, s.variant.hasDrbg n = true → n < 10 → (t.drbg n).state = .stopped ∧
            (t.drbg n).buf = []) ∧ (s.staff.sess = .drawing → t.staff.sess = .closed ∧ t.staff.cmdRes = 0x105)))) ∧
    (let due (a : State) (n : Nat) : Prop := (a.drbg n).state = .due ∨
       (a.drbg n).state = .ready ∧ (4096 ≤ (a.drbg n).reqs ∨ (a.drbg n).seedK + 200000000 ≤ a.now)
     let flow (a : State) : Prop := a.fld R.RNGSTAT R.RNGSTAT_STOPPED = 0 ∧ a.fld R.RNGSTAT R.RNGSTAT_RAWON = 0 ∧ NoiseState.healthy ∈ a.noise
     let waits (a : State) (n : Nat) : Prop := a.variant.hasDrbg n = true ∧ ((a.drbg n).state = .none ∨ due a n)
     let turn (a : State) (n : Nat) : Prop :=
       ∃ p q, [9, 8, 7] ++ (List.range 7).map (fun i => (a.drbgLast + 1 + i) % 7) = p ++ n :: q ∧ ∀ m ∈ p, ¬waits a m
     ∀ n, n < 10 →
       let d := s.drbg n
       let here := s.variant.hasDrbg n = true
       (let goes := here ∧ s.clocks = true ∧ s.fld R.DAWNSTAT R.DAWNSTAT_FAILSTEP ≠ 1 ∧ d.state = .none ∧ flow s ∧ turn s n
        (goes → s.Leads (.drbgInstantiate n) (fun t => t.drbg n = { d with state := .ready, buf := [], reqs := 0, seedK := s.now } ∧
          t.drbgLast = (if n < 7 then n else s.drbgLast) ∧ t.fld (R.DRBGINST n) R.DRBGINST_STATE = 1)) ∧
        (¬goes → s.Gives (.drbgInstantiate n) s)) ∧
       (∀ k (bits : Bool),
         let u := s.advance k
         let e := u.drbg n
         let dues := u.variant.hasDrbg n = true ∧ due u n
         let goes := bits = true ∧ flow u ∧ turn u n
         (¬dues → s.Gives (.drbgReseed n k bits) u) ∧
         (dues → goes → s.Leads (.drbgReseed n k bits) (fun t => t.drbg n = { e with state := .ready, reqs := 0, seedK := u.now } ∧
           t.drbgLast = (if n < 7 then n else u.drbgLast) ∧
           t.fld (R.DRBGINST n) R.DRBGINST_RESEEDS = (u.fld (R.DRBGINST n) R.DRBGINST_RESEEDS + 1) % 65536)) ∧
         (dues → ¬goes → s.Leads (.drbgReseed n k bits) (fun t => t.drbg n = { e with state := .due } ∧
           t.fld (R.DRBGINST n) R.DRBGINST_STATE = 2))) ∧
       (let asks := here ∧ d.state = .ready ∧ ¬due s n ∧ d.buf = [] ∧ stat R.RNGSTAT_RAWON = 0
        (¬asks → s.Gives (.drbgRefill n) s) ∧
        (asks → s.Leads (.drbgRefill n) (fun t => ∃ l : List Word, l.length = 4 ∧ (d.waited = true → raised t 0xED) ∧
          t.drbg n = { d with state := if 4096 ≤ d.reqs + 1 then .due else .ready, buf := l, reqs := d.reqs + 1, waited := false })))) ∧
    ∀ r,
      let w := s.asker r
      let n := if w.isStaff then 6 else s.variant.phys w.id
      let d := s.drbg n
      let gives := stat R.RNGSTAT_RAWON = 0 ∧ d.state ≠ .stopped ∧ d.state ≠ .none ∧ d.buf ≠ []
      (∀ v rest, gives → d.buf = v :: rest → s.DoesRead r R.DRBGOUT (.drbgoutRead r) (fun t => t.rdata = v ∧ t.drbg n = { d with buf := rest })) ∧
      (¬gives → s.DoesRead r R.DRBGOUT (.drbgoutRead r) (fun t => t.rdata = 0 ∧ t.drbg n = { d with waited := true } ∧
        t.rdReq w.id R.DRBGST = s.rdReq w.id R.DRBGST ||| 8)) ∧
      ∀ (on : Bool) src,
        let does := s.Does r R.RNGCFG (BitVec.ofNat 32 (2 * on.toNat + 4 * (src % 4))) (.rawenWrite r on src)
        let taps := w.isStaff = true ∧ s.mode = .service ∧ src % 4 < s.variant.nNoise
        (taps → does (fun t => t.fld R.RNGCFG R.RNGCFG_RAWEN = on.toNat ∧
          t.fld R.RNGCFG R.RNGCFG_RAWSRC = src % 4 ∧ t.fld R.RNGSTAT R.RNGSTAT_RAWON = on.toNat ∧
          t.fld R.RNGCFG R.RNGCFG_POLICY = s.fld R.RNGCFG R.RNGCFG_POLICY)) ∧
        (¬taps → does (fun t => t.rd R.RNGCFG = s.rd R.RNGCFG ∧
          t.fld R.RNGSTAT R.RNGSTAT_RAWON = stat R.RNGSTAT_RAWON))

/-- R55, R422, R467, R468, R471, R473, R474, R476, R477, R515: the Hall Monitor's domain stands still without VBAT and starts afresh; ticks
count and mirror the timebases; strobes count a watch channel's steps and catch illegal ones; inputs are voted and debounced, measurements
filtered. (That periods are whole ticks is assumption 122, DESIGN CHOICE.) -/
def Obligations.HallMonitorSamples : Prop :=
  ∀ (s : State),
    let h := s.hall
    -- `n` ticks have passed since `since`
    let elapsed (since : Option Nat) (n : Nat) : Prop := ∀ t, since = some t → n ≤ (h.time + 2 ^ 48 - t) % 2 ^ 48
    s.Leads .hmReset (fun t => t.hall.alive = false ∧ t.hall.fails = 5 ∧ t.hall.lockout = 32768 * 60 ∧ t.hall.snum = 0 ∧ t.hall.wakeout = true ∧
      t.hall.time = 0 ∧ t.fld R.CLKSTAT R.CLKSTAT_HMXTAL = 0 ∧ (t.rd R.HMALARM).getLsbD 16 = true ∧ t.fld R.HMCTL R.HMCTL_HMLOCK = 0 ∧
      (∀ n, n < 4 → (t.watch n).state = .off ∧ (t.watch n).count = 0 ∧ (t.watch n).valid = false ∧ t.fld (R.HWCFG n) R.HWCFG_EN = 0) ∧
      (∀ i, i < 8 → t.fld (R.HICFG i) R.HICFG_EN = 0) ∧ (∀ r, r < 16 → t.fld (R.HMRULEA r) R.HMRULEA_SRC = 0) ∧
      (∀ i, i < 128 → t.rd (R.HMRET i) = 0)) ∧
    s.Gives .vbatGood { s with hall := { h with alive := true } } ∧
    s.Gives .hmCrystalStop (s.setFld R.CLKSTAT R.CLKSTAT_HMXTAL 0) ∧
    s.Gives .hmCrystalStart (s.setFld R.CLKSTAT R.CLKSTAT_HMXTAL 1) ∧
    (h.alive = false → s.Gives .hmTick s) ∧
    (h.alive = true → s.Leads .hmTick (fun t => t.hall.time = (h.time + 1) % 2 ^ 48 ∧ t.hall.unmirror = false ∧
      t.hall.lockout = (if h.lockout = 0 then 0 else max 1 (h.lockout - 1)) ∧ ∀ n, n < 4 →
      let x := s.watch n
      let tb := s.tb (s.fld (R.HWCFG n) R.HWCFG_TB)
      let limit := 250 * 2 ^ s.fld (R.HWCFG n) R.HWCFG_RATE * s.fld (R.HWCFG n) R.HWCFG_MULT
      (x.state ≠ .mirror → t.watch n = x) ∧
      (x.state = .mirror → h.unmirror = true → t.watch n = { x with state := .watch, night := x.count, pair := none
                                                                    valid := x.valid && !decide (limit * 2 ^ 32 < 400000000 * x.speed) }) ∧
      (x.state = .mirror → h.unmirror = false → tb.state = .run → tb.ref = true →
        (t.watch n).valid = true ∧ isWrapped 40 (tb.word / 256) (t.watch n).count ∧ (t.watch n).speed = tb.vel.natAbs) ∧
      (x.state = .mirror → h.unmirror = false → tb.state ≠ .run ∨ tb.ref = false →
        t.watch n = { x with valid := false, speed := tb.vel.natAbs }))) ∧
    (∀ n (a b : Bool), n < 4 →
      let x := s.watch n
      let row := Instr.watchStrobe n a b
      let due := elapsed x.strobeT (32768 / (250 * 2 ^ s.fld (R.HWCFG n) R.HWCFG_RATE))
      let y := { x with pair := some (a, b), strobeT := some h.time }
      (h.alive = false ∨ x.state ≠ .watch ∨ ¬due → s.Gives row s) ∧
      (h.alive = true → x.state = .watch → due → x.pair = none → s.Gives row (s.setWatch n y)) ∧
      ∀ a0 b0, h.alive = true → x.state = .watch → due → x.pair = some (a0, b0) →
        let m : Int := s.fld (R.HWCFG n) R.HWCFG_MULT
        (a ≠ a0 → b ≠ b0 → s.Gives row (s.setWatch n { y with valid := false, illegal := true, errs := min 255 (x.errs + 1) })) ∧
        ∀ up, StepRow 0 (s.fld (R.HWCFG n) R.HWCFG_DIR == 1) a0 b0 a b up →
          (up = none → s.Gives row (s.setWatch n y)) ∧
          ∀ fwd, up = some fwd → s.Leads row (fun t => t.watch n = { y with count := (t.watch n).count } ∧
            isWrapped 40 (x.count + if fwd then m else -m) (t.watch n).count)) ∧
    (∀ i (level : Bool), i < 8 →
      let cfg (f : F) : Nat := s.fld (R.HICFG i) f
      let due := elapsed (s.hallIn i).sampleT (32768 * 4 ^ cfg R.HICFG_PER / 1000)
      let l := (level :: (s.hallIn i).samples).take 3
      let x := { s.hallIn i with samples := l, sampleT := some h.time }
      let voted := if cfg R.HICFG_MAJ = 1 then decide (2 ≤ (l.filter (· == true)).length) else level
      let cand := voted != (cfg R.HICFG_INV == 1)
      let row := Instr.inputSample i level
      (h.alive = false ∨ cfg R.HICFG_EN = 0 ∨ ¬due → s.Gives row s) ∧
      (h.alive = true → cfg R.HICFG_EN = 1 → due →
        (cand = x.filt → s.Gives row (s.setHallIn i { x with run := 0 })) ∧
        (cand ≠ x.filt → x.run + 1 ≤ cfg R.HICFG_DEB → s.Gives row (s.setHallIn i { x with run := x.run + 1 })) ∧
        (cand ≠ x.filt → cfg R.HICFG_DEB < x.run + 1 → s.Leads row (fun t => t.hallIn i = { x with filt := cand, run := 0 } ∧
          t.hall.changed = h.changed ||| 2 ^ i)))) ∧
    ∀ temp vbat : Int,
      let step (k : Nat) (y : Option (Int × Int)) (x : Int) : Option (Int × Int) :=
        match y with
        | none => some (x, x)
        | some (y, _) => some (y + (x - y) / ((2 ^ k : Nat) : Int), x)
      let due := elapsed h.measT (1024 * 32)
      (h.alive = false ∨ ¬due → s.Gives (.measurement temp vbat) s) ∧
      (h.alive = true → due → s.Gives (.measurement temp vbat) { s with hall := { h with
        measT := some h.time, temp := step (s.fld R.HACFG R.HACFG_KT) h.temp temp, vbat := step (s.fld R.HACFG R.HACFG_KB) h.vbat vbat } })

/-- R470, R478-R485: an evaluation judges every rule on the state before it and carries out the actions of those that fire; a write waits for
the next evaluation, is judged by its sender, the mode and HMLOCK, and is recorded when it takes effect; alarms are cleared by those who
may. (The instant of an evaluation is assumption 122, DESIGN CHOICE, and "before step 7" assumption 117, DEDUCED.) -/
def Obligations.HallRulesFire : Prop :=
  ∀ (s : State),
    let h := s.hall
    let off := s.mode = .night
    let ruleA (r : Nat) (f : F) : Nat := s.fld (R.HMRULEA r) f
    let ruleB (r : Nat) (f : F) : Nat := s.fld (R.HMRULEB r) f
    let holds (r : Nat) : Prop :=
      let arg := ruleA r R.HMRULEA_ARG
      let th := ruleB r R.HMRULEB_TH
      let signed : Int := if th < 32768 then th else (th : Int) - 65536
      match ruleA r R.HMRULEA_SRC with
      | 1 => ((s.hallIn (arg % 8)).filt = true ↔ ruleA r R.HMRULEA_LVL = 1)
      | 2 => h.changed.testBit (arg % 8) = true
      | 3 => ∃ v, h.temp = some v ∧ signed ≤ v.1
      | 4 => ∃ v, h.temp = some v ∧ v.1 ≤ signed
      | 5 => ∃ v, h.vbat = some v ∧ v.1 ≤ th
      | 6 => s.fld (R.HWCFG (arg % 4)) R.HWCFG_EN = 1 ∧ (s.watch (arg % 4)).valid = false
      | 7 => (s.watch (arg % 4)).state = .watch ∧ th < ((s.watch (arg % 4)).count - (s.watch (arg % 4)).night).natAbs
      | 8 => s.fld R.CLKSTAT R.CLKSTAT_HMXTAL = 0
      | 9 => (s.rd R.HMALARM).getLsbD arg = true
      | _ => False
    let admits (r : Nat) : Prop := ruleA r R.HMRULEA_WHEN = 0 ∨ ruleA r R.HMRULEA_WHEN = 1 ∧ off ∨
      ruleA r R.HMRULEA_WHEN = 2 ∧ ¬off ∧ (s.clocks = true ∨ 1 < s.fld R.RSTCAUSE R.RSTCAUSE_LAST)
    let need (r : Nat) : Nat := ruleA r R.HMRULEA_PERSIST * (if ruleA r R.HMRULEA_PSCALE = 1 then 128 else 1)
    let met (r : Nat) : Prop := r < 16 ∧ admits r ∧ holds r ∧ need r ≤ h.held.get 0 r
    let first (r : Nat) (f : F) : Prop := met r ∧ h.met.testBit r = false ∧ ruleB r f = 1
    let acts (r : Nat) (f : F) : Prop := met r ∧ (h.met.testBit r = false ∨ ruleA r R.HMRULEA_FIRE = 1) ∧ ruleB r f = 1
    let zeroes := ∃ r, first r R.HMRULEB_ZERO
    let due := h.alive = true ∧ h.time % 32 = 0 ∧ h.evalT ≠ some h.time
    (¬due → s.Gives .hmEvaluation s) ∧
    (due → h.write.isSome = true → s.Leads .hmEvaluation (fun t => t.hall.write = none)) ∧
    (due → h.write = none → s.keys.length = 7 → ¬off ∨ h.wakeout = true ∨ (∀ r, ¬acts r R.HMRULEB_WAKE) → s.Leads .hmEvaluation (fun t =>
      t.hall.changed = 0 ∧ t.hall.evalT = some h.time ∧
      (∀ r, r < 16 → (t.hall.met.testBit r = true ↔ met r) ∧ (holds r → t.hall.held.get 0 r = h.held.get 0 r + 1) ∧
        (¬holds r → t.hall.held.get 0 r = 0)) ∧
      (∀ b, b < 32 → ((t.rd R.HMALARM).getLsbD b = true ↔ (s.rd R.HMALARM).getLsbD b = true ∨ acts b R.HMRULEB_ALARM ∨
        acts b R.HMRULEB_LOCK ∨ b = 17 ∧ zeroes)) ∧
      (zeroes → (∀ k, 1 ≤ k → k ≤ 6 → t.key k = { state := .erased, key := [] }) ∧ t.key 0 = s.key 0 ∧ ∀ i, i < 64 → t.rd (R.HMRET i) = 0) ∧
      (¬zeroes → t.keys = s.keys ∧ ∀ i, i < 64 → t.rd (R.HMRET i) = s.rd (R.HMRET i)) ∧
      ((∀ r, ¬first r R.HMRULEB_LOG) → t.hall.next = h.next ∧ t.hall.total = h.total) ∧
      (∀ r, h.next < 32 → first r R.HMRULEB_LOG → (∀ q, q ≠ r → ¬first q R.HMRULEB_LOG) →
        t.hall.next = (h.next + 1) % 32 ∧ t.hall.total = (h.total + 1) % 256 ∧
        t.hall.lost = (if h.unread = 32 then min 255 (h.lost + 1) else h.lost) ∧ t.rd (R.HMLOGE h.next 0) = BitVec.ofNat 32 h.time ∧
        (t.rd (R.HMLOGE h.next 1)).toNat % 65536 = r + 16 * ruleB r ⟨16, 5⟩ + (if off then 0 else 512) ∧
        (¬off → t.fld (R.IRQCNT 0xEF) R.IRQCNT_COUNT = min 15 (s.fld (R.IRQCNT 0xEF) R.IRQCNT_COUNT + 1))) ∧
      ((∃ r, acts r R.HMRULEB_LOCK) → s.trans = none → s.mode ∈ [Mode.prepare, .run, .hold, .safe] →
        ∃ tr, t.trans = some tr ∧ tr.target = .lockout ∧ tr.req = .hall ∧ tr.cause = 5))) ∧
    (due → h.write = none → off → h.wakeout = false → (∃ r, acts r R.HMRULEB_WAKE) →
      s.Leads .hmEvaluation (fun t => t.hall.wakeout = true ∧ t.mode = if s.suppliesGood then .dawn else .night)) ∧
    (h.write = none ∨ ¬due → s.Gives .hmWriteApply s) ∧
    (∀ x, due → h.write = some x →
      let a := x.addr
      let old := s.rd a
      let new := (old &&& ~~~wmaskAt a) ||| (x.val &&& wmaskAt a)
      let applies (P : State → Prop) : Prop := s.Leads .hmWriteApply (fun t => t.hall.write = none ∧ P t)
      let recorded (t : State) : Prop := s.logQ.length < 32 → ∃ e, t.logQ = s.logQ ++ [e] ∧ e.addr = a ∧ e.old = old.toNat ∧
        e.new = new.toNat
      (a = R.HMLOGN → applies (fun t => t.hall.seen = R.HMLOGN_SEEN.get x.val ∧
        t.hall.unread = (h.next + 32 - R.HMLOGN_SEEN.get x.val) % 32 ∧ t.logQ = s.logQ)) ∧
      (a = R.HMCTL → applies (fun t => t.fld R.HMCTL R.HMCTL_HMLOCK = s.fld R.HMCTL R.HMCTL_HMLOCK ||| x.val.toNat % 2 ∧ recorded t)) ∧
      (∀ n, n < 16 → a = R.HMRULEA n ∨ a = R.HMRULEB n ∨ n < 8 ∧ a = R.HICFG n ∨ a = R.HACFG →
        applies (fun t => t.rd a = new ∧ recorded t)) ∧
      (∀ n, n < 4 → a = R.HWCFG n → applies (fun t => t.rd a = new ∧ recorded t ∧
        let y := s.watch n
        (R.HWCFG_EN.get new = 0 → t.watch n = { y with state := .off, valid := false }) ∧
        (R.HWCFG_EN.get new = 1 → R.HWCFG_EN.get old = 0 → t.watch n = { y with state := .watch, valid := false, pair := none }) ∧
        (R.HWCFG_EN.get new = 1 → R.HWCFG_EN.get old = 1 → t.watch n = if new = old then y else { y with valid := false })))) ∧
    ∀ r (mask : Word),
      let w := s.asker r
      let early := s.mode = .dawn ∧ s.fld R.DAWNSTAT R.DAWNSTAT_STEP < 7
      let told (t : State) (code : Nat) : Prop := t.rdReq w.id R.HMSTAT = BitVec.ofNat 32 (code * 256)
      let locked := s.fld R.HMCTL R.HMCTL_HMLOCK = 1
      let clear (P : State → Prop) : Prop := s.Does r R.HMALARM mask (.hmalarmClear r mask) P
      let lock (code : Nat) : Prop := s.Does r R.HMCTL 1 (.hmlockSet r) (fun t => told t code ∧
        t.hall.write = if code = 0 then some { addr := R.HMCTL, val := 1, who := w.id, guard := w.guard, ring := w.ring } else h.write)
      let service := w.isStaff = true ∧ s.mode = .service
      (early → clear (fun t => told t 2 ∧ t.rd R.HMALARM = s.rd R.HMALARM) ∧ lock 2) ∧
      (¬early → w.priv = true → clear (fun t => told t 0 ∧ t.rd R.HMALARM = s.rd R.HMALARM &&& ~~~mask)) ∧
      (¬early → w.priv = false → clear (fun t => told t 1 ∧ t.rd R.HMALARM = s.rd R.HMALARM)) ∧
      (¬early → locked → ¬service → lock 4) ∧
      (¬early → ¬locked → w.priv = false → lock 1) ∧
      (¬early → ¬locked → w.priv = true → s.mode ≠ .prepare → lock 2) ∧
      (¬early → (locked ∧ service ∨ ¬locked ∧ w.priv = true ∧ s.mode = .prepare) → (h.write.isSome = true → lock 5) ∧ (h.write = none → lock 0))

/-- R459, R494-R497, R499-R501, R504, R505, R510: a divergence freezes the pair, makes the outputs safe and takes the reaction of GPOLICY; a
restart compares the TCM copies and releases G; a watchdog expires for want of a good kick or at a bad one; GPOLICY, PAIRINJ and SAFETEST
obey G's Guard ring 0 and the Staff port in PREPARE; the TAP reaches the cores in SERVICE alone. (Core access by special register numbers,
and the instructions of the boundary register, are assumption 49, PRESUMED.) (That a watchdog expires once is assumption 126, DEDUCED, the
free address of an injected divergence assumption 45.) -/
def Obligations.FaultsAreAnsweredByPolicy : Prop :=
  ∀ (s : State),
    let raised (t : State) (n : Nat) : Prop := t.fld (R.IRQCNT n) R.IRQCNT_COUNT = min 15 (s.fld (R.IRQCNT n) R.IRQCNT_COUNT + 1)
    let pol (f : F) : Nat := s.fld R.GPOLICY f
    let pair (t : State) (f : F) : Nat := t.fld R.PAIRSTAT f
    let gRuns := s.mode ≠ .lockout ∧ s.mode ≠ .service ∧ s.fld R.CORERUN R.CORERUN_RUN % 2 = 1 ∧ (s.core 0).third = false ∧ s.restart = .none
    let active := s.trans = none ∧ s.mode ∈ [Mode.prepare, .run, .hold]
    let locks (t : State) (cause : Nat) : Prop := s.trans = none → s.mode ∈ [Mode.prepare, .run, .hold, .safe] →
      ∃ tr, t.trans = some tr ∧ tr.target = .lockout ∧ tr.req = .fault ∧ tr.cause = cause
    let safes (t : State) : Prop := active → ∃ tr, t.trans = some tr ∧ tr.target = .safe ∧ tr.req = .fault
    let diverges (t : State) (what pc0 pc1 : Nat) : Prop :=
      pair t R.PAIRSTAT_DIV = 1 ∧ pair t R.PAIRSTAT_WHAT = what ∧
      pair t R.PAIRSTAT_COUNT = min 65535 (pair s R.PAIRSTAT_COUNT + 1) ∧ t.rd R.PAIRPC0 = BitVec.ofNat 32 pc0 ∧
      t.rd R.PAIRPC1 = BitVec.ofNat 32 pc1 ∧ t.fld (R.NMIPEND 0) R.NMIPEND_PAIR = 1 ∧ t.LinesSafe ∧
      t.fld R.CORERUN R.CORERUN_RUN % 2 = 0 ∧
      (pol R.GPOLICY_DIVACT = 1 → locks t 1) ∧
      (pol R.GPOLICY_DIVACT = 0 → pol R.GPOLICY_RSTMAX ≤ pair s R.PAIRSTAT_RESTARTS → locks t 8) ∧
      (pol R.GPOLICY_DIVACT = 0 → pair s R.PAIRSTAT_RESTARTS < pol R.GPOLICY_RSTMAX →
        safes t ∧ t.restart = .pair ∧ pair t R.PAIRSTAT_RESTARTING = 1 ∧ (t.core 0).started = false)
    let restarts (row : Instr) : Prop := s.Leads row (fun t => t.restart = .none ∧ raised t 0xF2 ∧
      pair t R.PAIRSTAT_RESTARTS = (pair s R.PAIRSTAT_RESTARTS + 1) % 8 ∧ pair t R.PAIRSTAT_RESTARTING = 0 ∧
      t.fld R.CORERUN R.CORERUN_RUN % 2 = 1 ∧ ((s.core 0).started = false → (t.core 0).pc = s.rd (R.GENTRY 0)))
    let resets (row : Instr) : Prop := s.Leads row (fun t => t.mode = .dawn ∧ t.ResetBy 6)
    (∀ what pc0 pc1 addr,
      (¬(gRuns ∧ 1 ≤ what ∧ what ≤ 6) → s.Gives (.divergence what pc0 pc1 addr) s) ∧
      (gRuns → 1 ≤ what → what ≤ 6 → s.Leads (.divergence what pc0 pc1 addr) (fun t => diverges t what pc0 pc1 ∧
        t.rd R.PAIRADDR = BitVec.ofNat 32 (if what ∈ [1, 4, 5] then 0 else addr)))) ∧
    (s.restart ≠ .pair ∨ s.mode = .lockout → ∀ d, s.Gives (.pairRestart d) s) ∧
    (s.restart = .pair → s.mode ≠ .lockout → restarts (.pairRestart none) ∧
      ∀ a, s.Leads (.pairRestart (some a)) (fun t => t.rd R.PAIRADDR = BitVec.ofNat 32 a ∧ pair t R.PAIRSTAT_TCMDIFF = 1 ∧
        pair t R.PAIRSTAT_RESTARTING = 0 ∧ t.restart = .none ∧ ∃ tr, t.trans = some tr ∧ tr.target = .lockout ∧ tr.cause = 7)) ∧
    (s.restart = .third ∧ s.trans = none ∧ s.mode ≠ .lockout → restarts .gThirdFaultRestart) ∧
    (¬(s.restart = .third ∧ s.trans = none ∧ s.mode ≠ .lockout) → s.Gives .gThirdFaultRestart s) ∧
    (∀ l, l < 5 → s.variant.hasCore l = true →
      let stat (t : State) (f : F) : Nat := t.fld (R.WDSTAT l) f
      let lets (a : State) : Prop := a.fld R.GPOLICY R.GPOLICY_WDACT = 1 ∨ a.fld (R.WDCTL l) R.WDCTL_GRACE ≠ 0
      let expired (a t : State) : Prop := stat t R.WDSTAT_EXP = 1 ∧ t.wdStage.get 0 l = a.now ∧
        t.fld (R.IRQCNT 0xF1) R.IRQCNT_COUNT = min 15 (a.fld (R.IRQCNT 0xF1) R.IRQCNT_COUNT + 1) ∧
        (l = 0 → t.fld (R.NMIPEND 0) R.NMIPEND_WDOG = 1) ∧
        (a.fld R.GPOLICY R.GPOLICY_WDACT = 1 → a.trans = none → a.mode ∈ [Mode.prepare, .run, .hold, .safe] →
          ∃ tr, t.trans = some tr ∧ tr.target = .lockout ∧ tr.req = .fault ∧ tr.cause = 4) ∧
        (a.fld R.GPOLICY R.GPOLICY_WDACT = 0 → stat t R.WDSTAT_S2PEND = 1 ∧
          (a.trans = none → a.mode ∈ [Mode.prepare, .run, .hold] → ∃ tr, t.trans = some tr ∧ tr.target = .safe ∧ tr.req = .fault))
      (∀ k,
        let u := s.advance k
        let passed := stat u R.WDSTAT_COUNTING = 1 ∧ l ∉ u.wdOut ∧ u.wdStart.get 0 l + 2000 * u.fld (R.WDCFG l) R.WDCFG_MAX ≤ u.now
        let second := stat u R.WDSTAT_S2PEND = 1 ∧ stat u R.WDSTAT_EXP = 1 ∧ u.mode ≠ .lockout ∧
          u.wdStage.get 0 l + 200000 * u.fld (R.WDCTL l) R.WDCTL_GRACE ≤ u.now
        (¬passed → s.Gives (.watchdogExpiry l k) u) ∧
        (passed → lets u → s.Leads (.watchdogExpiry l k) (fun t => expired u t ∧ l ∈ t.wdOut ∧
          stat t R.WDSTAT_BADKICK = stat u R.WDSTAT_BADKICK)) ∧
        (passed → ¬lets u → resets (.watchdogExpiry l k)) ∧
        (second → resets (.watchdogStage2 l k)) ∧
        (¬second → s.Gives (.watchdogStage2 l k) u)) ∧
      ∀ r key,
        let w := s.asker r
        let counting := stat s R.WDSTAT_COUNTING = 1
        let told (t : State) (code : Nat) : Prop := t.rdReq w.id R.FRWSTAT = BitVec.ofNat 32 code
        let kicks (P : State → Prop) : Prop := s.Does r (R.WDKICK l) (BitVec.ofNat 32 (key % 65536)) (.wdkick r l key) P
        let own := w.id = l ∧ w.ring ≤ 1
        let next := stat s R.WDSTAT_NEXTKEY
        let good := key % 65536 = next ∧ s.wdStart.get 0 l + 2000 * s.fld (R.WDCFG l) R.WDCFG_MIN ≤ s.now
        (¬own → kicks (fun t => told t 1 ∧ t.rd (R.WDSTAT l) = s.rd (R.WDSTAT l))) ∧
        (own → ¬counting → kicks (fun t => told t 0 ∧ t.rd (R.WDSTAT l) = s.rd (R.WDSTAT l))) ∧
        (own → counting → good → kicks (fun t => told t 0 ∧ t.wdStart = s.wdStart.put l s.now ∧ l ∉ t.wdOut ∧
          stat t R.WDSTAT_EXP = stat s R.WDSTAT_EXP ∧ stat t R.WDSTAT_NEXTKEY = if next = 0x5AA5 then 0xA55A else 0x5AA5)) ∧
        (own → counting → ¬good → lets s → kicks (fun t => told t 0 ∧ expired s t ∧ stat t R.WDSTAT_BADKICK = 1)) ∧
        (own → counting → ¬good → ¬lets s → kicks (fun t => t.mode = .dawn ∧ t.ResetBy 6))) ∧
    (∀ r (v : Word) what (b : Bool),
      let w := s.asker r
      let told (t : State) (code : Nat) : Prop := t.rdReq w.id R.FRWSTAT = BitVec.ofNat 32 code
      let g0 := w.isStaff = true ∨ w.id = 0 ∧ w.guard = true ∧ w.ring = 0
      let inject (P : State → Prop) : Prop := s.Does r R.PAIRINJ (BitVec.ofNat 32 (1 + 16 * (what % 16))) (.pairinj r what) P
      let policy (P : State → Prop) : Prop := s.Does r R.GPOLICY v (.gpolicyWrite r v) P
      let test (P : State → Prop) : Prop := s.Does r R.SAFETEST (BitVec.ofNat 32 (1 + 2 * b.toNat)) (.safetest r b) P
      let bad := what % 16 = 0 ∨ 6 < what % 16
      let undiverged (code : Nat) (t : State) : Prop := told t code ∧ t.rd R.PAIRSTAT = s.rd R.PAIRSTAT
      let fixed (code : Nat) (t : State) : Prop := told t code ∧ t.rd R.GPOLICY = s.rd R.GPOLICY
      let idle (code : Nat) (t : State) : Prop := told t code ∧ t.safeTest = s.safeTest
      (¬g0 → inject (undiverged 1) ∧ policy (fixed 1) ∧ test (idle 1)) ∧
      (g0 → s.mode ≠ .prepare → inject (undiverged 2) ∧ test (idle 2)) ∧
      (g0 → s.mode = .prepare →
        (bad → inject (undiverged 3)) ∧ (¬bad → ¬gRuns → inject (undiverged 0)) ∧
        (¬bad → gRuns → inject (fun t => told t 0 ∧ diverges t 7 (s.core 0).pc.toNat (s.core 0).pc.toNat ∧
          (what % 16 ∈ [1, 4, 5] → t.rd R.PAIRADDR = 0))) ∧
        (s.safeTest.isSome = true → test (idle 2)) ∧
        (s.safeTest = none → test (fun t => told t 0 ∧ t.safeTest = some b ∧ t.fld R.SAFETEST R.SAFETEST_BUSY = 1 ∧
          t.fld R.SAFETEST R.SAFETEST_COPY = b.toNat))) ∧
      (g0 → pol R.GPOLICY_PLOCK = 1 → policy (fixed 4)) ∧
      (g0 → pol R.GPOLICY_PLOCK = 0 → s.mode ≠ .prepare → policy (fixed 2)) ∧
      (g0 → pol R.GPOLICY_PLOCK = 0 → s.mode = .prepare → policy (fun t => told t 0 ∧
        t.rd R.GPOLICY = (s.rd R.GPOLICY &&& 0x7FFF0080) ||| (v &&& 0x8000FF7F)))) ∧
    (s.safeTest = none → ∀ wrong, s.Gives (.safetestComplete wrong) s) ∧
    (s.safeTest.isSome = true → ∀ wrong, s.Leads (.safetestComplete wrong) (fun t => t.safeTest = none ∧
      t.fld R.SAFETEST R.SAFETEST_BUSY = 0 ∧ ∀ l, l < 64 →
        ((t.rd (R.SAFERES (l / 32))).getLsbD (l % 32) = true ↔ s.effFld (R.EVCFG l) R.EVCFG_OD = 0 ∧ ∃ b, b < 96 ∧ (s.pin b).conn = 64 + l ∧
          ((s.ballLevel s.drive b == .hi) != wrong.contains b) ≠ s.safeBit l))) ∧
    (∀ op, s.mode ≠ .service ∨ s.clocks = false → s.Gives (.jtagInstruction op) s) ∧
    (s.mode = .service → s.clocks = true →
      (∀ op ∈ [JtagOp.bypass, .sample, .extest], s.Gives (.jtagInstruction op) s) ∧
      s.Leads (.jtagInstruction .idcode) (fun t => t.rdata.toNat / 4096 % 65536 = 0x4816 ∧ t.rdata.toNat / 2 ^ 28 = s.otp.step % 16 ∧
        t.rdata.toNat % 2 = 1) ∧
      (∀ l, l < 5 → s.variant.hasCore l = true →
        let c := s.core l
        s.Gives (.jtagInstruction (.halt l)) (s.setCore l { c with debugHalt := true }) ∧
        s.Gives (.jtagInstruction (.resume l)) (s.setCore l { c with debugHalt := false }) ∧
        (∀ v, s.Gives (.jtagInstruction (.writeCore l 0 v)) (s.setCore l { c with pc := v &&& 0xFFFFFFFE })) ∧
        (∀ n row, RsrRow n row → n < 256 → s.Gives (.jtagInstruction (.readCore l (BitVec.ofNat 8 n))) { s with rdata := row s l }) ∧
        ∀ n row v, WsrRow n row → n < 256 → s.Gives (.jtagInstruction (.writeCore l (BitVec.ofNat 8 n) v)) (s.setCore l (row c v))) ∧
      (∀ (on : Bool) src,
        (src % 4 < s.variant.nNoise → s.Leads (.jtagInstruction (.rawTap on src)) (fun t => t.fld R.RNGCFG R.RNGCFG_RAWEN = on.toNat ∧
          t.fld R.RNGCFG R.RNGCFG_RAWSRC = src % 4 ∧ t.fld R.RNGSTAT R.RNGSTAT_RAWON = on.toNat)) ∧
        (s.variant.nNoise ≤ src % 4 → s.Gives (.jtagInstruction (.rawTap on src)) s)) ∧
      s.Leads (.jtagInstruction .rawWord) (fun t => t = { s with rdata := t.rdata, freeCtr := t.freeCtr, regs := t.regs } ∧
        (s.fld R.RNGSTAT R.RNGSTAT_RAWON = 0 → t.rdata = 0)))

/-! ### The machine as a whole -/

/-- R15, R36, R46, R57, R411, R422, R428, R444, R467, R505: what the block holds after a power-on reset with a fresh Hall Monitor, and that this state
meets Inv. (Board, OTP and supplies are as assumption 4 (DESIGN CHOICE) says.) -/
def Obligations.ResetState : Prop :=
  State.reset.Inv ∧
  let s := State.reset
  s.pending = [] ∧ s.mem = [] ∧ s.mode = .dawn ∧ s.trans = none ∧ s.clocks = false ∧
  s.fld R.RSTCAUSE R.RSTCAUSE_CAUSE = 1 ∧ s.fld R.RSTCAUSE R.RSTCAUSE_LAST = 0 ∧ s.fld R.CORERUN R.CORERUN_RUN = 0 ∧
  s.rd R.GPOLICY = 0x31 ∧ (s.rd R.HMALARM).getLsbD 16 = true ∧ s.fld R.SNAPCTL R.SNAPCTL_PER = 10 ∧
  s.rd R.DEVID = 0x4816 ∧ s.fld R.RNGCUT R.RNGCUT_RCT = 41 ∧ s.fld R.RNGCUT R.RNGCUT_APT = 800 ∧
  s.hall.fails = 5 ∧ s.hall.lockout = 32768 * 60 ∧ s.hall.snum = 0 ∧ s.hall.wakeout = true ∧
  s.staff.sess = .closed ∧ s.staff.reply = (0x0F, 0, 0) ∧ s.staff.idle = 300 ∧
  (∀ l, l < 5 → (s.core l).started = false ∧ (s.core l).sb = [] ∧ s.runs l = false) ∧
  (∀ i, i < 32 → (s.tb i).state = .off ∧ (s.slot i).a.state = 0) ∧ (∀ q, q < 16 → (s.queue q).state = .off) ∧
  (∀ l, l < 64 → (s.line l).safed = true) ∧ (∀ k, k < 7 → (s.key k).state = .empty) ∧ s.noise = [.starting, .starting, .starting]

/-- In every state that meets Inv, a step keeps Inv: the memory stays in its canonical form, and the Logbook's buffer holds at most 32 entries
(R439). It takes the front of the queue, if any, and puts nothing into it, and the variant stays what it is (R1). -/
def Obligations.StepKeepsInv : Prop :=
  ∀ s t : State, s.Inv → step s = .next t → t.Inv ∧ t.pending = s.pending.tail ∧ t.variant = s.variant
end

