-- ==== Sys2Proof/Decode.lean ====
section
/-! DEFINITION. The command that a word spells, and the instruction command that a halfword of code spells (R216).
spec/opcode_table.json gives no row any bits: most commands are events, accesses and operations, and no word stands for one. The
instructions of a core have codes in the spec's own tables, and `decodeHalf` reads those. -/

namespace Sys2Proof

/-- No word spells a command: the table gives no row any bits. -/
def decodeTableWord (_nbits _w : Nat) : Option Instr := none

/-- What a halfword does not say of the command it spells: when a delivery or a halt is committed in a long instruction (R252, R256,
R257), whether a JTAG debugger is attached (R236), and what a reserved code does (R245). -/
structure Aside where
  stop     : Option Nat := none
  abandon  : Bool := false
  debugger : Bool := false
  effect   : ReservedEffect := {}
deriving DecidableEq, Repr

/-- The stack group, 0x00nn (R227). -/
def decodeStack (l : Nat) : Nat → Option Instr
  | 0x01 => some (.nop l)
  | 0x02 => some (.dup l)
  | 0x03 => some (.drop l)
  | 0x04 => some (.swap l)
  | 0x05 => some (.over l)
  | 0x06 => some (.rot l)
  | 0x07 => some (.nip l)
  | 0x08 => some (.tuck l)
  | 0x09 => some (.dup2 l)
  | 0x0A => some (.drop2 l)
  | 0x10 => some (.tor l)
  | 0x11 => some (.fromr l)
  | 0x12 => some (.rfetch l)
  | 0x13 => some (.rdrop l)
  | _ => none

/-- The ALU group, 0x01nn (R228). -/
def decodeAlu (l : Nat) : Nat → Option Instr
  | 0x00 => some (.add l)
  | 0x01 => some (.sub l)
  | 0x02 => some (.and l)
  | 0x03 => some (.or l)
  | 0x04 => some (.xor l)
  | 0x05 => some (.not l)
  | 0x06 => some (.neg l)
  | 0x07 => some (.shl l)
  | 0x08 => some (.shr l)
  | 0x09 => some (.sar l)
  | 0x0A => some (.adds l)
  | 0x0B => some (.subs l)
  | 0x0C => some (.negs l)
  | 0x0D => some (.abs l)
  | 0x0E => some (.abss l)
  | 0x0F => some (.min l)
  | 0x10 => some (.max l)
  | 0x11 => some (.minu l)
  | 0x12 => some (.maxu l)
  | 0x13 => some (.sext8 l)
  | 0x14 => some (.sext16 l)
  | 0x15 => some (.zext8 l)
  | 0x16 => some (.zext16 l)
  | 0x17 => some (.clz l)
  | 0x18 => some (.slt l)
  | 0x19 => some (.sltu l)
  | 0x1A => some (.sat16 l)
  | _ => none

/-- The multiply and divide group, 0x02nn (R229), and the memory group, 0x03nn (R230-R232). -/
def decodeMulDiv (l : Nat) (x : Aside) : Nat → Option Instr
  | 0x00 => some (.mul l)
  | 0x01 => some (.mulhs l)
  | 0x02 => some (.mulhu l)
  | 0x03 => some (.mulq l)
  | 0x04 => some (.div l x.abandon)
  | 0x05 => some (.divu l x.abandon)
  | 0x06 => some (.rem l x.abandon)
  | 0x07 => some (.remu l x.abandon)
  | _ => none

def decodeMemory (l : Nat) : Nat → Option Instr
  | 0x00 => some (.xchg l)
  | 0x01 => some (.cas l)
  | 0x02 => some (.fence l)
  | 0x03 => some (.arm l)
  | _ => none

/-- The control group, 0x04nn (R233). -/
def decodeControl (l : Nat) (x : Aside) : Nat → Option Instr
  | 0x00 => some (.ret l)
  | 0x01 => some (.jmpi l)
  | 0x02 => some (.calli l)
  | 0x03 => some (.gret l)
  | 0x04 => some (.retw l)
  | 0x05 => some (.retf l)
  | 0x06 => some (.reti l)
  | 0x07 => some (.endl l)
  | 0x08 => some (.wait l)
  | 0x09 => some (.brk l x.debugger)
  | _ => none

/-- A size field: byte, half, word. -/
def decodeSize : Nat → Option Size
  | 0 => some .byte
  | 1 => some .half
  | 2 => some .word
  | _ => none

/-- WSR n (R196, R202, R203, R208). -/
def decodeWsr (l n : Nat) : Instr :=
  match n with
  | 0x01 => .wsrStw l
  | 0x02 => .wsrStackPointer l false
  | 0x03 => .wsrStackBound l false false
  | 0x04 => .wsrStackBound l false true
  | 0x05 => .wsrStackPointer l true
  | 0x06 => .wsrStackBound l true false
  | 0x07 => .wsrStackBound l true true
  | _ => .wsr l (BitVec.ofNat 8 n)

/-- The X and Y accesses, 0x17ii (R239). -/
def decodeXy (l i : Nat) : Option Instr :=
  let y := i.testBit 7
  if i % 8 ≠ 0 then none
  else (decodeSize (i / 8 % 4)).bind (fun z =>
    match i / 32 % 4 with
    | 0 => some (.ldxSigned l y z)
    | 1 => some (.ldxZero l y z)
    | 2 => some (.stx l y z)
    | _ => none)

/-- The immediate groups, 0x10ii to 0x17ii (R237). -/
def decodeImmediate (l g i : Nat) : Option Instr :=
  match g with
  | 0 => if i < 16 then some (.pick l (BitVec.ofNat 8 i)) else none
  | 1 => some (.addi l (BitVec.ofNat 8 i))
  | 2 =>
    let n : BitVec 5 := BitVec.ofNat 5 i
    if i.testBit 5 then none
    else match i / 64 with
      | 0 => some (.shli l n)
      | 1 => some (.shri l n)
      | 2 => some (.sari l n)
      | _ => some (.rori l n)
  | 3 =>
    let sh : BitVec 6 := BitVec.ofNat 6 i
    match i / 64 with
    | 0 => some (.ext8 l sh)
    | 1 => some (.ext16 l sh)
    | 2 => some (.ext32 l sh)
    | _ => none
  | 4 => if rsrListed i then some (.rsr l (BitVec.ofNat 8 i)) else none
  | 5 => if wsrListed i then some (decodeWsr l i) else none
  | 6 => if i < 64 then some (.gate l (BitVec.ofNat 6 i)) else none
  | 7 => decodeXy l i
  | _ => none

/-- The offset loads and stores, 0x2nnn (R238). -/
def decodeOffset (l g i : Nat) : Option Instr :=
  let off : BitVec 8 := BitVec.ofNat 8 i
  (decodeSize (g / 4)).bind (fun z =>
    match g % 4 with
    | 0 => some (.ldSigned l z off)
    | 1 => some (.ldZero l z off)
    | 2 => some (.st l z off)
    | _ => none)

/-- The signal-processing groups, 0x38nn to 0x3Ann (R241-R243). -/
def decodeSignal (l g n : Nat) (x : Aside) : Option Instr :=
  match g, n with
  | 8, 0x00 => some (.mac l)
  | 8, 0x01 => some (.msu l)
  | 8, 0x02 => some (.maci l)
  | 8, 0x03 => some (.msui l)
  | 8, 0x04 => some (.macn l x.stop)
  | 8, 0x05 => some (.msun l x.stop)
  | 8, 0x06 => some (.macni l x.stop)
  | 8, 0x07 => some (.msuni l x.stop)
  | 9, 0x00 => some (.clra l)
  | 9, 0x01 => some (.macs l)
  | 9, 0x02 => some (.msus l)
  | 9, 0x03 => some (.macsi l)
  | 9, 0x04 => some (.msusi l)
  | 9, 0x05 => some (.mpys l)
  | 9, 0x06 => some (.mpysi l)
  | 9, 0x07 => some (.adda l)
  | 9, 0x08 => some (.addal l)
  | 9, 0x09 => some (.nega l)
  | 9, 0x0A => some (.lda l)
  | 10, _ =>
    let sh : BitVec 6 := BitVec.ofNat 6 n
    if n / 64 = 0 then some (.asla l sh) else if n / 64 = 1 then some (.asra l sh) else none
  | _, _ => none

/-- Compare-and-branch by its condition (R223). -/
def decodeBranch (l : Nat) (off : BitVec 8) : Nat → Instr
  | 0 => .beq l off
  | 1 => .bne l off
  | 2 => .blt l off
  | 3 => .bge l off
  | 4 => .bltu l off
  | 5 => .bgeu l off
  | 6 => .bgt l off
  | 7 => .ble l off
  | 8 => .bz l off
  | 9 => .bnz l off
  | 10 => .bltz l off
  | 11 => .bgez l off
  | 12 => .bgtz l off
  | 13 => .blez l off
  | 14 => .bodd l off
  | _ => .beven l off

/-- The instruction to which a code is assigned: the format by the high bits (R216). -/
def decodeAssigned (l c : Nat) (x : Aside) : Option Instr :=
  let g := c / 256 % 16
  let i := c % 256
  if 0x8000 ≤ c then some (.lit l (BitVec.ofNat 15 c))
  else match c / 4096 with
    | 7 => some (.litx l (BitVec.ofNat 12 c))
    | 6 => some (decodeBranch l (BitVec.ofNat 8 i) g)
    | 5 => some (.call l (BitVec.ofNat 12 c))
    | 4 => some (.jmp l (BitVec.ofNat 12 c))
    | 3 => if g < 8 then some (.loop l (BitVec.ofNat 11 c)) else decodeSignal l g i x
    | 2 => decodeOffset l g i
    | 1 => decodeImmediate l g i
    | _ =>
      match g with
      | 0 => decodeStack l i
      | 1 => decodeAlu l i
      | 2 => decodeMulDiv l x i
      | 3 => decodeMemory l i
      | 4 => decodeControl l x i
      | _ => none

/-- The command that a halfword of code spells for core `l`: total, since a code that is assigned to no instruction is reserved (R245) or
illegal (R244). -/
def decodeHalf (l : Nat) (h : BitVec 16) (x : Aside) : Instr :=
  match decodeAssigned l h.toNat x with
  | some i => i
  | none => if isReserved h.toNat then .reservedCode l h x.effect else .illegalOpcode l h

end Sys2Proof
end

