-- ==== Sys2Proof/Laws/Tab.lean ====
section
/-! SUPPORT. Reading a table after writing it. -/

namespace Sys2Proof

@[simp] theorem Tab.find_put_self {α : Type} (t : Tab α) (k : Nat) (v : α) : (t.put k v).find k = some v := by
  induction t with
  | nil => simp [Tab.put, Tab.find]
  | cons e t ih =>
    obtain ⟨a, w⟩ := e
    by_cases h : a = k
    · simp [Tab.put, Tab.find, h]
    · by_cases h' : k < a <;> simp [Tab.put, Tab.find, h, h', ih]

theorem Tab.find_put_ne {α : Type} (t : Tab α) {j k : Nat} (v : α) (h : j ≠ k) : (t.put k v).find j = t.find j := by
  induction t with
  | nil => simp [Tab.put, Tab.find, Ne.symm h]
  | cons e t ih =>
    obtain ⟨a, w⟩ := e
    by_cases ha : a = k
    · subst ha; simp [Tab.put, Tab.find, Ne.symm h]
    · by_cases h' : k < a
      · simp [Tab.put, Tab.find, ha, h', Ne.symm h]
      · simp [Tab.put, Tab.find, ha, h', ih]

@[simp] theorem Tab.get_put_self {α : Type} (d : α) (t : Tab α) (k : Nat) (v : α) : (t.put k v).get d k = v := by
  simp [Tab.get]

theorem Tab.get_put_ne {α : Type} (d : α) (t : Tab α) {j k : Nat} (v : α) (h : j ≠ k) : (t.put k v).get d j = t.get d j := by
  simp [Tab.get, Tab.find_put_ne t v h]

/-- The later of two writes of one key stands. -/
@[simp] theorem Tab.put_put {α : Type} (t : Tab α) (k : Nat) (v w : α) : (t.put k v).put k w = t.put k w := by
  induction t with
  | nil => simp [Tab.put]
  | cons e t ih =>
    obtain ⟨a, x⟩ := e
    by_cases h : a = k
    · simp [Tab.put, h]
    · by_cases h' : k < a
      · simp [Tab.put, h, h']
      · simp [Tab.put, h, h', ih]

end Sys2Proof
end

