-- ==== Sys2Proof/Laws/State.lean ====
section
/-! SUPPORT. The fields of the state after each of its plain updates: written once, so that no proof unfolds an update. -/

namespace Sys2Proof.Machine

/-! ### wr -/

@[simp] theorem State.wr_pending (s : State) (a : Nat) (v : Word) : (s.wr a v).pending = s.pending := rfl
@[simp] theorem State.wr_variant (s : State) (a : Nat) (v : Word) : (s.wr a v).variant = s.variant := rfl
@[simp] theorem State.wr_freeCtr (s : State) (a : Nat) (v : Word) : (s.wr a v).freeCtr = s.freeCtr := rfl
@[simp] theorem State.wr_was (s : State) (a : Nat) (v : Word) : (s.wr a v).was = s.was := rfl
@[simp] theorem State.wr_estopAt (s : State) (a : Nat) (v : Word) : (s.wr a v).estopAt = s.estopAt := rfl
@[simp] theorem State.wr_acts (s : State) (a : Nat) (v : Word) : (s.wr a v).acts = s.acts := rfl
@[simp] theorem State.wr_repFirst (s : State) (a : Nat) (v : Word) : (s.wr a v).repFirst = s.repFirst := rfl
@[simp] theorem State.wr_loaded (s : State) (a : Nat) (v : Word) : (s.wr a v).loaded = s.loaded := rfl
@[simp] theorem State.wr_snapK (s : State) (a : Nat) (v : Word) : (s.wr a v).snapK = s.snapK := rfl
@[simp] theorem State.wr_drbgLast (s : State) (a : Nat) (v : Word) : (s.wr a v).drbgLast = s.drbgLast := rfl
@[simp] theorem State.wr_wdOut (s : State) (a : Nat) (v : Word) : (s.wr a v).wdOut = s.wdOut := rfl
@[simp] theorem State.wr_wdStage (s : State) (a : Nat) (v : Word) : (s.wr a v).wdStage = s.wdStage := rfl
@[simp] theorem State.wr_rdata (s : State) (a : Nat) (v : Word) : (s.wr a v).rdata = s.rdata := rfl
@[simp] theorem State.wr_now (s : State) (a : Nat) (v : Word) : (s.wr a v).now = s.now := rfl
@[simp] theorem State.wr_regs (s : State) (a : Nat) (v : Word) : (s.wr a v).regs = s.regs.put a v := rfl
@[simp] theorem State.wr_inForce (s : State) (a : Nat) (v : Word) : (s.wr a v).inForce = s.inForce := rfl
@[simp] theorem State.wr_mem (s : State) (a : Nat) (v : Word) : (s.wr a v).mem = s.mem := rfl
@[simp] theorem State.wr_ecc (s : State) (a : Nat) (v : Word) : (s.wr a v).ecc = s.ecc := rfl
@[simp] theorem State.wr_mrq (s : State) (a : Nat) (v : Word) : (s.wr a v).mrq = s.mrq := rfl
@[simp] theorem State.wr_mrRun (s : State) (a : Nat) (v : Word) : (s.wr a v).mrRun = s.mrRun := rfl
@[simp] theorem State.wr_openLines (s : State) (a : Nat) (v : Word) : (s.wr a v).openLines = s.openLines := rfl
@[simp] theorem State.wr_scrub (s : State) (a : Nat) (v : Word) : (s.wr a v).scrub = s.scrub := rfl
@[simp] theorem State.wr_scrubDue (s : State) (a : Nat) (v : Word) : (s.wr a v).scrubDue = s.scrubDue := rfl
@[simp] theorem State.wr_dip (s : State) (a : Nat) (v : Word) : (s.wr a v).dip = s.dip := rfl
@[simp] theorem State.wr_mode (s : State) (a : Nat) (v : Word) : (s.wr a v).mode = s.mode := rfl
@[simp] theorem State.wr_trans (s : State) (a : Nat) (v : Word) : (s.wr a v).trans = s.trans := rfl
@[simp] theorem State.wr_dawn (s : State) (a : Nat) (v : Word) : (s.wr a v).dawn = s.dawn := rfl
@[simp] theorem State.wr_stepK (s : State) (a : Nat) (v : Word) : (s.wr a v).stepK = s.stepK := rfl
@[simp] theorem State.wr_supply (s : State) (a : Nat) (v : Word) : (s.wr a v).supply = s.supply := rfl
@[simp] theorem State.wr_resetN (s : State) (a : Nat) (v : Word) : (s.wr a v).resetN = s.resetN := rfl
@[simp] theorem State.wr_refOk (s : State) (a : Nat) (v : Word) : (s.wr a v).refOk = s.refOk := rfl
@[simp] theorem State.wr_pllOk (s : State) (a : Nat) (v : Word) : (s.wr a v).pllOk = s.pllOk := rfl
@[simp] theorem State.wr_clocks (s : State) (a : Nat) (v : Word) : (s.wr a v).clocks = s.clocks := rfl
@[simp] theorem State.wr_dawnEnd (s : State) (a : Nat) (v : Word) : (s.wr a v).dawnEnd = s.dawnEnd := rfl
@[simp] theorem State.wr_estopN (s : State) (a : Nat) (v : Word) : (s.wr a v).estopN = s.estopN := rfl
@[simp] theorem State.wr_svcLow (s : State) (a : Nat) (v : Word) : (s.wr a v).svcLow = s.svcLow := rfl
@[simp] theorem State.wr_chans (s : State) (a : Nat) (v : Word) : (s.wr a v).chans = s.chans := rfl
@[simp] theorem State.wr_mains (s : State) (a : Nat) (v : Word) : (s.wr a v).mains = s.mains := rfl
@[simp] theorem State.wr_tbs (s : State) (a : Nat) (v : Word) : (s.wr a v).tbs = s.tbs := rfl
@[simp] theorem State.wr_wall (s : State) (a : Nat) (v : Word) : (s.wr a v).wall = s.wall := rfl
@[simp] theorem State.wr_caps (s : State) (a : Nat) (v : Word) : (s.wr a v).caps = s.caps := rfl
@[simp] theorem State.wr_capSeq (s : State) (a : Nat) (v : Word) : (s.wr a v).capSeq = s.capSeq := rfl
@[simp] theorem State.wr_handed (s : State) (a : Nat) (v : Word) : (s.wr a v).handed = s.handed := rfl
@[simp] theorem State.wr_capAt (s : State) (a : Nat) (v : Word) : (s.wr a v).capAt = s.capAt := rfl
@[simp] theorem State.wr_slots (s : State) (a : Nat) (v : Word) : (s.wr a v).slots = s.slots := rfl
@[simp] theorem State.wr_memq (s : State) (a : Nat) (v : Word) : (s.wr a v).memq = s.memq := rfl
@[simp] theorem State.wr_ttPeak (s : State) (a : Nat) (v : Word) : (s.wr a v).ttPeak = s.ttPeak := rfl
@[simp] theorem State.wr_queues (s : State) (a : Nat) (v : Word) : (s.wr a v).queues = s.queues := rfl
@[simp] theorem State.wr_reports (s : State) (a : Nat) (v : Word) : (s.wr a v).reports = s.reports := rfl
@[simp] theorem State.wr_lines (s : State) (a : Nat) (v : Word) : (s.wr a v).lines = s.lines := rfl
@[simp] theorem State.wr_gens (s : State) (a : Nat) (v : Word) : (s.wr a v).gens = s.gens := rfl
@[simp] theorem State.wr_pwms (s : State) (a : Nat) (v : Word) : (s.wr a v).pwms = s.pwms := rfl
@[simp] theorem State.wr_sds (s : State) (a : Nat) (v : Word) : (s.wr a v).sds = s.sds := rfl
@[simp] theorem State.wr_pins (s : State) (a : Nat) (v : Word) : (s.wr a v).pins = s.pins := rfl
@[simp] theorem State.wr_bankOk (s : State) (a : Nat) (v : Word) : (s.wr a v).bankOk = s.bankOk := rfl
@[simp] theorem State.wr_cores (s : State) (a : Nat) (v : Word) : (s.wr a v).cores = s.cores := rfl
@[simp] theorem State.wr_rcs (s : State) (a : Nat) (v : Word) : (s.wr a v).rcs = s.rcs := rfl
@[simp] theorem State.wr_uarts (s : State) (a : Nat) (v : Word) : (s.wr a v).uarts = s.uarts := rfl
@[simp] theorem State.wr_att (s : State) (a : Nat) (v : Word) : (s.wr a v).att = s.att := rfl
@[simp] theorem State.wr_macs (s : State) (a : Nat) (v : Word) : (s.wr a v).macs = s.macs := rfl
@[simp] theorem State.wr_bells (s : State) (a : Nat) (v : Word) : (s.wr a v).bells = s.bells := rfl
@[simp] theorem State.wr_enq (s : State) (a : Nat) (v : Word) : (s.wr a v).enq = s.enq := rfl
@[simp] theorem State.wr_en (s : State) (a : Nat) (v : Word) : (s.wr a v).en = s.en := rfl
@[simp] theorem State.wr_fcMap (s : State) (a : Nat) (v : Word) : (s.wr a v).fcMap = s.fcMap := rfl
@[simp] theorem State.wr_fcOut (s : State) (a : Nat) (v : Word) : (s.wr a v).fcOut = s.fcOut := rfl
@[simp] theorem State.wr_logQ (s : State) (a : Nat) (v : Word) : (s.wr a v).logQ = s.logQ := rfl
@[simp] theorem State.wr_staff (s : State) (a : Nat) (v : Word) : (s.wr a v).staff = s.staff := rfl
@[simp] theorem State.wr_owners (s : State) (a : Nat) (v : Word) : (s.wr a v).owners = s.owners := rfl
@[simp] theorem State.wr_page (s : State) (a : Nat) (v : Word) : (s.wr a v).page = s.page := rfl
@[simp] theorem State.wr_hall (s : State) (a : Nat) (v : Word) : (s.wr a v).hall = s.hall := rfl
@[simp] theorem State.wr_keys (s : State) (a : Nat) (v : Word) : (s.wr a v).keys = s.keys := rfl
@[simp] theorem State.wr_otp (s : State) (a : Nat) (v : Word) : (s.wr a v).otp = s.otp := rfl
@[simp] theorem State.wr_certBuf (s : State) (a : Nat) (v : Word) : (s.wr a v).certBuf = s.certBuf := rfl
@[simp] theorem State.wr_attRec (s : State) (a : Nat) (v : Word) : (s.wr a v).attRec = s.attRec := rfl
@[simp] theorem State.wr_signing (s : State) (a : Nat) (v : Word) : (s.wr a v).signing = s.signing := rfl
@[simp] theorem State.wr_noise (s : State) (a : Nat) (v : Word) : (s.wr a v).noise = s.noise := rfl
@[simp] theorem State.wr_drbgs (s : State) (a : Nat) (v : Word) : (s.wr a v).drbgs = s.drbgs := rfl
@[simp] theorem State.wr_crypto (s : State) (a : Nat) (v : Word) : (s.wr a v).crypto = s.crypto := rfl
@[simp] theorem State.wr_crLast (s : State) (a : Nat) (v : Word) : (s.wr a v).crLast = s.crLast := rfl
@[simp] theorem State.wr_wdStart (s : State) (a : Nat) (v : Word) : (s.wr a v).wdStart = s.wdStart := rfl
@[simp] theorem State.wr_restart (s : State) (a : Nat) (v : Word) : (s.wr a v).restart = s.restart := rfl
@[simp] theorem State.wr_safeTest (s : State) (a : Nat) (v : Word) : (s.wr a v).safeTest = s.safeTest := rfl

/-! ### wrReq -/

@[simp] theorem State.wrReq_pending (s : State) (id a : Nat) (v : Word) : (s.wrReq id a v).pending = s.pending := rfl
@[simp] theorem State.wrReq_variant (s : State) (id a : Nat) (v : Word) : (s.wrReq id a v).variant = s.variant := rfl
@[simp] theorem State.wrReq_freeCtr (s : State) (id a : Nat) (v : Word) : (s.wrReq id a v).freeCtr = s.freeCtr := rfl
@[simp] theorem State.wrReq_was (s : State) (id a : Nat) (v : Word) : (s.wrReq id a v).was = s.was := rfl
@[simp] theorem State.wrReq_estopAt (s : State) (id a : Nat) (v : Word) : (s.wrReq id a v).estopAt = s.estopAt := rfl
@[simp] theorem State.wrReq_acts (s : State) (id a : Nat) (v : Word) : (s.wrReq id a v).acts = s.acts := rfl
@[simp] theorem State.wrReq_repFirst (s : State) (id a : Nat) (v : Word) : (s.wrReq id a v).repFirst = s.repFirst := rfl
@[simp] theorem State.wrReq_loaded (s : State) (id a : Nat) (v : Word) : (s.wrReq id a v).loaded = s.loaded := rfl
@[simp] theorem State.wrReq_snapK (s : State) (id a : Nat) (v : Word) : (s.wrReq id a v).snapK = s.snapK := rfl
@[simp] theorem State.wrReq_drbgLast (s : State) (id a : Nat) (v : Word) : (s.wrReq id a v).drbgLast = s.drbgLast := rfl
@[simp] theorem State.wrReq_wdOut (s : State) (id a : Nat) (v : Word) : (s.wrReq id a v).wdOut = s.wdOut := rfl
@[simp] theorem State.wrReq_wdStage (s : State) (id a : Nat) (v : Word) : (s.wrReq id a v).wdStage = s.wdStage := rfl
@[simp] theorem State.wrReq_rdata (s : State) (id a : Nat) (v : Word) : (s.wrReq id a v).rdata = s.rdata := rfl
@[simp] theorem State.wrReq_now (s : State) (id a : Nat) (v : Word) : (s.wrReq id a v).now = s.now := rfl
@[simp] theorem State.wrReq_regs (s : State) (id a : Nat) (v : Word) : (s.wrReq id a v).regs = s.regs.put (perReq id a) v := rfl
@[simp] theorem State.wrReq_inForce (s : State) (id a : Nat) (v : Word) : (s.wrReq id a v).inForce = s.inForce := rfl
@[simp] theorem State.wrReq_mem (s : State) (id a : Nat) (v : Word) : (s.wrReq id a v).mem = s.mem := rfl
@[simp] theorem State.wrReq_ecc (s : State) (id a : Nat) (v : Word) : (s.wrReq id a v).ecc = s.ecc := rfl
@[simp] theorem State.wrReq_mrq (s : State) (id a : Nat) (v : Word) : (s.wrReq id a v).mrq = s.mrq := rfl
@[simp] theorem State.wrReq_mrRun (s : State) (id a : Nat) (v : Word) : (s.wrReq id a v).mrRun = s.mrRun := rfl
@[simp] theorem State.wrReq_openLines (s : State) (id a : Nat) (v : Word) : (s.wrReq id a v).openLines = s.openLines := rfl
@[simp] theorem State.wrReq_scrub (s : State) (id a : Nat) (v : Word) : (s.wrReq id a v).scrub = s.scrub := rfl
@[simp] theorem State.wrReq_scrubDue (s : State) (id a : Nat) (v : Word) : (s.wrReq id a v).scrubDue = s.scrubDue := rfl
@[simp] theorem State.wrReq_dip (s : State) (id a : Nat) (v : Word) : (s.wrReq id a v).dip = s.dip := rfl
@[simp] theorem State.wrReq_mode (s : State) (id a : Nat) (v : Word) : (s.wrReq id a v).mode = s.mode := rfl
@[simp] theorem State.wrReq_trans (s : State) (id a : Nat) (v : Word) : (s.wrReq id a v).trans = s.trans := rfl
@[simp] theorem State.wrReq_dawn (s : State) (id a : Nat) (v : Word) : (s.wrReq id a v).dawn = s.dawn := rfl
@[simp] theorem State.wrReq_stepK (s : State) (id a : Nat) (v : Word) : (s.wrReq id a v).stepK = s.stepK := rfl
@[simp] theorem State.wrReq_supply (s : State) (id a : Nat) (v : Word) : (s.wrReq id a v).supply = s.supply := rfl
@[simp] theorem State.wrReq_resetN (s : State) (id a : Nat) (v : Word) : (s.wrReq id a v).resetN = s.resetN := rfl
@[simp] theorem State.wrReq_refOk (s : State) (id a : Nat) (v : Word) : (s.wrReq id a v).refOk = s.refOk := rfl
@[simp] theorem State.wrReq_pllOk (s : State) (id a : Nat) (v : Word) : (s.wrReq id a v).pllOk = s.pllOk := rfl
@[simp] theorem State.wrReq_clocks (s : State) (id a : Nat) (v : Word) : (s.wrReq id a v).clocks = s.clocks := rfl
@[simp] theorem State.wrReq_dawnEnd (s : State) (id a : Nat) (v : Word) : (s.wrReq id a v).dawnEnd = s.dawnEnd := rfl
@[simp] theorem State.wrReq_estopN (s : State) (id a : Nat) (v : Word) : (s.wrReq id a v).estopN = s.estopN := rfl
@[simp] theorem State.wrReq_svcLow (s : State) (id a : Nat) (v : Word) : (s.wrReq id a v).svcLow = s.svcLow := rfl
@[simp] theorem State.wrReq_chans (s : State) (id a : Nat) (v : Word) : (s.wrReq id a v).chans = s.chans := rfl
@[simp] theorem State.wrReq_mains (s : State) (id a : Nat) (v : Word) : (s.wrReq id a v).mains = s.mains := rfl
@[simp] theorem State.wrReq_tbs (s : State) (id a : Nat) (v : Word) : (s.wrReq id a v).tbs = s.tbs := rfl
@[simp] theorem State.wrReq_wall (s : State) (id a : Nat) (v : Word) : (s.wrReq id a v).wall = s.wall := rfl
@[simp] theorem State.wrReq_caps (s : State) (id a : Nat) (v : Word) : (s.wrReq id a v).caps = s.caps := rfl
@[simp] theorem State.wrReq_capSeq (s : State) (id a : Nat) (v : Word) : (s.wrReq id a v).capSeq = s.capSeq := rfl
@[simp] theorem State.wrReq_handed (s : State) (id a : Nat) (v : Word) : (s.wrReq id a v).handed = s.handed := rfl
@[simp] theorem State.wrReq_capAt (s : State) (id a : Nat) (v : Word) : (s.wrReq id a v).capAt = s.capAt := rfl
@[simp] theorem State.wrReq_slots (s : State) (id a : Nat) (v : Word) : (s.wrReq id a v).slots = s.slots := rfl
@[simp] theorem State.wrReq_memq (s : State) (id a : Nat) (v : Word) : (s.wrReq id a v).memq = s.memq := rfl
@[simp] theorem State.wrReq_ttPeak (s : State) (id a : Nat) (v : Word) : (s.wrReq id a v).ttPeak = s.ttPeak := rfl
@[simp] theorem State.wrReq_queues (s : State) (id a : Nat) (v : Word) : (s.wrReq id a v).queues = s.queues := rfl
@[simp] theorem State.wrReq_reports (s : State) (id a : Nat) (v : Word) : (s.wrReq id a v).reports = s.reports := rfl
@[simp] theorem State.wrReq_lines (s : State) (id a : Nat) (v : Word) : (s.wrReq id a v).lines = s.lines := rfl
@[simp] theorem State.wrReq_gens (s : State) (id a : Nat) (v : Word) : (s.wrReq id a v).gens = s.gens := rfl
@[simp] theorem State.wrReq_pwms (s : State) (id a : Nat) (v : Word) : (s.wrReq id a v).pwms = s.pwms := rfl
@[simp] theorem State.wrReq_sds (s : State) (id a : Nat) (v : Word) : (s.wrReq id a v).sds = s.sds := rfl
@[simp] theorem State.wrReq_pins (s : State) (id a : Nat) (v : Word) : (s.wrReq id a v).pins = s.pins := rfl
@[simp] theorem State.wrReq_bankOk (s : State) (id a : Nat) (v : Word) : (s.wrReq id a v).bankOk = s.bankOk := rfl
@[simp] theorem State.wrReq_cores (s : State) (id a : Nat) (v : Word) : (s.wrReq id a v).cores = s.cores := rfl
@[simp] theorem State.wrReq_rcs (s : State) (id a : Nat) (v : Word) : (s.wrReq id a v).rcs = s.rcs := rfl
@[simp] theorem State.wrReq_uarts (s : State) (id a : Nat) (v : Word) : (s.wrReq id a v).uarts = s.uarts := rfl
@[simp] theorem State.wrReq_att (s : State) (id a : Nat) (v : Word) : (s.wrReq id a v).att = s.att := rfl
@[simp] theorem State.wrReq_macs (s : State) (id a : Nat) (v : Word) : (s.wrReq id a v).macs = s.macs := rfl
@[simp] theorem State.wrReq_bells (s : State) (id a : Nat) (v : Word) : (s.wrReq id a v).bells = s.bells := rfl
@[simp] theorem State.wrReq_enq (s : State) (id a : Nat) (v : Word) : (s.wrReq id a v).enq = s.enq := rfl
@[simp] theorem State.wrReq_en (s : State) (id a : Nat) (v : Word) : (s.wrReq id a v).en = s.en := rfl
@[simp] theorem State.wrReq_fcMap (s : State) (id a : Nat) (v : Word) : (s.wrReq id a v).fcMap = s.fcMap := rfl
@[simp] theorem State.wrReq_fcOut (s : State) (id a : Nat) (v : Word) : (s.wrReq id a v).fcOut = s.fcOut := rfl
@[simp] theorem State.wrReq_logQ (s : State) (id a : Nat) (v : Word) : (s.wrReq id a v).logQ = s.logQ := rfl
@[simp] theorem State.wrReq_staff (s : State) (id a : Nat) (v : Word) : (s.wrReq id a v).staff = s.staff := rfl
@[simp] theorem State.wrReq_owners (s : State) (id a : Nat) (v : Word) : (s.wrReq id a v).owners = s.owners := rfl
@[simp] theorem State.wrReq_page (s : State) (id a : Nat) (v : Word) : (s.wrReq id a v).page = s.page := rfl
@[simp] theorem State.wrReq_hall (s : State) (id a : Nat) (v : Word) : (s.wrReq id a v).hall = s.hall := rfl
@[simp] theorem State.wrReq_keys (s : State) (id a : Nat) (v : Word) : (s.wrReq id a v).keys = s.keys := rfl
@[simp] theorem State.wrReq_otp (s : State) (id a : Nat) (v : Word) : (s.wrReq id a v).otp = s.otp := rfl
@[simp] theorem State.wrReq_certBuf (s : State) (id a : Nat) (v : Word) : (s.wrReq id a v).certBuf = s.certBuf := rfl
@[simp] theorem State.wrReq_attRec (s : State) (id a : Nat) (v : Word) : (s.wrReq id a v).attRec = s.attRec := rfl
@[simp] theorem State.wrReq_signing (s : State) (id a : Nat) (v : Word) : (s.wrReq id a v).signing = s.signing := rfl
@[simp] theorem State.wrReq_noise (s : State) (id a : Nat) (v : Word) : (s.wrReq id a v).noise = s.noise := rfl
@[simp] theorem State.wrReq_drbgs (s : State) (id a : Nat) (v : Word) : (s.wrReq id a v).drbgs = s.drbgs := rfl
@[simp] theorem State.wrReq_crypto (s : State) (id a : Nat) (v : Word) : (s.wrReq id a v).crypto = s.crypto := rfl
@[simp] theorem State.wrReq_crLast (s : State) (id a : Nat) (v : Word) : (s.wrReq id a v).crLast = s.crLast := rfl
@[simp] theorem State.wrReq_wdStart (s : State) (id a : Nat) (v : Word) : (s.wrReq id a v).wdStart = s.wdStart := rfl
@[simp] theorem State.wrReq_restart (s : State) (id a : Nat) (v : Word) : (s.wrReq id a v).restart = s.restart := rfl
@[simp] theorem State.wrReq_safeTest (s : State) (id a : Nat) (v : Word) : (s.wrReq id a v).safeTest = s.safeTest := rfl

/-! ### setCore -/

@[simp] theorem State.setCore_pending (s : State) (l : Nat) (c : Core) : (s.setCore l c).pending = s.pending := rfl
@[simp] theorem State.setCore_variant (s : State) (l : Nat) (c : Core) : (s.setCore l c).variant = s.variant := rfl
@[simp] theorem State.setCore_freeCtr (s : State) (l : Nat) (c : Core) : (s.setCore l c).freeCtr = s.freeCtr := rfl
@[simp] theorem State.setCore_was (s : State) (l : Nat) (c : Core) : (s.setCore l c).was = s.was := rfl
@[simp] theorem State.setCore_estopAt (s : State) (l : Nat) (c : Core) : (s.setCore l c).estopAt = s.estopAt := rfl
@[simp] theorem State.setCore_acts (s : State) (l : Nat) (c : Core) : (s.setCore l c).acts = s.acts := rfl
@[simp] theorem State.setCore_repFirst (s : State) (l : Nat) (c : Core) : (s.setCore l c).repFirst = s.repFirst := rfl
@[simp] theorem State.setCore_loaded (s : State) (l : Nat) (c : Core) : (s.setCore l c).loaded = s.loaded := rfl
@[simp] theorem State.setCore_snapK (s : State) (l : Nat) (c : Core) : (s.setCore l c).snapK = s.snapK := rfl
@[simp] theorem State.setCore_drbgLast (s : State) (l : Nat) (c : Core) : (s.setCore l c).drbgLast = s.drbgLast := rfl
@[simp] theorem State.setCore_wdOut (s : State) (l : Nat) (c : Core) : (s.setCore l c).wdOut = s.wdOut := rfl
@[simp] theorem State.setCore_wdStage (s : State) (l : Nat) (c : Core) : (s.setCore l c).wdStage = s.wdStage := rfl
@[simp] theorem State.setCore_rdata (s : State) (l : Nat) (c : Core) : (s.setCore l c).rdata = s.rdata := rfl
@[simp] theorem State.setCore_now (s : State) (l : Nat) (c : Core) : (s.setCore l c).now = s.now := rfl
@[simp] theorem State.setCore_regs (s : State) (l : Nat) (c : Core) : (s.setCore l c).regs = s.regs := rfl
@[simp] theorem State.setCore_inForce (s : State) (l : Nat) (c : Core) : (s.setCore l c).inForce = s.inForce := rfl
@[simp] theorem State.setCore_mem (s : State) (l : Nat) (c : Core) : (s.setCore l c).mem = s.mem := rfl
@[simp] theorem State.setCore_ecc (s : State) (l : Nat) (c : Core) : (s.setCore l c).ecc = s.ecc := rfl
@[simp] theorem State.setCore_mrq (s : State) (l : Nat) (c : Core) : (s.setCore l c).mrq = s.mrq := rfl
@[simp] theorem State.setCore_mrRun (s : State) (l : Nat) (c : Core) : (s.setCore l c).mrRun = s.mrRun := rfl
@[simp] theorem State.setCore_openLines (s : State) (l : Nat) (c : Core) : (s.setCore l c).openLines = s.openLines := rfl
@[simp] theorem State.setCore_scrub (s : State) (l : Nat) (c : Core) : (s.setCore l c).scrub = s.scrub := rfl
@[simp] theorem State.setCore_scrubDue (s : State) (l : Nat) (c : Core) : (s.setCore l c).scrubDue = s.scrubDue := rfl
@[simp] theorem State.setCore_dip (s : State) (l : Nat) (c : Core) : (s.setCore l c).dip = s.dip := rfl
@[simp] theorem State.setCore_mode (s : State) (l : Nat) (c : Core) : (s.setCore l c).mode = s.mode := rfl
@[simp] theorem State.setCore_trans (s : State) (l : Nat) (c : Core) : (s.setCore l c).trans = s.trans := rfl
@[simp] theorem State.setCore_dawn (s : State) (l : Nat) (c : Core) : (s.setCore l c).dawn = s.dawn := rfl
@[simp] theorem State.setCore_stepK (s : State) (l : Nat) (c : Core) : (s.setCore l c).stepK = s.stepK := rfl
@[simp] theorem State.setCore_supply (s : State) (l : Nat) (c : Core) : (s.setCore l c).supply = s.supply := rfl
@[simp] theorem State.setCore_resetN (s : State) (l : Nat) (c : Core) : (s.setCore l c).resetN = s.resetN := rfl
@[simp] theorem State.setCore_refOk (s : State) (l : Nat) (c : Core) : (s.setCore l c).refOk = s.refOk := rfl
@[simp] theorem State.setCore_pllOk (s : State) (l : Nat) (c : Core) : (s.setCore l c).pllOk = s.pllOk := rfl
@[simp] theorem State.setCore_clocks (s : State) (l : Nat) (c : Core) : (s.setCore l c).clocks = s.clocks := rfl
@[simp] theorem State.setCore_dawnEnd (s : State) (l : Nat) (c : Core) : (s.setCore l c).dawnEnd = s.dawnEnd := rfl
@[simp] theorem State.setCore_estopN (s : State) (l : Nat) (c : Core) : (s.setCore l c).estopN = s.estopN := rfl
@[simp] theorem State.setCore_svcLow (s : State) (l : Nat) (c : Core) : (s.setCore l c).svcLow = s.svcLow := rfl
@[simp] theorem State.setCore_chans (s : State) (l : Nat) (c : Core) : (s.setCore l c).chans = s.chans := rfl
@[simp] theorem State.setCore_mains (s : State) (l : Nat) (c : Core) : (s.setCore l c).mains = s.mains := rfl
@[simp] theorem State.setCore_tbs (s : State) (l : Nat) (c : Core) : (s.setCore l c).tbs = s.tbs := rfl
@[simp] theorem State.setCore_wall (s : State) (l : Nat) (c : Core) : (s.setCore l c).wall = s.wall := rfl
@[simp] theorem State.setCore_caps (s : State) (l : Nat) (c : Core) : (s.setCore l c).caps = s.caps := rfl
@[simp] theorem State.setCore_capSeq (s : State) (l : Nat) (c : Core) : (s.setCore l c).capSeq = s.capSeq := rfl
@[simp] theorem State.setCore_handed (s : State) (l : Nat) (c : Core) : (s.setCore l c).handed = s.handed := rfl
@[simp] theorem State.setCore_capAt (s : State) (l : Nat) (c : Core) : (s.setCore l c).capAt = s.capAt := rfl
@[simp] theorem State.setCore_slots (s : State) (l : Nat) (c : Core) : (s.setCore l c).slots = s.slots := rfl
@[simp] theorem State.setCore_memq (s : State) (l : Nat) (c : Core) : (s.setCore l c).memq = s.memq := rfl
@[simp] theorem State.setCore_ttPeak (s : State) (l : Nat) (c : Core) : (s.setCore l c).ttPeak = s.ttPeak := rfl
@[simp] theorem State.setCore_queues (s : State) (l : Nat) (c : Core) : (s.setCore l c).queues = s.queues := rfl
@[simp] theorem State.setCore_reports (s : State) (l : Nat) (c : Core) : (s.setCore l c).reports = s.reports := rfl
@[simp] theorem State.setCore_lines (s : State) (l : Nat) (c : Core) : (s.setCore l c).lines = s.lines := rfl
@[simp] theorem State.setCore_gens (s : State) (l : Nat) (c : Core) : (s.setCore l c).gens = s.gens := rfl
@[simp] theorem State.setCore_pwms (s : State) (l : Nat) (c : Core) : (s.setCore l c).pwms = s.pwms := rfl
@[simp] theorem State.setCore_sds (s : State) (l : Nat) (c : Core) : (s.setCore l c).sds = s.sds := rfl
@[simp] theorem State.setCore_pins (s : State) (l : Nat) (c : Core) : (s.setCore l c).pins = s.pins := rfl
@[simp] theorem State.setCore_bankOk (s : State) (l : Nat) (c : Core) : (s.setCore l c).bankOk = s.bankOk := rfl
@[simp] theorem State.setCore_cores (s : State) (l : Nat) (c : Core) : (s.setCore l c).cores = s.cores.put l c := rfl
@[simp] theorem State.setCore_rcs (s : State) (l : Nat) (c : Core) : (s.setCore l c).rcs = s.rcs := rfl
@[simp] theorem State.setCore_uarts (s : State) (l : Nat) (c : Core) : (s.setCore l c).uarts = s.uarts := rfl
@[simp] theorem State.setCore_att (s : State) (l : Nat) (c : Core) : (s.setCore l c).att = s.att := rfl
@[simp] theorem State.setCore_macs (s : State) (l : Nat) (c : Core) : (s.setCore l c).macs = s.macs := rfl
@[simp] theorem State.setCore_bells (s : State) (l : Nat) (c : Core) : (s.setCore l c).bells = s.bells := rfl
@[simp] theorem State.setCore_enq (s : State) (l : Nat) (c : Core) : (s.setCore l c).enq = s.enq := rfl
@[simp] theorem State.setCore_en (s : State) (l : Nat) (c : Core) : (s.setCore l c).en = s.en := rfl
@[simp] theorem State.setCore_fcMap (s : State) (l : Nat) (c : Core) : (s.setCore l c).fcMap = s.fcMap := rfl
@[simp] theorem State.setCore_fcOut (s : State) (l : Nat) (c : Core) : (s.setCore l c).fcOut = s.fcOut := rfl
@[simp] theorem State.setCore_logQ (s : State) (l : Nat) (c : Core) : (s.setCore l c).logQ = s.logQ := rfl
@[simp] theorem State.setCore_staff (s : State) (l : Nat) (c : Core) : (s.setCore l c).staff = s.staff := rfl
@[simp] theorem State.setCore_owners (s : State) (l : Nat) (c : Core) : (s.setCore l c).owners = s.owners := rfl
@[simp] theorem State.setCore_page (s : State) (l : Nat) (c : Core) : (s.setCore l c).page = s.page := rfl
@[simp] theorem State.setCore_hall (s : State) (l : Nat) (c : Core) : (s.setCore l c).hall = s.hall := rfl
@[simp] theorem State.setCore_keys (s : State) (l : Nat) (c : Core) : (s.setCore l c).keys = s.keys := rfl
@[simp] theorem State.setCore_otp (s : State) (l : Nat) (c : Core) : (s.setCore l c).otp = s.otp := rfl
@[simp] theorem State.setCore_certBuf (s : State) (l : Nat) (c : Core) : (s.setCore l c).certBuf = s.certBuf := rfl
@[simp] theorem State.setCore_attRec (s : State) (l : Nat) (c : Core) : (s.setCore l c).attRec = s.attRec := rfl
@[simp] theorem State.setCore_signing (s : State) (l : Nat) (c : Core) : (s.setCore l c).signing = s.signing := rfl
@[simp] theorem State.setCore_noise (s : State) (l : Nat) (c : Core) : (s.setCore l c).noise = s.noise := rfl
@[simp] theorem State.setCore_drbgs (s : State) (l : Nat) (c : Core) : (s.setCore l c).drbgs = s.drbgs := rfl
@[simp] theorem State.setCore_crypto (s : State) (l : Nat) (c : Core) : (s.setCore l c).crypto = s.crypto := rfl
@[simp] theorem State.setCore_crLast (s : State) (l : Nat) (c : Core) : (s.setCore l c).crLast = s.crLast := rfl
@[simp] theorem State.setCore_wdStart (s : State) (l : Nat) (c : Core) : (s.setCore l c).wdStart = s.wdStart := rfl
@[simp] theorem State.setCore_restart (s : State) (l : Nat) (c : Core) : (s.setCore l c).restart = s.restart := rfl
@[simp] theorem State.setCore_safeTest (s : State) (l : Nat) (c : Core) : (s.setCore l c).safeTest = s.safeTest := rfl

/-! ### setByte -/

@[simp] theorem State.setByte_pending (s : State) (a : Nat) (v : Byte) : (s.setByte a v).pending = s.pending := rfl
@[simp] theorem State.setByte_variant (s : State) (a : Nat) (v : Byte) : (s.setByte a v).variant = s.variant := rfl
@[simp] theorem State.setByte_freeCtr (s : State) (a : Nat) (v : Byte) : (s.setByte a v).freeCtr = s.freeCtr := rfl
@[simp] theorem State.setByte_was (s : State) (a : Nat) (v : Byte) : (s.setByte a v).was = s.was := rfl
@[simp] theorem State.setByte_estopAt (s : State) (a : Nat) (v : Byte) : (s.setByte a v).estopAt = s.estopAt := rfl
@[simp] theorem State.setByte_acts (s : State) (a : Nat) (v : Byte) : (s.setByte a v).acts = s.acts := rfl
@[simp] theorem State.setByte_repFirst (s : State) (a : Nat) (v : Byte) : (s.setByte a v).repFirst = s.repFirst := rfl
@[simp] theorem State.setByte_loaded (s : State) (a : Nat) (v : Byte) : (s.setByte a v).loaded = s.loaded := rfl
@[simp] theorem State.setByte_snapK (s : State) (a : Nat) (v : Byte) : (s.setByte a v).snapK = s.snapK := rfl
@[simp] theorem State.setByte_drbgLast (s : State) (a : Nat) (v : Byte) : (s.setByte a v).drbgLast = s.drbgLast := rfl
@[simp] theorem State.setByte_wdOut (s : State) (a : Nat) (v : Byte) : (s.setByte a v).wdOut = s.wdOut := rfl
@[simp] theorem State.setByte_wdStage (s : State) (a : Nat) (v : Byte) : (s.setByte a v).wdStage = s.wdStage := rfl
@[simp] theorem State.setByte_rdata (s : State) (a : Nat) (v : Byte) : (s.setByte a v).rdata = s.rdata := rfl
@[simp] theorem State.setByte_now (s : State) (a : Nat) (v : Byte) : (s.setByte a v).now = s.now := rfl
@[simp] theorem State.setByte_regs (s : State) (a : Nat) (v : Byte) : (s.setByte a v).regs = s.regs := rfl
@[simp] theorem State.setByte_inForce (s : State) (a : Nat) (v : Byte) : (s.setByte a v).inForce = s.inForce := rfl
@[simp] theorem State.setByte_mem (s : State) (a : Nat) (v : Byte) : (s.setByte a v).mem = memPut s.mem a v := rfl
@[simp] theorem State.setByte_ecc (s : State) (a : Nat) (v : Byte) : (s.setByte a v).ecc = s.ecc := rfl
@[simp] theorem State.setByte_mrq (s : State) (a : Nat) (v : Byte) : (s.setByte a v).mrq = s.mrq := rfl
@[simp] theorem State.setByte_mrRun (s : State) (a : Nat) (v : Byte) : (s.setByte a v).mrRun = s.mrRun := rfl
@[simp] theorem State.setByte_openLines (s : State) (a : Nat) (v : Byte) : (s.setByte a v).openLines = s.openLines := rfl
@[simp] theorem State.setByte_scrub (s : State) (a : Nat) (v : Byte) : (s.setByte a v).scrub = s.scrub := rfl
@[simp] theorem State.setByte_scrubDue (s : State) (a : Nat) (v : Byte) : (s.setByte a v).scrubDue = s.scrubDue := rfl
@[simp] theorem State.setByte_dip (s : State) (a : Nat) (v : Byte) : (s.setByte a v).dip = s.dip := rfl
@[simp] theorem State.setByte_mode (s : State) (a : Nat) (v : Byte) : (s.setByte a v).mode = s.mode := rfl
@[simp] theorem State.setByte_trans (s : State) (a : Nat) (v : Byte) : (s.setByte a v).trans = s.trans := rfl
@[simp] theorem State.setByte_dawn (s : State) (a : Nat) (v : Byte) : (s.setByte a v).dawn = s.dawn := rfl
@[simp] theorem State.setByte_stepK (s : State) (a : Nat) (v : Byte) : (s.setByte a v).stepK = s.stepK := rfl
@[simp] theorem State.setByte_supply (s : State) (a : Nat) (v : Byte) : (s.setByte a v).supply = s.supply := rfl
@[simp] theorem State.setByte_resetN (s : State) (a : Nat) (v : Byte) : (s.setByte a v).resetN = s.resetN := rfl
@[simp] theorem State.setByte_refOk (s : State) (a : Nat) (v : Byte) : (s.setByte a v).refOk = s.refOk := rfl
@[simp] theorem State.setByte_pllOk (s : State) (a : Nat) (v : Byte) : (s.setByte a v).pllOk = s.pllOk := rfl
@[simp] theorem State.setByte_clocks (s : State) (a : Nat) (v : Byte) : (s.setByte a v).clocks = s.clocks := rfl
@[simp] theorem State.setByte_dawnEnd (s : State) (a : Nat) (v : Byte) : (s.setByte a v).dawnEnd = s.dawnEnd := rfl
@[simp] theorem State.setByte_estopN (s : State) (a : Nat) (v : Byte) : (s.setByte a v).estopN = s.estopN := rfl
@[simp] theorem State.setByte_svcLow (s : State) (a : Nat) (v : Byte) : (s.setByte a v).svcLow = s.svcLow := rfl
@[simp] theorem State.setByte_chans (s : State) (a : Nat) (v : Byte) : (s.setByte a v).chans = s.chans := rfl
@[simp] theorem State.setByte_mains (s : State) (a : Nat) (v : Byte) : (s.setByte a v).mains = s.mains := rfl
@[simp] theorem State.setByte_tbs (s : State) (a : Nat) (v : Byte) : (s.setByte a v).tbs = s.tbs := rfl
@[simp] theorem State.setByte_wall (s : State) (a : Nat) (v : Byte) : (s.setByte a v).wall = s.wall := rfl
@[simp] theorem State.setByte_caps (s : State) (a : Nat) (v : Byte) : (s.setByte a v).caps = s.caps := rfl
@[simp] theorem State.setByte_capSeq (s : State) (a : Nat) (v : Byte) : (s.setByte a v).capSeq = s.capSeq := rfl
@[simp] theorem State.setByte_handed (s : State) (a : Nat) (v : Byte) : (s.setByte a v).handed = s.handed := rfl
@[simp] theorem State.setByte_capAt (s : State) (a : Nat) (v : Byte) : (s.setByte a v).capAt = s.capAt := rfl
@[simp] theorem State.setByte_slots (s : State) (a : Nat) (v : Byte) : (s.setByte a v).slots = s.slots := rfl
@[simp] theorem State.setByte_memq (s : State) (a : Nat) (v : Byte) : (s.setByte a v).memq = s.memq := rfl
@[simp] theorem State.setByte_ttPeak (s : State) (a : Nat) (v : Byte) : (s.setByte a v).ttPeak = s.ttPeak := rfl
@[simp] theorem State.setByte_queues (s : State) (a : Nat) (v : Byte) : (s.setByte a v).queues = s.queues := rfl
@[simp] theorem State.setByte_reports (s : State) (a : Nat) (v : Byte) : (s.setByte a v).reports = s.reports := rfl
@[simp] theorem State.setByte_lines (s : State) (a : Nat) (v : Byte) : (s.setByte a v).lines = s.lines := rfl
@[simp] theorem State.setByte_gens (s : State) (a : Nat) (v : Byte) : (s.setByte a v).gens = s.gens := rfl
@[simp] theorem State.setByte_pwms (s : State) (a : Nat) (v : Byte) : (s.setByte a v).pwms = s.pwms := rfl
@[simp] theorem State.setByte_sds (s : State) (a : Nat) (v : Byte) : (s.setByte a v).sds = s.sds := rfl
@[simp] theorem State.setByte_pins (s : State) (a : Nat) (v : Byte) : (s.setByte a v).pins = s.pins := rfl
@[simp] theorem State.setByte_bankOk (s : State) (a : Nat) (v : Byte) : (s.setByte a v).bankOk = s.bankOk := rfl
@[simp] theorem State.setByte_cores (s : State) (a : Nat) (v : Byte) : (s.setByte a v).cores = s.cores := rfl
@[simp] theorem State.setByte_rcs (s : State) (a : Nat) (v : Byte) : (s.setByte a v).rcs = s.rcs := rfl
@[simp] theorem State.setByte_uarts (s : State) (a : Nat) (v : Byte) : (s.setByte a v).uarts = s.uarts := rfl
@[simp] theorem State.setByte_att (s : State) (a : Nat) (v : Byte) : (s.setByte a v).att = s.att := rfl
@[simp] theorem State.setByte_macs (s : State) (a : Nat) (v : Byte) : (s.setByte a v).macs = s.macs := rfl
@[simp] theorem State.setByte_bells (s : State) (a : Nat) (v : Byte) : (s.setByte a v).bells = s.bells := rfl
@[simp] theorem State.setByte_enq (s : State) (a : Nat) (v : Byte) : (s.setByte a v).enq = s.enq := rfl
@[simp] theorem State.setByte_en (s : State) (a : Nat) (v : Byte) : (s.setByte a v).en = s.en := rfl
@[simp] theorem State.setByte_fcMap (s : State) (a : Nat) (v : Byte) : (s.setByte a v).fcMap = s.fcMap := rfl
@[simp] theorem State.setByte_fcOut (s : State) (a : Nat) (v : Byte) : (s.setByte a v).fcOut = s.fcOut := rfl
@[simp] theorem State.setByte_logQ (s : State) (a : Nat) (v : Byte) : (s.setByte a v).logQ = s.logQ := rfl
@[simp] theorem State.setByte_staff (s : State) (a : Nat) (v : Byte) : (s.setByte a v).staff = s.staff := rfl
@[simp] theorem State.setByte_owners (s : State) (a : Nat) (v : Byte) : (s.setByte a v).owners = s.owners := rfl
@[simp] theorem State.setByte_page (s : State) (a : Nat) (v : Byte) : (s.setByte a v).page = s.page := rfl
@[simp] theorem State.setByte_hall (s : State) (a : Nat) (v : Byte) : (s.setByte a v).hall = s.hall := rfl
@[simp] theorem State.setByte_keys (s : State) (a : Nat) (v : Byte) : (s.setByte a v).keys = s.keys := rfl
@[simp] theorem State.setByte_otp (s : State) (a : Nat) (v : Byte) : (s.setByte a v).otp = s.otp := rfl
@[simp] theorem State.setByte_certBuf (s : State) (a : Nat) (v : Byte) : (s.setByte a v).certBuf = s.certBuf := rfl
@[simp] theorem State.setByte_attRec (s : State) (a : Nat) (v : Byte) : (s.setByte a v).attRec = s.attRec := rfl
@[simp] theorem State.setByte_signing (s : State) (a : Nat) (v : Byte) : (s.setByte a v).signing = s.signing := rfl
@[simp] theorem State.setByte_noise (s : State) (a : Nat) (v : Byte) : (s.setByte a v).noise = s.noise := rfl
@[simp] theorem State.setByte_drbgs (s : State) (a : Nat) (v : Byte) : (s.setByte a v).drbgs = s.drbgs := rfl
@[simp] theorem State.setByte_crypto (s : State) (a : Nat) (v : Byte) : (s.setByte a v).crypto = s.crypto := rfl
@[simp] theorem State.setByte_crLast (s : State) (a : Nat) (v : Byte) : (s.setByte a v).crLast = s.crLast := rfl
@[simp] theorem State.setByte_wdStart (s : State) (a : Nat) (v : Byte) : (s.setByte a v).wdStart = s.wdStart := rfl
@[simp] theorem State.setByte_restart (s : State) (a : Nat) (v : Byte) : (s.setByte a v).restart = s.restart := rfl
@[simp] theorem State.setByte_safeTest (s : State) (a : Nat) (v : Byte) : (s.setByte a v).safeTest = s.safeTest := rfl

/-! ### setTb -/

@[simp] theorem State.setTb_pending (s : State) (t : Nat) (x : Timebase) : (s.setTb t x).pending = s.pending := rfl
@[simp] theorem State.setTb_variant (s : State) (t : Nat) (x : Timebase) : (s.setTb t x).variant = s.variant := rfl
@[simp] theorem State.setTb_freeCtr (s : State) (t : Nat) (x : Timebase) : (s.setTb t x).freeCtr = s.freeCtr := rfl
@[simp] theorem State.setTb_rdata (s : State) (t : Nat) (x : Timebase) : (s.setTb t x).rdata = s.rdata := rfl
@[simp] theorem State.setTb_inForce (s : State) (t : Nat) (x : Timebase) : (s.setTb t x).inForce = s.inForce := rfl
@[simp] theorem State.setTb_was (s : State) (t : Nat) (x : Timebase) : (s.setTb t x).was = s.was := rfl
@[simp] theorem State.setTb_ecc (s : State) (t : Nat) (x : Timebase) : (s.setTb t x).ecc = s.ecc := rfl
@[simp] theorem State.setTb_mrq (s : State) (t : Nat) (x : Timebase) : (s.setTb t x).mrq = s.mrq := rfl
@[simp] theorem State.setTb_mrRun (s : State) (t : Nat) (x : Timebase) : (s.setTb t x).mrRun = s.mrRun := rfl
@[simp] theorem State.setTb_openLines (s : State) (t : Nat) (x : Timebase) : (s.setTb t x).openLines = s.openLines := rfl
@[simp] theorem State.setTb_scrub (s : State) (t : Nat) (x : Timebase) : (s.setTb t x).scrub = s.scrub := rfl
@[simp] theorem State.setTb_scrubDue (s : State) (t : Nat) (x : Timebase) : (s.setTb t x).scrubDue = s.scrubDue := rfl
@[simp] theorem State.setTb_dip (s : State) (t : Nat) (x : Timebase) : (s.setTb t x).dip = s.dip := rfl
@[simp] theorem State.setTb_trans (s : State) (t : Nat) (x : Timebase) : (s.setTb t x).trans = s.trans := rfl
@[simp] theorem State.setTb_dawn (s : State) (t : Nat) (x : Timebase) : (s.setTb t x).dawn = s.dawn := rfl
@[simp] theorem State.setTb_stepK (s : State) (t : Nat) (x : Timebase) : (s.setTb t x).stepK = s.stepK := rfl
@[simp] theorem State.setTb_supply (s : State) (t : Nat) (x : Timebase) : (s.setTb t x).supply = s.supply := rfl
@[simp] theorem State.setTb_resetN (s : State) (t : Nat) (x : Timebase) : (s.setTb t x).resetN = s.resetN := rfl
@[simp] theorem State.setTb_refOk (s : State) (t : Nat) (x : Timebase) : (s.setTb t x).refOk = s.refOk := rfl
@[simp] theorem State.setTb_pllOk (s : State) (t : Nat) (x : Timebase) : (s.setTb t x).pllOk = s.pllOk := rfl
@[simp] theorem State.setTb_dawnEnd (s : State) (t : Nat) (x : Timebase) : (s.setTb t x).dawnEnd = s.dawnEnd := rfl
@[simp] theorem State.setTb_estopN (s : State) (t : Nat) (x : Timebase) : (s.setTb t x).estopN = s.estopN := rfl
@[simp] theorem State.setTb_estopAt (s : State) (t : Nat) (x : Timebase) : (s.setTb t x).estopAt = s.estopAt := rfl
@[simp] theorem State.setTb_svcLow (s : State) (t : Nat) (x : Timebase) : (s.setTb t x).svcLow = s.svcLow := rfl
@[simp] theorem State.setTb_chans (s : State) (t : Nat) (x : Timebase) : (s.setTb t x).chans = s.chans := rfl
@[simp] theorem State.setTb_mains (s : State) (t : Nat) (x : Timebase) : (s.setTb t x).mains = s.mains := rfl
@[simp] theorem State.setTb_wall (s : State) (t : Nat) (x : Timebase) : (s.setTb t x).wall = s.wall := rfl
@[simp] theorem State.setTb_caps (s : State) (t : Nat) (x : Timebase) : (s.setTb t x).caps = s.caps := rfl
@[simp] theorem State.setTb_capSeq (s : State) (t : Nat) (x : Timebase) : (s.setTb t x).capSeq = s.capSeq := rfl
@[simp] theorem State.setTb_handed (s : State) (t : Nat) (x : Timebase) : (s.setTb t x).handed = s.handed := rfl
@[simp] theorem State.setTb_capAt (s : State) (t : Nat) (x : Timebase) : (s.setTb t x).capAt = s.capAt := rfl
@[simp] theorem State.setTb_slots (s : State) (t : Nat) (x : Timebase) : (s.setTb t x).slots = s.slots := rfl
@[simp] theorem State.setTb_memq (s : State) (t : Nat) (x : Timebase) : (s.setTb t x).memq = s.memq := rfl
@[simp] theorem State.setTb_acts (s : State) (t : Nat) (x : Timebase) : (s.setTb t x).acts = s.acts := rfl
@[simp] theorem State.setTb_ttPeak (s : State) (t : Nat) (x : Timebase) : (s.setTb t x).ttPeak = s.ttPeak := rfl
@[simp] theorem State.setTb_queues (s : State) (t : Nat) (x : Timebase) : (s.setTb t x).queues = s.queues := rfl
@[simp] theorem State.setTb_reports (s : State) (t : Nat) (x : Timebase) : (s.setTb t x).reports = s.reports := rfl
@[simp] theorem State.setTb_repFirst (s : State) (t : Nat) (x : Timebase) : (s.setTb t x).repFirst = s.repFirst := rfl
@[simp] theorem State.setTb_lines (s : State) (t : Nat) (x : Timebase) : (s.setTb t x).lines = s.lines := rfl
@[simp] theorem State.setTb_gens (s : State) (t : Nat) (x : Timebase) : (s.setTb t x).gens = s.gens := rfl
@[simp] theorem State.setTb_pwms (s : State) (t : Nat) (x : Timebase) : (s.setTb t x).pwms = s.pwms := rfl
@[simp] theorem State.setTb_sds (s : State) (t : Nat) (x : Timebase) : (s.setTb t x).sds = s.sds := rfl
@[simp] theorem State.setTb_pins (s : State) (t : Nat) (x : Timebase) : (s.setTb t x).pins = s.pins := rfl
@[simp] theorem State.setTb_bankOk (s : State) (t : Nat) (x : Timebase) : (s.setTb t x).bankOk = s.bankOk := rfl
@[simp] theorem State.setTb_loaded (s : State) (t : Nat) (x : Timebase) : (s.setTb t x).loaded = s.loaded := rfl
@[simp] theorem State.setTb_rcs (s : State) (t : Nat) (x : Timebase) : (s.setTb t x).rcs = s.rcs := rfl
@[simp] theorem State.setTb_uarts (s : State) (t : Nat) (x : Timebase) : (s.setTb t x).uarts = s.uarts := rfl
@[simp] theorem State.setTb_att (s : State) (t : Nat) (x : Timebase) : (s.setTb t x).att = s.att := rfl
@[simp] theorem State.setTb_macs (s : State) (t : Nat) (x : Timebase) : (s.setTb t x).macs = s.macs := rfl
@[simp] theorem State.setTb_bells (s : State) (t : Nat) (x : Timebase) : (s.setTb t x).bells = s.bells := rfl
@[simp] theorem State.setTb_enq (s : State) (t : Nat) (x : Timebase) : (s.setTb t x).enq = s.enq := rfl
@[simp] theorem State.setTb_en (s : State) (t : Nat) (x : Timebase) : (s.setTb t x).en = s.en := rfl
@[simp] theorem State.setTb_fcMap (s : State) (t : Nat) (x : Timebase) : (s.setTb t x).fcMap = s.fcMap := rfl
@[simp] theorem State.setTb_fcOut (s : State) (t : Nat) (x : Timebase) : (s.setTb t x).fcOut = s.fcOut := rfl
@[simp] theorem State.setTb_staff (s : State) (t : Nat) (x : Timebase) : (s.setTb t x).staff = s.staff := rfl
@[simp] theorem State.setTb_owners (s : State) (t : Nat) (x : Timebase) : (s.setTb t x).owners = s.owners := rfl
@[simp] theorem State.setTb_page (s : State) (t : Nat) (x : Timebase) : (s.setTb t x).page = s.page := rfl
@[simp] theorem State.setTb_snapK (s : State) (t : Nat) (x : Timebase) : (s.setTb t x).snapK = s.snapK := rfl
@[simp] theorem State.setTb_hall (s : State) (t : Nat) (x : Timebase) : (s.setTb t x).hall = s.hall := rfl
@[simp] theorem State.setTb_keys (s : State) (t : Nat) (x : Timebase) : (s.setTb t x).keys = s.keys := rfl
@[simp] theorem State.setTb_otp (s : State) (t : Nat) (x : Timebase) : (s.setTb t x).otp = s.otp := rfl
@[simp] theorem State.setTb_certBuf (s : State) (t : Nat) (x : Timebase) : (s.setTb t x).certBuf = s.certBuf := rfl
@[simp] theorem State.setTb_attRec (s : State) (t : Nat) (x : Timebase) : (s.setTb t x).attRec = s.attRec := rfl
@[simp] theorem State.setTb_signing (s : State) (t : Nat) (x : Timebase) : (s.setTb t x).signing = s.signing := rfl
@[simp] theorem State.setTb_noise (s : State) (t : Nat) (x : Timebase) : (s.setTb t x).noise = s.noise := rfl
@[simp] theorem State.setTb_drbgs (s : State) (t : Nat) (x : Timebase) : (s.setTb t x).drbgs = s.drbgs := rfl
@[simp] theorem State.setTb_drbgLast (s : State) (t : Nat) (x : Timebase) : (s.setTb t x).drbgLast = s.drbgLast := rfl
@[simp] theorem State.setTb_crypto (s : State) (t : Nat) (x : Timebase) : (s.setTb t x).crypto = s.crypto := rfl
@[simp] theorem State.setTb_crLast (s : State) (t : Nat) (x : Timebase) : (s.setTb t x).crLast = s.crLast := rfl
@[simp] theorem State.setTb_wdStart (s : State) (t : Nat) (x : Timebase) : (s.setTb t x).wdStart = s.wdStart := rfl
@[simp] theorem State.setTb_wdOut (s : State) (t : Nat) (x : Timebase) : (s.setTb t x).wdOut = s.wdOut := rfl
@[simp] theorem State.setTb_wdStage (s : State) (t : Nat) (x : Timebase) : (s.setTb t x).wdStage = s.wdStage := rfl
@[simp] theorem State.setTb_restart (s : State) (t : Nat) (x : Timebase) : (s.setTb t x).restart = s.restart := rfl
@[simp] theorem State.setTb_safeTest (s : State) (t : Nat) (x : Timebase) : (s.setTb t x).safeTest = s.safeTest := rfl
@[simp] theorem State.setTb_now (s : State) (t : Nat) (x : Timebase) : (s.setTb t x).now = s.now := rfl
@[simp] theorem State.setTb_regs (s : State) (t : Nat) (x : Timebase) : (s.setTb t x).regs = s.regs := rfl
@[simp] theorem State.setTb_mem (s : State) (t : Nat) (x : Timebase) : (s.setTb t x).mem = s.mem := rfl
@[simp] theorem State.setTb_cores (s : State) (t : Nat) (x : Timebase) : (s.setTb t x).cores = s.cores := rfl
@[simp] theorem State.setTb_mode (s : State) (t : Nat) (x : Timebase) : (s.setTb t x).mode = s.mode := rfl
@[simp] theorem State.setTb_clocks (s : State) (t : Nat) (x : Timebase) : (s.setTb t x).clocks = s.clocks := rfl
@[simp] theorem State.setTb_logQ (s : State) (t : Nat) (x : Timebase) : (s.setTb t x).logQ = s.logQ := rfl
@[simp] theorem State.setTb_tbs (s : State) (t : Nat) (x : Timebase) : (s.setTb t x).tbs = s.tbs.put t x := rfl

/-! ### setSlot -/

@[simp] theorem State.setSlot_pending (s : State) (n : Nat) (x : Slot) : (s.setSlot n x).pending = s.pending := rfl
@[simp] theorem State.setSlot_variant (s : State) (n : Nat) (x : Slot) : (s.setSlot n x).variant = s.variant := rfl
@[simp] theorem State.setSlot_freeCtr (s : State) (n : Nat) (x : Slot) : (s.setSlot n x).freeCtr = s.freeCtr := rfl
@[simp] theorem State.setSlot_rdata (s : State) (n : Nat) (x : Slot) : (s.setSlot n x).rdata = s.rdata := rfl
@[simp] theorem State.setSlot_inForce (s : State) (n : Nat) (x : Slot) : (s.setSlot n x).inForce = s.inForce := rfl
@[simp] theorem State.setSlot_was (s : State) (n : Nat) (x : Slot) : (s.setSlot n x).was = s.was := rfl
@[simp] theorem State.setSlot_ecc (s : State) (n : Nat) (x : Slot) : (s.setSlot n x).ecc = s.ecc := rfl
@[simp] theorem State.setSlot_mrq (s : State) (n : Nat) (x : Slot) : (s.setSlot n x).mrq = s.mrq := rfl
@[simp] theorem State.setSlot_mrRun (s : State) (n : Nat) (x : Slot) : (s.setSlot n x).mrRun = s.mrRun := rfl
@[simp] theorem State.setSlot_openLines (s : State) (n : Nat) (x : Slot) : (s.setSlot n x).openLines = s.openLines := rfl
@[simp] theorem State.setSlot_scrub (s : State) (n : Nat) (x : Slot) : (s.setSlot n x).scrub = s.scrub := rfl
@[simp] theorem State.setSlot_scrubDue (s : State) (n : Nat) (x : Slot) : (s.setSlot n x).scrubDue = s.scrubDue := rfl
@[simp] theorem State.setSlot_dip (s : State) (n : Nat) (x : Slot) : (s.setSlot n x).dip = s.dip := rfl
@[simp] theorem State.setSlot_trans (s : State) (n : Nat) (x : Slot) : (s.setSlot n x).trans = s.trans := rfl
@[simp] theorem State.setSlot_dawn (s : State) (n : Nat) (x : Slot) : (s.setSlot n x).dawn = s.dawn := rfl
@[simp] theorem State.setSlot_stepK (s : State) (n : Nat) (x : Slot) : (s.setSlot n x).stepK = s.stepK := rfl
@[simp] theorem State.setSlot_supply (s : State) (n : Nat) (x : Slot) : (s.setSlot n x).supply = s.supply := rfl
@[simp] theorem State.setSlot_resetN (s : State) (n : Nat) (x : Slot) : (s.setSlot n x).resetN = s.resetN := rfl
@[simp] theorem State.setSlot_refOk (s : State) (n : Nat) (x : Slot) : (s.setSlot n x).refOk = s.refOk := rfl
@[simp] theorem State.setSlot_pllOk (s : State) (n : Nat) (x : Slot) : (s.setSlot n x).pllOk = s.pllOk := rfl
@[simp] theorem State.setSlot_dawnEnd (s : State) (n : Nat) (x : Slot) : (s.setSlot n x).dawnEnd = s.dawnEnd := rfl
@[simp] theorem State.setSlot_estopN (s : State) (n : Nat) (x : Slot) : (s.setSlot n x).estopN = s.estopN := rfl
@[simp] theorem State.setSlot_estopAt (s : State) (n : Nat) (x : Slot) : (s.setSlot n x).estopAt = s.estopAt := rfl
@[simp] theorem State.setSlot_svcLow (s : State) (n : Nat) (x : Slot) : (s.setSlot n x).svcLow = s.svcLow := rfl
@[simp] theorem State.setSlot_chans (s : State) (n : Nat) (x : Slot) : (s.setSlot n x).chans = s.chans := rfl
@[simp] theorem State.setSlot_mains (s : State) (n : Nat) (x : Slot) : (s.setSlot n x).mains = s.mains := rfl
@[simp] theorem State.setSlot_tbs (s : State) (n : Nat) (x : Slot) : (s.setSlot n x).tbs = s.tbs := rfl
@[simp] theorem State.setSlot_wall (s : State) (n : Nat) (x : Slot) : (s.setSlot n x).wall = s.wall := rfl
@[simp] theorem State.setSlot_caps (s : State) (n : Nat) (x : Slot) : (s.setSlot n x).caps = s.caps := rfl
@[simp] theorem State.setSlot_capSeq (s : State) (n : Nat) (x : Slot) : (s.setSlot n x).capSeq = s.capSeq := rfl
@[simp] theorem State.setSlot_handed (s : State) (n : Nat) (x : Slot) : (s.setSlot n x).handed = s.handed := rfl
@[simp] theorem State.setSlot_capAt (s : State) (n : Nat) (x : Slot) : (s.setSlot n x).capAt = s.capAt := rfl
@[simp] theorem State.setSlot_memq (s : State) (n : Nat) (x : Slot) : (s.setSlot n x).memq = s.memq := rfl
@[simp] theorem State.setSlot_acts (s : State) (n : Nat) (x : Slot) : (s.setSlot n x).acts = s.acts := rfl
@[simp] theorem State.setSlot_ttPeak (s : State) (n : Nat) (x : Slot) : (s.setSlot n x).ttPeak = s.ttPeak := rfl
@[simp] theorem State.setSlot_queues (s : State) (n : Nat) (x : Slot) : (s.setSlot n x).queues = s.queues := rfl
@[simp] theorem State.setSlot_reports (s : State) (n : Nat) (x : Slot) : (s.setSlot n x).reports = s.reports := rfl
@[simp] theorem State.setSlot_repFirst (s : State) (n : Nat) (x : Slot) : (s.setSlot n x).repFirst = s.repFirst := rfl
@[simp] theorem State.setSlot_lines (s : State) (n : Nat) (x : Slot) : (s.setSlot n x).lines = s.lines := rfl
@[simp] theorem State.setSlot_gens (s : State) (n : Nat) (x : Slot) : (s.setSlot n x).gens = s.gens := rfl
@[simp] theorem State.setSlot_pwms (s : State) (n : Nat) (x : Slot) : (s.setSlot n x).pwms = s.pwms := rfl
@[simp] theorem State.setSlot_sds (s : State) (n : Nat) (x : Slot) : (s.setSlot n x).sds = s.sds := rfl
@[simp] theorem State.setSlot_pins (s : State) (n : Nat) (x : Slot) : (s.setSlot n x).pins = s.pins := rfl
@[simp] theorem State.setSlot_bankOk (s : State) (n : Nat) (x : Slot) : (s.setSlot n x).bankOk = s.bankOk := rfl
@[simp] theorem State.setSlot_loaded (s : State) (n : Nat) (x : Slot) : (s.setSlot n x).loaded = s.loaded := rfl
@[simp] theorem State.setSlot_rcs (s : State) (n : Nat) (x : Slot) : (s.setSlot n x).rcs = s.rcs := rfl
@[simp] theorem State.setSlot_uarts (s : State) (n : Nat) (x : Slot) : (s.setSlot n x).uarts = s.uarts := rfl
@[simp] theorem State.setSlot_att (s : State) (n : Nat) (x : Slot) : (s.setSlot n x).att = s.att := rfl
@[simp] theorem State.setSlot_macs (s : State) (n : Nat) (x : Slot) : (s.setSlot n x).macs = s.macs := rfl
@[simp] theorem State.setSlot_bells (s : State) (n : Nat) (x : Slot) : (s.setSlot n x).bells = s.bells := rfl
@[simp] theorem State.setSlot_enq (s : State) (n : Nat) (x : Slot) : (s.setSlot n x).enq = s.enq := rfl
@[simp] theorem State.setSlot_en (s : State) (n : Nat) (x : Slot) : (s.setSlot n x).en = s.en := rfl
@[simp] theorem State.setSlot_fcMap (s : State) (n : Nat) (x : Slot) : (s.setSlot n x).fcMap = s.fcMap := rfl
@[simp] theorem State.setSlot_fcOut (s : State) (n : Nat) (x : Slot) : (s.setSlot n x).fcOut = s.fcOut := rfl
@[simp] theorem State.setSlot_staff (s : State) (n : Nat) (x : Slot) : (s.setSlot n x).staff = s.staff := rfl
@[simp] theorem State.setSlot_owners (s : State) (n : Nat) (x : Slot) : (s.setSlot n x).owners = s.owners := rfl
@[simp] theorem State.setSlot_page (s : State) (n : Nat) (x : Slot) : (s.setSlot n x).page = s.page := rfl
@[simp] theorem State.setSlot_snapK (s : State) (n : Nat) (x : Slot) : (s.setSlot n x).snapK = s.snapK := rfl
@[simp] theorem State.setSlot_hall (s : State) (n : Nat) (x : Slot) : (s.setSlot n x).hall = s.hall := rfl
@[simp] theorem State.setSlot_keys (s : State) (n : Nat) (x : Slot) : (s.setSlot n x).keys = s.keys := rfl
@[simp] theorem State.setSlot_otp (s : State) (n : Nat) (x : Slot) : (s.setSlot n x).otp = s.otp := rfl
@[simp] theorem State.setSlot_certBuf (s : State) (n : Nat) (x : Slot) : (s.setSlot n x).certBuf = s.certBuf := rfl
@[simp] theorem State.setSlot_attRec (s : State) (n : Nat) (x : Slot) : (s.setSlot n x).attRec = s.attRec := rfl
@[simp] theorem State.setSlot_signing (s : State) (n : Nat) (x : Slot) : (s.setSlot n x).signing = s.signing := rfl
@[simp] theorem State.setSlot_noise (s : State) (n : Nat) (x : Slot) : (s.setSlot n x).noise = s.noise := rfl
@[simp] theorem State.setSlot_drbgs (s : State) (n : Nat) (x : Slot) : (s.setSlot n x).drbgs = s.drbgs := rfl
@[simp] theorem State.setSlot_drbgLast (s : State) (n : Nat) (x : Slot) : (s.setSlot n x).drbgLast = s.drbgLast := rfl
@[simp] theorem State.setSlot_crypto (s : State) (n : Nat) (x : Slot) : (s.setSlot n x).crypto = s.crypto := rfl
@[simp] theorem State.setSlot_crLast (s : State) (n : Nat) (x : Slot) : (s.setSlot n x).crLast = s.crLast := rfl
@[simp] theorem State.setSlot_wdStart (s : State) (n : Nat) (x : Slot) : (s.setSlot n x).wdStart = s.wdStart := rfl
@[simp] theorem State.setSlot_wdOut (s : State) (n : Nat) (x : Slot) : (s.setSlot n x).wdOut = s.wdOut := rfl
@[simp] theorem State.setSlot_wdStage (s : State) (n : Nat) (x : Slot) : (s.setSlot n x).wdStage = s.wdStage := rfl
@[simp] theorem State.setSlot_restart (s : State) (n : Nat) (x : Slot) : (s.setSlot n x).restart = s.restart := rfl
@[simp] theorem State.setSlot_safeTest (s : State) (n : Nat) (x : Slot) : (s.setSlot n x).safeTest = s.safeTest := rfl
@[simp] theorem State.setSlot_now (s : State) (n : Nat) (x : Slot) : (s.setSlot n x).now = s.now := rfl
@[simp] theorem State.setSlot_regs (s : State) (n : Nat) (x : Slot) : (s.setSlot n x).regs = s.regs := rfl
@[simp] theorem State.setSlot_mem (s : State) (n : Nat) (x : Slot) : (s.setSlot n x).mem = s.mem := rfl
@[simp] theorem State.setSlot_cores (s : State) (n : Nat) (x : Slot) : (s.setSlot n x).cores = s.cores := rfl
@[simp] theorem State.setSlot_mode (s : State) (n : Nat) (x : Slot) : (s.setSlot n x).mode = s.mode := rfl
@[simp] theorem State.setSlot_clocks (s : State) (n : Nat) (x : Slot) : (s.setSlot n x).clocks = s.clocks := rfl
@[simp] theorem State.setSlot_logQ (s : State) (n : Nat) (x : Slot) : (s.setSlot n x).logQ = s.logQ := rfl
@[simp] theorem State.setSlot_slots (s : State) (n : Nat) (x : Slot) : (s.setSlot n x).slots = s.slots.put n x := rfl

/-! ### setQueue -/

@[simp] theorem State.setQueue_pending (s : State) (q : Nat) (x : Queue) : (s.setQueue q x).pending = s.pending := rfl
@[simp] theorem State.setQueue_variant (s : State) (q : Nat) (x : Queue) : (s.setQueue q x).variant = s.variant := rfl
@[simp] theorem State.setQueue_freeCtr (s : State) (q : Nat) (x : Queue) : (s.setQueue q x).freeCtr = s.freeCtr := rfl
@[simp] theorem State.setQueue_rdata (s : State) (q : Nat) (x : Queue) : (s.setQueue q x).rdata = s.rdata := rfl
@[simp] theorem State.setQueue_inForce (s : State) (q : Nat) (x : Queue) : (s.setQueue q x).inForce = s.inForce := rfl
@[simp] theorem State.setQueue_was (s : State) (q : Nat) (x : Queue) : (s.setQueue q x).was = s.was := rfl
@[simp] theorem State.setQueue_ecc (s : State) (q : Nat) (x : Queue) : (s.setQueue q x).ecc = s.ecc := rfl
@[simp] theorem State.setQueue_mrq (s : State) (q : Nat) (x : Queue) : (s.setQueue q x).mrq = s.mrq := rfl
@[simp] theorem State.setQueue_mrRun (s : State) (q : Nat) (x : Queue) : (s.setQueue q x).mrRun = s.mrRun := rfl
@[simp] theorem State.setQueue_openLines (s : State) (q : Nat) (x : Queue) : (s.setQueue q x).openLines = s.openLines := rfl
@[simp] theorem State.setQueue_scrub (s : State) (q : Nat) (x : Queue) : (s.setQueue q x).scrub = s.scrub := rfl
@[simp] theorem State.setQueue_scrubDue (s : State) (q : Nat) (x : Queue) : (s.setQueue q x).scrubDue = s.scrubDue := rfl
@[simp] theorem State.setQueue_dip (s : State) (q : Nat) (x : Queue) : (s.setQueue q x).dip = s.dip := rfl
@[simp] theorem State.setQueue_trans (s : State) (q : Nat) (x : Queue) : (s.setQueue q x).trans = s.trans := rfl
@[simp] theorem State.setQueue_dawn (s : State) (q : Nat) (x : Queue) : (s.setQueue q x).dawn = s.dawn := rfl
@[simp] theorem State.setQueue_stepK (s : State) (q : Nat) (x : Queue) : (s.setQueue q x).stepK = s.stepK := rfl
@[simp] theorem State.setQueue_supply (s : State) (q : Nat) (x : Queue) : (s.setQueue q x).supply = s.supply := rfl
@[simp] theorem State.setQueue_resetN (s : State) (q : Nat) (x : Queue) : (s.setQueue q x).resetN = s.resetN := rfl
@[simp] theorem State.setQueue_refOk (s : State) (q : Nat) (x : Queue) : (s.setQueue q x).refOk = s.refOk := rfl
@[simp] theorem State.setQueue_pllOk (s : State) (q : Nat) (x : Queue) : (s.setQueue q x).pllOk = s.pllOk := rfl
@[simp] theorem State.setQueue_dawnEnd (s : State) (q : Nat) (x : Queue) : (s.setQueue q x).dawnEnd = s.dawnEnd := rfl
@[simp] theorem State.setQueue_estopN (s : State) (q : Nat) (x : Queue) : (s.setQueue q x).estopN = s.estopN := rfl
@[simp] theorem State.setQueue_estopAt (s : State) (q : Nat) (x : Queue) : (s.setQueue q x).estopAt = s.estopAt := rfl
@[simp] theorem State.setQueue_svcLow (s : State) (q : Nat) (x : Queue) : (s.setQueue q x).svcLow = s.svcLow := rfl
@[simp] theorem State.setQueue_chans (s : State) (q : Nat) (x : Queue) : (s.setQueue q x).chans = s.chans := rfl
@[simp] theorem State.setQueue_mains (s : State) (q : Nat) (x : Queue) : (s.setQueue q x).mains = s.mains := rfl
@[simp] theorem State.setQueue_tbs (s : State) (q : Nat) (x : Queue) : (s.setQueue q x).tbs = s.tbs := rfl
@[simp] theorem State.setQueue_wall (s : State) (q : Nat) (x : Queue) : (s.setQueue q x).wall = s.wall := rfl
@[simp] theorem State.setQueue_caps (s : State) (q : Nat) (x : Queue) : (s.setQueue q x).caps = s.caps := rfl
@[simp] theorem State.setQueue_capSeq (s : State) (q : Nat) (x : Queue) : (s.setQueue q x).capSeq = s.capSeq := rfl
@[simp] theorem State.setQueue_handed (s : State) (q : Nat) (x : Queue) : (s.setQueue q x).handed = s.handed := rfl
@[simp] theorem State.setQueue_capAt (s : State) (q : Nat) (x : Queue) : (s.setQueue q x).capAt = s.capAt := rfl
@[simp] theorem State.setQueue_slots (s : State) (q : Nat) (x : Queue) : (s.setQueue q x).slots = s.slots := rfl
@[simp] theorem State.setQueue_memq (s : State) (q : Nat) (x : Queue) : (s.setQueue q x).memq = s.memq := rfl
@[simp] theorem State.setQueue_acts (s : State) (q : Nat) (x : Queue) : (s.setQueue q x).acts = s.acts := rfl
@[simp] theorem State.setQueue_ttPeak (s : State) (q : Nat) (x : Queue) : (s.setQueue q x).ttPeak = s.ttPeak := rfl
@[simp] theorem State.setQueue_reports (s : State) (q : Nat) (x : Queue) : (s.setQueue q x).reports = s.reports := rfl
@[simp] theorem State.setQueue_repFirst (s : State) (q : Nat) (x : Queue) : (s.setQueue q x).repFirst = s.repFirst := rfl
@[simp] theorem State.setQueue_lines (s : State) (q : Nat) (x : Queue) : (s.setQueue q x).lines = s.lines := rfl
@[simp] theorem State.setQueue_gens (s : State) (q : Nat) (x : Queue) : (s.setQueue q x).gens = s.gens := rfl
@[simp] theorem State.setQueue_pwms (s : State) (q : Nat) (x : Queue) : (s.setQueue q x).pwms = s.pwms := rfl
@[simp] theorem State.setQueue_sds (s : State) (q : Nat) (x : Queue) : (s.setQueue q x).sds = s.sds := rfl
@[simp] theorem State.setQueue_pins (s : State) (q : Nat) (x : Queue) : (s.setQueue q x).pins = s.pins := rfl
@[simp] theorem State.setQueue_bankOk (s : State) (q : Nat) (x : Queue) : (s.setQueue q x).bankOk = s.bankOk := rfl
@[simp] theorem State.setQueue_loaded (s : State) (q : Nat) (x : Queue) : (s.setQueue q x).loaded = s.loaded := rfl
@[simp] theorem State.setQueue_rcs (s : State) (q : Nat) (x : Queue) : (s.setQueue q x).rcs = s.rcs := rfl
@[simp] theorem State.setQueue_uarts (s : State) (q : Nat) (x : Queue) : (s.setQueue q x).uarts = s.uarts := rfl
@[simp] theorem State.setQueue_att (s : State) (q : Nat) (x : Queue) : (s.setQueue q x).att = s.att := rfl
@[simp] theorem State.setQueue_macs (s : State) (q : Nat) (x : Queue) : (s.setQueue q x).macs = s.macs := rfl
@[simp] theorem State.setQueue_bells (s : State) (q : Nat) (x : Queue) : (s.setQueue q x).bells = s.bells := rfl
@[simp] theorem State.setQueue_enq (s : State) (q : Nat) (x : Queue) : (s.setQueue q x).enq = s.enq := rfl
@[simp] theorem State.setQueue_en (s : State) (q : Nat) (x : Queue) : (s.setQueue q x).en = s.en := rfl
@[simp] theorem State.setQueue_fcMap (s : State) (q : Nat) (x : Queue) : (s.setQueue q x).fcMap = s.fcMap := rfl
@[simp] theorem State.setQueue_fcOut (s : State) (q : Nat) (x : Queue) : (s.setQueue q x).fcOut = s.fcOut := rfl
@[simp] theorem State.setQueue_staff (s : State) (q : Nat) (x : Queue) : (s.setQueue q x).staff = s.staff := rfl
@[simp] theorem State.setQueue_owners (s : State) (q : Nat) (x : Queue) : (s.setQueue q x).owners = s.owners := rfl
@[simp] theorem State.setQueue_page (s : State) (q : Nat) (x : Queue) : (s.setQueue q x).page = s.page := rfl
@[simp] theorem State.setQueue_snapK (s : State) (q : Nat) (x : Queue) : (s.setQueue q x).snapK = s.snapK := rfl
@[simp] theorem State.setQueue_hall (s : State) (q : Nat) (x : Queue) : (s.setQueue q x).hall = s.hall := rfl
@[simp] theorem State.setQueue_keys (s : State) (q : Nat) (x : Queue) : (s.setQueue q x).keys = s.keys := rfl
@[simp] theorem State.setQueue_otp (s : State) (q : Nat) (x : Queue) : (s.setQueue q x).otp = s.otp := rfl
@[simp] theorem State.setQueue_certBuf (s : State) (q : Nat) (x : Queue) : (s.setQueue q x).certBuf = s.certBuf := rfl
@[simp] theorem State.setQueue_attRec (s : State) (q : Nat) (x : Queue) : (s.setQueue q x).attRec = s.attRec := rfl
@[simp] theorem State.setQueue_signing (s : State) (q : Nat) (x : Queue) : (s.setQueue q x).signing = s.signing := rfl
@[simp] theorem State.setQueue_noise (s : State) (q : Nat) (x : Queue) : (s.setQueue q x).noise = s.noise := rfl
@[simp] theorem State.setQueue_drbgs (s : State) (q : Nat) (x : Queue) : (s.setQueue q x).drbgs = s.drbgs := rfl
@[simp] theorem State.setQueue_drbgLast (s : State) (q : Nat) (x : Queue) : (s.setQueue q x).drbgLast = s.drbgLast := rfl
@[simp] theorem State.setQueue_crypto (s : State) (q : Nat) (x : Queue) : (s.setQueue q x).crypto = s.crypto := rfl
@[simp] theorem State.setQueue_crLast (s : State) (q : Nat) (x : Queue) : (s.setQueue q x).crLast = s.crLast := rfl
@[simp] theorem State.setQueue_wdStart (s : State) (q : Nat) (x : Queue) : (s.setQueue q x).wdStart = s.wdStart := rfl
@[simp] theorem State.setQueue_wdOut (s : State) (q : Nat) (x : Queue) : (s.setQueue q x).wdOut = s.wdOut := rfl
@[simp] theorem State.setQueue_wdStage (s : State) (q : Nat) (x : Queue) : (s.setQueue q x).wdStage = s.wdStage := rfl
@[simp] theorem State.setQueue_restart (s : State) (q : Nat) (x : Queue) : (s.setQueue q x).restart = s.restart := rfl
@[simp] theorem State.setQueue_safeTest (s : State) (q : Nat) (x : Queue) : (s.setQueue q x).safeTest = s.safeTest := rfl
@[simp] theorem State.setQueue_now (s : State) (q : Nat) (x : Queue) : (s.setQueue q x).now = s.now := rfl
@[simp] theorem State.setQueue_regs (s : State) (q : Nat) (x : Queue) : (s.setQueue q x).regs = s.regs := rfl
@[simp] theorem State.setQueue_mem (s : State) (q : Nat) (x : Queue) : (s.setQueue q x).mem = s.mem := rfl
@[simp] theorem State.setQueue_cores (s : State) (q : Nat) (x : Queue) : (s.setQueue q x).cores = s.cores := rfl
@[simp] theorem State.setQueue_mode (s : State) (q : Nat) (x : Queue) : (s.setQueue q x).mode = s.mode := rfl
@[simp] theorem State.setQueue_clocks (s : State) (q : Nat) (x : Queue) : (s.setQueue q x).clocks = s.clocks := rfl
@[simp] theorem State.setQueue_logQ (s : State) (q : Nat) (x : Queue) : (s.setQueue q x).logQ = s.logQ := rfl
@[simp] theorem State.setQueue_queues (s : State) (q : Nat) (x : Queue) : (s.setQueue q x).queues = s.queues.put q x := rfl

/-! ### setChan -/

@[simp] theorem State.setChan_pending (s : State) (n : Nat) (x : Channel) : (s.setChan n x).pending = s.pending := rfl
@[simp] theorem State.setChan_variant (s : State) (n : Nat) (x : Channel) : (s.setChan n x).variant = s.variant := rfl
@[simp] theorem State.setChan_freeCtr (s : State) (n : Nat) (x : Channel) : (s.setChan n x).freeCtr = s.freeCtr := rfl
@[simp] theorem State.setChan_rdata (s : State) (n : Nat) (x : Channel) : (s.setChan n x).rdata = s.rdata := rfl
@[simp] theorem State.setChan_inForce (s : State) (n : Nat) (x : Channel) : (s.setChan n x).inForce = s.inForce := rfl
@[simp] theorem State.setChan_was (s : State) (n : Nat) (x : Channel) : (s.setChan n x).was = s.was := rfl
@[simp] theorem State.setChan_ecc (s : State) (n : Nat) (x : Channel) : (s.setChan n x).ecc = s.ecc := rfl
@[simp] theorem State.setChan_mrq (s : State) (n : Nat) (x : Channel) : (s.setChan n x).mrq = s.mrq := rfl
@[simp] theorem State.setChan_mrRun (s : State) (n : Nat) (x : Channel) : (s.setChan n x).mrRun = s.mrRun := rfl
@[simp] theorem State.setChan_openLines (s : State) (n : Nat) (x : Channel) : (s.setChan n x).openLines = s.openLines := rfl
@[simp] theorem State.setChan_scrub (s : State) (n : Nat) (x : Channel) : (s.setChan n x).scrub = s.scrub := rfl
@[simp] theorem State.setChan_scrubDue (s : State) (n : Nat) (x : Channel) : (s.setChan n x).scrubDue = s.scrubDue := rfl
@[simp] theorem State.setChan_dip (s : State) (n : Nat) (x : Channel) : (s.setChan n x).dip = s.dip := rfl
@[simp] theorem State.setChan_trans (s : State) (n : Nat) (x : Channel) : (s.setChan n x).trans = s.trans := rfl
@[simp] theorem State.setChan_dawn (s : State) (n : Nat) (x : Channel) : (s.setChan n x).dawn = s.dawn := rfl
@[simp] theorem State.setChan_stepK (s : State) (n : Nat) (x : Channel) : (s.setChan n x).stepK = s.stepK := rfl
@[simp] theorem State.setChan_supply (s : State) (n : Nat) (x : Channel) : (s.setChan n x).supply = s.supply := rfl
@[simp] theorem State.setChan_resetN (s : State) (n : Nat) (x : Channel) : (s.setChan n x).resetN = s.resetN := rfl
@[simp] theorem State.setChan_refOk (s : State) (n : Nat) (x : Channel) : (s.setChan n x).refOk = s.refOk := rfl
@[simp] theorem State.setChan_pllOk (s : State) (n : Nat) (x : Channel) : (s.setChan n x).pllOk = s.pllOk := rfl
@[simp] theorem State.setChan_dawnEnd (s : State) (n : Nat) (x : Channel) : (s.setChan n x).dawnEnd = s.dawnEnd := rfl
@[simp] theorem State.setChan_estopN (s : State) (n : Nat) (x : Channel) : (s.setChan n x).estopN = s.estopN := rfl
@[simp] theorem State.setChan_estopAt (s : State) (n : Nat) (x : Channel) : (s.setChan n x).estopAt = s.estopAt := rfl
@[simp] theorem State.setChan_svcLow (s : State) (n : Nat) (x : Channel) : (s.setChan n x).svcLow = s.svcLow := rfl
@[simp] theorem State.setChan_mains (s : State) (n : Nat) (x : Channel) : (s.setChan n x).mains = s.mains := rfl
@[simp] theorem State.setChan_tbs (s : State) (n : Nat) (x : Channel) : (s.setChan n x).tbs = s.tbs := rfl
@[simp] theorem State.setChan_wall (s : State) (n : Nat) (x : Channel) : (s.setChan n x).wall = s.wall := rfl
@[simp] theorem State.setChan_caps (s : State) (n : Nat) (x : Channel) : (s.setChan n x).caps = s.caps := rfl
@[simp] theorem State.setChan_capSeq (s : State) (n : Nat) (x : Channel) : (s.setChan n x).capSeq = s.capSeq := rfl
@[simp] theorem State.setChan_handed (s : State) (n : Nat) (x : Channel) : (s.setChan n x).handed = s.handed := rfl
@[simp] theorem State.setChan_capAt (s : State) (n : Nat) (x : Channel) : (s.setChan n x).capAt = s.capAt := rfl
@[simp] theorem State.setChan_slots (s : State) (n : Nat) (x : Channel) : (s.setChan n x).slots = s.slots := rfl
@[simp] theorem State.setChan_memq (s : State) (n : Nat) (x : Channel) : (s.setChan n x).memq = s.memq := rfl
@[simp] theorem State.setChan_acts (s : State) (n : Nat) (x : Channel) : (s.setChan n x).acts = s.acts := rfl
@[simp] theorem State.setChan_ttPeak (s : State) (n : Nat) (x : Channel) : (s.setChan n x).ttPeak = s.ttPeak := rfl
@[simp] theorem State.setChan_queues (s : State) (n : Nat) (x : Channel) : (s.setChan n x).queues = s.queues := rfl
@[simp] theorem State.setChan_reports (s : State) (n : Nat) (x : Channel) : (s.setChan n x).reports = s.reports := rfl
@[simp] theorem State.setChan_repFirst (s : State) (n : Nat) (x : Channel) : (s.setChan n x).repFirst = s.repFirst := rfl
@[simp] theorem State.setChan_lines (s : State) (n : Nat) (x : Channel) : (s.setChan n x).lines = s.lines := rfl
@[simp] theorem State.setChan_gens (s : State) (n : Nat) (x : Channel) : (s.setChan n x).gens = s.gens := rfl
@[simp] theorem State.setChan_pwms (s : State) (n : Nat) (x : Channel) : (s.setChan n x).pwms = s.pwms := rfl
@[simp] theorem State.setChan_sds (s : State) (n : Nat) (x : Channel) : (s.setChan n x).sds = s.sds := rfl
@[simp] theorem State.setChan_pins (s : State) (n : Nat) (x : Channel) : (s.setChan n x).pins = s.pins := rfl
@[simp] theorem State.setChan_bankOk (s : State) (n : Nat) (x : Channel) : (s.setChan n x).bankOk = s.bankOk := rfl
@[simp] theorem State.setChan_loaded (s : State) (n : Nat) (x : Channel) : (s.setChan n x).loaded = s.loaded := rfl
@[simp] theorem State.setChan_rcs (s : State) (n : Nat) (x : Channel) : (s.setChan n x).rcs = s.rcs := rfl
@[simp] theorem State.setChan_uarts (s : State) (n : Nat) (x : Channel) : (s.setChan n x).uarts = s.uarts := rfl
@[simp] theorem State.setChan_att (s : State) (n : Nat) (x : Channel) : (s.setChan n x).att = s.att := rfl
@[simp] theorem State.setChan_macs (s : State) (n : Nat) (x : Channel) : (s.setChan n x).macs = s.macs := rfl
@[simp] theorem State.setChan_bells (s : State) (n : Nat) (x : Channel) : (s.setChan n x).bells = s.bells := rfl
@[simp] theorem State.setChan_enq (s : State) (n : Nat) (x : Channel) : (s.setChan n x).enq = s.enq := rfl
@[simp] theorem State.setChan_en (s : State) (n : Nat) (x : Channel) : (s.setChan n x).en = s.en := rfl
@[simp] theorem State.setChan_fcMap (s : State) (n : Nat) (x : Channel) : (s.setChan n x).fcMap = s.fcMap := rfl
@[simp] theorem State.setChan_fcOut (s : State) (n : Nat) (x : Channel) : (s.setChan n x).fcOut = s.fcOut := rfl
@[simp] theorem State.setChan_staff (s : State) (n : Nat) (x : Channel) : (s.setChan n x).staff = s.staff := rfl
@[simp] theorem State.setChan_owners (s : State) (n : Nat) (x : Channel) : (s.setChan n x).owners = s.owners := rfl
@[simp] theorem State.setChan_page (s : State) (n : Nat) (x : Channel) : (s.setChan n x).page = s.page := rfl
@[simp] theorem State.setChan_snapK (s : State) (n : Nat) (x : Channel) : (s.setChan n x).snapK = s.snapK := rfl
@[simp] theorem State.setChan_hall (s : State) (n : Nat) (x : Channel) : (s.setChan n x).hall = s.hall := rfl
@[simp] theorem State.setChan_keys (s : State) (n : Nat) (x : Channel) : (s.setChan n x).keys = s.keys := rfl
@[simp] theorem State.setChan_otp (s : State) (n : Nat) (x : Channel) : (s.setChan n x).otp = s.otp := rfl
@[simp] theorem State.setChan_certBuf (s : State) (n : Nat) (x : Channel) : (s.setChan n x).certBuf = s.certBuf := rfl
@[simp] theorem State.setChan_attRec (s : State) (n : Nat) (x : Channel) : (s.setChan n x).attRec = s.attRec := rfl
@[simp] theorem State.setChan_signing (s : State) (n : Nat) (x : Channel) : (s.setChan n x).signing = s.signing := rfl
@[simp] theorem State.setChan_noise (s : State) (n : Nat) (x : Channel) : (s.setChan n x).noise = s.noise := rfl
@[simp] theorem State.setChan_drbgs (s : State) (n : Nat) (x : Channel) : (s.setChan n x).drbgs = s.drbgs := rfl
@[simp] theorem State.setChan_drbgLast (s : State) (n : Nat) (x : Channel) : (s.setChan n x).drbgLast = s.drbgLast := rfl
@[simp] theorem State.setChan_crypto (s : State) (n : Nat) (x : Channel) : (s.setChan n x).crypto = s.crypto := rfl
@[simp] theorem State.setChan_crLast (s : State) (n : Nat) (x : Channel) : (s.setChan n x).crLast = s.crLast := rfl
@[simp] theorem State.setChan_wdStart (s : State) (n : Nat) (x : Channel) : (s.setChan n x).wdStart = s.wdStart := rfl
@[simp] theorem State.setChan_wdOut (s : State) (n : Nat) (x : Channel) : (s.setChan n x).wdOut = s.wdOut := rfl
@[simp] theorem State.setChan_wdStage (s : State) (n : Nat) (x : Channel) : (s.setChan n x).wdStage = s.wdStage := rfl
@[simp] theorem State.setChan_restart (s : State) (n : Nat) (x : Channel) : (s.setChan n x).restart = s.restart := rfl
@[simp] theorem State.setChan_safeTest (s : State) (n : Nat) (x : Channel) : (s.setChan n x).safeTest = s.safeTest := rfl
@[simp] theorem State.setChan_now (s : State) (n : Nat) (x : Channel) : (s.setChan n x).now = s.now := rfl
@[simp] theorem State.setChan_regs (s : State) (n : Nat) (x : Channel) : (s.setChan n x).regs = s.regs := rfl
@[simp] theorem State.setChan_mem (s : State) (n : Nat) (x : Channel) : (s.setChan n x).mem = s.mem := rfl
@[simp] theorem State.setChan_cores (s : State) (n : Nat) (x : Channel) : (s.setChan n x).cores = s.cores := rfl
@[simp] theorem State.setChan_mode (s : State) (n : Nat) (x : Channel) : (s.setChan n x).mode = s.mode := rfl
@[simp] theorem State.setChan_clocks (s : State) (n : Nat) (x : Channel) : (s.setChan n x).clocks = s.clocks := rfl
@[simp] theorem State.setChan_logQ (s : State) (n : Nat) (x : Channel) : (s.setChan n x).logQ = s.logQ := rfl
@[simp] theorem State.setChan_chans (s : State) (n : Nat) (x : Channel) : (s.setChan n x).chans = s.chans.put n x := rfl

/-! ### setLine -/

@[simp] theorem State.setLine_pending (s : State) (n : Nat) (x : Line) : (s.setLine n x).pending = s.pending := rfl
@[simp] theorem State.setLine_variant (s : State) (n : Nat) (x : Line) : (s.setLine n x).variant = s.variant := rfl
@[simp] theorem State.setLine_freeCtr (s : State) (n : Nat) (x : Line) : (s.setLine n x).freeCtr = s.freeCtr := rfl
@[simp] theorem State.setLine_rdata (s : State) (n : Nat) (x : Line) : (s.setLine n x).rdata = s.rdata := rfl
@[simp] theorem State.setLine_inForce (s : State) (n : Nat) (x : Line) : (s.setLine n x).inForce = s.inForce := rfl
@[simp] theorem State.setLine_was (s : State) (n : Nat) (x : Line) : (s.setLine n x).was = s.was := rfl
@[simp] theorem State.setLine_ecc (s : State) (n : Nat) (x : Line) : (s.setLine n x).ecc = s.ecc := rfl
@[simp] theorem State.setLine_mrq (s : State) (n : Nat) (x : Line) : (s.setLine n x).mrq = s.mrq := rfl
@[simp] theorem State.setLine_mrRun (s : State) (n : Nat) (x : Line) : (s.setLine n x).mrRun = s.mrRun := rfl
@[simp] theorem State.setLine_openLines (s : State) (n : Nat) (x : Line) : (s.setLine n x).openLines = s.openLines := rfl
@[simp] theorem State.setLine_scrub (s : State) (n : Nat) (x : Line) : (s.setLine n x).scrub = s.scrub := rfl
@[simp] theorem State.setLine_scrubDue (s : State) (n : Nat) (x : Line) : (s.setLine n x).scrubDue = s.scrubDue := rfl
@[simp] theorem State.setLine_dip (s : State) (n : Nat) (x : Line) : (s.setLine n x).dip = s.dip := rfl
@[simp] theorem State.setLine_trans (s : State) (n : Nat) (x : Line) : (s.setLine n x).trans = s.trans := rfl
@[simp] theorem State.setLine_dawn (s : State) (n : Nat) (x : Line) : (s.setLine n x).dawn = s.dawn := rfl
@[simp] theorem State.setLine_stepK (s : State) (n : Nat) (x : Line) : (s.setLine n x).stepK = s.stepK := rfl
@[simp] theorem State.setLine_supply (s : State) (n : Nat) (x : Line) : (s.setLine n x).supply = s.supply := rfl
@[simp] theorem State.setLine_resetN (s : State) (n : Nat) (x : Line) : (s.setLine n x).resetN = s.resetN := rfl
@[simp] theorem State.setLine_refOk (s : State) (n : Nat) (x : Line) : (s.setLine n x).refOk = s.refOk := rfl
@[simp] theorem State.setLine_pllOk (s : State) (n : Nat) (x : Line) : (s.setLine n x).pllOk = s.pllOk := rfl
@[simp] theorem State.setLine_dawnEnd (s : State) (n : Nat) (x : Line) : (s.setLine n x).dawnEnd = s.dawnEnd := rfl
@[simp] theorem State.setLine_estopN (s : State) (n : Nat) (x : Line) : (s.setLine n x).estopN = s.estopN := rfl
@[simp] theorem State.setLine_estopAt (s : State) (n : Nat) (x : Line) : (s.setLine n x).estopAt = s.estopAt := rfl
@[simp] theorem State.setLine_svcLow (s : State) (n : Nat) (x : Line) : (s.setLine n x).svcLow = s.svcLow := rfl
@[simp] theorem State.setLine_chans (s : State) (n : Nat) (x : Line) : (s.setLine n x).chans = s.chans := rfl
@[simp] theorem State.setLine_mains (s : State) (n : Nat) (x : Line) : (s.setLine n x).mains = s.mains := rfl
@[simp] theorem State.setLine_tbs (s : State) (n : Nat) (x : Line) : (s.setLine n x).tbs = s.tbs := rfl
@[simp] theorem State.setLine_wall (s : State) (n : Nat) (x : Line) : (s.setLine n x).wall = s.wall := rfl
@[simp] theorem State.setLine_caps (s : State) (n : Nat) (x : Line) : (s.setLine n x).caps = s.caps := rfl
@[simp] theorem State.setLine_capSeq (s : State) (n : Nat) (x : Line) : (s.setLine n x).capSeq = s.capSeq := rfl
@[simp] theorem State.setLine_handed (s : State) (n : Nat) (x : Line) : (s.setLine n x).handed = s.handed := rfl
@[simp] theorem State.setLine_capAt (s : State) (n : Nat) (x : Line) : (s.setLine n x).capAt = s.capAt := rfl
@[simp] theorem State.setLine_slots (s : State) (n : Nat) (x : Line) : (s.setLine n x).slots = s.slots := rfl
@[simp] theorem State.setLine_memq (s : State) (n : Nat) (x : Line) : (s.setLine n x).memq = s.memq := rfl
@[simp] theorem State.setLine_acts (s : State) (n : Nat) (x : Line) : (s.setLine n x).acts = s.acts := rfl
@[simp] theorem State.setLine_ttPeak (s : State) (n : Nat) (x : Line) : (s.setLine n x).ttPeak = s.ttPeak := rfl
@[simp] theorem State.setLine_queues (s : State) (n : Nat) (x : Line) : (s.setLine n x).queues = s.queues := rfl
@[simp] theorem State.setLine_reports (s : State) (n : Nat) (x : Line) : (s.setLine n x).reports = s.reports := rfl
@[simp] theorem State.setLine_repFirst (s : State) (n : Nat) (x : Line) : (s.setLine n x).repFirst = s.repFirst := rfl
@[simp] theorem State.setLine_gens (s : State) (n : Nat) (x : Line) : (s.setLine n x).gens = s.gens := rfl
@[simp] theorem State.setLine_pwms (s : State) (n : Nat) (x : Line) : (s.setLine n x).pwms = s.pwms := rfl
@[simp] theorem State.setLine_sds (s : State) (n : Nat) (x : Line) : (s.setLine n x).sds = s.sds := rfl
@[simp] theorem State.setLine_pins (s : State) (n : Nat) (x : Line) : (s.setLine n x).pins = s.pins := rfl
@[simp] theorem State.setLine_bankOk (s : State) (n : Nat) (x : Line) : (s.setLine n x).bankOk = s.bankOk := rfl
@[simp] theorem State.setLine_loaded (s : State) (n : Nat) (x : Line) : (s.setLine n x).loaded = s.loaded := rfl
@[simp] theorem State.setLine_rcs (s : State) (n : Nat) (x : Line) : (s.setLine n x).rcs = s.rcs := rfl
@[simp] theorem State.setLine_uarts (s : State) (n : Nat) (x : Line) : (s.setLine n x).uarts = s.uarts := rfl
@[simp] theorem State.setLine_att (s : State) (n : Nat) (x : Line) : (s.setLine n x).att = s.att := rfl
@[simp] theorem State.setLine_macs (s : State) (n : Nat) (x : Line) : (s.setLine n x).macs = s.macs := rfl
@[simp] theorem State.setLine_bells (s : State) (n : Nat) (x : Line) : (s.setLine n x).bells = s.bells := rfl
@[simp] theorem State.setLine_enq (s : State) (n : Nat) (x : Line) : (s.setLine n x).enq = s.enq := rfl
@[simp] theorem State.setLine_en (s : State) (n : Nat) (x : Line) : (s.setLine n x).en = s.en := rfl
@[simp] theorem State.setLine_fcMap (s : State) (n : Nat) (x : Line) : (s.setLine n x).fcMap = s.fcMap := rfl
@[simp] theorem State.setLine_fcOut (s : State) (n : Nat) (x : Line) : (s.setLine n x).fcOut = s.fcOut := rfl
@[simp] theorem State.setLine_staff (s : State) (n : Nat) (x : Line) : (s.setLine n x).staff = s.staff := rfl
@[simp] theorem State.setLine_owners (s : State) (n : Nat) (x : Line) : (s.setLine n x).owners = s.owners := rfl
@[simp] theorem State.setLine_page (s : State) (n : Nat) (x : Line) : (s.setLine n x).page = s.page := rfl
@[simp] theorem State.setLine_snapK (s : State) (n : Nat) (x : Line) : (s.setLine n x).snapK = s.snapK := rfl
@[simp] theorem State.setLine_hall (s : State) (n : Nat) (x : Line) : (s.setLine n x).hall = s.hall := rfl
@[simp] theorem State.setLine_keys (s : State) (n : Nat) (x : Line) : (s.setLine n x).keys = s.keys := rfl
@[simp] theorem State.setLine_otp (s : State) (n : Nat) (x : Line) : (s.setLine n x).otp = s.otp := rfl
@[simp] theorem State.setLine_certBuf (s : State) (n : Nat) (x : Line) : (s.setLine n x).certBuf = s.certBuf := rfl
@[simp] theorem State.setLine_attRec (s : State) (n : Nat) (x : Line) : (s.setLine n x).attRec = s.attRec := rfl
@[simp] theorem State.setLine_signing (s : State) (n : Nat) (x : Line) : (s.setLine n x).signing = s.signing := rfl
@[simp] theorem State.setLine_noise (s : State) (n : Nat) (x : Line) : (s.setLine n x).noise = s.noise := rfl
@[simp] theorem State.setLine_drbgs (s : State) (n : Nat) (x : Line) : (s.setLine n x).drbgs = s.drbgs := rfl
@[simp] theorem State.setLine_drbgLast (s : State) (n : Nat) (x : Line) : (s.setLine n x).drbgLast = s.drbgLast := rfl
@[simp] theorem State.setLine_crypto (s : State) (n : Nat) (x : Line) : (s.setLine n x).crypto = s.crypto := rfl
@[simp] theorem State.setLine_crLast (s : State) (n : Nat) (x : Line) : (s.setLine n x).crLast = s.crLast := rfl
@[simp] theorem State.setLine_wdStart (s : State) (n : Nat) (x : Line) : (s.setLine n x).wdStart = s.wdStart := rfl
@[simp] theorem State.setLine_wdOut (s : State) (n : Nat) (x : Line) : (s.setLine n x).wdOut = s.wdOut := rfl
@[simp] theorem State.setLine_wdStage (s : State) (n : Nat) (x : Line) : (s.setLine n x).wdStage = s.wdStage := rfl
@[simp] theorem State.setLine_restart (s : State) (n : Nat) (x : Line) : (s.setLine n x).restart = s.restart := rfl
@[simp] theorem State.setLine_safeTest (s : State) (n : Nat) (x : Line) : (s.setLine n x).safeTest = s.safeTest := rfl
@[simp] theorem State.setLine_now (s : State) (n : Nat) (x : Line) : (s.setLine n x).now = s.now := rfl
@[simp] theorem State.setLine_regs (s : State) (n : Nat) (x : Line) : (s.setLine n x).regs = s.regs := rfl
@[simp] theorem State.setLine_mem (s : State) (n : Nat) (x : Line) : (s.setLine n x).mem = s.mem := rfl
@[simp] theorem State.setLine_cores (s : State) (n : Nat) (x : Line) : (s.setLine n x).cores = s.cores := rfl
@[simp] theorem State.setLine_mode (s : State) (n : Nat) (x : Line) : (s.setLine n x).mode = s.mode := rfl
@[simp] theorem State.setLine_clocks (s : State) (n : Nat) (x : Line) : (s.setLine n x).clocks = s.clocks := rfl
@[simp] theorem State.setLine_logQ (s : State) (n : Nat) (x : Line) : (s.setLine n x).logQ = s.logQ := rfl
@[simp] theorem State.setLine_lines (s : State) (n : Nat) (x : Line) : (s.setLine n x).lines = s.lines.put n x := rfl

/-! ### setGen -/

@[simp] theorem State.setGen_pending (s : State) (g : Nat) (x : Gen) : (s.setGen g x).pending = s.pending := rfl
@[simp] theorem State.setGen_variant (s : State) (g : Nat) (x : Gen) : (s.setGen g x).variant = s.variant := rfl
@[simp] theorem State.setGen_freeCtr (s : State) (g : Nat) (x : Gen) : (s.setGen g x).freeCtr = s.freeCtr := rfl
@[simp] theorem State.setGen_rdata (s : State) (g : Nat) (x : Gen) : (s.setGen g x).rdata = s.rdata := rfl
@[simp] theorem State.setGen_inForce (s : State) (g : Nat) (x : Gen) : (s.setGen g x).inForce = s.inForce := rfl
@[simp] theorem State.setGen_was (s : State) (g : Nat) (x : Gen) : (s.setGen g x).was = s.was := rfl
@[simp] theorem State.setGen_ecc (s : State) (g : Nat) (x : Gen) : (s.setGen g x).ecc = s.ecc := rfl
@[simp] theorem State.setGen_mrq (s : State) (g : Nat) (x : Gen) : (s.setGen g x).mrq = s.mrq := rfl
@[simp] theorem State.setGen_mrRun (s : State) (g : Nat) (x : Gen) : (s.setGen g x).mrRun = s.mrRun := rfl
@[simp] theorem State.setGen_openLines (s : State) (g : Nat) (x : Gen) : (s.setGen g x).openLines = s.openLines := rfl
@[simp] theorem State.setGen_scrub (s : State) (g : Nat) (x : Gen) : (s.setGen g x).scrub = s.scrub := rfl
@[simp] theorem State.setGen_scrubDue (s : State) (g : Nat) (x : Gen) : (s.setGen g x).scrubDue = s.scrubDue := rfl
@[simp] theorem State.setGen_dip (s : State) (g : Nat) (x : Gen) : (s.setGen g x).dip = s.dip := rfl
@[simp] theorem State.setGen_trans (s : State) (g : Nat) (x : Gen) : (s.setGen g x).trans = s.trans := rfl
@[simp] theorem State.setGen_dawn (s : State) (g : Nat) (x : Gen) : (s.setGen g x).dawn = s.dawn := rfl
@[simp] theorem State.setGen_stepK (s : State) (g : Nat) (x : Gen) : (s.setGen g x).stepK = s.stepK := rfl
@[simp] theorem State.setGen_supply (s : State) (g : Nat) (x : Gen) : (s.setGen g x).supply = s.supply := rfl
@[simp] theorem State.setGen_resetN (s : State) (g : Nat) (x : Gen) : (s.setGen g x).resetN = s.resetN := rfl
@[simp] theorem State.setGen_refOk (s : State) (g : Nat) (x : Gen) : (s.setGen g x).refOk = s.refOk := rfl
@[simp] theorem State.setGen_pllOk (s : State) (g : Nat) (x : Gen) : (s.setGen g x).pllOk = s.pllOk := rfl
@[simp] theorem State.setGen_dawnEnd (s : State) (g : Nat) (x : Gen) : (s.setGen g x).dawnEnd = s.dawnEnd := rfl
@[simp] theorem State.setGen_estopN (s : State) (g : Nat) (x : Gen) : (s.setGen g x).estopN = s.estopN := rfl
@[simp] theorem State.setGen_estopAt (s : State) (g : Nat) (x : Gen) : (s.setGen g x).estopAt = s.estopAt := rfl
@[simp] theorem State.setGen_svcLow (s : State) (g : Nat) (x : Gen) : (s.setGen g x).svcLow = s.svcLow := rfl
@[simp] theorem State.setGen_chans (s : State) (g : Nat) (x : Gen) : (s.setGen g x).chans = s.chans := rfl
@[simp] theorem State.setGen_mains (s : State) (g : Nat) (x : Gen) : (s.setGen g x).mains = s.mains := rfl
@[simp] theorem State.setGen_tbs (s : State) (g : Nat) (x : Gen) : (s.setGen g x).tbs = s.tbs := rfl
@[simp] theorem State.setGen_wall (s : State) (g : Nat) (x : Gen) : (s.setGen g x).wall = s.wall := rfl
@[simp] theorem State.setGen_caps (s : State) (g : Nat) (x : Gen) : (s.setGen g x).caps = s.caps := rfl
@[simp] theorem State.setGen_capSeq (s : State) (g : Nat) (x : Gen) : (s.setGen g x).capSeq = s.capSeq := rfl
@[simp] theorem State.setGen_handed (s : State) (g : Nat) (x : Gen) : (s.setGen g x).handed = s.handed := rfl
@[simp] theorem State.setGen_capAt (s : State) (g : Nat) (x : Gen) : (s.setGen g x).capAt = s.capAt := rfl
@[simp] theorem State.setGen_slots (s : State) (g : Nat) (x : Gen) : (s.setGen g x).slots = s.slots := rfl
@[simp] theorem State.setGen_memq (s : State) (g : Nat) (x : Gen) : (s.setGen g x).memq = s.memq := rfl
@[simp] theorem State.setGen_acts (s : State) (g : Nat) (x : Gen) : (s.setGen g x).acts = s.acts := rfl
@[simp] theorem State.setGen_ttPeak (s : State) (g : Nat) (x : Gen) : (s.setGen g x).ttPeak = s.ttPeak := rfl
@[simp] theorem State.setGen_queues (s : State) (g : Nat) (x : Gen) : (s.setGen g x).queues = s.queues := rfl
@[simp] theorem State.setGen_reports (s : State) (g : Nat) (x : Gen) : (s.setGen g x).reports = s.reports := rfl
@[simp] theorem State.setGen_repFirst (s : State) (g : Nat) (x : Gen) : (s.setGen g x).repFirst = s.repFirst := rfl
@[simp] theorem State.setGen_lines (s : State) (g : Nat) (x : Gen) : (s.setGen g x).lines = s.lines := rfl
@[simp] theorem State.setGen_pwms (s : State) (g : Nat) (x : Gen) : (s.setGen g x).pwms = s.pwms := rfl
@[simp] theorem State.setGen_sds (s : State) (g : Nat) (x : Gen) : (s.setGen g x).sds = s.sds := rfl
@[simp] theorem State.setGen_pins (s : State) (g : Nat) (x : Gen) : (s.setGen g x).pins = s.pins := rfl
@[simp] theorem State.setGen_bankOk (s : State) (g : Nat) (x : Gen) : (s.setGen g x).bankOk = s.bankOk := rfl
@[simp] theorem State.setGen_loaded (s : State) (g : Nat) (x : Gen) : (s.setGen g x).loaded = s.loaded := rfl
@[simp] theorem State.setGen_rcs (s : State) (g : Nat) (x : Gen) : (s.setGen g x).rcs = s.rcs := rfl
@[simp] theorem State.setGen_uarts (s : State) (g : Nat) (x : Gen) : (s.setGen g x).uarts = s.uarts := rfl
@[simp] theorem State.setGen_att (s : State) (g : Nat) (x : Gen) : (s.setGen g x).att = s.att := rfl
@[simp] theorem State.setGen_macs (s : State) (g : Nat) (x : Gen) : (s.setGen g x).macs = s.macs := rfl
@[simp] theorem State.setGen_bells (s : State) (g : Nat) (x : Gen) : (s.setGen g x).bells = s.bells := rfl
@[simp] theorem State.setGen_enq (s : State) (g : Nat) (x : Gen) : (s.setGen g x).enq = s.enq := rfl
@[simp] theorem State.setGen_en (s : State) (g : Nat) (x : Gen) : (s.setGen g x).en = s.en := rfl
@[simp] theorem State.setGen_fcMap (s : State) (g : Nat) (x : Gen) : (s.setGen g x).fcMap = s.fcMap := rfl
@[simp] theorem State.setGen_fcOut (s : State) (g : Nat) (x : Gen) : (s.setGen g x).fcOut = s.fcOut := rfl
@[simp] theorem State.setGen_staff (s : State) (g : Nat) (x : Gen) : (s.setGen g x).staff = s.staff := rfl
@[simp] theorem State.setGen_owners (s : State) (g : Nat) (x : Gen) : (s.setGen g x).owners = s.owners := rfl
@[simp] theorem State.setGen_page (s : State) (g : Nat) (x : Gen) : (s.setGen g x).page = s.page := rfl
@[simp] theorem State.setGen_snapK (s : State) (g : Nat) (x : Gen) : (s.setGen g x).snapK = s.snapK := rfl
@[simp] theorem State.setGen_hall (s : State) (g : Nat) (x : Gen) : (s.setGen g x).hall = s.hall := rfl
@[simp] theorem State.setGen_keys (s : State) (g : Nat) (x : Gen) : (s.setGen g x).keys = s.keys := rfl
@[simp] theorem State.setGen_otp (s : State) (g : Nat) (x : Gen) : (s.setGen g x).otp = s.otp := rfl
@[simp] theorem State.setGen_certBuf (s : State) (g : Nat) (x : Gen) : (s.setGen g x).certBuf = s.certBuf := rfl
@[simp] theorem State.setGen_attRec (s : State) (g : Nat) (x : Gen) : (s.setGen g x).attRec = s.attRec := rfl
@[simp] theorem State.setGen_signing (s : State) (g : Nat) (x : Gen) : (s.setGen g x).signing = s.signing := rfl
@[simp] theorem State.setGen_noise (s : State) (g : Nat) (x : Gen) : (s.setGen g x).noise = s.noise := rfl
@[simp] theorem State.setGen_drbgs (s : State) (g : Nat) (x : Gen) : (s.setGen g x).drbgs = s.drbgs := rfl
@[simp] theorem State.setGen_drbgLast (s : State) (g : Nat) (x : Gen) : (s.setGen g x).drbgLast = s.drbgLast := rfl
@[simp] theorem State.setGen_crypto (s : State) (g : Nat) (x : Gen) : (s.setGen g x).crypto = s.crypto := rfl
@[simp] theorem State.setGen_crLast (s : State) (g : Nat) (x : Gen) : (s.setGen g x).crLast = s.crLast := rfl
@[simp] theorem State.setGen_wdStart (s : State) (g : Nat) (x : Gen) : (s.setGen g x).wdStart = s.wdStart := rfl
@[simp] theorem State.setGen_wdOut (s : State) (g : Nat) (x : Gen) : (s.setGen g x).wdOut = s.wdOut := rfl
@[simp] theorem State.setGen_wdStage (s : State) (g : Nat) (x : Gen) : (s.setGen g x).wdStage = s.wdStage := rfl
@[simp] theorem State.setGen_restart (s : State) (g : Nat) (x : Gen) : (s.setGen g x).restart = s.restart := rfl
@[simp] theorem State.setGen_safeTest (s : State) (g : Nat) (x : Gen) : (s.setGen g x).safeTest = s.safeTest := rfl
@[simp] theorem State.setGen_now (s : State) (g : Nat) (x : Gen) : (s.setGen g x).now = s.now := rfl
@[simp] theorem State.setGen_regs (s : State) (g : Nat) (x : Gen) : (s.setGen g x).regs = s.regs := rfl
@[simp] theorem State.setGen_mem (s : State) (g : Nat) (x : Gen) : (s.setGen g x).mem = s.mem := rfl
@[simp] theorem State.setGen_cores (s : State) (g : Nat) (x : Gen) : (s.setGen g x).cores = s.cores := rfl
@[simp] theorem State.setGen_mode (s : State) (g : Nat) (x : Gen) : (s.setGen g x).mode = s.mode := rfl
@[simp] theorem State.setGen_clocks (s : State) (g : Nat) (x : Gen) : (s.setGen g x).clocks = s.clocks := rfl
@[simp] theorem State.setGen_logQ (s : State) (g : Nat) (x : Gen) : (s.setGen g x).logQ = s.logQ := rfl
@[simp] theorem State.setGen_gens (s : State) (g : Nat) (x : Gen) : (s.setGen g x).gens = s.gens.put g x := rfl

/-! ### setPwm -/

@[simp] theorem State.setPwm_pending (s : State) (c : Nat) (x : Pwm) : (s.setPwm c x).pending = s.pending := rfl
@[simp] theorem State.setPwm_variant (s : State) (c : Nat) (x : Pwm) : (s.setPwm c x).variant = s.variant := rfl
@[simp] theorem State.setPwm_freeCtr (s : State) (c : Nat) (x : Pwm) : (s.setPwm c x).freeCtr = s.freeCtr := rfl
@[simp] theorem State.setPwm_rdata (s : State) (c : Nat) (x : Pwm) : (s.setPwm c x).rdata = s.rdata := rfl
@[simp] theorem State.setPwm_inForce (s : State) (c : Nat) (x : Pwm) : (s.setPwm c x).inForce = s.inForce := rfl
@[simp] theorem State.setPwm_was (s : State) (c : Nat) (x : Pwm) : (s.setPwm c x).was = s.was := rfl
@[simp] theorem State.setPwm_ecc (s : State) (c : Nat) (x : Pwm) : (s.setPwm c x).ecc = s.ecc := rfl
@[simp] theorem State.setPwm_mrq (s : State) (c : Nat) (x : Pwm) : (s.setPwm c x).mrq = s.mrq := rfl
@[simp] theorem State.setPwm_mrRun (s : State) (c : Nat) (x : Pwm) : (s.setPwm c x).mrRun = s.mrRun := rfl
@[simp] theorem State.setPwm_openLines (s : State) (c : Nat) (x : Pwm) : (s.setPwm c x).openLines = s.openLines := rfl
@[simp] theorem State.setPwm_scrub (s : State) (c : Nat) (x : Pwm) : (s.setPwm c x).scrub = s.scrub := rfl
@[simp] theorem State.setPwm_scrubDue (s : State) (c : Nat) (x : Pwm) : (s.setPwm c x).scrubDue = s.scrubDue := rfl
@[simp] theorem State.setPwm_dip (s : State) (c : Nat) (x : Pwm) : (s.setPwm c x).dip = s.dip := rfl
@[simp] theorem State.setPwm_trans (s : State) (c : Nat) (x : Pwm) : (s.setPwm c x).trans = s.trans := rfl
@[simp] theorem State.setPwm_dawn (s : State) (c : Nat) (x : Pwm) : (s.setPwm c x).dawn = s.dawn := rfl
@[simp] theorem State.setPwm_stepK (s : State) (c : Nat) (x : Pwm) : (s.setPwm c x).stepK = s.stepK := rfl
@[simp] theorem State.setPwm_supply (s : State) (c : Nat) (x : Pwm) : (s.setPwm c x).supply = s.supply := rfl
@[simp] theorem State.setPwm_resetN (s : State) (c : Nat) (x : Pwm) : (s.setPwm c x).resetN = s.resetN := rfl
@[simp] theorem State.setPwm_refOk (s : State) (c : Nat) (x : Pwm) : (s.setPwm c x).refOk = s.refOk := rfl
@[simp] theorem State.setPwm_pllOk (s : State) (c : Nat) (x : Pwm) : (s.setPwm c x).pllOk = s.pllOk := rfl
@[simp] theorem State.setPwm_dawnEnd (s : State) (c : Nat) (x : Pwm) : (s.setPwm c x).dawnEnd = s.dawnEnd := rfl
@[simp] theorem State.setPwm_estopN (s : State) (c : Nat) (x : Pwm) : (s.setPwm c x).estopN = s.estopN := rfl
@[simp] theorem State.setPwm_estopAt (s : State) (c : Nat) (x : Pwm) : (s.setPwm c x).estopAt = s.estopAt := rfl
@[simp] theorem State.setPwm_svcLow (s : State) (c : Nat) (x : Pwm) : (s.setPwm c x).svcLow = s.svcLow := rfl
@[simp] theorem State.setPwm_chans (s : State) (c : Nat) (x : Pwm) : (s.setPwm c x).chans = s.chans := rfl
@[simp] theorem State.setPwm_mains (s : State) (c : Nat) (x : Pwm) : (s.setPwm c x).mains = s.mains := rfl
@[simp] theorem State.setPwm_tbs (s : State) (c : Nat) (x : Pwm) : (s.setPwm c x).tbs = s.tbs := rfl
@[simp] theorem State.setPwm_wall (s : State) (c : Nat) (x : Pwm) : (s.setPwm c x).wall = s.wall := rfl
@[simp] theorem State.setPwm_caps (s : State) (c : Nat) (x : Pwm) : (s.setPwm c x).caps = s.caps := rfl
@[simp] theorem State.setPwm_capSeq (s : State) (c : Nat) (x : Pwm) : (s.setPwm c x).capSeq = s.capSeq := rfl
@[simp] theorem State.setPwm_handed (s : State) (c : Nat) (x : Pwm) : (s.setPwm c x).handed = s.handed := rfl
@[simp] theorem State.setPwm_capAt (s : State) (c : Nat) (x : Pwm) : (s.setPwm c x).capAt = s.capAt := rfl
@[simp] theorem State.setPwm_slots (s : State) (c : Nat) (x : Pwm) : (s.setPwm c x).slots = s.slots := rfl
@[simp] theorem State.setPwm_memq (s : State) (c : Nat) (x : Pwm) : (s.setPwm c x).memq = s.memq := rfl
@[simp] theorem State.setPwm_acts (s : State) (c : Nat) (x : Pwm) : (s.setPwm c x).acts = s.acts := rfl
@[simp] theorem State.setPwm_ttPeak (s : State) (c : Nat) (x : Pwm) : (s.setPwm c x).ttPeak = s.ttPeak := rfl
@[simp] theorem State.setPwm_queues (s : State) (c : Nat) (x : Pwm) : (s.setPwm c x).queues = s.queues := rfl
@[simp] theorem State.setPwm_reports (s : State) (c : Nat) (x : Pwm) : (s.setPwm c x).reports = s.reports := rfl
@[simp] theorem State.setPwm_repFirst (s : State) (c : Nat) (x : Pwm) : (s.setPwm c x).repFirst = s.repFirst := rfl
@[simp] theorem State.setPwm_lines (s : State) (c : Nat) (x : Pwm) : (s.setPwm c x).lines = s.lines := rfl
@[simp] theorem State.setPwm_gens (s : State) (c : Nat) (x : Pwm) : (s.setPwm c x).gens = s.gens := rfl
@[simp] theorem State.setPwm_sds (s : State) (c : Nat) (x : Pwm) : (s.setPwm c x).sds = s.sds := rfl
@[simp] theorem State.setPwm_pins (s : State) (c : Nat) (x : Pwm) : (s.setPwm c x).pins = s.pins := rfl
@[simp] theorem State.setPwm_bankOk (s : State) (c : Nat) (x : Pwm) : (s.setPwm c x).bankOk = s.bankOk := rfl
@[simp] theorem State.setPwm_loaded (s : State) (c : Nat) (x : Pwm) : (s.setPwm c x).loaded = s.loaded := rfl
@[simp] theorem State.setPwm_rcs (s : State) (c : Nat) (x : Pwm) : (s.setPwm c x).rcs = s.rcs := rfl
@[simp] theorem State.setPwm_uarts (s : State) (c : Nat) (x : Pwm) : (s.setPwm c x).uarts = s.uarts := rfl
@[simp] theorem State.setPwm_att (s : State) (c : Nat) (x : Pwm) : (s.setPwm c x).att = s.att := rfl
@[simp] theorem State.setPwm_macs (s : State) (c : Nat) (x : Pwm) : (s.setPwm c x).macs = s.macs := rfl
@[simp] theorem State.setPwm_bells (s : State) (c : Nat) (x : Pwm) : (s.setPwm c x).bells = s.bells := rfl
@[simp] theorem State.setPwm_enq (s : State) (c : Nat) (x : Pwm) : (s.setPwm c x).enq = s.enq := rfl
@[simp] theorem State.setPwm_en (s : State) (c : Nat) (x : Pwm) : (s.setPwm c x).en = s.en := rfl
@[simp] theorem State.setPwm_fcMap (s : State) (c : Nat) (x : Pwm) : (s.setPwm c x).fcMap = s.fcMap := rfl
@[simp] theorem State.setPwm_fcOut (s : State) (c : Nat) (x : Pwm) : (s.setPwm c x).fcOut = s.fcOut := rfl
@[simp] theorem State.setPwm_staff (s : State) (c : Nat) (x : Pwm) : (s.setPwm c x).staff = s.staff := rfl
@[simp] theorem State.setPwm_owners (s : State) (c : Nat) (x : Pwm) : (s.setPwm c x).owners = s.owners := rfl
@[simp] theorem State.setPwm_page (s : State) (c : Nat) (x : Pwm) : (s.setPwm c x).page = s.page := rfl
@[simp] theorem State.setPwm_snapK (s : State) (c : Nat) (x : Pwm) : (s.setPwm c x).snapK = s.snapK := rfl
@[simp] theorem State.setPwm_hall (s : State) (c : Nat) (x : Pwm) : (s.setPwm c x).hall = s.hall := rfl
@[simp] theorem State.setPwm_keys (s : State) (c : Nat) (x : Pwm) : (s.setPwm c x).keys = s.keys := rfl
@[simp] theorem State.setPwm_otp (s : State) (c : Nat) (x : Pwm) : (s.setPwm c x).otp = s.otp := rfl
@[simp] theorem State.setPwm_certBuf (s : State) (c : Nat) (x : Pwm) : (s.setPwm c x).certBuf = s.certBuf := rfl
@[simp] theorem State.setPwm_attRec (s : State) (c : Nat) (x : Pwm) : (s.setPwm c x).attRec = s.attRec := rfl
@[simp] theorem State.setPwm_signing (s : State) (c : Nat) (x : Pwm) : (s.setPwm c x).signing = s.signing := rfl
@[simp] theorem State.setPwm_noise (s : State) (c : Nat) (x : Pwm) : (s.setPwm c x).noise = s.noise := rfl
@[simp] theorem State.setPwm_drbgs (s : State) (c : Nat) (x : Pwm) : (s.setPwm c x).drbgs = s.drbgs := rfl
@[simp] theorem State.setPwm_drbgLast (s : State) (c : Nat) (x : Pwm) : (s.setPwm c x).drbgLast = s.drbgLast := rfl
@[simp] theorem State.setPwm_crypto (s : State) (c : Nat) (x : Pwm) : (s.setPwm c x).crypto = s.crypto := rfl
@[simp] theorem State.setPwm_crLast (s : State) (c : Nat) (x : Pwm) : (s.setPwm c x).crLast = s.crLast := rfl
@[simp] theorem State.setPwm_wdStart (s : State) (c : Nat) (x : Pwm) : (s.setPwm c x).wdStart = s.wdStart := rfl
@[simp] theorem State.setPwm_wdOut (s : State) (c : Nat) (x : Pwm) : (s.setPwm c x).wdOut = s.wdOut := rfl
@[simp] theorem State.setPwm_wdStage (s : State) (c : Nat) (x : Pwm) : (s.setPwm c x).wdStage = s.wdStage := rfl
@[simp] theorem State.setPwm_restart (s : State) (c : Nat) (x : Pwm) : (s.setPwm c x).restart = s.restart := rfl
@[simp] theorem State.setPwm_safeTest (s : State) (c : Nat) (x : Pwm) : (s.setPwm c x).safeTest = s.safeTest := rfl
@[simp] theorem State.setPwm_now (s : State) (c : Nat) (x : Pwm) : (s.setPwm c x).now = s.now := rfl
@[simp] theorem State.setPwm_regs (s : State) (c : Nat) (x : Pwm) : (s.setPwm c x).regs = s.regs := rfl
@[simp] theorem State.setPwm_mem (s : State) (c : Nat) (x : Pwm) : (s.setPwm c x).mem = s.mem := rfl
@[simp] theorem State.setPwm_cores (s : State) (c : Nat) (x : Pwm) : (s.setPwm c x).cores = s.cores := rfl
@[simp] theorem State.setPwm_mode (s : State) (c : Nat) (x : Pwm) : (s.setPwm c x).mode = s.mode := rfl
@[simp] theorem State.setPwm_clocks (s : State) (c : Nat) (x : Pwm) : (s.setPwm c x).clocks = s.clocks := rfl
@[simp] theorem State.setPwm_logQ (s : State) (c : Nat) (x : Pwm) : (s.setPwm c x).logQ = s.logQ := rfl
@[simp] theorem State.setPwm_pwms (s : State) (c : Nat) (x : Pwm) : (s.setPwm c x).pwms = s.pwms.put c x := rfl

/-! ### setSd -/

@[simp] theorem State.setSd_pending (s : State) (n : Nat) (x : Sd) : (s.setSd n x).pending = s.pending := rfl
@[simp] theorem State.setSd_variant (s : State) (n : Nat) (x : Sd) : (s.setSd n x).variant = s.variant := rfl
@[simp] theorem State.setSd_freeCtr (s : State) (n : Nat) (x : Sd) : (s.setSd n x).freeCtr = s.freeCtr := rfl
@[simp] theorem State.setSd_rdata (s : State) (n : Nat) (x : Sd) : (s.setSd n x).rdata = s.rdata := rfl
@[simp] theorem State.setSd_inForce (s : State) (n : Nat) (x : Sd) : (s.setSd n x).inForce = s.inForce := rfl
@[simp] theorem State.setSd_was (s : State) (n : Nat) (x : Sd) : (s.setSd n x).was = s.was := rfl
@[simp] theorem State.setSd_ecc (s : State) (n : Nat) (x : Sd) : (s.setSd n x).ecc = s.ecc := rfl
@[simp] theorem State.setSd_mrq (s : State) (n : Nat) (x : Sd) : (s.setSd n x).mrq = s.mrq := rfl
@[simp] theorem State.setSd_mrRun (s : State) (n : Nat) (x : Sd) : (s.setSd n x).mrRun = s.mrRun := rfl
@[simp] theorem State.setSd_openLines (s : State) (n : Nat) (x : Sd) : (s.setSd n x).openLines = s.openLines := rfl
@[simp] theorem State.setSd_scrub (s : State) (n : Nat) (x : Sd) : (s.setSd n x).scrub = s.scrub := rfl
@[simp] theorem State.setSd_scrubDue (s : State) (n : Nat) (x : Sd) : (s.setSd n x).scrubDue = s.scrubDue := rfl
@[simp] theorem State.setSd_dip (s : State) (n : Nat) (x : Sd) : (s.setSd n x).dip = s.dip := rfl
@[simp] theorem State.setSd_trans (s : State) (n : Nat) (x : Sd) : (s.setSd n x).trans = s.trans := rfl
@[simp] theorem State.setSd_dawn (s : State) (n : Nat) (x : Sd) : (s.setSd n x).dawn = s.dawn := rfl
@[simp] theorem State.setSd_stepK (s : State) (n : Nat) (x : Sd) : (s.setSd n x).stepK = s.stepK := rfl
@[simp] theorem State.setSd_supply (s : State) (n : Nat) (x : Sd) : (s.setSd n x).supply = s.supply := rfl
@[simp] theorem State.setSd_resetN (s : State) (n : Nat) (x : Sd) : (s.setSd n x).resetN = s.resetN := rfl
@[simp] theorem State.setSd_refOk (s : State) (n : Nat) (x : Sd) : (s.setSd n x).refOk = s.refOk := rfl
@[simp] theorem State.setSd_pllOk (s : State) (n : Nat) (x : Sd) : (s.setSd n x).pllOk = s.pllOk := rfl
@[simp] theorem State.setSd_dawnEnd (s : State) (n : Nat) (x : Sd) : (s.setSd n x).dawnEnd = s.dawnEnd := rfl
@[simp] theorem State.setSd_estopN (s : State) (n : Nat) (x : Sd) : (s.setSd n x).estopN = s.estopN := rfl
@[simp] theorem State.setSd_estopAt (s : State) (n : Nat) (x : Sd) : (s.setSd n x).estopAt = s.estopAt := rfl
@[simp] theorem State.setSd_svcLow (s : State) (n : Nat) (x : Sd) : (s.setSd n x).svcLow = s.svcLow := rfl
@[simp] theorem State.setSd_chans (s : State) (n : Nat) (x : Sd) : (s.setSd n x).chans = s.chans := rfl
@[simp] theorem State.setSd_mains (s : State) (n : Nat) (x : Sd) : (s.setSd n x).mains = s.mains := rfl
@[simp] theorem State.setSd_tbs (s : State) (n : Nat) (x : Sd) : (s.setSd n x).tbs = s.tbs := rfl
@[simp] theorem State.setSd_wall (s : State) (n : Nat) (x : Sd) : (s.setSd n x).wall = s.wall := rfl
@[simp] theorem State.setSd_caps (s : State) (n : Nat) (x : Sd) : (s.setSd n x).caps = s.caps := rfl
@[simp] theorem State.setSd_capSeq (s : State) (n : Nat) (x : Sd) : (s.setSd n x).capSeq = s.capSeq := rfl
@[simp] theorem State.setSd_handed (s : State) (n : Nat) (x : Sd) : (s.setSd n x).handed = s.handed := rfl
@[simp] theorem State.setSd_capAt (s : State) (n : Nat) (x : Sd) : (s.setSd n x).capAt = s.capAt := rfl
@[simp] theorem State.setSd_slots (s : State) (n : Nat) (x : Sd) : (s.setSd n x).slots = s.slots := rfl
@[simp] theorem State.setSd_memq (s : State) (n : Nat) (x : Sd) : (s.setSd n x).memq = s.memq := rfl
@[simp] theorem State.setSd_acts (s : State) (n : Nat) (x : Sd) : (s.setSd n x).acts = s.acts := rfl
@[simp] theorem State.setSd_ttPeak (s : State) (n : Nat) (x : Sd) : (s.setSd n x).ttPeak = s.ttPeak := rfl
@[simp] theorem State.setSd_queues (s : State) (n : Nat) (x : Sd) : (s.setSd n x).queues = s.queues := rfl
@[simp] theorem State.setSd_reports (s : State) (n : Nat) (x : Sd) : (s.setSd n x).reports = s.reports := rfl
@[simp] theorem State.setSd_repFirst (s : State) (n : Nat) (x : Sd) : (s.setSd n x).repFirst = s.repFirst := rfl
@[simp] theorem State.setSd_lines (s : State) (n : Nat) (x : Sd) : (s.setSd n x).lines = s.lines := rfl
@[simp] theorem State.setSd_gens (s : State) (n : Nat) (x : Sd) : (s.setSd n x).gens = s.gens := rfl
@[simp] theorem State.setSd_pwms (s : State) (n : Nat) (x : Sd) : (s.setSd n x).pwms = s.pwms := rfl
@[simp] theorem State.setSd_pins (s : State) (n : Nat) (x : Sd) : (s.setSd n x).pins = s.pins := rfl
@[simp] theorem State.setSd_bankOk (s : State) (n : Nat) (x : Sd) : (s.setSd n x).bankOk = s.bankOk := rfl
@[simp] theorem State.setSd_loaded (s : State) (n : Nat) (x : Sd) : (s.setSd n x).loaded = s.loaded := rfl
@[simp] theorem State.setSd_rcs (s : State) (n : Nat) (x : Sd) : (s.setSd n x).rcs = s.rcs := rfl
@[simp] theorem State.setSd_uarts (s : State) (n : Nat) (x : Sd) : (s.setSd n x).uarts = s.uarts := rfl
@[simp] theorem State.setSd_att (s : State) (n : Nat) (x : Sd) : (s.setSd n x).att = s.att := rfl
@[simp] theorem State.setSd_macs (s : State) (n : Nat) (x : Sd) : (s.setSd n x).macs = s.macs := rfl
@[simp] theorem State.setSd_bells (s : State) (n : Nat) (x : Sd) : (s.setSd n x).bells = s.bells := rfl
@[simp] theorem State.setSd_enq (s : State) (n : Nat) (x : Sd) : (s.setSd n x).enq = s.enq := rfl
@[simp] theorem State.setSd_en (s : State) (n : Nat) (x : Sd) : (s.setSd n x).en = s.en := rfl
@[simp] theorem State.setSd_fcMap (s : State) (n : Nat) (x : Sd) : (s.setSd n x).fcMap = s.fcMap := rfl
@[simp] theorem State.setSd_fcOut (s : State) (n : Nat) (x : Sd) : (s.setSd n x).fcOut = s.fcOut := rfl
@[simp] theorem State.setSd_staff (s : State) (n : Nat) (x : Sd) : (s.setSd n x).staff = s.staff := rfl
@[simp] theorem State.setSd_owners (s : State) (n : Nat) (x : Sd) : (s.setSd n x).owners = s.owners := rfl
@[simp] theorem State.setSd_page (s : State) (n : Nat) (x : Sd) : (s.setSd n x).page = s.page := rfl
@[simp] theorem State.setSd_snapK (s : State) (n : Nat) (x : Sd) : (s.setSd n x).snapK = s.snapK := rfl
@[simp] theorem State.setSd_hall (s : State) (n : Nat) (x : Sd) : (s.setSd n x).hall = s.hall := rfl
@[simp] theorem State.setSd_keys (s : State) (n : Nat) (x : Sd) : (s.setSd n x).keys = s.keys := rfl
@[simp] theorem State.setSd_otp (s : State) (n : Nat) (x : Sd) : (s.setSd n x).otp = s.otp := rfl
@[simp] theorem State.setSd_certBuf (s : State) (n : Nat) (x : Sd) : (s.setSd n x).certBuf = s.certBuf := rfl
@[simp] theorem State.setSd_attRec (s : State) (n : Nat) (x : Sd) : (s.setSd n x).attRec = s.attRec := rfl
@[simp] theorem State.setSd_signing (s : State) (n : Nat) (x : Sd) : (s.setSd n x).signing = s.signing := rfl
@[simp] theorem State.setSd_noise (s : State) (n : Nat) (x : Sd) : (s.setSd n x).noise = s.noise := rfl
@[simp] theorem State.setSd_drbgs (s : State) (n : Nat) (x : Sd) : (s.setSd n x).drbgs = s.drbgs := rfl
@[simp] theorem State.setSd_drbgLast (s : State) (n : Nat) (x : Sd) : (s.setSd n x).drbgLast = s.drbgLast := rfl
@[simp] theorem State.setSd_crypto (s : State) (n : Nat) (x : Sd) : (s.setSd n x).crypto = s.crypto := rfl
@[simp] theorem State.setSd_crLast (s : State) (n : Nat) (x : Sd) : (s.setSd n x).crLast = s.crLast := rfl
@[simp] theorem State.setSd_wdStart (s : State) (n : Nat) (x : Sd) : (s.setSd n x).wdStart = s.wdStart := rfl
@[simp] theorem State.setSd_wdOut (s : State) (n : Nat) (x : Sd) : (s.setSd n x).wdOut = s.wdOut := rfl
@[simp] theorem State.setSd_wdStage (s : State) (n : Nat) (x : Sd) : (s.setSd n x).wdStage = s.wdStage := rfl
@[simp] theorem State.setSd_restart (s : State) (n : Nat) (x : Sd) : (s.setSd n x).restart = s.restart := rfl
@[simp] theorem State.setSd_safeTest (s : State) (n : Nat) (x : Sd) : (s.setSd n x).safeTest = s.safeTest := rfl
@[simp] theorem State.setSd_now (s : State) (n : Nat) (x : Sd) : (s.setSd n x).now = s.now := rfl
@[simp] theorem State.setSd_regs (s : State) (n : Nat) (x : Sd) : (s.setSd n x).regs = s.regs := rfl
@[simp] theorem State.setSd_mem (s : State) (n : Nat) (x : Sd) : (s.setSd n x).mem = s.mem := rfl
@[simp] theorem State.setSd_cores (s : State) (n : Nat) (x : Sd) : (s.setSd n x).cores = s.cores := rfl
@[simp] theorem State.setSd_mode (s : State) (n : Nat) (x : Sd) : (s.setSd n x).mode = s.mode := rfl
@[simp] theorem State.setSd_clocks (s : State) (n : Nat) (x : Sd) : (s.setSd n x).clocks = s.clocks := rfl
@[simp] theorem State.setSd_logQ (s : State) (n : Nat) (x : Sd) : (s.setSd n x).logQ = s.logQ := rfl
@[simp] theorem State.setSd_sds (s : State) (n : Nat) (x : Sd) : (s.setSd n x).sds = s.sds.put n x := rfl

/-! ### setPin -/

@[simp] theorem State.setPin_pending (s : State) (b : Nat) (x : Pin) : (s.setPin b x).pending = s.pending := rfl
@[simp] theorem State.setPin_variant (s : State) (b : Nat) (x : Pin) : (s.setPin b x).variant = s.variant := rfl
@[simp] theorem State.setPin_freeCtr (s : State) (b : Nat) (x : Pin) : (s.setPin b x).freeCtr = s.freeCtr := rfl
@[simp] theorem State.setPin_rdata (s : State) (b : Nat) (x : Pin) : (s.setPin b x).rdata = s.rdata := rfl
@[simp] theorem State.setPin_inForce (s : State) (b : Nat) (x : Pin) : (s.setPin b x).inForce = s.inForce := rfl
@[simp] theorem State.setPin_was (s : State) (b : Nat) (x : Pin) : (s.setPin b x).was = s.was := rfl
@[simp] theorem State.setPin_ecc (s : State) (b : Nat) (x : Pin) : (s.setPin b x).ecc = s.ecc := rfl
@[simp] theorem State.setPin_mrq (s : State) (b : Nat) (x : Pin) : (s.setPin b x).mrq = s.mrq := rfl
@[simp] theorem State.setPin_mrRun (s : State) (b : Nat) (x : Pin) : (s.setPin b x).mrRun = s.mrRun := rfl
@[simp] theorem State.setPin_openLines (s : State) (b : Nat) (x : Pin) : (s.setPin b x).openLines = s.openLines := rfl
@[simp] theorem State.setPin_scrub (s : State) (b : Nat) (x : Pin) : (s.setPin b x).scrub = s.scrub := rfl
@[simp] theorem State.setPin_scrubDue (s : State) (b : Nat) (x : Pin) : (s.setPin b x).scrubDue = s.scrubDue := rfl
@[simp] theorem State.setPin_dip (s : State) (b : Nat) (x : Pin) : (s.setPin b x).dip = s.dip := rfl
@[simp] theorem State.setPin_trans (s : State) (b : Nat) (x : Pin) : (s.setPin b x).trans = s.trans := rfl
@[simp] theorem State.setPin_dawn (s : State) (b : Nat) (x : Pin) : (s.setPin b x).dawn = s.dawn := rfl
@[simp] theorem State.setPin_stepK (s : State) (b : Nat) (x : Pin) : (s.setPin b x).stepK = s.stepK := rfl
@[simp] theorem State.setPin_supply (s : State) (b : Nat) (x : Pin) : (s.setPin b x).supply = s.supply := rfl
@[simp] theorem State.setPin_resetN (s : State) (b : Nat) (x : Pin) : (s.setPin b x).resetN = s.resetN := rfl
@[simp] theorem State.setPin_refOk (s : State) (b : Nat) (x : Pin) : (s.setPin b x).refOk = s.refOk := rfl
@[simp] theorem State.setPin_pllOk (s : State) (b : Nat) (x : Pin) : (s.setPin b x).pllOk = s.pllOk := rfl
@[simp] theorem State.setPin_dawnEnd (s : State) (b : Nat) (x : Pin) : (s.setPin b x).dawnEnd = s.dawnEnd := rfl
@[simp] theorem State.setPin_estopN (s : State) (b : Nat) (x : Pin) : (s.setPin b x).estopN = s.estopN := rfl
@[simp] theorem State.setPin_estopAt (s : State) (b : Nat) (x : Pin) : (s.setPin b x).estopAt = s.estopAt := rfl
@[simp] theorem State.setPin_svcLow (s : State) (b : Nat) (x : Pin) : (s.setPin b x).svcLow = s.svcLow := rfl
@[simp] theorem State.setPin_chans (s : State) (b : Nat) (x : Pin) : (s.setPin b x).chans = s.chans := rfl
@[simp] theorem State.setPin_mains (s : State) (b : Nat) (x : Pin) : (s.setPin b x).mains = s.mains := rfl
@[simp] theorem State.setPin_tbs (s : State) (b : Nat) (x : Pin) : (s.setPin b x).tbs = s.tbs := rfl
@[simp] theorem State.setPin_wall (s : State) (b : Nat) (x : Pin) : (s.setPin b x).wall = s.wall := rfl
@[simp] theorem State.setPin_caps (s : State) (b : Nat) (x : Pin) : (s.setPin b x).caps = s.caps := rfl
@[simp] theorem State.setPin_capSeq (s : State) (b : Nat) (x : Pin) : (s.setPin b x).capSeq = s.capSeq := rfl
@[simp] theorem State.setPin_handed (s : State) (b : Nat) (x : Pin) : (s.setPin b x).handed = s.handed := rfl
@[simp] theorem State.setPin_capAt (s : State) (b : Nat) (x : Pin) : (s.setPin b x).capAt = s.capAt := rfl
@[simp] theorem State.setPin_slots (s : State) (b : Nat) (x : Pin) : (s.setPin b x).slots = s.slots := rfl
@[simp] theorem State.setPin_memq (s : State) (b : Nat) (x : Pin) : (s.setPin b x).memq = s.memq := rfl
@[simp] theorem State.setPin_acts (s : State) (b : Nat) (x : Pin) : (s.setPin b x).acts = s.acts := rfl
@[simp] theorem State.setPin_ttPeak (s : State) (b : Nat) (x : Pin) : (s.setPin b x).ttPeak = s.ttPeak := rfl
@[simp] theorem State.setPin_queues (s : State) (b : Nat) (x : Pin) : (s.setPin b x).queues = s.queues := rfl
@[simp] theorem State.setPin_reports (s : State) (b : Nat) (x : Pin) : (s.setPin b x).reports = s.reports := rfl
@[simp] theorem State.setPin_repFirst (s : State) (b : Nat) (x : Pin) : (s.setPin b x).repFirst = s.repFirst := rfl
@[simp] theorem State.setPin_lines (s : State) (b : Nat) (x : Pin) : (s.setPin b x).lines = s.lines := rfl
@[simp] theorem State.setPin_gens (s : State) (b : Nat) (x : Pin) : (s.setPin b x).gens = s.gens := rfl
@[simp] theorem State.setPin_pwms (s : State) (b : Nat) (x : Pin) : (s.setPin b x).pwms = s.pwms := rfl
@[simp] theorem State.setPin_sds (s : State) (b : Nat) (x : Pin) : (s.setPin b x).sds = s.sds := rfl
@[simp] theorem State.setPin_bankOk (s : State) (b : Nat) (x : Pin) : (s.setPin b x).bankOk = s.bankOk := rfl
@[simp] theorem State.setPin_loaded (s : State) (b : Nat) (x : Pin) : (s.setPin b x).loaded = s.loaded := rfl
@[simp] theorem State.setPin_rcs (s : State) (b : Nat) (x : Pin) : (s.setPin b x).rcs = s.rcs := rfl
@[simp] theorem State.setPin_uarts (s : State) (b : Nat) (x : Pin) : (s.setPin b x).uarts = s.uarts := rfl
@[simp] theorem State.setPin_att (s : State) (b : Nat) (x : Pin) : (s.setPin b x).att = s.att := rfl
@[simp] theorem State.setPin_macs (s : State) (b : Nat) (x : Pin) : (s.setPin b x).macs = s.macs := rfl
@[simp] theorem State.setPin_bells (s : State) (b : Nat) (x : Pin) : (s.setPin b x).bells = s.bells := rfl
@[simp] theorem State.setPin_enq (s : State) (b : Nat) (x : Pin) : (s.setPin b x).enq = s.enq := rfl
@[simp] theorem State.setPin_en (s : State) (b : Nat) (x : Pin) : (s.setPin b x).en = s.en := rfl
@[simp] theorem State.setPin_fcMap (s : State) (b : Nat) (x : Pin) : (s.setPin b x).fcMap = s.fcMap := rfl
@[simp] theorem State.setPin_fcOut (s : State) (b : Nat) (x : Pin) : (s.setPin b x).fcOut = s.fcOut := rfl
@[simp] theorem State.setPin_staff (s : State) (b : Nat) (x : Pin) : (s.setPin b x).staff = s.staff := rfl
@[simp] theorem State.setPin_owners (s : State) (b : Nat) (x : Pin) : (s.setPin b x).owners = s.owners := rfl
@[simp] theorem State.setPin_page (s : State) (b : Nat) (x : Pin) : (s.setPin b x).page = s.page := rfl
@[simp] theorem State.setPin_snapK (s : State) (b : Nat) (x : Pin) : (s.setPin b x).snapK = s.snapK := rfl
@[simp] theorem State.setPin_hall (s : State) (b : Nat) (x : Pin) : (s.setPin b x).hall = s.hall := rfl
@[simp] theorem State.setPin_keys (s : State) (b : Nat) (x : Pin) : (s.setPin b x).keys = s.keys := rfl
@[simp] theorem State.setPin_otp (s : State) (b : Nat) (x : Pin) : (s.setPin b x).otp = s.otp := rfl
@[simp] theorem State.setPin_certBuf (s : State) (b : Nat) (x : Pin) : (s.setPin b x).certBuf = s.certBuf := rfl
@[simp] theorem State.setPin_attRec (s : State) (b : Nat) (x : Pin) : (s.setPin b x).attRec = s.attRec := rfl
@[simp] theorem State.setPin_signing (s : State) (b : Nat) (x : Pin) : (s.setPin b x).signing = s.signing := rfl
@[simp] theorem State.setPin_noise (s : State) (b : Nat) (x : Pin) : (s.setPin b x).noise = s.noise := rfl
@[simp] theorem State.setPin_drbgs (s : State) (b : Nat) (x : Pin) : (s.setPin b x).drbgs = s.drbgs := rfl
@[simp] theorem State.setPin_drbgLast (s : State) (b : Nat) (x : Pin) : (s.setPin b x).drbgLast = s.drbgLast := rfl
@[simp] theorem State.setPin_crypto (s : State) (b : Nat) (x : Pin) : (s.setPin b x).crypto = s.crypto := rfl
@[simp] theorem State.setPin_crLast (s : State) (b : Nat) (x : Pin) : (s.setPin b x).crLast = s.crLast := rfl
@[simp] theorem State.setPin_wdStart (s : State) (b : Nat) (x : Pin) : (s.setPin b x).wdStart = s.wdStart := rfl
@[simp] theorem State.setPin_wdOut (s : State) (b : Nat) (x : Pin) : (s.setPin b x).wdOut = s.wdOut := rfl
@[simp] theorem State.setPin_wdStage (s : State) (b : Nat) (x : Pin) : (s.setPin b x).wdStage = s.wdStage := rfl
@[simp] theorem State.setPin_restart (s : State) (b : Nat) (x : Pin) : (s.setPin b x).restart = s.restart := rfl
@[simp] theorem State.setPin_safeTest (s : State) (b : Nat) (x : Pin) : (s.setPin b x).safeTest = s.safeTest := rfl
@[simp] theorem State.setPin_now (s : State) (b : Nat) (x : Pin) : (s.setPin b x).now = s.now := rfl
@[simp] theorem State.setPin_regs (s : State) (b : Nat) (x : Pin) : (s.setPin b x).regs = s.regs := rfl
@[simp] theorem State.setPin_mem (s : State) (b : Nat) (x : Pin) : (s.setPin b x).mem = s.mem := rfl
@[simp] theorem State.setPin_cores (s : State) (b : Nat) (x : Pin) : (s.setPin b x).cores = s.cores := rfl
@[simp] theorem State.setPin_mode (s : State) (b : Nat) (x : Pin) : (s.setPin b x).mode = s.mode := rfl
@[simp] theorem State.setPin_clocks (s : State) (b : Nat) (x : Pin) : (s.setPin b x).clocks = s.clocks := rfl
@[simp] theorem State.setPin_logQ (s : State) (b : Nat) (x : Pin) : (s.setPin b x).logQ = s.logQ := rfl
@[simp] theorem State.setPin_pins (s : State) (b : Nat) (x : Pin) : (s.setPin b x).pins = s.pins.put b x := rfl

/-! ### setRc -/

@[simp] theorem State.setRc_pending (s : State) (c : Nat) (x : Rc) : (s.setRc c x).pending = s.pending := rfl
@[simp] theorem State.setRc_variant (s : State) (c : Nat) (x : Rc) : (s.setRc c x).variant = s.variant := rfl
@[simp] theorem State.setRc_freeCtr (s : State) (c : Nat) (x : Rc) : (s.setRc c x).freeCtr = s.freeCtr := rfl
@[simp] theorem State.setRc_rdata (s : State) (c : Nat) (x : Rc) : (s.setRc c x).rdata = s.rdata := rfl
@[simp] theorem State.setRc_inForce (s : State) (c : Nat) (x : Rc) : (s.setRc c x).inForce = s.inForce := rfl
@[simp] theorem State.setRc_was (s : State) (c : Nat) (x : Rc) : (s.setRc c x).was = s.was := rfl
@[simp] theorem State.setRc_ecc (s : State) (c : Nat) (x : Rc) : (s.setRc c x).ecc = s.ecc := rfl
@[simp] theorem State.setRc_mrq (s : State) (c : Nat) (x : Rc) : (s.setRc c x).mrq = s.mrq := rfl
@[simp] theorem State.setRc_mrRun (s : State) (c : Nat) (x : Rc) : (s.setRc c x).mrRun = s.mrRun := rfl
@[simp] theorem State.setRc_openLines (s : State) (c : Nat) (x : Rc) : (s.setRc c x).openLines = s.openLines := rfl
@[simp] theorem State.setRc_scrub (s : State) (c : Nat) (x : Rc) : (s.setRc c x).scrub = s.scrub := rfl
@[simp] theorem State.setRc_scrubDue (s : State) (c : Nat) (x : Rc) : (s.setRc c x).scrubDue = s.scrubDue := rfl
@[simp] theorem State.setRc_dip (s : State) (c : Nat) (x : Rc) : (s.setRc c x).dip = s.dip := rfl
@[simp] theorem State.setRc_trans (s : State) (c : Nat) (x : Rc) : (s.setRc c x).trans = s.trans := rfl
@[simp] theorem State.setRc_dawn (s : State) (c : Nat) (x : Rc) : (s.setRc c x).dawn = s.dawn := rfl
@[simp] theorem State.setRc_stepK (s : State) (c : Nat) (x : Rc) : (s.setRc c x).stepK = s.stepK := rfl
@[simp] theorem State.setRc_supply (s : State) (c : Nat) (x : Rc) : (s.setRc c x).supply = s.supply := rfl
@[simp] theorem State.setRc_resetN (s : State) (c : Nat) (x : Rc) : (s.setRc c x).resetN = s.resetN := rfl
@[simp] theorem State.setRc_refOk (s : State) (c : Nat) (x : Rc) : (s.setRc c x).refOk = s.refOk := rfl
@[simp] theorem State.setRc_pllOk (s : State) (c : Nat) (x : Rc) : (s.setRc c x).pllOk = s.pllOk := rfl
@[simp] theorem State.setRc_dawnEnd (s : State) (c : Nat) (x : Rc) : (s.setRc c x).dawnEnd = s.dawnEnd := rfl
@[simp] theorem State.setRc_estopN (s : State) (c : Nat) (x : Rc) : (s.setRc c x).estopN = s.estopN := rfl
@[simp] theorem State.setRc_estopAt (s : State) (c : Nat) (x : Rc) : (s.setRc c x).estopAt = s.estopAt := rfl
@[simp] theorem State.setRc_svcLow (s : State) (c : Nat) (x : Rc) : (s.setRc c x).svcLow = s.svcLow := rfl
@[simp] theorem State.setRc_chans (s : State) (c : Nat) (x : Rc) : (s.setRc c x).chans = s.chans := rfl
@[simp] theorem State.setRc_mains (s : State) (c : Nat) (x : Rc) : (s.setRc c x).mains = s.mains := rfl
@[simp] theorem State.setRc_tbs (s : State) (c : Nat) (x : Rc) : (s.setRc c x).tbs = s.tbs := rfl
@[simp] theorem State.setRc_wall (s : State) (c : Nat) (x : Rc) : (s.setRc c x).wall = s.wall := rfl
@[simp] theorem State.setRc_caps (s : State) (c : Nat) (x : Rc) : (s.setRc c x).caps = s.caps := rfl
@[simp] theorem State.setRc_capSeq (s : State) (c : Nat) (x : Rc) : (s.setRc c x).capSeq = s.capSeq := rfl
@[simp] theorem State.setRc_handed (s : State) (c : Nat) (x : Rc) : (s.setRc c x).handed = s.handed := rfl
@[simp] theorem State.setRc_capAt (s : State) (c : Nat) (x : Rc) : (s.setRc c x).capAt = s.capAt := rfl
@[simp] theorem State.setRc_slots (s : State) (c : Nat) (x : Rc) : (s.setRc c x).slots = s.slots := rfl
@[simp] theorem State.setRc_memq (s : State) (c : Nat) (x : Rc) : (s.setRc c x).memq = s.memq := rfl
@[simp] theorem State.setRc_acts (s : State) (c : Nat) (x : Rc) : (s.setRc c x).acts = s.acts := rfl
@[simp] theorem State.setRc_ttPeak (s : State) (c : Nat) (x : Rc) : (s.setRc c x).ttPeak = s.ttPeak := rfl
@[simp] theorem State.setRc_queues (s : State) (c : Nat) (x : Rc) : (s.setRc c x).queues = s.queues := rfl
@[simp] theorem State.setRc_reports (s : State) (c : Nat) (x : Rc) : (s.setRc c x).reports = s.reports := rfl
@[simp] theorem State.setRc_repFirst (s : State) (c : Nat) (x : Rc) : (s.setRc c x).repFirst = s.repFirst := rfl
@[simp] theorem State.setRc_lines (s : State) (c : Nat) (x : Rc) : (s.setRc c x).lines = s.lines := rfl
@[simp] theorem State.setRc_gens (s : State) (c : Nat) (x : Rc) : (s.setRc c x).gens = s.gens := rfl
@[simp] theorem State.setRc_pwms (s : State) (c : Nat) (x : Rc) : (s.setRc c x).pwms = s.pwms := rfl
@[simp] theorem State.setRc_sds (s : State) (c : Nat) (x : Rc) : (s.setRc c x).sds = s.sds := rfl
@[simp] theorem State.setRc_pins (s : State) (c : Nat) (x : Rc) : (s.setRc c x).pins = s.pins := rfl
@[simp] theorem State.setRc_bankOk (s : State) (c : Nat) (x : Rc) : (s.setRc c x).bankOk = s.bankOk := rfl
@[simp] theorem State.setRc_loaded (s : State) (c : Nat) (x : Rc) : (s.setRc c x).loaded = s.loaded := rfl
@[simp] theorem State.setRc_uarts (s : State) (c : Nat) (x : Rc) : (s.setRc c x).uarts = s.uarts := rfl
@[simp] theorem State.setRc_att (s : State) (c : Nat) (x : Rc) : (s.setRc c x).att = s.att := rfl
@[simp] theorem State.setRc_macs (s : State) (c : Nat) (x : Rc) : (s.setRc c x).macs = s.macs := rfl
@[simp] theorem State.setRc_bells (s : State) (c : Nat) (x : Rc) : (s.setRc c x).bells = s.bells := rfl
@[simp] theorem State.setRc_enq (s : State) (c : Nat) (x : Rc) : (s.setRc c x).enq = s.enq := rfl
@[simp] theorem State.setRc_en (s : State) (c : Nat) (x : Rc) : (s.setRc c x).en = s.en := rfl
@[simp] theorem State.setRc_fcMap (s : State) (c : Nat) (x : Rc) : (s.setRc c x).fcMap = s.fcMap := rfl
@[simp] theorem State.setRc_fcOut (s : State) (c : Nat) (x : Rc) : (s.setRc c x).fcOut = s.fcOut := rfl
@[simp] theorem State.setRc_staff (s : State) (c : Nat) (x : Rc) : (s.setRc c x).staff = s.staff := rfl
@[simp] theorem State.setRc_owners (s : State) (c : Nat) (x : Rc) : (s.setRc c x).owners = s.owners := rfl
@[simp] theorem State.setRc_page (s : State) (c : Nat) (x : Rc) : (s.setRc c x).page = s.page := rfl
@[simp] theorem State.setRc_snapK (s : State) (c : Nat) (x : Rc) : (s.setRc c x).snapK = s.snapK := rfl
@[simp] theorem State.setRc_hall (s : State) (c : Nat) (x : Rc) : (s.setRc c x).hall = s.hall := rfl
@[simp] theorem State.setRc_keys (s : State) (c : Nat) (x : Rc) : (s.setRc c x).keys = s.keys := rfl
@[simp] theorem State.setRc_otp (s : State) (c : Nat) (x : Rc) : (s.setRc c x).otp = s.otp := rfl
@[simp] theorem State.setRc_certBuf (s : State) (c : Nat) (x : Rc) : (s.setRc c x).certBuf = s.certBuf := rfl
@[simp] theorem State.setRc_attRec (s : State) (c : Nat) (x : Rc) : (s.setRc c x).attRec = s.attRec := rfl
@[simp] theorem State.setRc_signing (s : State) (c : Nat) (x : Rc) : (s.setRc c x).signing = s.signing := rfl
@[simp] theorem State.setRc_noise (s : State) (c : Nat) (x : Rc) : (s.setRc c x).noise = s.noise := rfl
@[simp] theorem State.setRc_drbgs (s : State) (c : Nat) (x : Rc) : (s.setRc c x).drbgs = s.drbgs := rfl
@[simp] theorem State.setRc_drbgLast (s : State) (c : Nat) (x : Rc) : (s.setRc c x).drbgLast = s.drbgLast := rfl
@[simp] theorem State.setRc_crypto (s : State) (c : Nat) (x : Rc) : (s.setRc c x).crypto = s.crypto := rfl
@[simp] theorem State.setRc_crLast (s : State) (c : Nat) (x : Rc) : (s.setRc c x).crLast = s.crLast := rfl
@[simp] theorem State.setRc_wdStart (s : State) (c : Nat) (x : Rc) : (s.setRc c x).wdStart = s.wdStart := rfl
@[simp] theorem State.setRc_wdOut (s : State) (c : Nat) (x : Rc) : (s.setRc c x).wdOut = s.wdOut := rfl
@[simp] theorem State.setRc_wdStage (s : State) (c : Nat) (x : Rc) : (s.setRc c x).wdStage = s.wdStage := rfl
@[simp] theorem State.setRc_restart (s : State) (c : Nat) (x : Rc) : (s.setRc c x).restart = s.restart := rfl
@[simp] theorem State.setRc_safeTest (s : State) (c : Nat) (x : Rc) : (s.setRc c x).safeTest = s.safeTest := rfl
@[simp] theorem State.setRc_now (s : State) (c : Nat) (x : Rc) : (s.setRc c x).now = s.now := rfl
@[simp] theorem State.setRc_regs (s : State) (c : Nat) (x : Rc) : (s.setRc c x).regs = s.regs := rfl
@[simp] theorem State.setRc_mem (s : State) (c : Nat) (x : Rc) : (s.setRc c x).mem = s.mem := rfl
@[simp] theorem State.setRc_cores (s : State) (c : Nat) (x : Rc) : (s.setRc c x).cores = s.cores := rfl
@[simp] theorem State.setRc_mode (s : State) (c : Nat) (x : Rc) : (s.setRc c x).mode = s.mode := rfl
@[simp] theorem State.setRc_clocks (s : State) (c : Nat) (x : Rc) : (s.setRc c x).clocks = s.clocks := rfl
@[simp] theorem State.setRc_logQ (s : State) (c : Nat) (x : Rc) : (s.setRc c x).logQ = s.logQ := rfl
@[simp] theorem State.setRc_rcs (s : State) (c : Nat) (x : Rc) : (s.setRc c x).rcs = s.rcs.put c x := rfl

/-! ### setUart -/

@[simp] theorem State.setUart_pending (s : State) (u : Nat) (x : Uart) : (s.setUart u x).pending = s.pending := rfl
@[simp] theorem State.setUart_variant (s : State) (u : Nat) (x : Uart) : (s.setUart u x).variant = s.variant := rfl
@[simp] theorem State.setUart_freeCtr (s : State) (u : Nat) (x : Uart) : (s.setUart u x).freeCtr = s.freeCtr := rfl
@[simp] theorem State.setUart_rdata (s : State) (u : Nat) (x : Uart) : (s.setUart u x).rdata = s.rdata := rfl
@[simp] theorem State.setUart_inForce (s : State) (u : Nat) (x : Uart) : (s.setUart u x).inForce = s.inForce := rfl
@[simp] theorem State.setUart_was (s : State) (u : Nat) (x : Uart) : (s.setUart u x).was = s.was := rfl
@[simp] theorem State.setUart_ecc (s : State) (u : Nat) (x : Uart) : (s.setUart u x).ecc = s.ecc := rfl
@[simp] theorem State.setUart_mrq (s : State) (u : Nat) (x : Uart) : (s.setUart u x).mrq = s.mrq := rfl
@[simp] theorem State.setUart_mrRun (s : State) (u : Nat) (x : Uart) : (s.setUart u x).mrRun = s.mrRun := rfl
@[simp] theorem State.setUart_openLines (s : State) (u : Nat) (x : Uart) : (s.setUart u x).openLines = s.openLines := rfl
@[simp] theorem State.setUart_scrub (s : State) (u : Nat) (x : Uart) : (s.setUart u x).scrub = s.scrub := rfl
@[simp] theorem State.setUart_scrubDue (s : State) (u : Nat) (x : Uart) : (s.setUart u x).scrubDue = s.scrubDue := rfl
@[simp] theorem State.setUart_dip (s : State) (u : Nat) (x : Uart) : (s.setUart u x).dip = s.dip := rfl
@[simp] theorem State.setUart_trans (s : State) (u : Nat) (x : Uart) : (s.setUart u x).trans = s.trans := rfl
@[simp] theorem State.setUart_dawn (s : State) (u : Nat) (x : Uart) : (s.setUart u x).dawn = s.dawn := rfl
@[simp] theorem State.setUart_stepK (s : State) (u : Nat) (x : Uart) : (s.setUart u x).stepK = s.stepK := rfl
@[simp] theorem State.setUart_supply (s : State) (u : Nat) (x : Uart) : (s.setUart u x).supply = s.supply := rfl
@[simp] theorem State.setUart_resetN (s : State) (u : Nat) (x : Uart) : (s.setUart u x).resetN = s.resetN := rfl
@[simp] theorem State.setUart_refOk (s : State) (u : Nat) (x : Uart) : (s.setUart u x).refOk = s.refOk := rfl
@[simp] theorem State.setUart_pllOk (s : State) (u : Nat) (x : Uart) : (s.setUart u x).pllOk = s.pllOk := rfl
@[simp] theorem State.setUart_dawnEnd (s : State) (u : Nat) (x : Uart) : (s.setUart u x).dawnEnd = s.dawnEnd := rfl
@[simp] theorem State.setUart_estopN (s : State) (u : Nat) (x : Uart) : (s.setUart u x).estopN = s.estopN := rfl
@[simp] theorem State.setUart_estopAt (s : State) (u : Nat) (x : Uart) : (s.setUart u x).estopAt = s.estopAt := rfl
@[simp] theorem State.setUart_svcLow (s : State) (u : Nat) (x : Uart) : (s.setUart u x).svcLow = s.svcLow := rfl
@[simp] theorem State.setUart_chans (s : State) (u : Nat) (x : Uart) : (s.setUart u x).chans = s.chans := rfl
@[simp] theorem State.setUart_mains (s : State) (u : Nat) (x : Uart) : (s.setUart u x).mains = s.mains := rfl
@[simp] theorem State.setUart_tbs (s : State) (u : Nat) (x : Uart) : (s.setUart u x).tbs = s.tbs := rfl
@[simp] theorem State.setUart_wall (s : State) (u : Nat) (x : Uart) : (s.setUart u x).wall = s.wall := rfl
@[simp] theorem State.setUart_caps (s : State) (u : Nat) (x : Uart) : (s.setUart u x).caps = s.caps := rfl
@[simp] theorem State.setUart_capSeq (s : State) (u : Nat) (x : Uart) : (s.setUart u x).capSeq = s.capSeq := rfl
@[simp] theorem State.setUart_handed (s : State) (u : Nat) (x : Uart) : (s.setUart u x).handed = s.handed := rfl
@[simp] theorem State.setUart_capAt (s : State) (u : Nat) (x : Uart) : (s.setUart u x).capAt = s.capAt := rfl
@[simp] theorem State.setUart_slots (s : State) (u : Nat) (x : Uart) : (s.setUart u x).slots = s.slots := rfl
@[simp] theorem State.setUart_memq (s : State) (u : Nat) (x : Uart) : (s.setUart u x).memq = s.memq := rfl
@[simp] theorem State.setUart_acts (s : State) (u : Nat) (x : Uart) : (s.setUart u x).acts = s.acts := rfl
@[simp] theorem State.setUart_ttPeak (s : State) (u : Nat) (x : Uart) : (s.setUart u x).ttPeak = s.ttPeak := rfl
@[simp] theorem State.setUart_queues (s : State) (u : Nat) (x : Uart) : (s.setUart u x).queues = s.queues := rfl
@[simp] theorem State.setUart_reports (s : State) (u : Nat) (x : Uart) : (s.setUart u x).reports = s.reports := rfl
@[simp] theorem State.setUart_repFirst (s : State) (u : Nat) (x : Uart) : (s.setUart u x).repFirst = s.repFirst := rfl
@[simp] theorem State.setUart_lines (s : State) (u : Nat) (x : Uart) : (s.setUart u x).lines = s.lines := rfl
@[simp] theorem State.setUart_gens (s : State) (u : Nat) (x : Uart) : (s.setUart u x).gens = s.gens := rfl
@[simp] theorem State.setUart_pwms (s : State) (u : Nat) (x : Uart) : (s.setUart u x).pwms = s.pwms := rfl
@[simp] theorem State.setUart_sds (s : State) (u : Nat) (x : Uart) : (s.setUart u x).sds = s.sds := rfl
@[simp] theorem State.setUart_pins (s : State) (u : Nat) (x : Uart) : (s.setUart u x).pins = s.pins := rfl
@[simp] theorem State.setUart_bankOk (s : State) (u : Nat) (x : Uart) : (s.setUart u x).bankOk = s.bankOk := rfl
@[simp] theorem State.setUart_loaded (s : State) (u : Nat) (x : Uart) : (s.setUart u x).loaded = s.loaded := rfl
@[simp] theorem State.setUart_rcs (s : State) (u : Nat) (x : Uart) : (s.setUart u x).rcs = s.rcs := rfl
@[simp] theorem State.setUart_att (s : State) (u : Nat) (x : Uart) : (s.setUart u x).att = s.att := rfl
@[simp] theorem State.setUart_macs (s : State) (u : Nat) (x : Uart) : (s.setUart u x).macs = s.macs := rfl
@[simp] theorem State.setUart_bells (s : State) (u : Nat) (x : Uart) : (s.setUart u x).bells = s.bells := rfl
@[simp] theorem State.setUart_enq (s : State) (u : Nat) (x : Uart) : (s.setUart u x).enq = s.enq := rfl
@[simp] theorem State.setUart_en (s : State) (u : Nat) (x : Uart) : (s.setUart u x).en = s.en := rfl
@[simp] theorem State.setUart_fcMap (s : State) (u : Nat) (x : Uart) : (s.setUart u x).fcMap = s.fcMap := rfl
@[simp] theorem State.setUart_fcOut (s : State) (u : Nat) (x : Uart) : (s.setUart u x).fcOut = s.fcOut := rfl
@[simp] theorem State.setUart_staff (s : State) (u : Nat) (x : Uart) : (s.setUart u x).staff = s.staff := rfl
@[simp] theorem State.setUart_owners (s : State) (u : Nat) (x : Uart) : (s.setUart u x).owners = s.owners := rfl
@[simp] theorem State.setUart_page (s : State) (u : Nat) (x : Uart) : (s.setUart u x).page = s.page := rfl
@[simp] theorem State.setUart_snapK (s : State) (u : Nat) (x : Uart) : (s.setUart u x).snapK = s.snapK := rfl
@[simp] theorem State.setUart_hall (s : State) (u : Nat) (x : Uart) : (s.setUart u x).hall = s.hall := rfl
@[simp] theorem State.setUart_keys (s : State) (u : Nat) (x : Uart) : (s.setUart u x).keys = s.keys := rfl
@[simp] theorem State.setUart_otp (s : State) (u : Nat) (x : Uart) : (s.setUart u x).otp = s.otp := rfl
@[simp] theorem State.setUart_certBuf (s : State) (u : Nat) (x : Uart) : (s.setUart u x).certBuf = s.certBuf := rfl
@[simp] theorem State.setUart_attRec (s : State) (u : Nat) (x : Uart) : (s.setUart u x).attRec = s.attRec := rfl
@[simp] theorem State.setUart_signing (s : State) (u : Nat) (x : Uart) : (s.setUart u x).signing = s.signing := rfl
@[simp] theorem State.setUart_noise (s : State) (u : Nat) (x : Uart) : (s.setUart u x).noise = s.noise := rfl
@[simp] theorem State.setUart_drbgs (s : State) (u : Nat) (x : Uart) : (s.setUart u x).drbgs = s.drbgs := rfl
@[simp] theorem State.setUart_drbgLast (s : State) (u : Nat) (x : Uart) : (s.setUart u x).drbgLast = s.drbgLast := rfl
@[simp] theorem State.setUart_crypto (s : State) (u : Nat) (x : Uart) : (s.setUart u x).crypto = s.crypto := rfl
@[simp] theorem State.setUart_crLast (s : State) (u : Nat) (x : Uart) : (s.setUart u x).crLast = s.crLast := rfl
@[simp] theorem State.setUart_wdStart (s : State) (u : Nat) (x : Uart) : (s.setUart u x).wdStart = s.wdStart := rfl
@[simp] theorem State.setUart_wdOut (s : State) (u : Nat) (x : Uart) : (s.setUart u x).wdOut = s.wdOut := rfl
@[simp] theorem State.setUart_wdStage (s : State) (u : Nat) (x : Uart) : (s.setUart u x).wdStage = s.wdStage := rfl
@[simp] theorem State.setUart_restart (s : State) (u : Nat) (x : Uart) : (s.setUart u x).restart = s.restart := rfl
@[simp] theorem State.setUart_safeTest (s : State) (u : Nat) (x : Uart) : (s.setUart u x).safeTest = s.safeTest := rfl
@[simp] theorem State.setUart_now (s : State) (u : Nat) (x : Uart) : (s.setUart u x).now = s.now := rfl
@[simp] theorem State.setUart_regs (s : State) (u : Nat) (x : Uart) : (s.setUart u x).regs = s.regs := rfl
@[simp] theorem State.setUart_mem (s : State) (u : Nat) (x : Uart) : (s.setUart u x).mem = s.mem := rfl
@[simp] theorem State.setUart_cores (s : State) (u : Nat) (x : Uart) : (s.setUart u x).cores = s.cores := rfl
@[simp] theorem State.setUart_mode (s : State) (u : Nat) (x : Uart) : (s.setUart u x).mode = s.mode := rfl
@[simp] theorem State.setUart_clocks (s : State) (u : Nat) (x : Uart) : (s.setUart u x).clocks = s.clocks := rfl
@[simp] theorem State.setUart_logQ (s : State) (u : Nat) (x : Uart) : (s.setUart u x).logQ = s.logQ := rfl
@[simp] theorem State.setUart_uarts (s : State) (u : Nat) (x : Uart) : (s.setUart u x).uarts = s.uarts.put u x := rfl

/-! ### setMac -/

@[simp] theorem State.setMac_pending (s : State) (m : Nat) (x : Mac) : (s.setMac m x).pending = s.pending := rfl
@[simp] theorem State.setMac_variant (s : State) (m : Nat) (x : Mac) : (s.setMac m x).variant = s.variant := rfl
@[simp] theorem State.setMac_freeCtr (s : State) (m : Nat) (x : Mac) : (s.setMac m x).freeCtr = s.freeCtr := rfl
@[simp] theorem State.setMac_rdata (s : State) (m : Nat) (x : Mac) : (s.setMac m x).rdata = s.rdata := rfl
@[simp] theorem State.setMac_inForce (s : State) (m : Nat) (x : Mac) : (s.setMac m x).inForce = s.inForce := rfl
@[simp] theorem State.setMac_was (s : State) (m : Nat) (x : Mac) : (s.setMac m x).was = s.was := rfl
@[simp] theorem State.setMac_ecc (s : State) (m : Nat) (x : Mac) : (s.setMac m x).ecc = s.ecc := rfl
@[simp] theorem State.setMac_mrq (s : State) (m : Nat) (x : Mac) : (s.setMac m x).mrq = s.mrq := rfl
@[simp] theorem State.setMac_mrRun (s : State) (m : Nat) (x : Mac) : (s.setMac m x).mrRun = s.mrRun := rfl
@[simp] theorem State.setMac_openLines (s : State) (m : Nat) (x : Mac) : (s.setMac m x).openLines = s.openLines := rfl
@[simp] theorem State.setMac_scrub (s : State) (m : Nat) (x : Mac) : (s.setMac m x).scrub = s.scrub := rfl
@[simp] theorem State.setMac_scrubDue (s : State) (m : Nat) (x : Mac) : (s.setMac m x).scrubDue = s.scrubDue := rfl
@[simp] theorem State.setMac_dip (s : State) (m : Nat) (x : Mac) : (s.setMac m x).dip = s.dip := rfl
@[simp] theorem State.setMac_trans (s : State) (m : Nat) (x : Mac) : (s.setMac m x).trans = s.trans := rfl
@[simp] theorem State.setMac_dawn (s : State) (m : Nat) (x : Mac) : (s.setMac m x).dawn = s.dawn := rfl
@[simp] theorem State.setMac_stepK (s : State) (m : Nat) (x : Mac) : (s.setMac m x).stepK = s.stepK := rfl
@[simp] theorem State.setMac_supply (s : State) (m : Nat) (x : Mac) : (s.setMac m x).supply = s.supply := rfl
@[simp] theorem State.setMac_resetN (s : State) (m : Nat) (x : Mac) : (s.setMac m x).resetN = s.resetN := rfl
@[simp] theorem State.setMac_refOk (s : State) (m : Nat) (x : Mac) : (s.setMac m x).refOk = s.refOk := rfl
@[simp] theorem State.setMac_pllOk (s : State) (m : Nat) (x : Mac) : (s.setMac m x).pllOk = s.pllOk := rfl
@[simp] theorem State.setMac_dawnEnd (s : State) (m : Nat) (x : Mac) : (s.setMac m x).dawnEnd = s.dawnEnd := rfl
@[simp] theorem State.setMac_estopN (s : State) (m : Nat) (x : Mac) : (s.setMac m x).estopN = s.estopN := rfl
@[simp] theorem State.setMac_estopAt (s : State) (m : Nat) (x : Mac) : (s.setMac m x).estopAt = s.estopAt := rfl
@[simp] theorem State.setMac_svcLow (s : State) (m : Nat) (x : Mac) : (s.setMac m x).svcLow = s.svcLow := rfl
@[simp] theorem State.setMac_chans (s : State) (m : Nat) (x : Mac) : (s.setMac m x).chans = s.chans := rfl
@[simp] theorem State.setMac_mains (s : State) (m : Nat) (x : Mac) : (s.setMac m x).mains = s.mains := rfl
@[simp] theorem State.setMac_tbs (s : State) (m : Nat) (x : Mac) : (s.setMac m x).tbs = s.tbs := rfl
@[simp] theorem State.setMac_wall (s : State) (m : Nat) (x : Mac) : (s.setMac m x).wall = s.wall := rfl
@[simp] theorem State.setMac_caps (s : State) (m : Nat) (x : Mac) : (s.setMac m x).caps = s.caps := rfl
@[simp] theorem State.setMac_capSeq (s : State) (m : Nat) (x : Mac) : (s.setMac m x).capSeq = s.capSeq := rfl
@[simp] theorem State.setMac_handed (s : State) (m : Nat) (x : Mac) : (s.setMac m x).handed = s.handed := rfl
@[simp] theorem State.setMac_capAt (s : State) (m : Nat) (x : Mac) : (s.setMac m x).capAt = s.capAt := rfl
@[simp] theorem State.setMac_slots (s : State) (m : Nat) (x : Mac) : (s.setMac m x).slots = s.slots := rfl
@[simp] theorem State.setMac_memq (s : State) (m : Nat) (x : Mac) : (s.setMac m x).memq = s.memq := rfl
@[simp] theorem State.setMac_acts (s : State) (m : Nat) (x : Mac) : (s.setMac m x).acts = s.acts := rfl
@[simp] theorem State.setMac_ttPeak (s : State) (m : Nat) (x : Mac) : (s.setMac m x).ttPeak = s.ttPeak := rfl
@[simp] theorem State.setMac_queues (s : State) (m : Nat) (x : Mac) : (s.setMac m x).queues = s.queues := rfl
@[simp] theorem State.setMac_reports (s : State) (m : Nat) (x : Mac) : (s.setMac m x).reports = s.reports := rfl
@[simp] theorem State.setMac_repFirst (s : State) (m : Nat) (x : Mac) : (s.setMac m x).repFirst = s.repFirst := rfl
@[simp] theorem State.setMac_lines (s : State) (m : Nat) (x : Mac) : (s.setMac m x).lines = s.lines := rfl
@[simp] theorem State.setMac_gens (s : State) (m : Nat) (x : Mac) : (s.setMac m x).gens = s.gens := rfl
@[simp] theorem State.setMac_pwms (s : State) (m : Nat) (x : Mac) : (s.setMac m x).pwms = s.pwms := rfl
@[simp] theorem State.setMac_sds (s : State) (m : Nat) (x : Mac) : (s.setMac m x).sds = s.sds := rfl
@[simp] theorem State.setMac_pins (s : State) (m : Nat) (x : Mac) : (s.setMac m x).pins = s.pins := rfl
@[simp] theorem State.setMac_bankOk (s : State) (m : Nat) (x : Mac) : (s.setMac m x).bankOk = s.bankOk := rfl
@[simp] theorem State.setMac_loaded (s : State) (m : Nat) (x : Mac) : (s.setMac m x).loaded = s.loaded := rfl
@[simp] theorem State.setMac_rcs (s : State) (m : Nat) (x : Mac) : (s.setMac m x).rcs = s.rcs := rfl
@[simp] theorem State.setMac_uarts (s : State) (m : Nat) (x : Mac) : (s.setMac m x).uarts = s.uarts := rfl
@[simp] theorem State.setMac_att (s : State) (m : Nat) (x : Mac) : (s.setMac m x).att = s.att := rfl
@[simp] theorem State.setMac_bells (s : State) (m : Nat) (x : Mac) : (s.setMac m x).bells = s.bells := rfl
@[simp] theorem State.setMac_enq (s : State) (m : Nat) (x : Mac) : (s.setMac m x).enq = s.enq := rfl
@[simp] theorem State.setMac_en (s : State) (m : Nat) (x : Mac) : (s.setMac m x).en = s.en := rfl
@[simp] theorem State.setMac_fcMap (s : State) (m : Nat) (x : Mac) : (s.setMac m x).fcMap = s.fcMap := rfl
@[simp] theorem State.setMac_fcOut (s : State) (m : Nat) (x : Mac) : (s.setMac m x).fcOut = s.fcOut := rfl
@[simp] theorem State.setMac_staff (s : State) (m : Nat) (x : Mac) : (s.setMac m x).staff = s.staff := rfl
@[simp] theorem State.setMac_owners (s : State) (m : Nat) (x : Mac) : (s.setMac m x).owners = s.owners := rfl
@[simp] theorem State.setMac_page (s : State) (m : Nat) (x : Mac) : (s.setMac m x).page = s.page := rfl
@[simp] theorem State.setMac_snapK (s : State) (m : Nat) (x : Mac) : (s.setMac m x).snapK = s.snapK := rfl
@[simp] theorem State.setMac_hall (s : State) (m : Nat) (x : Mac) : (s.setMac m x).hall = s.hall := rfl
@[simp] theorem State.setMac_keys (s : State) (m : Nat) (x : Mac) : (s.setMac m x).keys = s.keys := rfl
@[simp] theorem State.setMac_otp (s : State) (m : Nat) (x : Mac) : (s.setMac m x).otp = s.otp := rfl
@[simp] theorem State.setMac_certBuf (s : State) (m : Nat) (x : Mac) : (s.setMac m x).certBuf = s.certBuf := rfl
@[simp] theorem State.setMac_attRec (s : State) (m : Nat) (x : Mac) : (s.setMac m x).attRec = s.attRec := rfl
@[simp] theorem State.setMac_signing (s : State) (m : Nat) (x : Mac) : (s.setMac m x).signing = s.signing := rfl
@[simp] theorem State.setMac_noise (s : State) (m : Nat) (x : Mac) : (s.setMac m x).noise = s.noise := rfl
@[simp] theorem State.setMac_drbgs (s : State) (m : Nat) (x : Mac) : (s.setMac m x).drbgs = s.drbgs := rfl
@[simp] theorem State.setMac_drbgLast (s : State) (m : Nat) (x : Mac) : (s.setMac m x).drbgLast = s.drbgLast := rfl
@[simp] theorem State.setMac_crypto (s : State) (m : Nat) (x : Mac) : (s.setMac m x).crypto = s.crypto := rfl
@[simp] theorem State.setMac_crLast (s : State) (m : Nat) (x : Mac) : (s.setMac m x).crLast = s.crLast := rfl
@[simp] theorem State.setMac_wdStart (s : State) (m : Nat) (x : Mac) : (s.setMac m x).wdStart = s.wdStart := rfl
@[simp] theorem State.setMac_wdOut (s : State) (m : Nat) (x : Mac) : (s.setMac m x).wdOut = s.wdOut := rfl
@[simp] theorem State.setMac_wdStage (s : State) (m : Nat) (x : Mac) : (s.setMac m x).wdStage = s.wdStage := rfl
@[simp] theorem State.setMac_restart (s : State) (m : Nat) (x : Mac) : (s.setMac m x).restart = s.restart := rfl
@[simp] theorem State.setMac_safeTest (s : State) (m : Nat) (x : Mac) : (s.setMac m x).safeTest = s.safeTest := rfl
@[simp] theorem State.setMac_now (s : State) (m : Nat) (x : Mac) : (s.setMac m x).now = s.now := rfl
@[simp] theorem State.setMac_regs (s : State) (m : Nat) (x : Mac) : (s.setMac m x).regs = s.regs := rfl
@[simp] theorem State.setMac_mem (s : State) (m : Nat) (x : Mac) : (s.setMac m x).mem = s.mem := rfl
@[simp] theorem State.setMac_cores (s : State) (m : Nat) (x : Mac) : (s.setMac m x).cores = s.cores := rfl
@[simp] theorem State.setMac_mode (s : State) (m : Nat) (x : Mac) : (s.setMac m x).mode = s.mode := rfl
@[simp] theorem State.setMac_clocks (s : State) (m : Nat) (x : Mac) : (s.setMac m x).clocks = s.clocks := rfl
@[simp] theorem State.setMac_logQ (s : State) (m : Nat) (x : Mac) : (s.setMac m x).logQ = s.logQ := rfl
@[simp] theorem State.setMac_macs (s : State) (m : Nat) (x : Mac) : (s.setMac m x).macs = s.macs.put m x := rfl

/-! ### setFcEntry -/

@[simp] theorem State.setFcEntry_pending (s : State) (e : Nat) (x : FcEntry) : (s.setFcEntry e x).pending = s.pending := rfl
@[simp] theorem State.setFcEntry_variant (s : State) (e : Nat) (x : FcEntry) : (s.setFcEntry e x).variant = s.variant := rfl
@[simp] theorem State.setFcEntry_freeCtr (s : State) (e : Nat) (x : FcEntry) : (s.setFcEntry e x).freeCtr = s.freeCtr := rfl
@[simp] theorem State.setFcEntry_rdata (s : State) (e : Nat) (x : FcEntry) : (s.setFcEntry e x).rdata = s.rdata := rfl
@[simp] theorem State.setFcEntry_inForce (s : State) (e : Nat) (x : FcEntry) : (s.setFcEntry e x).inForce = s.inForce := rfl
@[simp] theorem State.setFcEntry_was (s : State) (e : Nat) (x : FcEntry) : (s.setFcEntry e x).was = s.was := rfl
@[simp] theorem State.setFcEntry_ecc (s : State) (e : Nat) (x : FcEntry) : (s.setFcEntry e x).ecc = s.ecc := rfl
@[simp] theorem State.setFcEntry_mrq (s : State) (e : Nat) (x : FcEntry) : (s.setFcEntry e x).mrq = s.mrq := rfl
@[simp] theorem State.setFcEntry_mrRun (s : State) (e : Nat) (x : FcEntry) : (s.setFcEntry e x).mrRun = s.mrRun := rfl
@[simp] theorem State.setFcEntry_openLines (s : State) (e : Nat) (x : FcEntry) : (s.setFcEntry e x).openLines = s.openLines := rfl
@[simp] theorem State.setFcEntry_scrub (s : State) (e : Nat) (x : FcEntry) : (s.setFcEntry e x).scrub = s.scrub := rfl
@[simp] theorem State.setFcEntry_scrubDue (s : State) (e : Nat) (x : FcEntry) : (s.setFcEntry e x).scrubDue = s.scrubDue := rfl
@[simp] theorem State.setFcEntry_dip (s : State) (e : Nat) (x : FcEntry) : (s.setFcEntry e x).dip = s.dip := rfl
@[simp] theorem State.setFcEntry_trans (s : State) (e : Nat) (x : FcEntry) : (s.setFcEntry e x).trans = s.trans := rfl
@[simp] theorem State.setFcEntry_dawn (s : State) (e : Nat) (x : FcEntry) : (s.setFcEntry e x).dawn = s.dawn := rfl
@[simp] theorem State.setFcEntry_stepK (s : State) (e : Nat) (x : FcEntry) : (s.setFcEntry e x).stepK = s.stepK := rfl
@[simp] theorem State.setFcEntry_supply (s : State) (e : Nat) (x : FcEntry) : (s.setFcEntry e x).supply = s.supply := rfl
@[simp] theorem State.setFcEntry_resetN (s : State) (e : Nat) (x : FcEntry) : (s.setFcEntry e x).resetN = s.resetN := rfl
@[simp] theorem State.setFcEntry_refOk (s : State) (e : Nat) (x : FcEntry) : (s.setFcEntry e x).refOk = s.refOk := rfl
@[simp] theorem State.setFcEntry_pllOk (s : State) (e : Nat) (x : FcEntry) : (s.setFcEntry e x).pllOk = s.pllOk := rfl
@[simp] theorem State.setFcEntry_dawnEnd (s : State) (e : Nat) (x : FcEntry) : (s.setFcEntry e x).dawnEnd = s.dawnEnd := rfl
@[simp] theorem State.setFcEntry_estopN (s : State) (e : Nat) (x : FcEntry) : (s.setFcEntry e x).estopN = s.estopN := rfl
@[simp] theorem State.setFcEntry_estopAt (s : State) (e : Nat) (x : FcEntry) : (s.setFcEntry e x).estopAt = s.estopAt := rfl
@[simp] theorem State.setFcEntry_svcLow (s : State) (e : Nat) (x : FcEntry) : (s.setFcEntry e x).svcLow = s.svcLow := rfl
@[simp] theorem State.setFcEntry_chans (s : State) (e : Nat) (x : FcEntry) : (s.setFcEntry e x).chans = s.chans := rfl
@[simp] theorem State.setFcEntry_mains (s : State) (e : Nat) (x : FcEntry) : (s.setFcEntry e x).mains = s.mains := rfl
@[simp] theorem State.setFcEntry_tbs (s : State) (e : Nat) (x : FcEntry) : (s.setFcEntry e x).tbs = s.tbs := rfl
@[simp] theorem State.setFcEntry_wall (s : State) (e : Nat) (x : FcEntry) : (s.setFcEntry e x).wall = s.wall := rfl
@[simp] theorem State.setFcEntry_caps (s : State) (e : Nat) (x : FcEntry) : (s.setFcEntry e x).caps = s.caps := rfl
@[simp] theorem State.setFcEntry_capSeq (s : State) (e : Nat) (x : FcEntry) : (s.setFcEntry e x).capSeq = s.capSeq := rfl
@[simp] theorem State.setFcEntry_handed (s : State) (e : Nat) (x : FcEntry) : (s.setFcEntry e x).handed = s.handed := rfl
@[simp] theorem State.setFcEntry_capAt (s : State) (e : Nat) (x : FcEntry) : (s.setFcEntry e x).capAt = s.capAt := rfl
@[simp] theorem State.setFcEntry_slots (s : State) (e : Nat) (x : FcEntry) : (s.setFcEntry e x).slots = s.slots := rfl
@[simp] theorem State.setFcEntry_memq (s : State) (e : Nat) (x : FcEntry) : (s.setFcEntry e x).memq = s.memq := rfl
@[simp] theorem State.setFcEntry_acts (s : State) (e : Nat) (x : FcEntry) : (s.setFcEntry e x).acts = s.acts := rfl
@[simp] theorem State.setFcEntry_ttPeak (s : State) (e : Nat) (x : FcEntry) : (s.setFcEntry e x).ttPeak = s.ttPeak := rfl
@[simp] theorem State.setFcEntry_queues (s : State) (e : Nat) (x : FcEntry) : (s.setFcEntry e x).queues = s.queues := rfl
@[simp] theorem State.setFcEntry_reports (s : State) (e : Nat) (x : FcEntry) : (s.setFcEntry e x).reports = s.reports := rfl
@[simp] theorem State.setFcEntry_repFirst (s : State) (e : Nat) (x : FcEntry) : (s.setFcEntry e x).repFirst = s.repFirst := rfl
@[simp] theorem State.setFcEntry_lines (s : State) (e : Nat) (x : FcEntry) : (s.setFcEntry e x).lines = s.lines := rfl
@[simp] theorem State.setFcEntry_gens (s : State) (e : Nat) (x : FcEntry) : (s.setFcEntry e x).gens = s.gens := rfl
@[simp] theorem State.setFcEntry_pwms (s : State) (e : Nat) (x : FcEntry) : (s.setFcEntry e x).pwms = s.pwms := rfl
@[simp] theorem State.setFcEntry_sds (s : State) (e : Nat) (x : FcEntry) : (s.setFcEntry e x).sds = s.sds := rfl
@[simp] theorem State.setFcEntry_pins (s : State) (e : Nat) (x : FcEntry) : (s.setFcEntry e x).pins = s.pins := rfl
@[simp] theorem State.setFcEntry_bankOk (s : State) (e : Nat) (x : FcEntry) : (s.setFcEntry e x).bankOk = s.bankOk := rfl
@[simp] theorem State.setFcEntry_loaded (s : State) (e : Nat) (x : FcEntry) : (s.setFcEntry e x).loaded = s.loaded := rfl
@[simp] theorem State.setFcEntry_rcs (s : State) (e : Nat) (x : FcEntry) : (s.setFcEntry e x).rcs = s.rcs := rfl
@[simp] theorem State.setFcEntry_uarts (s : State) (e : Nat) (x : FcEntry) : (s.setFcEntry e x).uarts = s.uarts := rfl
@[simp] theorem State.setFcEntry_att (s : State) (e : Nat) (x : FcEntry) : (s.setFcEntry e x).att = s.att := rfl
@[simp] theorem State.setFcEntry_macs (s : State) (e : Nat) (x : FcEntry) : (s.setFcEntry e x).macs = s.macs := rfl
@[simp] theorem State.setFcEntry_bells (s : State) (e : Nat) (x : FcEntry) : (s.setFcEntry e x).bells = s.bells := rfl
@[simp] theorem State.setFcEntry_enq (s : State) (e : Nat) (x : FcEntry) : (s.setFcEntry e x).enq = s.enq := rfl
@[simp] theorem State.setFcEntry_en (s : State) (e : Nat) (x : FcEntry) : (s.setFcEntry e x).en = s.en := rfl
@[simp] theorem State.setFcEntry_fcOut (s : State) (e : Nat) (x : FcEntry) : (s.setFcEntry e x).fcOut = s.fcOut := rfl
@[simp] theorem State.setFcEntry_staff (s : State) (e : Nat) (x : FcEntry) : (s.setFcEntry e x).staff = s.staff := rfl
@[simp] theorem State.setFcEntry_owners (s : State) (e : Nat) (x : FcEntry) : (s.setFcEntry e x).owners = s.owners := rfl
@[simp] theorem State.setFcEntry_page (s : State) (e : Nat) (x : FcEntry) : (s.setFcEntry e x).page = s.page := rfl
@[simp] theorem State.setFcEntry_snapK (s : State) (e : Nat) (x : FcEntry) : (s.setFcEntry e x).snapK = s.snapK := rfl
@[simp] theorem State.setFcEntry_hall (s : State) (e : Nat) (x : FcEntry) : (s.setFcEntry e x).hall = s.hall := rfl
@[simp] theorem State.setFcEntry_keys (s : State) (e : Nat) (x : FcEntry) : (s.setFcEntry e x).keys = s.keys := rfl
@[simp] theorem State.setFcEntry_otp (s : State) (e : Nat) (x : FcEntry) : (s.setFcEntry e x).otp = s.otp := rfl
@[simp] theorem State.setFcEntry_certBuf (s : State) (e : Nat) (x : FcEntry) : (s.setFcEntry e x).certBuf = s.certBuf := rfl
@[simp] theorem State.setFcEntry_attRec (s : State) (e : Nat) (x : FcEntry) : (s.setFcEntry e x).attRec = s.attRec := rfl
@[simp] theorem State.setFcEntry_signing (s : State) (e : Nat) (x : FcEntry) : (s.setFcEntry e x).signing = s.signing := rfl
@[simp] theorem State.setFcEntry_noise (s : State) (e : Nat) (x : FcEntry) : (s.setFcEntry e x).noise = s.noise := rfl
@[simp] theorem State.setFcEntry_drbgs (s : State) (e : Nat) (x : FcEntry) : (s.setFcEntry e x).drbgs = s.drbgs := rfl
@[simp] theorem State.setFcEntry_drbgLast (s : State) (e : Nat) (x : FcEntry) : (s.setFcEntry e x).drbgLast = s.drbgLast := rfl
@[simp] theorem State.setFcEntry_crypto (s : State) (e : Nat) (x : FcEntry) : (s.setFcEntry e x).crypto = s.crypto := rfl
@[simp] theorem State.setFcEntry_crLast (s : State) (e : Nat) (x : FcEntry) : (s.setFcEntry e x).crLast = s.crLast := rfl
@[simp] theorem State.setFcEntry_wdStart (s : State) (e : Nat) (x : FcEntry) : (s.setFcEntry e x).wdStart = s.wdStart := rfl
@[simp] theorem State.setFcEntry_wdOut (s : State) (e : Nat) (x : FcEntry) : (s.setFcEntry e x).wdOut = s.wdOut := rfl
@[simp] theorem State.setFcEntry_wdStage (s : State) (e : Nat) (x : FcEntry) : (s.setFcEntry e x).wdStage = s.wdStage := rfl
@[simp] theorem State.setFcEntry_restart (s : State) (e : Nat) (x : FcEntry) : (s.setFcEntry e x).restart = s.restart := rfl
@[simp] theorem State.setFcEntry_safeTest (s : State) (e : Nat) (x : FcEntry) : (s.setFcEntry e x).safeTest = s.safeTest := rfl
@[simp] theorem State.setFcEntry_now (s : State) (e : Nat) (x : FcEntry) : (s.setFcEntry e x).now = s.now := rfl
@[simp] theorem State.setFcEntry_regs (s : State) (e : Nat) (x : FcEntry) : (s.setFcEntry e x).regs = s.regs := rfl
@[simp] theorem State.setFcEntry_mem (s : State) (e : Nat) (x : FcEntry) : (s.setFcEntry e x).mem = s.mem := rfl
@[simp] theorem State.setFcEntry_cores (s : State) (e : Nat) (x : FcEntry) : (s.setFcEntry e x).cores = s.cores := rfl
@[simp] theorem State.setFcEntry_mode (s : State) (e : Nat) (x : FcEntry) : (s.setFcEntry e x).mode = s.mode := rfl
@[simp] theorem State.setFcEntry_clocks (s : State) (e : Nat) (x : FcEntry) : (s.setFcEntry e x).clocks = s.clocks := rfl
@[simp] theorem State.setFcEntry_logQ (s : State) (e : Nat) (x : FcEntry) : (s.setFcEntry e x).logQ = s.logQ := rfl
@[simp] theorem State.setFcEntry_fcMap (s : State) (e : Nat) (x : FcEntry) : (s.setFcEntry e x).fcMap = s.fcMap.put e x := rfl

/-! ### setCrypt -/

@[simp] theorem State.setCrypt_pending (s : State) (k : Nat) (x : Crypto) : (s.setCrypt k x).pending = s.pending := rfl
@[simp] theorem State.setCrypt_variant (s : State) (k : Nat) (x : Crypto) : (s.setCrypt k x).variant = s.variant := rfl
@[simp] theorem State.setCrypt_freeCtr (s : State) (k : Nat) (x : Crypto) : (s.setCrypt k x).freeCtr = s.freeCtr := rfl
@[simp] theorem State.setCrypt_rdata (s : State) (k : Nat) (x : Crypto) : (s.setCrypt k x).rdata = s.rdata := rfl
@[simp] theorem State.setCrypt_inForce (s : State) (k : Nat) (x : Crypto) : (s.setCrypt k x).inForce = s.inForce := rfl
@[simp] theorem State.setCrypt_was (s : State) (k : Nat) (x : Crypto) : (s.setCrypt k x).was = s.was := rfl
@[simp] theorem State.setCrypt_ecc (s : State) (k : Nat) (x : Crypto) : (s.setCrypt k x).ecc = s.ecc := rfl
@[simp] theorem State.setCrypt_mrq (s : State) (k : Nat) (x : Crypto) : (s.setCrypt k x).mrq = s.mrq := rfl
@[simp] theorem State.setCrypt_mrRun (s : State) (k : Nat) (x : Crypto) : (s.setCrypt k x).mrRun = s.mrRun := rfl
@[simp] theorem State.setCrypt_openLines (s : State) (k : Nat) (x : Crypto) : (s.setCrypt k x).openLines = s.openLines := rfl
@[simp] theorem State.setCrypt_scrub (s : State) (k : Nat) (x : Crypto) : (s.setCrypt k x).scrub = s.scrub := rfl
@[simp] theorem State.setCrypt_scrubDue (s : State) (k : Nat) (x : Crypto) : (s.setCrypt k x).scrubDue = s.scrubDue := rfl
@[simp] theorem State.setCrypt_dip (s : State) (k : Nat) (x : Crypto) : (s.setCrypt k x).dip = s.dip := rfl
@[simp] theorem State.setCrypt_trans (s : State) (k : Nat) (x : Crypto) : (s.setCrypt k x).trans = s.trans := rfl
@[simp] theorem State.setCrypt_dawn (s : State) (k : Nat) (x : Crypto) : (s.setCrypt k x).dawn = s.dawn := rfl
@[simp] theorem State.setCrypt_stepK (s : State) (k : Nat) (x : Crypto) : (s.setCrypt k x).stepK = s.stepK := rfl
@[simp] theorem State.setCrypt_supply (s : State) (k : Nat) (x : Crypto) : (s.setCrypt k x).supply = s.supply := rfl
@[simp] theorem State.setCrypt_resetN (s : State) (k : Nat) (x : Crypto) : (s.setCrypt k x).resetN = s.resetN := rfl
@[simp] theorem State.setCrypt_refOk (s : State) (k : Nat) (x : Crypto) : (s.setCrypt k x).refOk = s.refOk := rfl
@[simp] theorem State.setCrypt_pllOk (s : State) (k : Nat) (x : Crypto) : (s.setCrypt k x).pllOk = s.pllOk := rfl
@[simp] theorem State.setCrypt_dawnEnd (s : State) (k : Nat) (x : Crypto) : (s.setCrypt k x).dawnEnd = s.dawnEnd := rfl
@[simp] theorem State.setCrypt_estopN (s : State) (k : Nat) (x : Crypto) : (s.setCrypt k x).estopN = s.estopN := rfl
@[simp] theorem State.setCrypt_estopAt (s : State) (k : Nat) (x : Crypto) : (s.setCrypt k x).estopAt = s.estopAt := rfl
@[simp] theorem State.setCrypt_svcLow (s : State) (k : Nat) (x : Crypto) : (s.setCrypt k x).svcLow = s.svcLow := rfl
@[simp] theorem State.setCrypt_chans (s : State) (k : Nat) (x : Crypto) : (s.setCrypt k x).chans = s.chans := rfl
@[simp] theorem State.setCrypt_mains (s : State) (k : Nat) (x : Crypto) : (s.setCrypt k x).mains = s.mains := rfl
@[simp] theorem State.setCrypt_tbs (s : State) (k : Nat) (x : Crypto) : (s.setCrypt k x).tbs = s.tbs := rfl
@[simp] theorem State.setCrypt_wall (s : State) (k : Nat) (x : Crypto) : (s.setCrypt k x).wall = s.wall := rfl
@[simp] theorem State.setCrypt_caps (s : State) (k : Nat) (x : Crypto) : (s.setCrypt k x).caps = s.caps := rfl
@[simp] theorem State.setCrypt_capSeq (s : State) (k : Nat) (x : Crypto) : (s.setCrypt k x).capSeq = s.capSeq := rfl
@[simp] theorem State.setCrypt_handed (s : State) (k : Nat) (x : Crypto) : (s.setCrypt k x).handed = s.handed := rfl
@[simp] theorem State.setCrypt_capAt (s : State) (k : Nat) (x : Crypto) : (s.setCrypt k x).capAt = s.capAt := rfl
@[simp] theorem State.setCrypt_slots (s : State) (k : Nat) (x : Crypto) : (s.setCrypt k x).slots = s.slots := rfl
@[simp] theorem State.setCrypt_memq (s : State) (k : Nat) (x : Crypto) : (s.setCrypt k x).memq = s.memq := rfl
@[simp] theorem State.setCrypt_acts (s : State) (k : Nat) (x : Crypto) : (s.setCrypt k x).acts = s.acts := rfl
@[simp] theorem State.setCrypt_ttPeak (s : State) (k : Nat) (x : Crypto) : (s.setCrypt k x).ttPeak = s.ttPeak := rfl
@[simp] theorem State.setCrypt_queues (s : State) (k : Nat) (x : Crypto) : (s.setCrypt k x).queues = s.queues := rfl
@[simp] theorem State.setCrypt_reports (s : State) (k : Nat) (x : Crypto) : (s.setCrypt k x).reports = s.reports := rfl
@[simp] theorem State.setCrypt_repFirst (s : State) (k : Nat) (x : Crypto) : (s.setCrypt k x).repFirst = s.repFirst := rfl
@[simp] theorem State.setCrypt_lines (s : State) (k : Nat) (x : Crypto) : (s.setCrypt k x).lines = s.lines := rfl
@[simp] theorem State.setCrypt_gens (s : State) (k : Nat) (x : Crypto) : (s.setCrypt k x).gens = s.gens := rfl
@[simp] theorem State.setCrypt_pwms (s : State) (k : Nat) (x : Crypto) : (s.setCrypt k x).pwms = s.pwms := rfl
@[simp] theorem State.setCrypt_sds (s : State) (k : Nat) (x : Crypto) : (s.setCrypt k x).sds = s.sds := rfl
@[simp] theorem State.setCrypt_pins (s : State) (k : Nat) (x : Crypto) : (s.setCrypt k x).pins = s.pins := rfl
@[simp] theorem State.setCrypt_bankOk (s : State) (k : Nat) (x : Crypto) : (s.setCrypt k x).bankOk = s.bankOk := rfl
@[simp] theorem State.setCrypt_loaded (s : State) (k : Nat) (x : Crypto) : (s.setCrypt k x).loaded = s.loaded := rfl
@[simp] theorem State.setCrypt_rcs (s : State) (k : Nat) (x : Crypto) : (s.setCrypt k x).rcs = s.rcs := rfl
@[simp] theorem State.setCrypt_uarts (s : State) (k : Nat) (x : Crypto) : (s.setCrypt k x).uarts = s.uarts := rfl
@[simp] theorem State.setCrypt_att (s : State) (k : Nat) (x : Crypto) : (s.setCrypt k x).att = s.att := rfl
@[simp] theorem State.setCrypt_macs (s : State) (k : Nat) (x : Crypto) : (s.setCrypt k x).macs = s.macs := rfl
@[simp] theorem State.setCrypt_bells (s : State) (k : Nat) (x : Crypto) : (s.setCrypt k x).bells = s.bells := rfl
@[simp] theorem State.setCrypt_enq (s : State) (k : Nat) (x : Crypto) : (s.setCrypt k x).enq = s.enq := rfl
@[simp] theorem State.setCrypt_en (s : State) (k : Nat) (x : Crypto) : (s.setCrypt k x).en = s.en := rfl
@[simp] theorem State.setCrypt_fcMap (s : State) (k : Nat) (x : Crypto) : (s.setCrypt k x).fcMap = s.fcMap := rfl
@[simp] theorem State.setCrypt_fcOut (s : State) (k : Nat) (x : Crypto) : (s.setCrypt k x).fcOut = s.fcOut := rfl
@[simp] theorem State.setCrypt_staff (s : State) (k : Nat) (x : Crypto) : (s.setCrypt k x).staff = s.staff := rfl
@[simp] theorem State.setCrypt_owners (s : State) (k : Nat) (x : Crypto) : (s.setCrypt k x).owners = s.owners := rfl
@[simp] theorem State.setCrypt_page (s : State) (k : Nat) (x : Crypto) : (s.setCrypt k x).page = s.page := rfl
@[simp] theorem State.setCrypt_snapK (s : State) (k : Nat) (x : Crypto) : (s.setCrypt k x).snapK = s.snapK := rfl
@[simp] theorem State.setCrypt_hall (s : State) (k : Nat) (x : Crypto) : (s.setCrypt k x).hall = s.hall := rfl
@[simp] theorem State.setCrypt_keys (s : State) (k : Nat) (x : Crypto) : (s.setCrypt k x).keys = s.keys := rfl
@[simp] theorem State.setCrypt_otp (s : State) (k : Nat) (x : Crypto) : (s.setCrypt k x).otp = s.otp := rfl
@[simp] theorem State.setCrypt_certBuf (s : State) (k : Nat) (x : Crypto) : (s.setCrypt k x).certBuf = s.certBuf := rfl
@[simp] theorem State.setCrypt_attRec (s : State) (k : Nat) (x : Crypto) : (s.setCrypt k x).attRec = s.attRec := rfl
@[simp] theorem State.setCrypt_signing (s : State) (k : Nat) (x : Crypto) : (s.setCrypt k x).signing = s.signing := rfl
@[simp] theorem State.setCrypt_noise (s : State) (k : Nat) (x : Crypto) : (s.setCrypt k x).noise = s.noise := rfl
@[simp] theorem State.setCrypt_drbgs (s : State) (k : Nat) (x : Crypto) : (s.setCrypt k x).drbgs = s.drbgs := rfl
@[simp] theorem State.setCrypt_drbgLast (s : State) (k : Nat) (x : Crypto) : (s.setCrypt k x).drbgLast = s.drbgLast := rfl
@[simp] theorem State.setCrypt_crLast (s : State) (k : Nat) (x : Crypto) : (s.setCrypt k x).crLast = s.crLast := rfl
@[simp] theorem State.setCrypt_wdStart (s : State) (k : Nat) (x : Crypto) : (s.setCrypt k x).wdStart = s.wdStart := rfl
@[simp] theorem State.setCrypt_wdOut (s : State) (k : Nat) (x : Crypto) : (s.setCrypt k x).wdOut = s.wdOut := rfl
@[simp] theorem State.setCrypt_wdStage (s : State) (k : Nat) (x : Crypto) : (s.setCrypt k x).wdStage = s.wdStage := rfl
@[simp] theorem State.setCrypt_restart (s : State) (k : Nat) (x : Crypto) : (s.setCrypt k x).restart = s.restart := rfl
@[simp] theorem State.setCrypt_safeTest (s : State) (k : Nat) (x : Crypto) : (s.setCrypt k x).safeTest = s.safeTest := rfl
@[simp] theorem State.setCrypt_now (s : State) (k : Nat) (x : Crypto) : (s.setCrypt k x).now = s.now := rfl
@[simp] theorem State.setCrypt_regs (s : State) (k : Nat) (x : Crypto) : (s.setCrypt k x).regs = s.regs := rfl
@[simp] theorem State.setCrypt_mem (s : State) (k : Nat) (x : Crypto) : (s.setCrypt k x).mem = s.mem := rfl
@[simp] theorem State.setCrypt_cores (s : State) (k : Nat) (x : Crypto) : (s.setCrypt k x).cores = s.cores := rfl
@[simp] theorem State.setCrypt_mode (s : State) (k : Nat) (x : Crypto) : (s.setCrypt k x).mode = s.mode := rfl
@[simp] theorem State.setCrypt_clocks (s : State) (k : Nat) (x : Crypto) : (s.setCrypt k x).clocks = s.clocks := rfl
@[simp] theorem State.setCrypt_logQ (s : State) (k : Nat) (x : Crypto) : (s.setCrypt k x).logQ = s.logQ := rfl
@[simp] theorem State.setCrypt_crypto (s : State) (k : Nat) (x : Crypto) : (s.setCrypt k x).crypto = s.crypto.put k x := rfl

/-! ### setKey -/

@[simp] theorem State.setKey_pending (s : State) (k : Nat) (x : KeySlot) : (s.setKey k x).pending = s.pending := rfl
@[simp] theorem State.setKey_variant (s : State) (k : Nat) (x : KeySlot) : (s.setKey k x).variant = s.variant := rfl
@[simp] theorem State.setKey_freeCtr (s : State) (k : Nat) (x : KeySlot) : (s.setKey k x).freeCtr = s.freeCtr := rfl
@[simp] theorem State.setKey_rdata (s : State) (k : Nat) (x : KeySlot) : (s.setKey k x).rdata = s.rdata := rfl
@[simp] theorem State.setKey_inForce (s : State) (k : Nat) (x : KeySlot) : (s.setKey k x).inForce = s.inForce := rfl
@[simp] theorem State.setKey_was (s : State) (k : Nat) (x : KeySlot) : (s.setKey k x).was = s.was := rfl
@[simp] theorem State.setKey_ecc (s : State) (k : Nat) (x : KeySlot) : (s.setKey k x).ecc = s.ecc := rfl
@[simp] theorem State.setKey_mrq (s : State) (k : Nat) (x : KeySlot) : (s.setKey k x).mrq = s.mrq := rfl
@[simp] theorem State.setKey_mrRun (s : State) (k : Nat) (x : KeySlot) : (s.setKey k x).mrRun = s.mrRun := rfl
@[simp] theorem State.setKey_openLines (s : State) (k : Nat) (x : KeySlot) : (s.setKey k x).openLines = s.openLines := rfl
@[simp] theorem State.setKey_scrub (s : State) (k : Nat) (x : KeySlot) : (s.setKey k x).scrub = s.scrub := rfl
@[simp] theorem State.setKey_scrubDue (s : State) (k : Nat) (x : KeySlot) : (s.setKey k x).scrubDue = s.scrubDue := rfl
@[simp] theorem State.setKey_dip (s : State) (k : Nat) (x : KeySlot) : (s.setKey k x).dip = s.dip := rfl
@[simp] theorem State.setKey_trans (s : State) (k : Nat) (x : KeySlot) : (s.setKey k x).trans = s.trans := rfl
@[simp] theorem State.setKey_dawn (s : State) (k : Nat) (x : KeySlot) : (s.setKey k x).dawn = s.dawn := rfl
@[simp] theorem State.setKey_stepK (s : State) (k : Nat) (x : KeySlot) : (s.setKey k x).stepK = s.stepK := rfl
@[simp] theorem State.setKey_supply (s : State) (k : Nat) (x : KeySlot) : (s.setKey k x).supply = s.supply := rfl
@[simp] theorem State.setKey_resetN (s : State) (k : Nat) (x : KeySlot) : (s.setKey k x).resetN = s.resetN := rfl
@[simp] theorem State.setKey_refOk (s : State) (k : Nat) (x : KeySlot) : (s.setKey k x).refOk = s.refOk := rfl
@[simp] theorem State.setKey_pllOk (s : State) (k : Nat) (x : KeySlot) : (s.setKey k x).pllOk = s.pllOk := rfl
@[simp] theorem State.setKey_dawnEnd (s : State) (k : Nat) (x : KeySlot) : (s.setKey k x).dawnEnd = s.dawnEnd := rfl
@[simp] theorem State.setKey_estopN (s : State) (k : Nat) (x : KeySlot) : (s.setKey k x).estopN = s.estopN := rfl
@[simp] theorem State.setKey_estopAt (s : State) (k : Nat) (x : KeySlot) : (s.setKey k x).estopAt = s.estopAt := rfl
@[simp] theorem State.setKey_svcLow (s : State) (k : Nat) (x : KeySlot) : (s.setKey k x).svcLow = s.svcLow := rfl
@[simp] theorem State.setKey_chans (s : State) (k : Nat) (x : KeySlot) : (s.setKey k x).chans = s.chans := rfl
@[simp] theorem State.setKey_mains (s : State) (k : Nat) (x : KeySlot) : (s.setKey k x).mains = s.mains := rfl
@[simp] theorem State.setKey_tbs (s : State) (k : Nat) (x : KeySlot) : (s.setKey k x).tbs = s.tbs := rfl
@[simp] theorem State.setKey_wall (s : State) (k : Nat) (x : KeySlot) : (s.setKey k x).wall = s.wall := rfl
@[simp] theorem State.setKey_caps (s : State) (k : Nat) (x : KeySlot) : (s.setKey k x).caps = s.caps := rfl
@[simp] theorem State.setKey_capSeq (s : State) (k : Nat) (x : KeySlot) : (s.setKey k x).capSeq = s.capSeq := rfl
@[simp] theorem State.setKey_handed (s : State) (k : Nat) (x : KeySlot) : (s.setKey k x).handed = s.handed := rfl
@[simp] theorem State.setKey_capAt (s : State) (k : Nat) (x : KeySlot) : (s.setKey k x).capAt = s.capAt := rfl
@[simp] theorem State.setKey_slots (s : State) (k : Nat) (x : KeySlot) : (s.setKey k x).slots = s.slots := rfl
@[simp] theorem State.setKey_memq (s : State) (k : Nat) (x : KeySlot) : (s.setKey k x).memq = s.memq := rfl
@[simp] theorem State.setKey_acts (s : State) (k : Nat) (x : KeySlot) : (s.setKey k x).acts = s.acts := rfl
@[simp] theorem State.setKey_ttPeak (s : State) (k : Nat) (x : KeySlot) : (s.setKey k x).ttPeak = s.ttPeak := rfl
@[simp] theorem State.setKey_queues (s : State) (k : Nat) (x : KeySlot) : (s.setKey k x).queues = s.queues := rfl
@[simp] theorem State.setKey_reports (s : State) (k : Nat) (x : KeySlot) : (s.setKey k x).reports = s.reports := rfl
@[simp] theorem State.setKey_repFirst (s : State) (k : Nat) (x : KeySlot) : (s.setKey k x).repFirst = s.repFirst := rfl
@[simp] theorem State.setKey_lines (s : State) (k : Nat) (x : KeySlot) : (s.setKey k x).lines = s.lines := rfl
@[simp] theorem State.setKey_gens (s : State) (k : Nat) (x : KeySlot) : (s.setKey k x).gens = s.gens := rfl
@[simp] theorem State.setKey_pwms (s : State) (k : Nat) (x : KeySlot) : (s.setKey k x).pwms = s.pwms := rfl
@[simp] theorem State.setKey_sds (s : State) (k : Nat) (x : KeySlot) : (s.setKey k x).sds = s.sds := rfl
@[simp] theorem State.setKey_pins (s : State) (k : Nat) (x : KeySlot) : (s.setKey k x).pins = s.pins := rfl
@[simp] theorem State.setKey_bankOk (s : State) (k : Nat) (x : KeySlot) : (s.setKey k x).bankOk = s.bankOk := rfl
@[simp] theorem State.setKey_loaded (s : State) (k : Nat) (x : KeySlot) : (s.setKey k x).loaded = s.loaded := rfl
@[simp] theorem State.setKey_rcs (s : State) (k : Nat) (x : KeySlot) : (s.setKey k x).rcs = s.rcs := rfl
@[simp] theorem State.setKey_uarts (s : State) (k : Nat) (x : KeySlot) : (s.setKey k x).uarts = s.uarts := rfl
@[simp] theorem State.setKey_att (s : State) (k : Nat) (x : KeySlot) : (s.setKey k x).att = s.att := rfl
@[simp] theorem State.setKey_macs (s : State) (k : Nat) (x : KeySlot) : (s.setKey k x).macs = s.macs := rfl
@[simp] theorem State.setKey_bells (s : State) (k : Nat) (x : KeySlot) : (s.setKey k x).bells = s.bells := rfl
@[simp] theorem State.setKey_enq (s : State) (k : Nat) (x : KeySlot) : (s.setKey k x).enq = s.enq := rfl
@[simp] theorem State.setKey_en (s : State) (k : Nat) (x : KeySlot) : (s.setKey k x).en = s.en := rfl
@[simp] theorem State.setKey_fcMap (s : State) (k : Nat) (x : KeySlot) : (s.setKey k x).fcMap = s.fcMap := rfl
@[simp] theorem State.setKey_fcOut (s : State) (k : Nat) (x : KeySlot) : (s.setKey k x).fcOut = s.fcOut := rfl
@[simp] theorem State.setKey_staff (s : State) (k : Nat) (x : KeySlot) : (s.setKey k x).staff = s.staff := rfl
@[simp] theorem State.setKey_owners (s : State) (k : Nat) (x : KeySlot) : (s.setKey k x).owners = s.owners := rfl
@[simp] theorem State.setKey_page (s : State) (k : Nat) (x : KeySlot) : (s.setKey k x).page = s.page := rfl
@[simp] theorem State.setKey_snapK (s : State) (k : Nat) (x : KeySlot) : (s.setKey k x).snapK = s.snapK := rfl
@[simp] theorem State.setKey_hall (s : State) (k : Nat) (x : KeySlot) : (s.setKey k x).hall = s.hall := rfl
@[simp] theorem State.setKey_otp (s : State) (k : Nat) (x : KeySlot) : (s.setKey k x).otp = s.otp := rfl
@[simp] theorem State.setKey_certBuf (s : State) (k : Nat) (x : KeySlot) : (s.setKey k x).certBuf = s.certBuf := rfl
@[simp] theorem State.setKey_attRec (s : State) (k : Nat) (x : KeySlot) : (s.setKey k x).attRec = s.attRec := rfl
@[simp] theorem State.setKey_signing (s : State) (k : Nat) (x : KeySlot) : (s.setKey k x).signing = s.signing := rfl
@[simp] theorem State.setKey_noise (s : State) (k : Nat) (x : KeySlot) : (s.setKey k x).noise = s.noise := rfl
@[simp] theorem State.setKey_drbgs (s : State) (k : Nat) (x : KeySlot) : (s.setKey k x).drbgs = s.drbgs := rfl
@[simp] theorem State.setKey_drbgLast (s : State) (k : Nat) (x : KeySlot) : (s.setKey k x).drbgLast = s.drbgLast := rfl
@[simp] theorem State.setKey_crypto (s : State) (k : Nat) (x : KeySlot) : (s.setKey k x).crypto = s.crypto := rfl
@[simp] theorem State.setKey_crLast (s : State) (k : Nat) (x : KeySlot) : (s.setKey k x).crLast = s.crLast := rfl
@[simp] theorem State.setKey_wdStart (s : State) (k : Nat) (x : KeySlot) : (s.setKey k x).wdStart = s.wdStart := rfl
@[simp] theorem State.setKey_wdOut (s : State) (k : Nat) (x : KeySlot) : (s.setKey k x).wdOut = s.wdOut := rfl
@[simp] theorem State.setKey_wdStage (s : State) (k : Nat) (x : KeySlot) : (s.setKey k x).wdStage = s.wdStage := rfl
@[simp] theorem State.setKey_restart (s : State) (k : Nat) (x : KeySlot) : (s.setKey k x).restart = s.restart := rfl
@[simp] theorem State.setKey_safeTest (s : State) (k : Nat) (x : KeySlot) : (s.setKey k x).safeTest = s.safeTest := rfl
@[simp] theorem State.setKey_now (s : State) (k : Nat) (x : KeySlot) : (s.setKey k x).now = s.now := rfl
@[simp] theorem State.setKey_regs (s : State) (k : Nat) (x : KeySlot) : (s.setKey k x).regs = s.regs := rfl
@[simp] theorem State.setKey_mem (s : State) (k : Nat) (x : KeySlot) : (s.setKey k x).mem = s.mem := rfl
@[simp] theorem State.setKey_cores (s : State) (k : Nat) (x : KeySlot) : (s.setKey k x).cores = s.cores := rfl
@[simp] theorem State.setKey_mode (s : State) (k : Nat) (x : KeySlot) : (s.setKey k x).mode = s.mode := rfl
@[simp] theorem State.setKey_clocks (s : State) (k : Nat) (x : KeySlot) : (s.setKey k x).clocks = s.clocks := rfl
@[simp] theorem State.setKey_logQ (s : State) (k : Nat) (x : KeySlot) : (s.setKey k x).logQ = s.logQ := rfl
@[simp] theorem State.setKey_keys (s : State) (k : Nat) (x : KeySlot) : (s.setKey k x).keys = s.keys.set k x := rfl

/-! ### Reading a unit after writing it -/

@[simp] theorem State.setCore_core_self (s : State) (l : Nat) (c : Core) : (s.setCore l c).core l = c := Tab.get_put_self ..
theorem State.setCore_core_ne (s : State) (l : Nat) (c : Core) (j : Nat) (h : j ≠ l) : (s.setCore l c).core j = s.core j :=
  Tab.get_put_ne _ _ _ h
@[simp] theorem State.setTb_tb_self (s : State) (t : Nat) (x : Timebase) : (s.setTb t x).tb t = x := Tab.get_put_self ..
theorem State.setTb_tb_ne (s : State) (t : Nat) (x : Timebase) (j : Nat) (h : j ≠ t) : (s.setTb t x).tb j = s.tb j :=
  Tab.get_put_ne _ _ _ h
@[simp] theorem State.setSlot_slot_self (s : State) (n : Nat) (x : Slot) : (s.setSlot n x).slot n = x := Tab.get_put_self ..
theorem State.setSlot_slot_ne (s : State) (n : Nat) (x : Slot) (j : Nat) (h : j ≠ n) : (s.setSlot n x).slot j = s.slot j :=
  Tab.get_put_ne _ _ _ h
@[simp] theorem State.setQueue_queue_self (s : State) (q : Nat) (x : Queue) : (s.setQueue q x).queue q = x := Tab.get_put_self ..
theorem State.setQueue_queue_ne (s : State) (q : Nat) (x : Queue) (j : Nat) (h : j ≠ q) : (s.setQueue q x).queue j = s.queue j :=
  Tab.get_put_ne _ _ _ h
@[simp] theorem State.setChan_chan_self (s : State) (n : Nat) (x : Channel) : (s.setChan n x).chan n = x := Tab.get_put_self ..
theorem State.setChan_chan_ne (s : State) (n : Nat) (x : Channel) (j : Nat) (h : j ≠ n) : (s.setChan n x).chan j = s.chan j :=
  Tab.get_put_ne _ _ _ h
@[simp] theorem State.setLine_line_self (s : State) (n : Nat) (x : Line) : (s.setLine n x).line n = x := Tab.get_put_self ..
theorem State.setLine_line_ne (s : State) (n : Nat) (x : Line) (j : Nat) (h : j ≠ n) : (s.setLine n x).line j = s.line j :=
  Tab.get_put_ne _ _ _ h
@[simp] theorem State.setGen_gen_self (s : State) (g : Nat) (x : Gen) : (s.setGen g x).gen g = x := Tab.get_put_self ..
theorem State.setGen_gen_ne (s : State) (g : Nat) (x : Gen) (j : Nat) (h : j ≠ g) : (s.setGen g x).gen j = s.gen j :=
  Tab.get_put_ne _ _ _ h
@[simp] theorem State.setPwm_pwm_self (s : State) (c : Nat) (x : Pwm) : (s.setPwm c x).pwm c = x := Tab.get_put_self ..
theorem State.setPwm_pwm_ne (s : State) (c : Nat) (x : Pwm) (j : Nat) (h : j ≠ c) : (s.setPwm c x).pwm j = s.pwm j :=
  Tab.get_put_ne _ _ _ h
@[simp] theorem State.setSd_sd_self (s : State) (n : Nat) (x : Sd) : (s.setSd n x).sd n = x := Tab.get_put_self ..
theorem State.setSd_sd_ne (s : State) (n : Nat) (x : Sd) (j : Nat) (h : j ≠ n) : (s.setSd n x).sd j = s.sd j :=
  Tab.get_put_ne _ _ _ h
@[simp] theorem State.setPin_pin_self (s : State) (b : Nat) (x : Pin) : (s.setPin b x).pin b = x := Tab.get_put_self ..
theorem State.setPin_pin_ne (s : State) (b : Nat) (x : Pin) (j : Nat) (h : j ≠ b) : (s.setPin b x).pin j = s.pin j :=
  Tab.get_put_ne _ _ _ h
@[simp] theorem State.setRc_rc_self (s : State) (c : Nat) (x : Rc) : (s.setRc c x).rc c = x := Tab.get_put_self ..
theorem State.setRc_rc_ne (s : State) (c : Nat) (x : Rc) (j : Nat) (h : j ≠ c) : (s.setRc c x).rc j = s.rc j :=
  Tab.get_put_ne _ _ _ h
@[simp] theorem State.setUart_uart_self (s : State) (u : Nat) (x : Uart) : (s.setUart u x).uart u = x := Tab.get_put_self ..
theorem State.setUart_uart_ne (s : State) (u : Nat) (x : Uart) (j : Nat) (h : j ≠ u) : (s.setUart u x).uart j = s.uart j :=
  Tab.get_put_ne _ _ _ h
@[simp] theorem State.setMac_mac_self (s : State) (m : Nat) (x : Mac) : (s.setMac m x).mac m = x := Tab.get_put_self ..
theorem State.setMac_mac_ne (s : State) (m : Nat) (x : Mac) (j : Nat) (h : j ≠ m) : (s.setMac m x).mac j = s.mac j :=
  Tab.get_put_ne _ _ _ h
@[simp] theorem State.setFcEntry_fcEntry_self (s : State) (e : Nat) (x : FcEntry) : (s.setFcEntry e x).fcEntry e = x := Tab.get_put_self ..
theorem State.setFcEntry_fcEntry_ne (s : State) (e : Nat) (x : FcEntry) (j : Nat) (h : j ≠ e) : (s.setFcEntry e x).fcEntry j = s.fcEntry j :=
  Tab.get_put_ne _ _ _ h
@[simp] theorem State.setCrypt_crypt_self (s : State) (k : Nat) (x : Crypto) : (s.setCrypt k x).crypt k = x := Tab.get_put_self ..
theorem State.setCrypt_crypt_ne (s : State) (k : Nat) (x : Crypto) (j : Nat) (h : j ≠ k) : (s.setCrypt k x).crypt j = s.crypt j :=
  Tab.get_put_ne _ _ _ h

@[simp] theorem State.wr_core (s : State) (a : Nat) (v : Word) (l : Nat) : (s.wr a v).core l = s.core l := rfl
@[simp] theorem State.wrReq_core (s : State) (id a : Nat) (v : Word) (l : Nat) : (s.wrReq id a v).core l = s.core l := rfl
@[simp] theorem State.setByte_core (s : State) (a : Nat) (v : Byte) (l : Nat) : (s.setByte a v).core l = s.core l := rfl
@[simp] theorem State.setTb_core (s : State) (t : Nat) (x : Timebase) (l : Nat) : (s.setTb t x).core l = s.core l := rfl
@[simp] theorem State.setSlot_core (s : State) (n : Nat) (x : Slot) (l : Nat) : (s.setSlot n x).core l = s.core l := rfl
@[simp] theorem State.setCore_rd (s : State) (l : Nat) (c : Core) (a : Nat) : (s.setCore l c).rd a = s.rd a := rfl
@[simp] theorem State.setCore_fld (s : State) (l : Nat) (c : Core) (a : Nat) (f : F) : (s.setCore l c).fld a f = s.fld a f := rfl
@[simp] theorem State.setByte_rd (s : State) (k : Nat) (v : Byte) (a : Nat) : (s.setByte k v).rd a = s.rd a := rfl
@[simp] theorem State.setByte_fld (s : State) (k : Nat) (v : Byte) (a : Nat) (f : F) : (s.setByte k v).fld a f = s.fld a f := rfl
@[simp] theorem State.setTb_rd (s : State) (t : Nat) (x : Timebase) (a : Nat) : (s.setTb t x).rd a = s.rd a := rfl
@[simp] theorem State.setTb_fld (s : State) (t : Nat) (x : Timebase) (a : Nat) (f : F) : (s.setTb t x).fld a f = s.fld a f := rfl
@[simp] theorem State.setSlot_rd (s : State) (n : Nat) (x : Slot) (a : Nat) : (s.setSlot n x).rd a = s.rd a := rfl
@[simp] theorem State.setSlot_fld (s : State) (n : Nat) (x : Slot) (a : Nat) (f : F) : (s.setSlot n x).fld a f = s.fld a f := rfl
@[simp] theorem State.setQueue_rd (s : State) (q : Nat) (x : Queue) (a : Nat) : (s.setQueue q x).rd a = s.rd a := rfl
@[simp] theorem State.setQueue_fld (s : State) (q : Nat) (x : Queue) (a : Nat) (f : F) : (s.setQueue q x).fld a f = s.fld a f := rfl
@[simp] theorem State.setChan_rd (s : State) (n : Nat) (x : Channel) (a : Nat) : (s.setChan n x).rd a = s.rd a := rfl
@[simp] theorem State.setChan_fld (s : State) (n : Nat) (x : Channel) (a : Nat) (f : F) : (s.setChan n x).fld a f = s.fld a f := rfl
@[simp] theorem State.setGen_rd (s : State) (g : Nat) (x : Gen) (a : Nat) : (s.setGen g x).rd a = s.rd a := rfl
@[simp] theorem State.setGen_fld (s : State) (g : Nat) (x : Gen) (a : Nat) (f : F) : (s.setGen g x).fld a f = s.fld a f := rfl
@[simp] theorem State.setPin_rd (s : State) (b : Nat) (x : Pin) (a : Nat) : (s.setPin b x).rd a = s.rd a := rfl
@[simp] theorem State.setPin_fld (s : State) (b : Nat) (x : Pin) (a : Nat) (f : F) : (s.setPin b x).fld a f = s.fld a f := rfl

@[simp] theorem State.rd_wr_self (s : State) (a : Nat) (v : Word) : (s.wr a v).rd a = v := Tab.get_put_self ..
theorem State.rd_wr_ne (s : State) (a b : Nat) (v : Word) (h : b ≠ a) : (s.wr a v).rd b = s.rd b := by
  simp [State.rd, State.wr, Tab.get, Tab.find_put_ne _ _ h]
@[simp] theorem State.rdReq_wrReq_self (s : State) (id a : Nat) (v : Word) : (s.wrReq id a v).rdReq id a = v := Tab.get_put_self ..
@[simp] theorem State.setCore_setCore (s : State) (l : Nat) (c d : Core) : (s.setCore l c).setCore l d = s.setCore l d := by
  simp [State.setCore]
@[simp] theorem State.wr_wr (s : State) (a : Nat) (v w : Word) : (s.wr a v).wr a w = s.wr a w := by simp [State.wr]

end Sys2Proof.Machine
end

