-- ==== Sys2Proof/Laws/Core.lean ====
section
/-! SUPPORT. What an instruction of a core does from entries that it holds on chip: the fetch, the stack operations and the frame of
an instruction, each said once. -/

namespace Sys2Proof.Machine

/-! ### What an update of a core leaves -/

@[simp] theorem State.setCore_inLesson (s : State) (l k : Nat) (c : Core) : (s.setCore l c).inLesson k = s.inLesson k := rfl
@[simp] theorem State.setCore_contexts (s : State) (l k : Nat) (c : Core) : (s.setCore l c).contexts k = s.contexts k := rfl
@[simp] theorem State.setCore_fltsum (s : State) (l : Nat) (c : Core) : (s.setCore l c).fltsum = s.fltsum := rfl
@[simp] theorem State.setCore_liveSources (s : State) (l : Nat) (c : Core) : (s.setCore l c).liveSources = s.liveSources := rfl
@[simp] theorem State.setCore_anySealed (s : State) (l : Nat) (c : Core) (a n : Nat) : (s.setCore l c).anySealed a n = s.anySealed a n := rfl

/-- The world, the level and the halt of a core are all that SHOPHELD asks of it. -/
theorem State.setCore_shopHeld (s : State) (l k : Nat) (c : Core) (hg : c.guard = (s.core l).guard)
    (hi : stwIML.get c.stw = stwIML.get (s.core l).stw) (hh : c.shopHalted = (s.core l).shopHalted) :
    (s.setCore l c).shopHeld k = s.shopHeld k := by
  by_cases h : k = l
  · subst h
    simp only [State.shopHeld, State.setCore_core_self, State.setCore_liveSources, hg, hh, State.passes5]
    simp only [hi]
    rfl
  · simp only [State.shopHeld, State.setCore_core_ne _ _ _ _ h, State.setCore_liveSources, State.passes5]
    rfl

/-- A change of a core alone, in the same world, raises nothing. -/
theorem settle_setCore (s : State) (l : Nat) (c : Core) (hg : c.guard = (s.core l).guard)
    (hi : stwIML.get c.stw = stwIML.get (s.core l).stw) (hh : c.shopHalted = (s.core l).shopHalted) :
    settle s (s.setCore l c) = s.setCore l c := by
  have h0 : fltRise s (s.setCore l c) = 0 := by simp [fltRise]
  have h1 : ∀ k, heldRise s (s.setCore l c) k = s.setCore l c := by
    intro k
    simp [heldRise, State.setCore_shopHeld s l k c hg hi hh]
  simp [settle, h0, State.arriveAll, upFrom, h1]

/-! ### The stacks -/

@[simp] theorem Core.chip_setChip (c : Core) (r : Bool) (q : List Entry) : (c.setChip r q).chip r = q := by cases r <;> rfl
@[simp] theorem Core.sp_setChip (c : Core) (r k : Bool) (q : List Entry) : (c.setChip r q).sp k = c.sp k := by cases r <;> rfl
@[simp] theorem Core.chip_setSp (c : Core) (r k : Bool) (v : Word) : (c.setSp r v).chip k = c.chip k := by cases r <;> rfl
@[simp] theorem Core.sp_setSp (c : Core) (r : Bool) (v : Word) : (c.setSp r v).sp r = v := by cases r <;> rfl
@[simp] theorem Core.bellStack_setBell (c : Core) (r : Bool) (q : List Word) : (c.setBell r q).bellStack r = q := by cases r <;> rfl
@[simp] theorem Core.setBell_setBell (c : Core) (r : Bool) (p q : List Word) : (c.setBell r p).setBell r q = c.setBell r q := by
  cases r <;> rfl
@[simp] theorem Core.setChip_setSp_setChip_setSp (c : Core) (r : Bool) (p q : List Entry) (v w : Word) :
    ((((c.setChip r p).setSp r v).setChip r q).setSp r w) = (c.setChip r q).setSp r w := by cases r <;> rfl

theorem homeAt_inj {sp : Word} {i j : Nat} (hi : sp.toNat + 4 * i < 2 ^ 32) (hj : sp.toNat + 4 * j < 2 ^ 32)
    (h : homeAt sp i = homeAt sp j) : i = j := by
  have := congrArg BitVec.toNat h
  simp only [homeAt, BitVec.toNat_add, BitVec.toNat_ofNat] at this
  omega

theorem upFrom_length (a n : Nat) : (upFrom a n).length = n := by
  induction n generalizing a with
  | zero => rfl
  | succ n ih => simp [upFrom, ih]

theorem upFrom_getElem (a n i : Nat) (h : i < (upFrom a n).length) : (upFrom a n)[i] = a + i := by
  induction n generalizing a i with
  | zero => simp [upFrom] at h
  | succ n ih =>
    cases i with
    | zero => rfl
    | succ i =>
      simp only [upFrom, List.getElem_cons_succ]
      rw [ih]
      omega

theorem mem_upFrom {a n i : Nat} : i ∈ upFrom a n ↔ a ≤ i ∧ i < a + n := by
  induction n generalizing a with
  | zero => simp [upFrom]
  | succ n ih => simp only [upFrom, List.mem_cons, ih]; omega

/-- Homes of successive depths, none met twice. -/
theorem homes_nodup {sp : Word} (p : Nat) (a : Nat) (h : sp.toNat + 4 * (a + p) ≤ 2 ^ 32) :
    ((upFrom a p).map (homeAt sp)).Nodup := by
  induction p generalizing a with
  | zero => simp [upFrom]
  | succ p ih =>
    simp only [upFrom, List.map_cons, List.nodup_cons, List.mem_map, mem_upFrom, not_exists, not_and]
    refine ⟨fun i hi hh => ?_, ih (a + 1) (by omega)⟩
    have := homeAt_inj (sp := sp) (by omega) (by omega) hh
    omega

/-- The entry at a depth among those on top is found by its home. -/
theorem find_home {q : List Entry} {hs : List Word} (h : (q.take hs.length).map Entry.home = hs) (hn : hs.Nodup) :
    ∀ x ∈ hs.zip (q.map Entry.val), (q.find? (fun e => e.home == x.1)).elim 0 Entry.val = x.2 := by
  induction hs generalizing q with
  | nil => simp
  | cons a hs ih =>
    cases q with
    | nil => simp at h
    | cons e q =>
      simp only [List.length_cons, List.take_succ_cons, List.map_cons, List.cons.injEq] at h
      obtain ⟨he, hq⟩ := h
      intro x hx
      simp only [List.map_cons, List.zip_cons_cons, List.mem_cons] at hx
      rcases hx with rfl | hx
      · simp [he]
      · have hne : e.home ≠ x.1 := by
          have hm : x.1 ∈ hs := (List.of_mem_zip hx).1
          intro hc
          exact (List.nodup_cons.mp hn).1 (he ▸ hc ▸ hm)
        have : (e.home == x.1) = false := by simpa using hne
        rw [List.find?_cons, this]
        exact ih hq (List.nodup_cons.mp hn).2 x hx

theorem erase_homes {q : List Entry} {hs : List Word} (h : (q.take hs.length).map Entry.home = hs) :
    hs.foldl (fun (q : List Entry) h => eraseFirst (fun e => e.home == h) q) q = q.drop hs.length := by
  induction hs generalizing q with
  | nil => simp
  | cons a hs ih =>
    cases q with
    | nil => simp at h
    | cons e q =>
      simp only [List.length_cons, List.take_succ_cons, List.map_cons, List.cons.injEq] at h
      obtain ⟨he, hq⟩ := h
      simp only [List.foldl_cons, List.length_cons, List.drop_succ_cons]
      rw [show eraseFirst (fun x => x.home == a) (e :: q) = q by simp [eraseFirst, he]]
      exact ih hq

/-- The operands of a handy stack are its top entries. -/
theorem State.tops_handy {s : State} {l : Nat} {r : Bool} {p q : Nat} (h : s.Handy l r p q) :
    s.tops l r p = (s.held l r).take p := by
  unfold State.Handy at h
  unfold State.tops State.held
  by_cases hb : s.inLesson l = true
  · simp [hb]
  · simp only [hb, if_false, Bool.false_eq_true] at h ⊢
    obtain ⟨_, h1, _, h3, _⟩ := h
    have hlen : ((upFrom 0 p).map (homeAt ((s.core l).sp r))).length = p := by simp [upFrom_length]
    have hle : p ≤ ((s.core l).chip r).length := by
      have := congrArg List.length h3
      simp only [List.length_map, List.length_take, upFrom_length] at this
      omega
    have hb2 := ((s.core l).base r).isLt
    have hn := homes_nodup (sp := (s.core l).sp r) p 0 (by omega)
    have hf := find_home (q := (s.core l).chip r) (hs := (upFrom 0 p).map (homeAt ((s.core l).sp r)))
      (by rw [hlen]; exact h3) hn
    apply List.ext_getElem
    · simp [upFrom_length, hle]
    · intro i hi hj
      simp only [List.length_map, upFrom_length] at hi
      have hx : (((upFrom 0 p).map (homeAt ((s.core l).sp r)))[i]'(by simpa [upFrom_length] using hi),
          (((s.core l).chip r).map Entry.val)[i]'(by simp; omega)) ∈
          ((upFrom 0 p).map (homeAt ((s.core l).sp r))).zip (((s.core l).chip r).map Entry.val) := by
        rw [List.mem_iff_getElem]
        refine ⟨i, by simp [upFrom_length]; omega, by simp⟩
      have := hf _ hx
      simpa using this

/-- R199 for a handy stack: no fault and no move; the operands. -/
theorem State.prepare_handy {s : State} {l : Nat} {r : Bool} {p q : Nat} (h : s.Handy l r p q) :
    s.prepare (s.who l) r p q = .ok s ((s.held l r).take p) := by
  have ht := State.tops_handy h
  unfold State.Handy at h
  unfold State.prepare State.moves State.stackFault
  by_cases hb : s.inLesson l = true
  · simp only [hb, if_true] at h
    have h1 : ¬((s.core l).bellStack r).length < p := by omega
    have h2 : ¬bellDepth r < ((s.core l).bellStack r).length - p + q := by omega
    simp [State.who, hb, h1, h2, State.guardBy, Out.bind, ht]
  · simp only [hb, if_false, Bool.false_eq_true] at h
    obtain ⟨h0, h1, h2, h3, h4⟩ := h
    have h0' : ¬(p + q ≠ 0 ∧ areaFault ((s.core l).base r) ((s.core l).lim r) ((s.core l).sp r) r ≠ none) :=
      fun hc => hc.2 (h0 hc.1)
    have h1' : ¬((s.core l).base r).toNat < ((s.core l).sp r).toNat + 4 * p := by omega
    have h2' : ¬((s.core l).sp r).toNat + 4 * p < ((s.core l).lim r).toNat + 4 * q := by omega
    have hfill : s.fill (s.who l) r p 8 = .ok s () := by
      have hall : (upFrom 0 p).all (fun i => onChip ((s.core l).chip r) (homeAt ((s.core l).sp r) i)) = true := by
        rw [List.all_eq_true]
        intro i hi
        have hm : homeAt ((s.core l).sp r) i ∈ (((s.core l).chip r).take p).map Entry.home := by
          rw [h3]; exact List.mem_map_of_mem hi
        obtain ⟨e, he, heq⟩ := List.mem_map.mp hm
        exact List.any_eq_true.mpr ⟨e, List.mem_of_mem_take he, by simp [heq]⟩
      simp only [State.fill, State.who, hall, if_true]
    have hspill : s.spill (s.who l) r p q 8 = .ok s () := by
      simp only [State.spill, State.who, h4, if_true]
    simp only [State.who] at hfill hspill
    simp only [State.who, hb, h0', h1', h2', if_false, Bool.false_eq_true, State.guardBy, Out.bind, ht, hfill, hspill]

/-- Popping from a handy stack. -/
theorem State.popN_handy {s : State} {l : Nat} {r : Bool} {p q : Nat} (h : s.Handy l r p q) :
    s.popN l r p = s.setCore l (s.restack l r p [] (s.core l)) := by
  unfold State.Handy at h
  unfold State.popN State.restack
  by_cases hb : s.inLesson l = true
  · simp [hb]
  · simp only [hb, if_false, Bool.false_eq_true] at h ⊢
    have hlen : ((upFrom 0 p).map (homeAt ((s.core l).sp r))).length = p := by simp [upFrom_length]
    rw [erase_homes (by rw [hlen]; exact h.2.2.2.1), hlen]
    simp [pushedOn, homeAt]

theorem words_sub (sp : Word) (n : Nat) : sp - BitVec.ofNat 32 (4 * (n + 1)) = sp - BitVec.ofNat 32 (4 * n) - 4 := by
  apply BitVec.eq_of_toNat_eq
  have h4 : (4 : Word).toNat = 4 := rfl
  simp only [BitVec.toNat_sub, BitVec.toNat_ofNat, h4]
  omega

theorem sub_words (sp : Word) (n : Nat) : sp - 4 - BitVec.ofNat 32 (4 * n) = sp - BitVec.ofNat 32 (4 * (n + 1)) := by
  apply BitVec.eq_of_toNat_eq
  have h4 : (4 : Word).toNat = 4 := rfl
  simp only [BitVec.toNat_sub, BitVec.toNat_ofNat, h4]
  omega

theorem pushedOn_snoc (own : Nat) (vs : List Word) (v : Word) : ∀ (q : List Entry) (sp : Word),
    pushedOn own q sp (vs ++ [v]) =
      { home := sp - BitVec.ofNat 32 (4 * vs.length) - 4, val := v, own := own } :: pushedOn own q sp vs := by
  induction vs with
  | nil => intro q sp; simp [pushedOn]
  | cons w vs ih =>
    intro q sp
    simp only [List.cons_append, pushedOn, ih, List.length_cons]
    rw [sub_words]

/-- Pushing words one after another. -/
theorem State.pushAll_restack (s : State) (l : Nat) (r : Bool) (p : Nat) (c : Core) (vs : List Word) :
    (s.setCore l (s.restack l r p [] c)).pushAll l r vs = s.setCore l (s.restack l r p vs c) := by
  suffices h : ∀ us, (s.setCore l (s.restack l r p us c)).pushAll l r vs = s.setCore l (s.restack l r p (us ++ vs) c) by
    simpa using h []
  induction vs with
  | nil => intro us; simp [State.pushAll]
  | cons v vs ih =>
    intro us
    have h1 : (s.setCore l (s.restack l r p us c)).push l r v = s.setCore l (s.restack l r p (us ++ [v]) c) := by
      unfold State.push
      simp only [State.setCore_inLesson, State.setCore_core_self, State.setCore_contexts, State.setCore_setCore]
      unfold State.restack
      by_cases hb : s.inLesson l = true
      · simp [hb]
      · simp only [hb, if_false, Bool.false_eq_true, Core.sp_setSp, Core.chip_setSp, Core.chip_setChip,
          Core.setChip_setSp_setChip_setSp, pushedOn_snoc, List.length_append, List.length_singleton]
        rw [words_sub]
    simp only [State.pushAll, List.foldl_cons, h1]
    have := ih (us ++ [v])
    simpa [State.pushAll] using this

/-- An instruction on the operand stack alone, from a handy stack. -/
theorem State.stackOp_handy {s : State} {l p q : Nat} (h : s.Handy l false p q) (f : List Word → List Word) :
    s.stackOp l p q f = .ok (s.setCore l (s.restack l false p (f ((s.held l false).take p)) (s.core l))) () := by
  unfold State.stackOp
  simp only [State.prepare_handy h, Out.bind, State.popN_handy h, State.pushAll_restack]

/-- An instruction on the operand stack that changes the core too. -/
theorem State.coreOp_handy {s : State} {l p q : Nat} (h : s.Handy l false p q) (f : Core → List Word → Core × List Word)
    (hf : ∀ c v r k u, s.restack l r k u (f c v).1 = (f (s.restack l r k u c) v).1 ∧ (f (s.restack l r k u c) v).2 = (f c v).2) :
    s.coreOp l p q f =
      .ok (s.setCore l (s.restack l false p (f (s.core l) ((s.held l false).take p)).2
        (f (s.core l) ((s.held l false).take p)).1)) () := by
  unfold State.coreOp
  simp only [State.prepare_handy h, Out.bind, State.popN_handy h, State.setCore_core_self, State.setCore_setCore]
  have h1 := hf (s.core l) ((s.held l false).take p) false p []
  rw [h1.2, ← h1.1, State.pushAll_restack]

/-! ### The frame of an instruction -/

theorem checkWords_clean (s : State) (b : Bool) (ws : List Nat) (h : ∀ w ∈ ws, s.ecc.get 0 w = 0) :
    s.checkWords b ws = (s, false) := by
  induction ws with
  | nil => rfl
  | cons w ws ih =>
    have h1 : s.checkWord b w = (s, false) := by
      simp [State.checkWord, h w (List.mem_cons_self ..)]
    simp [State.checkWords, h1, ih (fun x hx => h x (List.mem_cons_of_mem _ hx))]

/-- The fetch of a core that can fetch changes nothing. -/
theorem State.fetch_ok {s : State} {l : Nat} (h : s.Fetches l) : s.fetch l = .ok s () := by
  obtain ⟨h1, h2, t, h3, h4⟩ := h
  unfold State.fetch
  simp only [h1, h2, h3, Bool.false_eq_true, if_false, Bool.not_true]
  rcases h4 with h4 | h4
  · simp [h4]
  · by_cases hl : (s.core l).holdsLine (s.core l).pc.toNat = true
    · simp [hl]
    · have := checkWords_clean s false _ h4
      simp [hl, State.eccRead, this]

/-- An instruction that is ready is carried out by its own part, PC standing at A + 2, and ends the protection of R295. -/
theorem State.instr_ok {s t : State} {l : Nat} {f : State → Word → Out Unit} (h : s.Ready l)
    (hf : f (s.setPc l ((s.core l).pc + 2)) (s.core l).pc = .ok t ()) :
    s.instr l f = t.setCore l { t.core l with fault := none } := by
  unfold State.instr State.instrB
  simp only [h.1, State.fetch_ok h.2, hf, Out.bind, Bool.not_true, Bool.false_eq_true, if_false, if_true]

/-- A fault that the part detects is taken at A. -/
theorem State.instr_bad {s t : State} {l : Nat} {f : State → Word → Out Unit} {g : Flt} (h : s.Ready l)
    (hf : f (s.setPc l ((s.core l).pc + 2)) (s.core l).pc = .bad t g) :
    s.instr l f = t.faultEntry l g (s.core l).pc := by
  unfold State.instr State.instrB
  simp only [h.1, State.fetch_ok h.2, hf, Out.bind, Bool.not_true, Bool.false_eq_true, if_false]

/-! ### Instructions from handy stacks, to the next state -/

theorem State.handy_setCore {s : State} {l : Nat} {r : Bool} {p q : Nat} {c : Core} (hc : c.chip r = (s.core l).chip r)
    (hs : c.sp r = (s.core l).sp r) (hb : c.base r = (s.core l).base r) (hl : c.lim r = (s.core l).lim r)
    (hk : c.bellStack r = (s.core l).bellStack r) : (s.setCore l c).Handy l r p q ↔ s.Handy l r p q := by
  simp [State.Handy, hc, hs, hb, hl, hk]

@[simp] theorem State.handy_setPc {s : State} {l : Nat} {r : Bool} {p q : Nat} {v : Word} :
    (s.setPc l v).Handy l r p q ↔ s.Handy l r p q := by
  cases r <;> exact State.handy_setCore rfl rfl rfl rfl rfl

@[simp] theorem State.held_setPc (s : State) (l : Nat) (r : Bool) (v : Word) : (s.setPc l v).held l r = s.held l r := by
  cases r <;> simp [State.held, State.setPc, Core.chip, Core.bellStack]

@[simp] theorem State.setPc_core (s : State) (l : Nat) (v : Word) : (s.setPc l v).core l = { s.core l with pc := v } := by
  simp [State.setPc]

@[simp] theorem State.setCore_setPc (s : State) (l : Nat) (v : Word) (c : Core) : (s.setPc l v).setCore l c = s.setCore l c := by
  simp [State.setPc]

@[simp] theorem State.setPc_setCore (s : State) (l : Nat) (v : Word) (c : Core) :
    (s.setCore l c).setPc l v = s.setCore l { c with pc := v } := by
  simp [State.setPc]

@[simp] theorem State.restack_setCore (s : State) (l k : Nat) (d : Core) (r : Bool) (p : Nat) (vs : List Word) (c : Core) :
    (s.setCore k d).restack l r p vs c = s.restack l r p vs c := rfl

@[simp] theorem State.restack_setPc (s : State) (l k : Nat) (v : Word) (r : Bool) (p : Nat) (vs : List Word) (c : Core) :
    (s.setPc k v).restack l r p vs c = s.restack l r p vs c := rfl

/-! What a change of a stack leaves of a core. -/

@[simp] theorem State.pc_restack (s : State) (l : Nat) (r : Bool) (p : Nat) (vs : List Word) (c : Core) :
    (s.restack l r p vs c).pc = c.pc := by
  unfold State.restack
  by_cases hb : s.inLesson l = true <;> cases r <;> simp [hb, Core.setBell, Core.setSp, Core.setChip]

@[simp] theorem State.stw_restack (s : State) (l : Nat) (r : Bool) (p : Nat) (vs : List Word) (c : Core) :
    (s.restack l r p vs c).stw = c.stw := by
  unfold State.restack
  by_cases hb : s.inLesson l = true <;> cases r <;> simp [hb, Core.setBell, Core.setSp, Core.setChip]

@[simp] theorem State.shopHalted_restack (s : State) (l : Nat) (r : Bool) (p : Nat) (vs : List Word) (c : Core) :
    (s.restack l r p vs c).shopHalted = c.shopHalted := by
  unfold State.restack
  by_cases hb : s.inLesson l = true <;> cases r <;> simp [hb, Core.setBell, Core.setSp, Core.setChip]

@[simp] theorem State.fault_restack (s : State) (l : Nat) (r : Bool) (p : Nat) (vs : List Word) (c : Core) :
    (s.restack l r p vs c).fault = c.fault := by
  unfold State.restack
  by_cases hb : s.inLesson l = true <;> cases r <;> simp [hb, Core.setBell, Core.setSp, Core.setChip]

@[simp] theorem State.acc_restack (s : State) (l : Nat) (r : Bool) (p : Nat) (vs : List Word) (c : Core) :
    (s.restack l r p vs c).acc = c.acc := by
  unfold State.restack
  by_cases hb : s.inLesson l = true <;> cases r <;> simp [hb, Core.setBell, Core.setSp, Core.setChip]

@[simp] theorem State.x_restack (s : State) (l : Nat) (r : Bool) (p : Nat) (vs : List Word) (c : Core) :
    (s.restack l r p vs c).x = c.x := by
  unfold State.restack
  by_cases hb : s.inLesson l = true <;> cases r <;> simp [hb, Core.setBell, Core.setSp, Core.setChip]

@[simp] theorem State.y_restack (s : State) (l : Nat) (r : Bool) (p : Nat) (vs : List Word) (c : Core) :
    (s.restack l r p vs c).y = c.y := by
  unfold State.restack
  by_cases hb : s.inLesson l = true <;> cases r <;> simp [hb, Core.setBell, Core.setSp, Core.setChip]

@[simp] theorem State.sb_restack (s : State) (l : Nat) (r : Bool) (p : Nat) (vs : List Word) (c : Core) :
    (s.restack l r p vs c).sb = c.sb := by
  unfold State.restack
  by_cases hb : s.inLesson l = true <;> cases r <;> simp [hb, Core.setBell, Core.setSp, Core.setChip]

@[simp] theorem State.lines_restack (s : State) (l : Nat) (r : Bool) (p : Nat) (vs : List Word) (c : Core) :
    (s.restack l r p vs c).lines = c.lines := by
  unfold State.restack
  by_cases hb : s.inLesson l = true <;> cases r <;> simp [hb, Core.setBell, Core.setSp, Core.setChip]

@[simp] theorem State.waiting_restack (s : State) (l : Nat) (r : Bool) (p : Nat) (vs : List Word) (c : Core) :
    (s.restack l r p vs c).waiting = c.waiting := by
  unfold State.restack
  by_cases hb : s.inLesson l = true <;> cases r <;> simp [hb, Core.setBell, Core.setSp, Core.setChip]

@[simp] theorem State.guard_restack (s : State) (l : Nat) (r : Bool) (p : Nat) (vs : List Word) (c : Core) :
    (s.restack l r p vs c).guard = c.guard := by simp [Core.guard]

@[simp] theorem State.ring_restack (s : State) (l : Nat) (r : Bool) (p : Nat) (vs : List Word) (c : Core) :
    (s.restack l r p vs c).ring = c.ring := by simp [Core.ring]

@[simp] theorem Core.guard_pc (c : Core) (v : Word) : { c with pc := v }.guard = c.guard := rfl
@[simp] theorem Core.ring_pc (c : Core) (v : Word) : { c with pc := v }.ring = c.ring := rfl
@[simp] theorem Core.guard_acc (c : Core) (v : BitVec 72) : { c with acc := v }.guard = c.guard := rfl

/-- A core changed in fields that no stack operation reads may be changed before or after it. -/
theorem State.restack_pc (s : State) (l : Nat) (r : Bool) (p : Nat) (vs : List Word) (c : Core) (v : Word) :
    s.restack l r p vs { c with pc := v } = { s.restack l r p vs c with pc := v } := by
  unfold State.restack
  by_cases hb : s.inLesson l = true <;> cases r <;> simp [hb, Core.setBell, Core.setSp, Core.setChip, Core.sp, Core.chip, Core.bellStack]

theorem State.restack_fault (s : State) (l : Nat) (r : Bool) (p : Nat) (vs : List Word) (c : Core) (v : Option FirstFault) :
    s.restack l r p vs { c with fault := v } = { s.restack l r p vs c with fault := v } := by
  unfold State.restack
  by_cases hb : s.inLesson l = true <;> cases r <;> simp [hb, Core.setBell, Core.setSp, Core.setChip, Core.sp, Core.chip, Core.bellStack]

theorem State.restack_stw (s : State) (l : Nat) (r : Bool) (p : Nat) (vs : List Word) (c : Core) (v : Word) :
    s.restack l r p vs { c with stw := v } = { s.restack l r p vs c with stw := v } := by
  unfold State.restack
  by_cases hb : s.inLesson l = true <;> cases r <;> simp [hb, Core.setBell, Core.setSp, Core.setChip, Core.sp, Core.chip, Core.bellStack]

theorem State.restack_acc (s : State) (l : Nat) (r : Bool) (p : Nat) (vs : List Word) (c : Core) (v : BitVec 72) :
    s.restack l r p vs { c with acc := v } = { s.restack l r p vs c with acc := v } := by
  unfold State.restack
  by_cases hb : s.inLesson l = true <;> cases r <;> simp [hb, Core.setBell, Core.setSp, Core.setChip, Core.sp, Core.chip, Core.bellStack]

/-- An instruction that ends in a change of its own core, in the same world and at the same level, answers just that. -/
theorem done_setCore {s : State} {l : Nat} {c : Core} (hg : c.guard = (s.core l).guard)
    (hi : stwIML.get c.stw = stwIML.get (s.core l).stw) (hh : c.shopHalted = (s.core l).shopHalted) :
    done s (s.setCore l c) = .next (s.setCore l c) := by
  rw [done, settle_setCore s l c hg hi hh]

/-- A ready instruction whose own part ends in a change of its core in the same world and at the same level. -/
theorem done_instr {s : State} {l : Nat} {f : State → Word → Out Unit} {c : Core} (h : s.Ready l)
    (hf : f (s.setPc l ((s.core l).pc + 2)) (s.core l).pc = .ok (s.setCore l c) ()) (hg : c.guard = (s.core l).guard)
    (hi : stwIML.get c.stw = stwIML.get (s.core l).stw) (hh : c.shopHalted = (s.core l).shopHalted) :
    done s (s.instr l f) = .next (s.setCore l { c with fault := none }) := by
  rw [State.instr_ok h hf]
  simp only [State.setCore_core_self, State.setCore_setCore]
  exact done_setCore hg hi hh

/-- An instruction on the operand stack alone. -/
theorem done_stackOp {s : State} {l p q : Nat} (f : List Word → List Word) (h : s.Ready l) (hh : s.Handy l false p q) :
    done s (s.instr l (fun (s : State) _ => s.stackOp l p q f)) =
      .next (s.setCore l (s.restack l false p (f ((s.held l false).take p)) (s.next l))) := by
  have h1 := State.stackOp_handy (s := s.setPc l ((s.core l).pc + 2)) (State.handy_setPc.mpr hh) f
  simp only [State.held_setPc, State.restack_setPc, State.setPc_core, State.setCore_setPc] at h1
  rw [done_instr h h1]
  · rw [State.next, ← State.restack_fault]
  · rw [State.guard_restack]; rfl
  · rw [State.stw_restack]
  · rw [State.shopHalted_restack]

end Sys2Proof.Machine
end

