-- ==== Sys2Proof/Laws/Memory.lean ====
section
/-! SUPPORT. Memory: every operation keeps its canonical form, and a byte reads as it was last written. -/

namespace Sys2Proof.Machine

theorem memPut_nil (k : Nat) (v : Byte) : memPut [] k v = if v = 0#8 then [] else [(k, v)] := rfl

theorem memPut_cons (a k : Nat) (w : BitVec 8) (v : Byte) (m : List Host.Cell) :
    memPut ((a, w) :: m) k v =
      if k < a then (if v = 0#8 then (a, w) :: m else (k, v) :: (a, w) :: m)
      else if k = a then (if v = 0#8 then m else (k, v) :: m)
      else (a, w) :: memPut m k v := rfl

/-- A bound below a list may be lowered. -/
theorem memWfFrom_weaken {b c : Option Nat} {m : List Host.Cell} (h : memWfFrom b m = true)
    (hbc : ∀ x, c = some x → ∃ y, b = some y ∧ x ≤ y) : memWfFrom c m = true := by
  cases m with
  | nil => simp [memWfFrom]
  | cons e m =>
    obtain ⟨a, w⟩ := e
    simp only [memWfFrom, Bool.and_eq_true] at h ⊢
    refine ⟨⟨?_, h.1.2⟩, h.2⟩
    cases c with
    | none => simp
    | some x =>
      obtain ⟨y, rfl, hxy⟩ := hbc x rfl
      have := h.1.1
      simp at this ⊢
      omega

theorem memWfFrom_memPut {b : Option Nat} {m : List Host.Cell} {k : Nat} {v : Byte} (h : memWfFrom b m = true)
    (hb : ∀ x, b = some x → x < k) : memWfFrom b (memPut m k v) = true := by
  induction m generalizing b with
  | nil =>
    by_cases hv : v = 0#8
    · simp [memPut_nil, hv, memWfFrom]
    · cases b with
      | none => simp [memPut_nil, hv, memWfFrom]
      | some x => simp [memPut_nil, hv, memWfFrom, hb x rfl]
  | cons e m ih =>
    obtain ⟨a, w⟩ := e
    simp only [memWfFrom, Bool.and_eq_true] at h
    have hk : (Option.all (fun x => decide (x < k)) b) = true := by
      cases b with
      | none => simp
      | some x => simpa using hb x rfl
    rw [memPut_cons]
    by_cases hka : k < a
    · by_cases hv : v = 0#8
      · simp only [hka, hv, if_true, memWfFrom, Bool.and_eq_true]
        exact h
      · simp only [hka, hv, if_true, if_false, memWfFrom, Bool.and_eq_true]
        exact ⟨⟨hk, by simpa using hv⟩, ⟨by simpa using hka, h.1.2⟩, h.2⟩
    · by_cases he : k = a
      · subst he
        by_cases hv : v = 0#8
        · simp only [hka, hv, if_true, if_false]
          exact memWfFrom_weaken h.2 (fun x hx => ⟨k, rfl, by have := hb x hx; omega⟩)
        · simp only [hka, hv, if_true, if_false, memWfFrom, Bool.and_eq_true]
          exact ⟨⟨hk, by simpa using hv⟩, h.2⟩
      · simp only [hka, he, if_false, memWfFrom, Bool.and_eq_true]
        exact ⟨h.1, ih h.2 (fun x hx => by cases hx; omega)⟩

/-- Writing a byte keeps the canonical form. -/
theorem Memory.wf_memPut {m : List Host.Cell} (h : Memory.wf m = true) (k : Nat) (v : Byte) : Memory.wf (memPut m k v) = true :=
  memWfFrom_memPut h (fun _ hx => by cases hx)

/-- Below the bound nothing is listed. -/
theorem memGet_of_le {b : Nat} {m : List Host.Cell} (h : memWfFrom (some b) m = true) {k : Nat} (hk : k ≤ b) : memGet m k = 0 := by
  cases m with
  | nil => rfl
  | cons e m =>
    obtain ⟨a, w⟩ := e
    simp only [memWfFrom, Bool.and_eq_true, Option.all_some, decide_eq_true_eq] at h
    have h1 : ¬a = k := by omega
    have h2 : k < a := by omega
    simp [memGet, h1, h2]

theorem memGet_memPut {b : Option Nat} {m : List Host.Cell} (h : memWfFrom b m = true) (k j : Nat) (v : Byte) :
    memGet (memPut m k v) j = if j = k then v else memGet m j := by
  induction m generalizing b with
  | nil =>
    by_cases hv : v = 0#8 <;> by_cases hj : j = k
    · simp [memPut_nil, memGet, hv]
    · simp [memPut_nil, memGet, hv]
    · subst hj; simp [memPut_nil, memGet, hv]
    · simp [memPut_nil, memGet, hv, Ne.symm hj, hj]
  | cons e m ih =>
    obtain ⟨a, w⟩ := e
    simp only [memWfFrom, Bool.and_eq_true] at h
    rw [memPut_cons]
    by_cases hka : k < a
    · by_cases hv : v = 0#8
      · subst hv
        simp only [hka, if_true]
        by_cases hj : j = k
        · subst hj
          have h1 : ¬a = j := by omega
          simp [memGet, h1, hka]
        · simp [hj]
      · simp only [hka, hv, if_true, if_false]
        by_cases hj : j = k
        · subst hj; simp [memGet]
        · simp only [memGet, hj, if_false, Ne.symm hj]
          by_cases h3 : j < k
          · have h4 : ¬a = j := by omega
            have h5 : j < a := by omega
            simp [h3, h4, h5]
          · simp [h3]
    · by_cases he : k = a
      · subst he
        by_cases hv : v = 0#8
        · subst hv
          simp only [hka, if_true, if_false]
          by_cases hj : j = k
          · subst hj; simpa using memGet_of_le h.2 (Nat.le_refl j)
          · simp only [hj, if_false, memGet, Ne.symm hj]
            by_cases h3 : j < k
            · simpa [h3] using memGet_of_le h.2 (Nat.le_of_lt h3)
            · simp [h3]
        · simp only [hka, hv, if_true, if_false]
          by_cases hj : j = k
          · subst hj; simp [memGet]
          · simp [memGet, hj, Ne.symm hj]
      · simp only [hka, he, if_false, memGet, ih h.2]
        by_cases hj : j = k
        · subst hj
          have h1 : ¬a = j := by omega
          simp [h1, hka]
        · simp [hj]

/-- A byte reads as it was written, and every other byte as before. -/
theorem State.byte_setByte {s : State} (h : Memory.wf s.mem = true) (a b : Nat) (v : Byte) :
    (s.setByte a v).byte b = if b = a then v else s.byte b := memGet_memPut h a b v

theorem State.wf_setByte {s : State} (h : Memory.wf s.mem = true) (a : Nat) (v : Byte) : Memory.wf (s.setByte a v).mem = true :=
  Memory.wf_memPut h a v

/-- A store of bytes keeps the canonical form. -/
theorem State.wf_st (n : Nat) : ∀ {s : State} (_ : Memory.wf s.mem = true) (a v : Nat), Memory.wf (s.st n a v).mem = true := by
  induction n with
  | zero => intro s h a v; exact h
  | succ n ih => intro s h a v; exact ih (s.wf_setByte h a _) _ _

/-- A store changes none but its own bytes. -/
theorem State.byte_st_of_lt_or_ge (n : Nat) : ∀ {s : State} (_ : Memory.wf s.mem = true) (a v b : Nat) (_ : b < a ∨ a + n ≤ b),
    (s.st n a v).byte b = s.byte b := by
  induction n with
  | zero => intro s _ a v b _; rfl
  | succ n ih =>
    intro s h a v b hb
    simp only [State.st]
    rw [ih (s.wf_setByte h a _) _ _ b (by omega), State.byte_setByte h]
    have : ¬b = a := by omega
    simp [this]

/-- A load of what has just been stored gives the value stored. -/
theorem State.ld_st (n : Nat) : ∀ {s : State} (_ : Memory.wf s.mem = true) (a v : Nat), (s.st n a v).ld n a = v % 256 ^ n := by
  induction n with
  | zero => intro s _ a v; simp [State.ld, Nat.mod_one]
  | succ n ih =>
    intro s h a v
    simp only [State.st, State.ld]
    have h1 := State.byte_st_of_lt_or_ge n (s.wf_setByte h a (BitVec.ofNat 8 v)) (a + 1) (v / 256) a (by omega)
    rw [h1, State.byte_setByte h, ih (s.wf_setByte h a _)]
    have h8 : (BitVec.ofNat 8 v).toNat = v % 256 := by simp
    simp only [if_true]
    rw [h8, Nat.pow_succ', Nat.mod_mul]

/-- Dropping entries keeps the canonical form. -/
theorem memWfFrom_filter (p : Host.Cell → Bool) {b : Option Nat} {m : List Host.Cell} (h : memWfFrom b m = true) :
    memWfFrom b (m.filter p) = true := by
  induction m generalizing b with
  | nil => simp [memWfFrom]
  | cons e m ih =>
    obtain ⟨a, w⟩ := e
    simp only [memWfFrom, Bool.and_eq_true] at h
    by_cases hp : p (a, w) = true
    · simp only [List.filter_cons, hp, if_true, memWfFrom, Bool.and_eq_true]
      exact ⟨h.1, ih h.2⟩
    · simp only [List.filter_cons, hp]
      refine memWfFrom_weaken (ih h.2) (fun x hx => ⟨a, rfl, ?_⟩)
      subst hx
      have := h.1.1
      simp at this
      omega

/-- Reset memory lists nothing. -/
theorem State.reset_mem_wf : Memory.wf State.reset.mem = true := rfl

end Sys2Proof.Machine
end

