-- ==== Sys2Proof/Tests/Slice0.lean ====
section
/-! SUPPORT. Tests: states that meet the hypotheses of the statements, terms that WellFormed refuses, and worked examples of the spec. -/

namespace Sys2Proof.Tests

open Sys2Proof.Machine

set_option maxRecDepth 100000
set_option linter.unusedTactic false
set_option linter.unreachableTactic false

/-! ### Small states -/

/-- Entries on chip at their homes, top first, of a stack with base `base`. -/
def entries (base : Nat) (l : List Nat) : List Entry :=
  l.zipIdx.map (fun e => { home := BitVec.ofNat 32 (base - 4 * l.length + 4 * e.2), val := BitVec.ofNat 32 e.1, own := 0 })

/-- A core at PC 0x100 with operands and return entries on chip (top first) and a STW. -/
def coreOf (stw : Nat) (ops rets : List Nat) : Core :=
  { Core.reset with
    started := true, stw := BitVec.ofNat 32 stw, pc := 0x100
    dsp := BitVec.ofNat 32 (0x110000 - 4 * ops.length), ops := entries 0x110000 ops
    rsp := BitVec.ofNat 32 (0x10F000 - 4 * rets.length), rets := entries 0x10F000 rets }

/-- Two regions of a core, open to both worlds and every ring. -/
def openRegions (l : Nat) : List (Nat × Word) :=
  [(R.RGBASE l 0, 0xC), (R.RGLIM l 0, 0xFFFFFFE4), (R.RSHBASE l 0, 0xC), (R.RSHLIM l 0, 0xFFFFFFE4)]

def State.wrs (s : State) (l : List (Nat × Word)) : State := l.foldl (fun s e => s.wr e.1 e.2) s

/-- PREPARE at edge 1000 with the Staff session open, cores 0 and 1 as given, and registers. -/
def bench (c0 c1 : Core) (l : List (Nat × Word)) : State :=
  State.wrs { State.reset with
    mode := .prepare, dawn := .none, clocks := true, logQ := [], now := 1000, cores := [(0, c0), (1, c1)]
    staff := { Staff.reset with sess := .opened } } ([(R.CORERUN, 0x1F)] ++ openRegions 0 ++ openRegions 1 ++ l)

/-- Core 0 in Guard ring 0 with operands on chip. -/
def withOps (ops : List Nat) : State := bench (coreOf 1 ops []) (coreOf 0 [] []) []

/-- Core 0 in Guard ring 0 with return entries on chip. -/
def withRets (rets : List Nat) : State := bench (coreOf 1 [] rets) (coreOf 0 [] []) []

/-- Words in memory from an address. -/
def State.words (s : State) (a : Nat) (l : List Nat) : State := l.zipIdx.foldl (fun s e => State.st s 4 (a + 4 * e.2) e.1) s

/-- Core 0 in a lesson, with words on its Bell stacks. -/
def lesson (ops rets : List Word) (q : List BellReq) (l : List (Nat × Word)) : State :=
  { bench { coreOf 0 [] [] with bellOps := ops, bellRets := rets, lesson := (3, 4) } (coreOf 0 [] [])
      ([(saveAddr 0 7 15, 0x100000), (saveAddr 0 7 0, 0x200)] ++ l) with
    bells := [(0, q)] }

/-- A gate table of the Guard world at 0x20000000: entry 0 without new stacks, entry 1 with new stacks and two arguments. -/
def gates (ops : List Nat) : State :=
  State.words (bench (coreOf 1 ops []) (coreOf 0 [] []) [(R.GTABG 0, 0x20000000), (R.GTCNT 0, 0x4040)]) 0x20000000
    [0x201, 0x30, 0, 0, 0, 0, 0, 0, 0x301, 0xB8, 0x108000, 0x107000, 0x106000, 0x105000, 0, 0]

def bellReq : BellReq := { slot := 5, tagw := 0x504, entry := 2, guard := true, word := 0x123456789ABC, time := 77 }

/-- Source 0x60 pending and enabled at level 3 for core 0, in the Guard world or the Shop world. -/
def pendingIrq (stw : Nat) (guard : Bool) : State :=
  bench (coreOf stw [1] []) (coreOf 0 [] [])
    [(R.IRQCFG 0x60, if guard then 0x83 else 0x3), (R.IRQCNT 0x60, 0x21), (R.IVECG 0 2, 0x400), (R.IVECS 0 2, 0x500)]


/-! ### The instruction set: states that meet the hypotheses, clause by clause -/

theorem meets_StackGroupMovesEntries :
    (withOps [7, 8, 9]).Ready 0 ∧ (withOps [7, 8, 9]).Handy 0 false 3 3 ∧ (withOps (List.range 14)).Handy 0 false 2 4 ∧
    (withOps (List.range 16)).Handy 0 false 16 16 ∧ (withOps []).Handy 0 true 0 1 ∧
    (withRets [5]).Ready 0 ∧ (withRets [5]).Handy 0 true 1 1 ∧ (withRets [5]).Handy 0 false 0 1 ∧
    (lesson [5] [6] [] []).Ready 0 ∧ (lesson [5] [6] [] []).Handy 0 false 1 2 ∧ (lesson [5] [6] [] []).Handy 0 true 1 1 := by
  and_intros <;> decide

theorem meets_ArithmeticAndDivision :
    (withOps [0, 0x80000000]).Ready 0 ∧ (withOps [0, 0x80000000]).Handy 0 false 2 1 ∧
    (withOps [0xFFFFFFFF, 0x80000000]).Ready 0 ∧ (withOps [0xFFFFFFFF, 0x80000000]).Handy 0 false 2 1 ∧
    wAt ((withOps [0xFFFFFFFF, 0x80000000]).held 0 false) 0 ≠ 0 := by
  and_intros <;> decide

theorem meets_SaturationAndExtraction :
    (withOps [1, 0x7FFFFFFF]).Ready 0 ∧ (withOps [1, 0x7FFFFFFF]).Handy 0 false 2 1 ∧
    ∃ t : Int, roundedTo 2 1 5 t ∧ t = 2 := by
  and_intros <;> first | decide | exact ⟨2, by unfold roundedTo; decide, rfl⟩

theorem meets_BranchesJumpsAndCalls :
    (withOps [7, 7]).Ready 0 ∧ (withOps [7, 7]).Handy 0 false 2 0 ∧
    wAt ((withOps [7, 7]).held 0 false) 1 = wAt ((withOps [7, 7]).held 0 false) 0 ∧
    (withOps [7, 8]).Ready 0 ∧ (withOps [7, 8]).Handy 0 false 2 0 ∧
    wAt ((withOps [7, 8]).held 0 false) 1 ≠ wAt ((withOps [7, 8]).held 0 false) 0 ∧
    (withOps [8]).Handy 0 false 1 0 ∧ (withOps [8]).Handy 0 true 0 1 ∧ (wAt ((withOps [8]).held 0 false) 0).toNat % 2 = 0 ∧
    (withRets [1]).Ready 0 ∧ (withRets [1]).Handy 0 true 1 1 ∧ wAt ((withRets [1]).held 0 true) 0 = 1 ∧
    (withRets [0]).Ready 0 ∧ (withRets [0]).Handy 0 true 1 1 ∧ wAt ((withRets [0]).held 0 true) 0 ≠ 1 ∧
    (wAt ((withRets [0]).held 0 true) 0).toNat % 2 = 0 := by
  and_intros <;> decide

/-- Core 0 with X and Y at TCM addresses, stepping by 4. -/
def withXY (ops rets : List Nat) : State :=
  let x : Xreg := { a := 0x104000, b := 0x104000, cfg := 0, step := 4 }
  bench { coreOf 1 ops rets with x := x, y := { x with a := 0x104100 } } (coreOf 0 [] []) []

theorem macStep_withXY : ∃ d, (withXY [] [3]).MacStep 0 true false ((withXY [] [3]).core 0) d := by
  refine ⟨_, ?_, ?_, 0x104004, 0x104104, ?_, ?_, rfl⟩ <;> and_intros <;>
    first | decide | exact fun h => absurd rfl h | exact fun h => absurd h (by decide)

theorem meets_AccumulatorInstructions :
    (withOps [0x80000000, 0x80000000]).Ready 0 ∧ (withOps [0x80000000, 0x80000000]).Handy 0 false 2 0 ∧
    (withXY [] [3]).Ready 0 ∧ (withXY [] [3]).Handy 0 true 1 0 ∧ (wAt ((withXY [] [3]).held 0 true) 0).toNat = 3 ∧
    (∃ d, (withXY [] [3]).MacStep 0 true false ((withXY [] [3]).core 0) d) ∧
    ∃ d, (withXY [] [3]).MacSteps 0 true false 1 ((withXY [] [3]).core 0) d := by
  and_intros <;> first
    | decide
    | exact macStep_withXY
    | exact macStep_withXY.imp (fun _ h => .succ h (.zero _))

theorem meets_SpecialRegistersReadAndWrite :
    (withOps [0x80]).Ready 0 ∧ (withOps [0x80]).Handy 0 false 1 0 ∧ (withOps [0x80]).Handy 0 false 0 1 ∧
    ((withOps [0x80]).core 0).ring = 0 ∧
    (let s := bench (coreOf 3 [1] []) (coreOf 0 [] []) []
     s.Ready 0 ∧ s.Handy 0 false 1 0 ∧ (s.core 0).ring ≠ 0 ∧ (wAt (s.held 0 false) 0).toNat / 16 % 8 = (s.core 0).stw.toNat / 16 % 8) ∧
    (let s := bench (coreOf 3 [0x70] []) (coreOf 0 [] []) []
     s.EntersFaults 0 ∧ s.Handy 0 false 1 0 ∧ (s.core 0).ring ≠ 0 ∧
       (wAt (s.held 0 false) 0).toNat / 16 % 8 ≠ (s.core 0).stw.toNat / 16 % 8) := by
  and_intros <;> decide

theorem meets_StacksMoveSpillAndFill :
    (let s := withOps [0x10F000]
     s.Ready 0 ∧ s.Handy 0 false 1 0 ∧ s.inLesson 0 = false ∧ (wAt (s.held 0 false) 0).toNat % 4 = 0 ∧
       ((s.core 0).lim false).toNat ≤ (wAt (s.held 0 false) 0).toNat ∧ (wAt (s.held 0 false) 0).toNat ≤ ((s.core 0).base false).toNat ∧
       ((s.core 0).chip false).length = 1 ∧ (s.core 0).ring = 0 ∧
       let d := (s.restack 0 false 1 [] (s.next 0)).setBound false true (wAt (s.held 0 false) 0)
       stackArea (d.lim false) (d.base false) = true ∧ (d.lim false).toNat ≤ (d.sp false).toNat ∧
         (d.sp false).toNat ≤ (d.base false).toNat) ∧
    (let s := withOps (List.range 16)
     let c := s.core 0
     s.Ready 0 ∧ areaFault c.dsbase c.dslim c.dsp false = none ∧ c.ops = entries 0x110000 (List.range 16) ∧ c.dsp.toNat ≤ c.dsbase.toNat ∧ c.dslim.toNat + 4 ≤ c.dsp.toNat ∧
       s.regionOk 0 c.guard c.ring .write 0x10FFF0 16 = true ∧ c.sb.length < 4) ∧
    (let s := bench { coreOf 1 [] [] with dsp := 0x10FFFC } (coreOf 0 [] []) []
     let c := s.core 0
     s.Ready 0 ∧ c.ops = [] ∧ areaFault c.dsbase c.dslim c.dsp false = none ∧ c.dsbase.toNat = c.dsp.toNat + 4 ∧ c.dslim.toNat ≤ c.dsp.toNat ∧ s.Loads 0 c.dsp.toNat 4) := by
  and_intros <;> decide

theorem meets_LoadsAndStores :
    (let s := withOps [0x10FFFC, 5]
     s.Ready 0 ∧ s.Handy 0 false 1 1 ∧ s.Loads 0 0x10FFFC 4 ∧ s.Handy 0 false 2 0 ∧ s.Stores 0 0x10FFFC 4 5) ∧
    (let s := withXY [5] []
     s.Ready 0 ∧ s.Handy 0 false 0 1 ∧ s.Loads 0 0x104000 4 ∧ s.Loads 0 0x104100 1 ∧ s.Handy 0 false 1 0 ∧
       s.Stores 0 ((s.core 0).through true).a.toNat 2 5) := by
  and_intros <;> decide

theorem meets_AtomicsExchangeAndFence :
    (let s := withOps [0x201FFFFC, 0, 9]
     s.Ready 0 ∧ s.Inv ∧ s.Handy 0 false 2 1 ∧ s.Handy 0 false 3 1 ∧ s.Loads 0 0x201FFFFC 4 ∧
       s.regionOk 0 (s.core 0).guard (s.core 0).ring .write 0x201FFFFC 4 = true ∧
       BitVec.ofNat 32 (s.value 0 4 0x201FFFFC) = wAt (s.held 0 false) 1 ∧ (s.core 0).sb = []) ∧
    (let s := withOps [0x100000, 3, 9]
     s.Ready 0 ∧ s.Inv ∧ s.Handy 0 false 3 1 ∧ s.Loads 0 0x100000 4 ∧
       s.regionOk 0 (s.core 0).guard (s.core 0).ring .write 0x100000 4 = true ∧
       BitVec.ofNat 32 (s.value 0 4 0x100000) ≠ wAt (s.held 0 false) 1) := by
  and_intros <;> decide

theorem meets_WaitBreakAndOddCodes :
    (let s := withOps []
     s.Ready 0 ∧ (s.core 0).ring = 0 ∧ s.inLesson 0 = false ∧ s.anyDue 0 = false ∧ s.EntersFaults 0 ∧ ¬(s.mode = .service ∧ true = true) ∧
       s.Handy 0 false 0 0 ∧ s.Handy 0 true 0 0) ∧
    (let s := pendingIrq 1 true
     s.Ready 0 ∧ (s.core 0).ring = 0 ∧ s.inLesson 0 = false ∧ s.anyDue 0 = true) ∧
    (let s := bench (coreOf 7 [] []) (coreOf 0 [] []) []
     s.EntersFaults 0 ∧ (s.core 0).ring ≠ 0) ∧
    (let s := { withOps [] with mode := .service }
     s.mode = .service ∧ s.clocks = true ∧ s.variant.hasCore 0 = true) := by
  and_intros <;> first | decide | exact fun h => absurd h.1 (by decide)

theorem meets_InstructionFaultsAreTaken :
    (let s := withOps []
     s.EntersFaults 0 ∧ areaFault (s.core 0).dsbase (s.core 0).dslim (s.core 0).dsp false = none ∧
       areaFault (s.core 0).rsbase (s.core 0).rslim (s.core 0).rsp true = none ∧
       (s.core 0).dsbase.toNat < (s.core 0).dsp.toNat + 4 ∧ (s.core 0).rsbase.toNat < (s.core 0).rsp.toNat + 4) ∧
    (let s := (withOps []).setCore 0 { coreOf 1 [] [] with dsp := 0x10F000 }
     s.EntersFaults 0 ∧ areaFault (s.core 0).dsbase (s.core 0).dslim (s.core 0).dsp false = none ∧
       (s.core 0).dsp.toNat ≤ (s.core 0).dsbase.toNat ∧ (s.core 0).dsp.toNat < (s.core 0).dslim.toNat + 4) ∧
    (let s := (withOps []).setCore 0 { coreOf 1 [] [] with dslim := 0x120000 }
     s.EntersFaults 0 ∧ (s.core 0).dsp.toNat % 4 = 0 ∧ (s.core 0).dsbase.toNat % 4 = 0 ∧ (s.core 0).dslim.toNat % 4 = 0 ∧
       stackArea (s.core 0).dslim (s.core 0).dsbase = false) ∧
    (let s := (withOps []).setCore 0 { coreOf 1 [] [] with dsp := 0x10FFFE }
     s.EntersFaults 0 ∧ (s.core 0).dsp.toNat % 4 ≠ 0) ∧
    (let s := withOps [1]
     s.EntersFaults 0 ∧ s.Handy 0 false 1 0 ∧ (wAt (s.held 0 false) 0).toNat % 2 = 1) ∧
    (let s := withOps [0, 5]
     s.EntersFaults 0 ∧ s.Handy 0 false 2 1 ∧ wAt (s.held 0 false) 0 = 0) ∧
    (let s := bench (coreOf 7 [0x20000000] []) (coreOf 0 [] []) [(R.RGLIM 0 0, 0x10000004)]
     s.EntersFaults 0 ∧ (s.core 0).ring ≠ 0 ∧ s.Handy 0 false 1 1 ∧ targetOf 0x20000000 = some .sram ∧
       s.regionOk 0 (s.core 0).guard (s.core 0).ring .read 0x20000000 1 = false) := by
  and_intros <;> decide

theorem meets_GatesEnter :
    (gates []).Ready 0 ∧ (gates []).GateOpen 0 0 ∧ ((gates []).gateWord 0 0 1).getLsbD 3 = false ∧ (gates []).Handy 0 true 0 3 ∧
    (let s := gates [7, 8]
     s.Ready 0 ∧ s.GateOpen 0 1 ∧ (s.gateWord 0 1 1).getLsbD 3 = true ∧ (s.gateWord 0 1 1).toNat / 64 % 8 = 2 ∧ s.Handy 0 false 2 0 ∧
       (s.core 0).ops.length = 2 ∧ (s.core 0).rets = []) := by
  and_intros <;> first | decide | (intro h; and_intros <;> first | decide | exact absurd h (by decide))

/-- Return entries of GRET with stacks, two results and a Shop caller. -/
def gretRets : List Nat := [0x302, 0x70, 0xA75E01AC, 0x105F00, 0x107F00, 0x105000, 0x106000, 0x107000, 0x108000]

theorem meets_ReturnsRestoreTheCaller :
    (let s := withRets [0x302, 0x71, 0xA75E0004]
     s.Ready 0 ∧ s.inLesson 0 = false ∧ s.Handy 0 true 3 0 ∧ (wAt (s.held 0 true) 2).toNat / 65536 = 0xA75E ∧
       (wAt (s.held 0 true) 2).toNat % 4 = (s.core 0).ring ∧ (wAt (s.held 0 true) 2).toNat.testBit 2 = (s.core 0).guard ∧
       (wAt (s.held 0 true) 2).toNat.testBit 3 = false ∧ (wAt (s.held 0 true) 1).toNat % 2 = (s.core 0).guard.toNat ∧
       (s.core 0).ring ≤ (wAt (s.held 0 true) 1).toNat / 2 % 4 ∧ s.Handy 0 true 2 0 ∧ (s.core 0).ring = 0) ∧
    (let s := bench (coreOf 1 [3, 4] gretRets) (coreOf 0 [] []) []
     let r := s.held 0 true
     let f := (wAt r 2).toNat
     s.Ready 0 ∧ s.Handy 0 true 9 0 ∧ f / 65536 = 0xA75E ∧ f % 4 = (s.core 0).ring ∧ f.testBit 2 = (s.core 0).guard ∧ f.testBit 3 = true ∧
       f.testBit 7 = true ∧ (s.core 0).guard = true ∧ (wAt r 1).toNat % 2 = 0 ∧ f / 16 % 8 = 2 ∧ s.Handy 0 false 2 0 ∧
       (∀ i, 3 ≤ i → i < 9 → (wAt r i).toNat % 4 = 0) ∧ stackArea (wAt r 7) (wAt r 8) = true ∧ stackArea (wAt r 5) (wAt r 6) = true ∧
       (wAt r 7).toNat + 4 * 2 ≤ (wAt r 4).toNat ∧ (wAt r 4).toNat ≤ (wAt r 8).toNat ∧
       (wAt r 5).toNat ≤ (wAt r 3).toNat ∧ (wAt r 3).toNat ≤ (wAt r 6).toNat) := by
  and_intros <;> first | decide | (intro h; and_intros <;> first | decide | exact absurd h (by decide))

theorem meets_RetwStartsTheShop :
    let s := withRets [0x300, 0x3777, 0x108000, 0x105000, 0x108000, 0x107000, 0x106000, 0x105000]
    let c := s.core 0
    let r := s.held 0 true
    s.Ready 0 ∧ s.inLesson 0 = false ∧ c.guard = true ∧ c.ring = 0 ∧ s.dfAct 0 = false ∧ (∀ n, n < 9 → s.saveAct 0 n = false) ∧
      s.mode ≠ .safe ∧ s.mode ≠ .lockout ∧ s.mode ≠ .service ∧ s.Handy 0 true 8 0 ∧ c.rets.length = 8 ∧ c.ops = [] ∧
      (wAt r 0).toNat % 2 = 0 ∧ (∀ i, 2 ≤ i → i < 8 → (wAt r i).toNat % 4 = 0) ∧
      stackArea (wAt r 5) (wAt r 4) = true ∧ stackArea (wAt r 7) (wAt r 6) = true ∧
      (wAt r 5).toNat ≤ (wAt r 2).toNat ∧ (wAt r 2).toNat ≤ (wAt r 4).toNat ∧
      (wAt r 7).toNat ≤ (wAt r 3).toNat ∧ (wAt r 3).toNat ≤ (wAt r 6).toNat := by
  and_intros <;> first | decide | (intro h; and_intros <;> first | decide | exact absurd h (by decide))

theorem meets_InterruptsAreEntered :
    (pendingIrq 1 true).irqDue 0 = some 0x60 ∧ (pendingIrq 0 true).irqDue 0 = some 0x60 ∧ (pendingIrq 0 false).irqDue 0 = some 0x60 ∧
    (let s := (pendingIrq 0 false).wr (R.NMIPEND 0) 1
     s.nmiDue 0 = true ∧ s.lessonAct 0 = false) := by
  and_intros <;> decide

theorem meets_LessonsRunToTheirEnd :
    (let s := { withOps [] with bells := [(0, [bellReq])] }
     s.lessonDue 0 = true ∧ s.nmiDue 0 = false ∧ s.bell 0 = bellReq :: []) ∧
    (let s := lesson [5] [] [] [(R.BELLCFG 0, 0x500)]
     s.Ready 0 ∧ s.inLesson 0 = true ∧ s.bell 0 = [] ∧ s.fld (R.BELLCFG 0) R.BELLCFG_LIMIT ≠ 0 ∧ s.hasSrc 0xA8 = true ∧
       s.fld (R.IRQCNT 0xA8) R.IRQCNT_COUNT < 15) ∧
    (let s := lesson [5] [] [bellReq] []
     s.Ready 0 ∧ s.inLesson 0 = true ∧ s.bell 0 = bellReq :: [] ∧ s.nmiPending 0 = false) := by
  and_intros <;> decide

/-- A handler of level 3 that RETI leaves, entered with or without a switch of stacks. -/
def handler (sw : Bool) : State :=
  bench (coreOf 1 [] []) (coreOf 0 [] [])
    [(saveAddr 0 2 15, if sw then 0x130060 else 0x110060), (saveAddr 0 2 0, 0x200), (saveAddr 0 2 1, if sw then 0 else 1),
     (saveAddr 0 2 2, if sw then 0x108000 else 0x110000), (saveAddr 0 2 3, if sw then 0x105000 else 0x10F000),
     (R.XDSBASE 0, 0x108000), (R.XDSLIM 0, 0x107000), (R.XRSBASE 0, 0x106000), (R.XRSLIM 0, 0x105000)]

theorem meets_RetiRestoresTheContext : ∀ sw : Bool,
    let s := handler sw
    let n := s.cp 0 - 1
    let w (j : Nat) : Word := s.rd (saveAddr 0 n j)
    let b (i : Nat) : Word := if (w 15).getLsbD 17 then s.rd (R.XDSBASE 0 + 4 * i) else wAt [0x110000, 0x10F000, 0x10F000, 0x10E000] i
    (w 15).getLsbD 17 = sw ∧ s.Ready 0 ∧ s.inLesson 0 = false ∧ (s.core 0).ring = 0 ∧ s.dfAct 0 = false ∧ s.nmiAct 0 = false ∧ s.cp 0 ≠ 0 ∧
      (w 15).getLsbD 16 = (s.core 0).guard ∧ (w 0).toNat % 2 = 0 ∧
      (b 1).toNat ≤ (w 2).toNat ∧ (w 2).toNat ≤ (b 0).toNat ∧ (b 3).toNat ≤ (w 3).toNat ∧ (w 3).toNat ≤ (b 2).toNat := by
  intro sw
  cases sw <;> and_intros <;> decide

theorem meets_DoubleAndThirdFaults :
    (let s := (withOps []).setCore 0
        { coreOf 1 [] [] with fault := some { kind := 3, pc := 0x50, stw := 1, dsp := 0x110000, rsp := 0x10F000, bnd := [] } }
     let s := State.wrs s [(R.GDSBASE 0, 0x108000), (R.GDSLIM 0, 0x107000), (R.GRSBASE 0, 0x106000), (R.GRSLIM 0, 0x105000)]
     s.Ready 0 ∧ s.inLesson 0 = false ∧ (s.core 0).guard = true ∧ (s.core 0).fault.isSome = true ∧ s.dfAct 0 = false ∧
       s.gStackFault 0 0 = none) ∧
    (let s := bench (coreOf 1 [] []) (coreOf 1 [] []) [(R.DFSTAT 1, 0x100)]
     s.Ready 1 ∧ s.inLesson 1 = false ∧ (s.core 1).guard = true ∧ s.dfAct 1 = true) := by
  and_intros <;> decide

/-! ### Supplies, modes, DAWN and registers -/

/-- PREPARE with core 0 at Guard ring 0. -/
def base : State := (withOps []).wr R.HMALARM 0

/-- A transition in progress. -/
def leaving (m : Mode) : State := { base with trans := some { target := m, req := .guard, src := .prepare, cause := 0, path := (0, true, 0) } }

theorem meets_SuppliesAndResets :
    (let s := { base with mode := .night, supply := [false, true, true] }
     s.mode = .night ∧ s.supply.all id = false ∧ s.resetN = true ∧ s.supply.headD true = false ∧ s.supply.length = 3) ∧
    base.supply.length = 3 ∧ base.mode ≠ .night ∧ base.resetN = true ∧ base.dawn ≠ .waitReset ∧
    (let s := { base with dawn := DawnPhase.waitReset }
     s.dawn = .waitReset ∧ s.supply.all id = true) := by
  and_intros <;> decide

theorem meets_ModeRequestsAreJudged :
    base.MayAsk (.core 0) .run ∧ base.MayAsk .staff .run ∧ base.trans = none ∧ base.mode = .prepare ∧ base.resetN = true ∧
    ModePath base .prepare .run .guard ∧ base.modeAsker (.core 0) = .guard ∧ ModePath base .prepare .dawn .staff ∧
    ¬ModePath base .prepare .hold .guard ∧ (leaving .run).trans ≠ none ∧ (leaving .run).MayAsk (.core 0) .hold ∧
    (let s := { base with mode := .lockout }
     s.mode = .lockout ∧ s.MayAsk .staff .dawn ∧ ¬ModePath s .lockout .dawn .staff) ∧
    (let s := { base with mode := .dawn, dawn := .guardInit }
     s.MayAsk (.core 0) .prepare ∧ ModePath s .dawn .prepare .guard ∧ s.estopN = true ∧ s.fld R.DAWNSTAT R.DAWNSTAT_HMALARM = 0) := by
  and_intros <;> first
    | decide
    | exact .run _ (by decide) (by decide) (by decide) (by decide)
    | exact .dawn _ _ (by decide) (by decide) (by decide)
    | exact .prepareOfDawn (by decide)
    | (intro h; cases h; done)
    | (intro h; cases h with | dawn _ _ _ h => exact h rfl | dawnOfLockout h => exact absurd h (by decide))

theorem meets_TransitionsComplete :
    (∀ m ∈ [Mode.run, .safe, .service], (leaving m).trans = some { target := m, req := .guard, src := .prepare, cause := 0, path := (0, true, 0) } ∧
      (leaving m).estopN = true ∧ m ≠ .night ∧ (leaving m).mode ≠ .hold) ∧
    (leaving .night).trans.isSome = true ∧ base.variant.hasCore 4 = true ∧
    base.trans = none ∧ base.hall.sleepDue = false ∧ { base.hall with sleepDue := true }.sleepDue = true := by
  decide

def dawnResult (otp self img : Bool) : DawnResult :=
  { otpFail := otp, selfFail := self, imgOk := img, meas := [], enroll := false, uart := false }

/-- Every DRBG instance of the variant is instantiated at edge 0. -/
def seeded : List (Nat × Drbg) := base.variant.drbgList.map (fun n => (n, { Drbg.reset with state := .ready }))

/-- DAWN waits for the identity check, with the identity key as given. -/
def identity (k : KeySlot) : State :=
  { (base.setFld R.RNGSTAT R.RNGSTAT_READY 1).setKey 0 k with mode := .dawn, dawn := .identity, drbgs := seeded }

theorem meets_DawnSteps :
    (State.reset.mode = .dawn ∧ State.reset.dawn = .waitClock ∧ State.reset.resetN = true ∧ State.reset.supply.all id = true) ∧
    ((dawnResult true false true).otpFail = true ∧ (dawnResult false true true).selfFail = true ∧ (dawnResult false false false).imgOk = false) ∧
    (let s := identity { state := .set, key := [1] }
     s.dawn = .identity ∧ s.rngStopped = false ∧ s.fld R.RNGSTAT R.RNGSTAT_READY = 1 ∧ s.rngDone = true ∧ (s.key 0).state = .set ∧
       s.fld R.DAWNSTAT R.DAWNSTAT_IMGBAD = 0) ∧
    (let s := identity { state := .erased, key := [] }
     s.dawn = .identity ∧ s.rngStopped = false ∧ s.fld R.RNGSTAT R.RNGSTAT_READY = 1 ∧ s.rngDone = true ∧ (s.key 0).state = .erased) ∧
    (let s := { base with mode := .dawn, dawn := .rollCall, cores := [] }
     s.dawn = .rollCall ∧ ((s.advance 1000).core 0).started = false) ∧
    (let u := { base with mode := Mode.dawn, dawn := DawnPhase.guardInit }.advance 1000
     u.dawn = .guardInit ∧ u.mode = .dawn ∧ u.trans = none) := by
  and_intros <;> decide

theorem meets_CoresAreReleasedAndHalted :
    (let s := base.wr R.CORERUN 1
     s.fld R.CORERUN R.CORERUN_RUN < 2 ^ (s.variant.nInd + 1) ∧ s.variant.hasCore 4 = true ∧ (s.fld R.CORERUN R.CORERUN_RUN).testBit 4 = false ∧
       s.Reaches (.core 0) R.CORERUN 0x11 ∧ (s.fld R.CORERUN R.CORERUN_RUN).testBit 0 = true ∧ s.Reaches (.core 0) R.CORERUN 0) ∧
    (let s := { base.wr R.CORERUN 1 with variant := .fn4808 }
     s.fld R.CORERUN R.CORERUN_RUN < 2 ^ (s.variant.nInd + 1) ∧ s.variant.hasCore 4 = false ∧ s.Reaches (.core 0) R.CORERUN 0x11) := by
  and_intros <;> decide

theorem meets_EmergencyStopActs :
    (base.advance 1000).trans = none ∧ (base.advance 1000).mode = .prepare ∧ base.estopN = true ∧ (base.advance 1000).estopPasses 1000 = true ∧
    ({ base with estopAt := some 1000 }.advance 1000).estopPasses 1000 = false ∧ base.Reaches (.core 0) R.ESTOPCFG 0xFF ∧
    (base.asker (.core 0)).priv = true ∧ (base.advance 1000).svcLow = none ∧
    (let s := { base with mode := .run, estopN := false }
     s.estopN = false ∧ (s.advance 1000).estopPasses 1000 = true ∧ s.mode ≠ .prepare ∧ s.Reaches (.core 0) R.ESTOPCFG 0xFF ∧ s.Reaches .staff R.ESTOPCFG 0xFF) ∧
    (let u := { base with mode := Mode.dawn, dawn := DawnPhase.guardInit }.advance 1000
     u.mode = .dawn) := by
  and_intros <;> decide

theorem meets_RegistersFollowTheirTypes :
    base.Reaches (.core 0) R.RSTCAUSE 0x1FF ∧ base.Reaches .staff R.RSTCAUSE 1 ∧ base.Reaches (.core 0) R.DAWNSTAT 0 ∧
    base.Reaches (.core 0) R.CLKOBS 7 ∧ base.Reaches (.core 0) (R.FVECG 4) 0xFFFFFFFF ∧ base.variant.hasCore 4 = true ∧
    base.ReachesRead (.core 0) R.CLKSTAT ∧ base.ReachesRead .staff R.CLKSTAT ∧ base.ReachesRead (.core 0) (R.TBPOSL 31) ∧
    base.variant.hasTb 31 = true ∧
    (PlainReg (R.GENTRY 4) ∧ base.Reaches (.core 0) (R.GENTRY 4) 0xFFFFFFFF) ∧
    (CountReg base.variant R.SUPSTAT ∧ base.ReachesRead (.core 0) R.SUPSTAT) ∧
    (LatchRow base.variant R.WALLL R.WALLTOP ∧ LatchRow base.variant (R.PCCOUNTL 15) (R.PCCOUNTH 15) ∧
      base.ReachesRead .staff R.WALLL ∧ base.ReachesRead (.core 0) (R.PCCOUNTL 15)) ∧
    (base.EntersFaults 0 ∧ ∀ e ∈ [(0x40000002, Size.word), (0x40000004, .half)], base.privFault (base.who 0) e.1 e.2.bytes true 0 = none ∧
      (e.1 % e.2.bytes = 0 → base.regionOk 0 (base.core 0).guard (base.core 0).ring .write e.1 e.2.bytes = true)) := by
  and_intros <;> first | decide | exact .gentry 4 (by decide) | exact .supstat | exact .walltop | exact .count 15 (by decide)

/-! ### Positions and mains -/

/-- Channel 0 in a state, with PCCTL and other registers as given; timebase 0 runs from it. -/
def chanOf (v : Word) (st : ChState) (f : Channel → Channel) (l : List (Nat × Word)) : State :=
  let s := bench (coreOf 1 [] []) (coreOf 0 [] []) ([(R.PCCTL 0, v)] ++ l)
  (s.setChan 0 (f { s.chan 0 with state := st, valid := [true, true, true], lvl := [false, true, false] })).setTb 0
    { s.tb 0 with state := .run, src := 0, ref := true, word := 1280 }

/-- PCCTL with a MODE. -/
def modeWord (n : Nat) : Word := R.PCCTL_MODE.put (resetAt (R.PCCTL 0)) n

theorem meets_ChannelsAreConfigured :
    (let s := chanOf (modeWord 0) .off id []
     0 < s.variant.nLocal ∧ R.PCCTL_MODE.get (modeWord 4) = 4 ∧ 0 < s.variant.nAdc ∧ R.PCCTL_DECODE.get (modeWord 4) ≠ 3 ∧
       s.Reaches (.core 0) (R.PCCTL 0) (modeWord 4) ∧ (s.chan 0).state = .off ∧ R.PCCTL_CLR.get (modeWord 4) = 0 ∧
       R.PCCTL_MODE.get (modeWord 5) = 5 ∧ s.Reaches (.core 0) (R.PCIDXCTL 0) (R.PCIDXCTL_ARM.put 0 1)) ∧
    (let s := { chanOf (modeWord 1) .track id [] with mode := .run }
     (s.chan 0).state = .track ∧ s.mode ≠ .prepare ∧ s.Reaches .staff (R.PCCTL 0) (modeWord 0)) ∧
    (let s := chanOf (modeWord 1) .fault id []
     (s.chan 0).state = .fault ∧ s.Reaches (.core 0) (R.PCCTL 0) (R.PCCTL_CLR.put (modeWord 1) 1)) ∧
    (let s := chanOf (modeWord 1) .fault (fun x => { x with valid := [true, false, true] }) []
     (s.chan 0).state = .fault ∧ s.PairChecked 0 1 ∧ (s.chan 0).valid.getD 1 true = false) := by
  and_intros <;> decide

/-- A level that changed its accepted value at edge 990 has stood for FILT + 1 PSCLK at edge 1000; one of edge 1000 has not. -/
theorem meets_StepsAndIndexAreCounted :
    (let u := (chanOf (modeWord 1) .track (fun x => { x with accK := [some 1000, some 990, none] }) []).advance 1000
     (u.chan 0).accK.getD 0 none = some 1000 ∧ (u.chan 0).accK.getD 1 none = some 990 ∧ (u.chan 0).accK.getD 2 none = none ∧
       R.PCCTL_FILT.get (u.effAt (R.PCCTL 0) (1000 - 2)) ≤ 9) ∧
    (∀ st ∈ [ChState.sync, .off, .fault], ((chanOf (modeWord 1) st id []).advance 1000 |>.chan 0).state = st ∧
      ((chanOf (modeWord 1) st id []).advance 1000).fld (R.PCCTL 0) R.PCCTL_MODE = 1) ∧
    (∀ v ∈ [modeWord 1, R.PCCTL_DIR.put (modeWord 1) 1, R.PCCTL_DECODE.put (modeWord 1) 1, R.PCCTL_DECODE.put (modeWord 1) 2],
      let u := (chanOf v .track (fun x => { x with count := 2 ^ 39 - 1 }) []).advance 1000
      u.fld (R.PCCTL 0) R.PCCTL_MODE = 1 ∧ (u.chan 0).state = .track ∧ (u.chan 0).lvl = [false, true, false]) ∧
    (∀ v ∈ [R.PCIDXCTL_ZMODE.put 0 0, R.PCIDXCTL_ZMODE.put 0 1, R.PCIDXCTL_ZARMED.put (R.PCIDXCTL_ZMODE.put 0 1) 1],
      let u := (chanOf (R.PCCTL_ZEN.put (modeWord 1) 1) .track (fun x => { x with idxRef := some (-100, x.stepUp) })
        [(R.PCIDXCTL 0, v), (R.PCZDIST 0, 100)]).advance 1000
      u.fld (R.PCCTL 0) R.PCCTL_ZEN = 1 ∧ (u.chan 0).state = .track ∧ u.fld (R.PCIDXCTL 0) R.PCIDXCTL_ZINV = 0 ∧
        (u.chan 0).lvl = [false, true, false] ∧ R.PCIDXCTL_ZQUAL.get (u.effAt (R.PCIDXCTL 0) (1000 - 2)) = 0 ∧
        (u.chan 0).idxRef = some (-100, (u.chan 0).stepUp) ∧ u.fld (R.PCZDIST 0) R.PCZDIST_DIST = 100) ∧
    isWrapped 40 (0 - -100) 100 := by
  and_intros
  · decide
  · decide
  · decide
  · decide
  · intro st h
    simp only [List.mem_cons, List.not_mem_nil, or_false] at h
    rcases h with rfl | rfl | rfl <;> and_intros <;> decide
  · intro v hv
    simp only [List.mem_cons, List.not_mem_nil, or_false] at hv
    rcases hv with rfl | rfl | rfl | rfl <;> and_intros <;> decide
  · intro v hv
    simp only [List.mem_cons, List.not_mem_nil, or_false] at hv
    rcases hv with rfl | rfl | rfl <;> and_intros <;> decide
  all_goals decide

theorem meets_StepRow : StepRow 0 false false true true true (some false) ∧ StepRow 2 true false true true true (some true) :=
  ⟨.changeA _ _ _ (by decide) (by decide), .riseA _ (by decide)⟩

/-- With WBFILT 64: pair B invalid since edge 936 is broken at edge 1000, pair A since 937 is not. -/
theorem meets_WireChecksFaultChannels :
    (let u := (chanOf (modeWord 1) .track id []).advance 1000
     (u.chan 0).state = .track ∧ u.PairChecked 0 0 ∧ u.PairChecked 0 1 ∧ ¬u.PairChecked 0 2 ∧ R.PCCTL_WBFILT.get (u.eff (R.PCCTL 0)) = 64 ∧
       (1, 936) ∈ [(0, 937), (1, 936)] ∧ 936 + 64 ≤ 1000 ∧ ¬(937 + 64 ≤ 1000)) ∧
    (∀ k ∈ [8, 7], let u := { chanOf (modeWord 1) .sync id [] with now := 0 }.advance k
     (u.chan 0).state = .sync ∧ u.fld (R.PCCTL 0) R.PCCTL_MODE = 1 ∧ (u.chan 0).syncK = 0 ∧ u.now = k) := by
  and_intros <;> first | decide | (unfold State.PairChecked; decide)

def frame (idle : Bool) (bits : List Bool) : Frame := { idle := idle, ack := true, start := true, cds := false, delay := 0, bits := bits }

/-- An SSI channel of 8 bits with a frame under way, the last good position and PCJUMP 3. -/
def ssi (bad : Nat) (last : Nat) : State :=
  chanOf (modeWord 2) .track (fun x => { x with frameRun := some 0, lastGood := some last, badRun := bad })
    [(R.PCABS 0, R.PCABS_POSBITS.put 0 8), (R.PCREQ 0, 0xFFFFFFFF), (R.PCJUMP 0, 3)]

theorem meets_EncoderFramesAreTaken :
    (let s := chanOf (modeWord 2) .sync id [(R.PCREQ 0, 100)]
     s.fld (R.PCCTL 0) R.PCCTL_MODE = 2 ∧ (s.chan 0).state ≠ .off ∧ s.fld (R.PCREQ 0) R.PCREQ_REQPER ≠ 0 ∧ s.now % 8 = 0 ∧
       (s.chan 0).reqK = none ∧ (s.chan 0).frameRun = none ∧ (s.chan 0).busyTill ≤ s.now) ∧
    (let s := chanOf (modeWord 2) .sync (fun x => { x with frameRun := some 0, reqK := some 992 }) [(R.PCREQ 0, 1)]
     (s.chan 0).frameRun.isSome = true ∧ (s.chan 0).reqK = some 992 ∧ 992 + 8 * s.fld (R.PCREQ 0) R.PCREQ_REQPER ≤ s.now) ∧
    ({ chanOf (modeWord 2) .sync id [(R.PCREQ 0, 100)] with now := 1001 }.now % 8 ≠ 0) ∧
    (∀ e ∈ [(0, 2), (2, 250), (0, 9)],
      let u := (ssi e.1 e.2).advance 1000
      u.fld (R.PCCTL 0) R.PCCTL_MODE = 2 ∧ (u.chan 0).frameRun = some 0 ∧ (u.chan 0).state = .track ∧ u.fld (R.PCABS 0) R.PCABS_LEAD = 0 ∧
        u.fld (R.PCABS 0) R.PCABS_GRAY = 0 ∧ u.fld (R.PCABS 0) R.PCABS_PAR = 0 ∧ (u.chan 0).lastGood = some e.2 ∧
        u.fld (R.PCABS 0) R.PCABS_POSBITS = 8 ∧ u.fld (R.PCJUMP 0) R.PCJUMP_LIMIT = 3 ∧ (u.chan 0).badRun = e.1 ∧
        u.fld (R.PCABS2 0) R.PCABS2_BADLIM = 3) ∧
    bitsVal ((frame true [false, false, false, false, false, true, false, true]).bits.take 8) = 5 ∧
    isWrapped 8 (5 - 2) 3 ∧ isWrapped 8 (5 - 9) (-4) ∧
    (∀ st ∈ [ChState.track, .fault], let u := (chanOf (modeWord 3) st (fun x => { x with frameRun := some 0 }) []).advance 1000
      u.fld (R.PCCTL 0) R.PCCTL_MODE = 3 ∧ (u.chan 0).frameRun = some 0 ∧ (u.chan 0).state = st ∧ (u.chan 0).badRun = 0) := by
  and_intros <;> decide

/-- A SINCOS channel with AMIN 16, AMAX 240 and INTERP 3. -/
def sincos (st : ChState) (f : Channel → Channel) : State := chanOf (modeWord 4) st f [(R.PCSC 0, 0xF0100003)]

/-- Every number has its value in the range of an `n`-bit number. -/
theorem isWrapped_ex (n : Nat) (x : Int) (h : 0 < n) : ∃ y, isWrapped n x y := by
  obtain ⟨m, rfl⟩ : ∃ m, n = m + 1 := ⟨n - 1, by omega⟩
  have p : (0 : Int) < 2 ^ m := by positivity
  refine ⟨(x + 2 ^ m) % 2 ^ (m + 1) - 2 ^ m, ?_, ?_, ?_⟩
  · have := Int.emod_nonneg (x + 2 ^ m) (b := 2 ^ (m + 1)) (by positivity)
    simp only [Nat.add_sub_cancel]; omega
  · have := Int.emod_lt_of_pos (x + 2 ^ m) (b := 2 ^ (m + 1)) (by positivity)
    simp only [Nat.add_sub_cancel]; rw [pow_succ] at *; omega
  · have e : (x + 2 ^ m) % 2 ^ (m + 1) - 2 ^ m - x = -(2 ^ (m + 1) * ((x + 2 ^ m) / 2 ^ (m + 1))) := by
      have := Int.mul_ediv_add_emod (x + 2 ^ m) (2 ^ (m + 1))
      omega
    rw [e]; simp

/-- The samples on the axes have an exact angle: 0° for (0, 1500) and 90° for (1500, 0). -/
theorem meets_SinCosSamplesAreTaken :
    (let u := (sincos .track (fun x => { x with lowRun := 3 })).advance 1000
     u.fld (R.PCCTL 0) R.PCCTL_MODE = 4 ∧ (u.chan 0).state = .track ∧ 3 ≤ (u.chan 0).lowRun ∧
       sincosAmp (u.sincosPair 0 0 0) < u.fld (R.PCSC 0) R.PCSC_AMIN) ∧
    (∀ st ∈ [ChState.sync, .track, .fault, .off], let u := (sincos st (fun x => { x with highRun := 3, goodRun := 15, sampled := true })).advance 1000
     (u.chan 0).state = st ∧ 3 ≤ (u.chan 0).highRun ∧ 15 ≤ (u.chan 0).goodRun ∧ (u.chan 0).sampled = true ∧ (u.chan 0).angle < 65536 ∧
       2 ≤ u.fld (R.PCSC 0) R.PCSC_INTERP ∧ u.fld (R.PCSC 0) R.PCSC_INTERP ≤ 10) ∧
    (let u := (sincos .track id).advance 1000
     ¬(sincosAmp (u.sincosPair 0 0 1500) < u.fld (R.PCSC 0) R.PCSC_AMIN) ∧
       ¬(u.fld (R.PCSC 0) R.PCSC_AMAX < sincosAmp (u.sincosPair 0 0 1500)) ∧
       u.sincosAngle 0 (u.sincosPair 0 0 1500) = 0 ∧ u.sincosAngle 0 (u.sincosPair 0 1500 0) = 16384) ∧
    isWrapped 16 ((0 : Int) - 65535) 1 ∧ isWrapped 16 ((16384 : Int) - 0) 16384 := by
  and_intros <;> first
    | decide
    | decide +kernel
    | (intro st h
       simp only [List.mem_cons, List.not_mem_nil, or_false] at h
       rcases h with rfl | rfl | rfl | rfl <;> and_intros <;> decide)

/-- The mains block in a state at 5 MHz of window, its last crossing at edge 0. -/
def mainsOf (st : MzState) (l : List (Nat × Word)) : State :=
  { bench (coreOf 1 [] []) (coreOf 0 [] []) ([(R.MZWIN, 0x00640001), (R.MZLOSS, 10)] ++ l) with
    now := 20000, mains := { Mains.reset with state := st, refK := some 0, riseK := some 0, useK := some 0, useP := 1000, runLen := 1 } }

/-- A rise that stays high 1 ms, MZFILT being at its reset value. -/
theorem meets_MainsIsMeasured :
    (base.mains.state = .off ∧ base.Reaches (.core 0) R.MZCTL (R.MZCTL_EN.put (base.rd R.MZCTL) 1)) ∧
    ((mainsOf .track []).mains.state ≠ .off ∧ (mainsOf .track []).Reaches .staff R.MZCTL (R.MZCTL_EN.put ((mainsOf .track []).rd R.MZCTL) 0)) ∧
    (∀ st ∈ [MzState.track, .sync, .lost],
      let u := (mainsOf st []).advance 20000
      u.mains.state = st ∧ 200 * u.fld R.MZCTL R.MZCTL_MZFILT ≤ 200000 ∧ u.mains.riseK = some 0 ∧
        20000 * (u.fld R.MZCTL R.MZCTL_MZBLANK : Int) ≤ 20000 - 0 ∧ u.mains.refK = some 0 ∧
        (20000 : Int) + sx 24 (u.fld R.MZSKEW R.MZSKEW_SKEW) = 0 + (20000 : Nat) ∧ u.mains.useK.isSome = true ∧
        200 * u.fld R.MZWIN R.MZWIN_PMIN ≤ 20000 ∧ 20000 ≤ 200 * u.fld R.MZWIN R.MZWIN_PMAX ∧ ¬(20001 ≤ 200 * u.fld R.MZWIN R.MZWIN_PMAX) ∧
        1 ≤ u.mains.runLen ∧ u.fld R.MZLOSS R.MZLOSS_LOSS ≠ 0 ∧ u.mains.sinceK + 8 * u.fld R.MZLOSS R.MZLOSS_LOSS ≤ 20000) ∧
    (let s := mainsOf .sync []
     let u := { s with mains := { s.mains with refK := none, useK := none } }.advance 20000
     u.mains.state ≠ .off ∧ u.mains.refK = none ∧ u.mains.useK = none) ∧
    (let u := (mainsOf .track [(R.MZCTL, R.MZCTL_MZBLANK.put 1 2)]).advance 20000
     u.mains.state ≠ .off ∧ u.mains.riseK = some 0 ∧ ¬(20000 * (u.fld R.MZCTL R.MZCTL_MZBLANK : Int) ≤ 20000 - 0)) := by
  and_intros <;> decide

/-! ### Timebases and captures -/

/-- Timebase `i` of kind `n` in a state, with registers as given. -/
def tbOf (i n : Nat) (st : TbState) (f : Timebase → Timebase) (l : List (Nat × Word)) : State :=
  let s := bench (coreOf 1 [] []) (coreOf 0 [] []) ([(R.TBCFG i, resetAt (R.TBCFG i) ||| R.TBCFG_KIND.put 0 n)] ++ l)
  s.setTb i (f { s.tb i with state := st, ref := true, word := 1280 })

/-- A timebase command at its boundary. -/
def tbCmd (n src : Nat) : TbCmd := { cmd := n, newsrc := src, dueK := 1000, atK := 1000, who := 0, guard := true, ring := 0 }

theorem meets_TimebaseCommandsWaitForTheBoundary :
    (let s := { tbOf 0 1 .run id [] with handed := true }
     s.kind 0 = 1 ∧ (s.tb 0).state = .run ∧ (s.tb 0).cmd = none ∧ ¬s.awaitsHandover 0 ∧
       s.Reaches (.core 0) (R.TBCMD 0) (R.TBCMD_CMD.put 0 1) ∧ s.Reaches .staff (R.TBCMD 0) (R.TBCMD_CMD.put 0 4) ∧ s.variant.nLocal ≤ 31 ∧
       (s.chan 15).state = .off ∧ 15 < s.variant.nLocal) ∧
    (let s := { tbOf 0 1 .off (fun x => { x with cmd := some (tbCmd 1 0) }) [] with handed := true }
     s.kind 0 = 1 ∧ (s.tb 0).cmd = some (tbCmd 1 0) ∧ (tbCmd 1 0).atK = s.now ∧ (tbCmd 1 0).who ≠ 5 ∧
       s.Reaches .staff (R.TBCMD 0) (R.TBCMD_CMD.put 0 4) ∧ s.Reaches (.core 0) (R.TBCMD 0) (R.TBCMD_CMD.put 0 4)) ∧
    (let s := { tbOf 16 3 .off id [(R.TBCFG 17, R.TBCFG_KIND.put 0 3)] with handed := true, mode := .run }
     s.kind 16 = 3 ∧ s.kind 17 = 3 ∧ (s.tb 16).state ≠ .run ∧ (s.tb 16).cmd = none ∧ s.mode ≠ .prepare ∧ s.kind 16 ∉ [1] ∧
       s.Reaches (.core 0) (R.TBCMD 16) (R.TBCMD_NEWSRC.put (R.TBCMD_CMD.put 0 6) 17)) ∧
    ((tbOf 16 3 .run id []).kind 16 = 3 ∧ (tbOf 16 3 .run id []).kind 0 ≠ 3 ∧ State.reset.variant.hasTb 0 = true ∧ Variant.fn4808.hasTb 9 = false) ∧
    (let s := tbOf 0 1 .run id [(R.HWCFG 0, R.HWCFG_ASSIGNED.put 0 1)]
     s.handed = false ∧ s.fld (R.HWCFG 0) R.HWCFG_ASSIGNED = 1 ∧ s.fld (R.HWCFG 0) R.HWCFG_TB = 0) ∧
    ((base.setChan 15 { Channel.reset with state := .track }).chan 15).state = .track := by
  and_intros <;> first | decide | (intro h; exact absurd h.1 (by decide))

theorem meets_TimebaseCommandsTakeEffect :
    (∀ n ∈ [1, 2, 3, 4, 5, 6], let s := tbOf 0 1 .run (fun x => { x with cmd := some (tbCmd n 1) }) [(R.TBSETL 0, 500)]
      s.kind 0 = 1 ∧ (s.tb 0).state = .run ∧ (s.tb 0).cmd = some (tbCmd n 1) ∧ (tbCmd n 1).dueK ≤ s.now ∧ (s.chan 1).state = .off) ∧
    (let s := tbOf 16 3 .off (fun x => { x with cmd := some (tbCmd 6 16) }) []
     s.kind 16 = 3 ∧ (s.tb 16).state ≠ .run ∧ (s.tb 16).cmd = some (tbCmd 6 16)) ∧
    (let s := (tbOf 0 1 .run (fun x => { x with cmd := some (tbCmd 6 15) }) []).setChan 15 { Channel.reset with state := .track }
     s.kind 0 = 1 ∧ (s.chan 15).state ∉ [ChState.off, .fault]) ∧
    (let s := (tbOf 16 3 .run (fun x => { x with cmd := some (tbCmd 5 1) }) []).setTb 1 { Timebase.reset with state := .run }
     s.kind 16 = 3 ∧ (s.tb 1).state = .run) := by
  decide

theorem meets_TimebaseRegistersAreWritten :
    (base.kind 16 ≠ 2 ∧ base.kind 16 ≠ 3 ∧ base.mode = .prepare ∧ base.variant.enward = true ∧
      base.Reaches (.core 0) (R.TBCFG 16) (R.TBCFG_KIND.put 0 3) ∧ base.variant.hasTb (base.tb 16).src = true ∧ base.kind (base.tb 16).src ≠ 3 ∧ base.Reaches (.core 0) (R.TBCFG 27) (R.TBCFG_KIND.put 0 2) ∧
      base.Reaches (.core 0) (R.TBCFG 0) (R.TBCFG_KIND.put 0 2) ∧ base.kind 0 ≠ 2 ∧ base.kind 28 ∉ [1, 3, 6] ∧
      base.Reaches (.core 0) (R.TBMOD 28) 5) ∧
    (let s := (tbOf 17 3 .run id []).setTb 16 { (tbOf 17 3 .run id []).tb 16 with src := 17 }
     s.kind (s.tb 16).src = 3 ∧ ¬((s.tb 16).src < 16) ∧ s.kind 16 ≠ 3 ∧ s.Reaches .staff (R.TBCFG 16) (R.TBCFG_KIND.put 0 3)) ∧
    (let s := tbOf 16 3 .run id []
     s.kind 16 = 3 ∧ s.Reaches (.core 0) (R.TBCFG 16) 0 ∧ s.Reaches (.core 0) (R.TBMOD 16) 0xFFFFFFFF ∧ s.Reaches .staff (R.TBGDEN 16) 0 ∧
       s.Reaches (.core 0) (R.TBGDEN 16) 1 ∧ s.Reaches (.core 0) (R.TBSYNVEL 16) 1) ∧
    (let s := { tbOf 30 6 .run id [] with mode := .run }
     s.kind 30 = 6 ∧ s.mode ≠ .prepare ∧ s.Reaches (.core 0) (R.TBMOD 30) 1 ∧ s.Reaches (.core 0) (R.TBSYNVEL 30) 0x80000000) ∧
    (base.fld R.WALLCTL R.WALLCTL_OWNER ∉ [1, 2] ∧ base.wall.step = none ∧ base.Reaches (.core 0) R.WADJ 0xFFFFFFFF ∧
      base.Reaches (.core 0) R.WSTEPH 0 ∧ base.en.state = .down ∧ (base.asker (.core 0)).priv = true ∧
      base.Reaches (.core 0) R.WSTEPL 0xFFFFFFFF ∧ base.Reaches .staff R.WALLCTL (R.WALLCTL_OWNER.put 0 (base.fld R.WALLCTL R.WALLCTL_OWNER)) ∧
      base.Reaches (.core 0) R.WALLCTL (R.WALLCTL_OWNER.put 0 3) ∧ R.WALLCTL_OWNER.get (R.WALLCTL_OWNER.put 0 3) ≠ base.fld R.WALLCTL R.WALLCTL_OWNER) ∧
    ({ base with wall := { base.wall with step := some 5 } }.wall.step ≠ none ∧
      (base.wr R.WALLCTL (R.WALLCTL_OWNER.put 0 2)).fld R.WALLCTL R.WALLCTL_OWNER ∈ [1, 2]) ∧
    (let s := bench (coreOf 0 [] []) (coreOf 0 [] []) []
     (s.asker (.core 0)).priv = false ∧ s.Reaches (.core 0) R.WALLCTL (R.WALLCTL_OWNER.put 0 3)) := by
  and_intros <;> decide

theorem meets_CapturesAndBoundaries :
    (let u := { tbOf 16 3 .run id [] with now := 20000000 }
     (u.tb 16).state = .run ∧ (u.tb 16).still = false ∧ u.kind 16 = 3 ∧ (u.tb 16).zeroK + u.stillPs 16 ≤ 20000000 ∧ (u.tb 16).vel = 0) ∧
    (let u := { chanOf (modeWord 1) .track id [(R.TBCFG 0, R.TBCFG_EVSTILL.put (R.TBCFG_KIND.put 0 1) 1)] with now := 20000000 }
     (u.tb 0).state = .run ∧ u.kind 0 = 1 ∧ u.chMode (u.tb 0).src = 1 ∧ (u.tb 0).steps.headD 0 + u.stillPs 0 ≤ 20000000 ∧
       u.fld (R.TBCFG 0) R.TBCFG_EVSTILL = 1) ∧
    (let u := (chanOf (modeWord 4) .track id [(R.TBCFG 0, R.TBCFG_KIND.put 0 1)]).setTb 0
        { Timebase.reset with state := .run, samples := [(0, 5)] }
     (u.tb 0).samples = [(0, 5)] ∧ (u.tb 0).state = .run ∧ u.kind 0 = 1 ∧ u.chMode 0 = 4 ∧ (0 : Int) + 160 ≤ (1000 : Nat)) ∧
    ((∀ e, (base.now + 1, e) ∉ base.capAt) ∧ (base.caps.get .reset 0).full = false ∧ base.Reaches (.core 0) R.CAPCMD 1 ∧
      base.variant.hasTb 31 = true ∧ { base with variant := .fn4808 }.variant.hasTb 9 = false ∧ base.Reaches .staff R.CAPFREE 15 ∧
      base.clocks = true) ∧
    (let s := { base with caps := (List.range 4).map (fun b => (b, { CapBank.reset with full := true })) }
     ∀ b, b < 4 → (s.caps.get .reset b).full = true) := by
  and_intros <;> first | decide | (intro e; rw [show base.capAt = [] by decide]; exact List.not_mem_nil)

/-! ### The Timetable and the Syllabus -/

/-- A period at `pos` with act `act`, upward on timebase 0. -/
def periodOf (pos act : Nat) (f : Period → Period) : Period := f { Period.zero with pos := pos, dirq := 1, act := act, arg := 5, tag := 9 }

/-- Timebase 0 runs at word 1280; period `p` stands in the TTNEW words of core 0 and at 0x20000000, which is on top of the stack. -/
def arming (m : Mode) (stw : Nat) (p : Period) : State :=
  let b := bench (coreOf stw [0x20000000] []) (coreOf 0 [] []) ((List.range 4).map (fun j => (perReq 0 (R.TTNEW j), BitVec.ofNat 32 (p.word j))))
  { State.words (b.setTb 0 { b.tb 0 with state := .run, ref := true, word := 1280 }) 0x20000000 ((List.range 4).map p.word) with mode := m }

/-- Both ways of asking are open in `s` to core 0 with period `p`. -/
def asks (s : State) (p : Period) : Bool :=
  let n (j : Nat) : Nat := (s.rdReq 0 (R.TTNEW j)).toNat
  Period.ofWords (n 0) (n 1) (n 2) (n 3) == p &&
    (let a := (wAt (s.held 0 false) 0).toNat
     Period.ofWords (s.value 0 4 a) (s.value 0 4 (a + 4)) (s.value 0 4 (a + 8)) (s.value 0 4 (a + 12)) == p)

/-- Slot 0 armed with `p` on timebase 0, whose word is and was `word`; reached late, as given. -/
def armed (m : Mode) (p : Period) (dp : Int) (primed : Bool) (word : Int) (late : Bool) : State :=
  let b := bench (coreOf 1 [] []) (coreOf 0 [] []) [(R.TBCFG 0, R.TBCFG_KIND.put 0 1)]
  let c : SlotCopy := { SlotCopy.reset with state := 2, per := p, primed := primed, dp := dp }
  { (b.setTb 0 { b.tb 0 with state := .run, ref := true, word := word, prev := word }).setSlot 0
      { Slot.reset with a := c, b := c, status := 1, late := late } with mode := m }

theorem meets_PeriodsAreArmed :
    (∀ e ∈ [(Mode.prepare, periodOf 2000 7 id, true), (.run, periodOf 500 7 id, false), (.hold, periodOf 500 7 (fun p => { p with behind := 1 }), false),
        (.run, periodOf 500 7 (fun p => { p with behind := 1 }), false)],
      let s := arming e.1 1 e.2.1
      asks s e.2.1 = true ∧ s.ArmPasses (s.who 0) e.2.1 0 ∧ (s.isAhead e.2.1 ↔ e.2.2 = true)) ∧
    (let s := arming .prepare 1 (periodOf 2000 7 id)
     s.asker (.core 0) = s.who 0 ∧ s.Reaches (.core 0) R.TTNEWGO (R.TTNEWGO_GO.put 0 1) ∧ s.Ready 0 ∧ s.Handy 0 false 1 1 ∧
       (∀ j, j < 4 → s.Loads 0 (0x20000000 + 4 * j) 4)) ∧
    (let s := arming .safe 5 (periodOf 2000 7 id)
     ¬((s.who 0).isStaff = true ∨ (s.who 0).ring ≤ 1) ∧ s.mode ∉ [Mode.prepare, .run, .hold] ∧ s.Reaches (.core 0) R.TTNEWGO (R.TTNEWGO_GO.put 0 1)) ∧
    ((periodOf 2000 13 id).act = 13 ∧ (periodOf 2000 1 (fun p => { p with dirq := 0 })).dirq = 0 ∧ Variant.fn4808.hasTb 9 = false) ∧
    (let s := (arming .run 1 (periodOf 2000 7 id)).setSlot 31 { Slot.reset with a := { SlotCopy.reset with state := 2 }, req := 5 }
     (s.slot 31).a.state ≠ 0 ∧ (s.who 0).priv = true ∧ s.firesNext 31 = false ∧ s.Reaches (.core 0) R.TTCMD (R.TTCMD_SLOT.put (R.TTCMD_CMD.put 0 1) 31) ∧
       (s.slot 0).a.state = 0) ∧
    (let s := armed .run (periodOf 2000 7 id) (-100) true 2000 false
     s.firesNext 0 = true ∧ (s.who 0).priv = true ∧ s.Reaches (.core 0) R.TTCMD (R.TTCMD_CMD.put 0 1)) := by
  and_intros
  · intro e he
    simp only [List.mem_cons, List.not_mem_nil, or_false] at he
    rcases he with rfl | rfl | rfl | rfl <;> refine ⟨?_, ?_, ?_⟩ <;> first
      | decide
      | (unfold State.isAhead; decide)
      | (and_intros <;> decide)
  all_goals first | decide | (intro j hj; interval_cases j <;> and_intros <;> decide)

/-- A fine-delay register with one edge pending at PSCLK edge 1000. -/
def fdOf : Fd :=
  let c : FdCopy := { lvl := false, e0 := { v := true, lvl := true, tap := 0, edge := 1000, slot := 0, tog := false }, e1 := .none }
  { a := c, b := c }

theorem meets_CrossingsFire :
    (∀ e ∈ [(Mode.hold, 7, 2000), (.prepare, 1, 2000), (.run, 7, 2001), (.run, 2, 2000), (.run, 1, 1999)],
      let p := periodOf 2000 e.2.1 (fun p => { p with arg := 64 + 5 })
      let u := ((armed e.1 p (-100) true e.2.2 false).advance 1000).evalBelow 0
      let c := (u.slot 0).a
      let d := (if c.down then -1 else 1) * diffSpan (u.span p.tb) (u.tb 0).prev p.posInt
      u.now = 1000 ∧ c.state = 2 ∧ (u.slot 0).a = (u.slot 0).b ∧ (u.slot 0).evalK < 1000 ∧ (u.slot 0).late = false ∧
        (u.tb 0).pdisc = false ∧ c.noDir = false ∧ c.xinv = false ∧ u.mode = e.1 ∧
        (c.primed = true ∧ c.dp < 0 ∧ 0 ≤ d ∧ 2 * (d - c.dp) < u.span p.tb ↔ e.2.2 ≥ 2000) ∧
        (u.line 5).fd.a.e0.v = false ∧ (u.line 5).fd.b.e0.v = false) ∧
    (∀ e ∈ [(Mode.hold, 7, 0), (.run, 7, 1), (.prepare, 5, 0), (.run, 7, 0)],
      let u := ((armed e.1 (periodOf 500 e.2.1 (fun p => { p with latepol := e.2.2 })) 0 false 1280 true).advance 1000).evalBelow 0
      u.now = 1000 ∧ (u.slot 0).a.state = 2 ∧ (u.slot 0).a = (u.slot 0).b ∧ (u.slot 0).evalK < 1000 ∧ (u.slot 0).late = true ∧ u.mode = e.1 ∧
        (u.slot 0).a.per.act = e.2.1 ∧ (u.slot 0).a.per.latepol = e.2.2) ∧
    (∀ k ∈ [1000, 999], let u := (base.setLine 63 { Line.reset with fd := fdOf }).advance k
     (u.line 63).fd.a.e0.v = true ∧ (u.line 63).fd.a.e1.v = false ∧ ((u.line 63).fd.a.e0.edge ≤ k ↔ k = 1000)) ∧
    (let u := (base.setGen 15 { Gen.reset with fd := fdOf }).advance 1000
     (u.gen 15).fd.a.e0.v = true ∧ (u.gen 15).fd.a.e1.v = false ∧ (u.gen 15).fd.a.lvl = false ∧ (u.gen 15).fd.a.e0.edge ≤ 1000) ∧
    (let u := (base.setGen 0 { Gen.reset with stepEnd := 4003, fd := { a := { lvl := true, e0 := .none, e1 := .none }, b := Fd.reset.b } }).advance 1000
     (u.gen 0).fd.a.e0.v = false ∧ (u.gen 0).fd.a.e1.v = false ∧ (u.gen 0).fd.a.lvl = true ∧ (u.gen 0).stepEnd ≠ 0 ∧ (u.gen 0).stepEnd / 4 ≤ 1000) := by
  and_intros <;> decide

/-- TTINJ with GO. -/
def injWord (f b g l : Nat) : Word := R.TTINJ_FIELD.put (R.TTINJ_BIT.put (R.TTINJ_GEN.put (R.TTINJ_LINE.put (R.TTINJ_GO.put 0 1) l) g) b) f

theorem meets_TwinCopiesAreCompared :
    (let s := armed .run (periodOf 2000 4 id) 0 true 0 false
     let x := s.slot 0
     x.a = x.b ∧ x.marked = false ∧
       (let t := s.setSlot 0 { x with b := { x.b with per := periodOf 2001 4 id } }
        (t.slot 0).a.state = (t.slot 0).b.state ∧ (t.slot 0).a.state ∈ [1, 2] ∧ (t.slot 0).a.per.pos ≠ (t.slot 0).b.per.pos) ∧
       (let t := s.setSlot 0 { x with b := { x.b with per := { x.b.per with stg := 1 } } }
        (t.slot 0).marked = false ∧ (t.slot 0).a.per.stg ≠ (t.slot 0).b.per.stg) ∧
       ((s.setSlot 0 { x with marked := true }).slot 0).marked = true) ∧
    ((base.setLine 63 { Line.reset with fd := { Fd.reset with b := { Fd.reset.b with lvl := true } } }).line 63).fd.b.lvl = true ∧
    ((base.setGen 15 { Gen.reset with fd := { Fd.reset with b := { Fd.reset.b with lvl := true } } }).gen 15).fd.b.lvl = true ∧
    (let v := injWord 1 47 0 0
     R.TTINJ_GO.get v = 1 ∧ R.TTINJ_FIELD.get v = 1 ∧ R.TTINJ_BIT.get v = 47 ∧ base.Reaches (.core 0) R.TTINJ v) ∧
    (let v := injWord 14 0 0 63
     R.TTINJ_FIELD.get v = 14 ∧ R.TTINJ_BIT.get v = 0 ∧ R.TTINJ_GEN.get v = 0 ∧ R.TTINJ_LINE.get v = 63 ∧ base.Reaches (.core 0) R.TTINJ v) ∧
    (let v := injWord 14 0 1 16
     R.TTINJ_FIELD.get v = 14 ∧ R.TTINJ_GEN.get v = 1 ∧ 16 ≤ R.TTINJ_LINE.get v ∧ base.Reaches (.core 0) R.TTINJ v) ∧
    ((base.asker (.core 0)).priv = true ∧ base.mode = .prepare ∧ (base.setCore 0 (coreOf 0 [] []) |>.asker (.core 0)).priv = false ∧
      (base.setCore 0 (coreOf 0 [] [])).Reaches (.core 0) R.TTINJ 1 ∧ base.Reaches (.core 0) R.TTMEMBASE 0x20000001 ∧
      1024 * R.TTMEMBASE_BASE.get 0x20000001 = 0x20000000 ∧ 1024 * R.TTMEMBASE_BASE.get 0x20200001 = 0x20200000 ∧
      base.Reaches (.core 0) (R.TTQUOTA 5) 0xFFFFFFFF ∧ base.Reaches (.core 0) R.TTRESV 0) := by
  and_intros <;> decide

/-- Queue 0 of 16 records at 0x20000000 in a state, with two records, and reports if `rep`. -/
def queueOf (st : QState) (rep : Bool) (f : Queue → Queue) : State :=
  let b := bench (coreOf 1 [] []) (coreOf 0 [] [])
    [(R.QCFG 0, R.QCFG_LOG2SIZE.put (R.QCFG_REPEN.put 0 rep.toNat) 4), (R.QBASE 0, R.QBASE_BASE.put 0 0x2000000),
     (R.QREP 0, R.QREP_BASE.put 0 0x4000100)]
  (b.setTb 0 { b.tb 0 with state := .run, ref := true, word := 1280 }).setQueue 0 (f { Queue.reset with state := st, tail := 2 })

theorem meets_QueuesServeTheirRecords :
    (let s := queueOf .off true id
     (s.queue 0).state = .off ∧ s.MayQueue (s.asker (.core 0)) 0 ∧ s.mode = .prepare ∧ (s.slot (s.queueSlot 0)).a.state = 0 ∧
       s.queueOf (s.queueSlot 0) = none ∧ s.fld R.TTRESV R.TTRESV_GRESV + 1 ≤ s.freeUnbound.length ∧ s.fld (R.QCFG 0) R.QCFG_LOG2SIZE = 4 ∧
       16 * s.fld (R.QBASE 0) R.QBASE_BASE = 0x20000000 ∧ 8 * s.fld (R.QREP 0) R.QREP_BASE = 0x20000800 ∧
       s.Reaches (.core 0) (R.QCMD 0) (R.QCMD_CMD.put 0 1)) ∧
    (let s := (queueOf .off false id).setCore 0 (coreOf 5 [] [])
     ¬s.MayQueue (s.asker (.core 0)) 0 ∧ s.Reaches (.core 0) (R.QCMD 0) (R.QCMD_CMD.put 0 6) ∧ s.Reaches (.core 0) (R.QTAIL 0) 3) ∧
    (∀ e ∈ [(QState.stopped, true), (.halted, false)], let s := queueOf e.1 e.2 id
      s.MayQueue (s.asker (.core 0)) 0 ∧ (s.queue 0).left ≠ 0 ∧ s.fld (R.QCFG 0) R.QCFG_REPEN = e.2.toNat ∧
        s.mode ∉ [Mode.safe, .service, .lockout]) ∧
    ((queueOf .stopped false (fun x => { x with tail := 0 })).queue 0).left = 0 ∧
    (let s := queueOf .starved false (fun x => { x with tail := 0 })
     let y := { s.queue 0 with tail := 16 }
     (s.queue 0).state = .starved ∧ (s.queue 0).buf = none ∧ (s.queue 0).inSlot = false ∧ (s.queue 0).count ≤ y.count ∧ y.count = 16 ∧
       y.left ≠ 0 ∧ s.Reaches (.core 0) (R.QTAIL 0) 16 ∧ R.QTAIL_TAIL.get 16 = 16 ∧ 16 < { y with tail := 17 }.count) ∧
    (let s := (queueOf .running false (fun x => { x with inSlot := true, fetching := true })).setSlot 0 { Slot.reset with a := { SlotCopy.reset with state := 2 } }
     (s.queue 0).state = .running ∧ (s.queue 0).inSlot = true ∧ (s.queue 0).fetching = true ∧ s.ecc = [] ∧ s.queueSlot 0 = 0 ∧
       (s.slot (s.queueSlot 0)).a.state ≠ 0) ∧
    (∀ rf ∈ [false, true], let u := { queueOf .running false (fun x => { x with fetching := true }) with repFirst := rf }.advance 1000
     (u.queue 0).fetching = true ∧ u.repFirst = rf ∧ (u.queue 0).waited = false ∧ u.ecc = []) ∧
    ((queueOf .running false id).advance 1000 |>.queue 0).fetching = false ∧
    (∀ e ∈ [(989, 0), (990, 0), (998, 3)],
      let u := (queueOf .running false (fun x => { x with buf := some (periodOf 2000 7 id), taken := some e.1, code := e.2 })).advance 1000
      (u.queue 0).buf = some (periodOf 2000 7 id) ∧ (u.queue 0).taken = some e.1 ∧ (u.queue 0).state = .running ∧ (u.queue 0).inSlot = false ∧
        u.mode = .prepare ∧ (u.queue 0).code = e.2 ∧ (e.1 + 11 ≤ u.now ↔ e.1 = 989) ∧ 998 + 2 ≤ u.now ∧ 1 < (u.queue 0).left) ∧
    (∀ e ∈ [1000, 999],
      let s := queueOf .running false (fun x => { x with buf := some (periodOf 2000 7 id), taken := some e })
      (s.queue 0).buf = some (periodOf 2000 7 id) ∧ (s.queue 0).taken = some e ∧ (s.queue 0).inSlot = false ∧ (s.queue 0).fetching = false ∧
        s.acts = [] ∧ s.clocks = true ∧ (s.now = e ∨ s.now = e + 1) ∧ (s.queue 0).code = 0 ∧ (s.queue 0).badBuf = false) ∧
    (let s := queueOf .running false id
     s.RefillForms 0 (periodOf 2000 7 id) ∧ (periodOf 2000 7 (fun p => { p with dirq := 0 })).dirq = 0 ∧ (s.tb 0).state = .run ∧
       (s.tb 0).ref = true ∧ s.kind 0 ≠ 2 ∧ (s.tb 1).ref = false ∧ (s.tb 31).state ≠ .run) ∧
    (∀ rd ∈ [true, false],
      let x : Report := { queue := 0, idx := 0, addr := 0x20000800, w0 := 5, w1 := 6, ready := rd }
      let s := { queueOf .running true id with reports := [x] }
      s.reports = x :: [] ∧ x.ready = rd ∧ s.memq = [] ∧ (∀ i, i < 16 → (s.queue i).fetching = false) ∧ s.Inv ∧ s.ecc = [] ∧
        (s.queue 0).state ≠ .off) := by
  and_intros
  all_goals first
    | decide
    | (unfold State.MayQueue; decide)
    | (intro h; revert h; unfold State.MayQueue; decide)
    | (unfold State.RefillForms; and_intros <;> decide)
    | (intro e he
       simp only [List.mem_cons, List.not_mem_nil, or_false] at he
       rcases he with rfl | rfl <;> first | (refine ⟨by unfold State.MayQueue; decide, ?_⟩ <;> decide) | (and_intros <;> decide))

/-! ### Outputs and pins -/

/-- `base` in RUN, HOLD or another mode, with registers as given. -/
def inMode (m : Mode) (stw : Nat) (l : List (Nat × Word)) : State := { bench (coreOf stw [] []) (coreOf 0 [] []) l with mode := m }

theorem meets_LinesAndPinsAreWritten :
    (let s := inMode .run 0 [(R.EVCFG 0, R.EVCFG_WORLD.put 0 1)]
     let w := s.asker (.core 0)
     s.Reaches (.core 0) (R.EVSET 0) 3 ∧ s.Reaches (.core 0) (R.EVCLR 1) 0xFFFFFFFF ∧ s.Reaches (.core 0) (R.EVTOG 0) 1 ∧ w.ring ≤ 1 ∧ w.shop = true ∧
       R.EVCFG_WORLD.get (s.eff (R.EVCFG 0)) = 1 ∧ R.EVCFG_WORLD.get (s.eff (R.EVCFG 1)) = 0 ∧ s.mode = .run) ∧
    (let s := inMode .hold 1 [(R.EVCFG 31, R.EVCFG_HOLD.put 0 3)]
     s.Reaches (.core 0) (R.EVSET 0) 0x80000001 ∧ s.mode = .hold ∧ R.EVCFG_HOLD.get (s.eff (R.EVCFG 31)) = 3 ∧
       R.EVCFG_HOLD.get (s.eff (R.EVCFG 0)) ≠ 3) ∧
    (let s := inMode .run 5 []
     s.Reaches (.core 0) (R.EVSET 1) 1 ∧ ¬((s.asker (.core 0)).isStaff = true ∨ (s.asker (.core 0)).ring ≤ 1) ∧
       (s.asker (.core 0)).priv = false ∧ s.Reaches (.core 0) (R.EVCFG 63) 0 ∧ s.Reaches (.core 0) (R.EVFLVL 1) 0 ∧ s.Reaches (.core 0) R.PINBANK 0) ∧
    (let s := base
     (s.asker (.core 0)).priv = true ∧ s.mode = .prepare ∧ s.Reaches (.core 0) (R.EVCFG 63) 3 ∧ R.EVCFG_WORLD.get (3 : Word) = R.EVCFG_WORLD.get (s.eff (R.EVCFG 63)) ∧
       R.EVCFG_SAFE.get (3 : Word) = 3 ∧ R.EVCFG_SAFE.get (2 : Word) ≠ 3 ∧ s.lineOwned 63 = false ∧ s.onUnsafeBall 127 = false ∧
       s.Reaches (.core 0) (R.EVFEN 1) 0xFFFFFFFF ∧ s.Reaches .staff R.PINBANK 0xF) ∧
    (let s := armed .prepare (periodOf 2000 1 id) 0 true 0 false
     s.lineOwned 5 = true ∧ R.EVCFG_WORLD.get (R.EVCFG_WORLD.put 0 1) ≠ R.EVCFG_WORLD.get (s.eff (R.EVCFG 5))) ∧
    (let s := base.wr (R.PINFN 95) (R.PINFN_FUNC.put 0 127)
     s.onUnsafeBall 127 = true) ∧
    (let s := base
     s.Reaches (.core 0) (R.PINFN 95) (R.PINFN_FUNC.put 0 127) ∧ (s.pin 95).sw = none ∧ funcValid 127 = true ∧ s.guardFunc 127 = false ∧
       s.variant.hasFunc 127 = true ∧ s.funcInUse 95 127 = false ∧ s.bankErr 95 = false) ∧
    (let s := inMode .safe 0 []
     s.Reaches (.core 0) (R.PINFN 0) 64 ∧ (s.asker (.core 0)).priv = false ∧ s.mode ∉ [Mode.run, .hold]) ∧
    (∀ p ∈ [0, 3], let u := (base.wr (R.PINFN 0) (R.PINFN_PULL.put 0 p)).advance 1000
     (u.pin 0).sw = none ∧ R.PINFN_PULL.get (u.eff (R.PINFN 0)) = p) ∧
    (let u := (base.setPin 0 { Pin.reset with sw := some (993, true) }).advance 1000
     (u.pin 0).sw = some (993, true) ∧ u.now < 993 + 8 * true.toNat) ∧
    (let u := (base.setPin 0 { Pin.reset with sw := some (1000, false), conn := 64 + 63 }).advance 1000
     (u.pin 0).sw = some (1000, false) ∧ 1000 ≤ u.now ∧ (u.pin 0).conn = 64 + 63 ∧ ∀ i, i < 96 → u.fld (R.PINFN i) R.PINFN_FUNC ≠ (u.pin 0).conn) ∧
    (let u := (base.setPin 0 { Pin.reset with sw := some (992, true) }).advance 1000
     (u.pin 0).sw = some (992, true) ∧ 992 + 8 ≤ u.now) := by
  and_intros <;> decide

/-- Generator 0 in a state at a rate of 2^27, with both phases at edge 999. -/
def genOf (m : Mode) (f : Gen → Gen) (l : List (Nat × Word)) : State :=
  (inMode m 1 ([(R.PTRATE 0, 0x8000000)] ++ l)).setGen 0 (f { Gen.reset with phaseK := 999 })

theorem meets_DrivesFollowTheirRegisters :
    (let s := genOf .run id [(R.PTNSTEP 0, 7)]
     s.Reaches (.core 0) (R.PTRATE 0) 0x10000001 ∧ (0x10000001 : Word).toInt.natAbs > 2 ^ 28 ∧ s.Reaches (.core 0) (R.PTRATE 0) 0x10000000 ∧
       s.Reaches (.core 0) (R.PTCTL 0) (R.PTCTL_GO.put 0 1) ∧ (s.gen 0).state = .stopped ∧ (s.gen 0).dirTill ≤ (s.now / 8 + 1) * 8 ∧
       (s.gen 0).fd.a.e0.v = false ∧ (s.gen 0).fd.b.e0.v = false ∧ s.mode ∈ [Mode.run, .hold] ∧ s.Reaches (.core 0) (R.PTCTL 0) (R.PTCTL_STOP.put 0 1)) ∧
    (let s := (inMode .run 0 [(R.PTCFG 15, R.PTCFG_WORLD.put 0 1), (R.PWMCFG 15, R.PWMCFG_WORLD.put 0 1), (R.SDCFG 7, R.SDCFG_WORLD.put 0 1)])
     (s.asker (.core 0)).shop = true ∧ s.fld (R.PTCFG 15) R.PTCFG_WORLD = 1 ∧ s.Reaches (.core 0) (R.PTRATE 15) 0 ∧
       s.fld (R.PWMCFG 15) R.PWMCFG_WORLD = 1 ∧ s.Reaches (.core 0) (R.PWMPER 15) 16 ∧ s.fld (R.SDCFG 7) R.SDCFG_WORLD = 1 ∧
       s.Reaches (.core 0) (R.SDCODE 7) 0) ∧
    (let s := genOf .hold (fun x => { x with state := .running }) [(R.PTCFG 0, R.PTCFG_HOLDRUN.put 0 1)]
     s.mode = .hold ∧ R.PTCFG_HOLDRUN.get (s.eff (R.PTCFG 0)) = 1 ∧ (s.gen 0).state ≠ .stopped) ∧
    ((genOf .run (fun x => { x with dirTill := 1016 }) []).now / 8 + 1) * 8 < ((genOf .run (fun x => { x with dirTill := 1016 }) []).gen 0).dirTill ∧
    (base.mode ∉ [Mode.run, .hold] ∧ base.mode ∈ [Mode.prepare, .run, .hold] ∧ base.Reaches (.core 0) (R.PWMPER 0) 15 ∧
      base.Reaches (.core 0) (R.PWMPER 0) 16 ∧ base.Reaches (.core 0) (R.PWMDUTY 0) 0 ∧ base.Reaches .staff (R.SDCODE 0) 0 ∧
      (inMode .safe 1 []).mode ∉ [Mode.prepare, .run, .hold]) ∧
    (let x := (genOf .run (fun x => { x with state := .running, limited := true }) []).gen 0
     x.state ∈ [GenState.running, .dirwait] ∧ x.limited = true ∧ x.rem = 0 ∧ x.first = false) ∧
    (∀ ph ∈ [0, 2 ^ 32 - 2 ^ 27], let u := (genOf .run (fun x => { x with state := .running, phase := ph }) []).advance 1000
      ph + 2 ^ 27 * (1000 - 1 - (u.gen 0).phaseK) = ph ∧ u.clocks = true ∧ (u.gen 0).state = .running ∧ (u.gen 0).phase = ph ∧ (u.gen 0).phaseK < 1000 ∧ (u.eff (R.PTRATE 0)).toInt.natAbs = 2 ^ 27 ∧
        (u.gen 0).limited = false ∧ (u.gen 0).fd.a.e0.v = false ∧ (u.gen 0).fd.b.e0.v = false) ∧
    (∀ o ∈ [false, true], let u := (genOf .run (fun x => { x with state := .dirwait, dirTill := 1000, first := o }) []).advance 1000
      (u.gen 0).state = .dirwait ∧ (u.gen 0).dirTill ≤ u.now ∧ (u.gen 0).first = o ∧ (u.gen 0).fd.a.e0.v = false ∧ (u.gen 0).fd.b.e0.v = false) ∧
    (∀ e ∈ [(900, none), (900, some (50, 400)), (901, none)],
      let x := ((base.setPwm 15 { Pwm.reset with per := 100, startK := e.1, next := e.2 }).advance 1000).pwm 15
      x.next = e.2 ∧ (x.startK < 1000 ∧ (1000 - x.startK) % x.per = 0 ↔ e.1 = 900)) := by
  and_intros <;> decide

/-! ### Memory and the interrupt controller -/

/-- An entry of core 0's store buffer. -/
def sbOf (addr : Nat) (tgt : Target) (done : Bool) : SbEntry :=
  { addr := addr, n := 4, val := 0x12345678, tgt := tgt, guard := true, ring := 0, done := done }

/-- `base` with that entry waiting, the MRAM controller's queue and MRSCRUB as given. -/
def storing (e : SbEntry) (q : List MrOp) (l : List (Nat × Word)) : State :=
  { bench { coreOf 1 [] [] with sb := [e] } (coreOf 0 [] []) l with mrq := q }

theorem meets_StoresReachMemory :
    (∀ e ∈ [(sbOf 0x30000000 .tcm false), (sbOf 0x201FFFFC .sram false), (sbOf 0x107FFFFC .mram false), sbOf 0x20000000 .sram true],
      let s := storing e [] []
      s.Inv ∧ s.ecc = [] ∧ s.clocks = true ∧ s.variant.hasCore 0 = true ∧ (s.core 0).sb = e :: [] ∧ s.mrq = []) ∧
    (let s := storing (sbOf 0x10000000 .mram false) [.write 0 0x10000000 4 0x12345678] []
     s.Inv ∧ s.mrq = .write 0 0x10000000 4 0x12345678 :: [] ∧ s.dip = (false, false) ∧ s.scrubDue = 0 ∧
       (∀ i, i < 4 → s.sealedAt (0x10000000 + i) = none)) ∧
    (let s := storing (sbOf 0x20000000 .sram false) [] []
     let c := s.core 0
     (c.waiting = false ∧ c.sb ≠ [] ∧ (∀ x ∈ c.sb, x.tgt ≠ .tcm)) ∧
       (s.setCore 0 { c with waiting := true }).core 0 = { c with waiting := true } ∧ (s.core 4).sb = []) ∧
    (let s := { base with memq := [{ addr := 0x20000000, val := 5 }] }
     s.Inv ∧ s.memq = { addr := 0x20000000, val := 5 } :: [] ∧ 1 < s.variant.nMac ∧ s.variant.hasMember (.mac 1) = true) ∧
    (targetOf 0x201FFFF0 = some .sram ∧ targetOf 0x107FFFF0 = some .mram ∧ base.sealedAt 0x107FFFFF = none) ∧
    (∀ op ∈ [MrOp.flag 0x1FFFF false, .flag 0 true, .zero 0x1FFFF], let s := { base with mrq := [op] }
      s.Inv ∧ s.mrq = op :: [] ∧ s.dip = (false, false) ∧ s.scrubDue = 0) ∧
    (let s := { bench (coreOf 1 [] []) (coreOf 0 [] []) [(R.MRSCRUB, R.MRSCRUB_PER.put 0 1)] with scrub := 0x1FFFF }
     s.fld R.MRSCRUB R.MRSCRUB_PER ≠ 0 ∧ s.mrq = [] ∧ s.scrub + 1 = 0x20000 ∧ s.Reaches (.core 0) R.MRSCRUB 5) ∧
    (let s := base.wr (R.MRLOPEN 0) (1 + 64 * 0x1FFFF)
     s.Reaches (.core 0) R.MRLCMD (R.MRLCMD_LINE.put (R.MRLCMD_CMD.put 0 1) 0x1FFFF) ∧ (s.asker (.core 0)).ring = 0 ∧ (s.asker (.core 0)).priv = true ∧
       s.fld (R.MRLOPEN 0) R.MRLOPEN_VALID = 1 ∧ s.fld (R.MRLOPEN 0) R.MRLOPEN_LINE = 0x1FFFF ∧ s.fld (R.MRLOPEN 1) R.MRLOPEN_VALID = 0) ∧
    (let s := State.wrs (inMode .prepare 0 []) ((List.range 8).map (fun n => (R.MRLOPEN n, BitVec.ofNat 32 (1 + 4 * 1 + 64 * n))))
     (∀ n, n < 8 → s.fld (R.MRLOPEN n) R.MRLOPEN_VALID = 1) ∧ s.fld (R.MRLOPEN 7) R.MRLOPEN_OWNER ≠ 0 ∧ (s.asker (.core 0)).priv = false ∧
       s.Reaches (.core 0) R.MRLCMD (R.MRLCMD_LINE.put (R.MRLCMD_CMD.put 0 3) 7) ∧ s.Reaches (.core 0) R.MRLCMD (R.MRLCMD_LINE.put (R.MRLCMD_CMD.put 0 2) 7)) ∧
    (let s := inMode .prepare 0 [(R.SEALCFG 0, 1)]
     (s.asker (.core 0)).shop = true ∧ s.sealedAt 0x10000000 ≠ none ∧ s.Reaches (.core 0) R.MRLCMD (R.MRLCMD_CMD.put 0 1)) := by
  and_intros
  all_goals first
    | decide
    | (intro e he; simp only [List.mem_cons, List.not_mem_nil, or_false] at he; rcases he with rfl | rfl | rfl | rfl <;> and_intros <;> decide)
    | (intro e he; simp only [List.mem_cons, List.not_mem_nil, or_false] at he; rcases he with rfl | rfl | rfl <;> and_intros <;> decide)

theorem meets_RegionsAndSourcesAreWritten :
    (base.Reaches (.core 0) (blockAddr (some 4) (0x180 + 8 * 15)) 0xFFFFFFFF ∧ base.Reaches (.core 0) (blockAddr none 0x100) 0xC) ∧
    (base.hasSrc 0xF3 = true ∧ base.Reaches (.core 0) (R.IRQCFG 0xF3) 0xF7 ∧ (base.asker (.core 0)).priv = true ∧ (fixedCore 0xA8).isSome = true ∧
      (0x5 : Word).toNat / 16 % 8 < 5 ∧ base.variant.hasCore 0 = true ∧ ¬((fixedCore 0x60).isSome = true) ∧ ¬((0x50 : Word).toNat / 16 % 8 < 5)) ∧
    (let s := inMode .run 0 []
     (s.asker (.core 0)).priv = false ∧ (s.asker (.core 0)).shop = true ∧ (s.asker (.core 0)).ring = 0 ∧ s.irqGuard 0x60 = false ∧ s.irqCore 0x60 = 0 ∧
       s.Reaches (.core 0) (R.PENDSET 3) 1 ∧ s.Reaches (.core 0) (R.IRQCFG 0x60) 0) ∧
    (let s := inMode .run 0 [(R.IRQCFG 0x60, 0x83)]
     s.irqGuard 0x60 = true ∧ s.Reaches (.core 0) (R.PENDCLR 3) 0xFFFFFFFF) ∧
    base.Reaches (.core 0) (R.ENSET 0) 1 ∧ base.Reaches .staff (R.ENCLR 7) 1 := by
  and_intros <;> decide

/-! ### The Enward ring -/

/-- The ring unit in a state with registers as given. -/
def ringOf (st : EnState) (f : Enward → Enward) (l : List (Nat × Word)) : State :=
  { bench (coreOf 1 [] []) (coreOf 0 [] []) l with en := f { Enward.reset with state := st, addr := 1 } }

def enMsg : EnMsg := { typ := 5, cls := 2, bcast := true, dest := 0, tag := 7, body := 9 }

/-- A section with a good check while SEC is 0, and the header of a cycle by its type. -/
def secOf (c : List Byte) : EnSection := { chars := c, check := BitVec.ofNat 32 (crc32 (c.map BitVec.toNat)) }
def hdrOf (typ cyc : Nat) : EnSection := secOf ([BitVec.ofNat 8 typ, 0] ++ enBytes 4 cyc ++ [0, 0])

/-- Section `x` is the next of ring A at a device that publishes timebase 3 in slot 0, in cycle 7. -/
def passing (st : EnState) (i : Nat) (x : EnSection) : State :=
  { ringOf st (fun e => { e with cyc := 7, pubs := [(0, 3)], ringA := { start := 100, comes := [(i, x)], sent := [], low := 0 } }) [] with
    enq := [{ enMsg with onB := true }] }

theorem meets_RingFollowsItsLinksAndCycles :
    (base.variant.enward = true ∧ base.fld (R.ENLINK 1) R.ENLINK_UP ≠ 1 ∧ base.en.state = .down ∧ base.en.state ∉ [EnState.up, .wrapped]) ∧
    (let s := ringOf .up id [(R.ENLINK 1, 0x1FF)]
     s.fld (R.ENLINK 1) R.ENLINK_UP = 1 ∧ s.en.state ∈ [EnState.up, .wrapped] ∧ s.en.state ≠ .down ∧ s.en.master = false ∧
       s.Reaches (.core 0) R.ENCMD (R.ENCMD_ROLL.put 0 1) ∧ s.Reaches .staff R.ENCMD (R.ENCMD_CLRCNT.put 0 1) ∧ (s.asker (.core 0)).priv = true ∧
       (ringOf .roll id [(R.ENLINK 1, 0x1FF)]).en.state ∉ [EnState.up, .wrapped]) ∧
    (let s := ringOf .wrapped (fun x => { x with master := true }) []
     s.mode = .prepare ∧ s.en.master = true ∧ s.en.state ∈ [EnState.up, .wrapped]) ∧
    (base.fld R.ENCFG R.ENCFG_ROLE = 0 ∧ (base.wr R.ENCFG (R.ENCFG_ROLE.put 0 1)).fld R.ENCFG R.ENCFG_ROLE = 1) ∧
    (let u := (ringOf .repeats id [(R.ENCFG, R.ENCFG_EN.put 0 1)]).advance 1000
     u.fld R.ENCFG R.ENCFG_ROLE = 0 ∧ u.mode = .prepare ∧ u.dawn = .none ∧ u.fld R.ENCFG R.ENCFG_EN = 1 ∧ u.en.state = .repeats ∧
       u.enKeyless = false) ∧
    ((ringOf .repeats id [(R.ENCFG, R.ENCFG_SEC.put (R.ENCFG_EN.put 0 1) 1)]).advance 1000).enKeyless = true ∧
    (let s := inMode .run 0 []
     (s.asker (.core 0)).priv = false ∧ s.Reaches (.core 0) R.ENCMD (R.ENCMD_ROLL.put 0 1)) ∧
    ((ringOf .lost id []).en.state = .lost ∧ (ringOf .wrapped id []).en.state = .wrapped) ∧
    (let u := (ringOf .up id [(R.WALLCTL, R.WALLCTL_OWNER.put 0 1)]).advance 1000
     u.enHeads 7 [hdrOf 2 7] = true ∧ u.enHeads 7 [hdrOf 2 8] = false ∧ (hdrOf 1 7).chars.headD 0 = 1 ∧ u.enHeads 7 [hdrOf 1 7] = true ∧
       u.en.farewell = false ∧ 0 < u.en.badRun.length ∧ u.now ≤ 1000) ∧
    (∀ st ∈ [EnState.up, .repeats],
      (let s := passing st 1 (secOf (enBytes 32 0x55))
       s.clocks = true ∧ s.now = 1000 ∧ s.acts = [] ∧ s.fcOut = [] ∧ s.en.master = false ∧ s.en.state = st ∧
         s.en.ringA.comes = [(1, secOf (enBytes 32 0x55))] ∧ s.en.ringB.comes = [] ∧ s.en.ringA.start + s.enOffset 1 ≤ 1001 ∧
         (secOf (enBytes 32 0x55)).check = s.enCheck s.en.cyc 1 (enBytes 32 0x55))) ∧
    (let s := passing .up 2 { secOf (enBytes 12 0x55) with check := 0 }
     s.enOwn 0 = some 3 ∧ s.enOwn 15 = none ∧ (0 : BitVec 32) ≠ s.enCheck s.en.cyc 2 (enBytes 12 0x55) ∧ s.en.ringA.start + s.enOffset 2 ≤ 1001) ∧
    (let s := passing .up 18 (secOf (enBytes 12 0))
     emptySlot (enBytes 12 0) = true ∧ emptySlot (enBytes 12 5) = false ∧ s.enq = [{ enMsg with onB := true }] ∧ s.en.turned = [] ∧
       s.en.ringA.low < 2 ∧ s.en.ringA.start + s.enOffset 18 ≤ 1001) ∧
    (let u := (ringOf .up id [(R.WALLCTL, R.WALLCTL_OWNER.put 0 1)]).advance 1000
     u.en.state = .up ∧ u.en.master = false ∧ u.fld R.WALLCTL R.WALLCTL_OWNER = 1) ∧
    (let u := ((ringOf .up id [(R.TBCFG 27, R.TBCFG_KIND.put 0 2), (R.ENSUB 11, 1), (R.ENSUBLIM 11, 1000)]).setTb 27 { Timebase.reset with state := .run }).advance 1000
     u.kind 27 = 2 ∧ u.fld (R.ENSUB 11) R.ENSUB_EN = 1 ∧ u.fld (R.ENSUB 11) R.ENSUB_NOPUB = 0 ∧ (u.tb 27).state = .run ∧ (u.tb 27).rxSeen = false ∧
       (u.tb 27).rxK + u.fld (R.ENSUBLIM 11) R.ENSUBLIM_AGEMAX ≤ u.now ∧
       (let y : PubRecord := { word := 5, vel := 0, instant := 0, ref := true, valid := true, still := false, discgen := 1, check := 0 }
        let c := u.enCheck u.en.cyc (2 + u.fld (R.ENSUB 11) R.ENSUB_SLOT) (recordChars y)
        ({ y with check := c } : PubRecord).check = u.enCheck u.en.cyc (2 + u.fld (R.ENSUB 11) R.ENSUB_SLOT) (recordChars { y with check := c }))) := by
  and_intros
  all_goals first
    | decide
    | decide +kernel
    | (intro st h; simp only [List.mem_cons, List.not_mem_nil, or_false] at h; rcases h with rfl | rfl <;> and_intros <;> first | decide | decide +kernel)

def enFrame (typ src : Nat) : EnFrame :=
  { slot := 0, typ := BitVec.ofNat 4 typ, cls := 2, bcast := true, pass := false, src := BitVec.ofNat 8 src, dest := 0, seq := 4, tag := 7, body := 5, check := 77 }

/-- The forecast map's entry 0 for owner 2 and TAG 7, its period as given, in a state, with slot 0 held for it in state `st`. -/
def forecast (m : Mode) (p : Period) (x : FcEntry) (st : Nat) (l : List (Nat × Word)) : State :=
  let b := bench (coreOf 1 [] []) (coreOf 0 [] [])
    ((List.range 4).map (fun j => (R.FCPER 0 j, BitVec.ofNat 32 (p.word j))) ++
      [(R.FCKEY 0, 1 + 2 * 2 + 256 * 7 + 0x20000), (R.TTRESV, R.TTRESV_ENQ.put 0 4)] ++ l)
  let b := b.setTb 0 { b.tb 0 with state := .run, ref := true, word := 1280 }
  let b := b.setSlot 0 { Slot.reset with a := { SlotCopy.reset with state := st, per := p }, b := { SlotCopy.reset with state := st, per := p }, fc := some 0 }
  { b with mode := m, fcMap := [(0, x)], en := { Enward.reset with state := .up, addr := 1 } }

theorem meets_RingMessagesAndForecasts :
    (let s := ringOf .up id [(perReq 0 R.ENTXCTL, R.ENTXCTL_CLASS.put 0 2)]
     s.variant.enward = true ∧ R.ENTXCTL_CLASS.get (s.rdReq 0 R.ENTXCTL) = 2 ∧ (s.enq.filter (fun m => m.cls == 2)).length < 8 ∧
       s.Reaches (.core 0) R.ENTXGO (R.ENTXGO_GO.put 0 1) ∧ s.en.rx = [] ∧ s.ReachesRead .staff (R.ENRX 3)) ∧
    (R.ENTXCTL_CLASS.get (base.rdReq 0 R.ENTXCTL) = 0 ∧ R.ENTXCTL_CLASS.get (R.ENTXCTL_CLASS.put 0 3) = 3 ∧
      8 ≤ ((List.replicate 8 enMsg).filter (fun m => m.cls == 2)).length) ∧
    (let u := (ringOf .up (fun x => { x with rx := [enFrame 5 2] }) [(R.ENHOP 31, 5)]).advance 1000
     u.en.rx = enFrame 5 2 :: [] ∧ u.en.state ∈ [EnState.up, .wrapped] ∧ u.fld (R.ENHOP 31) R.ENHOP_D ≠ 0 ∧ 31 ≠ u.en.addr ∧
       u.en.taken = [] ∧ ({ enFrame 5 31 with check := BitVec.ofNat 32 (crc32 ((enBytes 12 (enBody (enFrame 5 31))).map BitVec.toNat)) } : EnFrame).check =
         u.enCheck u.en.cyc (18 + (enFrame 5 31).slot.toNat) (enBytes 12 (enBody (enFrame 5 31))) ∧ (enFrame 6 31).typ = 6 ∧ (enFrame 5 0).typ = 5 ∧ u.en.rx.length < 16 ∧ 16 ≤ (List.replicate 16 (enFrame 5 2)).length) ∧
    base.fcMatch 2 7 = [] ∧
    (let u := forecast .run (periodOf 2000 7 id) .reset 0 []
     u.fcMatch 2 7 = [0] ∧ (u.fcEntry 0).state = .none ∧ (u.fcEntry 0).dead = false ∧ u.fcCheck 0 = 0 ∧ u.fcSlot = some 0 ∧
       (forecast .run (periodOf 2000 0 id) .reset 0 []).fcCheck 0 ≠ 0 ∧ (forecast .run (periodOf 2000 7 id) .reset 0 [(R.TTRESV, 0)]).fcSlot = none ∧
       (forecast .run (periodOf 2000 7 id) .reset 0 [(R.FCKEY 0, 0x10000)]).fld (R.FCKEY 0) R.FCKEY_MODE = 1) ∧
    (∀ st ∈ [FcState.staged, .armed, .trying], ((forecast .run (periodOf 2000 7 id) { FcEntry.reset with state := st } 1 []).fcEntry 0).state = st) ∧
    (∀ e ∈ [(FcState.staged, 1, false), (.armed, 2, false), (.staged, 1, true)],
      let s := forecast .run (periodOf 2000 7 id) { FcEntry.reset with state := e.1 } e.2.1 []
      let u := if e.2.2 then s.setTb 0 { s.tb 0 with state := .fault } else s
      let q := (u.slot 0).a.per
      u.fcLive 0 = true ∧ (u.fcEntry 0).state = e.1 ∧ (u.fcEntry 0).slot < 32 ∧ (u.slot 0).a.state = e.2.1 ∧ u.tbBars 0 = e.2.2 ∧
        u.refBars q = false ∧ u.fld (R.FCKEY 0) R.FCKEY_MODE = 0 ∧
        (u.fcEntry 0).tp ≤ u.wallPs u.now + 800 * u.fld R.ENFCCFG R.ENFCCFG_ARMLEAD ∧ q.dirq = 1 ∧
        diffSpan (u.span q.tb) (u.tb q.tb).prev q.posInt < 0 ∧ u.firesNext 0 = false) ∧
    (let u := { forecast .run (periodOf 2000 7 id) { FcEntry.reset with state := .armed } 2 [] with now := 2000 }
     (u.fcEntry 0).tp + 1600 ≤ u.wallPs u.now ∧ ¬((u.fcEntry 0).tp + 1600 ≤ u.wallPs 0)) ∧
    (let s := forecast .run (periodOf 2000 7 id) { FcEntry.reset with state := .armed } 2 []
     let c : SlotCopy := { SlotCopy.reset with state := 2, per := periodOf 2000 7 id, primed := true, dp := -100 }
     let u := (s.setTb 0 { s.tb 0 with prev := 2000 }).setSlot 0 { s.slot 0 with a := c, b := c }
     u.firesNext 0 = true ∧ u.fcLive 0 = true) ∧
    (let u := (forecast .run (periodOf 2000 7 id) { FcEntry.reset with state := .staged } 1 [])
     (u.setTb 0 { u.tb 0 with ref := false }).refBars (u.slot 0).a.per = true) := by
  and_intros <;> first | decide | decide +kernel

/-! ### The legacy interfaces -/

/-- Recitation channel 0 runs, or waits, at code word `v`. -/
def rcOf (v : Word) (wait : Bool) (f : Rc → Rc) (l : List (Nat × Word)) : State :=
  { bench (coreOf 1 [] []) (coreOf 0 [] []) ([(R.RCCODE 0 0, v)] ++ l) with
    rcs := [(0, f { Rc.reset with state := .running, wait := wait, dueK := 1000 })] }

theorem meets_RecitationRunsItsCode :
    (∀ op, op < 16 → let u := (rcOf (BitVec.ofNat 32 (op * 2 ^ 20)) false id []).advance 1000
      (u.rc 0).state = .running ∧ u.mode = .prepare ∧ (u.rc 0).wait = false ∧ (u.rc 0).dueK = 1000 ∧
        (u.rd (R.RCCODE 0 (u.rc 0).pc)).toNat % 2 ^ 24 / 2 ^ 20 = op) ∧
    (∀ op ∈ [3, 5, 6], let u := (rcOf (BitVec.ofNat 32 (op * 2 ^ 20)) true id []).advance 1000
      (u.rc 0).state = .running ∧ (u.rc 0).wait = true ∧ (u.rd (R.RCCODE 0 (u.rc 0).pc)).toNat % 2 ^ 24 / 2 ^ 20 = op) ∧
    0 < base.variant.nRecit ∧ (rcOf 0x10000 false id [(R.RCCFG 0, 0x10000)]).fld (R.RCCFG 0) R.RCCFG_PAIR = 1 ∧
    (rcOf 0 false (fun x => { x with tx := [5], rx := List.replicate 16 0 }) []).rcs = [(0, { Rc.reset with
      state := .running, dueK := 1000, tx := [5], rx := List.replicate 16 0 })] ∧
    (∀ op ∈ [0, 1, 7], (rcOf (BitVec.ofNat 32 (op * 2 ^ 20 + 0x10000)) false id [(R.RCCFG 0, 0x10000)]).rd (R.RCCODE 0 0) / 0x10000 % 2 = 1) ∧
    (let u (e : Nat) := ((rcOf 0x300001 false (fun x => { x with accK := [some e] }) [(R.RCCFG 0, R.RCCFG_FILT.put 0 1)]).setPin 5
       { Pin.reset with conn := 448 }).rcAccept 0 1000 1
     ((u 998).rc 0).acc = 1 ∧ (u 998).rcHasBall 0 0 = true ∧ (u 998).rcLevels 0 = 1 ∧ ((u 999).rc 0).acc = 0 ∧ (u 999).rcLevels 0 = 0 ∧
       (base.rcAccept 0 1000 1).rcLevels 0 = 0) ∧
    (let u (k : Nat) := rcOf 0x300001 true (fun x => { x with waitK := k }) []
     (0x300001 : Word).toNat % 2 ^ 15 ≠ 0 ∧ ((u 872).rc 0).waitK + 1 * 128 = 1000 ∧ ((u 871).rc 0).waitK + 1 * 128 < 1000) ∧
    ((base.rc 0).state = .stopped ∧ base.mode ∈ [Mode.prepare, .run, .hold] ∧ base.Reaches (.core 0) (R.RCCTL 0) (R.RCCTL_START.put (R.RCCTL_GO.put 0 1) 63) ∧
      base.Reaches .staff (R.RCCTL 0) (R.RCCTL_STOP.put 0 1) ∧ base.Reaches (.core 0) (R.RCTX 0) 5 ∧ base.ReachesRead (.core 0) (R.RCRX 0) ∧
      base.Reaches (.core 0) (R.RCCODE 0 63) 0xFFFFFF ∧ (base.rc 0).rx = [] ∧ (base.rc 0).tx.length < 16) ∧
    (inMode .safe 1 []).mode ∉ [Mode.prepare, .run, .hold] ∧ (base.wr (R.RCCFG 0) 0x10000).fld (R.RCCFG (1 - 1)) R.RCCFG_PAIR = 1 := by
  and_intros <;> decide

/-- UART 0 on, with 8 data bits, its UCFG bits and state as given. -/
def uartOf (cfg : Word) (f : Uart → Uart) : State :=
  { bench (coreOf 1 [] []) (coreOf 0 [] []) [(R.UCTL 0, 1), (R.UCFG 0, 8 ||| cfg), (R.UFLOW 0, 0x13110000), (R.UTRIG 0, 0x00050101)] with
    uarts := [(0, f { Uart.reset with cts := false })] }

theorem meets_SerialPortsServeCharacters :
    (let s := uartOf 0 id
     (s.rd (R.UCTL 0) &&& 0xFFFFFFFC) = 0 ∧ s.Reaches (.core 0) (R.UTX 0) 0x1FF ∧ s.ReachesRead .staff (R.URX 0) ∧ (s.uart 0).rx = [] ∧
       (s.uart 0).tx.length < 32 ∧ s.Reaches (.core 0) (R.UCTL 0) (R.UCTL_FLUSHTX.put (s.rd (R.UCTL 0)) 1) ∧ base.fld (R.UCTL 3) R.UCTL_EN ≠ 1) ∧
    (let s := uartOf 0 (fun x => { x with rx := List.replicate 32 5, tx := List.replicate 32 5, brk := true })
     32 ≤ (s.uart 0).rx.length ∧ 32 ≤ (s.uart 0).tx.length ∧ (s.uart 0).brk = true) ∧
    (let a := ((uartOf 0 id).setPin 7 { Pin.reset with conn := 385 }).advance 1000
     a.fld (R.UCTL 0) R.UCTL_EN = 1 ∧ a.mode = .prepare ∧ a.fld (R.UCFG 0) R.UCFG_LOOP = 0 ∧ (a.ballOf 385).isSome = true ∧ (a.uart 0).brk = false ∧
       a.fld (R.UCFG 0) R.UCFG_ECHOSUP = 0 ∧ a.fld (R.UCFG 0) R.UCFG_XONXOFF = 0 ∧ (a.uart 0).rx.length < 32) ∧
    (let a := ((uartOf 0x2000 id).wr (R.UCTL 0) 3).advance 1000
     a.fld (R.UCFG 0) R.UCFG_LOOP = 1 ∧ a.fld (R.UCTL 0) R.UCTL_TXBRK = 1) ∧
    ((uartOf 0x400 id).fld (R.UCFG 0) R.UCFG_XONXOFF = 1 ∧ (uartOf 0x400 id).fld (R.UFLOW 0) R.UFLOW_XOFF = 0x13 ∧
      (uartOf 0x400 id).fld (R.UFLOW 0) R.UFLOW_XON = 0x11) ∧
    (let a := (uartOf (R.UCFG_ECHOSUP.put 0 1) (fun x => { x with de := true })).advance 1000
     a.fld (R.UCFG 0) R.UCFG_ECHOSUP = 1 ∧ (a.uart 0).de = true) ∧
    (let a := (uartOf 0 (fun x => { x with tx := [0x55], owed := some true })).advance 1000
     (a.uart 0).frame = none ∧ a.fld (R.UCTL 0) R.UCTL_TXBRK = 0 ∧ a.fld (R.UCFG 0) R.UCFG_RTSCTS = 0 ∧ (a.uart 0).owed = some true) ∧
    (let a := (uartOf 0 (fun x => { x with tx := [0x55] })).advance 1000
     (a.uart 0).frame = none ∧ (a.uart 0).owed = none ∧ (a.uart 0).tx = 0x55 :: [] ∧ (a.uart 0).held = false) ∧
    (∀ k0 ∈ [0, 993], let a := ((uartOf 0x2000 (fun x => { x with frame := some ([true], k0), rx := [5], rxK := k0 })).wr (R.UBAUD 0) 0).setFld (R.UBAUD 0) R.UBAUD_I 1
     let a := a.advance 1000
     (a.uart 0).frame = some ([true], k0) ∧ a.fld (R.UCFG 0) R.UCFG_LOOP = 1 ∧ a.fld (R.UCFG 0) R.UCFG_DBITS = 8 ∧ a.fld (R.UTRIG 0) R.UTRIG_IDLE = 5 ∧
       (64 * a.fld (R.UBAUD 0) R.UBAUD_I + a.fld (R.UBAUD 0) R.UBAUD_F) = 64 ∧ (16 * 9 + 16 ≤ a.now + 1 - k0 ↔ k0 = 0) ∧
       (5 * (16 * 9 + 16) ≤ a.now + 1 - k0 ↔ k0 = 0) ∧ (a.uart 0).rx ≠ []) ∧
    (((base.setPin 7 { Pin.reset with conn := 387 }).ballOf 387).isSome = true ∧ base.ballOf 387 = none) := by
  and_intros <;> decide

/-- The Attendance scan in a state with 32 inputs and a valid configuration. -/
def attOf (st : AttState) (m : Mode) (f : Att → Att) : State :=
  { bench (coreOf 1 [] []) (coreOf 0 [] []) [(R.ACFG, 0x10200020), (R.ATIME, R.ATIME_CYCLE.put (R.ATIME_LDW.put 0 10) 1000), (R.ACTL, if st = .off then 0 else 1), (R.AIEN 0, 1)] with
    att := f { Att.reset with state := st }, mode := m }

/-- A cycle that began at the boundary `start`, with `word` read back for the check word 1. -/
def shiftOf (start word : Nat) (latched : Bool) : AttShift :=
  { start := start, image := List.replicate 32 5, check := 1, inputs := [0xFFFFFFFF], word := word, latched := latched }

/-- L = 32 + 16 + 16 clocks of 16 PSCLK (SCKDIV 1) and LDW = 10: OLAT rises 1042 PSCLK after the cycle begins. -/
theorem meets_AttendanceScans :
    (let s := attOf .run .run id
     s.att.state = .run ∧ s.clocks = true ∧ s.now = 1000 ∧ s.now % 8 = 0 ∧ s.att.nextK = none ∧ s.att.enK < s.now ∧
       s.now ≤ s.att.enK + 200 * s.fld R.ATIME R.ATIME_CYCLE ∧ (attOf .run .run (fun x => { x with nextK := some 1000 })).att.nextK = some 1000) ∧
    (let s := attOf .run .run id
     s.fld R.ACFG R.ACFG_CHKEN = 1 ∧ 0 < s.fld R.ACFG R.ACFG_NIN ∧ s.fld R.ACFG R.ACFG_NIN ≤ 1024 ∧ s.fld R.ACHK R.ACHK_INTLIM ≤ 15) ∧
    (∀ w ∈ [1, 2], ∀ l : Bool, let s := attOf .run .run (fun x => { x with shift := some (shiftOf 1000 w l) })
     s.clocks = true ∧ s.att.shift = some (shiftOf 1000 w l) ∧ s.att.state = .run ∧ s.att.failRun + 1 < 3 ∧
       ((shiftOf 1000 w l).word % 65536 = (shiftOf 1000 w l).check ↔ w = 1) ∧ (shiftOf 1000 w l).latched = l) ∧
    (let s := attOf .run .run (fun x => { x with shift := some (shiftOf 1000 1 false) })
     let olat := 1000 + (s.fld R.ATIME R.ATIME_LDW + 8 + (s.fld R.ACFG R.ACFG_NIN + s.fld R.ACFG R.ACFG_NOUT + 16) * (8 * (s.fld R.ATIME R.ATIME_SCKDIV + 1)))
     (s.advance (olat - 1)).now < olat ∧ olat ≤ (s.advance olat).now ∧ (s.advance olat).now < olat + 8 ∧ olat + 8 ≤ (s.advance (olat + 8)).now) ∧
    ((attOf .fault .hold (fun x => { x with passed := true })).att.state = .fault ∧ (attOf .fault .hold (fun x => { x with passed := true })).att.passed = true ∧
      (attOf .fault .hold id).fld R.ACTL R.ACTL_EN = 1) ∧
    (let s := attOf .off .prepare id
     s.att.state = .off ∧ attBad (s.rd R.ACFG) (s.rd R.ATIME) = false ∧ attBad 0x401 (s.rd R.ATIME) = true ∧
       s.Reaches (.core 0) R.ACTL (R.ACTL_EN.put 0 1) ∧ s.Reaches .staff R.ACTL (R.ACTL_CLRFLT.put (s.rd R.ACTL) 1)) ∧
    (let s := inMode .prepare 5 []
     ¬((s.asker (.core 0)).isStaff = true ∨ (s.asker (.core 0)).ring ≤ 1) ∧ s.Reaches (.core 0) R.ACTL 1 ∧ s.Reaches (.core 0) (R.AOUT 31) 5) ∧
    (let s := inMode .prepare 0 [(R.AGUARD 31, 0xFF)]
     (s.asker (.core 0)).shop = true ∧ s.rd (R.AGUARD 31) = 0xFF ∧ s.Reaches (.core 0) (R.AOSET 31) 0xFFFFFFFF ∧ s.Reaches (.core 0) (R.AOCLR 31) 0xFF) := by
  and_intros <;> decide

/-- MAC 0 on both ways, its descriptor rings at 0x20000000 and 0x20001000, each with one descriptor of 64 bytes at 0x20002000. -/
def macOf (cfg buf : Nat) : State :=
  State.words (State.words (bench (coreOf 1 [] []) (coreOf 0 [] []) [(R.ETCFG 0, BitVec.ofNat 32 (3 + cfg)), (R.ETTXBASE 0, 0x20000000),
    (R.ETRXBASE 0, 0x20001000), (R.ETTXCTL 0, 4), (R.ETRXCTL 0, 4), (R.ETTXTAIL 0, 1), (R.ETRXTAIL 0, 1)])
    0x20000000 [buf, 0x80010040, 0, 0]) 0x20001000 [buf, 0x80000040, 0, 0]

theorem meets_FramesMoveThroughRings :
    (let a := (macOf 0 0x20002000).advance 1000
     0 < a.variant.nMac ∧ a.Inv ∧ a.ecc = [] ∧ a.fld (R.ETCFG 0) R.ETCFG_TXEN = 1 ∧ a.fld (R.ETCFG 0) R.ETCFG_RXEN = 1 ∧ a.mode = .prepare ∧
       a.fld (R.ETTXHEAD 0) R.ETTXHEAD_INDEX = 0 ∧ 0 ≠ a.fld (R.ETTXTAIL 0) R.ETTXTAIL_INDEX ∧ a.ld 4 0x20000004 = 2 ^ 31 + 65536 + 64 ∧
       a.ld 4 0x20000000 = 0x20002000 ∧ (a.mac 0).pauseTill ≤ a.now ∧ 0 ≠ a.fld (R.ETRXTAIL 0) R.ETRXTAIL_INDEX ∧ a.ld 4 0x20001004 = 2 ^ 31 + 64 ∧
       a.fld (R.ETCFG 0) R.ETCFG_KEEPBAD = 0 ∧ a.fld (R.ETCFG 0) R.ETCFG_PROMISC = 0) ∧
    ((macOf 0x30 0x20002000).fld (R.ETCFG 0) R.ETCFG_PAUSE = 1 ∧ (macOf 0x30 0x20002000).fld (R.ETCFG 0) R.ETCFG_PROMISC = 1 ∧
      (macOf 0x80 0x20002000).fld (R.ETCFG 0) R.ETCFG_KEEPBAD = 1) ∧
    (let a := (macOf 0 0x20002000).advance 1000
     let l := [0x01, 0x80, 0xC2, 0, 0, 0x01, 2, 3, 4, 5, 6, 7, 0x88, 0x08, 0, 1, 0, 9]
     numLow [1, 0, 0, 0, 0, 0] ≠ (a.rd (R.ETMACL 0)).toNat + 2 ^ 32 * a.fld (R.ETMACH 0) R.ETMACH_ADDR ∧ numLow (List.replicate 6 0xFF) = 2 ^ 48 - 1 ∧
       l.take 6 = [0x01, 0x80, 0xC2, 0, 0, 0x01] ∧ nth l 12 = 0x88 ∧ nth l 13 = 0x08 ∧ nth l 14 = 0 ∧ nth l 15 = 1) ∧
    (macOf 0 0x201FFFFF).ld 4 0x20000000 = 0x201FFFFF ∧ base.fld (R.ETCFG 1) R.ETCFG_TXEN = 0 ∧
    (base.fld (R.ETMDIO 0) R.ETMDIO_BUSY ≠ 1 ∧ base.Reaches (.core 0) (R.ETMDIO 0) 0x800 ∧ (base.wr (R.ETMDIO 0) 0x1400).fld (R.ETMDIO 0) R.ETMDIO_BUSY = 1) ∧
    (let s := base.wr R.PTPCFG 8
     (s.asker (.core 0)).ring = 0 ∧ (s.asker (.core 0)).id = s.fld R.PTPCFG R.PTPCFG_CORE ∧ (s.asker (.core 0)).guard = true ∧
       s.fld R.PTPCFG R.PTPCFG_WORLD = 1 ∧ s.Reaches (.core 0) R.PTPADJ 0xFFFFFFFF ∧ s.Reaches (.core 0) R.PTPSTEPH 0 ∧ s.fld R.WALLCTL R.WALLCTL_OWNER ≠ 2 ∧
       s.wall.step = none ∧ (s.wr R.WALLCTL (R.WALLCTL_OWNER.put 0 2)).fld R.WALLCTL R.WALLCTL_OWNER = 2) := by
  and_intros <;> decide

/-! ### The Staff port -/

/-- The Staff port as given, in PREPARE. -/
def portOf (f : Staff → Staff) : State := { base with staff := f base.staff }

/-- A frame whose check byte is good. -/
def goodFrame (cmd addr data : Nat) : BitVec 40 :=
  BitVec.ofNat 40 (crc8 [cmd, addr, data / 256, data % 256] + 256 * data + 2 ^ 24 * addr + 2 ^ 32 * cmd)

theorem meets_RequestsAreAnswered :
    (let v := goodFrame 2 0x46 10
     base.Carries (.spiFrame { enroll := false, certOk := false } 40 false v) { enroll := false, certOk := false } 2 0x46 10) ∧
    (portOf (fun x => { x with uart := true })).Carries (.uartFormRequest { enroll := false, certOk := false } true (goodFrame 1 0x7F 0))
      { enroll := false, certOk := false } 1 0x7F 0 ∧
    base.StaffReads 0x0D 0 ∧ base.StaffReads 0x30 0 ∧ base.mode ≠ .night ∧ ¬(base.mode = .dawn) ∧ base.staff.sess = .opened ∧ base.staff.access = none ∧
    base.staff.uart = false ∧ (portOf (fun x => { x with sess := .closed })).staff.sess ≠ .opened ∧
    (State.reset.mode = .dawn ∧ State.reset.dawn = .waitClock ∧ State.reset.mode ≠ .night) ∧
    (portOf (fun x => { x with access := some { write := false, addr := 0x20000000, n := 4, val := 0 } })).staff.access.isSome = true ∧
    (let v : BitVec 40 := 0
     crc8 [v.toNat / 2 ^ 32, v.toNat / 2 ^ 24 % 256, v.toNat / 2 ^ 16 % 256, v.toNat / 2 ^ 8 % 256] ≠ v.toNat % 256) := by
  refine ⟨.spi _ _ _ (by decide) (by decide), .uart _ _ (by decide) (by decide), .stsnum, .stcmd, ?_⟩
  decide

/-- A device with the session key set, its counters as given, and instance 9 of the DRBG as given. -/
def sessionOf (st : SessState) (fails lockout : Nat) (key : KeySlot) (d : DrbgState) : State :=
  { (portOf (fun x => { x with sess := st, chal := [1], resp := hmac256 [1] [0x46, 0x4E, 0x53, 0x54, 1] })).setKey 1 key with
    hall := { Hall.reset with fails := fails, lockout := lockout }, drbgs := [(9, { Drbg.reset with state := d })] }

theorem meets_SessionsOpenAndClose :
    (let s := sessionOf .closed 5 0 { state := .set, key := [1] } .ready
     (s.drbg 9).reqs < 4096 ∧ s.now < (s.drbg 9).seedK + 200000000 ∧ s.mode ≠ .night ∧ ¬(s.mode = .dawn) ∧ s.hall.lockout = 0 ∧ (s.key 1).state = .set ∧ s.fld R.RNGSTAT R.RNGSTAT_STOPPED = 0 ∧ (s.drbg 9).state = .ready ∧
       s.fld R.RNGSTAT R.RNGSTAT_RAWON = 0 ∧ s.staff.sess ≠ .challenged ∧ s.staff.sess ≠ .opened ∧ s.logQ = []) ∧
    (sessionOf .closed 5 1 .blank .none).hall.lockout = 1 ∧ ¬(4096 < 4096) ∧
    (let s := portOf (fun x => { x with idle := 10, goodK := 0 })
     let u := s.advance 2000000000
     u.staff.sess = .opened ∧ u.staff.goodK + 200000000 * u.staff.idle ≤ u.now ∧ ¬(base.advance 1000).staff.goodK + 200000000 * (base.advance 1000).staff.idle ≤ (base.advance 1000).now) ∧
    (let u := (portOf (fun x => { x with sess := .challenged, chal := [1] })).advance 2000000000
     u.staff.sess = .challenged ∧ u.staff.chalK + 2000000000 ≤ u.now) ∧ ((sessionOf .closed 4 0 .blank .none).key 1).state ≠ .set ∧
    ((sessionOf .closed 4 0 .blank .none).drbg 9).state ≠ .ready ∧ (base.setFld R.RNGSTAT R.RNGSTAT_STOPPED 1).fld R.RNGSTAT R.RNGSTAT_STOPPED = 1 ∧
    (sessionOf .drawing 5 0 { state := .set, key := [1] } .ready).staff.sess = .drawing ∧
    (let s := sessionOf .challenged 4 0 { state := .erased, key := [] } .ready
     s.staff.sess = .challenged ∧ (s.key 1).state ≠ .set ∧ min 15 (s.hall.fails + 1) = 5) ∧
    (let s := sessionOf .challenged 3 0 { state := .erased, key := [] } .ready
     min 15 (s.hall.fails + 1) < 5) ∧
    base.staff.sess = .opened ∧
    (let s := { base with logQ := [{ time := 5, word3 := 0, addr := 0, old := 0, new := 0 }] }
     s.Inv ∧ s.logQ = { time := 5, word3 := 0, addr := 0, old := 0, new := 0 } :: []) := by
  and_intros <;> decide

/-- In CHALLENGED the tag of the nonce stands in RESP. -/
theorem meets_SessionsOpenAndClose_prove :
    let s := sessionOf .challenged 4 0 { state := .set, key := [1] } .ready
    s.staff.sess = .challenged ∧ (s.key 1).state = .set ∧ s.staff.resp = hmac256 (s.key 1).key ([0x46, 0x4E, 0x53, 0x54] ++ s.staff.chal) :=
  ⟨rfl, rfl, rfl⟩

/-- A window access in flight. -/
def winOf (write : Bool) (addr n : Nat) : State := portOf (fun x => { x with access := some { write := write, addr := addr, n := n, val := 5 } })

theorem meets_WindowAccessesAreJudged :
    (base.mode ≠ .night ∧ ¬(base.mode = .dawn) ∧ base.staff.sess = .opened ∧ base.staff.access = none ∧ base.staff.inc = false ∧
      (portOf (fun x => { x with inc := true })).staff.inc = true ∧ (portOf (fun x => { x with sess := .closed })).staff.sess ≠ .opened) ∧
    (∀ e ∈ [(true, 0x201FFFFF, 1), (false, 0x20000000, 4), (true, 0x107FFFFC, 4), (true, R.CORERUN, 4), (true, R.UTX 3, 4), (false, 0x0FFFFFFF, 1),
        (false, 0x10000001, 2), (false, 0x40000000, 2), (false, 0x10800000, 4), (false, 0x400E0FFC, 4)],
      (winOf e.1 e.2.1 e.2.2).staff.access = some { write := e.1, addr := e.2.1, n := e.2.2, val := 5 } ∧ e.2.2 ∈ [1, 2, 4]) ∧
    ({ winOf true 0x20000000 4 with mode := .lockout }.mode = .lockout ∧ (winOf true 0x20000000 4).Inv ∧ (winOf true 0x20000000 4).ecc = [] ∧
      (winOf true 0x107FFFFC 4).anySealed 0x107FFFFC 4 = false ∧
      (bench (coreOf 1 [] []) (coreOf 0 [] []) [(R.SEALCFG 0, 1)]).anySealed 0x10000000 4 = true) ∧
    (let s := { winOf true (R.UTX 3) 4 with owners := [(0x40080300, (4, true))] }
     (s.uart 3).tx.length < 32 ∧ s.variant.hasCore 4 = true ∧ s.owners.find (0x40080000 + 0x100 * 3) = some (4, true) ∧
       (rowAt (R.UTX 3)).isSome = true ∧ s.variant.absentAt (R.UTX 3) = false ∧ withheld (R.UTX 3) true = false) ∧
    (base.Reaches (.core 0) (R.UTX 3) 5 ∧ base.Reaches (.core 0) R.SNAPCTL (R.SNAPCTL_NOW.put (base.rd R.SNAPCTL) 1)) ∧
    (∀ k ∈ [20999, 21000], let u := ({ base with snapK := 1000 }.setFld R.SNAPCTL R.SNAPCTL_PER 1).advance k
     u.fld R.SNAPCTL R.SNAPCTL_PER = 1 ∧ (u.snapK + 20000 * 1 ≤ u.now ↔ k = 21000) ∧ u.page.get 0 0x1000 = 0) ∧
    (let u := ({ base with page := [(0x1000, 1)] }.wr R.SNAPCTL 0).advance 1000
     u.page.get 0 0x1000 = 1 ∧ u.variant.hasTb 31 = true) := by
  and_intros <;> decide

/-! ### Secrets and randomness -/

/-- PREPARE with a session, XIN, key slots and the Staff port's DRBG instance as given. -/
def secretOf (xin : List Nat) (k : Nat) (v : KeySlot) (d : DrbgState) : State :=
  { (portOf (fun x => { x with xin := xin })).setKey k v with drbgs := [(8, { Drbg.reset with state := d })] }

theorem meets_KeysAndIdentityAreCommanded :
    (let s := (secretOf [0xD1, 0xE5] 0 { state := .set, key := [1] } .ready).wr R.IDSTAT (R.IDSTAT_KEY.put (R.IDSTAT_ENRDAWN.put 0 1) 1)
     s.mode = .prepare ∧ ¬(s.mode = .dawn) ∧ s.Inv ∧ s.logQ = [] ∧ s.staff.xin.length ≤ 32 ∧ s.keys.length = 7 ∧ s.hall.snum < 65536 ∧
       s.fld R.IDSTAT R.IDSTAT_KEY = 1 ∧ (s.key 0).state = .set ∧ s.fld R.RNGSTAT R.RNGSTAT_STOPPED ≠ 1 ∧ (s.drbg 8).state = .ready ∧
       (s.drbg 8).reqs < 4096 ∧ s.now < (s.drbg 8).seedK + 200000000 ∧ s.fld R.RNGSTAT R.RNGSTAT_RAWON = 0 ∧ s.signing = none ∧ s.attRec = none ∧ s.staff.sess = .opened ∧ s.fld R.IDSTAT R.IDSTAT_ENRDAWN = 1 ∧
       256 * nth s.staff.xin 0 + nth s.staff.xin 1 = 0xD1E5 ∧ s.otp.cert = [] ∧ s.certBuf = [] ∧ (s.key 1).state ≠ .set) ∧
    (let s := { secretOf [6, 3] 1 { state := .set, key := [1] } .none with signing := some [1], attRec := some [2], certBuf := [3] }
     s.signing = some [1] ∧ s.attRec = some [2] ∧ s.certBuf ≠ [] ∧ s.certBuf.length < 2048 ∧ (s.key 1).state = .set ∧ (s.key 0).state ≠ .set ∧
       (s.drbg 8).state ≠ .ready ∧ (256 * nth s.staff.xin 0 + nth s.staff.xin 1) % 16 = 3 ∧ s.fld R.IDSTAT R.IDSTAT_KEY ≠ 1) ∧
    (let s := { base with otp := { base.otp with cert := [1] }, certBuf := List.replicate 2048 0, mode := .run }
     s.otp.cert ≠ [] ∧ s.mode ∉ [Mode.prepare, .safe, .service] ∧ (List.replicate 2048 0 : List Nat).length = 2048) ∧
    (let w := base.who 0
     w.guard = true ∧ w.ring = 0 ∧ base.Reaches (.core 0) R.KEYCMD (BitVec.ofNat 32 (1 + 256 * 3 + 65536 * 0xC3A5)) ∧
       base.Reaches (.core 0) R.KEYCMD (BitVec.ofNat 32 (3 + 256 * 7 + 65536 * 0xC3A5)) ∧
       ¬(3 ≤ 2) ∧ base.Reaches (.core 0) R.KEYCMD (BitVec.ofNat 32 (2 + 256 * 2 + 65536 * 0xC3A5))) := by
  and_intros <;> first | decide | exact List.length_replicate ..

theorem meets_CryptoAndRandomness :
    (let s := ((base.setKey 3 { state := .set, key := List.range 32 }).wr R.KEYUSE (R.KEYUSE_USE.put 0 2)).setFld R.RNGSTAT R.RNGSTAT_STOPPED 0
     (s.key 3).state = .set ∧ s.fld R.KEYUSE R.KEYUSE_USE / 4 ^ (0 % 4) % 4 = 2 ∧ (s.crypt 0).queued = none ∧ s.Reaches (.core 0) R.CRCTL 0x80000001 ∧
       (s.crypt 0).cmac = none ∧ (∀ i, i < 6 → (s.crypt i).queued = none) ∧ s.crLast < 6) ∧
    (let s := { base with crypto := [(5, { queued := some (5, 16, List.range 32, List.range 16), cmac := some (List.replicate 16 0) })], crLast := 5 }
     (s.crypt 5).queued = some (5, 16, List.range 32, List.range 16) ∧ s.crLast < 6 ∧ (∀ i, i < 6 → i ≠ s.crLast → i < 5 ∨ 5 = s.crLast → (s.crypt i).queued = none) ∧
       (s.crypt 5).cmac = some (List.replicate 16 0)) ∧
    (2 < base.variant.nNoise ∧ base.clocks = true ∧ base.fld R.DAWNSTAT R.DAWNSTAT_FAILSTEP ≠ 1 ∧ base.source 2 = .starting ∧ base.source 3 ≠ .starting ∧ base.source 2 ≠ .failed ∧ base.fld R.RNGSTAT R.RNGSTAT_STOPPED = 0 ∧
      base.variant ≠ .fn4808 ∧ (base.wr R.RNGCFG (R.RNGCFG_POLICY.put 0 1)).fld R.RNGCFG R.RNGCFG_POLICY = 1 ∧
      (([NoiseState.failed, .failed, .healthy].set 2 .failed).all (· == .failed)) = true) ∧
    (let s := { base with noise := [.healthy, .failed, .starting], drbgs := [(9, { Drbg.reset with state := .ready }), (8, { Drbg.reset with state := .ready }),
        (7, { Drbg.reset with state := .ready }), (4, { Drbg.reset with state := .ready, buf := [5] })] }
     s.fld R.RNGSTAT R.RNGSTAT_STOPPED = 0 ∧ s.fld R.RNGSTAT R.RNGSTAT_RAWON = 0 ∧ NoiseState.healthy ∈ s.noise ∧ s.variant.hasDrbg 1 = true ∧ (s.drbg 1).state = .none ∧ (s.drbg 9).state = .ready ∧
       (s.drbg 9).buf = [] ∧ (s.drbg 4).buf = 5 :: [] ∧ s.variant.phys 0 = 4 ∧ s.ReachesRead (.core 0) R.DRBGOUT) ∧
    -- the instance whose turn it is, before those that wait after it: 9 reseeds before 8, and 2 follows 1
    (let s := { base with noise := [.healthy, .failed, .starting], drbgLast := 1, drbgs := (List.range 10).map (fun n => (n, { Drbg.reset with
        state := if n = 9 ∨ n = 2 then .due else .ready, seedK := if n = 8 then 0 else 1000, reqs := if n = 7 then 4096 else 0 })) }
     (s.drbg 9).state = .due ∧ (s.drbg 2).state = .due ∧ (s.drbg 7).state = .ready ∧ 4096 ≤ (s.drbg 7).reqs ∧
       (s.drbg 8).state = .ready ∧ (s.drbg 8).seedK + 200000000 ≤ (s.advance 200000000).now ∧
       (List.range 7).map (fun i => (s.drbgLast + 1 + i) % 7) = [] ++ 2 :: [3, 4, 5, 6, 0, 1]) ∧
    ((inMode .service 1 []).Reaches .staff R.RNGCFG 0xE ∧ base.Reaches (.core 0) R.RNGCFG 2 ∧ 3 % 4 < base.variant.nNoise + 1 ∧ 2 < base.variant.nNoise) := by
  and_intros <;> decide

/-! ### The Hall Monitor and the faults -/

/-- The Hall Monitor as given, with registers. -/
def hallOf (m : Mode) (f : Hall → Hall) (l : List (Nat × Word)) : State :=
  { bench (coreOf 1 [] []) (coreOf 0 [] []) ([(R.HMALARM, 0)] ++ l) with hall := f Hall.reset, mode := m }

theorem meets_HallMonitorSamples :
    (hallOf .run (fun h => { h with alive := false }) []).hall.alive = false ∧
    (∀ un : Bool, let s := hallOf .run (fun h => { h with unmirror := un, watches := [(3, { Watch.reset with state := .mirror })] }) []
     let s := s.setTb (s.fld (R.HWCFG 3) R.HWCFG_TB) { Timebase.reset with state := .run, ref := true, word := -1 }
     s.hall.alive = true ∧ s.hall.unmirror = un ∧ (s.watch 3).state = .mirror ∧ (s.watch 0).state ≠ .mirror ∧
       (s.tb (s.fld (R.HWCFG 3) R.HWCFG_TB)).state = .run ∧ (s.tb (s.fld (R.HWCFG 3) R.HWCFG_TB)).ref = true) ∧
    (∀ n ∈ [0, 1, 2], (hallOf .run (fun h => { h with lockout := n }) []).hall.lockout = n) ∧
    (∀ t ∈ [0, 1],
     let w := { Watch.reset with state := .watch, pair := some (false, true), count := 2 ^ 39 - 1, strobeT := some t }
     let s := hallOf .night (fun h => { h with time := 131, watches := [(0, w)] }) [(R.HWCFG 0, R.HWCFG_MULT.put 0 1)]
     s.hall.alive = true ∧ (s.watch 0).state = .watch ∧ (s.watch 0).pair = some (false, true) ∧ s.fld (R.HWCFG 0) R.HWCFG_DIR = 0 ∧
       s.fld (R.HWCFG 0) R.HWCFG_MULT = 1 ∧ (32768 / (250 * 2 ^ s.fld (R.HWCFG 0) R.HWCFG_RATE) ≤ (s.hall.time + 2 ^ 48 - t) % 2 ^ 48 ↔ t = 0)) ∧
    (let s := hallOf .night (fun h => { h with watches := [(0, { Watch.reset with state := .watch })] }) []
     (s.watch 0).pair = none ∧ (s.watch 0).strobeT = none) ∧
    (∀ n ∈ [3, 4],
     let s := hallOf .run (fun h => { h with inputs := [(7, { HallIn.reset with samples := [true, false], run := n })] }) [(R.HICFG 7, R.HICFG_DEB.put (R.HICFG_EN.put 0 1) 4)]
     s.fld (R.HICFG 7) R.HICFG_EN = 1 ∧ (s.hallIn 7).filt = false ∧ (s.hallIn 7).sampleT = none ∧ (s.fld (R.HICFG 7) R.HICFG_DEB < (s.hallIn 7).run + 1 ↔ n = 4)) ∧
    (hallOf .run id []).hall.measT = none ∧ (hallOf .run (fun h => { h with measT := some 5, time := 5 }) []).hall.measT = some 5 := by
  and_intros <;> decide

/-- Rule 0 fires on alarm 9 with what `b` names; alarm 9 stands. -/
def ruleOf (m : Mode) (b : Word) (f : Hall → Hall) : State :=
  hallOf m f [(R.HMRULEA 0, R.HMRULEA_ARG.put (R.HMRULEA_SRC.put 0 9) 9), (R.HMRULEB 0, b), (R.HMALARM, 0x200)]

theorem meets_HallRulesFire :
    (let s := ruleOf .run (R.HMRULEB_ZERO.put (R.HMRULEB_LOG.put (R.HMRULEB_LOCK.put 0 1) 1) 1) id
     s.hall.alive = true ∧ s.hall.time % 32 = 0 ∧ s.hall.evalT ≠ some s.hall.time ∧ s.hall.write = none ∧ s.keys.length = 7 ∧ ¬(s.mode = .night) ∧ s.fld (R.HMRULEA 0) R.HMRULEA_SRC = 9 ∧ (s.rd R.HMALARM).getLsbD (s.fld (R.HMRULEA 0) R.HMRULEA_ARG) = true ∧
       s.fld (R.HMRULEA 0) R.HMRULEA_WHEN = 0 ∧ s.fld (R.HMRULEA 0) R.HMRULEA_PERSIST = 0 ∧ s.hall.met.testBit 0 = false ∧
       s.fld (R.HMRULEB 0) R.HMRULEB_LOG = 1 ∧ s.fld (R.HMRULEB 0) R.HMRULEB_ZERO = 1 ∧ s.fld (R.HMRULEB 0) R.HMRULEB_LOCK = 1 ∧ s.hall.next < 32 ∧ s.trans = none ∧
       (∀ q, q < 16 → q ≠ 0 → s.fld (R.HMRULEB q) R.HMRULEB_LOG = 0)) ∧
    ((ruleOf .run 0 (fun h => { h with time := 33 })).hall.time % 32 ≠ 0 ∧ (ruleOf .run 0 (fun h => { h with evalT := some 0 })).hall.evalT = some 0) ∧
    (∀ g : Bool, let s := { ruleOf .night (R.HMRULEB_WAKE.put 0 1) (fun h => { h with wakeout := false }) with supply := [g, true, true] }
     s.mode = .night ∧ s.hall.wakeout = false ∧ s.suppliesGood = g ∧ s.fld (R.HMRULEB 0) R.HMRULEB_WAKE = 1) ∧
    (∀ a ∈ [R.HMLOGN, R.HMCTL, R.HMRULEA 15, R.HMRULEB 0, R.HICFG 7, R.HACFG, R.HWCFG 3],
      (hallOf .run (fun h => { h with write := some { addr := a, val := 5, who := 0, guard := true, ring := 0 } }) []).hall.write =
        some { addr := a, val := 5, who := 0, guard := true, ring := 0 }) ∧
    (let s := hallOf .prepare id []
     s.hall.write = none ∧ s.fld R.HMCTL R.HMCTL_HMLOCK = 0 ∧ (s.asker (.core 0)).priv = true ∧ s.Reaches (.core 0) R.HMALARM 0xFFFFFFFF ∧ s.Reaches (.core 0) R.HMCTL 1 ∧
       (hallOf .prepare id [(R.HMCTL, 1)]).fld R.HMCTL R.HMCTL_HMLOCK = 1 ∧ (hallOf .service id [(R.HMCTL, 1)]).Reaches .staff R.HMCTL 1 ∧
       (inMode .prepare 0 []).Reaches (.core 0) R.HMALARM 1) ∧
    (let s := { hallOf .dawn id [(R.DAWNSTAT, R.DAWNSTAT_STEP.put 0 7)] with dawn := .handover }
     s.mode = .dawn ∧ s.fld R.DAWNSTAT R.DAWNSTAT_STEP < 8 ∧ s.Reaches (.core 0) R.HMCTL 1) := by
  and_intros <;> decide

/-- `base` with the policy and watchdog registers as given. -/
def policyOf (m : Mode) (l : List (Nat × Word)) : State := { bench (coreOf 1 [] []) (coreOf 0 [] []) ([(R.HMALARM, 0)] ++ l) with mode := m }

theorem meets_FaultsAreAnsweredByPolicy :
    (let s := policyOf .run [(R.GPOLICY, R.GPOLICY_RSTMAX.put 0 7)]
     s.mode ≠ .lockout ∧ s.mode ≠ .service ∧ s.fld R.CORERUN R.CORERUN_RUN % 2 = 1 ∧ (s.core 0).third = false ∧ s.restart = .none ∧ s.trans = none ∧
       s.fld R.GPOLICY R.GPOLICY_DIVACT = 0 ∧ s.fld R.PAIRSTAT R.PAIRSTAT_RESTARTS < s.fld R.GPOLICY R.GPOLICY_RSTMAX) ∧
    ((policyOf .run []).fld R.GPOLICY R.GPOLICY_DIVACT = 1 ∧
      (policyOf .run [(R.PAIRSTAT, R.PAIRSTAT_RESTARTS.put 0 7)]).fld R.GPOLICY R.GPOLICY_RSTMAX ≤ 7) ∧
    ({ base with restart := .pair }.restart = .pair ∧ { base with restart := .third }.trans = none) ∧
    (let s := policyOf .run [(R.WDSTAT 4, R.WDSTAT_NEXTKEY.put (R.WDSTAT_COUNTING.put 0 1) 0x5AA5), (R.WDCTL 4, R.WDCTL_GRACE.put 0 1)]
     s.fld (R.WDSTAT 4) R.WDSTAT_COUNTING = 1 ∧ s.variant.hasCore 4 = true ∧ s.fld (R.WDCTL 4) R.WDCTL_GRACE ≠ 0 ∧ s.fld (R.WDSTAT 4) R.WDSTAT_NEXTKEY = 0x5AA5 ∧
       4 ∉ s.wdOut ∧ s.wdStart.get 0 4 = 0 ∧ (policyOf .run []).fld (R.WDCTL 4) R.WDCTL_GRACE = 0) ∧
    (∀ k ∈ [1999, 2000], let u := (policyOf .run [(R.WDSTAT 4, R.WDSTAT_COUNTING.put 0 1), (R.WDCFG 4, R.WDCFG_MAX.put 0 1)]).advance k
     u.fld (R.WDSTAT 4) R.WDSTAT_COUNTING = 1 ∧ (u.wdStart.get 0 4 + 2000 * u.fld (R.WDCFG 4) R.WDCFG_MAX ≤ u.now ↔ k = 2000)) ∧
    (let s := policyOf .run [(R.WDSTAT 0, R.WDSTAT_NEXTKEY.put (R.WDSTAT_COUNTING.put 0 1) 0x5AA5)]
     (s.asker (.core 0)).id = 0 ∧ (s.asker (.core 0)).ring ≤ 1 ∧ s.Reaches (.core 0) (R.WDKICK 0) (BitVec.ofNat 32 0x5AA5) ∧
       s.wdStart.get 0 0 + 2000 * s.fld (R.WDCFG 0) R.WDCFG_MIN ≤ s.now ∧ s.Reaches (.core 0) (R.WDKICK 1) 0) ∧
    (let s := policyOf .run [(R.WDSTAT 4, R.WDSTAT_EXP.put (R.WDSTAT_S2PEND.put 0 1) 1)]
     let u := s.advance 1000
     u.fld (R.WDSTAT 4) R.WDSTAT_S2PEND = 1 ∧ u.fld (R.WDSTAT 4) R.WDSTAT_EXP = 1 ∧ u.mode ≠ .lockout ∧
       u.wdStage.get 0 4 + 200000 * u.fld (R.WDCTL 4) R.WDCTL_GRACE ≤ u.now) ∧
    (2 < base.variant.nNoise ∧ base.variant.nNoise ≤ 3) ∧
    (base.mode = .prepare ∧ (base.asker (.core 0)).id = 0 ∧ (base.asker (.core 0)).guard = true ∧ base.Reaches (.core 0) R.PAIRINJ (BitVec.ofNat 32 (1 + 16 * 6)) ∧
      base.Reaches (.core 0) R.GPOLICY 0xFFFFFFFF ∧ base.fld R.GPOLICY R.GPOLICY_PLOCK = 0 ∧ base.Reaches .staff R.SAFETEST 3 ∧ base.safeTest = none ∧
      { base with safeTest := some true }.safeTest.isSome = true ∧ (base.wr R.GPOLICY 0x80000000).fld R.GPOLICY R.GPOLICY_PLOCK = 1) ∧
    (let s := { policyOf .prepare [] with cores := [(0, coreOf 0 [] [])] }
     ¬(s.asker (.core 0)).guard = true ∧ s.Reaches (.core 0) R.GPOLICY 0) ∧
    ((policyOf .service []).mode = .service ∧ (policyOf .service []).clocks = true ∧ RsrRow 0x20 (fun s l =>
      BitVec.ofNat 32 (s.variant.phys l + (if l = 0 then 8 else 0) + 16 * l))) := by
  and_intros <;> first | decide | exact .coreid

theorem meets_StepRunsFront : State.reset.pending = [] := rfl

theorem meets_StepKeepsInv : { State.reset with pending := [Instr.staffNop] }.Inv ∧ State.reset.Inv := by
  and_intros <;> decide

/-! ### Terms that WellFormed refuses: each check of it, at the first value beyond its range -/

/-- The staff port and core 4 are requesters; core 5 is none. -/
def bad : Rq := .core 5

theorem smoke_requester : Rq.wf .staff = true ∧ Rq.wf (.core 4) = true ∧ Rq.wf bad = false ∧
    [Instr.modeRequestRun bad, .clkobsWrite bad 0, .tbSet bad 0, .ttnewgo bad, .lineZero bad 0, .encmdRoll bad, .utxWrite bad 0 0, .clrflt bad,
      .snapctlNow bad, .keycmdGen bad 0, .drbgoutRead bad, .hmlockSet bad, .gpolicyWrite bad 0].any Instr.wf = false := by decide

theorem smoke_cores_and_members :
    [Instr.add 5, .lit 5 0, .ldSigned 5 .word 0, .gate 5 0, .interruptEntry 5, .storeBufferDrain 5 true 0 0, .coreRelease .staff 5, .wdkick .staff 5 0,
      .watchdogExpiry 5 0, .watchdogStage2 5 0, .fetchLineArrival 5 0, .busTransfer (.core 5) .word 1, .busTransfer (.mac 2) .word 1,
      .jtagInstruction (.halt 5), .jtagInstruction (.resume 5), .jtagInstruction (.readCore 5 0), .jtagInstruction (.writeCore 5 0 0),
      .jtagInstruction (.rawTap true 3), .regionWrite .staff (some 5) true false 0 0, .mramReadComplete 0x10000000 (some 5)].any Instr.wf = false := by decide

theorem smoke_addresses :
    Instr.wf (.registerWrite .staff 0x40000001 .byte 0) = true ∧ Instr.wf (.rcFieldRead .staff 0x40000004) = true ∧
    [Instr.registerWrite .staff 0x3FFFFFFF .byte 0, .rcFieldRead .staff 0x40000002, .latchedRead .staff 0x3FFFFFFC, .mramReadComplete 0x10800000 none,
      .mramReadComplete 0x0FFFFFFF none, .lineOpen .staff 0x20000, .lineClose .staff 0x20000].any Instr.wf = false := by decide

theorem smoke_units :
    [Instr.brownOut 3 true, .channelModeWrite .staff 16 0, .quadStep 16 0 true true, .wireBreak 0 9 [(3, 0)], .wireBreak 16 9 [], .invalidEpisodeEnd 0 3 0 9,
      .tbSet .staff 32, .tbSwitchb .staff 0 32, .timebaseCommandEffect 32, .crossing 32 0, .disarm .staff 32, .outputEdge true 16 0,
      .outputEdge false 64 0, .fineDelayFault true 16, .fineDelayFault false 64, .ttresvWrite .staff (some 6) 0, .qcmdBind .staff 16, .refill 16 0,
      .evsetRegisterWrite .staff 2 0, .evcfgWrite .staff 64 0, .forceWrite .staff true 2 0, .ptrateWrite .staff 16 0, .pwmperWrite .staff 16 0,
      .sdcodeWrite .staff 8 0, .pinfnWrite .staff 96 0, .pinFunctionSwitch 96 0, .bankSupplyMismatch 4 0 true, .bankSupplyMismatch 0 16 true,
      .regionWrite .staff none true false 16 0, .irqcfgWrite .staff 256 0, .pendsetWrite .staff 8 0].any Instr.wf = false := by decide

theorem smoke_links :
    [Instr.linkDown 2 0, .linkDown 0 256, .forecastReceived 0 256 0 0 0, .forecastReceived 0 0 256 0 0, .forecastReceived 0 0 0 (2 ^ 48) 0,
      .forecastReceived 0 0 0 0 256, .forecastArm 0 32, .retractReceived 0 256 0, .retractReceived 0 0 256, .rctxWrite .staff 8 0, .rcctlGo .staff 0 64,
      .rccodeWrite .staff 0 64 0, .utxWrite .staff 4 0, .uartCharacterReceived 4 9 0 true true, .uartCharacterReceived 0 9 512 true true, .scanCycle 9 [] 65536,
      .aoutWrite .staff 32 0, .transmitFrame 2 0 false false 0, .receivedFrame 2 0 [] false false, .receivedFrame 0 0 [256] false false,
      .mdioGo .staff 2 0 0 0 true, .mdioGo .staff 0 32 0 0 true, .mdioGo .staff 0 0 32 0 true, .mdioGo .staff 0 0 0 65536 true, .mdioDone 2 0,
      .mdioDone 0 65536].any Instr.wf = false := by decide

theorem smoke_staff_secrets_and_hall :
    [Instr.windowReadStart 4 true, .setkey 0, .setkey 2, .setkey 7, .keycmdSet .staff 16, .aesEncryptGo .staff 4, .cmacFinal .staff 4 0,
      .cmacFinal .staff 0 17, .sourceStartupPass 3, .drbgInstantiate 10, .rawenWrite .staff true 3, .watchStrobe 4 true true, .inputSample 8 true,
      .divergence 0 0 0 0, .divergence 7 0 0 0, .pairinj .staff 16, .wdkick .staff 0 65536, .safetestComplete [96],
      .pwmPeriodStart 16 0].any Instr.wf = false := by decide

/-- R244 and R245 list these codes; ADDI and RSR of a listed register have meanings of their own. PICK counts to 15, and a division or a
MACN that an interrupt abandons has made at least one iteration. -/
theorem smoke_codes :
    [Instr.illegalOpcode 0 0, .illegalOpcode 0 0x1409, .illegalOpcode 0 0x1500, .illegalOpcode 0 0x0F12, .reservedCode 0 0x000B {},
      .reservedCode 0 0x3EFF {}, .pick 0 15, .macn 0 (some 1)].all Instr.wf = true ∧
    [Instr.illegalOpcode 0 0x1400, .illegalOpcode 0 0x1501, .illegalOpcode 0 0x1101, .reservedCode 0 0x000A {}, .reservedCode 0 0x3F00 {}, .pick 0 16,
      .macn 0 (some 0), .msuni 0 (some 0)].any Instr.wf = false := by decide

/-! ### Worked examples of the spec -/

/-- The stack example of chapter 08: with sixteen operands on chip the seventeenth literal spills the four deepest entries, and leaves
OC = 13 and DSP = 0x0010_FFBC. -/
theorem test_seventeenth_push :
    (match exec (.lit 0 7) (withOps (List.replicate 16 5)) with
      | .next t => (t.core 0).ops.length == 13 && (t.core 0).dsp == 0x10FFBC && ((t.core 0).ops.head?.map (·.val)) == some 7
      | _ => false) = true := by decide

/-- The circular buffer of the L-2 velocity filter (chapter 08). -/
theorem test_circular_buffer :
    (Xreg.stepped { a := 0x10203C, b := 0x102000, cfg := 64, step := 4 } 4).a = 0x102000 := by decide

/-- The bit-reversed order of chapter 08: offset 16 follows 0, 8 follows 16, 28 follows 12, and 0 follows 28. -/
theorem test_bit_reversed :
    [(0, 16), (16, 8), (8, 24), (24, 4), (4, 20), (20, 12), (12, 28), (28, 0)].all (fun p =>
      (Xreg.stepped { a := 0x103000 + BitVec.ofNat 32 p.1, b := 0x103000, cfg := 0x1000020, step := 16 } 4).a == 0x103000 + BitVec.ofNat 32 p.2) = true := by
  decide

/-- The extraction table of chapter 08, with SAT: TRUNC, RHU and RHE of each row. -/
theorem test_extraction :
    ([0, 1, 2].map (fun r => (extract 1 r 32 32 0x30000000_00000000).1)) = [0x30000000, 0x30000000, 0x30000000] ∧
    ([0, 1, 2].map (fun r => (extract 1 r 32 32 0x12345678_80000000).1)) = [0x12345678, 0x12345679, 0x12345678] ∧
    ([0, 1, 2].map (fun r => (extract 1 r 32 32 (-0x12345678_80000000)).1)) = [0xEDCBA987, 0xEDCBA988, 0xEDCBA988] ∧
    ([0, 1, 2].map (fun r => extract 1 r 32 32 0x80000000_00000000)) = [(0x7FFFFFFF, true), (0x7FFFFFFF, true), (0x7FFFFFFF, true)] ∧
    extract 0 0 32 32 0x80000000_00000000 = (0x80000000, false) := by decide

/-- `LD.W` at 0x2000_0203 splits into one byte and three (chapter 11). -/
theorem test_split : splitAt 0x20000203 4 = [(0x20000203, 1), (0x20000204, 3)] := by decide

/-- The placing examples of chapter 05: the L-2 spindle, and the M-3 X rapid. -/
theorem test_place : placeTaps 0 1759511 = 2 ∧ placeTaps 7 274877907 = 2 := by decide

/-- The armed period of chapter 05 on a modulus of 4,096 counts: d while the word reads 3,000, at word 0, and at the antipode. -/
theorem test_distance :
    diffSpan (spanOf 4096) (3000 * 256) (2417 * 256 + 199) = 582 * 256 + 57 ∧
    diffSpan (spanOf 4096) 0 (2417 * 256 + 199) = 1678 * 256 + 57 ∧
    diffSpan (spanOf 4096) (369 * 256 + 199) (2417 * 256 + 199) = -2048 * 256 := by decide

/-- The M-3 pallet changer of chapter 16: 96 inputs, 64 outputs and the check use L = 176 clocks, and its cycle is allowed. -/
theorem test_attendance_length :
    let cfg := R.ACFG_CHKEN.put (R.ACFG_NOUT.put (R.ACFG_NIN.put 0 96) 64) 1
    attLen cfg = 176 ∧ attBad cfg (R.ATIME_LDW.put (R.ATIME_CYCLE.put 0 1000) 8) = false := by decide

/-- The codes that chapter 09 writes out, and one of each format of R216 with its fields put together by hand. -/
theorem test_codes :
    ∀ e ∈ [(0x0001, Instr.nop 0), (0x0010, .tor 0), (0x0100, .add 0), (0x0200, .mul 0), (0x0300, .xchg 0), (0x0400, .ret 0), (0x0406, .reti 0),
        (0x1710, .ldxSigned 0 false .word), (0x17C8, .stx 0 true .half), (0x13A0, .ext32 0 32), (0x1370, .ext16 0 48), (0x1248, .shri 0 8),
        (0x1101, .addi 0 1), (0x100F, .pick 0 15), (0x1501, .wsrStw 0), (0x163F, .gate 0 63), (0x2104, .ldZero 0 .byte 4), (0x2A01, .st 0 .word 1),
        (0x3002, .loop 0 2), (0x3800, .mac 0), (0x390A, .lda 0), (0x3A50, .asra 0 16), (0x4FFF, .jmp 0 0xFFF), (0x5001, .call 0 1),
        (0x6C03, .bgtz 0 3), (0x7020, .litx 0 0x020), (0x7400, .litx 0 0x400), (0x8100, .lit 0 0x100), (0xFF80, .lit 0 (-128)),
        (0x0000, .illegalOpcode 0 0), (0x1010, .illegalOpcode 0 0x1010), (0x12A0, .illegalOpcode 0 0x12A0), (0x13C0, .illegalOpcode 0 0x13C0),
        (0x1640, .illegalOpcode 0 0x1640), (0x17E0, .illegalOpcode 0 0x17E0), (0x000B, .reservedCode 0 0x000B {})],
      decodeHalf 0 e.1 {} = e.2 := by decide

/-- A power-on reset leads to DAWN (R46), and no command waits. -/
theorem test_reset : State.reset.mode = .dawn ∧ State.reset.pending = [] ∧ Memory.wf State.reset.mem = true := by decide
end Sys2Proof.Tests
end

section
/-! PROOF of O60. What a step keeps, carried through the operations of the model one lemma per operation. `o.Keeps t` says of a state
`t` reached from `o` what the obligation asks of a step; a lemma `State.Keeps.f` takes it from `s` to `s.f`. -/

namespace Sys2Proof.Machine

/-- What every step keeps, said of a state `t` reached from a state `o`. -/
structure State.Keeps (o t : State) : Prop where
  memWf : Memory.wf o.mem = true → Memory.wf t.mem = true
  logBound : o.logQ.length ≤ 32 → t.logQ.length ≤ 32
  pendingEq : t.pending = o.pending
  variantEq : t.variant = o.variant

/-- What has been done of an instruction keeps it, whether a fault has been detected or not. -/
def State.KeepsOut {α : Type} (o : State) (r : Out α) : Prop := o.Keeps r.state

section
variable {o s : State}

/-! ### The rules of composition -/

theorem State.Keeps.refl : s.Keeps s := ⟨id, id, rfl, rfl⟩

/-- A change of any other fields. -/
theorem State.Keeps.upd (h : o.Keeps s) {freeCtr rdata now regs inForce was ecc mrq mrRun openLines scrub scrubDue dip mode
    trans dawn stepK supply resetN refOk pllOk clocks dawnEnd estopN estopAt svcLow chans mains tbs wall caps capSeq handed
    capAt slots memq acts ttPeak queues reports repFirst lines gens pwms sds pins bankOk loaded cores rcs uarts att macs bells
    enq en fcMap fcOut staff owners page snapK hall keys otp certBuf attRec signing noise drbgs drbgLast crypto crLast wdStart
    wdOut wdStage restart safeTest} :
    o.Keeps ⟨s.pending, s.variant, freeCtr, rdata, now, regs, inForce, was, s.mem, ecc, mrq, mrRun, openLines, scrub, scrubDue,
      dip, mode, trans, dawn, stepK, supply, resetN, refOk, pllOk, clocks, dawnEnd, estopN, estopAt, svcLow, chans, mains, tbs,
      wall, caps, capSeq, handed, capAt, slots, memq, acts, ttPeak, queues, reports, repFirst, lines, gens, pwms, sds, pins,
      bankOk, loaded, cores, rcs, uarts, att, macs, bells, enq, en, fcMap, fcOut, s.logQ, staff, owners, page, snapK, hall,
      keys, otp, certBuf, attRec, signing, noise, drbgs, drbgLast, crypto, crLast, wdStart, wdOut, wdStage, restart, safeTest⟩
      := ⟨h.memWf, h.logBound, h.pendingEq, h.variantEq⟩

theorem State.Keeps.ite {t : State} {c : Prop} [Decidable c] (hs : o.Keeps s) (ht : o.Keeps t) : o.Keeps (if c then s else t) := by
  split
  · exact hs
  · exact ht

theorem State.Keeps.iteFst {β : Type} {c : Prop} [Decidable c] {p q : State × β} (hp : o.Keeps p.1) (hq : o.Keeps q.1) :
    o.Keeps (if c then p else q).1 := by
  split
  · exact hp
  · exact hq

theorem State.Keeps.iteSnd {β : Type} {c : Prop} [Decidable c] {p q : β × State} (hp : o.Keeps p.2) (hq : o.Keeps q.2) :
    o.Keeps (if c then p else q).2 := by
  split
  · exact hp
  · exact hq

theorem State.KeepsOut.ite {α : Type} {c : Prop} [Decidable c] {r q : Out α} (hr : o.KeepsOut r) (hq : o.KeepsOut q) :
    o.KeepsOut (if c then r else q) := by
  split
  · exact hr
  · exact hq

theorem State.Keeps.foldl {α : Type} {f : State → α → State} (h : o.Keeps s) (l : List α)
    (hf : ∀ {s a}, o.Keeps s → o.Keeps (f s a)) : o.Keeps (l.foldl f s) := by
  induction l generalizing s with
  | nil => exact h
  | cons a l ih => exact ih (hf h)

theorem State.Keeps.ok {α : Type} {a : α} (h : o.Keeps s) : o.KeepsOut (.ok s a) := h
theorem State.Keeps.bad {α : Type} {f : Flt} (h : o.Keeps s) : o.KeepsOut (α := α) (.bad s f) := h

theorem State.KeepsOut.of_ok {α : Type} {r : Out α} {a : α} (h : o.KeepsOut r) (e : r = .ok s a) : o.Keeps s := by
  subst e
  exact h

theorem State.KeepsOut.of_bad {α : Type} {r : Out α} {f : Flt} (h : o.KeepsOut r) (e : r = .bad s f) : o.Keeps s := by
  subst e
  exact h

theorem State.KeepsOut.bind {α β : Type} {r : Out α} {f : State → α → Out β} (hr : o.KeepsOut r)
    (hf : ∀ {s a}, o.Keeps s → o.KeepsOut (f s a)) : o.KeepsOut (r.bind f) := by
  cases r with
  | ok s a => exact hf hr
  | bad s e => exact hr

/-! ### Registers, memory and the Logbook's buffer -/

theorem State.Keeps.wr (h : o.Keeps s) {a v} : o.Keeps (s.wr a v) := by
  unfold State.wr
  exact h.upd

theorem State.Keeps.setFld (h : o.Keeps s) {a f x} : o.Keeps (s.setFld a f x) := by
  unfold State.setFld
  exact h.wr

theorem State.Keeps.count (h : o.Keeps s) {a f n} : o.Keeps (s.count a f n) := by
  unfold State.count
  exact h.setFld

theorem State.Keeps.defer (h : o.Keeps s) {a v} : o.Keeps (s.defer a v) := by
  unfold State.defer
  exact h.upd

theorem State.Keeps.wrReq (h : o.Keeps s) {id a v} : o.Keeps (s.wrReq id a v) := by
  unfold State.wrReq
  exact h.upd

theorem State.Keeps.free (h : o.Keeps s) : o.Keeps (s.free).2 := by
  unfold State.free
  exact h.upd

theorem State.Keeps.setByte (h : o.Keeps s) {a v} : o.Keeps (s.setByte a v) :=
  ⟨fun hw => State.wf_setByte (h.memWf hw) a v, h.logBound, h.pendingEq, h.variantEq⟩

theorem State.Keeps.st {n} (h : o.Keeps s) {a v} : o.Keeps (s.st n a v) := by
  induction n generalizing s a v with
  | zero => exact h
  | succ n ih => exact ih h.setByte

theorem State.Keeps.arrive (h : o.Keeps s) {n} : o.Keeps (s.arrive n) := by
  unfold State.arrive
  exact (h.setFld.ite h.setFld.count).ite h

theorem State.Keeps.arriveAll (h : o.Keeps s) {l} : o.Keeps (s.arriveAll l) := by
  unfold State.arriveAll
  exact h.foldl _ fun hk => hk.arrive

theorem State.st_logQ (n : Nat) : ∀ (s : State) (a v : Nat), (s.st n a v).logQ = s.logQ := by
  induction n with
  | zero => exact fun _ _ _ => rfl
  | succ n ih => exact fun s a v => ih (s.setByte a (BitVec.ofNat 8 v)) (a + 1) (v / 256)

/-- Programming the oldest entry takes it out of the buffer. -/
theorem State.logProgram_logQ (s : State) : s.logProgram.logQ = s.logQ.tail := by
  unfold State.logProgram
  split
  · next e => simp [e]
  · next rest e => simp [e, State.setFld, State.st_logQ]

/-- A shorter buffer. -/
theorem State.Keeps.shorterLog (h : o.Keeps s) {q} (hq : q.length ≤ s.logQ.length) : o.Keeps { s with logQ := q } :=
  ⟨h.memWf, fun ho => hq.trans (h.logBound ho), h.pendingEq, h.variantEq⟩

theorem State.Keeps.logProgram (h : o.Keeps s) : o.Keeps s.logProgram := by
  unfold State.logProgram
  split
  · exact h
  · next e => exact (h.shorterLog (by simp [e])).st.st.wr.setFld

theorem State.Keeps.logPrograms {n} (h : o.Keeps s) : o.Keeps (s.logPrograms n) := by
  induction n generalizing s with
  | zero => exact h
  | succ n ih => exact ih h.logProgram

theorem State.Keeps.logFlush (h : o.Keeps s) : o.Keeps s.logFlush := by
  unfold State.logFlush
  exact h.logPrograms

theorem State.Keeps.logRoom (h : o.Keeps s) : o.Keeps s.logRoom := by
  unfold State.logRoom
  exact h.ite h.free.count.logProgram

/-- A buffer of at most 32 entries has room for one more after `logRoom` (R439). -/
theorem State.logRoom_logQ_length {s : State} (h : s.logQ.length ≤ 32) : s.logRoom.logQ.length < 32 := by
  unfold State.logRoom
  split
  · assumption
  · have e : s.free.2.logQ = s.logQ := rfl
    simp [State.logProgram_logQ, State.count, State.setFld, e]
    omega

theorem State.Keeps.log (h : o.Keeps s) {path guard ring kind event addr old new} :
    o.Keeps (s.log path guard ring kind event addr old new) := by
  have hr := h.logRoom
  refine ⟨hr.memWf, fun ho => ?_, hr.pendingEq, hr.variantEq⟩
  simpa [State.log] using State.logRoom_logQ_length (h.logBound ho)

theorem State.Keeps.logWho (h : o.Keeps s) {w kind addr old new} : o.Keeps (s.logWho w kind addr old new) := by
  unfold State.logWho
  exact h.log

theorem State.Keeps.logCfg (h : o.Keeps s) {w a old new} : o.Keeps (s.logCfg w a old new) := by
  unfold State.logCfg
  exact h.logWho.ite h

/-! ### Memory, its check bits and the MRAM controller -/

theorem State.Keeps.poke1 (h : o.Keeps s) {a v} : o.Keeps (s.poke1 a v) := by
  unfold State.poke1
  split
  · exact h.st
  · exact h.setByte

theorem State.Keeps.poke {n} (h : o.Keeps s) {a v} : o.Keeps (s.poke n a v) := by
  induction n generalizing s a v with
  | zero => exact h
  | succ n ih => exact ih h.poke1

theorem State.Keeps.noteUncorr (h : o.Keeps s) {a scrub} : o.Keeps (s.noteUncorr a scrub) := by
  unfold State.noteUncorr
  exact h.count.ite h.count.wr.wr

theorem State.Keeps.checkWord (h : o.Keeps s) {scrub w} : o.Keeps (s.checkWord scrub w).1 := by
  unfold State.checkWord
  split
  · exact h
  · exact h.upd.count.count.ite h.upd.count
  · exact h.noteUncorr

theorem State.Keeps.checkWords {ws} (h : o.Keeps s) {scrub} : o.Keeps (s.checkWords scrub ws).1 := by
  induction ws generalizing s with
  | nil => exact h
  | cons w ws ih => exact ih h.checkWord

theorem State.Keeps.eccRead (h : o.Keeps s) {a n} : o.Keeps (s.eccRead a n).1 := by
  unfold State.eccRead
  exact h.checkWords

theorem State.Keeps.mergeWords {ws} (h : o.Keeps s) {a n} : o.Keeps (s.mergeWords a n ws) := by
  induction ws generalizing s with
  | nil => exact h
  | cons w ws ih =>
    unfold State.mergeWords
    exact (ih h.upd).ite (ih (h.checkWord.count.ite h.checkWord))

theorem State.Keeps.store (h : o.Keeps s) {a n v} : o.Keeps (s.store a n v) := by
  unfold State.store
  exact h.mergeWords.poke

theorem State.Keeps.mrPush (h : o.Keeps s) {op} : o.Keeps (s.mrPush op) := by
  unfold State.mrPush
  exact h.upd

theorem State.Keeps.mrAck (h : o.Keeps s) {l} : o.Keeps (s.mrAck l) := by
  unfold State.mrAck
  exact h.upd

theorem State.Keeps.mrApply (h : o.Keeps s) {x} : o.Keeps (s.mrApply x) := by
  unfold State.mrApply
  split
  · exact h.store.mrAck.ite h.store
  · exact h.upd
  · exact h.upd.st

theorem State.Keeps.scrubLine (h : o.Keeps s) : o.Keeps s.scrubLine := by
  unfold State.scrubLine
  exact h.checkWords.upd.setFld.ite h.checkWords.upd

theorem State.Keeps.scrubLines {n} (h : o.Keeps s) : o.Keeps (s.scrubLines n) := by
  induction n generalizing s with
  | zero => exact h
  | succ n ih =>
    unfold State.scrubLines
    exact ih h.scrubLine

theorem State.Keeps.scrubRead (h : o.Keeps s) : o.Keeps s.scrubRead := by
  unfold State.scrubRead
  exact h.ite (h.scrubLine.ite h.upd)

theorem State.Keeps.mrNext (h : o.Keeps s) : o.Keeps s.mrNext := by
  unfold State.mrNext
  split
  · exact h
  · exact h.upd.mrApply.upd.scrubLines.ite h.upd.mrApply

theorem State.Keeps.mrDrop {n} (h : o.Keeps s) : o.Keeps (s.mrDrop n) := by
  induction n generalizing s with
  | zero => exact h
  | succ n ih => exact ih h.mrNext

theorem State.Keeps.mrFlush (h : o.Keeps s) : o.Keeps s.mrFlush := by
  unfold State.mrFlush
  exact h.mrDrop

theorem State.Keeps.lineCmd (h : o.Keeps s) {w cmd line} : o.Keeps (s.lineCmd w cmd line).2 := by
  unfold State.lineCmd
  extract_lets +onlyGivenNames shut
  split
  · exact .iteSnd h (.iteSnd h (by split; exacts [h, h.wr.mrPush]))
  · split
    · exact .iteSnd h h
    · exact .iteSnd h h.wr.mrPush
  · exact .iteSnd h.mrPush h
  · exact h

theorem State.Keeps.mrlcmdWrite (h : o.Keeps s) {w v} : o.Keeps (s.mrlcmdWrite w v) := by
  unfold State.mrlcmdWrite
  exact h.ite h.lineCmd.wrReq

theorem State.Keeps.mrscrubWrite (h : o.Keeps s) {w v} : o.Keeps (s.mrscrubWrite w v) := by
  unfold State.mrscrubWrite
  exact h.setFld.ite h

theorem State.Keeps.listOpen (h : o.Keeps s) : o.Keeps s.listOpen := by
  unfold State.listOpen
  exact (h.foldl _ fun hk => (by split; exacts [hk.wr, hk])).setFld

/-- Memory without the bytes that `p` does not hold of. -/
theorem State.Keeps.filterMem (h : o.Keeps s) (p : Host.Cell → Bool) : o.Keeps { s with mem := s.mem.filter p } :=
  ⟨fun hw => memWfFrom_filter p (h.memWf hw), h.logBound, h.pendingEq, h.variantEq⟩

theorem State.Keeps.eraseSealed (h : o.Keeps s) : o.Keeps s.eraseSealed := by
  unfold State.eraseSealed
  exact h.foldl _ fun h => (h.filterMem _).upd.ite h

/-! ### Outputs and pins -/

theorem State.Keeps.setLine (h : o.Keeps s) {l x} : o.Keeps (s.setLine l x) := by
  unfold State.setLine
  exact h.upd

theorem State.Keeps.setGen (h : o.Keeps s) {g x} : o.Keeps (s.setGen g x) := by
  unfold State.setGen
  exact h.upd

theorem State.Keeps.setPwm (h : o.Keeps s) {c x} : o.Keeps (s.setPwm c x) := by
  unfold State.setPwm
  exact h.upd

theorem State.Keeps.setSd (h : o.Keeps s) {i x} : o.Keeps (s.setSd i x) := by
  unfold State.setSd
  exact h.upd

theorem State.Keeps.setPin (h : o.Keeps s) {b x} : o.Keeps (s.setPin b x) := by
  unfold State.setPin
  exact h.upd

theorem State.Keeps.outStat (h : o.Keeps s) {w code} : o.Keeps (s.outStat w code) := by
  unfold State.outStat
  exact h.wrReq

theorem State.Keeps.genPark (h : o.Keeps s) {g} : o.Keeps (s.genPark g) := by
  unfold State.genPark
  exact h.setGen

theorem State.Keeps.safePath (h : o.Keeps s) : o.Keeps s.safePath := by
  unfold State.safePath
  exact (h.foldl _ fun hk => hk.genPark).upd

theorem State.Keeps.lineSafe (h : o.Keeps s) {l} : o.Keeps (s.lineSafe l) := by
  unfold State.lineSafe
  exact h.setLine

theorem State.Keeps.genSafe (h : o.Keeps s) {g fdflt} : o.Keeps (s.genSafe g fdflt) := by
  unfold State.genSafe
  exact h.genPark.setGen

theorem State.Keeps.placeEdge (h : o.Keeps s) {l kind k tap slot} {t} (e : s.placeEdge l kind k tap slot = some t) : o.Keeps t :=
    by
  obtain ⟨fd, -, rfl⟩ := Option.map_eq_some_iff.mp e
  exact h.setLine

theorem State.Keeps.genStart (h : o.Keeps s) {g k tap slot} {t} (e : s.genStart g k tap slot = some t) : o.Keeps t := by
  unfold State.genStart at e
  extract_lets x n y at e
  split at e
  · cases e
    exact h.setGen
  · obtain ⟨fd, -, rfl⟩ := Option.map_eq_some_iff.mp e
    exact h.setGen

theorem State.Keeps.applyMask (h : o.Keeps s) {n mask kind} : o.Keeps (s.applyMask n mask kind) := by
  unfold State.applyMask
  exact h.foldl _ fun hk => hk.setLine.ite hk

theorem State.Keeps.evWrite (h : o.Keeps s) {w n kind mask} : o.Keeps (s.evWrite w n kind mask) := by
  unfold State.evWrite
  exact h.wrReq.outStat.ite h.applyMask.wrReq.outStat

theorem State.Keeps.outCfg (h : o.Keeps s) {w a v safe busy bad} : o.Keeps (s.outCfg w a v safe busy bad) := by
  unfold State.outCfg
  exact h.outStat.ite (h.outStat.ite (h.outStat.ite (h.outStat.ite h.defer.logCfg.outStat)))

theorem State.Keeps.evcfgWrite (h : o.Keeps s) {w l v} : o.Keeps (s.evcfgWrite w l v) := by
  unfold State.evcfgWrite
  exact h.outCfg

theorem State.Keeps.forceWrite (h : o.Keeps s) {w kind n v} : o.Keeps (s.forceWrite w kind n v) := by
  unfold State.forceWrite
  exact h.outStat.ite (h.outStat.ite h.defer.logWho.outStat)

theorem State.Keeps.ptrateWrite (h : o.Keeps s) {w g v} : o.Keeps (s.ptrateWrite w g v) := by
  unfold State.ptrateWrite
  exact h.outStat.ite (h.outStat.ite h.defer.outStat)

theorem State.Keeps.ptGo (h : o.Keeps s) {w g} : o.Keeps (s.ptGo w g) := by
  unfold State.ptGo
  refine h.outStat.ite (h.outStat.ite (h.outStat.ite ?_))
  split
  next e =>
    exact (h.genStart e).outStat
  · exact h.outStat

theorem State.Keeps.ptcfgWrite (h : o.Keeps s) {w g v} : o.Keeps (s.ptcfgWrite w g v) := by
  unfold State.ptcfgWrite
  exact h.outCfg

theorem State.Keeps.landGen (h : o.Keeps s) {g k} : o.Keeps (s.landGen g k) := by
  unfold State.landGen
  extract_lets +onlyGivenNames x fall off1
  have h1 : o.Keeps off1 := h.setGen
  split
  · exact h1.ite (h.setGen.ite h)
  · exact h1.ite h

theorem State.Keeps.genAdd (h : o.Keeps s) {g k} : o.Keeps (s.genAdd g k) := by
  unfold State.genAdd
  exact State.Keeps.ite (by split <;> exact h.setGen) h.setGen

theorem State.Keeps.genRunBy {fuel} (h : o.Keeps s) {g k} : o.Keeps (State.genRunBy fuel s g k) := by
  induction fuel generalizing s with
  | zero => exact h
  | succ fuel ih =>
    unfold State.genRunBy
    exact h.ite (h.setGen.ite (ih (h.setGen.foldl _ fun h => h.landGen).genAdd))

theorem State.Keeps.genStep (h : o.Keeps s) {g k} : o.Keeps (s.genStep g k) := by
  unfold State.genStep
  exact h.genRunBy

theorem State.Keeps.genStop (h : o.Keeps s) {g t} : o.Keeps (s.genStop g t) := by
  unfold State.genStop
  exact h.genStep.setGen

theorem State.Keeps.ptStop (h : o.Keeps s) {w g} : o.Keeps (s.ptStop w g) := by
  unfold State.ptStop
  exact h.outStat.ite (h.genStop.ite h).outStat

theorem State.Keeps.genGo (h : o.Keeps s) {g k} : o.Keeps (s.genGo g k) := by
  unfold State.genGo
  extract_lets x y
  split <;> exact h.setGen

theorem State.Keeps.dirsuDone (h : o.Keeps s) {g} : o.Keeps (s.dirsuDone g) := by
  unfold State.dirsuDone
  exact h.genGo.ite h

theorem State.Keeps.ptDone (h : o.Keeps s) {g} : o.Keeps (s.ptDone g) := by
  unfold State.ptDone
  exact h.setGen.arrive.ite h

theorem State.Keeps.commitRate (h : o.Keeps s) {g} : o.Keeps (s.commitRate g) := by
  unfold State.commitRate
  exact h.genStep.upd.ite h.genStep.upd.setGen

theorem State.Keeps.pwmPerWrite (h : o.Keeps s) {w c v} : o.Keeps (s.pwmPerWrite w c v) := by
  unfold State.pwmPerWrite
  exact h.outStat.ite (h.outStat.ite (h.outStat.ite h.wr.outStat))

theorem State.Keeps.pwmDutyWrite (h : o.Keeps s) {w c v} : o.Keeps (s.pwmDutyWrite w c v) := by
  unfold State.pwmDutyWrite
  exact h.outStat.ite (h.outStat.ite h.wr.setPwm.outStat)

theorem State.Keeps.pwmPeriod (h : o.Keeps s) {c k} : o.Keeps (s.pwmPeriod c k) := by
  unfold State.pwmPeriod
  exact h.ite (by split <;> exact h.setPwm)

theorem State.Keeps.sdCodeWrite (h : o.Keeps s) {w i v} : o.Keeps (s.sdCodeWrite w i v) := by
  unfold State.sdCodeWrite
  exact h.outStat.ite (h.outStat.ite h.defer.outStat)

theorem State.Keeps.pinfnWrite (h : o.Keeps s) {w b v} : o.Keeps (s.pinfnWrite w b v) := by
  unfold State.pinfnWrite
  exact h.defer.setPin.logWho.ite h.setPin

theorem State.Keeps.setRc (h : o.Keeps s) {c x} : o.Keeps (s.setRc c x) := by
  unfold State.setRc
  exact h.upd

theorem State.Keeps.setUart (h : o.Keeps s) {u x} : o.Keeps (s.setUart u x) := by
  unfold State.setUart
  exact h.upd

theorem State.Keeps.uartCtsTo (h : o.Keeps s) {u high} : o.Keeps (s.uartCtsTo u high) := by
  unfold State.uartCtsTo
  exact h.ite h.setUart.arrive

theorem State.Keeps.inputReset (h : o.Keeps s) {f} : o.Keeps (s.inputReset f) := by
  unfold State.inputReset
  split
  · split
    exact h.setRc
  · exact h

theorem State.Keeps.pinLost (h : o.Keeps s) {f} : o.Keeps (s.pinLost f) := by
  unfold State.pinLost
  extract_lets +onlyGivenNames i
  split
  · exact h.setFld
  · exact h.setGen
  · exact h.setGen
  · exact h.setPwm
  · exact h.setSd
  · exact h.uartCtsTo.ite h
  · exact h.setFld
  · exact h

theorem State.Keeps.pinSwitch (h : o.Keeps s) {drive b} : o.Keeps (s.pinSwitch drive b) := by
  unfold State.pinSwitch
  extract_lets +onlyGivenNames p
  split
  · exact (h.setPin.pinLost.ite h.setPin).ite h
  · exact h.setPin.inputReset.ite h
  · exact h.setPin.ite h

theorem State.Keeps.pinbankWrite (h : o.Keeps s) {w v} : o.Keeps (s.pinbankWrite w v) := by
  unfold State.pinbankWrite
  exact h.setFld.setFld.logCfg.ite h

theorem State.Keeps.bankSupply (h : o.Keeps s) {n code inRange} : o.Keeps (s.bankSupply n code inRange) := by
  unfold State.bankSupply
  exact h.setFld.upd.ite h.setFld.upd.setFld

/-! ### The units that actions reach -/

theorem State.Keeps.setCore (h : o.Keeps s) {l c} : o.Keeps (s.setCore l c) := by
  unfold State.setCore
  exact h.upd

theorem State.Keeps.bellPush (h : o.Keeps s) {l r} {t} (e : s.bellPush l r = some t) : o.Keeps t := by
  unfold State.bellPush at e
  obtain ⟨-, ht⟩ := Option.ite_none_right_eq_some.mp e
  cases ht
  exact h.upd.setFld

theorem State.Keeps.bellLost (h : o.Keeps s) {l n} : o.Keeps (s.bellLost l n) := by
  unfold State.bellLost
  exact h.count

theorem State.Keeps.bellDrop (h : o.Keeps s) {l p} : o.Keeps (s.bellDrop l p) := by
  unfold State.bellDrop
  exact h.upd.bellLost

theorem State.Keeps.enPush (h : o.Keeps s) {m} {t} (e : s.enPush m = some t) : o.Keeps t := by
  unfold State.enPush at e
  obtain ⟨-, ht⟩ := Option.ite_none_right_eq_some.mp e
  cases ht
  exact h.upd

theorem State.Keeps.enRefused (h : o.Keeps s) {cls} : o.Keeps (s.enRefused cls) := by
  unfold State.enRefused
  exact h.upd.count

theorem State.Keeps.enSend (h : o.Keeps s) {m} : o.Keeps (s.enSend m) := by
  unfold State.enSend
  split
  next e =>
    exact (h.enPush e)
  · exact h.enRefused

theorem State.Keeps.fcSend (h : o.Keeps s) {typ tag body} : o.Keeps (s.fcSend typ tag body) := by
  unfold State.fcSend
  extract_lets +onlyGivenNames m
  split
  next e =>
    exact (h.enPush e)
  · exact h.enRefused.count

theorem State.Keeps.fcEnd (h : o.Keeps s) {slot tag status whenT} : o.Keeps (s.fcEnd slot tag status whenT) := by
  unfold State.fcEnd
  split
  · exact h
  · exact h.upd.fcSend.ite h.upd.fcSend

theorem State.Keeps.fcRetract (h : o.Keeps s) {slot tag reason} : o.Keeps (s.fcRetract slot tag reason) := by
  unfold State.fcRetract
  split
  · exact h
  · exact h.upd.fcSend

theorem State.Keeps.modeResp (h : o.Keeps s) {status target req why} : o.Keeps (s.modeResp status target req why) := by
  unfold State.modeResp
  exact h.wr

theorem State.Keeps.accept (h : o.Keeps s) {target req cause path} : o.Keeps (s.accept target req cause path) := by
  unfold State.accept
  exact h.upd.modeResp.setFld.safePath.ite h.upd.modeResp.setFld

theorem State.Keeps.demandSafe (h : o.Keeps s) {req} : o.Keeps (s.demandSafe req) := by
  unfold State.demandSafe
  exact h.accept.ite h

theorem State.Keeps.demandLockout (h : o.Keeps s) {req cause} : o.Keeps (s.demandLockout req cause) := by
  unfold State.demandLockout
  exact h.accept.ite h

theorem State.Keeps.nmi (h : o.Keeps s) {l f} : o.Keeps (s.nmi l f) := by
  unfold State.nmi
  exact h.setFld

theorem State.Keeps.rcStart (h : o.Keeps s) {c w k} {t} (e : s.rcStart c w k = some t) : o.Keeps t := by
  unfold State.rcStart at e
  obtain ⟨-, ht⟩ := Option.ite_none_left_eq_some.mp e
  cases ht
  exact h.setRc

/-! ### Slots and periods -/

theorem State.Keeps.setTb (h : o.Keeps s) {t x} : o.Keeps (s.setTb t x) := by
  unfold State.setTb
  exact h.upd

theorem State.Keeps.setSlot (h : o.Keeps s) {i x} : o.Keeps (s.setSlot i x) := by
  unfold State.setSlot
  exact h.upd

theorem State.Keeps.notePeak (h : o.Keeps s) : o.Keeps s.notePeak := by
  unfold State.notePeak
  exact h.upd

theorem State.Keeps.setQueue (h : o.Keeps s) {q x} : o.Keeps (s.setQueue q x) := by
  unfold State.setQueue
  exact h.upd

theorem State.Keeps.armSlot (h : o.Keeps s) {i req guard p word k lateIfBehind fc} : o.Keeps (s.armSlot i req guard p word k
    lateIfBehind fc) := by
  unfold State.armSlot
  exact h.setSlot.notePeak

theorem State.Keeps.chainArm (h : o.Keeps s) {i word k lateIfBehind} : o.Keeps (s.chainArm i word k lateIfBehind) := by
  unfold State.chainArm
  exact h.setSlot

theorem State.Keeps.haltQueue (h : o.Keeps s) {q why} : o.Keeps (s.haltQueue q why) := by
  unfold State.haltQueue
  exact h.setQueue.arrive

theorem State.Keeps.setHead (h : o.Keeps s) {q h1} : o.Keeps (s.setHead q h1) := by
  unfold State.setHead
  exact h.setQueue.arrive.ite h.setQueue

theorem State.Keeps.freeHead (h : o.Keeps s) {q} : o.Keeps (s.freeHead q) := by
  unfold State.freeHead
  split <;> exact h.ite h.setHead

theorem State.Keeps.addReport (h : o.Keeps s) {r} : o.Keeps (s.addReport r) := by
  unfold State.addReport
  exact h.upd

theorem State.Keeps.consume (h : o.Keeps s) {q code when0 latef rawpl disc ready} : o.Keeps (s.consume q code when0 latef rawpl
    disc ready) := by
  unfold State.consume
  exact h.setQueue.addReport.ite h.setQueue.freeHead

theorem State.Keeps.afterConsume (h : o.Keeps s) {q} : o.Keeps (s.afterConsume q) := by
  unfold State.afterConsume
  exact h.ite (h.setQueue.count.ite (h.setQueue.ite h.setQueue.count))

theorem State.Keeps.queueStatus (h : o.Keeps s) {q status latef} : o.Keeps (s.queueStatus q status latef) := by
  unfold State.queueStatus
  extract_lets +onlyGivenNames s1 s2
  have h1 : o.Keeps s1 := h.count.ite h
  have h2 : o.Keeps s2 := h1.count.ite h1
  exact (h2.count.haltQueue.ite h2.count).ite (h2.haltQueue.ite h2)

theorem State.Keeps.queueEnd (h : o.Keeps s) {i status ready} : o.Keeps (s.queueEnd i status ready) := by
  unfold State.queueEnd
  split
  · exact h
  · exact h.ite (h.setQueue.ite (h.consume.queueStatus.ite h.consume).afterConsume)

theorem State.Keeps.settleReport (h : o.Keeps s) {q idx status latef} : o.Keeps (s.settleReport q idx status latef) := by
  unfold State.settleReport
  exact h.upd.queueStatus.ite h.upd

theorem State.Keeps.setFcEntry (h : o.Keeps s) {e x} : o.Keeps (s.setFcEntry e x) := by
  unfold State.setFcEntry
  exact h.upd

theorem State.Keeps.fcClose (h : o.Keeps s) {e dead} : o.Keeps (s.fcClose e dead) := by
  unfold State.fcClose
  exact h.setFcEntry

theorem State.Keeps.fcSlotEnd (h : o.Keeps s) {x status} : o.Keeps (s.fcSlotEnd x status) := by
  unfold State.fcSlotEnd
  split
  · exact h.fcClose.ite h
  · exact h

theorem State.Keeps.freeSlot (h : o.Keeps s) {i status} : o.Keeps (s.freeSlot i status) := by
  unfold State.freeSlot
  exact h.setSlot

theorem State.Keeps.endSlotOnly (h : o.Keeps s) {i status} : o.Keeps (s.endSlotOnly i status) := by
  unfold State.endSlotOnly
  exact h.freeSlot.fcEnd.fcSlotEnd

theorem State.Keeps.endSlot (h : o.Keeps s) {i status} : o.Keeps (s.endSlot i status) := by
  unfold State.endSlot
  exact h.endSlotOnly.queueEnd

theorem State.Keeps.sendErrand (h : o.Keeps s) {i k status e} : o.Keeps (s.sendErrand i k status e) := by
  unfold State.sendErrand
  exact h.freeSlot.queueEnd.upd

theorem State.Keeps.endSlots (h : o.Keeps s) {p status} : o.Keeps (s.endSlots p status) := by
  unfold State.endSlots
  exact h.foldl _ fun hk => hk.endSlot.ite hk

/-! ### Position words and captures -/

theorem State.Keeps.setChan (h : o.Keeps s) {n x} : o.Keeps (s.setChan n x) := by
  unfold State.setChan
  exact h.upd

theorem State.Keeps.moveTo (h : o.Keeps s) {t w} : o.Keeps (s.moveTo t w) := by
  unfold State.moveTo
  exact h.setTb.ite ((h.setTb.arrive.ite h.setTb).ite h.setTb)

theorem State.Keeps.setVel (h : o.Keeps s) {t v} : o.Keeps (s.setVel t v) := by
  unfold State.setVel
  exact h.setTb.arrive.ite h.setTb

theorem State.Keeps.stepTb (h : o.Keeps s) {old t} : o.Keeps (s.stepTb old t) := by
  unfold State.stepTb
  exact h.setTb.moveTo.setVel.setTb.ite h.setTb

theorem State.Keeps.stepWords (h : o.Keeps s) : o.Keeps s.stepWords := by
  unfold State.stepWords
  exact (h.foldl _ fun hk => hk.stepTb).upd

theorem State.Keeps.captureNew (h : o.Keeps s) {k src src2} {t} (e : s.captureNew k src src2 = some t) : o.Keeps t := by
  unfold State.captureNew at e
  split at e
  · cases e
  · cases e
    exact h.upd.setFld

theorem State.Keeps.capture (h : o.Keeps s) {k src src2} {t} (e : s.capture k src src2 = some t) : o.Keeps t := by
  unfold State.capture at e
  split at e
  · cases e
    exact h.upd
  · cases e
  · exact h.captureNew e

theorem State.Keeps.captureLost (h : o.Keeps s) {k} : o.Keeps (s.captureLost k) := by
  unfold State.captureLost
  exact h.ite h.upd.count

/-! ### The Attendance scan -/

theorem State.Keeps.attStat (h : o.Keeps s) {w code} : o.Keeps (s.attStat w code) := by
  unfold State.attStat
  exact h.wrReq

theorem State.Keeps.attPoint (h : o.Keeps s) {p lv} : o.Keeps (s.attPoint p lv).1 := by
  unfold State.attPoint
  exact .iteFst h.upd (.iteFst h.upd h.upd.setFld)

theorem State.Keeps.foldlFst {α β : Type} {f : State × β → α → State × β} {r : State × β} (h : o.Keeps r.1) (l : List α)
    (hf : ∀ {r a}, o.Keeps r.1 → o.Keeps (f r a).1) : o.Keeps (l.foldl f r).1 := by
  induction l generalizing r with
  | nil => exact h
  | cons a l ih => exact ih (hf h)

theorem State.Keeps.attPublish (h : o.Keeps s) {inputs} : o.Keeps (s.attPublish inputs) := by
  unfold State.attPublish
  extract_lets r t
  have hr : o.Keeps r.1 := by
    refine State.Keeps.foldlFst h _ fun h => ?_
    dsimp only
    split
    · exact h.attPoint.setFld
    · exact h.attPoint
  have ht : o.Keeps t := hr.setFld
  exact ht.arrive.ite ht

theorem State.Keeps.scanCycle (h : o.Keeps s) {inputs word} : o.Keeps (s.scanCycle inputs word) := by
  unfold State.scanCycle
  exact h.upd.ite h

theorem State.Keeps.attFinish (h : o.Keeps s) {c} : o.Keeps (s.attFinish c) := by
  unfold State.attFinish
  extract_lets pass n lim s1 att x s2
  have h2 : o.Keeps s2 := (h.setFld.ite h).upd.arrive
  split
  · exact h2.upd.attPublish
  · exact h2.upd
  · exact h2.upd.count.upd.arrive.ite h2.upd.count

theorem State.Keeps.attDue (h : o.Keeps s) : o.Keeps s.attDue := by
  unfold State.attDue
  split
  · exact h
  · exact (h.upd.ite h).attFinish.ite (h.upd.ite h)

theorem State.Keeps.attEnable (h : o.Keeps s) {w on} : o.Keeps (s.attEnable w on) := by
  unfold State.attEnable
  exact (h.attStat.ite (h.attStat.ite h.upd.setFld.attStat)).ite h.upd.setFld.attStat

theorem State.Keeps.attClear (h : o.Keeps s) {w} : o.Keeps (s.attClear w) := by
  unfold State.attClear
  exact h.upd.arrive.attStat.ite h.attStat

theorem State.Keeps.actlWrite (h : o.Keeps s) {w v} : o.Keeps (s.actlWrite w v) := by
  unfold State.actlWrite
  exact h.attStat.ite ((h.attStat.ite h.attEnable).attClear.ite (h.attStat.ite h.attEnable))

theorem State.Keeps.attOut (h : o.Keeps s) {w n mask f} : o.Keeps (s.attOut w n mask f) := by
  unfold State.attOut
  exact h.wrReq.attStat.ite h.wr.wrReq.attStat

theorem State.Keeps.aoutWrite (h : o.Keeps s) {w n v} : o.Keeps (s.aoutWrite w n v) := by
  unfold State.aoutWrite
  exact h.attOut

theorem State.Keeps.aosetWrite (h : o.Keeps s) {w n v} : o.Keeps (s.aosetWrite w n v) := by
  unfold State.aosetWrite
  exact h.attOut

theorem State.Keeps.aoclrWrite (h : o.Keeps s) {w n v} : o.Keeps (s.aoclrWrite w n v) := by
  unfold State.aoclrWrite
  exact h.attOut

theorem State.Keeps.attCfg (h : o.Keeps s) {w a v} : o.Keeps (s.attCfg w a v) := by
  unfold State.attCfg
  exact h.attStat.ite (h.attStat.ite (h.attStat.ite (h.upd.ite h).wr.logWho.attStat))

theorem State.Keeps.attRunEntry (h : o.Keeps s) : o.Keeps s.attRunEntry := by
  unfold State.attRunEntry
  exact h.upd.foldl _ fun hk => hk.wr

/-! ### Secrets and randomness -/

theorem State.Keeps.setKey (h : o.Keeps s) {k x} : o.Keeps (s.setKey k x) := by
  unfold State.setKey
  exact h.upd

theorem State.Keeps.keyWrite (h : o.Keeps s) {w k x} : o.Keeps (s.keyWrite w k x) := by
  unfold State.keyWrite
  exact h.log.logFlush.setKey

theorem State.Keeps.freeWords {n} (h : o.Keeps s) : o.Keeps (s.freeWords n).2 := by
  induction n generalizing s with
  | zero => exact h
  | succ n ih => exact ih h.free

theorem State.Keeps.setDrbg (h : o.Keeps s) {n d} : o.Keeps (s.setDrbg n d) := by
  unfold State.setDrbg
  exact h.upd.setFld

theorem State.Keeps.rngStop (h : o.Keeps s) : o.Keeps s.rngStop := by
  unfold State.rngStop
  extract_lets +onlyGivenNames s1 s2 s3 _ s4
  have h3 : o.Keeps s3 := (h.setFld.foldl _ fun h => h.setDrbg).setFld.ite (h.setFld.foldl _ fun h => h.setDrbg)
  exact (h3.upd.ite h3).arrive

theorem State.Keeps.sourcePass (h : o.Keeps s) {i} : o.Keeps (s.sourcePass i) := by
  unfold State.sourcePass
  exact h.upd.setFld.ite h

theorem State.Keeps.sourceFail (h : o.Keeps s) {i apt} : o.Keeps (s.sourceFail i apt) := by
  unfold State.sourceFail
  refine h.ite ?_
  extract_lets +onlyGivenNames s1 s2 n s3 s4
  have h4 : o.Keeps s4 := h.upd.count.setFld.setFld
  exact h4.ite (h4.rngStop.ite (h4.setFld.rngStop.ite h4.setFld.arrive))

theorem State.Keeps.drbgSeeded (h : o.Keeps s) {n d} : o.Keeps (s.drbgSeeded n d) := by
  unfold State.drbgSeeded
  exact h.setDrbg.upd

theorem State.Keeps.rngReady (h : o.Keeps s) : o.Keeps s.rngReady := by
  unfold State.rngReady
  exact h.setFld.arrive.ite h

theorem State.Keeps.drbgWaited (h : o.Keeps s) : o.Keeps s.drbgWaited := by
  unfold State.drbgWaited
  exact h.free.count

theorem State.Keeps.drbgInstantiate (h : o.Keeps s) {n} : o.Keeps (s.drbgInstantiate n) := by
  unfold State.drbgInstantiate
  exact h.drbgWaited.drbgSeeded.rngReady.ite h

theorem State.Keeps.drbgReseed (h : o.Keeps s) {n bits} : o.Keeps (s.drbgReseed n bits) := by
  unfold State.drbgReseed
  exact (h.drbgWaited.drbgSeeded.setFld.ite h.setDrbg).ite h

theorem State.Keeps.drbgAsked (h : o.Keeps s) {n k} : o.Keeps (s.drbgAsked n k) := by
  unfold State.drbgAsked
  exact h.setDrbg

theorem State.Keeps.drbgRefill (h : o.Keeps s) {n} : o.Keeps (s.drbgRefill n) := by
  unfold State.drbgRefill
  exact (h.freeWords.setDrbg.drbgAsked.arrive.ite h.freeWords.setDrbg.drbgAsked).ite h

theorem State.Keeps.drbgDraw (h : o.Keeps s) {n words} {r : List Word × State} (e : s.drbgDraw n words = some r) : o.Keeps r.2 :=
    by
  unfold State.drbgDraw at e
  obtain ⟨-, hr⟩ := Option.ite_none_right_eq_some.mp e
  cases hr
  exact h.freeWords.drbgAsked

theorem State.Keeps.drbgRead (h : o.Keeps s) {id} : o.Keeps (s.drbgRead id).2 := by
  unfold State.drbgRead
  extract_lets +onlyGivenNames n d
  split
  · exact h.setDrbg
  · exact h.setDrbg.wrReq

theorem State.Keeps.rawenWrite (h : o.Keeps s) {w v} : o.Keeps (s.rawenWrite w v) := by
  unfold State.rawenWrite
  exact h.setFld.setFld.setFld.ite h

theorem State.Keeps.rngcutWrite (h : o.Keeps s) {w v} : o.Keeps (s.rngcutWrite w v) := by
  unfold State.rngcutWrite
  exact h.wr.logCfg.ite h

theorem State.Keeps.clearKeyData (h : o.Keeps s) {id} : o.Keeps (s.clearKeyData id) := by
  unfold State.clearKeyData
  exact h.foldl _ fun hk => hk.wrReq

theorem State.Keeps.keyGen (h : o.Keeps s) {w k} : o.Keeps (s.keyGen w k) := by
  unfold State.keyGen
  split
  next e =>
    exact (h.drbgDraw e).keyWrite
  · exact h

theorem State.Keeps.keyCmd (h : o.Keeps s) {w v} : o.Keeps (s.keyCmd w v) := by
  unfold State.keyCmd
  exact (h.ite (by split; exacts [h.keyWrite, h.keyGen, h.keyWrite])).clearKeyData.wrReq

theorem State.Keeps.keyuseWrite (h : o.Keeps s) {w v} : o.Keeps (s.keyuseWrite w v) := by
  unfold State.keyuseWrite
  exact h.wr.logCfg.ite h

theorem State.Keeps.setCrypt (h : o.Keeps s) {id c} : o.Keeps (s.setCrypt id c) := by
  unfold State.setCrypt
  exact h.upd

theorem State.Keeps.cryptoGo (h : o.Keeps s) {w op k len} : o.Keeps (s.cryptoGo w op k len) := by
  unfold State.cryptoGo
  exact h.wrReq.ite h.setCrypt.wrReq

theorem State.Keeps.crctlWrite (h : o.Keeps s) {w v} : o.Keeps (s.crctlWrite w v) := by
  unfold State.crctlWrite
  exact h.wrReq.cryptoGo.ite h.wrReq

theorem State.Keeps.cryptoDone (h : o.Keeps s) : o.Keeps s.cryptoDone := by
  unfold State.cryptoDone
  split
  · exact h
  extract_lets +onlyGivenNames c
  split
  · exact h
  · exact State.Keeps.wrReq (by split; exacts [h.upd.setCrypt.foldl _ fun hk => hk.wrReq, h.upd.setCrypt])

theorem State.Keeps.serviceErase (h : o.Keeps s) : o.Keeps s.serviceErase := by
  unfold State.serviceErase
  exact ((h.foldl _ fun hk => hk.setKey).foldl _ fun hk => hk.setDrbg).setFld.eraseSealed

theorem State.Keeps.sealKeyGen (h : o.Keeps s) : o.Keeps s.sealKeyGen := by
  unfold State.sealKeyGen
  exact (h.keyGen.ite h).setFld

/-! ### Sections passing on the ring -/

theorem State.Keeps.enNoteLife (h : o.Keeps s) {chars} : o.Keeps (s.enNoteLife chars) := by
  unfold State.enNoteLife
  exact h.upd

theorem State.Keeps.enStatusPass (h : o.Keeps s) {first good x} : o.Keeps (s.enStatusPass first good x).1 := by
  unfold State.enStatusPass
  exact .iteFst (h.enNoteLife.ite h) (h.enNoteLife.ite h)

theorem State.Keeps.setEnRing (h : o.Keeps s) {b r} : o.Keeps (s.setEnRing b r) := by
  unfold State.setEnRing
  exact h.upd.ite h.upd

theorem State.Keeps.enRoom (h : o.Keeps s) : o.Keeps s.enRoom := by
  unfold State.enRoom
  exact h.ite h.upd.arrive

theorem State.Keeps.enTake (h : o.Keeps s) {b m} : o.Keeps (s.enTake b m) := by
  unfold State.enTake
  exact h.upd.setEnRing.enRoom

theorem State.Keeps.enMsgPass (h : o.Keeps s) {b i good x} : o.Keeps (s.enMsgPass b i good x).1 := by
  unfold State.enMsgPass
  extract_lets +onlyGivenNames chars
  split
  · exact h.enTake
  · exact h

theorem State.Keeps.enSection (h : o.Keeps s) {b e} : o.Keeps (s.enSection b e) := by
  unfold State.enSection
  extract_lets +onlyGivenNames i good s1 first out2 r
  have h1 : o.Keeps s1 := h.ite h.count
  have h2 : o.Keeps out2.1 := .iteFst (.iteFst h1.enMsgPass h1) (.iteFst h1.enStatusPass (.iteFst h1 h1.enMsgPass))
  exact h2.setEnRing

theorem State.Keeps.enPassRing (h : o.Keeps s) {k b} : o.Keeps (s.enPassRing k b) := by
  unfold State.enPassRing
  exact h.setEnRing.foldl _ fun hk => hk.enSection

theorem State.Keeps.enPass (h : o.Keeps s) {k} : o.Keeps (s.enPass k) := by
  unfold State.enPass
  exact h.ite h.enPassRing.enPassRing

/-! ### The Timetable -/

theorem State.Keeps.ttFault (h : o.Keeps s) {kind place gen field} : o.Keeps (s.ttFault kind place gen field) := by
  unfold State.ttFault
  exact h.ite h.wr

theorem State.Keeps.ttFaultReact (h : o.Keeps s) : o.Keeps s.ttFaultReact := by
  unfold State.ttFaultReact
  exact h.nmi.demandSafe

theorem State.Keeps.ownedSafe (h : o.Keeps s) {i} : o.Keeps (s.ownedSafe i) := by
  unfold State.ownedSafe
  exact (h.foldl _ fun hk => hk.lineSafe.ite hk).foldl _ fun hk => hk.genSafe.ite hk

theorem State.Keeps.compareFault (h : o.Keeps s) {i} : o.Keeps (s.compareFault i) := by
  unfold State.compareFault
  split
  · exact h
  · exact h.ownedSafe.endSlot.ttFault.ttFaultReact

theorem State.Keeps.armNext (h : o.Keeps s) {j} : o.Keeps (s.armNext j).1 := by
  unfold State.armNext
  exact .iteFst h (.iteFst h.endSlot (.iteFst h.endSlot h.chainArm))

theorem State.Keeps.act (h : o.Keeps s) {i p pl} : o.Keeps (s.act i p pl).1 := by
  unfold State.act
  extract_lets orFail
  have horFail : ∀ {r st}, (∀ t, r = some t → o.Keeps t) → o.Keeps (orFail r st).1 := by
    intro r st hr
    cases r with
    | none => exact h
    | some t => exact hr t rfl
  split
  · exact horFail fun t e => h.placeEdge e
  · exact horFail fun t e => h.placeEdge e
  · exact horFail fun t e => h.placeEdge e
  · exact .iteFst h (horFail fun t e => h.genStart e)
  · exact h.genStop
  · split
    next e => exact h.capture e
    · exact h.captureLost
  · exact .iteFst h (.iteFst h h.upd)
  · exact h.armNext
  · exact h

theorem State.Keeps.fire (h : o.Keeps s) {i late} : o.Keeps (s.fire i late) := by
  unfold State.fire
  refine h.setSlot.ite (h.setSlot.count.endSlot.ite (h.setSlot.endSlot.ite ?_))
  extract_lets +onlyGivenNames _ s1 s2 fired
  have h2 : o.Keeps s2 := h.setSlot.count.ite h.setSlot
  split
  · exact h2.sendErrand
  · exact h2.act.endSlot

theorem State.Keeps.passSlot (h : o.Keeps s) {i} : o.Keeps (s.passSlot i) := by
  unfold State.passSlot
  exact h.setSlot.fcRetract.ite (h.setSlot.fcRetract.ite (h.setSlot.fcRetract.ite h.setSlot))

theorem State.Keeps.evalSlot (h : o.Keeps s) {i} : o.Keeps (s.evalSlot i) := by
  unfold State.evalSlot
  exact h.ite (h.compareFault.ite (h.fire.ite (h.fire.ite h.passSlot)))

theorem State.Keeps.evalBelow (h : o.Keeps s) {n} : o.Keeps (s.evalBelow n) := by
  unfold State.evalBelow
  exact h.foldl _ fun hk => hk.evalSlot

theorem State.Keeps.detect (h : o.Keeps s) {i k} : o.Keeps (s.detect i k) := by
  unfold State.detect
  exact h.evalBelow.evalSlot.ite h

theorem State.Keeps.resolveHeld (h : o.Keeps s) : o.Keeps s.resolveHeld := by
  unfold State.resolveHeld
  exact h.foldl _ fun hk => hk.fire.ite hk

theorem State.Keeps.errand (h : o.Keeps s) {e k} : o.Keeps (s.errand e k).1 := by
  unfold State.errand
  split
  · exact h.arrive
  · split
    next e =>
      exact (h.bellPush e)
    · exact h.bellLost
  · split
    next e =>
      exact (h.enPush e)
    · exact h.enRefused
  split
  next e =>
    exact (h.rcStart e)
  · exact h

theorem State.Keeps.settleAct (h : o.Keeps s) {a} : o.Keeps (s.settleAct a) := by
  unfold State.settleAct
  extract_lets +onlyGivenNames r1 x st s2
  have h1 : o.Keeps r1.1 := h.errand
  have h2 : o.Keeps s2 := h1.setSlot.fcEnd
  split
  · exact h2.settleReport
  · exact h2

theorem State.Keeps.settleDue (h : o.Keeps s) : o.Keeps s.settleDue := by
  unfold State.settleDue
  exact h.upd.foldl _ fun hk => hk.settleAct

theorem State.Keeps.countRefuse (h : o.Keeps s) {id} : o.Keeps (s.countRefuse id) := by
  unfold State.countRefuse
  split <;> exact h.count

theorem State.Keeps.armAt (h : o.Keeps s) {i req guard p lateIfBehind fc} : o.Keeps (s.armAt i req guard p lateIfBehind fc) := by
  unfold State.armAt
  exact h.armSlot

theorem State.Keeps.armRequest (h : o.Keeps s) {w p} : o.Keeps (s.armRequest w p).2 := by
  unfold State.armRequest
  split
  · exact h.armAt
  · exact h.countRefuse

theorem State.Keeps.setTtres (h : o.Keeps s) {w v} : o.Keeps (s.setTtres w v) := by
  unfold State.setTtres
  exact h.wrReq

theorem State.Keeps.ttNewGo (h : o.Keeps s) {w go} : o.Keeps (s.ttNewGo w go) := by
  unfold State.ttNewGo
  exact h.armRequest.setTtres.ite h

theorem State.Keeps.ttCmd (h : o.Keeps s) {w cmd i} : o.Keeps (s.ttCmd w cmd i) := by
  unfold State.ttCmd
  exact (h.endSlot.ite h).setTtres.ite h

theorem State.Keeps.ttMembase (h : o.Keeps s) {w v} : o.Keeps (s.ttMembase w v) := by
  unfold State.ttMembase
  exact h.setTtres.ite (h.wr.ite h.setTtres)

theorem State.Keeps.ttResv (h : o.Keeps s) {w a v} : o.Keeps (s.ttResv w a v) := by
  unfold State.ttResv
  exact h.wr.ite h.setTtres

theorem State.Keeps.latent (h : o.Keeps s) {i} : o.Keeps (s.latent i) := by
  unfold State.latent
  exact h.count.setFld.setSlot.ite h

theorem State.Keeps.recordFdflt (h : o.Keeps s) {kind l fd} : o.Keeps (s.recordFdflt kind l fd) := by
  unfold State.recordFdflt
  exact h.foldl _ fun hk => hk.setSlot.ite hk

theorem State.Keeps.fineDelayFault (h : o.Keeps s) {gen l} : o.Keeps (s.fineDelayFault gen l) := by
  unfold State.fineDelayFault
  exact h.ite (h.recordFdflt.genSafe.ite h.recordFdflt.lineSafe).ttFault.ttFaultReact

theorem State.Keeps.ttInj (h : o.Keeps s) {w slot field bit line gen} : o.Keeps (s.ttInj w slot field bit line gen) := by
  unfold State.ttInj
  refine h.setTtres.ite ?_
  exact h.setTtres.ite (h.setTtres.ite ((h.setGen.setTtres.ite h.setLine.setTtres).ite h.setSlot.setTtres))

theorem State.Keeps.landLine (h : o.Keeps s) {l k} : o.Keeps (s.landLine l k) := by
  unfold State.landLine
  extract_lets +onlyGivenNames x
  split
  · exact h
  · exact h.setLine.ite h

theorem State.Keeps.memwDone (h : o.Keeps s) : o.Keeps s.memwDone := by
  unfold State.memwDone
  split
  · exact h
  · exact h.upd.store

/-! ### Timebases -/

theorem State.Keeps.signalDisc (h : o.Keeps s) {t} : o.Keeps (s.signalDisc t) := by
  unfold State.signalDisc
  exact h.setTb

theorem State.Keeps.placeAt (h : o.Keeps s) {t w} : o.Keeps (s.placeAt t w) := by
  unfold State.placeAt
  exact h.setTb.signalDisc

theorem State.Keeps.jumpTo (h : o.Keeps s) {t w} : o.Keeps (s.jumpTo t w) := by
  unfold State.jumpTo
  exact h.setTb.placeAt

theorem State.Keeps.endUnref (h : o.Keeps s) {t} : o.Keeps (s.endUnref t) := by
  unfold State.endUnref
  exact h.endSlots

theorem State.Keeps.setRef (h : o.Keeps s) {t ref} : o.Keeps (s.setRef t ref) := by
  unfold State.setRef
  exact h.setTb.endUnref.ite h.setTb

theorem State.Keeps.followRefs (h : o.Keeps s) : o.Keeps s.followRefs := by
  unfold State.followRefs
  exact h.foldl _ fun hk => hk.setRef

theorem State.Keeps.putRef (h : o.Keeps s) {t ref} : o.Keeps (s.putRef t ref) := by
  unfold State.putRef
  exact h.setRef.followRefs

theorem State.Keeps.tbStop (h : o.Keeps s) {t st cause} : o.Keeps (s.tbStop t st cause) := by
  unfold State.tbStop
  exact (h.setTb.arrive.ite h.setTb).endSlots

theorem State.Keeps.chain (h : o.Keeps s) {old} : o.Keeps (s.chain old) := by
  unfold State.chain
  exact h.foldl _ fun hk => hk.tbStop.ite (hk.setTb.ite hk)

theorem State.Keeps.tbFault (h : o.Keeps s) {t cause} : o.Keeps (s.tbFault t cause) := by
  unfold State.tbFault
  exact h.tbStop.ite h

theorem State.Keeps.tbOff (h : o.Keeps s) {t} : o.Keeps (s.tbOff t) := by
  unfold State.tbOff
  exact h.ite h.tbStop

theorem State.Keeps.tbSync (h : o.Keeps s) {t} : o.Keeps (s.tbSync t) := by
  unfold State.tbSync
  exact h.setTb.putRef

theorem State.Keeps.overspeed (h : o.Keeps s) : o.Keeps s.overspeed := by
  unfold State.overspeed
  exact h.foldl _ fun hk => hk.tbFault.ite (hk.setTb.ite hk)

theorem State.Keeps.checkTaken (h : o.Keeps s) {q} : o.Keeps (s.checkTaken q) := by
  unfold State.checkTaken
  extract_lets +onlyGivenNames x
  split
  · exact h.setQueue.ite (h.setQueue.ite h)
  · exact h

theorem State.Keeps.tick (h : o.Keeps s) : o.Keeps s.tick := by
  unfold State.tick
  exact (h.evalBelow.stepWords.chain.overspeed.followRefs.settleDue.foldl _ fun hk => hk.checkTaken).enPass

theorem State.Keeps.advance (h : o.Keeps s) {k} : o.Keeps (s.advance k) := by
  unfold State.advance
  exact ((h.upd.ite h).foldl _ fun hk => hk.tick).attDue.ite h

theorem State.Keeps.tbStat (h : o.Keeps s) {t code} : o.Keeps (s.tbStat t code) := by
  unfold State.tbStat
  exact h.setTb

theorem State.Keeps.tbCmd (h : o.Keeps s) {w t cmd newsrc} : o.Keeps (s.tbCmd w t cmd newsrc) := by
  unfold State.tbCmd
  exact h.tbStat.ite (h.setTb.ite h.tbStat)

theorem State.Keeps.tbDoSet (h : o.Keeps s) {t} : o.Keeps (s.tbDoSet t) := by
  unfold State.tbDoSet
  exact h.setTb.placeAt.ite h.setTb.placeAt.putRef

theorem State.Keeps.tbDoShift (h : o.Keeps s) {t} : o.Keeps (s.tbDoShift t) := by
  unfold State.tbDoShift
  exact h.setTb.placeAt

theorem State.Keeps.tbDoSwitchB (h : o.Keeps s) {t newsrc} : o.Keeps (s.tbDoSwitchB t newsrc) := by
  unfold State.tbDoSwitchB
  exact h.setFld.setTb.ite h.setFld.setTb.followRefs

theorem State.Keeps.tbDoSwitchD (h : o.Keeps s) {t newsrc} : o.Keeps (s.tbDoSwitchD t newsrc) := by
  unfold State.tbDoSwitchD
  exact h.tbDoSwitchB.setTb.jumpTo.putRef.ite h.tbDoSwitchB.setTb.jumpTo

theorem State.Keeps.tbEffect (h : o.Keeps s) {t} : o.Keeps (s.tbEffect t) := by
  unfold State.tbEffect
  extract_lets x
  split
  · exact h
  · refine h.ite (h.setTb.tbStat.ite (State.Keeps.log ?_))
    split
    · exact h.setTb.tbDoSet
    · exact h.setTb.putRef
    · exact h.setTb.tbDoShift
    · exact h.setTb.putRef
    · exact h.setTb.tbDoSwitchB
    · exact h.setTb.tbDoSwitchD

theorem State.Keeps.tbCfgWrite (h : o.Keeps s) {w t v} : o.Keeps (s.tbCfgWrite w t v) := by
  unfold State.tbCfgWrite
  refine h.tbStat.ite (h.tbStat.ite (h.tbStat.ite (h.tbStat.ite ?_)))
  exact h.wr.logCfg.tbStat.ite (h.wr.logCfg.tbStat.endSlots.tbOff.ite h.wr.logCfg.tbStat.endSlots.setTb.putRef)

theorem State.Keeps.tbModWrite (h : o.Keeps s) {w t v} : o.Keeps (s.tbModWrite w t v) := by
  unfold State.tbModWrite
  exact h.tbStat.ite (h.tbStat.ite h.defer.logCfg.tbStat)

theorem State.Keeps.tbNumWrite (h : o.Keeps s) {w t v} : o.Keeps (s.tbNumWrite w t v) := by
  unfold State.tbNumWrite
  exact h.tbStat.ite h.defer.logCfg.tbStat

theorem State.Keeps.tbDenWrite (h : o.Keeps s) {w t v} : o.Keeps (s.tbDenWrite w t v) := by
  unfold State.tbDenWrite
  exact h.tbStat.ite (h.tbStat.ite h.defer.logCfg.tbStat)

theorem State.Keeps.tbSynWrite (h : o.Keeps s) {t v} : o.Keeps (s.tbSynWrite t v) := by
  unfold State.tbSynWrite
  exact h.tbStat.ite h.defer.tbStat

theorem State.Keeps.tbSetWrite (h : o.Keeps s) {t a v} : o.Keeps (s.tbSetWrite t a v) := by
  unfold State.tbSetWrite
  exact h.wr.tbStat.ite h.tbStat

theorem State.Keeps.commitMod (h : o.Keeps s) {t m1} : o.Keeps (s.commitMod t m1) := by
  unfold State.commitMod
  extract_lets +onlyGivenNames x cut
  split <;> exact h.setTb.placeAt

theorem State.Keeps.commitRatio (h : o.Keeps s) {t} : o.Keeps (s.commitRatio t) := by
  unfold State.commitRatio
  exact h.setTb

theorem State.Keeps.standstill (h : o.Keeps s) {t k} : o.Keeps (s.standstill t k) := by
  unfold State.standstill
  exact h.ite (h.setTb.arrive.ite h.setTb)

theorem State.Keeps.stale (h : o.Keeps s) {t k} : o.Keeps (s.stale t k) := by
  unfold State.stale
  extract_lets +onlyGivenNames x
  split
  · exact h.setTb.ite h
  · exact h

theorem State.Keeps.wallStat (h : o.Keeps s) {code} : o.Keeps (s.wallStat code) := by
  unfold State.wallStat
  exact h.setFld

theorem State.Keeps.wadj (h : o.Keeps s) {unit v} : o.Keeps (s.wadj unit v) := by
  unfold State.wadj
  exact h.wallStat.ite h.upd.wallStat

theorem State.Keeps.wstepLow (h : o.Keeps s) {v} : o.Keeps (s.wstepLow v) := by
  unfold State.wstepLow
  exact h.wallStat.ite h.wr.wallStat

theorem State.Keeps.wstep (h : o.Keeps s) {unit low high} : o.Keeps (s.wstep unit low high) := by
  unfold State.wstep
  exact h.wallStat.ite (h.wallStat.ite h.upd.wallStat)

theorem State.Keeps.wallCtl (h : o.Keeps s) {w v} : o.Keeps (s.wallCtl w v) := by
  unfold State.wallCtl
  extract_lets +onlyGivenNames rate own cur s'1
  have h1 : o.Keeps s'1 := h.setFld
  exact h1.wallStat.ite (h1.wallStat.ite (h1.wallStat.ite (h1.wallStat.ite h1.setFld.logCfg.wallStat)))

theorem State.Keeps.wallBoundary (h : o.Keeps s) : o.Keeps s.wallBoundary := by
  unfold State.wallBoundary
  exact h.upd.ite (h.upd.moveTo.ite h.upd.jumpTo)

theorem State.Keeps.capGo (h : o.Keeps s) : o.Keeps s.capGo := by
  unfold State.capGo
  split
  next e =>
    exact (h.capture e).setFld
  · exact h.captureLost.setFld

theorem State.Keeps.capFree (h : o.Keeps s) {mask} : o.Keeps (s.capFree mask) := by
  unfold State.capFree
  exact h.foldl _ fun hk => hk.upd.ite hk

/-! ### Position channels and mains -/

theorem State.Keeps.chSync (h : o.Keeps s) {ch keep} : o.Keeps (s.chSync ch keep) := by
  unfold State.chSync
  exact h.setChan.foldl _ fun hk => hk.tbSync

theorem State.Keeps.chOff (h : o.Keeps s) {ch} : o.Keeps (s.chOff ch) := by
  unfold State.chOff
  exact h.setChan.foldl _ fun hk => hk.tbOff

theorem State.Keeps.chFault (h : o.Keeps s) {ch cause} : o.Keeps (s.chFault ch cause) := by
  unfold State.chFault
  exact (h.setChan.arrive.foldl _ fun hk => hk.tbFault).ite h

theorem State.Keeps.chStat (h : o.Keeps s) {ch code} : o.Keeps (s.chStat ch code) := by
  unfold State.chStat
  exact h.setChan

theorem State.Keeps.chClear (h : o.Keeps s) {ch} : o.Keeps (s.chClear ch) := by
  unfold State.chClear
  exact h.chStat.ite (h.chStat.ite h.chSync.chStat)

theorem State.Keeps.chRestart (h : o.Keeps s) {ch} : o.Keeps (s.chRestart ch) := by
  unfold State.chRestart
  exact h.ite h.chSync

theorem State.Keeps.pcctlWrite (h : o.Keeps s) {w ch v} : o.Keeps (s.pcctlWrite w ch v) := by
  unfold State.pcctlWrite
  refine h.chStat.ite (h.chStat.ite ?_)
  extract_lets +onlyGivenNames s11 m0 s22
  have h1 : o.Keeps s11 := h.defer.logCfg.chStat
  have h2 : o.Keeps s22 := (h1.ite h1.chOff).ite (h1.chSync.ite (h1.chRestart.ite h1))
  exact h2.chClear.ite h2

theorem State.Keeps.chCfg (h : o.Keeps s) {w ch a v bad locked modes} : o.Keeps (s.chCfg w ch a v bad locked modes) := by
  unfold State.chCfg
  exact h.chStat.ite (h.chStat.ite (h.wr.logCfg.chStat.chRestart.ite h.wr.logCfg.chStat))

theorem State.Keeps.idxctlWrite (h : o.Keeps s) {w ch v} : o.Keeps (s.idxctlWrite w ch v) := by
  unfold State.idxctlWrite
  exact h.chStat.ite h.defer.logCfg.chStat

theorem State.Keeps.chanWrite (h : o.Keeps s) {w ch off v} : o.Keeps (s.chanWrite w ch off v) := by
  unfold State.chanWrite
  split
  · exact h.pcctlWrite
  · exact h.chCfg
  · exact h.idxctlWrite
  · exact h.chCfg
  · exact h.chCfg
  · exact h.chCfg
  · exact h.chCfg
  · exact h.chCfg
  · exact h.chCfg
  · exact h.chCfg
  · exact h.chCfg
  · exact h.chStat
  · exact h.chStat

theorem State.Keeps.feedWord (h : o.Keeps s) {t} : o.Keeps (s.feedWord t) := by
  unfold State.feedWord
  exact h.moveTo.setVel.setTb

theorem State.Keeps.feedStep (h : o.Keeps s) {t up e} : o.Keeps (s.feedStep t up e) := by
  unfold State.feedStep
  exact h.ite (h.setTb.arrive.ite h.setTb).feedWord

theorem State.Keeps.applyEst (h : o.Keeps s) {t est} : o.Keeps (s.applyEst t est) := by
  unfold State.applyEst
  exact h.moveTo.setTb.ite (h.setTb.ite h.jumpTo.count)

theorem State.Keeps.feedSample (h : o.Keeps s) {t v t0} : o.Keeps (s.feedSample t v t0) := by
  unfold State.feedSample
  exact h.ite (h.setTb.jumpTo.ite h.setTb.setVel.applyEst)

theorem State.Keeps.quadLevels (h : o.Keeps s) {ch k a b} : o.Keeps (s.quadLevels ch k a b) := by
  unfold State.quadLevels
  extract_lets +onlyGivenNames x a0 b0 s1
  have h1 : o.Keeps s1 := h.setChan
  exact h1.ite (h1.chFault.ite (h1.ite (by split; exacts [h1, h1.setChan.foldl _ fun hk => hk.feedStep])))

theorem State.Keeps.quadEvent (h : o.Keeps s) {ch k a b} : o.Keeps (s.quadEvent ch k a b) := by
  unfold State.quadEvent
  exact h.advance.ite h.advance.quadLevels

theorem State.Keeps.indexHit (h : o.Keeps s) {ch k} : o.Keeps (s.indexHit ch k) := by
  unfold State.indexHit
  extract_lets +onlyGivenNames a x s1 y
  have h1 : o.Keeps s1 := h.setFld
  exact (h1.setChan.setFld.setFld.arrive.ite h1).ite (h1.setChan.arrive.count.arrive.ite h1.setChan.arrive)

theorem State.Keeps.indexLevel (h : o.Keeps s) {ch k z} : o.Keeps (s.indexLevel ch k z) := by
  unfold State.indexLevel
  exact h.setChan.indexHit.ite h.setChan

theorem State.Keeps.indexEvent (h : o.Keeps s) {ch k z} : o.Keeps (s.indexEvent ch k z) := by
  unfold State.indexEvent
  exact h.advance.ite h.advance.indexLevel

theorem State.Keeps.setValid (h : o.Keeps s) {ch i b} : o.Keeps (s.setValid ch i b) := by
  unfold State.setValid
  exact h.setChan

theorem State.Keeps.wireBreak (h : o.Keeps s) {ch k l} : o.Keeps (s.wireBreak ch k l) := by
  unfold State.wireBreak
  refine h.advance.ite ?_
  extract_lets wb s1
  have h1 : o.Keeps s1 := h.advance.foldl _ fun h => h.setValid
  split
  · exact h1.chFault
  · exact h1

theorem State.Keeps.episodeEnd (h : o.Keeps s) {ch i since k} : o.Keeps (s.episodeEnd ch i since k) := by
  unfold State.episodeEnd
  exact h.advance.ite (h.advance.setValid.ite (h.advance.setValid.count.ite h.advance.setValid.chFault))

theorem State.Keeps.chTrack (h : o.Keeps s) {ch} : o.Keeps (s.chTrack ch) := by
  unfold State.chTrack
  exact h.setChan

theorem State.Keeps.syncComplete (h : o.Keeps s) {ch k} : o.Keeps (s.syncComplete ch k) := by
  unfold State.syncComplete
  exact h.advance.setChan.chTrack.ite h.advance

theorem State.Keeps.frameRequest (h : o.Keeps s) {ch} : o.Keeps (s.frameRequest ch) := by
  unfold State.frameRequest
  exact h.ite (h.setChan.count.ite h.setChan)

theorem State.Keeps.goodFrame (h : o.Keeps s) {ch d t0} : o.Keeps (s.goodFrame ch d t0) := by
  unfold State.goodFrame
  exact h.setChan.chFault.ite ((h.setChan.setChan.chTrack.ite h.setChan.setChan).foldl _ fun hk => hk.feedSample)

theorem State.Keeps.frameEvent (h : o.Keeps s) {ch k f} : o.Keeps (s.frameEvent ch k f) := by
  unfold State.frameEvent
  extract_lets +onlyGivenNames s1 x
  have h1 : o.Keeps s1 := h.advance
  split
  · exact h1
  extract_lets +onlyGivenNames d y s1 s2 s3
  have h1 : o.Keeps s1 := h1.setChan
  have h2 : o.Keeps s2 := h1.setFld.ite h1
  have h3 : o.Keeps s3 := h2.ite h2.count
  exact h3.ite (h3.goodFrame.ite (h3.setChan.chFault.ite h3.setChan))

theorem State.Keeps.sincosEvent (h : o.Keeps s) {ch k si co clip} : o.Keeps (s.sincosEvent ch k si co clip) := by
  unfold State.sincosEvent
  extract_lets +onlyGivenNames s1 x
  have h1 : o.Keeps s1 := h.advance
  refine h1.ite (h1.setChan.ite (h1.setChan.chFault.ite ?_))
  exact h1.setChan.chFault.ite (h1.setChan.chFault.ite (h1.setChan.ite (h1.setChan.foldl _ fun hk => hk.feedSample)))

theorem State.Keeps.mzState (h : o.Keeps s) {st} : o.Keeps (s.mzState st) := by
  unfold State.mzState
  exact h.ite h.upd.setFld.arrive

theorem State.Keeps.mainsUse (h : o.Keeps s) {st p resumed} : o.Keeps (s.mainsUse st p resumed) := by
  unfold State.mainsUse
  exact (h.upd.setTb.jumpTo.ite h.upd.setTb.moveTo.setTb).setVel

theorem State.Keeps.mainsCrossing (h : o.Keeps s) {k rise stamp high} : o.Keeps (s.mainsCrossing k rise stamp high) := by
  unfold State.mainsCrossing
  refine h.advance.ite ?_
  extract_lets +onlyGivenNames st per inr run s1 s2 s3
  have h2 : o.Keeps s2 := by
    unfold s2
    generalize per = q
    split
    · exact h.advance.upd.wr
    · exact h.advance.upd
  have h3 : o.Keeps s3 := h2.setFld.ite h2
  exact h3.ite (h3.mainsUse.ite (h3.mzState.mainsUse.ite h3))

theorem State.Keeps.mainsLoss (h : o.Keeps s) {k} : o.Keeps (s.mainsLoss k) := by
  unfold State.mainsLoss
  exact h.upd.mzState.tbFault.ite h

theorem State.Keeps.mzctlWrite (h : o.Keeps s) {w v} : o.Keeps (s.mzctlWrite w v) := by
  unfold State.mzctlWrite
  exact (h.wr.logCfg.upd.setTb.mzState.ite h.wr.logCfg).ite (h.wr.logCfg.ite h.wr.logCfg.mzState.tbOff)

/-! ### Queues -/

theorem State.Keeps.qStat (h : o.Keeps s) {q code} : o.Keeps (s.qStat q code) := by
  unfold State.qStat
  exact h.setQueue

theorem State.Keeps.issueFetch (h : o.Keeps s) {q} : o.Keeps (s.issueFetch q) := by
  unfold State.issueFetch
  exact h.setQueue.ite h

theorem State.Keeps.qBind (h : o.Keeps s) {w q} : o.Keeps (s.qBind w q) := by
  unfold State.qBind
  exact h.qStat.ite (h.qStat.ite (h.qStat.ite h.setFld.setFld.setQueue.logWho))

theorem State.Keeps.qRun (h : o.Keeps s) {q} : o.Keeps (s.qRun q) := by
  unfold State.qRun
  exact h.setQueue.ite h.setQueue.issueFetch

theorem State.Keeps.orphanReports (h : o.Keeps s) {q} : o.Keeps (s.orphanReports q) := by
  unfold State.orphanReports
  exact h.upd

theorem State.Keeps.qCmd (h : o.Keeps s) {w q cmd} : o.Keeps (s.qCmd w q cmd) := by
  unfold State.qCmd
  refine h.qStat.ite (h.qStat.ite ?_)
  split
  · exact h.qBind.ite h.qStat
  · exact h.qStat.qRun.ite h.qStat
  · exact (h.endSlotOnly.ite h).setQueue.ite h.qStat
  · exact h.setQueue.freeHead.logWho.ite h.qStat
  · exact h.setQueue.orphanReports.logWho.ite h.qStat
  · exact h.qStat.consume.logWho.ite h.qStat

theorem State.Keeps.qTailWrite (h : o.Keeps s) {w q v} : o.Keeps (s.qTailWrite w q v) := by
  unfold State.qTailWrite
  exact h.qStat.ite (h.qStat.ite h.setQueue.issueFetch)

theorem State.Keeps.qCfgWrite (h : o.Keeps s) {w q v} : o.Keeps (s.qCfgWrite w q v) := by
  unfold State.qCfgWrite
  exact h.qStat.ite (h.qStat.ite (h.qStat.ite h.wr.qStat))

theorem State.Keeps.qBaseWrite (h : o.Keeps s) {w q a v} : o.Keeps (s.qBaseWrite w q a v) := by
  unfold State.qBaseWrite
  exact h.qStat.ite (h.qStat.ite h.wr.qStat)

theorem State.Keeps.loadSlot (h : o.Keeps s) {q p} : o.Keeps (s.loadSlot q p) := by
  unfold State.loadSlot
  exact h.setQueue.issueFetch.armSlot

theorem State.Keeps.refill (h : o.Keeps s) {q k} : o.Keeps (s.refill q k) := by
  unfold State.refill
  extract_lets +onlyGivenNames s1 x
  have h1 : o.Keeps s1 := h.advance
  split
  · exact h1.ite (h1.setQueue.consume.haltQueue.ite (h1.loadSlot.ite h1))
  · exact h1

theorem State.Keeps.fetchDone (h : o.Keeps s) {q k} : o.Keeps (s.fetchDone q k) := by
  unfold State.fetchDone
  exact h.advance.ite ((h.advance.ite h.advance.setQueue.count).ite h.advance.eccRead.setQueue)

theorem State.Keeps.reportPosted (h : o.Keeps s) : o.Keeps s.reportPosted := by
  unfold State.reportPosted
  split
  · exact h
  · exact h.ite (h.upd.store.freeHead.ite h.upd.store)

theorem State.Keeps.mapQueues (h : o.Keeps s) {f} : o.Keeps (s.mapQueues f) := by
  unfold State.mapQueues
  exact h.foldl _ fun hk => hk.setQueue

theorem State.Keeps.resumeQueues (h : o.Keeps s) : o.Keeps s.resumeQueues := by
  unfold State.resumeQueues
  exact h.foldl _ fun hk => hk.ite (hk.setQueue.issueFetch.ite hk.setQueue)

theorem State.Keeps.restartQueues (h : o.Keeps s) : o.Keeps s.restartQueues := by
  unfold State.restartQueues
  exact h.foldl _ fun hk => hk.qRun.ite hk

/-! ### The Enward ring -/

theorem State.Keeps.enState (h : o.Keeps s) {st} : o.Keeps (s.enState st) := by
  unfold State.enState
  exact h.ite (h.upd.arrive.setFld.ite h.upd.arrive)

theorem State.Keeps.enResolve (h : o.Keeps s) {i} : o.Keeps (s.enResolve i) := by
  unfold State.enResolve
  exact h.setFld.ite (by split; exacts [h.setFld.setFld, h.setFld.arrive.ite h])

theorem State.Keeps.enTakeSlots (h : o.Keeps s) : o.Keeps s.enTakeSlots := by
  unfold State.enTakeSlots
  exact h.upd.foldl _ fun hk => hk.setFld.ite (by split; exacts [hk.setFld.setFld.upd, hk.setFld])

theorem State.Keeps.enAuth (h : o.Keeps s) {r master} : o.Keeps (s.enAuth r master) := by
  unfold State.enAuth
  refine h.upd.ite ?_
  extract_lets draw a b own nonce
  have hdraw : ∀ {t}, o.Keeps t → o.Keeps (draw t).2 := by
    intro t ht
    unfold draw
    split
    next e => exact ht.drbgDraw e
    · exact ht
  have ha : o.Keeps a.2 := .iteSnd (hdraw h) h
  exact (hdraw ha).upd

theorem State.Keeps.enReport (h : o.Keeps s) {r auth} : o.Keeps (s.enReport r auth) := by
  unfold State.enReport
  extract_lets +onlyGivenNames s1 s2 s3 s4 s5
  have h1 : o.Keeps s1 := h.wr
  have h2 : o.Keeps s2 := h1.setFld
  have h3 : o.Keeps s3 := h2.count.arrive.ite h2
  have h4 : o.Keeps s4 := h3.arrive.ite h3
  have h5 : o.Keeps s5 := h4.foldl _ fun hk => hk.wr
  exact h5.foldl _ fun hk => hk.setFld

theorem State.Keeps.enOwnWall (h : o.Keeps s) {step} : o.Keeps (s.enOwnWall step) := by
  unfold State.enOwnWall
  exact (h.setFld.setFld.ite h.setFld.setFld.log).upd

theorem State.Keeps.enComplete (h : o.Keeps s) {r} : o.Keeps (s.enComplete r) := by
  unfold State.enComplete
  refine h.ite ?_
  extract_lets +onlyGivenNames auth master s1 _ s2
  have h2 : o.Keeps s2 := (h.ite h.enAuth).enReport.upd
  split
  · extract_lets +onlyGivenNames _ s3 s4 s5
    have h4 : o.Keeps s4 := State.Keeps.foldl (State.Keeps.enTakeSlots h2.upd) _ fun h => h.enResolve
    have h5 : o.Keeps s5 := h4.ite h4.enOwnWall
    exact h5.enState
  · exact h2.enState

theorem State.Keeps.enRequest (h : o.Keeps s) : o.Keeps s.enRequest := by
  unfold State.enRequest
  exact h.ite h.free.enSend

theorem State.Keeps.enStart (h : o.Keeps s) : o.Keeps s.enStart := by
  unfold State.enStart
  exact h.enState.enRequest.ite h

theorem State.Keeps.encmdRoll (h : o.Keeps s) {w} : o.Keeps (s.encmdRoll w) := by
  unfold State.encmdRoll
  exact h.enState.wrReq.ite h.wrReq

theorem State.Keeps.enRights (h : o.Keeps s) {w} : o.Keeps (s.enRights w) := by
  unfold State.enRights
  exact h.wrReq

theorem State.Keeps.encmdClrcnt (h : o.Keeps s) : o.Keeps s.encmdClrcnt := by
  unfold State.encmdClrcnt
  exact (h.foldl _ fun hk => hk.wr).setFld

theorem State.Keeps.linkDown (h : o.Keeps s) {p lanes} : o.Keeps (s.linkDown p lanes) := by
  unfold State.linkDown
  exact h.ite (h.setFld.setFld.upd.enState.ite h.setFld.setFld)

theorem State.Keeps.linkUp (h : o.Keeps s) {p delay} : o.Keeps (s.linkUp p delay) := by
  unfold State.linkUp
  exact h.ite h.setFld.setFld.setFld.upd

theorem State.Keeps.fcTell (h : o.Keeps s) {i tp gen} : o.Keeps (s.fcTell i tp gen) := by
  unfold State.fcTell
  extract_lets +onlyGivenNames m
  split
  next e =>
    exact (h.enPush e).upd.count
  · exact h.enRefused.count

theorem State.Keeps.fcExamine (h : o.Keeps s) {i} : o.Keeps (s.fcExamine i) := by
  unfold State.fcExamine
  split
  · exact h
  · exact h.fcTell.ite h
  · exact h.fcTell.ite h

theorem State.Keeps.fcTry (h : o.Keeps s) {e} : o.Keeps (s.fcTry e) := by
  unfold State.fcTry
  refine h.setFcEntry.ite ?_
  exact h.setFcEntry.ite (by split; exacts [h.setFcEntry.ite h.setFcEntry.count, h.setFcEntry.armAt])

theorem State.Keeps.fcForecast (h : o.Keeps s) {tp gen e} : o.Keeps (s.fcForecast tp gen e) := by
  unfold State.fcForecast
  extract_lets +onlyGivenNames x y
  split
  · exact h.ite h.setFcEntry.count.fcTry
  · exact h.setFcEntry.count

theorem State.Keeps.fcReceived (h : o.Keeps s) {src tag tp gen} : o.Keeps (s.fcReceived src tag tp gen) := by
  unfold State.fcReceived
  exact h.foldl _ fun hk => hk.fcForecast

theorem State.Keeps.fcArm (h : o.Keeps s) {e late} : o.Keeps (s.fcArm e late) := by
  unfold State.fcArm
  exact h.endSlot.ite (h.endSlot.ite h.setFcEntry.chainArm.setSlot)

theorem State.Keeps.fcArmPoint (h : o.Keeps s) {e} : o.Keeps (s.fcArmPoint e) := by
  unfold State.fcArmPoint
  exact h.fcArm.ite h

theorem State.Keeps.lateRet (h : o.Keeps s) : o.Keeps s.lateRet := by
  unfold State.lateRet
  exact h.count.arrive

theorem State.Keeps.fcRetracted (h : o.Keeps s) {e} : o.Keeps (s.fcRetracted e) := by
  unfold State.fcRetracted
  extract_lets +onlyGivenNames x live
  split
  · exact h
  · exact h.fcClose
  · exact h.endSlot.count.fcClose.ite h.lateRet.fcClose
  · exact (h.endSlot.ite h).lateRet.fcClose

theorem State.Keeps.fcConfirmed (h : o.Keeps s) {e} : o.Keeps (s.fcConfirmed e) := by
  unfold State.fcConfirmed
  extract_lets +onlyGivenNames x
  split
  · exact h
  · exact (h.fcArm.ite h).fcClose
  · exact h.fcClose

theorem State.Keeps.fcMissed (h : o.Keeps s) {e} : o.Keeps (s.fcMissed e) := by
  unfold State.fcMissed
  exact h.count.arrive.fcClose.ite h

theorem State.Keeps.fcExpired (h : o.Keeps s) {e} : o.Keeps (s.fcExpired e) := by
  unfold State.fcExpired
  extract_lets +onlyGivenNames x live late note
  split
  · exact h
  · exact h.fcMissed
  · exact (h.endSlot.count.arrive.ite h).fcClose.ite h
  · exact (h.count.arrive.ite h).fcClose.ite h

theorem State.Keeps.enHeaderAt (h : o.Keeps s) {p comes good} : o.Keeps (s.enHeaderAt p comes good) := by
  unfold State.enHeaderAt
  refine h.ite ?_
  extract_lets +onlyGivenNames n _ s1 s2 s3
  have h2 : o.Keeps s2 := h.upd.ite h.upd.count
  have h3 : o.Keeps s3 := h2.linkDown.ite h2
  exact h3.arrive.ite h3

theorem State.Keeps.enCycleState (h : o.Keeps s) {roll brk heal} : o.Keeps (s.enCycleState roll brk heal) := by
  unfold State.enCycleState
  exact h.enState.ite (by split; exacts [h.enState.enRequest, h.upd.enState, h.upd.enState, h.upd, h])

theorem State.Keeps.enBegin (h : o.Keeps s) {h1 goodA goodB} : o.Keeps (s.enBegin h1 goodA goodB) := by
  unfold State.enBegin
  exact h.upd.enPass

theorem State.Keeps.enAtStart (h : o.Keeps s) {h1} : o.Keeps (s.enAtStart h1) := by
  unfold State.enAtStart
  exact ((h.ite h.wadj).foldl _ fun hk => hk.fcExamine).foldl _ fun hk => (hk.fcMissed.ite hk.fcTry).ite hk

theorem State.Keeps.enLast (h : o.Keeps s) {h1} : o.Keeps (s.enLast h1) := by
  unfold State.enLast
  exact h.enBegin.enPass.upd

theorem State.Keeps.enwardCycle (h : o.Keeps s) {h1} : o.Keeps (s.enwardCycle h1) := by
  unfold State.enwardCycle
  refine h.ite ?_
  extract_lets +onlyGivenNames mine before good goodA goodB roll s1
  have h1 : o.Keeps s1 := h.enHeaderAt.enHeaderAt
  exact h1.enBegin.ite (h1.wr.upd.enLast.ite (h1.wr.upd.enCycleState.enAtStart.ite h1.wr.upd.enCycleState).enBegin)

theorem State.Keeps.enLost (h : o.Keeps s) : o.Keeps s.enLost := by
  unfold State.enLost
  exact h.enState.ite h

theorem State.Keeps.pubReceived (h : o.Keeps s) {i r} : o.Keeps (s.pubReceived i r) := by
  unfold State.pubReceived
  exact h.ite (h.tbFault.ite (h.setTb.putRef.jumpTo.ite h.setTb.putRef.applyEst).setVel)

theorem State.Keeps.ageFault (h : o.Keeps s) {t} : o.Keeps (s.ageFault t) := by
  unfold State.ageFault
  exact h.tbFault.arrive.ite h

theorem State.Keeps.enFifo (h : o.Keeps s) {m} : o.Keeps (s.enFifo m) := by
  unfold State.enFifo
  extract_lets +onlyGivenNames _ s1
  have h1 : o.Keeps s1 := (State.Keeps.arrive h.upd).ite h.count
  refine .ite ?_ h1
  split
  next e => exact h1.capture e
  · exact h1.captureLost

theorem State.Keeps.enMessage (h : o.Keeps s) {m} : o.Keeps (s.enMessage m) := by
  unfold State.enMessage
  refine h.ite ?_
  extract_lets +onlyGivenNames _ s1 b tag
  have h1 : o.Keeps s1 := h.upd
  split
  · exact h1.fcReceived
  · exact h1.foldl _ fun h => h.fcRetracted
  · exact h1.foldl _ fun h => h.fcConfirmed
  · exact h1.enFifo
  · exact h1.enFifo
  · exact h1.wr.arrive
  · exact h1

theorem State.Keeps.enRxPop (h : o.Keeps s) : o.Keeps s.enRxPop := by
  unfold State.enRxPop
  exact h.upd

theorem State.Keeps.entxGo (h : o.Keeps s) {w} : o.Keeps (s.entxGo w) := by
  unfold State.entxGo
  refine h.wrReq.wrReq.ite ?_
  extract_lets +onlyGivenNames m
  split
  next e =>
    exact (h.enPush e).wrReq.wrReq
  · exact h.enRefused.wrReq.wrReq

theorem State.Keeps.enWrite (h : o.Keeps s) {w a v kind} : o.Keeps (s.enWrite w a v kind) := by
  unfold State.enWrite
  extract_lets +onlyGivenNames code old nv accept
  split
  · exact h.wrReq.ite (h.wrReq.ite h.wr.logCfg.wrReq)
  · exact h.wrReq.ite (h.wrReq.ite (h.wrReq.ite h.wr.logCfg.wrReq))
  · exact h.wrReq.ite (h.wrReq.ite h.wr.logCfg.wrReq.enResolve)
  · exact h.wrReq.ite (h.wrReq.ite h.wr.logCfg.wrReq)
  · exact h.wrReq.ite (h.wrReq.ite h.wr.logCfg.wrReq)
  · exact h.wrReq.ite (h.wrReq.ite (h.wrReq.ite h.wr.logCfg.wrReq))
  · exact h.wrReq.ite h.wrReq.wrReq

/-! ### Recitation channels -/

theorem State.Keeps.rcRunEntry (h : o.Keeps s) {c} : o.Keeps (s.rcRunEntry c) := by
  unfold State.rcRunEntry
  exact h.setRc

theorem State.Keeps.rcLatch (h : o.Keeps s) {c} : o.Keeps (s.rcLatch c) := by
  unfold State.rcLatch
  exact h.setRc

theorem State.Keeps.rcAccept (h : o.Keeps s) {c k seen} : o.Keeps (s.rcAccept c k seen) := by
  unfold State.rcAccept
  exact h.setRc

theorem State.Keeps.rcDrive (h : o.Keeps s) {c bank mask value oe} : o.Keeps (s.rcDrive c bank mask value oe) := by
  unfold State.rcDrive
  split
  · exact h
  · exact h.setRc.ite h.setRc

theorem State.Keeps.rcStop (h : o.Keeps s) {c why k} : o.Keeps (s.rcStop c why k) := by
  unfold State.rcStop
  exact h.ite h.setRc

theorem State.Keeps.rcPause (h : o.Keeps s) {c} : o.Keeps (s.rcPause c) := by
  unfold State.rcPause
  exact h.setRc.ite h

theorem State.Keeps.rcResume (h : o.Keeps s) {c} : o.Keeps (s.rcResume c) := by
  unfold State.rcResume
  exact h.setRc.ite h

theorem State.Keeps.rcStat (h : o.Keeps s) {w c code} : o.Keeps (s.rcStat w c code) := by
  unfold State.rcStat
  exact h.wrReq

theorem State.Keeps.rcGo (h : o.Keeps s) {w c start} : o.Keeps (s.rcGo w c start) := by
  unfold State.rcGo
  refine h.rcStat.ite (h.rcStat.ite ?_)
  split
  next e =>
    exact (h.rcStart e).rcStat
  · exact h.rcStat

theorem State.Keeps.rcFlush (h : o.Keeps s) {w c tx rx} : o.Keeps (s.rcFlush w c tx rx) := by
  unfold State.rcFlush
  exact h.rcStat.ite h.setRc.rcStat

theorem State.Keeps.rcCtl (h : o.Keeps s) {w c v} : o.Keeps (s.rcCtl w c v) := by
  unfold State.rcCtl
  extract_lets +onlyGivenNames tx rx late s1
  have h1 : o.Keeps s1 := h.rcFlush.ite h
  exact (h1.rcStop.ite h1.rcStop.rcStat).ite (h1.rcGo.ite h1)

theorem State.Keeps.rcTxWrite (h : o.Keeps s) {w c v} : o.Keeps (s.rcTxWrite w c v) := by
  unfold State.rcTxWrite
  exact h.rcStat.ite h.setRc.rcStat

theorem State.Keeps.rcRxRead (h : o.Keeps s) {c} : o.Keeps (s.rcRxRead c).2 := by
  unfold State.rcRxRead
  extract_lets +onlyGivenNames x
  split
  · exact h.setRc
  · exact h

theorem State.Keeps.rcCodeWrite (h : o.Keeps s) {w c n v} : o.Keeps (s.rcCodeWrite w c n v) := by
  unfold State.rcCodeWrite
  exact h.rcStat.ite h.wr.rcStat

theorem State.Keeps.rcCfgWrite (h : o.Keeps s) {w c v} : o.Keeps (s.rcCfgWrite w c v) := by
  unfold State.rcCfgWrite
  exact h.rcStat.ite (h.rcStat.ite (h.rcStat.ite h.wr.rcLatch.logWho.rcStat))

theorem State.Keeps.rcNext (h : o.Keeps s) {c pc k} : o.Keeps (s.rcNext c pc k) := by
  unfold State.rcNext
  exact h.setRc

theorem State.Keeps.rcStep (h : o.Keeps s) {c op k} {f : State → Nat → Nat → State × Nat}
    (hf : ∀ {s w pc}, o.Keeps s → o.Keeps (f s w pc).1) : o.Keeps (s.rcStep c op k f) := by
  unfold State.rcStep
  exact (hf h.advance).rcNext.ite h.advance

theorem State.Keeps.rcDriveOp (h : o.Keeps s) {c k oe} : o.Keeps (s.rcDriveOp c k oe) := by
  unfold State.rcDriveOp
  exact h.rcStep fun hk => hk.rcDrive

theorem State.Keeps.rcDelay (h : o.Keeps s) {c k} : o.Keeps (s.rcDelay c k) := by
  unfold State.rcDelay
  exact h.advance.rcNext.ite h.advance

theorem State.Keeps.rcWaitl (h : o.Keeps s) {c k seen} : o.Keeps (s.rcWaitl c k seen) := by
  unfold State.rcWaitl
  exact (h.advance.rcAccept.rcNext.ite h.advance.rcAccept.setRc).ite h.advance

theorem State.Keeps.rcWaitMet (h : o.Keeps s) {c k seen} : o.Keeps (s.rcWaitMet c k seen) := by
  unfold State.rcWaitMet
  exact (h.advance.rcAccept.rcNext.ite h.advance.rcAccept).ite h.advance

theorem State.Keeps.rcTimeout (h : o.Keeps s) {c k} : o.Keeps (s.rcTimeout c k) := by
  unfold State.rcTimeout
  exact h.advance.setRc.rcNext.ite h.advance

theorem State.Keeps.rcSetD (h : o.Keeps s) {c d} : o.Keeps (s.rcSetD c d) := by
  unfold State.rcSetD
  exact h.setRc

theorem State.Keeps.rcSample (h : o.Keeps s) {c k seen} : o.Keeps (s.rcSample c k seen) := by
  unfold State.rcSample
  exact h.rcStep fun hk => hk.rcAccept.rcSetD

theorem State.Keeps.rcPut (h : o.Keeps s) {c k} : o.Keeps (s.rcPut c k) := by
  unfold State.rcPut
  exact (h.advance.setRc.rcNext.ite (h.advance.rcNext.ite h.advance.setRc)).ite h.advance

theorem State.Keeps.rcPutResume (h : o.Keeps s) {c k} : o.Keeps (s.rcPutResume c k) := by
  unfold State.rcPutResume
  exact h.advance.setRc.rcNext.ite h.advance

theorem State.Keeps.rcPop (h : o.Keeps s) {c k} : o.Keeps (s.rcPop c k) := by
  unfold State.rcPop
  extract_lets +onlyGivenNames x
  split
  · exact h.setRc.rcNext
  · exact h.setRc

theorem State.Keeps.rcGet (h : o.Keeps s) {c k} : o.Keeps (s.rcGet c k) := by
  unfold State.rcGet
  exact h.advance.rcPop.ite h.advance

theorem State.Keeps.rcGetResume (h : o.Keeps s) {c k} : o.Keeps (s.rcGetResume c k) := by
  unfold State.rcGetResume
  exact h.advance.rcPop.ite h.advance

theorem State.Keeps.rcOutd (h : o.Keeps s) {c k} : o.Keeps (s.rcOutd c k) := by
  unfold State.rcOutd
  exact h.rcStep fun hk => hk.rcDrive

theorem State.Keeps.rcCnt (h : o.Keeps s) {c k op} : o.Keeps (s.rcCnt c k op) := by
  unfold State.rcCnt
  exact h.advance.setRc.rcNext.ite h.advance

theorem State.Keeps.rcDjnz (h : o.Keeps s) {c k} : o.Keeps (s.rcDjnz c k) := by
  unfold State.rcDjnz
  exact h.rcStep fun hk => hk.setRc

theorem State.Keeps.rcJmp (h : o.Keeps s) {c k} : o.Keeps (s.rcJmp c k) := by
  unfold State.rcJmp
  exact h.rcStep fun hk => hk

theorem State.Keeps.rcJif (h : o.Keeps s) {c k seen} : o.Keeps (s.rcJif c k seen) := by
  unfold State.rcJif
  exact h.rcStep fun hk => hk.rcAccept

theorem State.Keeps.rcJeq (h : o.Keeps s) {c k} : o.Keeps (s.rcJeq c k) := by
  unfold State.rcJeq
  exact h.rcStep fun hk => hk

theorem State.Keeps.rcLdi (h : o.Keeps s) {c k} : o.Keeps (s.rcLdi c k) := by
  unfold State.rcLdi
  exact h.rcStep fun hk => hk.rcSetD

theorem State.Keeps.rcIrq (h : o.Keeps s) {c k} : o.Keeps (s.rcIrq c k) := by
  unfold State.rcIrq
  exact h.rcStep fun hk => hk.setRc.arrive

theorem State.Keeps.rcHalt (h : o.Keeps s) {c k} : o.Keeps (s.rcHalt c k) := by
  unfold State.rcHalt
  exact h.advance.setRc.rcStop.arrive.ite h.advance

/-! ### UARTs -/

theorem State.Keeps.uartIrq (h : o.Keeps s) {u i} : o.Keeps (s.uartIrq u i) := by
  unfold State.uartIrq
  exact h.arrive

theorem State.Keeps.uartStat (h : o.Keeps s) {w u code} : o.Keeps (s.uartStat w u code) := by
  unfold State.uartStat
  exact h.wrReq

theorem State.Keeps.uartFlow (h : o.Keeps s) {u old} : o.Keeps (s.uartFlow u old) := by
  unfold State.uartFlow
  exact h.setUart

theorem State.Keeps.uartSetRx (h : o.Keeps s) {u rx} : o.Keeps (s.uartSetRx u rx) := by
  unfold State.uartSetRx
  exact h.setUart.uartFlow

theorem State.Keeps.uartSetTx (h : o.Keeps s) {u tx} : o.Keeps (s.uartSetTx u tx) := by
  unfold State.uartSetTx
  exact h.setUart.uartIrq.ite h.setUart

theorem State.Keeps.uartStore (h : o.Keeps s) {u c perr ferr brk} : o.Keeps (s.uartStore u c perr ferr brk) := by
  unfold State.uartStore
  extract_lets +onlyGivenNames s1 s2 s3 x
  have h1 : o.Keeps s1 := h.count.ite h
  have h2 : o.Keeps s2 := h1.count.ite h1
  have h3 : o.Keeps s3 := h2.count.ite h2
  refine h3.count.uartIrq.ite ?_
  exact (h3.uartSetRx.uartIrq.ite h3.uartSetRx).uartIrq.ite (h3.uartSetRx.uartIrq.ite h3.uartSetRx)

theorem State.Keeps.uartTake (h : o.Keeps s) {u data par stop} : o.Keeps (s.uartTake u data par stop) := by
  unfold State.uartTake
  refine h.ite ?_
  extract_lets +onlyGivenNames s1 x flow
  have h1 : o.Keeps s1 := h.setUart.uartIrq.ite h
  exact h1.ite (h1.setUart.uartIrq.ite (h1.setUart.ite h1.uartStore))

theorem State.Keeps.uartReceived (h : o.Keeps s) {u data par stop} : o.Keeps (s.uartReceived u data par stop) := by
  unfold State.uartReceived
  exact h.uartTake.setUart.ite h

theorem State.Keeps.uartBreakEnd (h : o.Keeps s) {u} : o.Keeps (s.uartBreakEnd u) := by
  unfold State.uartBreakEnd
  exact h.setUart

theorem State.Keeps.uartIdle (h : o.Keeps s) {u} : o.Keeps (s.uartIdle u) := by
  unfold State.uartIdle
  exact h.uartIrq.ite h

theorem State.Keeps.uartSend (h : o.Keeps s) {u} : o.Keeps (s.uartSend u) := by
  unfold State.uartSend
  exact h.ite (by split; exacts [h.setUart.setUart, h.uartSetTx.setUart, h])

theorem State.Keeps.uartFrameEnd (h : o.Keeps s) {u} : o.Keeps (s.uartFrameEnd u) := by
  unfold State.uartFrameEnd
  extract_lets +onlyGivenNames x
  split
  · exact h
  · exact h.ite ((h.setUart.uartTake.setUart.ite h.setUart).ite (h.setUart.uartTake.setUart.ite h.setUart).setUart)

theorem State.Keeps.uartCts (h : o.Keeps s) {u high} : o.Keeps (s.uartCts u high) := by
  unfold State.uartCts
  exact h.uartCtsTo.ite h

theorem State.Keeps.utxWrite (h : o.Keeps s) {w u v} : o.Keeps (s.utxWrite w u v) := by
  unfold State.utxWrite
  exact h.uartStat.ite h.setUart.uartStat

theorem State.Keeps.urxRead (h : o.Keeps s) {u} : o.Keeps (s.urxRead u).2 := by
  unfold State.urxRead
  split
  · exact h.uartSetRx
  · exact h

theorem State.Keeps.uctlWrite (h : o.Keeps s) {w u v} : o.Keeps (s.uctlWrite w u v) := by
  unfold State.uctlWrite
  exact ((h.wr.uartSetRx.ite h.wr).uartSetTx.ite (h.wr.uartSetRx.ite h.wr)).uartStat

theorem State.Keeps.uartCfg (h : o.Keeps s) {w u a v} : o.Keeps (s.uartCfg w u a v) := by
  unfold State.uartCfg
  exact h.uartStat.ite (h.uartStat.ite h.wr.logCfg.uartStat)

/-! ### Ethernet MACs -/

theorem State.Keeps.setMac (h : o.Keeps s) {m x} : o.Keeps (s.setMac m x) := by
  unfold State.setMac
  exact h.upd

theorem State.Keeps.macIrq (h : o.Keeps s) {m i} : o.Keeps (s.macIrq m i) := by
  unfold State.macIrq
  exact h.arrive

theorem State.Keeps.descDone (h : o.Keeps s) {d status stamp} : o.Keeps (s.descDone d status stamp) := by
  unfold State.descDone
  exact State.Keeps.store (by split; exacts [h.store.store, h])

theorem State.Keeps.macTransmit (h : o.Keeps s) {m abort excol coll} : o.Keeps (s.macTransmit m abort excol coll) := by
  unfold State.macTransmit
  refine h.ite ?_
  extract_lets +onlyGivenNames s1 buf len nobuf data frame ts status stamp s2 _ s3 s4 s5 s6
  have h2 : o.Keeps s2 := h.eccRead.descDone
  have h3 : o.Keeps s3 := h2.ite h2.setMac
  have h6 : o.Keeps s6 := h3.count.setFld.macIrq
  exact h6.macIrq.ite h6

theorem State.Keeps.macReceive (h : o.Keeps s) {m l badFcs rxer} : o.Keeps (s.macReceive m l badFcs rxer) := by
  unfold State.macReceive
  refine h.ite (h.count.ite ?_)
  extract_lets +onlyGivenNames s1
  have h1 : o.Keeps s1 := h.count.ite h
  split
  · exact h1.setMac
  refine h1.ite ?_
  extract_lets +onlyGivenNames head lg d r1 s2 w1
  have h1 : o.Keeps r1.1 := h1.eccRead
  have h2 : o.Keeps s2 := h1
  refine h2.count.macIrq.ite ?_
  exact (h2.ite h2.store).descDone.setFld.macIrq.macIrq.ite (h2.ite h2.store).descDone.setFld.macIrq

theorem State.Keeps.mdioWrite (h : o.Keeps s) {m v} : o.Keeps (s.mdioWrite m v) := by
  unfold State.mdioWrite
  exact h.ite h.wr

theorem State.Keeps.mdioDone (h : o.Keeps s) {m data} : o.Keeps (s.mdioDone m data) := by
  unfold State.mdioDone
  exact h.ite h.wr.macIrq

theorem State.Keeps.ptpAdj (h : o.Keeps s) {w v} : o.Keeps (s.ptpAdj w v) := by
  unfold State.ptpAdj
  exact h.wadj.ite h.wallStat

theorem State.Keeps.ptpLow (h : o.Keeps s) {w v} : o.Keeps (s.ptpLow w v) := by
  unfold State.ptpLow
  exact h.wallStat.ite (h.wallStat.ite h.wr.wallStat)

theorem State.Keeps.ptpStep (h : o.Keeps s) {w v} : o.Keeps (s.ptpStep w v) := by
  unfold State.ptpStep
  exact h.wstep.ite h.wallStat

theorem State.Keeps.etcfgWrite (h : o.Keeps s) {w m v} : o.Keeps (s.etcfgWrite w m v) := by
  unfold State.etcfgWrite
  exact h.wr.logCfg.ite h

theorem State.Keeps.macWrite (h : o.Keeps s) {w a v} : o.Keeps (s.macWrite w a v) := by
  unfold State.macWrite
  exact h.wr.logCfg.ite h

/-! ### The Hall Monitor -/

theorem State.Keeps.setWatch (h : o.Keeps s) {n x} : o.Keeps (s.setWatch n x) := by
  unfold State.setWatch
  exact h.upd

theorem State.Keeps.setHallIn (h : o.Keeps s) {i x} : o.Keeps (s.setHallIn i x) := by
  unfold State.setHallIn
  exact h.upd

theorem State.Keeps.watchStrobe (h : o.Keeps s) {n a b} : o.Keeps (s.watchStrobe n a b) := by
  unfold State.watchStrobe
  exact h.ite (by split; exacts [h.setWatch, h.setWatch.ite (by split <;> exact h.setWatch)])

theorem State.Keeps.watchMirror (h : o.Keeps s) {n} : o.Keeps (s.watchMirror n) := by
  unfold State.watchMirror
  exact h.ite (h.setWatch.ite h.setWatch)

theorem State.Keeps.watchReturn (h : o.Keeps s) : o.Keeps s.watchReturn := by
  unfold State.watchReturn
  exact h.foldl _ fun hk => hk.ite hk.setWatch

theorem State.Keeps.hwcfgApply (h : o.Keeps s) {n v} : o.Keeps (s.hwcfgApply n v) := by
  unfold State.hwcfgApply
  exact h.setWatch.wr

theorem State.Keeps.inputSample (h : o.Keeps s) {i level} : o.Keeps (s.inputSample i level) := by
  unfold State.inputSample
  exact h.ite (h.setHallIn.upd.ite h.setHallIn)

theorem State.Keeps.measure (h : o.Keeps s) {temp vbat} : o.Keeps (s.measure temp vbat) := by
  unfold State.measure
  exact h.upd.ite h

theorem State.Keeps.hallLog (h : o.Keeps s) {f} : o.Keeps (s.hallLog f) := by
  unfold State.hallLog
  exact h.wr.wr.upd.arrive.ite h.wr.wr.upd

theorem State.Keeps.latchAlarm (h : o.Keeps s) {b} : o.Keeps (s.latchAlarm b) := by
  unfold State.latchAlarm
  exact h.wr.arrive.ite h.wr

theorem State.Keeps.zeroLog (h : o.Keeps s) : o.Keeps s.zeroLog := by
  unfold State.zeroLog
  exact (h.foldl _ fun hk => hk.log).upd

theorem State.Keeps.zeroize (h : o.Keeps s) : o.Keeps s.zeroize := by
  unfold State.zeroize
  extract_lets +onlyGivenNames s1 s2 _ s3 s4
  have h2 : o.Keeps s2 := (h.foldl _ fun h => h.setKey).foldl _ fun h => h.wr
  have h4 : o.Keeps s4 := h2.upd.latchAlarm
  exact h4.upd.zeroLog.setFld.ite h4

theorem State.Keeps.hallJudge (h : o.Keeps s) : o.Keeps s.hallJudge := by
  unfold State.hallJudge
  extract_lets +onlyGivenNames cond met fires _ s1 on log alarm zero lock wake s2 s3 s4 s5
  have h2 : o.Keeps s2 := h.upd.foldl _ fun h => h.hallLog
  have h3 : o.Keeps s3 := h2.foldl _ fun h => h.latchAlarm
  have h4 : o.Keeps s4 := h3.foldl _ fun h => h.zeroize
  have h5 : o.Keeps s5 := h4.foldl _ fun h => h.latchAlarm.demandLockout
  exact h5.upd.ite h5

theorem State.Keeps.hallTick (h : o.Keeps s) : o.Keeps s.hallTick := by
  unfold State.hallTick
  exact h.ite (h.upd.upd.watchReturn.ite (h.upd.foldl _ fun hk => hk.watchMirror))

theorem State.Keeps.crystal (h : o.Keeps s) {on} : o.Keeps (s.crystal on) := by
  unfold State.crystal
  exact h.setFld

theorem State.Keeps.hallReset (h : o.Keeps s) : o.Keeps s.hallReset := by
  unfold State.hallReset
  exact h.upd.crystal.latchAlarm

theorem State.Keeps.vbatGood (h : o.Keeps s) : o.Keeps s.vbatGood := by
  unfold State.vbatGood
  exact h.ite h.upd

theorem State.Keeps.lockoutExpired (h : o.Keeps s) : o.Keeps s.lockoutExpired := by
  unfold State.lockoutExpired
  exact h.upd.ite h

theorem State.Keeps.hallStat (h : o.Keeps s) {w code} : o.Keeps (s.hallStat w code) := by
  unfold State.hallStat
  exact h.wrReq

theorem State.Keeps.hallWrite (h : o.Keeps s) {w a v} : o.Keeps (s.hallWrite w a v) := by
  unfold State.hallWrite
  exact h.hallStat.ite (h.hallStat.ite (h.hallStat.ite (h.hallStat.ite h.upd.hallStat)))

theorem State.Keeps.hallSeen (h : o.Keeps s) {v} : o.Keeps (s.hallSeen v) := by
  unfold State.hallSeen
  exact h.upd

theorem State.Keeps.hallWritten (h : o.Keeps s) : o.Keeps s.hallWritten := by
  unfold State.hallWritten
  split
  · exact h
  · exact h.upd.hallSeen.ite (h.upd.logWho.setFld.ite (by split; exacts [h.upd.logWho.hwcfgApply, h.upd.logWho.wr]))

theorem State.Keeps.hallApply (h : o.Keeps s) : o.Keeps s.hallApply := by
  unfold State.hallApply
  exact h.hallWritten.ite h

theorem State.Keeps.hallEvaluate (h : o.Keeps s) : o.Keeps s.hallEvaluate := by
  unfold State.hallEvaluate
  exact h.hallWritten.hallJudge.ite h

theorem State.Keeps.alarmClear (h : o.Keeps s) {w mask} : o.Keeps (s.alarmClear w mask) := by
  unfold State.alarmClear
  exact h.hallStat.ite (h.wr.hallStat.ite h.hallStat)

theorem State.Keeps.hwstatWrite (h : o.Keeps s) {w n v} : o.Keeps (s.hwstatWrite w n v) := by
  unfold State.hwstatWrite
  exact h.hallStat.ite (h.hallStat.ite (h.setWatch.hallStat.ite h.hallStat))

theorem State.Keeps.retWrite (h : o.Keeps s) {w i v} : o.Keeps (s.retWrite w i v) := by
  unfold State.retWrite
  exact h.hallStat.ite (h.wr.hallStat.ite h.hallStat)

/-! ### Modes, resets and DAWN -/

theorem State.Keeps.wdInterval (h : o.Keeps s) {l} : o.Keeps (s.wdInterval l) := by
  unfold State.wdInterval
  exact h.upd

theorem State.Keeps.wdUpdate (h : o.Keeps s) : o.Keeps s.wdUpdate := by
  unfold State.wdUpdate
  exact h.foldl _ fun hk => hk.ite (hk.setFld.wdInterval.setFld.ite hk.setFld)

theorem State.Keeps.coreRelease (h : o.Keeps s) {l} : o.Keeps (s.coreRelease l) := by
  unfold State.coreRelease
  exact h.setCore.setFld.wdUpdate

theorem State.Keeps.coreHold (h : o.Keeps s) {l} : o.Keeps (s.coreHold l) := by
  unfold State.coreHold
  exact h.setFld.bellDrop.wdUpdate

theorem State.Keeps.corerunWrite (h : o.Keeps s) {v} : o.Keeps (s.corerunWrite v) := by
  unfold State.corerunWrite
  exact h.wr.ite (h.foldl _ fun hk => hk.coreRelease.ite (hk.coreHold.ite hk))

theorem State.Keeps.coreReset (h : o.Keeps s) {l} : o.Keeps (s.coreReset l) := by
  unfold State.coreReset
  exact h.setCore.upd.setFld.setFld.bellDrop

theorem State.Keeps.lineRun (h : o.Keeps s) {l} : o.Keeps (s.lineRun l) := by
  unfold State.lineRun
  exact h.setLine

theorem State.Keeps.genRun (h : o.Keeps s) {g} : o.Keeps (s.genRun g) := by
  unfold State.genRun
  exact h.setGen

theorem State.Keeps.pwmStart (h : o.Keeps s) {c k} : o.Keeps (s.pwmStart c k) := by
  unfold State.pwmStart
  exact h.setPwm.setFld

theorem State.Keeps.sdStart (h : o.Keeps s) {i} : o.Keeps (s.sdStart i) := by
  unfold State.sdStart
  exact h.upd.setSd.setFld

theorem State.Keeps.mapLines (h : o.Keeps s) {f : State → Nat → State} (hf : ∀ {s a}, o.Keeps s → o.Keeps (f s a)) :
    o.Keeps (s.mapLines f) := h.foldl _ hf

theorem State.Keeps.mapGens (h : o.Keeps s) {f : State → Nat → State} (hf : ∀ {s a}, o.Keeps s → o.Keeps (f s a)) :
    o.Keeps (s.mapGens f) := h.foldl _ hf

theorem State.Keeps.mapPwms (h : o.Keeps s) {f : State → Nat → State} (hf : ∀ {s a}, o.Keeps s → o.Keeps (f s a)) :
    o.Keeps (s.mapPwms f) := h.foldl _ hf

theorem State.Keeps.mapSds (h : o.Keeps s) {f : State → Nat → State} (hf : ∀ {s a}, o.Keeps s → o.Keeps (f s a)) :
    o.Keeps (s.mapSds f) := h.foldl _ hf

theorem State.Keeps.mapRcs (h : o.Keeps s) {f : State → Nat → State} (hf : ∀ {s a}, o.Keeps s → o.Keeps (f s a)) :
    o.Keeps (s.mapRcs f) := h.foldl _ hf

theorem State.Keeps.outputsRun (h : o.Keeps s) {k} : o.Keeps (s.outputsRun k) := by
  unfold State.outputsRun
  extract_lets +onlyGivenNames s1 s2
  have h1 : o.Keeps s1 := h.mapLines fun hk => hk.lineRun
  have h2 : o.Keeps s2 := ((h1.mapGens fun hk => hk.genRun).mapPwms fun hk => hk.pwmStart).mapSds fun hk => hk.sdStart
  exact (h2.mapRcs fun hk => hk.rcRunEntry).attRunEntry

theorem State.Keeps.lineHold (h : o.Keeps s) {k l} : o.Keeps (s.lineHold k l) := by
  unfold State.lineHold
  exact (h.setLine.ite h.setLine.count).ite h

theorem State.Keeps.genHold (h : o.Keeps s) {k g} : o.Keeps (s.genHold k g) := by
  unfold State.genHold
  exact h.ite h.genStep.setGen

theorem State.Keeps.genResume (h : o.Keeps s) {k g} : o.Keeps (s.genResume k g) := by
  unfold State.genResume
  exact h.ite (h.setGen.ite h.genGo)

theorem State.Keeps.pwmHold (h : o.Keeps s) {k c} : o.Keeps (s.pwmHold k c) := by
  unfold State.pwmHold
  exact h.setPwm

theorem State.Keeps.ratesAfterHold (h : o.Keeps s) : o.Keeps s.ratesAfterHold := by
  unfold State.ratesAfterHold
  exact h.mapGens fun hk => hk.commitRate.ite hk

theorem State.Keeps.genStopAll (h : o.Keeps s) : o.Keeps s.genStopAll := by
  unfold State.genStopAll
  exact h.mapGens fun hk => hk.genPark

theorem State.Keeps.outputsPrepare (h : o.Keeps s) : o.Keeps s.outputsPrepare := by
  unfold State.outputsPrepare
  extract_lets +onlyGivenNames s1 s2 s3 s4 s5
  have h1 : o.Keeps s1 := h.mapLines fun hk => hk.setLine
  have h2 : o.Keeps s2 := h1.mapGens fun hk => hk.setGen
  have h3 : o.Keeps s3 := h2.mapPwms fun hk => hk.setPwm
  have h4 : o.Keeps s4 := h3.mapSds fun hk => hk.setSd
  have h5 : o.Keeps s5 := h4.mapRcs fun hk => hk.setRc
  exact h5.upd

theorem State.Keeps.endForces (h : o.Keeps s) : o.Keeps s.endForces := by
  unfold State.endForces
  exact h.wr.wr.upd

theorem State.Keeps.disarmAll (h : o.Keeps s) {modestop} : o.Keeps (s.disarmAll modestop) := by
  unfold State.disarmAll
  exact h.endSlots.mapQueues

theorem State.Keeps.haltShop (h : o.Keeps s) : o.Keeps s.haltShop := by
  unfold State.haltShop
  exact h.foldl _ fun hk => hk.setCore.bellDrop

theorem State.Keeps.enterSafe (h : o.Keeps s) : o.Keeps s.enterSafe := by
  unfold State.enterSafe
  exact h.safePath.disarmAll.mapRcs fun hk => hk.rcStop

theorem State.Keeps.lockStat (h : o.Keeps s) {cause} : o.Keeps (s.lockStat cause) := by
  unfold State.lockStat
  exact h.setFld.ite h.setFld.setFld.setFld.setFld

theorem State.Keeps.haltAll (h : o.Keeps s) : o.Keeps s.haltAll := by
  unfold State.haltAll
  exact h.foldl _ fun hk => hk.bellDrop

theorem State.Keeps.enRepeat (h : o.Keeps s) : o.Keeps s.enRepeat := by
  unfold State.enRepeat
  exact h.ite h.enState

theorem State.Keeps.enModeMsg (h : o.Keeps s) {old new req} : o.Keeps (s.enModeMsg old new req) := by
  unfold State.enModeMsg
  exact h.enSend.ite h

theorem State.Keeps.idCount (h : o.Keeps s) : o.Keeps s.idCount := by
  unfold State.idCount
  exact h.setFld.setFld

theorem State.Keeps.endSession (h : o.Keeps s) : o.Keeps s.endSession := by
  unfold State.endSession
  exact h.upd

theorem State.Keeps.serviceOpen (h : o.Keeps s) : o.Keeps s.serviceOpen := by
  unfold State.serviceOpen
  exact h.log.logFlush.endSession.upd.serviceErase.upd.idCount.setFld

theorem State.Keeps.cancelStage2 (h : o.Keeps s) : o.Keeps s.cancelStage2 := by
  unfold State.cancelStage2
  exact h.foldl _ fun hk => hk.setFld.ite hk

theorem State.Keeps.modeEffects (h : o.Keeps s) {old t k} : o.Keeps (s.modeEffects old t k) := by
  unfold State.modeEffects
  split
  · refine h.outputsPrepare.ite ?_
    exact h.outputsPrepare.restartQueues.ite (h.disarmAll.outputsPrepare.mapRcs fun hk => hk.rcResume)
  · refine .ite ?_ h.outputsRun
    exact ((h.mapGens fun hk => hk.genResume).ratesAfterHold.mapRcs fun hk => hk.rcResume).resumeQueues.resolveHeld
  · extract_lets +onlyGivenNames s1
    have h1 : o.Keeps s1 := ((h.mapLines fun hk => hk.lineHold).mapGens fun hk => hk.genHold).mapPwms fun hk => hk.pwmHold
    exact (h1.mapRcs fun hk => hk.rcPause).mapQueues
  · exact h.enterSafe.haltShop.enModeMsg
  · exact h.enterSafe.haltAll.lockStat.enRepeat.cancelStage2
  · exact h.enterSafe.haltAll.enRepeat.serviceOpen
  · exact h

theorem State.Keeps.resetUnits (h : o.Keeps s) {por} : o.Keeps (s.resetUnits por) :=
  (h.filterMem fun c => keptMem c.1).upd

theorem State.Keeps.rstCause (h : o.Keeps s) {bit} : o.Keeps (s.rstCause bit) := by
  unfold State.rstCause
  exact h.setFld.setFld

/-- A reset that loses the clock drops the lines waiting for the memory controller and the Logbook's buffer. -/
theorem State.Keeps.dropQueues (h : o.Keeps s) : o.Keeps { s with mrq := [], logQ := [] } :=
  ⟨h.memWf, fun _ => Nat.zero_le 32, h.pendingEq, h.variantEq⟩

theorem State.Keeps.mainReset (h : o.Keeps s) {bit path clockLoss begun} : o.Keeps (s.mainReset bit path clockLoss begun) := by
  unfold State.mainReset
  extract_lets +onlyGivenNames q s1 old svc s2 s3
  have hq : o.Keeps q := h.mrNext.ite h
  have h1 : o.Keeps s1 := hq.dropQueues.ite h.mrFlush.logFlush
  have h2 : o.Keeps s2 := h1.resetUnits.rstCause
  have h3 : o.Keeps s3 := h2.setFld.ite h2
  exact h3.log

theorem State.Keeps.toNight (h : o.Keeps s) : o.Keeps s.toNight := by
  unfold State.toNight
  exact h.resetUnits.upd

theorem State.Keeps.modeStat (h : o.Keeps s) {old new req busy} : o.Keeps (s.modeStat old new req busy) := by
  unfold State.modeStat
  exact h.wr

theorem State.Keeps.dawnOver (h : o.Keeps s) : o.Keeps s.dawnOver := by
  unfold State.dawnOver
  exact h.upd.setFld.ite h

theorem State.Keeps.complete (h : o.Keeps s) {t k} : o.Keeps (s.complete t k) := by
  unfold State.complete
  extract_lets +onlyGivenNames old ms s1 s2 _ s3 s4 s5 s6 s7
  have h1 : o.Keeps s1 := h.genStopAll.ite h
  have h2 : o.Keeps s2 := h1.endForces.ite h1
  have h3 : o.Keeps s3 := h2.dawnOver.upd
  have h4 : o.Keeps s4 := h3.ratesAfterHold.ite h3
  have h5 : o.Keeps s5 := h4.modeStat.modeEffects
  have h6 : o.Keeps s6 := h5.wdUpdate.foldl _ fun h => h.arrive
  exact h6.log.demandSafe.ite h6.log

theorem State.Keeps.completeNight (h : o.Keeps s) {t} : o.Keeps (s.completeNight t) := by
  unfold State.completeNight
  exact h.safePath.mrFlush.log.logFlush.toNight.upd

theorem State.Keeps.wakeoutLow (h : o.Keeps s) : o.Keeps s.wakeoutLow := by
  unfold State.wakeoutLow
  exact h.upd.ite h

theorem State.Keeps.carryOut (h : o.Keeps s) {w target} : o.Keeps (s.carryOut w target) := by
  unfold State.carryOut
  extract_lets +onlyGivenNames req
  split
  · exact h.setFld.mainReset.ite h.mainReset
  · exact (h.setFld.accept.ite (h.accept.ite h.accept)).modeResp.ite h.accept
  · exact h.accept

theorem State.Keeps.modeRequest (h : o.Keeps s) {w target} : o.Keeps (s.modeRequest w target) := by
  unfold State.modeRequest
  extract_lets +onlyGivenNames req
  split
  · exact h.carryOut
  · exact h.modeResp

theorem State.Keeps.modereqWrite (h : o.Keeps s) {w v} : o.Keeps (s.modereqWrite w v) := by
  unfold State.modereqWrite
  exact h.modeResp.ite h.modeRequest

theorem State.Keeps.estopFall (h : o.Keeps s) {k} : o.Keeps (s.estopFall k) := by
  unfold State.estopFall
  extract_lets +onlyGivenNames t1
  have h1 : o.Keeps t1 := h.advance
  refine h1.ite ?_
  extract_lets +onlyGivenNames s1 s2 s3
  have h1 : o.Keeps s1 := h1.upd
  have h2 : o.Keeps s2 := h1.setFld.count
  have h3 : o.Keeps s3 := h2.foldl _ fun hk => hk.nmi
  exact h3.setFld.ite h3.demandSafe

theorem State.Keeps.estopRise (h : o.Keeps s) {k} : o.Keeps (s.estopRise k) := by
  unfold State.estopRise
  exact h.advance.ite h.advance.upd

theorem State.Keeps.estopcfgWrite (h : o.Keeps s) {w v} : o.Keeps (s.estopcfgWrite w v) := by
  unfold State.estopcfgWrite
  exact h.setFld.ite (h.setFld.ite h.defer.logCfg.setFld)

theorem State.Keeps.svcreq (h : o.Keeps s) {k low} : o.Keeps (s.svcreq k low) := by
  unfold State.svcreq
  exact (h.advance.ite h.advance.upd).ite h.advance.upd

theorem State.Keeps.powerUp (h : o.Keeps s) {por} : o.Keeps (s.powerUp por) := by
  unfold State.powerUp
  extract_lets +onlyGivenNames s1 s2 s3
  have h1 : o.Keeps s1 := h.resetUnits
  have h2 : o.Keeps s2 := h1.rstCause.setFld.ite h1
  have h3 : o.Keeps s3 := h2.log
  exact h3.ite h3.upd

theorem State.Keeps.powerOn (h : o.Keeps s) : o.Keeps s.powerOn := by
  unfold State.powerOn
  exact h.ite h.upd.powerUp

theorem State.Keeps.brownOut (h : o.Keeps s) {i begun} : o.Keeps (s.brownOut i begun) := by
  unfold State.brownOut
  extract_lets +onlyGivenNames lost _ svc q s1 s2
  have hl : ∀ {s}, o.Keeps s → o.Keeps (lost s) := fun h => h.upd
  have hq : o.Keeps q := h.mrNext.ite h
  have h1 : o.Keeps s1 := hq.dropQueues.safePath
  have h2 : o.Keeps s2 := (hl h1.toNight).rstCause
  exact (State.Keeps.upd (hl h).rstCause).ite (h2.setFld.ite h2)

theorem State.Keeps.supplyDip (h : o.Keeps s) {vdd begun} : o.Keeps (s.supplyDip vdd begun) := by
  unfold State.supplyDip
  exact h.ite h.upd.count

theorem State.Keeps.supplyDipEnd (h : o.Keeps s) {vdd} : o.Keeps (s.supplyDipEnd vdd) := by
  unfold State.supplyDipEnd
  exact h.upd

theorem State.Keeps.resetPin (h : o.Keeps s) {low} : o.Keeps (s.resetPin low) := by
  unfold State.resetPin
  exact (h.ite (h.upd.ite h.upd.mainReset)).ite (h.upd.upd.ite h.upd)

theorem State.Keeps.clockLoss (h : o.Keeps s) {ref begun} : o.Keeps (s.clockLoss ref begun) := by
  unfold State.clockLoss
  exact h.ite h.safePath.upd.mainReset.count

theorem State.Keeps.dawnStep (h : o.Keeps s) {n} : o.Keeps (s.dawnStep n) := by
  unfold State.dawnStep
  exact h.setFld

theorem State.Keeps.dawnFail (h : o.Keeps s) {step cause} : o.Keeps (s.dawnFail step cause) := by
  unfold State.dawnFail
  exact h.setFld.setFld.upd.accept

theorem State.Keeps.dawnOtp (h : o.Keeps s) {enroll} : o.Keeps (s.dawnOtp enroll) := by
  unfold State.dawnOtp
  extract_lets +onlyGivenNames s1 _ s2
  have h1 : o.Keeps s1 := h.zeroize.ite h
  have h2 : o.Keeps s2 := by
    unfold s2
    split
    · exact h1.serviceErase.upd
    · exact h1
  exact h2.idCount.setFld.setFld.wr.wr.setFld

theorem State.Keeps.dawnStart (h : o.Keeps s) {r} : o.Keeps (s.dawnStart r) := by
  unfold State.dawnStart
  refine h.ite ?_
  extract_lets +onlyGivenNames _ s1 s2 s3
  have h1 : o.Keeps s1 := h.upd
  have h3 : o.Keeps s3 := (h1.ite h1.setFld).dawnOtp
  refine h3.dawnFail.ite ?_
  extract_lets +onlyGivenNames _ s4 s5
  have h5 : o.Keeps s5 := State.Keeps.listOpen h3.upd
  refine h5.dawnStep.dawnFail.ite ?_
  extract_lets +onlyGivenNames s6 s7
  have h6 : o.Keeps s6 := h5.foldl _ fun h => h.wr
  have h7 : o.Keeps s7 := h6.ite h6.setFld.setFld
  exact h7.dawnStep.upd

theorem State.Keeps.loadReg (h : o.Keeps s) {a v} : o.Keeps (s.loadReg a v) := by
  unfold State.loadReg
  exact h.ite (by split; exacts [h.ite h.hwcfgApply, h.wr])

theorem State.Keeps.pwmLatch (h : o.Keeps s) {c} : o.Keeps (s.pwmLatch c) := by
  unfold State.pwmLatch
  exact h.setPwm

theorem State.Keeps.sdLatch (h : o.Keeps s) {i} : o.Keeps (s.sdLatch i) := by
  unfold State.sdLatch
  exact h.setSd

theorem State.Keeps.loadOutputs (h : o.Keeps s) : o.Keeps s.loadOutputs := by
  unfold State.loadOutputs
  refine (State.Keeps.foldl ?_ _ fun h => h.setPin).setFld
  refine State.Keeps.upd (State.Keeps.mapRcs ?_ fun h => h.rcLatch.rcRunEntry)
  refine (State.Keeps.mapPwms ?_ fun h => h.pwmLatch).mapSds fun h => h.sdLatch
  exact (h.upd.mapLines fun h => h.setLine).mapGens fun h => h.setGen

theorem State.Keeps.loadPositions (h : o.Keeps s) : o.Keeps s.loadPositions := by
  unfold State.loadPositions
  extract_lets +onlyGivenNames s1 s2 s3 _ _ s4
  have h1 : o.Keeps s1 := h.foldl _ fun h => h.setTb
  have h2 : o.Keeps s2 := h1.foldl _ fun h => h.ite h.chSync
  have h3 : o.Keeps s3 := h2.foldl _ fun h => h.ite h.setTb
  have h4 : o.Keeps s4 := (State.Keeps.setTb h3.upd).mzState.ite h3
  exact (h4.foldl _ fun h => h.setTb).followRefs

theorem State.Keeps.loadConfig (h : o.Keeps s) {cfg} : o.Keeps (s.loadConfig cfg) := by
  unfold State.loadConfig
  exact ((h.foldl _ fun hk => hk.loadReg).foldl _ fun hk => hk.setFld.ite hk).loadOutputs.loadPositions.upd.sealKeyGen

theorem State.Keeps.dawnBad (h : o.Keeps s) : o.Keeps s.dawnBad := by
  unfold State.dawnBad
  exact h.loadPositions.upd.accept

theorem State.Keeps.guardRelease (h : o.Keeps s) : o.Keeps s.guardRelease := by
  unfold State.guardRelease
  exact h.coreRelease.dawnStep.upd

theorem State.Keeps.dawnLoad (h : o.Keeps s) {cfgOk cfg} : o.Keeps (s.dawnLoad cfgOk cfg) := by
  unfold State.dawnLoad
  exact h.dawnBad.ite (h.setFld.setFld.dawnBad.ite h.loadConfig.dawnStep.upd)

theorem State.Keeps.identityCheck (h : o.Keeps s) {ok cfgOk cfg} : o.Keeps (s.identityCheck ok cfgOk cfg) := by
  unfold State.identityCheck
  refine h.ite (h.setFld.setFld.dawnLoad.ite (h.setFld.ite (h.ite ?_)))
  extract_lets +onlyGivenNames blank
  split
  · exact h.setFld.dawnFail
  · exact h.keyGen.setFld.dawnLoad
  · exact h.setFld.setFld.dawnLoad.ite h.setFld.dawnFail

theorem State.Keeps.seedTb (h : o.Keeps s) {t off ref} : o.Keeps (s.seedTb t off ref) := by
  unfold State.seedTb
  exact h.putRef.setTb.setTb.ite h.putRef.setTb.jumpTo

theorem State.Keeps.handoverCh (h : o.Keeps s) {n} : o.Keeps (s.handoverCh n) := by
  unfold State.handoverCh
  exact h.ite (h.setFld.ite h.seedTb.setFld.setWatch)

theorem State.Keeps.dawnRing (h : o.Keeps s) : o.Keeps s.dawnRing := by
  unfold State.dawnRing
  exact h.enStart.dawnStep.upd.ite h.guardRelease

theorem State.Keeps.handover (h : o.Keeps s) : o.Keeps s.handover := by
  unfold State.handover
  refine h.ite ?_
  extract_lets +onlyGivenNames s1 s2 s3 s4 s5 s6 s7 s8
  have h1 : o.Keeps s1 := h.foldl _ fun hk => hk.handoverCh
  have h2 : o.Keeps s2 := h1.upd
  have h3 : o.Keeps s3 := h2.wr
  have h4 : o.Keeps s4 := h3.wr
  have h5 : o.Keeps s5 := h4.wr
  have h6 : o.Keeps s6 := h5.wr
  have h7 : o.Keeps s7 := h6.zeroLog
  have h8 : o.Keeps s8 := h7.setFld.ite h7
  exact h8.dawnRing

theorem State.Keeps.rollCall (h : o.Keeps s) {r} : o.Keeps (s.rollCall r) := by
  unfold State.rollCall
  exact h.enComplete.guardRelease.ite h.enComplete

theorem State.Keeps.joinRing (h : o.Keeps s) {r} : o.Keeps (s.joinRing r) := by
  unfold State.joinRing
  exact h.ite (h.rollCall.ite (h.ite h.enStart.enComplete))

theorem State.Keeps.rollTimeout (h : o.Keeps s) : o.Keeps s.rollTimeout := by
  unfold State.rollTimeout
  exact h.setFld.guardRelease.ite h

theorem State.Keeps.dawnTimeout (h : o.Keeps s) : o.Keeps s.dawnTimeout := by
  unfold State.dawnTimeout
  exact h.dawnFail.ite h

theorem State.Keeps.wakeUp (h : o.Keeps s) {old} : o.Keeps (s.wakeUp old) := by
  unfold State.wakeUp
  exact h.powerUp.ite h

theorem State.Keeps.commitTb (h : o.Keeps s) {a old} : o.Keeps (s.commitTb a old) := by
  unfold State.commitTb
  extract_lets +onlyGivenNames s01
  have h1 : o.Keeps s01 := h.upd
  split
  · exact h1.commitMod
  · exact h1.upd.commitRatio
  · exact h.ite h1

theorem State.Keeps.commitCh (h : o.Keeps s) {a old} : o.Keeps (s.commitCh a old) := by
  unfold State.commitCh
  exact h.upd

theorem State.Keeps.commitOut (h : o.Keeps s) {a} : o.Keeps (s.commitOut a) := by
  unfold State.commitOut
  extract_lets +onlyGivenNames s01 is
  have h1 : o.Keeps s01 := h.upd
  split
  · exact h.ite h.commitRate
  · exact h1.setSd
  · exact h1.setLine
  · exact h1.setGen
  · exact h1.pwmLatch
  · exact h1.sdLatch
  · exact h1

theorem State.Keeps.commitReg (h : o.Keeps s) {a old} : o.Keeps (s.commitReg a old) := by
  unfold State.commitReg
  exact (h.commitTb.ite (h.commitCh.ite h.upd)).ite h.commitOut

theorem State.Keeps.commitAll (h : o.Keeps s) : o.Keeps s.commitAll := by
  unfold State.commitAll
  exact h.foldl _ fun hk => hk.commitReg

theorem State.Keeps.ringStep (h : o.Keeps s) : o.Keeps s.ringStep := by
  unfold State.ringStep
  exact h.enState.ite h

theorem State.Keeps.atBoundary (h : o.Keeps s) : o.Keeps s.atBoundary := by
  unfold State.atBoundary
  exact (h.advance.ringStep.wallBoundary.foldl _ fun hk => hk.tbEffect).commitAll.foldl _ fun hk => hk.pinSwitch

theorem State.Keeps.boundary (h : o.Keeps s) : o.Keeps s.boundary := by
  unfold State.boundary
  exact h.atBoundary.handover.ite h

theorem State.Keeps.modeTransition (h : o.Keeps s) : o.Keeps s.modeTransition := by
  unfold State.modeTransition
  split
  · exact h
  · exact (h.atBoundary.ite h).completeNight.ite (h.atBoundary.ite h).complete

theorem State.Keeps.clkobsWrite (h : o.Keeps s) {v} : o.Keeps (s.clkobsWrite v) := by
  unfold State.clkobsWrite
  exact h.defer

/-! ### The Guard pair -/

theorem State.Keeps.frw (h : o.Keeps s) {w code} : o.Keeps (s.frw w code) := by
  unfold State.frw
  exact h.wrReq

theorem State.Keeps.guardReaction (h : o.Keeps s) {bit cause what} : o.Keeps (s.guardReaction bit cause what) := by
  unfold State.guardReaction
  exact h.demandLockout.ite (h.demandSafe.upd.ite h.demandLockout)

theorem State.Keeps.freezePair (h : o.Keeps s) : o.Keeps s.freezePair := by
  unfold State.freezePair
  exact h.coreHold

theorem State.Keeps.recordPair (h : o.Keeps s) {what pc0 pc1 addr} : o.Keeps (s.recordPair what pc0 pc1 addr) := by
  unfold State.recordPair
  exact h.setFld.setFld.count.wr.wr.wr

theorem State.Keeps.diverged (h : o.Keeps s) {what pc0 pc1 addr} : o.Keeps (s.diverged what pc0 pc1 addr) := by
  unfold State.diverged
  extract_lets +onlyGivenNames s1 s2
  have h1 : o.Keeps s1 := h.freezePair.recordPair.nmi
  have h2 : o.Keeps s2 := h1.safePath.guardReaction
  exact h2.coreReset.setFld.ite h2

theorem State.Keeps.divergence (h : o.Keeps s) {what pc0 pc1 addr} : o.Keeps (s.divergence what pc0 pc1 addr) := by
  unfold State.divergence
  exact h.diverged.ite h

theorem State.Keeps.gRestarted (h : o.Keeps s) : o.Keeps s.gRestarted := by
  unfold State.gRestarted
  exact h.setFld.setFld.upd.coreRelease.arrive

theorem State.Keeps.pairRestart (h : o.Keeps s) {diff} : o.Keeps (s.pairRestart diff) := by
  unfold State.pairRestart
  exact h.ite (by split; exacts [h.gRestarted, h.wr.setFld.setFld.upd.accept])

theorem State.Keeps.thirdPolicy (h : o.Keeps s) {l} : o.Keeps (s.thirdPolicy l) := by
  unfold State.thirdPolicy
  exact h.guardReaction.ite (h.arrive.demandLockout.ite h.arrive.demandSafe)

theorem State.Keeps.gThirdRestart (h : o.Keeps s) : o.Keeps s.gThirdRestart := by
  unfold State.gThirdRestart
  exact h.gRestarted.ite h

theorem State.Keeps.pairInj (h : o.Keeps s) {w v} : o.Keeps (s.pairInj w v) := by
  unfold State.pairInj
  exact h.ite (h.frw.ite (h.frw.ite (h.frw.ite (h.frw.ite (h.frw.diverged.ite h.frw.free.diverged)))))

theorem State.Keeps.pairstatWrite (h : o.Keeps s) {w v} : o.Keeps (s.pairstatWrite w v) := by
  unfold State.pairstatWrite
  exact h.wr.frw.ite h.frw

theorem State.Keeps.gpolicyWrite (h : o.Keeps s) {w v} : o.Keeps (s.gpolicyWrite w v) := by
  unfold State.gpolicyWrite
  exact h.frw.ite (h.frw.ite (h.frw.ite h.wr.logWho.frw))

theorem State.Keeps.wdExpire (h : o.Keeps s) {l bad} : o.Keeps (s.wdExpire l bad) := by
  unfold State.wdExpire
  extract_lets +onlyGivenNames a s1 s2 s3 s4
  have h1 : o.Keeps s1 := h.upd.setFld
  have h2 : o.Keeps s2 := h1.setFld.ite h1
  have h3 : o.Keeps s3 := h2.arrive
  have h4 : o.Keeps s4 := h3.nmi.ite h3
  exact h4.demandLockout.ite (h4.demandSafe.setFld.mainReset.ite h4.demandSafe.setFld)

theorem State.Keeps.watchdogExpiry (h : o.Keeps s) {l} : o.Keeps (s.watchdogExpiry l) := by
  unfold State.watchdogExpiry
  exact h.upd.wdExpire.ite h

theorem State.Keeps.watchdogStage2 (h : o.Keeps s) {l} : o.Keeps (s.watchdogStage2 l) := by
  unfold State.watchdogStage2
  exact h.mainReset.ite h

theorem State.Keeps.wdKick (h : o.Keeps s) {w l key} : o.Keeps (s.wdKick w l key) := by
  unfold State.wdKick
  exact h.frw.ite (h.frw.ite (h.frw.wdInterval.setFld.ite h.frw.wdExpire))

theorem State.Keeps.wdWrite (h : o.Keeps s) {w l a v} : o.Keeps (s.wdWrite w l a v) := by
  unfold State.wdWrite
  exact h.frw.ite (h.frw.ite (h.frw.ite (h.frw.ite h.wr.logWho.frw.wdUpdate)))

theorem State.Keeps.wdstatWrite (h : o.Keeps s) {w l v} : o.Keeps (s.wdstatWrite w l v) := by
  unfold State.wdstatWrite
  exact h.frw.ite (h.wr.frw.setFld.ite h.wr.frw)

theorem State.Keeps.safetestWrite (h : o.Keeps s) {w v} : o.Keeps (s.safetestWrite w v) := by
  unfold State.safetestWrite
  exact h.setFld.ite (h.frw.ite (h.frw.ite h.setFld.setFld.upd.frw))

theorem State.Keeps.safetestDone (h : o.Keeps s) {wrong} : o.Keeps (s.safetestDone wrong) := by
  unfold State.safetestDone
  exact h.ite h.wr.wr.setFld.setFld.upd

/-! ### Interrupt registers -/

theorem State.Keeps.irqStat (h : o.Keeps s) {w code} : o.Keeps (s.irqStat w code) := by
  unfold State.irqStat
  exact h.wrReq

theorem State.Keeps.irqcfgWrite (h : o.Keeps s) {w n v} : o.Keeps (s.irqcfgWrite w n v) := by
  unfold State.irqcfgWrite
  exact h.irqStat.ite (h.irqStat.ite (h.irqStat.ite h.wr.irqStat))

theorem State.Keeps.irqBit (h : o.Keeps s) {kind n} : o.Keeps (s.irqBit kind n) := by
  unfold State.irqBit
  exact h.ite (by split; exacts [h.arrive, h.setFld, h.setFld, h.setFld])

theorem State.Keeps.irqMask (h : o.Keeps s) {w kind b mask} : o.Keeps (s.irqMask w kind b mask) := by
  unfold State.irqMask
  exact (h.foldl _ fun hk => hk.irqBit).irqStat

theorem State.Keeps.irqOvf (h : o.Keeps s) {w n v} : o.Keeps (s.irqOvf w n v) := by
  unfold State.irqOvf
  exact h.irqStat.ite (h.setFld.irqStat.ite h.irqStat)

theorem State.Keeps.irqBlock (h : o.Keeps s) {w l a v} : o.Keeps (s.irqBlock w l a v) := by
  unfold State.irqBlock
  exact h.wr.irqStat.ite h.irqStat

theorem State.Keeps.saveWrite (h : o.Keeps s) {w l a j v} : o.Keeps (s.saveWrite w l a j v) := by
  unfold State.saveWrite
  exact (h.wr.ite h).irqStat.ite h.irqStat

/-! ### Reads of the register map -/

theorem State.Keeps.clearUnit (h : o.Keeps s) {id a} : o.Keeps (s.clearUnit id a) := by
  unfold State.clearUnit
  extract_lets +onlyGivenNames off
  split
  · exact h.setChan.ite h
  · exact h.upd.ite h
  · exact h.setFld.ite h
  · exact h.wrReq.ite h
  · exact h.setWatch.ite (h.upd.ite h)
  · exact h

theorem State.Keeps.clearRc (h : o.Keeps s) {id a} : o.Keeps (s.clearRc id a) := by
  unfold State.clearRc
  exact h.ite (h.wrReq.ite (h.foldl _ fun hk => hk.wr)).clearUnit

theorem State.Keeps.regRead (h : o.Keeps s) {id a} : o.Keeps (s.regRead id a).2 := by
  unfold State.regRead
  extract_lets +onlyGivenNames v s1 off
  have h1 : o.Keeps s1 := h.foldl _ fun hk => hk.wrReq
  split
  · exact .iteSnd h1.enRxPop h1.clearRc
  · exact .iteSnd h1.rcRxRead h1.clearRc
  · exact .iteSnd h1.urxRead h1.clearRc
  · exact .iteSnd h1.drbgRead (.iteSnd (.iteSnd h1.free h1) h1.clearRc)
  · exact h1.clearRc

/-! ### Writes of the register map -/

theorem State.Keeps.plainWrite (h : o.Keeps s) {w a v} : o.Keeps (s.plainWrite w a v) := by
  unfold State.plainWrite
  exact h.wrReq.ite h.wr.logCfg

theorem State.Keeps.blockWrite (h : o.Keeps s) {w l a v} : o.Keeps (s.blockWrite w l a v) := by
  unfold State.blockWrite
  exact h.ite h.wr.logWho

theorem State.Keeps.posWrite (h : o.Keeps s) {w off v} : o.Keeps (s.posWrite w off v).1 := by
  unfold State.posWrite
  refine .iteFst ?_ ?_
  · extract_lets +onlyGivenNames t judged
    refine .iteFst h.tbStat ?_
    split
    · exact h.tbCfgWrite
    · exact h.setTb.tbStat
    · exact h.tbSetWrite
    · exact h.tbSetWrite
    · exact h.tbCmd
    · exact h.tbModWrite
    · exact h.tbNumWrite
    · exact h.tbDenWrite
    · exact h.tbSynWrite
    · exact h.tbStat
  · refine .iteFst h.wadj (.iteFst h.wstepLow ?_)
    refine .iteFst h.wstep (.iteFst h.wallCtl (.iteFst (.iteFst h.capGo h) ?_))
    exact .iteFst h.capFree (.iteFst (.iteFst h.setChan h.chanWrite) (.iteFst h.mzctlWrite h.plainWrite))

theorem State.Keeps.ttWrite (h : o.Keeps s) {w off v} : o.Keeps (s.ttWrite w off v).1 := by
  unfold State.ttWrite
  extract_lets +onlyGivenNames a res
  split
  · exact h.ttNewGo
  · exact h.ttCmd
  · exact h.ttMembase
  · exact .iteFst h.ttInj h
  · exact h.ttResv
  · exact .iteFst h.ttResv h.plainWrite

theorem State.Keeps.sylWrite (h : o.Keeps s) {w off v} : o.Keeps (s.sylWrite w off v).1 := by
  unfold State.sylWrite
  extract_lets +onlyGivenNames a q judged
  split
  · exact .iteFst h.qCfgWrite h
  · exact h.qBaseWrite
  · exact h.qBaseWrite
  · exact h.qTailWrite
  · exact h.qCmd
  · exact h

theorem State.Keeps.ptNstepWrite (h : o.Keeps s) {w g v} : o.Keeps (s.ptNstepWrite w g v) := by
  unfold State.ptNstepWrite
  exact h.outStat.ite h.wr.outStat

theorem State.Keeps.ptCtl (h : o.Keeps s) {w g v} : o.Keeps (s.ptCtl w g v) := by
  unfold State.ptCtl
  exact h.outStat.ite (h.ptStop.ite (h.ptGo.ite h.outStat))

theorem State.Keeps.ptstatWrite (h : o.Keeps s) {w g v} : o.Keeps (s.ptstatWrite w g v) := by
  unfold State.ptstatWrite
  exact h.outStat.ite h.outStat.setGen

theorem State.Keeps.pwmstatWrite (h : o.Keeps s) {w c v} : o.Keeps (s.pwmstatWrite w c v) := by
  unfold State.pwmstatWrite
  exact h.outStat.ite h.outStat.setPwm

theorem State.Keeps.sdstatWrite (h : o.Keeps s) {w i v} : o.Keeps (s.sdstatWrite w i v) := by
  unfold State.sdstatWrite
  exact h.outStat.ite h.outStat.setSd

theorem State.Keeps.pwmCfgWrite (h : o.Keeps s) {w c v} : o.Keeps (s.pwmCfgWrite w c v) := by
  unfold State.pwmCfgWrite
  exact h.outCfg

theorem State.Keeps.sdCfgWrite (h : o.Keeps s) {w i v} : o.Keeps (s.sdCfgWrite w i v) := by
  unfold State.sdCfgWrite
  exact h.outCfg

theorem State.Keeps.outWrite (h : o.Keeps s) {w off v} : o.Keeps (s.outWrite w off v).1 := by
  unfold State.outWrite
  extract_lets +onlyGivenNames a judged
  refine .iteFst h.evcfgWrite (.iteFst h.evWrite (.iteFst h.forceWrite (.iteFst ?_ ?_)))
  · extract_lets +onlyGivenNames g
    split
    · exact h.ptcfgWrite
    · exact h.ptrateWrite
    · exact h.ptNstepWrite
    · exact h.ptCtl
    · exact h.ptstatWrite
    · exact h
  · refine .iteFst ?_ (.iteFst (by split; exacts [h.sdCfgWrite, h.sdCodeWrite, h.sdstatWrite]) (.iteFst h h.plainWrite.outStat))
    extract_lets +onlyGivenNames c
    split
    · exact h.pwmCfgWrite
    · exact h.pwmPerWrite
    · exact h.pwmDutyWrite
    · exact h.pwmstatWrite

theorem State.Keeps.irqWrite (h : o.Keeps s) {w off v} : o.Keeps (s.irqWrite w off v).1 := by
  unfold State.irqWrite
  extract_lets +onlyGivenNames a judged
  refine .iteFst h.irqcfgWrite (.iteFst h.irqOvf (.iteFst h.irqMask ?_))
  exact .iteFst h.irqMask (.iteFst h.irqMask (.iteFst h.irqMask (.iteFst h.irqBlock (.iteFst h.saveWrite h))))

theorem State.Keeps.enWindow (h : o.Keeps s) {w off v} : o.Keeps (s.enWindow w off v).1 := by
  unfold State.enWindow
  extract_lets +onlyGivenNames a judged
  have hj {t} (ht : o.Keeps t) : o.Keeps (judged t).1 := ht
  refine .iteFst (hj h.enWrite) (.iteFst (hj ?_) ?_)
  · have ht : o.Keeps (if R.ENCMD_CLRCNT.get v = 1 then s.encmdClrcnt else s) := h.encmdClrcnt.ite h
    exact h.enRights.ite (ht.encmdRoll.ite ht.wrReq)
  refine .iteFst (hj h.enWrite) (.iteFst (hj h.enWrite) (.iteFst (hj h.enWrite) ?_))
  refine .iteFst (.iteFst (hj h.enWrite) h.enRights) (.iteFst ?_ (.iteFst (hj h.enWrite) h.enRights))
  exact .iteFst h.enRights (.iteFst (hj h.entxGo) h.wrReq)

theorem State.Keeps.rcWindow (h : o.Keeps s) {w off v} : o.Keeps (s.rcWindow w off v).1 := by
  unfold State.rcWindow
  exact .iteFst h.rcCodeWrite (by split; exacts [h.rcCfgWrite, h.rcCtl, h.rcTxWrite, h.plainWrite.rcStat, h])

theorem State.Keeps.uartWindow (h : o.Keeps s) {w off v} : o.Keeps (s.uartWindow w off v).1 := by
  unfold State.uartWindow
  extract_lets +onlyGivenNames a u judged
  split
  · exact h.uartCfg
  · exact h.uartCfg
  · exact h.uartCfg
  · exact h.uctlWrite
  · exact h.utxWrite
  · exact h.plainWrite.uartStat
  · exact h

theorem State.Keeps.attWindow (h : o.Keeps s) {w off v} : o.Keeps (s.attWindow w off v).1 := by
  unfold State.attWindow
  extract_lets +onlyGivenNames a n judged
  refine .iteFst h.actlWrite (.iteFst h.aoutWrite ?_)
  exact .iteFst h.aosetWrite (.iteFst h.aoclrWrite (.iteFst h (.iteFst h.plainWrite.attStat h.attCfg)))

theorem State.Keeps.macWindow (h : o.Keeps s) {w off v} : o.Keeps (s.macWindow w off v).1 := by
  unfold State.macWindow
  extract_lets +onlyGivenNames a m
  split
  · exact h.etcfgWrite
  · exact h.mdioWrite.ite h
  · exact h.ptpAdj
  · exact h.ptpLow
  · exact h.ptpStep
  · exact h.macWrite

theorem State.Keeps.secretWindow (h : o.Keeps s) {w a v} : o.Keeps (s.secretWindow w a v).1 := by
  unfold State.secretWindow
  refine .iteFst h.rawenWrite ?_
  exact .iteFst h.rngcutWrite (.iteFst h.keyCmd (.iteFst h.keyuseWrite (.iteFst h.crctlWrite h.plainWrite)))

theorem State.Keeps.hallWindow (h : o.Keeps s) {w off v} : o.Keeps (s.hallWindow w off v).1 := by
  unfold State.hallWindow
  exact .iteFst h.alarmClear (.iteFst h.retWrite (.iteFst h.hwstatWrite (.iteFst h h.hallWrite)))

theorem State.Keeps.snapctl (h : o.Keeps s) {v} : o.Keeps (s.snapctl v) := by
  unfold State.snapctl
  exact h.setFld.upd.ite h.setFld

theorem State.Keeps.sysWrite (h : o.Keeps s) {w off v} : o.Keeps (s.sysWrite w off v).1 := by
  unfold State.sysWrite
  extract_lets +onlyGivenNames a judged l
  refine .iteFst h.modereqWrite (.iteFst (.iteFst h.corerunWrite h) ?_)
  refine .iteFst h.plainWrite (.iteFst h.estopcfgWrite ?_)
  refine .iteFst h.clkobsWrite (.iteFst h.gpolicyWrite (.iteFst h.pairstatWrite ?_))
  refine .iteFst h.safetestWrite (.iteFst h.pairInj (.iteFst ?_ ?_))
  · split
    · exact h.wdKick
    · exact h.wdstatWrite
    · exact h.wdWrite
  · refine .iteFst h.blockWrite (.iteFst h.mrscrubWrite ?_)
    exact .iteFst h.mrlcmdWrite (.iteFst (.iteFst h.plainWrite h) (.iteFst (.iteFst h.snapctl h) h.plainWrite))

theorem State.Keeps.regWrite (h : o.Keeps s) {w a v} : o.Keeps (s.regWrite w a v).1 := by
  unfold State.regWrite
  extract_lets +onlyGivenNames off
  split
  · exact h.posWrite
  · exact h.ttWrite
  · exact h.sylWrite
  · exact h.outWrite
  · exact h.irqWrite
  · exact h.enWindow
  · exact h.rcWindow
  · exact h.uartWindow
  · exact h.attWindow
  · exact h.macWindow
  · exact h.secretWindow
  · exact h.secretWindow
  · exact h.hallWindow
  · exact h.sysWrite
  · exact .iteFst h.pinfnWrite h.pinbankWrite
  · exact h

theorem State.Keeps.stateChg (h : o.Keeps s) {l a} : o.Keeps (s.stateChg l a) := by
  unfold State.stateChg
  exact h.wr.count.arrive

theorem State.Keeps.busWrite (h : o.Keeps s) {w a v} : o.Keeps (s.busWrite w a v) := by
  unfold State.busWrite
  exact h.regWrite.ite (State.Keeps.ite (by split; exacts [h.regWrite.stateChg, h.regWrite]) h.regWrite.upd)

/-! ### The Staff port -/

theorem State.Keeps.updStaff (h : o.Keeps s) {f} : o.Keeps (s.updStaff f) := by
  unfold State.updStaff
  exact h.upd

theorem State.Keeps.staffReply (h : o.Keeps s) {st addr data} : o.Keeps (s.staffReply st addr data) := by
  unfold State.staffReply
  exact h.updStaff

theorem State.Keeps.sessLog (h : o.Keeps s) {event code new} : o.Keeps (s.sessLog event code new) := by
  unfold State.sessLog
  exact h.log

theorem State.Keeps.challenge (h : o.Keeps s) {nonce} : o.Keeps (s.challenge nonce) := by
  unfold State.challenge
  exact h.updStaff

theorem State.Keeps.sessOpen (h : o.Keeps s) : o.Keeps (s.sessOpen).2 := by
  unfold State.sessOpen
  extract_lets +onlyGivenNames refuse
  have hr {code} : o.Keeps (refuse code).2 := h.updStaff.ite h
  refine .iteSnd hr (.iteSnd hr (.iteSnd hr ?_))
  split
  next e => exact State.Keeps.challenge (h.drbgDraw e)
  · dsimp only
    exact h.updStaff

theorem State.Keeps.nonceDrawn (h : o.Keeps s) : o.Keeps s.nonceDrawn := by
  unfold State.nonceDrawn
  refine h.ite ?_
  split
  next e =>
    exact (h.drbgDraw e).challenge.updStaff
  · exact h

theorem State.Keeps.prove (h : o.Keeps s) : o.Keeps (s.prove).2 := by
  unfold State.prove
  extract_lets +onlyGivenNames good was s1
  have h1 : o.Keeps s1 := h.updStaff
  exact .iteSnd h1 (.iteSnd h1.upd.updStaff.sessLog (h1.upd.updStaff.sessLog.ite h1.upd.updStaff.sessLog.upd.sessLog))

theorem State.Keeps.sessEnd (h : o.Keeps s) {event code} : o.Keeps (s.sessEnd event code) := by
  unfold State.sessEnd
  exact h.sessLog.updStaff

theorem State.Keeps.challengeExpired (h : o.Keeps s) : o.Keeps s.challengeExpired := by
  unfold State.challengeExpired
  exact h.updStaff.ite h

theorem State.Keeps.sessionIdle (h : o.Keeps s) : o.Keeps s.sessionIdle := by
  unfold State.sessionIdle
  exact h.sessEnd.ite h

theorem State.Keeps.snapRefresh (h : o.Keeps s) : o.Keeps s.snapRefresh := by
  unfold State.snapRefresh
  exact h.upd

theorem State.Keeps.snapshotRefresh (h : o.Keeps s) : o.Keeps s.snapshotRefresh := by
  unfold State.snapshotRefresh
  exact h.snapRefresh.ite h

theorem State.Keeps.snapAsk (h : o.Keeps s) : o.Keeps s.snapAsk := by
  unfold State.snapAsk
  exact h.upd

theorem State.Keeps.attest (h : o.Keeps s) : o.Keeps (s.attest).2 := by
  unfold State.attest
  refine .iteSnd h (.iteSnd h (.iteSnd h (.iteSnd h ?_)))
  split
  · exact h
  next e =>
    exact (h.drbgDraw e).upd

theorem State.Keeps.attestComplete (h : o.Keeps s) : o.Keeps s.attestComplete := by
  unfold State.attestComplete
  split
  · exact h
  · exact h.upd.updStaff

theorem State.Keeps.toXout (h : o.Keeps s) {l} : o.Keeps (s.toXout l) := by
  unfold State.toXout
  exact h.updStaff

theorem State.Keeps.certwr (h : o.Keeps s) : o.Keeps (s.certwr).2 := by
  unfold State.certwr
  exact .iteSnd h (.iteSnd h h.upd)

theorem State.Keeps.certseal (h : o.Keeps s) {ok} : o.Keeps (s.certseal ok).2 := by
  unfold State.certseal
  exact .iteSnd h (.iteSnd h h.logFlush.upd.setFld.setFld)

theorem State.Keeps.genkey (h : o.Keeps s) : o.Keeps (s.genkey).2 := by
  unfold State.genkey
  exact .iteSnd h (.iteSnd h h.keyGen)

theorem State.Keeps.erasekey (h : o.Keeps s) : o.Keeps (s.erasekey).2 := by
  unfold State.erasekey
  exact .iteSnd h h.keyWrite

theorem State.Keeps.idkill (h : o.Keeps s) : o.Keeps (s.idkill).2 := by
  unfold State.idkill
  exact .iteSnd h h.keyWrite.setFld

theorem State.Keeps.idCmd (h : o.Keeps s) {env code} : o.Keeps (s.idCmd env code).2 := by
  unfold State.idCmd
  extract_lets +onlyGivenNames inPrepare all loose gate setKey
  split
  · exact .iteSnd h.attest h
  · split
    · exact h.toXout
    · exact h
  · exact .iteSnd h.toXout h
  · exact h.toXout
  · exact .iteSnd (.iteSnd h h.keyWrite) h
  · exact .iteSnd h.certwr h
  · exact .iteSnd h.certseal h
  · exact .iteSnd h.idkill h
  · exact .iteSnd h.keyWrite h
  · exact .iteSnd h.keyWrite h
  · exact .iteSnd h.keyWrite h
  · exact .iteSnd h.keyWrite h
  · exact .iteSnd h.keyWrite h
  · exact .iteSnd h.genkey h
  · exact .iteSnd h.erasekey h
  · exact h

theorem State.Keeps.stcmdRun (h : o.Keeps s) {env v} : o.Keeps (s.stcmdRun env v).2 := by
  unfold State.stcmdRun
  extract_lets +onlyGivenNames code inSession
  have hs {x} (hx : o.Keeps x) : o.Keeps (inSession x).2 := .iteSnd hx h
  refine .iteSnd h (.iteSnd h.sessOpen (.iteSnd h.prove (.iteSnd (hs h.sessEnd) (.iteSnd (hs h.snapAsk) ?_))))
  refine .iteSnd ?_ h
  extract_lets +onlyGivenNames r
  dsimp only
  exact State.Keeps.updStaff h.idCmd

theorem State.Keeps.stcmd (h : o.Keeps s) {env v} : o.Keeps (s.stcmd env v).2.2 := by
  unfold State.stcmd
  extract_lets +onlyGivenNames r res
  dsimp only
  exact State.Keeps.updStaff h.stcmdRun

theorem State.Keeps.stmodereq (h : o.Keeps s) {v} : o.Keeps (s.stmodereq v).2.2 := by
  unfold State.stmodereq
  exact (h.ite h.modeRequest).ite (h.ite h.modeRequest).updStaff

theorem State.Keeps.winEnd (h : o.Keeps s) {x st} : o.Keeps (s.winEnd x st) := by
  unfold State.winEnd
  exact h.updStaff

theorem State.Keeps.winRead (h : o.Keeps s) {x} : o.Keeps (s.winRead x).2.2 := by
  unfold State.winRead
  split
  · exact h.regRead
  · exact (h.mrFlush.ite h).eccRead

theorem State.Keeps.winWrite (h : o.Keeps s) {x} : o.Keeps (s.winWrite x) := by
  unfold State.winWrite
  extract_lets +onlyGivenNames mem
  split
  · exact h.busWrite
  · exact h.mrPush.updStaff
  · exact h.store.updStaff

theorem State.Keeps.winComplete (h : o.Keeps s) : o.Keeps s.winComplete := by
  unfold State.winComplete
  split
  · exact h
  · exact h.winEnd.ite (h.winWrite.winEnd.ite (h.winRead.winEnd.ite h.winRead.updStaff.winEnd))

theorem State.Keeps.staffRead (h : o.Keeps s) {r} : o.Keeps (s.staffRead r).2.2 := by
  unfold State.staffRead
  extract_lets +onlyGivenNames v x
  split
  · dsimp only
    exact h.updStaff
  split
  · dsimp only
    exact h.updStaff
  split
  · split
    · exact h
    · exact State.Keeps.ite h.updStaff h
  · exact h

theorem State.Keeps.staffWrite (h : o.Keeps s) {env r v} : o.Keeps (s.staffWrite env r v).2.2 := by
  unfold State.staffWrite
  extract_lets +onlyGivenNames x ok
  have hok {t} (ht : o.Keeps t) : o.Keeps (ok t).2.2 := ht
  split
  · exact h.stcmd
  split
  · exact h.stmodereq
  split
  · exact h
  split
  · exact hok h.updStaff
  · exact hok h.updStaff
  · exact hok h.updStaff
  · exact hok h.updStaff
  · extract_lets +onlyGivenNames s1
    have h1 : o.Keeps s1 := h.updStaff
    exact hok (h1.updStaff.ite h1)
  · exact hok h.updStaff
  · split
    · exact hok h.updStaff
    · split
      · exact hok h.updStaff
      · exact hok h

theorem State.Keeps.staffDo (h : o.Keeps s) {env cmd addr data} : o.Keeps (s.staffDo env cmd addr data) := by
  unfold State.staffDo
  extract_lets +onlyGivenNames s1 put none
  have h1 : o.Keeps s1 := h.updStaff
  refine h1.staffReply.ite (h1.staffReply.ite (h1.staffReply.ite ?_))
  exact h1.staffReply.ite (h1.staffReply.ite (h1.staffRead.staffReply.ite h1.staffWrite.staffReply))

theorem State.Keeps.exchange (h : o.Keeps s) {f : State → State} (hf : ∀ {s}, o.Keeps s → o.Keeps (f s)) :
    o.Keeps (s.exchange f) := by
  unfold State.exchange
  exact h.ite ((hf h).upd.ite (hf h).upd)

theorem State.Keeps.frameDo (h : o.Keeps s) {env whole v} : o.Keeps (s.frameDo env whole v) := by
  unfold State.frameDo
  exact h.staffReply.ite (h.updStaff.staffReply.ite (h.updStaff.staffReply.ite h.staffDo))

theorem State.Keeps.spiFrame (h : o.Keeps s) {env edges mode3 v} : o.Keeps (s.spiFrame env edges mode3 v) := by
  unfold State.spiFrame
  exact h.ite (h.updStaff.exchange fun hk => hk.frameDo)

theorem State.Keeps.uartRequest (h : o.Keeps s) {env whole v} : o.Keeps (s.uartRequest env whole v) := by
  unfold State.uartRequest
  exact h.ite (h.exchange fun hk => hk.frameDo)

theorem State.Keeps.staffSend (h : o.Keeps s) {env cmd addr data} : o.Keeps (s.staffSend env cmd addr data) := by
  unfold State.staffSend
  exact h.exchange fun hk => hk.staffDo

theorem State.Keeps.staffCmd (h : o.Keeps s) {env code} : o.Keeps (s.staffCmd env code) := by
  unfold State.staffCmd
  exact h.staffSend

/-! ### Loads, stores and the stacks -/

theorem State.Keeps.guardBy (h : o.Keeps s) {f : Option Flt} : o.KeepsOut (s.guardBy f) := by
  cases f with
  | none => exact h
  | some e => exact h

theorem State.Keeps.sbFinish (h : o.Keeps s) {l e} : o.Keeps (s.sbFinish l e) := by
  unfold State.sbFinish
  exact h.ite (by split; exacts [(h.ite h.mrPush).mrFlush, h.busWrite, h.store])

theorem State.Keeps.sbLeave (h : o.Keeps s) {l p} : o.Keeps (s.sbLeave l p) := by
  unfold State.sbLeave
  split
  · exact h
  · exact h.sbFinish.setCore

theorem State.Keeps.sbDrop {n} (h : o.Keeps s) {l p} : o.Keeps (s.sbDrop l p n) := by
  induction n generalizing s with
  | zero => exact h
  | succ n ih => exact ih h.sbLeave

theorem State.Keeps.busCount (h : o.Keeps s) {l reg f n} : o.Keeps (s.busCount l reg f n) := by
  unfold State.busCount
  exact h.count.count.ite h.count

theorem State.Keeps.sbStall (h : o.Keeps s) {l full} : o.Keeps (s.sbStall l full) := by
  unfold State.sbStall
  exact h.free.busCount.ite h.free.busCount

theorem State.Keeps.sbDrain (h : o.Keeps s) {l} : o.Keeps (s.sbDrain l) := by
  unfold State.sbDrain
  exact h.ite h.sbDrop.sbStall

theorem State.Keeps.sbClear (h : o.Keeps s) {l p} : o.Keeps (s.sbClear l p) := by
  unfold State.sbClear
  exact h.ite (h.foldl _ fun hk => hk.sbDrop).sbStall

theorem State.Keeps.sbPush (h : o.Keeps s) {l e} : o.Keeps (s.sbPush l e) := by
  unfold State.sbPush
  exact (h.ite h.sbLeave.sbStall).setCore

theorem State.Keeps.readMem (h : o.Keeps s) {w fa a n} : o.KeepsOut (s.readMem w fa a n) := by
  unfold State.readMem
  split
  · exact h.bad
  · exact (h.mrFlush.ite h).eccRead.bad.ite (h.mrFlush.ite h).eccRead.ok

theorem State.Keeps.readParts {ps} (h : o.Keeps s) {w fa} : o.KeepsOut (s.readParts w fa ps) := by
  induction ps generalizing s with
  | nil => exact h
  | cons p ps ih => exact h.readMem.bind fun h => (ih h).bind State.Keeps.ok

theorem State.Keeps.loadParts (h : o.Keeps s) {w fa whole ps} : o.KeepsOut (s.loadParts w fa whole ps) := by
  unfold State.loadParts
  exact h.ok.ite h.sbClear.readParts

theorem State.Keeps.loadAt (h : o.Keeps s) {w a n} : o.KeepsOut (s.loadAt w a n) := by
  unfold State.loadAt
  exact h.sbClear.regRead.ok.ite h.loadParts

theorem State.Keeps.storeParts {ps} (h : o.Keeps s) {w v} : o.Keeps (s.storeParts w v ps) := by
  induction ps generalizing s v with
  | nil => exact h
  | cons p ps ih => exact ih h.sbPush

theorem State.Keeps.load (h : o.Keeps s) {w a n} : o.KeepsOut (s.load w a n) := by
  unfold State.load
  exact h.guardBy.bind fun hk => hk.loadAt

theorem State.Keeps.storeOp (h : o.Keeps s) {w a n v} : o.KeepsOut (s.storeOp w a n v) := by
  unfold State.storeOp
  exact h.guardBy.bind fun hk => hk.storeParts.ok

theorem State.Keeps.atomic (h : o.Keeps s) {w a new} : o.KeepsOut (s.atomic w a new) := by
  unfold State.atomic
  exact h.guardBy.bind fun hk => hk.sbDrain.readMem.bind fun hk => (by split; exacts [hk.store.ok, hk.ok])

theorem State.Keeps.fillRun (h : o.Keeps s) {w r hs} : o.KeepsOut (s.fillRun w r hs) := by
  unfold State.fillRun
  exact h.guardBy.bind fun hk => hk.loadParts.bind fun hk => hk.setCore.ok

theorem State.Keeps.fillRuns {gs} (h : o.Keeps s) {w r} : o.KeepsOut (s.fillRuns w r gs) := by
  induction gs generalizing s with
  | nil => exact h
  | cons g gs ih => exact h.fillRun.bind ih

theorem State.Keeps.fill {fuel} (h : o.Keeps s) {w r p} : o.KeepsOut (s.fill w r p fuel) := by
  induction fuel generalizing s with
  | zero => exact h
  | succ fuel ih =>
    unfold State.fill
    exact h.ok.ite (h.fillRuns.bind ih)

theorem State.Keeps.spillRun (h : o.Keeps s) {w r es} : o.KeepsOut (s.spillRun w r es) := by
  unfold State.spillRun
  exact h.guardBy.bind fun hk => hk.storeParts.setCore.ok

theorem State.Keeps.spillRuns {gs} (h : o.Keeps s) {w r} : o.KeepsOut (s.spillRuns w r gs) := by
  induction gs generalizing s with
  | nil => exact h
  | cons g gs ih => exact h.spillRun.bind ih

theorem State.Keeps.spillDeep (h : o.Keeps s) {w r k} : o.KeepsOut (s.spillDeep w r k) := by
  unfold State.spillDeep
  exact h.spillRuns

theorem State.Keeps.spill {fuel} (h : o.Keeps s) {w r p q} : o.KeepsOut (s.spill w r p q fuel) := by
  induction fuel generalizing s with
  | zero => exact h
  | succ fuel ih =>
    unfold State.spill
    exact h.ok.ite (h.spillDeep.bind ih)

theorem State.Keeps.spillAll {fuel} (h : o.Keeps s) {w r keep} : o.KeepsOut (s.spillAll w r keep fuel) := by
  induction fuel generalizing s with
  | zero => exact h
  | succ fuel ih =>
    unfold State.spillAll
    exact h.ok.ite (h.spillDeep.bind ih)

theorem State.Keeps.moves (h : o.Keeps s) {w r p q} : o.KeepsOut (s.moves w r p q) := by
  unfold State.moves
  exact h.ok.ite (h.fill.bind fun hk => hk.spill.bind fun hk => hk.ok)

theorem State.Keeps.prepare (h : o.Keeps s) {w r p q} : o.KeepsOut (s.prepare w r p q) := by
  unfold State.prepare
  exact h.guardBy.bind fun hk => hk.moves

theorem State.Keeps.prepareBoth (h : o.Keeps s) {w o1 r} : o.KeepsOut (s.prepareBoth w o1 r) := by
  unfold State.prepareBoth
  exact h.guardBy.bind fun hk => hk.moves.bind fun hk => hk.moves.bind fun hk3 => hk3.ok

theorem State.Keeps.popN (h : o.Keeps s) {l r p} : o.Keeps (s.popN l r p) := by
  unfold State.popN
  exact h.setCore.ite h.setCore

theorem State.Keeps.push (h : o.Keeps s) {l r v} : o.Keeps (s.push l r v) := by
  unfold State.push
  exact h.setCore.ite h.setCore

theorem State.Keeps.pushAll (h : o.Keeps s) {l r vs} : o.Keeps (s.pushAll l r vs) := by
  unfold State.pushAll
  exact h.foldl _ fun hk => hk.push

/-! ### Entries and returns -/

theorem State.Keeps.wrAll {vs} (h : o.Keeps s) {a} : o.Keeps (s.wrAll a vs) := by
  induction vs generalizing s a with
  | nil => exact h
  | cons v vs ih => exact ih h.wr

theorem State.Keeps.saveEnter (h : o.Keeps s) {l n pc sstat} : o.Keeps (s.saveEnter l n pc sstat) := by
  unfold State.saveEnter
  exact h.wrAll

theorem State.Keeps.saveClear (h : o.Keeps s) {l n} : o.Keeps (s.saveClear l n) := by
  unfold State.saveClear
  exact h.setFld

theorem State.Keeps.lessonBegin (h : o.Keeps s) {l r} : o.Keeps (s.lessonBegin l r) := by
  unfold State.lessonBegin
  exact h.setCore.count

theorem State.Keeps.lessonStart (h : o.Keeps s) {l chain} : o.Keeps (s.lessonStart l chain) := by
  unfold State.lessonStart
  split
  · exact h
  · exact (h.upd.ite h.upd.saveEnter).lessonBegin

theorem State.Keeps.lessonEnd (h : o.Keeps s) {l} : o.Keeps (s.lessonEnd l) := by
  unfold State.lessonEnd
  exact h.setCore.setCore.saveClear.ite h.setCore.lessonStart

theorem State.Keeps.lessonAbort (h : o.Keeps s) {l why} : o.Keeps (s.lessonAbort l why) := by
  unfold State.lessonAbort
  exact h.setFld.setFld.setFld.count.arrive.lessonEnd

theorem State.Keeps.recordFault (h : o.Keeps s) {l f a} : o.Keeps (s.recordFault l f a) := by
  unfold State.recordFault
  exact h.wr.wr.count.ite h.wr.wr.count

theorem State.Keeps.onGStacks (h : o.Keeps s) {l} : o.Keeps (s.onGStacks l) := by
  unfold State.onGStacks
  exact h.setCore

theorem State.Keeps.guardEnter (h : o.Keeps s) {l vec} : o.Keeps (s.guardEnter l vec) := by
  unfold State.guardEnter
  exact h.setCore

theorem State.Keeps.thirdFault (h : o.Keeps s) {l kind} : o.Keeps (s.thirdFault l kind) := by
  unfold State.thirdFault
  exact h.coreReset.setCore.coreHold.setFld.setFld.setFld.setFld.thirdPolicy

theorem State.Keeps.doubleFault (h : o.Keeps s) {l kind2} : o.Keeps (s.doubleFault l kind2) := by
  unfold State.doubleFault
  extract_lets +onlyGivenNames c ff s1 s2 saved s3 s4
  have h1 : o.Keeps s1 := h.setFld.setFld.setFld
  have h2 : o.Keeps s2 := h1.count
  have h3 : o.Keeps s3 := h2.wrAll
  have h4 : o.Keeps s4 := h3.wrAll
  split
  · exact h4.thirdFault
  · exact h4.onGStacks.guardEnter

theorem State.KeepsOut.state {α : Type} {r : Out α} (h : o.KeepsOut r) : o.Keeps r.state := h

theorem State.Keeps.spillLoose (h : o.Keeps s) {w} : o.Keeps (s.spillLoose w) := by
  unfold State.spillLoose
  exact h.spillAll.state.spillAll.state.setCore

theorem State.Keeps.exhaust (h : o.Keeps s) {l cause a} : o.Keeps (s.exhaust l cause a) := by
  unfold State.exhaust
  extract_lets +onlyGivenNames c v s1 _ s2
  have h1 : o.Keeps s1 := h.wr.wr.count
  have h2 : o.Keeps s2 := h1.setCore
  split
  · exact h2.doubleFault
  · extract_lets +onlyGivenNames s3 s4
    have h3 : o.Keeps s3 := h2.spillLoose.onGStacks
    have h4 : o.Keeps s4 := h3.pushAll
    exact h4.guardEnter

theorem State.Keeps.faultEntry (h : o.Keeps s) {l f a} : o.Keeps (s.faultEntry l f a) := by
  unfold State.faultEntry
  extract_lets +onlyGivenNames c s1 _ s2 s3
  have h1 : o.Keeps s1 := h.setCore
  refine h1.recordFault.lessonAbort.ite (h1.thirdFault.ite (h1.doubleFault.ite ?_))
  have h2 : o.Keeps s2 := h1.setCore
  have h3 : o.Keeps s3 := h2.recordFault
  split
  next e => exact (State.Keeps.pushAll (h3.prepare.of_ok e)).setCore
  next e => exact (State.Keeps.doubleFault (h3.prepare.of_bad e)).ite (State.Keeps.exhaust (h3.prepare.of_bad e))

theorem State.Keeps.retf (h : o.Keeps s) {l} : o.KeepsOut (s.retf l) := by
  unfold State.retf
  exact h.bad.ite (h.prepare.bind fun hk => hk.bad.ite hk.popN.setCore.ok)

theorem State.Keeps.retiFrom (h : o.Keeps s) {l a b} : o.KeepsOut (s.retiFrom l a b) := by
  unfold State.retiFrom
  exact h.bad.ite (h.bad.ite (h.bad.ite (h.bad.ite h.setCore.ok)))

theorem State.Keeps.reti (h : o.Keeps s) {l} : o.KeepsOut (s.reti l) := by
  unfold State.reti
  extract_lets c cur xbnd set
  have hset : ∀ {n} {done : State → State}, (∀ {t}, o.Keeps t → o.Keeps (done t)) → o.KeepsOut (set n done) :=
    fun hd => h.bad.ite (h.retiFrom.bind fun h => (hd h.saveClear).ok)
  refine h.bad.ite (.ite (h.bad.ite (h.retiFrom.bind fun h => h.setFld.setFld.ok)) (.ite ?_ (h.bad.ite ?_)))
  · exact hset fun h => h.setFld
  · exact hset id

theorem State.Keeps.loadWords {n} (h : o.Keeps s) {w a} : o.KeepsOut (s.loadWords w a n) := by
  induction n generalizing s a with
  | zero => exact h
  | succ n ih => exact h.load.bind fun h => (ih h).bind State.Keeps.ok

theorem State.Keeps.gateEnter (h : o.Keeps s) {w i a g} : o.KeepsOut (s.gateEnter w i a g) := by
  unfold State.gateEnter
  refine .ite ?_ (h.prepare.bind fun hk => hk.pushAll.setCore.ok)
  exact h.prepare.bind fun hk => hk.spillAll.bind fun hk => hk.spillAll.bind fun hk3 =>
    hk3.popN.setCore.pushAll.pushAll.setCore.ok

theorem State.Keeps.gate (h : o.Keeps s) {l i a} : o.KeepsOut (s.gate l i a) := by
  unfold State.gate
  refine h.bad.ite (h.bad.ite ?_)
  split
  next e =>
    exact (h.loadWords.of_bad e).bad
  next e =>
    extract_lets +onlyGivenNames g
    split
    · exact (h.loadWords.of_ok e).bad
    · exact (h.loadWords.of_ok e).gateEnter

theorem State.Keeps.gret (h : o.Keeps s) {l} : o.KeepsOut (s.gret l) := by
  unfold State.gret
  refine h.bad.ite ?_
  exact h.prepare.bind fun hk => hk.bad.ite (hk.popN.setCore.ok.ite (hk.bad.ite (hk.prepare.bind fun hk => hk.bad.ite
    (hk.prepare.bind fun hk3 => hk3.bad.ite hk3.setCore.pushAll.setCore.ok))))

theorem State.Keeps.retw (h : o.Keeps s) {l} : o.KeepsOut (s.retw l) := by
  unfold State.retw
  refine h.bad.ite (h.bad.ite ?_)
  exact h.prepare.bind fun hk => hk.bad.ite (hk.guardBy.bind fun hk => hk.spillAll.bind fun hk3 => hk3.spillAll.bind fun hk4 =>
    hk4.setCore.ok)

/-! ### Deliveries -/

theorem State.Keeps.switchStacks (h : o.Keeps s) {l} : o.Keeps (s.switchStacks l) := by
  unfold State.switchStacks
  exact h.wrAll.setCore

theorem State.Keeps.deliver (h : o.Keeps s) {l n sstat guard beneath vec} : o.Keeps (s.deliver l n sstat guard beneath vec) := by
  unfold State.deliver
  exact (h.saveEnter.switchStacks.ite h.saveEnter).setCore

theorem State.Keeps.interruptEntry (h : o.Keeps s) {l} : o.Keeps (s.interruptEntry l) := by
  unfold State.interruptEntry
  split
  · exact h
  · exact h.setFld.deliver

theorem State.Keeps.lessonEntry (h : o.Keeps s) {l} : o.Keeps (s.lessonEntry l) := by
  unfold State.lessonEntry
  exact h.lessonStart.ite h

theorem State.Keeps.nmiEntry (h : o.Keeps s) {l} : o.Keeps (s.nmiEntry l) := by
  unfold State.nmiEntry
  exact h.deliver.setFld.ite h

theorem State.Keeps.lessonLimit (h : o.Keeps s) {l} : o.Keeps (s.lessonLimit l) := by
  unfold State.lessonLimit
  exact h.lessonAbort.ite h

theorem State.Keeps.heldRise (h : o.Keeps s) {old l} : o.Keeps (heldRise old s l) := by
  unfold Machine.heldRise
  exact h.arrive.ite h

theorem State.Keeps.settle {old} (h : o.Keeps s) : o.Keeps (settle old s) := by
  unfold Machine.settle
  exact h.arriveAll.foldl _ fun h => h.heldRise

/-! ### What the instructions share -/

theorem State.Keeps.fetch (h : o.Keeps s) {l} : o.KeepsOut (s.fetch l) := by
  unfold State.fetch
  exact h.bad.ite (h.bad.ite (by split; exacts [h.bad, h.ok.ite (h.eccRead.bad.ite h.eccRead.ok)]))

theorem State.Keeps.setPc (h : o.Keeps s) {l v} : o.Keeps (s.setPc l v) := by
  unfold State.setPc
  exact h.setCore

theorem State.Keeps.instrB (h : o.Keeps s) {l} {f : State → Word → Out Bool}
    (hf : ∀ {s a}, o.Keeps s → o.KeepsOut (f s a)) : o.Keeps (s.instrB l f) := by
  unfold State.instrB
  refine h.ite ?_
  extract_lets a
  split
  next e => exact (h.fetch.of_bad e).faultEntry
  next u _ e =>
    have hk : o.KeepsOut (f (u.setPc l (a + 2)) a) := hf (h.fetch.of_ok e).setPc
    split
    next e => exact (hk.of_ok e).setCore.ite (hk.of_ok e)
    next e => exact (hk.of_bad e).faultEntry

theorem State.Keeps.instr (h : o.Keeps s) {l} {f : State → Word → Out Unit}
    (hf : ∀ {s a}, o.Keeps s → o.KeepsOut (f s a)) : o.Keeps (s.instr l f) := by
  unfold State.instr
  exact h.instrB fun h => (hf h).bind State.Keeps.ok

theorem State.Keeps.coreOp (h : o.Keeps s) {l p q f} : o.KeepsOut (s.coreOp l p q f) := by
  unfold State.coreOp
  exact h.prepare.bind fun hk => hk.popN.setCore.pushAll.ok

theorem State.Keeps.stackOp (h : o.Keeps s) {l p q f} : o.KeepsOut (s.stackOp l p q f) := by
  unfold State.stackOp
  exact h.prepare.bind fun hk => hk.popN.pushAll.ok

theorem State.Keeps.unary (h : o.Keeps s) {l f} : o.KeepsOut (s.unary l f) := by
  unfold State.unary
  exact h.stackOp

theorem State.Keeps.binary (h : o.Keeps s) {l f} : o.KeepsOut (s.binary l f) := by
  unfold State.binary
  exact h.stackOp

theorem State.Keeps.saturating (h : o.Keeps s) {l p n f} : o.KeepsOut (s.saturating l p n f) := by
  unfold State.saturating
  exact h.coreOp

theorem State.Keeps.accOp (h : o.Keeps s) {l p f} : o.KeepsOut (s.accOp l p f) := by
  unfold State.accOp
  exact h.coreOp

theorem State.Keeps.torOp (h : o.Keeps s) {l} : o.KeepsOut (s.torOp l) := by
  unfold State.torOp
  exact h.prepareBoth.bind fun hk => hk.popN.push.ok

theorem State.Keeps.fromrOp (h : o.Keeps s) {l pop} : o.KeepsOut (s.fromrOp l pop) := by
  unfold State.fromrOp
  exact h.prepareBoth.bind fun hk => (hk.popN.ite hk).push.ok

theorem State.Keeps.pickOp (h : o.Keeps s) {l i} : o.KeepsOut (s.pickOp l i) := by
  unfold State.pickOp
  exact h.bad.ite (h.prepare.bind fun hk => hk.push.ok)

theorem State.Keeps.extracted (h : o.Keeps s) {l p n sh a} : o.KeepsOut (s.extracted l p n sh a) := by
  unfold State.extracted
  exact h.coreOp

theorem State.Keeps.mulqOp (h : o.Keeps s) {l} : o.KeepsOut (s.mulqOp l) := by
  unfold State.mulqOp
  exact h.extracted

theorem State.Keeps.extOp (h : o.Keeps s) {l n sh} : o.KeepsOut (s.extOp l n sh) := by
  unfold State.extOp
  exact h.extracted

theorem State.Keeps.branch (h : o.Keeps s) {l p a off cond} : o.KeepsOut (s.branch l p a off cond) := by
  unfold State.branch
  exact h.prepare.bind fun hk => (hk.popN.setPc.ite hk.popN).ok

theorem State.Keeps.setTop (h : o.Keeps s) {l r v} : o.Keeps (s.setTop l r v) := by
  unfold State.setTop
  exact h.popN.push

theorem State.Keeps.loopOp (h : o.Keeps s) {l a off} : o.KeepsOut (s.loopOp l a off) := by
  unfold State.loopOp
  exact h.prepare.bind fun hk => (hk.popN.ite hk.setTop.setPc).ok

theorem State.Keeps.popTarget (h : o.Keeps s) {l r} {done : State → Word → Out Unit}
    (hf : ∀ {s a}, o.Keeps s → o.KeepsOut (done s a)) : o.KeepsOut (s.popTarget l r done) := by
  unfold State.popTarget
  exact h.prepare.bind fun h => h.bad.ite (hf h)

theorem State.Keeps.calliOp (h : o.Keeps s) {l ret} : o.KeepsOut (s.calliOp l ret) := by
  unfold State.calliOp
  exact h.prepareBoth.bind fun hk => hk.bad.ite hk.popN.push.setPc.ok

theorem State.Keeps.rsr (h : o.Keeps s) {l a n} : o.KeepsOut (s.rsr l a n) := by
  unfold State.rsr
  split
  · exact h.bad
  · exact h.prepare.bind fun hk => hk.push.ok

theorem State.Keeps.wsrPlain (h : o.Keeps s) {l n} : o.KeepsOut (s.wsrPlain l n) := by
  unfold State.wsrPlain
  exact h.bad.ite h.coreOp

theorem State.Keeps.wsrStw (h : o.Keeps s) {l} : o.KeepsOut (s.wsrStw l) := by
  unfold State.wsrStw
  exact h.prepare.bind fun hk => hk.bad.ite hk.popN.setCore.ok

theorem State.Keeps.wsrPointer (h : o.Keeps s) {l r} : o.KeepsOut (s.wsrPointer l r) := by
  unfold State.wsrPointer
  refine h.bad.ite ?_
  exact h.prepare.bind fun hk => hk.bad.ite (hk.bad.ite (hk.bad.ite (hk.spillAll.bind fun hk => hk.popN.setCore.ok)))

theorem State.Keeps.wsrBound (h : o.Keeps s) {l r lim} : o.KeepsOut (s.wsrBound l r lim) := by
  unfold State.wsrBound
  exact h.bad.ite (h.prepare.bind fun hk => hk.bad.ite (hk.bad.ite hk.popN.setCore.ok))

theorem State.Keeps.wsr (h : o.Keeps s) {l n} : o.KeepsOut (s.wsr l n) := by
  unfold State.wsr
  split
  · exact h.wsrStw
  · exact h.wsrPointer
  · exact h.wsrBound
  · exact h.wsrBound
  · exact h.wsrPointer
  · exact h.wsrBound
  · exact h.wsrBound
  · exact h.wsrPlain

theorem State.Keeps.ldOp (h : o.Keeps s) {l signed n off} : o.KeepsOut (s.ldOp l signed n off) := by
  unfold State.ldOp
  exact h.prepare.bind fun hk => hk.load.bind fun hk => hk.setTop.ok

theorem State.Keeps.stOp (h : o.Keeps s) {l n off} : o.KeepsOut (s.stOp l n off) := by
  unfold State.stOp
  exact h.prepare.bind fun hk => hk.storeOp.bind fun hk => hk.popN.ok

theorem State.Keeps.stepReg (h : o.Keeps s) {l y e} : o.Keeps (s.stepReg l y e) := by
  unfold State.stepReg
  exact h.setCore

theorem State.Keeps.ldxOp (h : o.Keeps s) {l y signed n} : o.KeepsOut (s.ldxOp l y signed n) := by
  unfold State.ldxOp
  exact h.guardBy.bind fun hk => hk.prepare.bind fun hk => hk.load.bind fun hk3 => hk3.stepReg.push.ok

theorem State.Keeps.stxOp (h : o.Keeps s) {l y n} : o.KeepsOut (s.stxOp l y n) := by
  unfold State.stxOp
  exact h.guardBy.bind fun hk => hk.prepare.bind fun hk => hk.storeOp.bind fun hk3 => hk3.stepReg.popN.ok

theorem State.Keeps.fenceOp (h : o.Keeps s) {l} : o.Keeps (s.fenceOp l) := by
  unfold State.fenceOp
  exact h.sbDrain.setCore

theorem State.Keeps.xchgOp (h : o.Keeps s) {l} : o.KeepsOut (s.xchgOp l) := by
  unfold State.xchgOp
  exact h.prepare.bind fun hk => hk.atomic.bind fun hk => hk.popN.push.ok

theorem State.Keeps.casOp (h : o.Keeps s) {l} : o.KeepsOut (s.casOp l) := by
  unfold State.casOp
  exact h.prepare.bind fun hk => hk.atomic.bind fun hk => hk.popN.push.ok

theorem State.Keeps.armOp (h : o.Keeps s) {l} : o.KeepsOut (s.armOp l) := by
  unfold State.armOp
  exact h.prepare.bind fun hk => hk.loadWords.bind fun hk => hk.armRequest.setTop.ok

theorem State.Keeps.macPair (h : o.Keeps s) {l frac sub} : o.KeepsOut (s.macPair l frac sub) := by
  unfold State.macPair
  exact h.guardBy.bind fun hk => hk.loadAt.bind fun hk => hk.guardBy.bind fun hk3 => hk3.loadAt.bind fun hk4 =>
    hk4.stepReg.stepReg.setCore.ok

theorem State.Keeps.longCount (h : o.Keeps s) {l f} : o.Keeps (s.longCount l f) := by
  unfold State.longCount
  exact h.count.count.ite h.count

theorem State.Keeps.macLoop {n} (h : o.Keeps s) {l frac sub a stop} : o.KeepsOut (State.macLoop l frac sub a n stop s) := by
  induction n generalizing s stop with
  | zero => exact h.popN
  | succ n ih => exact h.macPair.bind fun h => h.setTop.setPc.longCount.ok.ite (ih h.setTop)

theorem State.Keeps.macn (h : o.Keeps s) {l frac sub a stop} : o.KeepsOut (s.macn l frac sub a stop) := by
  unfold State.macn
  exact h.prepare.bind fun hk => hk.macLoop

theorem State.Keeps.divide (h : o.Keeps s) {l a abandon f} : o.KeepsOut (s.divide l a abandon f) := by
  unfold State.divide
  exact h.prepare.bind fun hk => hk.bad.ite (hk.setPc.longCount.ok.ite hk.popN.push.ok)

theorem State.Keeps.reservedByte (h : o.Keeps s) {w a b} : o.Keeps (s.reservedByte w a b) := by
  unfold State.reservedByte
  exact h.storeParts.ite h

theorem State.Keeps.reservedSp (h : o.Keeps s) {l r x} : o.KeepsOut (s.reservedSp l r x) := by
  unfold State.reservedSp
  split
  · exact h.ok
  · exact h.ok.ite (h.spillAll.bind fun hk => hk.setCore.ok)

theorem State.KeepsOut.undoing {α : Type} {r : Out α} (h : o.Keeps s) (hr : o.KeepsOut r) : o.KeepsOut (r.undoing s) := by
  cases r with
  | ok u a => exact hr
  | bad u f => exact h

theorem State.Keeps.reserved (h : o.Keeps s) {l e} : o.KeepsOut (s.reserved l e) := by
  unfold State.reserved
  exact h.guardBy.bind fun hk => hk.prepareBoth.bind fun hk => State.KeepsOut.undoing hk
    (hk.popN.pushAll.popN.pushAll.reservedSp.bind fun hk3 => hk3.reservedSp.bind fun hk4 => (hk4.foldl _ fun hk5 =>
    hk5.reservedByte).setCore.ok)

theorem State.Keeps.waitOp (h : o.Keeps s) {l} : o.KeepsOut (s.waitOp l) := by
  unfold State.waitOp
  exact h.bad.ite (h.ok.ite h.setCore.ok)

theorem State.Keeps.debugStop (h : o.Keeps s) {l} : o.Keeps (s.debugStop l) := by
  unfold State.debugStop
  exact h.setCore.ite h

/-! ### What the other commands share -/

theorem State.Keeps.coreWrite (h : o.Keeps s) {l a n v} : o.Keeps (s.coreWrite l a n v) := by
  unfold State.coreWrite
  refine h.ite ?_
  extract_lets w
  split
  · exact h.faultEntry
  · exact h.sbClear.busWrite

theorem State.Keeps.coreRead (h : o.Keeps s) {l a n} : o.Keeps (s.coreRead l a n) := by
  unfold State.coreRead
  refine h.ite ?_
  split
  next e =>
    exact (h.load.of_ok e).upd
  next e =>
    exact (h.load.of_bad e).faultEntry

theorem State.Keeps.windowDo (h : o.Keeps s) {x} : o.Keeps (s.windowDo x) := by
  unfold State.windowDo
  exact h.ite (h.updStaff.winComplete.ite h.updStaff.winComplete.upd)

theorem State.Keeps.writeN (h : o.Keeps s) {r a n v} : o.Keeps (s.writeN r a n v) := by
  unfold State.writeN
  split
  · exact h.coreWrite
  · exact h.windowDo

theorem State.Keeps.request (h : o.Keeps s) {r a v} : o.Keeps (s.request r a v) := by
  unfold State.request
  exact h.writeN

theorem State.Keeps.requestRead (h : o.Keeps s) {r a} : o.Keeps (s.requestRead r a) := by
  unfold State.requestRead
  split
  · exact h.coreRead
  · exact h.windowDo

theorem State.Keeps.requestFld (h : o.Keeps s) {r a f x} : o.Keeps (s.requestFld r a f x) := by
  unfold State.requestFld
  exact h.request

theorem State.Keeps.askMode (h : o.Keeps s) {r m} : o.Keeps (s.askMode r m) := by
  unfold State.askMode
  split
  · exact h.coreWrite
  · exact h.staffSend

theorem State.Keeps.sbWaited (h : o.Keeps s) {l ovl full} : o.Keeps (s.sbWaited l ovl full) := by
  unfold State.sbWaited
  exact h.busCount.busCount

theorem State.Keeps.sbPort (h : o.Keeps s) {l tcm ovl full} : o.Keeps (s.sbPort l tcm ovl full) := by
  unfold State.sbPort
  exact h.sbLeave.sbWaited.ite h

theorem State.Keeps.sbTransfer (h : o.Keeps s) {l} : o.Keeps (s.sbTransfer l) := by
  unfold State.sbTransfer
  split
  · exact h
  · exact h.mrPush.ite h.sbFinish.setCore

theorem State.Keeps.busTransfer (h : o.Keeps s) {m x wait} : o.Keeps (s.busTransfer m x wait) := by
  unfold State.busTransfer
  refine h.ite ?_
  extract_lets +onlyGivenNames s1
  have h1 : o.Keeps s1 := h.count
  split
  · extract_lets +onlyGivenNames s1 top p s2 s3
    have h1 : o.Keeps s1 := h.count.busCount
    have h2 : o.Keeps s2 := h1.setFld
    have h3 : o.Keeps s3 := h2.setFld.ite h2
    exact h3.sbTransfer.ite h3
  · exact h.count.memwDone.ite h.count
  · exact h1

theorem State.Keeps.lineArrives (h : o.Keeps s) {l a} : o.Keeps (s.lineArrives l a) := by
  unfold State.lineArrives
  extract_lets +onlyGivenNames b
  split
  · exact h.ite (h.eccRead.setCore.ite h.eccRead.setCore)
  · exact h.ite (h.eccRead.setCore.ite h.eccRead.setCore)
  · exact h

theorem State.Keeps.mramRead (h : o.Keeps s) {a fetch} : o.Keeps (s.mramRead a fetch) := by
  unfold State.mramRead
  exact h.ite (by split; exacts [h.mrFlush.lineArrives, h.mrFlush.eccRead.upd])

theorem State.Keeps.mramProgram (h : o.Keeps s) : o.Keeps s.mramProgram := by
  unfold State.mramProgram
  exact h.ite h.mrNext

theorem State.Keeps.pinSwitchAt (h : o.Keeps s) {b k} : o.Keeps (s.pinSwitchAt b k) := by
  unfold State.pinSwitchAt
  exact h.advance.pinSwitch

theorem State.Keeps.fcRetracts (h : o.Keeps s) {src tag} : o.Keeps (s.fcRetracts src tag) := by
  unfold State.fcRetracts
  exact h.foldl _ fun hk => hk.fcRetracted

theorem State.Keeps.fcConfirms (h : o.Keeps s) {src tag} : o.Keeps (s.fcConfirms src tag) := by
  unfold State.fcConfirms
  exact h.foldl _ fun hk => hk.fcConfirmed

theorem State.Keeps.gapTimeout (h : o.Keeps s) : o.Keeps s.gapTimeout := by
  unfold State.gapTimeout
  exact h.ite h.updStaff

theorem State.Keeps.idcode (h : o.Keeps s) : o.Keeps (s.idcode).2 := by
  unfold State.idcode
  exact h.free

theorem State.Keeps.jtag (h : o.Keeps s) {op} : o.Keeps (s.jtag op) := by
  unfold State.jtag
  refine h.ite ?_
  split
  · exact h
  · exact h
  · exact h
  · exact h.idcode.upd
  · exact h.setCore.ite h
  · exact h.setCore.ite h
  · exact h.upd
  · exact h.setCore.ite h
  · exact h.rawenWrite
  · exact h.regRead.upd

theorem State.Keeps.done {old new t : State} (h : o.Keeps new) (e : done old new = .next t) : o.Keeps t := by
  exact Host.Outcome.next.inj e ▸ h.settle

end

/-! ### The commands -/

/-- Every command keeps it: each is a chain of the operations above, ended by `done`. -/
theorem exec_keeps {i : Instr} {s t : State} (e : exec i s = .next t) : s.Keeps t := by
  have h : s.Keeps s := .refl
  cases i with
  | powerOn => exact h.powerOn.done e
  | brownOut => exact h.brownOut.done e
  | supplyDip => exact h.supplyDip.done e
  | resetPin => exact h.resetPin.done e
  | pllLockLoss => exact h.clockLoss.done e
  | referenceAbsent => exact h.clockLoss.done e
  | dawnStart => exact h.dawnStart.done e
  | dawnIdentityCheck => exact h.identityCheck.done e
  | rollCall => exact h.advance.rollCall.done e
  | rollCallTimeout => exact h.advance.rollTimeout.done e
  | dawnTimeout => exact h.advance.dawnTimeout.done e
  | modeRequestNight => exact h.askMode.done e
  | modeRequestDawn => exact h.askMode.done e
  | modeRequestPrepare => exact h.askMode.done e
  | modeRequestRun => exact h.askMode.done e
  | modeRequestHold => exact h.askMode.done e
  | modeRequestSafe => exact h.askMode.done e
  | modeRequestService => exact h.askMode.done e
  | modeRequestLockout => exact h.askMode.done e
  | staffClear => exact (h.askMode.ite h).done e
  | modeTransition => exact h.modeTransition.done e
  | nightWakeoutLow => exact h.wakeoutLow.done e
  | coreRelease => exact h.request.done e
  | coreHalt => exact h.request.done e
  | clkobsWrite => exact h.request.done e
  | registerWrite => exact h.writeN.done e
  | rcFieldRead => exact h.requestRead.done e
  | latchedRead => exact h.requestRead.done e
  | channelModeWrite => exact h.request.done e
  | channelClear => exact h.requestFld.done e
  | quadStep => exact h.quadEvent.done e
  | indexEdge => exact h.indexEvent.done e
  | indexArm => exact h.requestFld.done e
  | wireBreak => exact h.wireBreak.done e
  | invalidEpisodeEnd => exact h.episodeEnd.done e
  | channelSyncComplete => exact h.syncComplete.done e
  | frameRequest => exact h.frameRequest.done e
  | encoderFrame => exact h.frameEvent.done e
  | sincosSample => exact h.sincosEvent.done e
  | mainsCrossing => exact h.mainsCrossing.done e
  | mainsLoss => exact h.advance.mainsLoss.done e
  | mainsEnable => exact h.requestFld.done e
  | mainsDisable => exact h.requestFld.done e
  | tbSet => exact h.request.done e
  | tbAccept => exact h.request.done e
  | tbShift => exact h.request.done e
  | tbUnref => exact h.request.done e
  | tbSwitchb => exact h.request.done e
  | tbSwitchd => exact h.request.done e
  | timebaseCommandEffect => exact h.tbEffect.done e
  | tbcfgKindWrite => exact h.request.done e
  | tbmodWrite => exact h.request.done e
  | tbgdenWrite => exact h.request.done e
  | tbsynvelWrite => exact h.request.done e
  | wadjWrite => exact h.request.done e
  | wstephWrite => exact h.request.done e
  | wallctlWrite => exact h.request.done e
  | standstill => exact h.advance.standstill.done e
  | extrapolationStale => exact h.advance.stale.done e
  | capcmdGo => exact h.request.done e
  | capfreeWrite => exact h.request.done e
  | arm => exact (h.instr fun hk => hk.armOp).done e
  | ttnewgo => exact h.request.done e
  | disarm => exact h.request.done e
  | crossing => exact h.advance.detect.done e
  | outputEdge => exact (h.advance.landGen.ite h.advance.landLine).done e
  | compareFault => exact h.compareFault.done e
  | fineDelayFault => exact h.fineDelayFault.done e
  | latentDivergence => exact h.latent.done e
  | ttinj => exact h.request.done e
  | ttmembaseWrite => exact h.request.done e
  | ttresvWrite => exact h.request.done e
  | qcmdBind => exact h.request.done e
  | qcmdStart => exact h.request.done e
  | qcmdStop => exact h.request.done e
  | qcmdFlush => exact h.request.done e
  | qcmdUnbind => exact h.request.done e
  | qcmdDrop => exact h.request.done e
  | qtailWrite => exact h.request.done e
  | refill => exact h.refill.done e
  | prefetchComplete => exact h.fetchDone.done e
  | reportPosted => exact h.reportPosted.done e
  | evsetRegisterWrite => exact h.request.done e
  | evclrRegisterWrite => exact h.request.done e
  | evtogRegisterWrite => exact h.request.done e
  | evcfgWrite => exact h.request.done e
  | forceWrite => exact h.request.done e
  | ptrateWrite => exact h.request.done e
  | ptctlGo => exact h.request.done e
  | ptctlStop => exact h.request.done e
  | pulseTrainDone => exact h.ptDone.done e
  | dirsuElapsed => exact h.advance.dirsuDone.done e
  | pwmperWrite => exact h.request.done e
  | pwmdutyWrite => exact h.request.done e
  | sdcodeWrite => exact h.request.done e
  | pinfnWrite => exact h.request.done e
  | pinFunctionSwitch => exact h.pinSwitchAt.done e
  | pinbankWrite => exact h.request.done e
  | bankSupplyMismatch => exact h.bankSupply.done e
  | lit => exact (h.instr fun hk => hk.stackOp).done e
  | litx => exact (h.instr fun hk => hk.unary).done e
  | beq => exact (h.instr fun hk => hk.branch).done e
  | bne => exact (h.instr fun hk => hk.branch).done e
  | blt => exact (h.instr fun hk => hk.branch).done e
  | bge => exact (h.instr fun hk => hk.branch).done e
  | bltu => exact (h.instr fun hk => hk.branch).done e
  | bgeu => exact (h.instr fun hk => hk.branch).done e
  | bgt => exact (h.instr fun hk => hk.branch).done e
  | ble => exact (h.instr fun hk => hk.branch).done e
  | bz => exact (h.instr fun hk => hk.branch).done e
  | bnz => exact (h.instr fun hk => hk.branch).done e
  | bltz => exact (h.instr fun hk => hk.branch).done e
  | bgez => exact (h.instr fun hk => hk.branch).done e
  | bgtz => exact (h.instr fun hk => hk.branch).done e
  | blez => exact (h.instr fun hk => hk.branch).done e
  | bodd => exact (h.instr fun hk => hk.branch).done e
  | beven => exact (h.instr fun hk => hk.branch).done e
  | jmp => exact (h.instr fun hk => hk.setPc.ok).done e
  | call => exact (h.instr fun hk => hk.prepare.bind fun hk => hk.push.setPc.ok).done e
  | loop => exact (h.instr fun hk => hk.loopOp).done e
  | nop => exact (h.instr fun hk => hk.stackOp).done e
  | dup => exact (h.instr fun hk => hk.stackOp).done e
  | drop => exact (h.instr fun hk => hk.stackOp).done e
  | swap => exact (h.instr fun hk => hk.stackOp).done e
  | rot => exact (h.instr fun hk => hk.stackOp).done e
  | nip => exact (h.instr fun hk => hk.stackOp).done e
  | tuck => exact (h.instr fun hk => hk.stackOp).done e
  | dup2 => exact (h.instr fun hk => hk.stackOp).done e
  | drop2 => exact (h.instr fun hk => hk.stackOp).done e
  | tor => exact (h.instr fun hk => hk.torOp).done e
  | fromr => exact (h.instr fun hk => hk.fromrOp).done e
  | rfetch => exact (h.instr fun hk => hk.fromrOp).done e
  | rdrop => exact (h.instr fun hk => hk.prepare.bind fun hk => hk.popN.ok).done e
  | add => exact (h.instr fun hk => hk.binary).done e
  | sub => exact (h.instr fun hk => hk.binary).done e
  | and => exact (h.instr fun hk => hk.binary).done e
  | or => exact (h.instr fun hk => hk.binary).done e
  | xor => exact (h.instr fun hk => hk.binary).done e
  | not => exact (h.instr fun hk => hk.unary).done e
  | neg => exact (h.instr fun hk => hk.unary).done e
  | shl => exact (h.instr fun hk => hk.binary).done e
  | shr => exact (h.instr fun hk => hk.binary).done e
  | sar => exact (h.instr fun hk => hk.binary).done e
  | adds => exact (h.instr fun hk => hk.saturating).done e
  | subs => exact (h.instr fun hk => hk.saturating).done e
  | negs => exact (h.instr fun hk => hk.saturating).done e
  | abs => exact (h.instr fun hk => hk.unary).done e
  | abss => exact (h.instr fun hk => hk.saturating).done e
  | min => exact (h.instr fun hk => hk.binary).done e
  | max => exact (h.instr fun hk => hk.binary).done e
  | minu => exact (h.instr fun hk => hk.binary).done e
  | maxu => exact (h.instr fun hk => hk.binary).done e
  | sext8 => exact (h.instr fun hk => hk.unary).done e
  | sext16 => exact (h.instr fun hk => hk.unary).done e
  | zext8 => exact (h.instr fun hk => hk.unary).done e
  | zext16 => exact (h.instr fun hk => hk.unary).done e
  | clz => exact (h.instr fun hk => hk.unary).done e
  | slt => exact (h.instr fun hk => hk.binary).done e
  | sltu => exact (h.instr fun hk => hk.binary).done e
  | sat16 => exact (h.instr fun hk => hk.saturating).done e
  | mul => exact (h.instr fun hk => hk.binary).done e
  | mulhs => exact (h.instr fun hk => hk.binary).done e
  | mulhu => exact (h.instr fun hk => hk.binary).done e
  | mulq => exact (h.instr fun hk => hk.mulqOp).done e
  | div => exact (h.instrB fun hk => hk.divide).done e
  | divu => exact (h.instrB fun hk => hk.divide).done e
  | rem => exact (h.instrB fun hk => hk.divide).done e
  | remu => exact (h.instrB fun hk => hk.divide).done e
  | xchg => exact (h.instr fun hk => hk.xchgOp).done e
  | cas => exact (h.instr fun hk => hk.casOp).done e
  | fence => exact (h.instr fun hk => hk.fenceOp.ok).done e
  | ret => exact (h.instr fun hk => hk.popTarget fun hk => hk.popN.setPc.ok).done e
  | jmpi => exact (h.instr fun hk => hk.popTarget fun hk => hk.popN.setPc.ok).done e
  | calli => exact (h.instr fun hk => hk.calliOp).done e
  | gate => exact (h.instr fun hk => hk.gate).done e
  | gret => exact (h.instr fun hk => hk.gret).done e
  | retw => exact (h.instr fun hk => hk.retw).done e
  | retf => exact (h.instr fun hk => hk.retf).done e
  | reti => exact (h.instr fun hk => hk.reti).done e
  | endl => exact (h.instr fun hk => hk.lessonEnd.ok.ite hk.bad).done e
  | wait => exact (h.instr fun hk => hk.waitOp).done e
  | brk => exact (h.debugStop.ite (h.instr fun hk => hk.bad)).done e
  | pick => exact (h.instr fun hk => hk.pickOp).done e
  | addi => exact (h.instr fun hk => hk.unary).done e
  | shli => exact (h.instr fun hk => hk.unary).done e
  | shri => exact (h.instr fun hk => hk.unary).done e
  | sari => exact (h.instr fun hk => hk.unary).done e
  | rori => exact (h.instr fun hk => hk.unary).done e
  | ext8 => exact (h.instr fun hk => hk.extOp).done e
  | ext16 => exact (h.instr fun hk => hk.extOp).done e
  | ext32 => exact (h.instr fun hk => hk.extOp).done e
  | rsr => exact (h.instr fun hk => hk.rsr).done e
  | wsr => exact (h.instr fun hk => hk.wsr).done e
  | wsrStackPointer => exact (h.instr fun hk => hk.wsrPointer).done e
  | wsrStackBound => exact (h.instr fun hk => hk.wsrBound).done e
  | wsrStw => exact (h.instr fun hk => hk.wsrStw).done e
  | ldSigned => exact (h.instr fun hk => hk.ldOp).done e
  | ldZero => exact (h.instr fun hk => hk.ldOp).done e
  | st => exact (h.instr fun hk => hk.stOp).done e
  | ldxSigned => exact (h.instr fun hk => hk.ldxOp).done e
  | ldxZero => exact (h.instr fun hk => hk.ldxOp).done e
  | stx => exact (h.instr fun hk => hk.stxOp).done e
  | mac => exact (h.instr fun hk => hk.macPair).done e
  | msu => exact (h.instr fun hk => hk.macPair).done e
  | maci => exact (h.instr fun hk => hk.macPair).done e
  | msui => exact (h.instr fun hk => hk.macPair).done e
  | macn => exact (h.instrB fun hk => hk.macn).done e
  | msun => exact (h.instrB fun hk => hk.macn).done e
  | macni => exact (h.instrB fun hk => hk.macn).done e
  | msuni => exact (h.instrB fun hk => hk.macn).done e
  | clra => exact (h.instr fun hk => hk.accOp).done e
  | macs => exact (h.instr fun hk => hk.accOp).done e
  | msus => exact (h.instr fun hk => hk.accOp).done e
  | macsi => exact (h.instr fun hk => hk.accOp).done e
  | msusi => exact (h.instr fun hk => hk.accOp).done e
  | mpys => exact (h.instr fun hk => hk.accOp).done e
  | mpysi => exact (h.instr fun hk => hk.accOp).done e
  | adda => exact (h.instr fun hk => hk.accOp).done e
  | addal => exact (h.instr fun hk => hk.accOp).done e
  | nega => exact (h.instr fun hk => hk.accOp).done e
  | lda => exact (h.instr fun hk => hk.accOp).done e
  | asla => exact (h.instr fun hk => hk.accOp).done e
  | asra => exact (h.instr fun hk => hk.accOp).done e
  | illegalOpcode => exact (h.instr fun hk => hk.bad).done e
  | reservedCode => exact (h.instr fun hk => hk.reserved).done e
  | storeBufferDrain => exact h.sbPort.done e
  | busTransfer => exact h.busTransfer.done e
  | fetchLineArrival => exact h.lineArrives.done e
  | estopNFall => exact h.estopFall.done e
  | estopcfgWrite => exact h.request.done e
  | regionWrite => exact h.request.done e
  | irqcfgWrite => exact h.request.done e
  | pendsetWrite => exact h.request.done e
  | pendclrWrite => exact h.request.done e
  | ensetWrite => exact h.request.done e
  | enclrWrite => exact h.request.done e
  | interruptEntry => exact h.interruptEntry.done e
  | lessonEntry => exact h.lessonEntry.done e
  | nmiEntry => exact h.nmiEntry.done e
  | lessonTimeLimit => exact h.lessonLimit.done e
  | mramReadComplete => exact h.mramRead.done e
  | mramProgramComplete => exact h.mramProgram.done e
  | scrubRead => exact h.scrubRead.done e
  | mrscrubWrite => exact h.request.done e
  | lineOpen => exact h.request.done e
  | lineClose => exact h.request.done e
  | lineZero => exact h.request.done e
  | linkDown => exact h.linkDown.done e
  | linkUp => exact h.linkUp.done e
  | encmdRoll => exact h.request.done e
  | encmdClrcnt => exact h.request.done e
  | join => exact h.advance.joinRing.done e
  | enwardCycle => exact h.advance.enwardCycle.done e
  | publicationReceived => exact h.advance.pubReceived.done e
  | ageFault => exact h.advance.ageFault.done e
  | messageReceived => exact h.advance.enMessage.done e
  | forecastReceived => exact h.advance.fcReceived.done e
  | forecastArm => exact h.advance.fcArmPoint.done e
  | retractReceived => exact h.advance.fcRetracts.done e
  | confirmReceived => exact h.advance.fcConfirms.done e
  | forecastExpired => exact h.advance.fcExpired.done e
  | enwardLost => exact h.advance.enLost.done e
  | entxgo => exact h.request.done e
  | enrx3Read => exact h.requestRead.done e
  | rcctlGo => exact h.request.done e
  | rcctlStop => exact h.request.done e
  | rcctlFlushtx => exact h.request.done e
  | rcctlFlushrx => exact h.request.done e
  | rctxWrite => exact h.request.done e
  | rcrxRead => exact h.requestRead.done e
  | rccodeWrite => exact h.request.done e
  | rcDrive => exact h.rcDriveOp.done e
  | rcEnable => exact h.rcDriveOp.done e
  | rcDelay => exact h.rcDelay.done e
  | rcWaitl => exact h.rcWaitl.done e
  | rcWaitlMet => exact h.rcWaitMet.done e
  | rcWaitlTimeout => exact h.rcTimeout.done e
  | rcSample => exact h.rcSample.done e
  | rcPut => exact h.rcPut.done e
  | rcPutResume => exact h.rcPutResume.done e
  | rcGet => exact h.rcGet.done e
  | rcGetResume => exact h.rcGetResume.done e
  | rcOutd => exact h.rcOutd.done e
  | rcCntLoad => exact h.rcCnt.done e
  | rcCntStart => exact h.rcCnt.done e
  | rcCntStop => exact h.rcCnt.done e
  | rcCntRead => exact h.rcCnt.done e
  | rcDjnz => exact h.rcDjnz.done e
  | rcJmp => exact h.rcJmp.done e
  | rcJif => exact h.rcJif.done e
  | rcJeq => exact h.rcJeq.done e
  | rcLdi => exact h.rcLdi.done e
  | rcIrq => exact h.rcIrq.done e
  | rcHalt => exact h.rcHalt.done e
  | utxWrite => exact h.request.done e
  | urxRead => exact h.requestRead.done e
  | uartEnable => exact h.requestFld.done e
  | txbrk => exact h.requestFld.done e
  | uartFlushrx => exact h.requestFld.done e
  | uartFlushtx => exact h.requestFld.done e
  | uartCharacterReceived => exact h.advance.uartReceived.done e
  | uartFrameTransmit => exact h.advance.uartSend.done e
  | ctsNChange => exact h.uartCts.done e
  | uartIdleTimeout => exact h.advance.uartIdle.done e
  | scanCycle => exact h.advance.scanCycle.done e
  | attendanceEnable => exact h.request.done e
  | clrflt => exact h.requestFld.done e
  | aoutWrite => exact h.request.done e
  | aosetWrite => exact h.request.done e
  | aoclrWrite => exact h.request.done e
  | transmitFrame => exact h.advance.macTransmit.done e
  | receivedFrame => exact h.advance.macReceive.done e
  | mdioGo => exact h.request.done e
  | mdioDone => exact h.mdioDone.done e
  | ptpadjWrite => exact h.request.done e
  | ptpstepWrite => exact h.request.done e
  | spiFrame => exact h.spiFrame.done e
  | uartFormRequest => exact h.uartRequest.done e
  | staffNop => exact h.staffSend.done e
  | staffRead => exact h.staffSend.done e
  | staffWrite => exact h.staffSend.done e
  | openSession => exact h.staffCmd.done e
  | nonceDrawn => exact h.nonceDrawn.done e
  | prove => exact h.staffCmd.done e
  | closeSession => exact h.staffCmd.done e
  | snap => exact h.staffCmd.done e
  | challengeExpired => exact h.advance.challengeExpired.done e
  | sessionIdle => exact h.advance.sessionIdle.done e
  | lockoutExpired => exact h.lockoutExpired.done e
  | windowReadStart => exact h.staffSend.done e
  | windatahRead => exact h.staffSend.done e
  | windowWriteStart => exact h.staffSend.done e
  | windowAccessComplete => exact h.winComplete.done e
  | snapshotRefresh => exact h.advance.snapshotRefresh.done e
  | snapctlNow => exact h.requestFld.done e
  | logbookEntry => exact h.logProgram.done e
  | attest => exact h.staffCmd.done e
  | attestComplete => exact h.attestComplete.done e
  | attrec => exact h.staffCmd.done e
  | idpub => exact h.staffCmd.done e
  | certrd => exact h.staffCmd.done e
  | enroll => exact h.staffCmd.done e
  | certwr => exact h.staffCmd.done e
  | certseal => exact h.staffCmd.done e
  | setkey => exact h.staffCmd.done e
  | genkey => exact h.staffCmd.done e
  | erasekey => exact h.staffCmd.done e
  | idkill => exact h.staffCmd.done e
  | keycmdSet => exact h.request.done e
  | keycmdGen => exact h.request.done e
  | keycmdErase => exact h.request.done e
  | aesEncryptGo => exact h.request.done e
  | aesDecryptGo => exact h.request.done e
  | cmacStart => exact h.request.done e
  | cmacUpdate => exact h.request.done e
  | cmacFinal => exact h.request.done e
  | cryptoDone => exact h.cryptoDone.done e
  | sourceStartupPass => exact h.sourcePass.done e
  | sourceHealthFail => exact h.sourceFail.done e
  | drbgInstantiate => exact h.drbgInstantiate.done e
  | drbgReseed => exact h.advance.drbgReseed.done e
  | drbgoutRead => exact h.requestRead.done e
  | drbgRefill => exact h.drbgRefill.done e
  | rawenWrite => exact h.request.done e
  | hmReset => exact h.hallReset.done e
  | hmTick => exact h.hallTick.done e
  | hmEvaluation => exact h.hallEvaluate.wakeUp.done e
  | watchStrobe => exact h.watchStrobe.done e
  | inputSample => exact h.inputSample.done e
  | measurement => exact h.measure.done e
  | hmWriteApply => exact h.hallApply.done e
  | hmalarmClear => exact h.request.done e
  | hmlockSet => exact h.request.done e
  | hmCrystalStop => exact h.crystal.done e
  | divergence => exact h.divergence.done e
  | pairRestart => exact h.pairRestart.done e
  | pairinj => exact h.request.done e
  | wdkick => exact h.request.done e
  | watchdogExpiry => exact h.advance.watchdogExpiry.done e
  | watchdogStage2 => exact h.advance.watchdogStage2.done e
  | gThirdFaultRestart => exact h.gThirdRestart.done e
  | gpolicyWrite => exact h.request.done e
  | safetest => exact h.request.done e
  | safetestComplete => exact h.safetestDone.done e
  | pinEpochBoundary => exact h.boundary.done e
  | pulseTrainStep => exact h.advance.genStep.done e
  | pwmPeriodStart => exact h.advance.pwmPeriod.done e
  | estopNRise => exact h.estopRise.done e
  | svcreqNChange => exact h.svcreq.done e
  | supplyDipEnd => exact h.supplyDipEnd.done e
  | hmCrystalStart => exact h.crystal.done e
  | vbatGood => exact h.vbatGood.done e
  | uartFrameEnd => exact h.advance.uartFrameEnd.done e
  | uartBreakEnd => exact h.uartBreakEnd.done e
  | uartFormGapTimeout => exact h.gapTimeout.done e
  | jtagInstruction => exact h.jtag.done e
  | _ =>
    -- OVER, whose constructor has the name of a token of Lean, so that no alternative can give it
    exact (h.instr fun hk => hk.stackOp).done e

/-- Settles O60: the command at the front of the queue leaves it with the rest of the queue, and keeps the rest of the invariant. -/
theorem stepKeepsInv : Obligations.StepKeepsInv := by
  intro s t ⟨hwf, hlog⟩ hs
  unfold step at hs
  split at hs
  next hp =>
    cases hs
    exact ⟨⟨hwf, hlog⟩, by simp [hp], rfl⟩
  next c rest hp =>
    have k := exec_keeps hs
    exact ⟨⟨k.memWf hwf, k.logBound hlog⟩, by rw [k.pendingEq, hp]; rfl, k.variantEq⟩

end Sys2Proof.Machine
end

section
/-! PROOF of O26: a refutation. The statement speaks of every state, and so of one whose channel holds a fraction of a count that
does not fit the eight bits of PCCOUNTH.FRAC: the word that the model composes of it has a bit in no field of the register, which a
read of the latched half leaves out (R9). -/

namespace Sys2Proof.Machine

/-- Channel 0 has a fraction of 256; the Staff session is open, so the window reaches the channel's registers. The model itself only
ever stores fractions below 256 (`sincosPos`), but nothing that the statement asks of a state says so. -/
def State.wideFraction : State :=
  { State.reset with
    chans := [(0, { Channel.reset with frac := 256 })]
    staff := { Staff.reset with sess := .opened } }

theorem State.wideFraction_inv : State.wideFraction.Inv := by
  refine ⟨?_, ?_⟩ <;> decide

theorem State.wideFraction_reachesRead : State.wideFraction.ReachesRead .staff (R.PCCOUNTL 0) := by
  refine ⟨?_, ?_, ?_⟩ <;> decide

/-- The high half before the read has the fraction's ninth bit in bit 16. -/
theorem State.wideFraction_live : State.wideFraction.live 5 (R.PCCOUNTH 0) = 0x10000 := by decide

/-- After the read of the low half, the Staff port reads 0 in the high half. -/
theorem State.wideFraction_look :
    (settle .wideFraction (State.wideFraction.requestRead .staff (R.PCCOUNTL 0))).look 5 (R.PCCOUNTH 0) = 0 := by decide

/-- Refutes O26: in `State.wideFraction` the half that the read of PCCOUNTL latches is not the live PCCOUNTH, whose bit
16 no field holds. -/
theorem not_registersFollowTheirTypes : ¬ Obligations.RegistersFollowTheirTypes := by
  intro h
  obtain ⟨-, -, -, -, -, -, -, hlatch, -⟩ := h .wideFraction .staff 0
  obtain ⟨t, e, -, hlook⟩ := hlatch _ _ (.count 0 (by decide)) State.wideFraction_reachesRead
  have ht : t.look 5 (R.PCCOUNTH 0) = 0 := Host.Outcome.next.inj e ▸ State.wideFraction_look
  have hlive : t.look 5 (R.PCCOUNTH 0) = 0x10000 := hlook.trans State.wideFraction_live
  exact absurd (ht.symm.trans hlive) (by decide)

end Sys2Proof.Machine
end

section
/-! PROOF of O36: a refutation. The statement speaks of every state, and so of one whose action on its way belongs to a record of a queue
that the block does not have (it has 16). When its status settles, the model counts the failure in the QFAIL of that queue (R162), at an
address that the output unit has for an event line's EVCFG, which no boundary may change. -/

namespace Sys2Proof.Machine

/-- QFAIL of a queue 1024 would lie where EVCFG of event line 8 does. -/
theorem qfail_1024_eq_evcfg_8 : R.QFAIL 1024 = R.EVCFG 8 := rfl

/-- The clocks run, one edge before a boundary at which slot 0's BELL reaches core 0. That core is not released, so the request is refused;
the record that fired stands in queue 1024, listed as RUNNING. A slot's queue is one of 16 wherever the model itself sends an action
(`State.recordIn`), but nothing that the statement asks of a state says so. -/
def State.strayQueue : State :=
  { State.reset with
    clocks := true
    now := 7
    slots := [(0, { Slot.reset with status := 2 })]
    queues := [(1024, { Queue.reset with state := .running })]
    acts := [{ slot := 0, due := 8, queue := some (1024, 0)
               op := .bell 0 { slot := 0, tagw := 0, entry := 0, guard := true, word := 0, time := 0 } }] }

theorem State.strayQueue_inv : State.strayQueue.Inv := by
  refine ⟨?_, ?_⟩ <;> decide

/-- EVCFG of line 8 reads 0 before the boundary. -/
theorem State.strayQueue_evcfg : State.strayQueue.rd (R.EVCFG 8) = 0 := by decide

set_option maxRecDepth 4000 in
/-- The boundary counts the refused BELL in QFAIL of queue 1024. -/
theorem State.strayQueue_boundary_qfail :
    (settle .strayQueue State.strayQueue.boundary).rd (R.QFAIL 1024) = 1 := by decide

/-- Refutes O36: the boundary that follows `State.strayQueue` counts a failure of queue 1024, and with it changes EVCFG of event line 8. -/
theorem not_capturesAndBoundaries : ¬ Obligations.CapturesAndBoundaries := by
  intro h
  obtain ⟨-, -, -, hboundary⟩ := h .strayQueue .staff
  obtain ⟨t, e, -, -, hcfg, -⟩ := hboundary rfl
  have kept : t.rd (R.EVCFG 8) = 0 := (hcfg 8 (by decide)).1.trans State.strayQueue_evcfg
  have counted : t.rd (R.QFAIL 1024) = 1 := Host.Outcome.next.inj e ▸ State.strayQueue_boundary_qfail
  rw [qfail_1024_eq_evcfg_8, kept] at counted
  exact absurd counted (by decide)

end Sys2Proof.Machine
end

section
/-! PROOF of O59. The state after a power-on reset, one lemma for each part of the block. -/

namespace Sys2Proof.Machine

/-- No memory is listed, and the Logbook's buffer holds the entry of the reset alone. -/
theorem State.reset_inv : State.reset.Inv := ⟨rfl, by decide⟩

/-- Registers at their Reset columns, but for the causes that the two resets set (R46, R467). -/
theorem State.reset_registers :
    let s := State.reset
    s.fld R.RSTCAUSE R.RSTCAUSE_CAUSE = 1 ∧ s.fld R.RSTCAUSE R.RSTCAUSE_LAST = 0 ∧ s.fld R.CORERUN R.CORERUN_RUN = 0 ∧
      s.rd R.GPOLICY = 0x31 ∧ (s.rd R.HMALARM).getLsbD 16 = true ∧ s.fld R.SNAPCTL R.SNAPCTL_PER = 10 ∧
      s.rd R.DEVID = 0x4816 ∧ s.fld R.RNGCUT R.RNGCUT_RCT = 41 ∧ s.fld R.RNGCUT R.RNGCUT_APT = 800 := by
  and_intros <;> decide

/-- No core runs: the clocks stand still, and none has been released. -/
theorem State.reset_core_idle (l : Nat) :
    (State.reset.core l).started = false ∧ (State.reset.core l).sb = [] ∧ State.reset.runs l = false := ⟨rfl, rfl, rfl⟩

/-- No timebase, slot or queue is listed, so each is as its own reset leaves it. -/
theorem State.reset_tb_off (i : Nat) : (State.reset.tb i).state = .off := rfl
theorem State.reset_slot_free (i : Nat) : (State.reset.slot i).a.state = 0 := rfl
theorem State.reset_queue_off (q : Nat) : (State.reset.queue q).state = .off := rfl

/-- Every event line is held in its safe state. -/
theorem State.reset_lines_safed : ∀ l, l < 64 → (State.reset.line l).safed = true := by decide

/-- R444: every slot of the secret store is EMPTY. -/
theorem State.reset_keys_empty : ∀ k, k < 7 → (State.reset.key k).state = .empty := by decide

/-- Settles O59, part by part of the block. -/
theorem resetState : Obligations.ResetState := by
  obtain ⟨cause, last, run, policy, por, per, devid, rct, apt⟩ := State.reset_registers
  exact ⟨State.reset_inv, rfl, rfl, rfl, rfl, rfl, cause, last, run, policy, por, per, devid, rct, apt,
    rfl, rfl, rfl, rfl, rfl, rfl, rfl, fun l _ => State.reset_core_idle l,
    fun i _ => ⟨State.reset_tb_off i, State.reset_slot_free i⟩, fun q _ => State.reset_queue_off q,
    State.reset_lines_safed, State.reset_keys_empty, rfl⟩

end Sys2Proof.Machine
end

section
/-! SUPPORT. What a command changes beside its own change: the interrupts that `settle` raises, as a change of registers alone. -/

namespace Sys2Proof.Machine

/-! ### Changes that are confined to some parts of the state -/

/-- Some parts of the state, the registers among them: `upd t s` takes those parts of `t`, and the others of `s`. -/
structure Frame where
  upd   : State → State → State
  self  : ∀ s, upd s s = s
  twice : ∀ s t u, upd u (upd t s) = upd u s
  regs  : ∀ s r, upd { s with regs := r } s = { s with regs := r }

/-- From `s` to `t` only the parts of the frame have changed, and registers only at addresses that `p` holds of. -/
def Frame.Only (Φ : Frame) (p : Nat → Prop) (s t : State) : Prop := t = Φ.upd t s ∧ ∀ a, ¬p a → t.regs.find a = s.regs.find a

/-- Every part of the frame `Φ` is one of `Ψ`. -/
def Frame.le (Φ Ψ : Frame) : Prop := ∀ s t, t = Φ.upd t s → t = Ψ.upd t s

section
variable {Φ Ψ : Frame} {p q : Nat → Prop} {o s t : State}

theorem Frame.Only.refl : Φ.Only p s s := ⟨(Φ.self s).symm, fun _ _ => rfl⟩

theorem Frame.Only.trans (h : Φ.Only p o s) (k : Φ.Only p s t) : Φ.Only p o t := by
  obtain ⟨hs, hr⟩ := h
  obtain ⟨ks, kr⟩ := k
  refine ⟨?_, fun a ha => (kr a ha).trans (hr a ha)⟩
  calc t = Φ.upd t s := ks
    _ = Φ.upd t (Φ.upd s o) := by rw [← hs]
    _ = Φ.upd t o := Φ.twice o s t

theorem Frame.Only.mono (h : Φ.Only p s t) (hpq : ∀ a, p a → q a) : Φ.Only q s t := ⟨h.1, fun a ha => h.2 a (fun k => ha (hpq a k))⟩

theorem Frame.Only.within (h : Φ.Only p s t) (k : Φ.le Ψ) : Ψ.Only p s t := ⟨k s t h.1, h.2⟩

/-- An update of parts of the frame, none of them a register. -/
theorem Frame.Only.put (h : Φ.Only p o s) (e : t = Φ.upd t s) (hr : t.regs = s.regs) : Φ.Only p o t :=
  h.trans ⟨e, fun a _ => congrArg (fun r => Tab.find r a) hr⟩

/-- What does not look at the parts of the frame is unchanged. -/
theorem Frame.Only.keep (h : Φ.Only p s t) {α : Type} (g : State → α) (hg : ∀ t, g (Φ.upd t s) = g s) : g t = g s :=
  (congrArg g h.1).trans (hg t)

theorem Frame.Only.rd (h : Φ.Only p s t) {a : Nat} (ha : ¬p a) : t.rd a = s.rd a := by
  simp [State.rd, Tab.get, h.2 a ha]

theorem Frame.Only.fld (h : Φ.Only p s t) {a : Nat} (f : F) (ha : ¬p a) : t.fld a f = s.fld a f := by
  simp [State.fld, h.rd ha]

theorem Frame.Only.wr (h : Φ.Only p o s) {a : Nat} (v : Word) (ha : p a) : Φ.Only p o (s.wr a v) := by
  refine h.trans ⟨(Φ.regs s _).symm, fun b hb => Tab.find_put_ne _ _ ?_⟩
  rintro rfl
  exact hb ha

theorem Frame.Only.setFld (h : Φ.Only p o s) {a : Nat} (f : F) (x : Nat) (ha : p a) : Φ.Only p o (s.setFld a f x) :=
  h.wr _ ha

theorem Frame.Only.count (h : Φ.Only p o s) {a : Nat} (f : F) (n : Nat) (ha : p a) : Φ.Only p o (s.count a f n) :=
  h.setFld _ _ ha

theorem Frame.Only.ite (c : Prop) [Decidable c] (hs : Φ.Only p o s) (ht : Φ.Only p o t) :
    Φ.Only p o (if c then s else t) := by
  split
  · exact hs
  · exact ht

theorem Frame.Only.foldl {α : Type} {f : State → α → State} {l : List α}
    (hf : ∀ s, ∀ x ∈ l, Φ.Only p o s → Φ.Only p o (f s x)) (h : Φ.Only p o s) :
    Φ.Only p o (l.foldl f s) := by
  induction l generalizing s with
  | nil => exact h
  | cons x l ih =>
    exact ih (fun s y hy => hf s y (List.mem_cons_of_mem x hy)) (hf s x List.mem_cons_self h)

theorem Frame.Only.arrive (h : Φ.Only p o s) {n : Nat} (hn : p (R.IRQCNT n)) (hl : p R.IRQLOST) :
    Φ.Only p o (s.arrive n) := by
  unfold State.arrive
  exact .ite _ (.ite _ (h.setFld _ _ hn) ((h.setFld _ _ hn).count _ _ hl)) h

end

/-- The registers. -/
def Frame.onRegs : Frame where
  upd t s := { s with regs := t.regs }
  self _ := rfl
  twice _ _ _ := rfl
  regs _ _ := rfl

/-- From `s` to `t` registers alone have changed, and only at addresses that `p` holds of. -/
abbrev State.RegsAt (p : Nat → Prop) (s t : State) : Prop := Frame.onRegs.Only p s t

theorem Frame.onRegs_le (Φ : Frame) : Frame.onRegs.le Φ := by
  intro s t e
  have h := Φ.regs s t.regs
  change Φ.upd (Frame.onRegs.upd t s) s = Frame.onRegs.upd t s at h
  rw [← e] at h
  exact h.symm

/-- A change of registers alone stays within every frame. -/
theorem Frame.Only.regsAt {Φ : Frame} {p : Nat → Prop} {o s t : State} (h : Φ.Only p o s) (k : State.RegsAt p s t) : Φ.Only p o t :=
  h.trans (k.within Φ.onRegs_le)

/-! ### What `settle` raises -/

/-- The interrupts that a change as a whole raises: FLTSUMI (R502) and SHOPHELD (R313), with IRQLOST. -/
def settleReg (a : Nat) : Prop := a = R.IRQCNT 0xF0 ∨ (∃ l, l < 5 ∧ a = R.IRQCNT (0xB0 + l)) ∨ a = R.IRQLOST

theorem raised_iff (u t : State) : Raised u t ↔ State.RegsAt settleReg u t := by
  simp only [Raised, Frame.Only, Frame.onRegs, settleReg, not_or, not_exists, not_and]
  grind

theorem regsAt_settle (old new : State) : State.RegsAt settleReg new (settle old new) := by
  unfold settle
  refine .foldl (fun s l hl h => ?_) (.foldl (fun s n hn h => ?_) .refl)
  · have hl5 : l < 5 := by simpa using (mem_upFrom.1 hl).2
    exact .ite _ (h.arrive (.inr (.inl ⟨l, hl5, rfl⟩)) (.inr (.inr rfl))) h
  · rw [List.eq_of_mem_replicate hn]
    exact h.arrive (.inl rfl) (.inr (.inr rfl))

theorem raised_settle (old new : State) : Raised new (settle old new) := (raised_iff _ _).2 (regsAt_settle old new)

/-- The address of no register that `settle` writes. -/
@[reducible] def offIrq (a : Nat) : Prop := a < 0x400506C0 ∨ 0x400508C4 < a


theorem offIrq.not_settleReg {a : Nat} (h : offIrq a) : ¬settleReg a := by
  unfold offIrq at h
  unfold settleReg
  rintro (rfl | ⟨l, hl, rfl⟩ | rfl)
  · simp only [R.IRQCNT] at h; omega
  · simp only [R.IRQCNT] at h; omega
  · simp only [R.IRQLOST] at h; omega

theorem Raised.rd {u t : State} (h : Raised u t) {a : Nat} (ha : offIrq a) : t.rd a = u.rd a :=
  ((raised_iff u t).1 h).rd ha.not_settleReg

theorem Raised.fld {u t : State} (h : Raised u t) {a : Nat} (f : F) (ha : offIrq a) : t.fld a f = u.fld a f :=
  ((raised_iff u t).1 h).fld f ha.not_settleReg

/-- What does not look at the registers is as the change leaves it. -/
theorem Raised.keep {u t : State} (h : Raised u t) {α : Type} (g : State → α) (hg : ∀ r, g { u with regs := r } = g u) : g t = g u :=
  ((raised_iff u t).1 h).keep g fun t => hg t.regs

theorem Raised.hall {u t : State} (h : Raised u t) : t.hall = u.hall := h.keep State.hall fun _ => rfl
theorem Raised.mode {u t : State} (h : Raised u t) : t.mode = u.mode := h.keep State.mode fun _ => rfl
theorem Raised.trans {u t : State} (h : Raised u t) : t.trans = u.trans := h.keep State.trans fun _ => rfl
theorem Raised.dawn {u t : State} (h : Raised u t) : t.dawn = u.dawn := h.keep State.dawn fun _ => rfl
theorem Raised.clocks {u t : State} (h : Raised u t) : t.clocks = u.clocks := h.keep State.clocks fun _ => rfl
theorem Raised.supply {u t : State} (h : Raised u t) : t.supply = u.supply := h.keep State.supply fun _ => rfl
theorem Raised.resetN {u t : State} (h : Raised u t) : t.resetN = u.resetN := h.keep State.resetN fun _ => rfl
theorem Raised.pllOk {u t : State} (h : Raised u t) : t.pllOk = u.pllOk := h.keep State.pllOk fun _ => rfl
theorem Raised.refOk {u t : State} (h : Raised u t) : t.refOk = u.refOk := h.keep State.refOk fun _ => rfl
theorem Raised.lines {u t : State} (h : Raised u t) : t.lines = u.lines := h.keep State.lines fun _ => rfl
theorem Raised.mrq {u t : State} (h : Raised u t) : t.mrq = u.mrq := h.keep State.mrq fun _ => rfl
theorem Raised.logQ {u t : State} (h : Raised u t) : t.logQ = u.logQ := h.keep State.logQ fun _ => rfl
theorem Raised.estopN {u t : State} (h : Raised u t) : t.estopN = u.estopN := h.keep State.estopN fun _ => rfl
theorem Raised.line {u t : State} (h : Raised u t) (l : Nat) : t.line l = u.line l := h.keep (State.line · l) fun _ => rfl
theorem Raised.slot {u t : State} (h : Raised u t) (i : Nat) : t.slot i = u.slot i := h.keep (State.slot · i) fun _ => rfl
theorem Raised.core {u t : State} (h : Raised u t) (l : Nat) : t.core l = u.core l := h.keep (State.core · l) fun _ => rfl

/-! ### Commands that answer `done` -/

theorem State.Leads.of_done {s u : State} {i : Instr} {P : State → Prop} (e : exec i s = done s u) (h : ∀ t, Raised u t → P t) :
    s.Leads i P := ⟨settle s u, e, h _ (raised_settle s u)⟩

theorem State.Gives.of_done {s u v : State} {i : Instr} (e : exec i s = done s u) (h : u = v) : s.Gives i v :=
  h ▸ ⟨settle s u, e, raised_settle s u⟩

theorem State.Leads.mono {s : State} {i : Instr} {P Q : State → Prop} (h : s.Leads i P) (hpq : ∀ t, P t → Q t) : s.Leads i Q := by
  obtain ⟨t, e, ht⟩ := h
  exact ⟨t, e, hpq t ht⟩

end Sys2Proof.Machine
end

section
/-! SUPPORT. Reading a field of a register after a field of it, or another register, has been written. -/

namespace Sys2Proof.Machine

/-! ### Fields of a word -/

theorem F.testBit_get (f : F) (v : Word) (i : Nat) : (f.get v).testBit i = (decide (i < f.w) && v.getLsbD (f.lo + i)) := by
  simp [F.get, Nat.testBit_mod_two_pow, Nat.testBit_shiftRight, BitVec.testBit_toNat]

theorem F.testBit_mask (f : F) (j : Nat) : f.mask.testBit j = decide (f.lo ≤ j ∧ j < f.lo + f.w) := by
  simp only [F.mask, Nat.testBit_shiftLeft, Nat.testBit_two_pow_sub_one, ← Bool.decide_and, ge_iff_le]
  exact decide_eq_decide.2 (by omega)

theorem F.getLsbD_put (f : F) (v : Word) (x j : Nat) (hj : j < 32) :
    (f.put v x).getLsbD j = if f.lo ≤ j ∧ j < f.lo + f.w then x.testBit (j - f.lo) else v.getLsbD j := by
  simp only [F.put, BitVec.getLsbD_or, BitVec.getLsbD_and, BitVec.getLsbD_not, BitVec.getLsbD_ofNat, F.testBit_mask,
    Nat.testBit_shiftLeft, Nat.testBit_mod_two_pow, hj, decide_true, Bool.true_and]
  split
  next h => simp [h]; omega
  next h =>
    have : ¬(f.lo ≤ j ∧ j - f.lo < f.w) := by omega
    simp [h]; omega

theorem F.get_lt (f : F) (v : Word) : f.get v < 2 ^ f.w := Nat.mod_lt _ (Nat.two_pow_pos _)

theorem F.get_put_self (f : F) (v : Word) (x : Nat) (h : f.lo + f.w ≤ 32) : f.get (f.put v x) = x % 2 ^ f.w := by
  refine Nat.eq_of_testBit_eq fun i => ?_
  rw [F.testBit_get, Nat.testBit_mod_two_pow]
  by_cases hi : i < f.w
  · rw [F.getLsbD_put _ _ _ _ (by omega)]
    simp [hi]
  · simp [hi]

/-- Two fields that share no bit. -/
def F.apart (f g : F) : Prop := f.lo + f.w ≤ g.lo ∨ g.lo + g.w ≤ f.lo

theorem F.get_put_apart {f g : F} (v : Word) (x : Nat) (h : g.apart f) : g.get (f.put v x) = g.get v := by
  unfold F.apart at h
  refine Nat.eq_of_testBit_eq fun i => ?_
  rw [F.testBit_get, F.testBit_get]
  by_cases hi : i < g.w
  · by_cases h32 : g.lo + i < 32
    · rw [F.getLsbD_put _ _ _ _ h32, if_neg (by omega)]
    · simp [BitVec.getLsbD_of_ge _ _ (Nat.le_of_not_lt h32)]
  · simp [hi]

/-! ### Fields of a register -/

theorem State.fld_lt (s : State) (a : Nat) (f : F) : s.fld a f < 2 ^ f.w := f.get_lt _

theorem State.fld_setFld_self (s : State) (a : Nat) (f : F) (x : Nat) (h : f.lo + f.w ≤ 32) :
    (s.setFld a f x).fld a f = x % 2 ^ f.w := by
  simp [State.setFld, State.fld, F.get_put_self _ _ _ h]

theorem State.fld_setFld_apart (s : State) (a : Nat) {f g : F} (x : Nat) (h : g.apart f) : (s.setFld a f x).fld a g = s.fld a g := by
  simp [State.setFld, State.fld, F.get_put_apart _ _ h]

theorem State.fld_wr_ne (s : State) {a b : Nat} (v : Word) (f : F) (h : b ≠ a) : (s.wr a v).fld b f = s.fld b f := by
  simp [State.fld, State.rd_wr_ne _ _ _ _ h]

theorem State.fld_setFld_ne (s : State) {a b : Nat} (f g : F) (x : Nat) (h : b ≠ a) : (s.setFld a f x).fld b g = s.fld b g :=
  s.fld_wr_ne _ g h

theorem State.rd_setFld_ne (s : State) {a b : Nat} (f : F) (x : Nat) (h : b ≠ a) : (s.setFld a f x).rd b = s.rd b :=
  s.rd_wr_ne _ _ _ h

theorem State.fld_count_self (s : State) (a : Nat) (f : F) (n : Nat) (h : f.lo + f.w ≤ 32) :
    (s.count a f n).fld a f = min (2 ^ f.w - 1) (s.fld a f + n) := by
  have := Nat.two_pow_pos f.w
  rw [State.count, State.fld_setFld_self _ _ _ _ h, satAdd, Nat.mod_eq_of_lt (by omega)]

theorem State.fld_count_ne (s : State) {a b : Nat} (f g : F) (n : Nat) (h : b ≠ a) : (s.count a f n).fld b g = s.fld b g :=
  s.fld_setFld_ne f g _ h

theorem State.rd_count_ne (s : State) {a b : Nat} (f : F) (n : Nat) (h : b ≠ a) : (s.count a f n).rd b = s.rd b :=
  s.rd_setFld_ne f _ h

end Sys2Proof.Machine
end

section
/-! PROOF of O56. The Hall Monitor's domain: its reset, its ticks, and what its channels, inputs and measurements sample. -/

namespace Sys2Proof.Machine

/-! ### The reset of the domain -/

theorem resetHall_find (regs : Tab Word) (a : Nat) :
    (resetHall regs).find a = (regs.find a).map (fun v => Word.mix v (resetAt a) (hallFields a)) := by
  induction regs with
  | nil => rfl
  | cons e t ih =>
    obtain ⟨b, v⟩ := e
    by_cases h : b = a
    · simp [resetHall, Tab.find, h]
    · simpa [resetHall, Tab.find, h] using ih

theorem F.get_mix_right (f : F) (v r m : Word) (h : ∀ i, i < f.w → m.getLsbD (f.lo + i) = true) :
    f.get (Word.mix v r m) = f.get r := by
  refine Nat.eq_of_testBit_eq fun i => ?_
  rw [F.testBit_get, F.testBit_get]
  by_cases hi : i < f.w
  · have hm := h i hi
    have hlt : f.lo + i < 32 := BitVec.lt_of_getLsbD hm
    simp only [Word.mix, BitVec.getLsbD_or, BitVec.getLsbD_and, BitVec.getLsbD_not, hm, hlt]
    simp
  · simp [hi]

/-- The state in which `hallReset` latches POR. -/
def State.hallCleared (s : State) : State :=
  { s with regs := resetHall s.regs, hall := { Hall.reset with alive := false } }

/-- A field all of whose bits a Hall Monitor reset sets reads its Reset column. -/
theorem State.hallCleared_fld (s : State) (a : Nat) (f : F) (h : ∀ i, i < f.w → (hallFields a).getLsbD (f.lo + i) = true) :
    s.hallCleared.fld a f = f.get (resetAt a) := by
  simp only [State.fld, State.rd, Tab.get, State.hallCleared, resetHall_find]
  cases s.regs.find a with
  | none => rfl
  | some v => exact f.get_mix_right _ _ _ h

theorem hallFields_hwcfg : ∀ n, n < 4 → resetAt (R.HWCFG n) = 0 ∧ (hallFields (R.HWCFG n)).getLsbD 0 = true := by decide
theorem hallFields_hicfg : ∀ i, i < 8 → resetAt (R.HICFG i) = 0 ∧ (hallFields (R.HICFG i)).getLsbD 0 = true := by decide
theorem hallFields_hmrulea : ∀ r, r < 16 → resetAt (R.HMRULEA r) = 0 ∧ ∀ i, i < 4 → (hallFields (R.HMRULEA r)).getLsbD i = true := by
  decide
theorem hallFields_hmret_low : ∀ i, i < 64 → resetAt (R.HMRET i) = 0 ∧ hallFields (R.HMRET i) = 0xFFFFFFFF := by decide
theorem hallFields_hmret_high : ∀ i, i < 64 → resetAt (R.HMRET (i + 64)) = 0 ∧ hallFields (R.HMRET (i + 64)) = 0xFFFFFFFF := by decide

theorem hallFields_hmret (i : Nat) (h : i < 128) : resetAt (R.HMRET i) = 0 ∧ hallFields (R.HMRET i) = 0xFFFFFFFF := by
  by_cases hi : i < 64
  · exact hallFields_hmret_low i hi
  · obtain ⟨j, rfl⟩ := Nat.exists_eq_add_of_le' (Nat.le_of_not_lt hi)
    exact hallFields_hmret_high j (by omega)

theorem State.hallCleared_hmret (s : State) {i : Nat} (h : i < 128) : s.hallCleared.rd (R.HMRET i) = 0 := by
  obtain ⟨h0, hm⟩ := hallFields_hmret i h
  simp only [State.rd, Tab.get, State.hallCleared, resetHall_find, h0, hm]
  cases s.regs.find (R.HMRET i) with
  | none => rfl
  | some v => simp [Word.mix]

theorem State.latchAlarm_self (s : State) {b : Nat} (h : b < 32) : ((s.latchAlarm b).rd R.HMALARM).getLsbD b = true := by
  have hw : ((s.wr R.HMALARM (s.rd R.HMALARM ||| BitVec.ofNat 32 (2 ^ b))).rd R.HMALARM).getLsbD b = true := by
    simp only [State.rd_wr_self, BitVec.getLsbD_or, BitVec.getLsbD_ofNat, h, Nat.testBit_two_pow_self]
    simp
  unfold State.latchAlarm
  dsimp only
  split
  · rwa [Frame.Only.rd (Φ := .onRegs) (p := fun a => a = R.IRQCNT 0xEE ∨ a = R.IRQLOST) (.arrive .refl (.inl rfl) (.inr rfl)) (by decide)]
  · exact hw

/-- Latching an alarm writes HMALARM, and counts HMALARMI. -/
theorem State.latchAlarm_regs (s : State) (b : Nat) :
    State.RegsAt (fun a => a = R.HMALARM ∨ a = R.IRQCNT 0xEE ∨ a = R.IRQLOST) s (s.latchAlarm b) := by
  unfold State.latchAlarm
  have h := Frame.Only.refl.wr (Φ := .onRegs) (p := fun a => a = R.HMALARM ∨ a = R.IRQCNT 0xEE ∨ a = R.IRQLOST) (s := s)
    (s.rd R.HMALARM ||| BitVec.ofNat 32 (2 ^ b)) (.inl rfl)
  exact .ite _ (h.arrive (.inr (.inl rfl)) (.inr (.inr rfl))) h

/-- The reset of the domain writes CLKSTAT and HMALARM, and counts HMALARMI, beside what it clears. -/
theorem State.hallReset_regs (s : State) :
    State.RegsAt (fun a => a = R.CLKSTAT ∨ a = R.HMALARM ∨ a = R.IRQCNT 0xEE ∨ a = R.IRQLOST) s.hallCleared s.hallReset :=
  (Frame.Only.refl.setFld R.CLKSTAT_HMXTAL 0 (.inl rfl)).trans ((State.latchAlarm_regs _ 16).mono fun _ => .inr)

theorem State.hallReset_hmxtal (s : State) : s.hallReset.fld R.CLKSTAT R.CLKSTAT_HMXTAL = 0 := by
  have h : ((s.hallCleared.setFld R.CLKSTAT R.CLKSTAT_HMXTAL 0).latchAlarm 16).fld R.CLKSTAT R.CLKSTAT_HMXTAL = 0 := by
    rw [(State.latchAlarm_regs _ 16).fld _ (by decide), State.fld_setFld_self _ _ _ _ (by decide), Nat.zero_mod]
  exact h

/-- A register of the domain other than the two that the reset itself writes. -/
theorem State.hallReset_raised_fld {s t : State} (h : Raised s.hallReset t) (a : Nat) (f : F) (ha : 0x400D000C ≤ a ∧ a < 0x400E0000)
    (hz : f.get (resetAt a) = 0) (hm : ∀ i, i < f.w → (hallFields a).getLsbD (f.lo + i) = true) : t.fld a f = 0 := by
  have hn : ¬(a = R.CLKSTAT ∨ a = R.HMALARM ∨ a = R.IRQCNT 0xEE ∨ a = R.IRQLOST) := by
    simp only [R.CLKSTAT, R.HMALARM, R.IRQCNT, R.IRQLOST]; omega
  rw [h.fld _ (.inr (by omega)), s.hallReset_regs.fld _ hn, State.hallCleared_fld _ _ _ hm, hz]

/-! ### Counts of 40 bits -/

theorem wrap40_isWrapped (x : Int) : isWrapped 40 x (wrap40 x) := by
  simp only [isWrapped, wrap40, diffSpan]
  omega

theorem Hall.passed_iff (h : Hall) (since : Option Nat) (n : Nat) :
    h.passed since n = true ↔ ∀ t, since = some t → n ≤ (h.time + 2 ^ 48 - t) % 2 ^ 48 := by
  cases since <;> simp [Hall.passed]

/-! ### Watch channels -/

@[simp] theorem State.setWatch_watch_self (s : State) (n : Nat) (x : Watch) : (s.setWatch n x).watch n = x := Tab.get_put_self ..
theorem State.setWatch_watch_ne (s : State) (n m : Nat) (x : Watch) (h : m ≠ n) : (s.setWatch n x).watch m = s.watch m :=
  Tab.get_put_ne _ _ _ h

/-- From `s` to `t` the channels `p` of the Hall Monitor alone have changed. -/
def State.WatchesAt (p : Nat → Prop) (s t : State) : Prop :=
  t = { s with hall := { s.hall with watches := t.hall.watches } } ∧ ∀ n, ¬p n → t.watch n = s.watch n

theorem State.WatchesAt.refl {p : Nat → Prop} {s : State} : State.WatchesAt p s s := ⟨rfl, fun _ _ => rfl⟩

theorem State.WatchesAt.trans {p q : Nat → Prop} {s t u : State} (h : State.WatchesAt p s t) (k : State.WatchesAt q t u) :
    State.WatchesAt (fun n => p n ∨ q n) s u := by
  obtain ⟨hs, hw⟩ := h
  obtain ⟨ks, kw⟩ := k
  refine ⟨?_, fun n hn => (kw n (fun x => hn (.inr x))).trans (hw n (fun x => hn (.inl x)))⟩
  rw [ks, hs]

/-- What does not look at the channels is unchanged. -/
theorem State.WatchesAt.keep {p : Nat → Prop} {s t : State} (h : State.WatchesAt p s t) {α : Type} (g : State → α)
    (hg : ∀ w, g { s with hall := { s.hall with watches := w } } = g s) : g t = g s :=
  (congrArg g h.1).trans (hg _)

theorem State.WatchesAt.setWatch (s : State) (n : Nat) (x : Watch) : State.WatchesAt (· = n) s (s.setWatch n x) :=
  ⟨rfl, fun m hm => s.setWatch_watch_ne n m x hm⟩

/-- A pass over the channels, each judged by itself alone, leaves each as its own step does. -/
theorem State.foldl_watch {f : State → Nat → State} (g : State → Nat → Watch)
    (hf : ∀ s n, State.WatchesAt (· = n) s (f s n) ∧ (f s n).watch n = g s n)
    (hg : ∀ s t n, State.WatchesAt (· ≠ n) s t → g t n = g s n) (s : State) (a k : Nat) :
    State.WatchesAt (fun n => n ∈ upFrom a k) s ((upFrom a k).foldl f s) ∧
      ∀ n ∈ upFrom a k, ((upFrom a k).foldl f s).watch n = g s n := by
  induction k generalizing s a with
  | zero => exact ⟨.refl, by simp [upFrom]⟩
  | succ k ih =>
    obtain ⟨hw, hv⟩ := hf s a
    obtain ⟨ihw, ihv⟩ := ih (f s a) (a + 1)
    refine ⟨?_, fun n hn => ?_⟩
    · obtain ⟨e, k⟩ := hw.trans ihw
      exact ⟨e, fun n hn => k n (by simpa [upFrom] using hn)⟩
    · by_cases h : n = a
      · subst h
        have out : n ∉ upFrom (n + 1) k := by simp [mem_upFrom]
        exact (ihw.2 n out).trans hv
      · have hin : n ∈ upFrom (a + 1) k := by simpa [upFrom, h] using hn
        exact (ihv n hin).trans (hg _ _ _ ⟨hw.1, fun m hm => hw.2 m (by rintro rfl; exact hm (Ne.symm h))⟩)

/-- What a channel in MIRROR becomes at a tick (R473). -/
def State.mirrored (s : State) (n : Nat) : Watch :=
  let x := s.watch n
  let t := s.tb (s.hwcfg n R.HWCFG_TB)
  if x.state != .mirror then x
  else if t.state == .run && t.ref then { x with valid := true, count := wrap40 (t.word / 256), speed := t.vel.natAbs }
  else { x with valid := false, speed := t.vel.natAbs }

/-- What a channel in MIRROR becomes at the tick after mirroring has ended (R55). -/
def State.returned (s : State) (n : Nat) : Watch :=
  let x := s.watch n
  if x.state != .mirror then x
  else { x with state := .watch, night := x.count, pair := none, valid := x.valid && !s.tooFast n }

theorem State.watchMirror_step (s : State) (n : Nat) :
    State.WatchesAt (· = n) s (s.watchMirror n) ∧ (s.watchMirror n).watch n = s.mirrored n := by
  unfold State.watchMirror State.mirrored
  extract_lets
  split
  · exact ⟨.refl, rfl⟩
  · split <;> exact ⟨.setWatch .., by simp⟩

theorem State.mirrored_congr {s t : State} {n : Nat} (h : State.WatchesAt (· ≠ n) s t) : t.mirrored n = s.mirrored n := by
  obtain ⟨e, k⟩ := h
  have hw := k n (by simp)
  rw [State.mirrored, State.mirrored, hw, e]
  rfl

theorem State.returned_congr {s t : State} {n : Nat} (h : State.WatchesAt (· ≠ n) s t) : t.returned n = s.returned n := by
  obtain ⟨e, k⟩ := h
  have hw := k n (by simp)
  rw [State.returned, State.returned, State.tooFast, State.tooFast, hw, e]
  rfl

theorem State.watchMirrors_pass (s : State) :
    State.WatchesAt (fun n => n ∈ upFrom 0 4) s ((upFrom 0 4).foldl State.watchMirror s) ∧
      ∀ n ∈ upFrom 0 4, ((upFrom 0 4).foldl State.watchMirror s).watch n = s.mirrored n :=
  State.foldl_watch State.mirrored State.watchMirror_step (fun _ _ _ => State.mirrored_congr) s 0 4

theorem State.watchReturn_pass (s : State) :
    State.WatchesAt (fun n => n ∈ upFrom 0 4) s s.watchReturn ∧ ∀ n ∈ upFrom 0 4, s.watchReturn.watch n = s.returned n := by
  refine State.foldl_watch State.returned (fun s n => ?_) (fun _ _ _ => State.returned_congr) s 0 4
  unfold State.returned
  extract_lets
  split
  · exact ⟨.refl, rfl⟩
  · exact ⟨.setWatch .., by simp⟩

/-! ### The parts of O56 -/

theorem hmReset_leads (s : State) :
    s.Leads .hmReset (fun t => t.hall.alive = false ∧ t.hall.fails = 5 ∧ t.hall.lockout = 32768 * 60 ∧ t.hall.snum = 0 ∧
      t.hall.wakeout = true ∧ t.hall.time = 0 ∧ t.fld R.CLKSTAT R.CLKSTAT_HMXTAL = 0 ∧ (t.rd R.HMALARM).getLsbD 16 = true ∧
      t.fld R.HMCTL R.HMCTL_HMLOCK = 0 ∧
      (∀ n, n < 4 → (t.watch n).state = .off ∧ (t.watch n).count = 0 ∧ (t.watch n).valid = false ∧ t.fld (R.HWCFG n) R.HWCFG_EN = 0) ∧
      (∀ i, i < 8 → t.fld (R.HICFG i) R.HICFG_EN = 0) ∧ (∀ r, r < 16 → t.fld (R.HMRULEA r) R.HMRULEA_SRC = 0) ∧
      (∀ i, i < 128 → t.rd (R.HMRET i) = 0)) := by
  refine .of_done rfl fun t h => ?_
  have hall : t.hall = { Hall.reset with alive := false } :=
    h.hall.trans (s.hallReset_regs.keep State.hall fun _ => rfl)
  have watch (n : Nat) : t.watch n = .reset := by simp [State.watch, hall, Hall.reset, Tab.get, Tab.find]
  rw [hall]
  refine ⟨rfl, rfl, rfl, rfl, rfl, rfl, ?_, ?_, ?_, fun n hn => ⟨by rw [watch]; rfl, by rw [watch]; rfl, by rw [watch]; rfl, ?_⟩,
    fun i hi => ?_, fun r hr => ?_, fun i hi => ?_⟩
  · rw [h.fld _ (by decide), s.hallReset_hmxtal]
  · rw [h.rd (by decide)]
    exact State.latchAlarm_self _ (by decide)
  · rw [h.fld _ (by decide), s.hallReset_regs.fld _ (by decide), s.hallCleared_fld _ _ (by decide)]
    decide
  · obtain ⟨h0, hm⟩ := hallFields_hwcfg n hn
    refine State.hallReset_raised_fld h _ _ (by simp only [R.HWCFG]; omega) (by rw [h0]; rfl) fun i hi => ?_
    obtain rfl : i = 0 := Nat.lt_one_iff.1 hi
    exact hm
  · obtain ⟨h0, hm⟩ := hallFields_hicfg i hi
    refine State.hallReset_raised_fld h _ _ (by simp only [R.HICFG]; omega) (by rw [h0]; rfl) fun j hj => ?_
    obtain rfl : j = 0 := Nat.lt_one_iff.1 hj
    exact hm
  · obtain ⟨h0, hm⟩ := hallFields_hmrulea r hr
    exact State.hallReset_raised_fld h _ _ (by simp only [R.HMRULEA]; omega) (by rw [h0]; rfl) fun j hj => by
      rw [show R.HMRULEA_SRC.lo + j = j from Nat.zero_add j]; exact hm j hj
  · have hn : ¬(R.HMRET i = R.CLKSTAT ∨ R.HMRET i = R.HMALARM ∨ R.HMRET i = R.IRQCNT 0xEE ∨ R.HMRET i = R.IRQLOST) := by
      simp only [R.HMRET, R.CLKSTAT, R.HMALARM, R.IRQCNT, R.IRQLOST]; omega
    rw [h.rd (.inr (by simp only [R.HMRET]; omega)), s.hallReset_regs.rd hn, s.hallCleared_hmret hi]

theorem vbatGood_gives (s : State) : s.Gives .vbatGood { s with hall := { s.hall with alive := true } } := by
  refine .of_done rfl ?_
  unfold State.vbatGood
  split
  next h => rw [← h]
  next => rfl

theorem hmTick_gives_of_dead {s : State} (h : s.hall.alive = false) : s.Gives .hmTick s :=
  .of_done rfl (by simp [State.hallTick, h])

/-- The state in which a tick looks at the channels. -/
def State.ticked (s : State) : State :=
  { s with hall := { s.hall with
    time := (s.hall.time + 1) % 2 ^ 48, lockout := if s.hall.lockout = 0 then 0 else max 1 (s.hall.lockout - 1) } }

theorem State.ticked_time (s : State) : s.ticked.hall.time = (s.hall.time + 1) % 2 ^ 48 := by simp only [State.ticked]

theorem State.hallTick_of_unmirror {s : State} (ha : s.hall.alive = true) (hu : s.hall.unmirror = true) :
    s.hallTick = { s.ticked with hall := { s.ticked.hall with unmirror := false } }.watchReturn := by
  unfold State.hallTick
  rw [if_neg (by simp [ha])]
  exact if_pos hu

theorem State.hallTick_of_mirror {s : State} (ha : s.hall.alive = true) (hu : s.hall.unmirror = false) :
    s.hallTick = (upFrom 0 4).foldl State.watchMirror s.ticked := by
  unfold State.hallTick
  rw [if_neg (by simp [ha])]
  exact if_neg (by simp [hu])

theorem State.tooFast_iff (s : State) (n : Nat) :
    s.tooFast n = decide (250 * 2 ^ s.fld (R.HWCFG n) R.HWCFG_RATE * s.fld (R.HWCFG n) R.HWCFG_MULT * 2 ^ 32 < 400000000 * (s.watch n).speed) :=
  rfl

theorem State.WatchesAt.hall_time {p : Nat → Prop} {s t : State} (h : State.WatchesAt p s t) : t.hall.time = s.hall.time :=
  h.keep (·.hall.time) fun _ => rfl
theorem State.WatchesAt.hall_unmirror {p : Nat → Prop} {s t : State} (h : State.WatchesAt p s t) :
    t.hall.unmirror = s.hall.unmirror :=
  h.keep (·.hall.unmirror) fun _ => rfl
theorem State.WatchesAt.hall_lockout {p : Nat → Prop} {s t : State} (h : State.WatchesAt p s t) :
    t.hall.lockout = s.hall.lockout :=
  h.keep (·.hall.lockout) fun _ => rfl

theorem State.hallTick_unmirror {s : State} (ha : s.hall.alive = true) (hu : s.hall.unmirror = true) :
    State.WatchesAt (fun n => n ∈ upFrom 0 4) { s.ticked with hall := { s.ticked.hall with unmirror := false } } s.hallTick ∧
      ∀ n ∈ upFrom 0 4, s.hallTick.watch n = s.returned n :=
  State.hallTick_of_unmirror ha hu ▸ State.watchReturn_pass _

theorem State.hallTick_mirror {s : State} (ha : s.hall.alive = true) (hu : s.hall.unmirror = false) :
    State.WatchesAt (fun n => n ∈ upFrom 0 4) s.ticked s.hallTick ∧ ∀ n ∈ upFrom 0 4, s.hallTick.watch n = s.mirrored n :=
  State.hallTick_of_mirror ha hu ▸ s.ticked.watchMirrors_pass

/-- The channels after a tick, and what the tick does beside them. -/
theorem State.hallTick_of_alive {s : State} (ha : s.hall.alive = true) :
    s.hallTick.hall.time = s.ticked.hall.time ∧ s.hallTick.hall.unmirror = false ∧
      s.hallTick.hall.lockout = s.ticked.hall.lockout ∧
      ∀ n, n < 4 → s.hallTick.watch n = if s.hall.unmirror then s.returned n else s.mirrored n := by
  cases hu : s.hall.unmirror with
  | true =>
    obtain ⟨e, hw⟩ := State.hallTick_unmirror ha hu
    exact ⟨e.hall_time, e.hall_unmirror, e.hall_lockout, fun n hn => hw n (mem_upFrom.2 ⟨Nat.zero_le n, by omega⟩)⟩
  | false =>
    obtain ⟨e, hw⟩ := State.hallTick_mirror ha hu
    exact ⟨e.hall_time, e.hall_unmirror.trans hu, e.hall_lockout, fun n hn => hw n (mem_upFrom.2 ⟨Nat.zero_le n, by omega⟩)⟩

theorem hmTick_leads {s : State} (ha : s.hall.alive = true) :
    s.Leads .hmTick (fun t => t.hall.time = (s.hall.time + 1) % 2 ^ 48 ∧ t.hall.unmirror = false ∧
      t.hall.lockout = (if s.hall.lockout = 0 then 0 else max 1 (s.hall.lockout - 1)) ∧
      ∀ n, n < 4 → t.watch n = if s.hall.unmirror then s.returned n else s.mirrored n) := by
  refine .of_done rfl fun t h => ?_
  rw [h.hall]
  obtain ⟨time, un, lock, hw⟩ := State.hallTick_of_alive ha
  exact ⟨time.trans s.ticked_time, un, lock, fun n hn => (h.keep (State.watch · n) fun _ => rfl).trans (hw n hn)⟩

theorem State.mirrored_of_ne {s : State} {n : Nat} (h : (s.watch n).state ≠ .mirror) : s.mirrored n = s.watch n := by
  simp [State.mirrored, h]

theorem State.returned_of_ne {s : State} {n : Nat} (h : (s.watch n).state ≠ .mirror) : s.returned n = s.watch n := by
  simp [State.returned, h]

/-- What the tick does to each channel, case by case. -/
theorem hmTick_leads_cases {s : State} (ha : s.hall.alive = true) :
    s.Leads .hmTick (fun t => t.hall.time = (s.hall.time + 1) % 2 ^ 48 ∧ t.hall.unmirror = false ∧
      t.hall.lockout = (if s.hall.lockout = 0 then 0 else max 1 (s.hall.lockout - 1)) ∧ ∀ n, n < 4 →
      let x := s.watch n
      let tb := s.tb (s.fld (R.HWCFG n) R.HWCFG_TB)
      let limit := 250 * 2 ^ s.fld (R.HWCFG n) R.HWCFG_RATE * s.fld (R.HWCFG n) R.HWCFG_MULT
      (x.state ≠ .mirror → t.watch n = x) ∧
      (x.state = .mirror → s.hall.unmirror = true → t.watch n = { x with state := .watch, night := x.count, pair := none
                                                                         valid := x.valid && !decide (limit * 2 ^ 32 < 400000000 * x.speed) }) ∧
      (x.state = .mirror → s.hall.unmirror = false → tb.state = .run → tb.ref = true →
        (t.watch n).valid = true ∧ isWrapped 40 (tb.word / 256) (t.watch n).count ∧ (t.watch n).speed = tb.vel.natAbs) ∧
      (x.state = .mirror → s.hall.unmirror = false → tb.state ≠ .run ∨ tb.ref = false →
        t.watch n = { x with valid := false, speed := tb.vel.natAbs })) := by
  refine (hmTick_leads ha).mono fun t ⟨time, un, lock, hw⟩ => ⟨time, un, lock, fun n hn => ?_⟩
  have h := hw n hn
  refine ⟨fun hx => ?_, fun hx hu => ?_, fun hx hu hr hf => ?_, fun hx hu hr => ?_⟩
  · rw [h, State.mirrored_of_ne hx, State.returned_of_ne hx, ite_self]
  · rw [h, if_pos hu]
    simp [State.returned, hx, State.tooFast_iff]
  · have e : t.watch n = s.mirrored n := by simp [h, hu]
    have m : s.mirrored n = { s.watch n with
        valid := true, count := wrap40 ((s.tb (s.fld (R.HWCFG n) R.HWCFG_TB)).word / 256)
        speed := (s.tb (s.fld (R.HWCFG n) R.HWCFG_TB)).vel.natAbs } := by
      simp [State.mirrored, State.hwcfg, hx, hr, hf]
    rw [e, m]
    exact ⟨rfl, wrap40_isWrapped _, rfl⟩
  · have hn : ((s.tb (s.fld (R.HWCFG n) R.HWCFG_TB)).state == .run && (s.tb (s.fld (R.HWCFG n) R.HWCFG_TB)).ref) = false := by
      rcases hr with h | h <;> simp [h]
    simp [h, hu, State.mirrored, State.hwcfg, hx, hn]

/-! ### Strobes -/

/-- The strobe period of a channel has passed. -/
theorem State.strobeDue_iff (s : State) (n : Nat) :
    s.strobeDue n = true ↔ ∀ t, (s.watch n).strobeT = some t →
      32768 / (250 * 2 ^ s.fld (R.HWCFG n) R.HWCFG_RATE) ≤ (s.hall.time + 2 ^ 48 - t) % 2 ^ 48 :=
  s.hall.passed_iff _ _

section
variable {s : State} {n : Nat} {a b : Bool}

theorem State.watchStrobe_of_not (h : s.hall.alive = false ∨ (s.watch n).state ≠ .watch ∨ ¬s.strobeDue n = true) :
    s.watchStrobe n a b = s := by
  unfold State.watchStrobe
  exact if_pos (by rcases h with h | h | h <;> simp [h])

variable (ha : s.hall.alive = true) (hw : (s.watch n).state = .watch) (hd : s.strobeDue n = true)
include ha hw hd

theorem State.watchStrobe_first (hp : (s.watch n).pair = none) :
    s.watchStrobe n a b = s.setWatch n { s.watch n with pair := some (a, b), strobeT := some s.hall.time } := by
  unfold State.watchStrobe
  simp [ha, hw, hd, hp]

variable {a0 b0 : Bool} (hp : (s.watch n).pair = some (a0, b0))
include hp

/-- Both levels have changed: an illegal step (R471). -/
theorem State.watchStrobe_illegal (h1 : a ≠ a0) (h2 : b ≠ b0) :
    s.watchStrobe n a b = s.setWatch n { s.watch n with
      pair := some (a, b), strobeT := some s.hall.time, valid := false, illegal := true, errs := min 255 ((s.watch n).errs + 1) } := by
  unfold State.watchStrobe
  simp [ha, hw, hd, hp, h1, h2]

/-- At most one level has changed: the step that the rows of R66 give. -/
theorem State.watchStrobe_step (h : a = a0 ∨ b = b0) :
    s.watchStrobe n a b =
      match quadStep 0 (s.fld (R.HWCFG n) R.HWCFG_DIR == 1) a0 b0 a b with
      | none => s.setWatch n { s.watch n with pair := some (a, b), strobeT := some s.hall.time }
      | some up => s.setWatch n { s.watch n with
          pair := some (a, b), strobeT := some s.hall.time
          count := wrap40 ((s.watch n).count +
            if up then (s.fld (R.HWCFG n) R.HWCFG_MULT : Int) else -(s.fld (R.HWCFG n) R.HWCFG_MULT : Int)) } := by
  have hn : (a != a0 && b != b0) = false := by rcases h with h | h <;> simp [h]
  unfold State.watchStrobe
  simp only [ha, hw, hd, hp, hn, bne_self_eq_false, Bool.not_true, Bool.or_false, Bool.false_eq_true, if_false]
  rfl

end

/-- The rows of R66 change at most one level, and are what the model counts. -/
theorem StepRow.quadStep_eq {rev a0 b0 a b : Bool} {up : Option Bool} (h : StepRow 0 rev a0 b0 a b up) :
    (a = a0 ∨ b = b0) ∧ quadStep 0 rev a0 b0 a b = up := by
  cases h with
  | changeA _ _ _ h => exact ⟨.inr rfl, by simp [quadStep, h]⟩
  | riseA _ h => exact absurd h (by decide)
  | fallA _ h => exact absurd h (by decide)
  | changeB _ _ _ h => exact ⟨.inl rfl, by simp [quadStep, h]⟩
  | ignoreB _ _ _ _ h => exact absurd rfl h
  | none => exact ⟨.inl rfl, by simp [quadStep]⟩

/-! ### Inputs -/

theorem State.sampleDue_iff (s : State) (i : Nat) :
    s.sampleDue i = true ↔ ∀ t, (s.hallIn i).sampleT = some t →
      32768 * 4 ^ s.fld (R.HICFG i) R.HICFG_PER / 1000 ≤ (s.hall.time + 2 ^ 48 - t) % 2 ^ 48 :=
  s.hall.passed_iff _ _

/-- The level that a sample of input `i` proposes (R476). -/
def State.hallCandidate (s : State) (i : Nat) (level : Bool) : Bool :=
  (if s.fld (R.HICFG i) R.HICFG_MAJ = 1 then decide (2 ≤ (((level :: (s.hallIn i).samples).take 3).filter (· == true)).length)
    else level) != (s.fld (R.HICFG i) R.HICFG_INV == 1)

section
variable {s : State} {i : Nat} {level : Bool}

theorem State.inputSample_of_not (h : s.hall.alive = false ∨ s.fld (R.HICFG i) R.HICFG_EN = 0 ∨ ¬s.sampleDue i = true) :
    s.inputSample i level = s := by
  unfold State.inputSample
  exact if_pos (by rcases h with h | h | h <;> simp [h])

variable (ha : s.hall.alive = true) (he : s.fld (R.HICFG i) R.HICFG_EN = 1) (hd : s.sampleDue i = true)
include ha he hd

theorem State.inputSample_due :
    s.inputSample i level =
      let run := if s.hallCandidate i level == (s.hallIn i).filt then 0 else (s.hallIn i).run + 1
      let x := { s.hallIn i with samples := (level :: (s.hallIn i).samples).take 3, sampleT := some s.hall.time }
      if s.fld (R.HICFG i) R.HICFG_DEB < run then
        let t := s.setHallIn i { x with filt := s.hallCandidate i level, run := 0 }
        { t with hall := { t.hall with changed := t.hall.changed ||| 2 ^ i } }
      else s.setHallIn i { x with run := run } := by
  have hid : (fun x : Bool => x == true) = id := by funext x; cases x <;> rfl
  unfold State.inputSample State.hallCandidate
  simp only [ha, he, hd, hid, Bool.not_true, Bool.or_false, one_ne_zero, decide_false, Bool.false_eq_true, if_false]

end

/-! ### The obligation -/

/-- Settles O56: the reset of the domain, its ticks, and each sample, part by part. -/
theorem hallMonitorSamples : Obligations.HallMonitorSamples := by
  intro s
  refine ⟨hmReset_leads s, vbatGood_gives s, .of_done rfl rfl, .of_done rfl rfl, hmTick_gives_of_dead, hmTick_leads_cases,
    fun n a b _ => ⟨fun h => ?_, fun ha hw hd hp => ?_, fun a0 b0 ha hw hd hp => ⟨fun h1 h2 => ?_, fun up hs => ?_⟩⟩,
    fun i level _ => ⟨fun h => ?_, fun ha he hd => ⟨fun hc => ?_, fun hc hr => ?_, fun hc hr => ?_⟩⟩,
    fun temp vbat => ⟨fun h => ?_, fun ha hd => ?_⟩⟩
  · exact .of_done rfl (State.watchStrobe_of_not (by rwa [s.strobeDue_iff]))
  · exact .of_done rfl (State.watchStrobe_first ha hw ((s.strobeDue_iff n).2 hd) hp)
  · exact .of_done rfl (State.watchStrobe_illegal ha hw ((s.strobeDue_iff n).2 hd) hp h1 h2)
  · obtain ⟨one, hq⟩ := hs.quadStep_eq
    have e := State.watchStrobe_step ha hw ((s.strobeDue_iff n).2 hd) hp one
    rw [hq] at e
    refine ⟨?_, ?_⟩
    · rintro rfl
      exact .of_done rfl e
    · rintro fwd rfl
      refine .of_done rfl fun t h => ?_
      have hx := (h.keep (State.watch · n) fun _ => rfl).trans (congrArg (State.watch · n) e)
      simp only [State.setWatch_watch_self] at hx
      rw [hx]
      exact ⟨rfl, wrap40_isWrapped _⟩
  · exact .of_done rfl (State.inputSample_of_not (by rwa [s.sampleDue_iff]))
  · refine .of_done rfl ((State.inputSample_due ha he ((s.sampleDue_iff i).2 hd)).trans ?_)
    have hc' : (s.hallCandidate i level == (s.hallIn i).filt) = true := beq_iff_eq.2 hc
    simp only [hc', if_true, Nat.not_lt_zero, if_false]
  · refine .of_done rfl ((State.inputSample_due ha he ((s.sampleDue_iff i).2 hd)).trans ?_)
    have hc' : (s.hallCandidate i level == (s.hallIn i).filt) = false := beq_false_of_ne hc
    have hr' : ¬s.fld (R.HICFG i) R.HICFG_DEB < (s.hallIn i).run + 1 := Nat.not_lt.2 hr
    simp only [hc', Bool.false_eq_true, if_false, hr']
  · have e := State.inputSample_due (level := level) ha he ((s.sampleDue_iff i).2 hd)
    have hc' : (s.hallCandidate i level == (s.hallIn i).filt) = false := beq_false_of_ne hc
    simp only [hc', Bool.false_eq_true, if_false] at e
    rw [if_pos hr] at e
    refine .of_done rfl fun t h => ⟨?_, ?_⟩
    · exact (h.keep (State.hallIn · i) fun _ => rfl).trans ((congrArg (State.hallIn · i) e).trans (Tab.get_put_self ..))
    · exact h.hall ▸ congrArg (·.hall.changed) e
  · refine .of_done rfl (if_neg ?_)
    rcases h with h | h
    · simp [h]
    · exact fun k => h ((s.hall.passed_iff _ _).1 (Bool.and_eq_true_iff.1 k).2)
  · exact .of_done rfl (if_pos (by simp only [ha, (s.hall.passed_iff _ _).2 hd, Bool.and_self]))

end Sys2Proof.Machine
end

section
/-! SUPPORT. A register request that reaches its register: what is left of it is the write of the register itself (R240, R269). -/

namespace Sys2Proof.Machine

theorem firstOf_eq_none {l : List (Option Flt)} (h : firstOf l = none) : ∀ x ∈ l, x = none := by
  intro x hx
  by_contra hne
  have some : (l.find? Option.isSome).isSome := by
    rw [List.find?_isSome]
    exact ⟨x, hx, Option.isSome_iff_ne_none.2 hne⟩
  obtain ⟨y, hy⟩ := Option.isSome_iff_exists.1 some
  have hs : y.isSome := List.find?_some hy
  rw [firstOf, hy] at h
  cases y with
  | none => exact absurd hs (by decide)
  | some v => exact absurd h (by simp)

/-- An access of a core that passes its checks has the rights of the register (R219). -/
theorem State.regBars_of_dataFault {s : State} {w : Who} {k : AccKind} {a : Nat} {v : Word} (h : s.dataFault w k a 4 v = none)
    (hw : inWindows a = true) (h4 : a / 4 * 4 = a) : s.regBars w (ownAddr w.id a) (isOwnView a) (k == .write) v = false := by
  have hp : s.privFault w a 4 (k == .write) v = none := firstOf_eq_none h _ (by simp)
  unfold State.privFault at hp
  rw [h4] at hp
  extract_lets at hp
  split at hp
  · cases hp
  · split at hp
    · cases hp
    next hb => simpa [hw] using hb

theorem State.sbClear_of_none {s : State} {l : Nat} {p : SbEntry → Bool} (h : ∀ e ∈ (s.core l).sb, p e = false) : s.sbClear l p = s := by
  have hf : (s.core l).sb.filter p = [] := List.filter_eq_nil_iff.2 fun e he => by simp [h e he]
  simp [State.sbClear, hf]

/-- A write by a core that reaches its register. -/
theorem State.Reaches.request_core {s : State} {l a : Nat} {v : Word} (h : s.Reaches (.core l) a v) (ha : ownAddr l a = a) :
    s.request (.core l) a v = s.busWrite (s.who l) a v := by
  obtain ⟨-, hrun, hper, hf, hsb⟩ := h
  have hc : s.sbClear l (fun e => e.tgt == .periph) = s := State.sbClear_of_none fun e he => beq_false_of_ne (hsb e he)
  have hn : (!s.runs l || decide (a < 0x40000000)) = false := by simp [hrun, hper]
  simp only [State.request, State.writeN, State.coreWrite, hn, hf, hc, ha, Bool.false_eq_true, if_false]

/-- The window's access, while it is made. -/
def State.windowOpen (s : State) (a : Nat) (v : Word) : State :=
  s.updStaff (fun t => { t with access := some { write := true, addr := a, n := 4, val := v.toNat } })

/-- A write by the Staff port that reaches its register. -/
theorem State.Reaches.request_staff {s : State} {a : Nat} {v : Word} (h : s.Reaches .staff a v) (ha : placeOf a = .periph) :
    s.request .staff a v =
      ((s.windowOpen a v).busWrite .staff a v).winEnd { write := true, addr := a, n := 4, val := v.toNat } 0 := by
  obtain ⟨hacc, -, hchk⟩ := h
  have hc : (s.windowOpen a v).winCheck { write := true, addr := a, n := 4, val := v.toNat } = 0 := hchk
  have hv : w32 v.toNat = v := by simp [w32]
  have ho : (s.windowOpen a v).staff.access = some { write := true, addr := a, n := 4, val := v.toNat } := rfl
  simp only [State.request, State.writeN, State.windowDo, hacc, Option.isSome_none, Bool.false_eq_true, if_false, if_true]
  change (s.windowOpen a v).winComplete = _
  simp only [State.winComplete, ho, hc, State.winWrite, ha, hv, bne_self_eq_false, Bool.false_eq_true, if_false, if_true]

/-- What a write by a core does to a register that is not kept per requester: the owner of its block is recorded when its unit accepts
it (R434). -/
theorem State.busWrite_core {s : State} {w : Who} {a : Nat} {v : Word} (hw : w.isStaff = false) (ha : isPerReq a = false) :
    s.busWrite w a v =
      if (s.regWrite w a v).2 then { (s.regWrite w a v).1 with owners := (s.regWrite w a v).1.owners.put (blockOf a) (w.id, w.guard) }
      else (s.regWrite w a v).1 := by
  unfold State.busWrite
  cases h : (s.regWrite w a v).2 <;> simp [h, hw, ha]

/-! ### What an access changes beside its register -/

/-- What an access itself changes: the registers, the record of owners and the Staff port. -/
def Frame.asked : Frame where
  upd t s := { s with regs := t.regs, owners := t.owners, staff := t.staff }
  self _ := rfl
  twice _ _ _ := rfl
  regs _ _ := rfl

/-- The registers among which are those that an access may change beside its own: the interrupt counters and IRQLOST, and what the owner
of a block is told (R434). -/
@[reducible] def askReg (a : Nat) : Prop := (0x40050400 ≤ a ∧ a ≤ 0x400508C4) ∨ 0x400E0500 ≤ a

theorem settleReg.askReg {a : Nat} (h : settleReg a) : askReg a := by
  by_contra hn
  exact offIrq.not_settleReg (by unfold Machine.askReg at hn; unfold offIrq; omega) h

/-- The sources of interrupts have counters below IRQLOST. -/
theorem State.arrive_asks {Φ : Frame} {o s : State} (h : Φ.Only askReg o s) (n : Nat) : Φ.Only askReg o (s.arrive n) := by
  by_cases hs : s.hasSrc n = true
  · have hn : n ≤ 0xF3 := by
      by_contra hgt
      have : s.hasSrc n = false := by
        unfold State.hasSrc
        simp only [show ¬n < 0x20 by omega, show ¬n < 0x60 by omega, show ¬n ≤ 0x90 by omega, show ¬n < 0x98 by omega,
          show ¬n < 0xB8 by omega, show ¬n < 0xC0 by omega, show ¬n < 0xC8 by omega, show ¬n < 0xD0 by omega,
          show ¬n < 0xE4 by omega, show ¬n < 0xEC by omega, hgt, if_false, decide_false]
      exact absurd (this.symm.trans hs) (by decide)
    exact h.arrive (.inl (by simp only [R.IRQCNT]; omega)) (.inl (by decide))
  · rw [State.arrive, if_neg hs]
    exact h

theorem State.stateChg_asks (s : State) (l a : Nat) : Frame.asked.Only askReg s (s.stateChg l a) :=
  State.arrive_asks ((Frame.Only.refl.wr _ (.inr (by simp only [R.STCHGADDR]; omega))).count _ _
    (.inr (by simp only [R.STCHGCNT]; omega))) _

theorem State.busWrite_asks (s : State) (w : Who) (a : Nat) (v : Word) : Frame.asked.Only askReg (s.regWrite w a v).1 (s.busWrite w a v) := by
  unfold State.busWrite
  refine .ite _ .refl (.ite _ ?_ (Frame.Only.refl.put rfl rfl))
  split
  · exact State.stateChg_asks _ _ _
  · exact .refl

theorem State.winEnd_asks (s : State) (x : WinAccess) (st : Nat) : Frame.asked.Only askReg s (s.winEnd x st) := Frame.Only.refl.put rfl rfl

/-- The state in which the register of an access is written. -/
def State.entered (s : State) (r : Rq) (a : Nat) (v : Word) : State :=
  match r with
  | .core _ => s
  | .staff => s.windowOpen a v

/-- The address is in no view that each core has of its own, and is a register's. -/
@[reducible] def sharedAddr (a : Nat) : Prop := placeOf a = .periph ∧ ∀ l, l < 5 → ownAddr l a = a

theorem State.Reaches.request_asks {s : State} {r : Rq} {a : Nat} {v : Word} (h : s.Reaches r a v) (ha : sharedAddr a) :
    Frame.asked.Only askReg ((s.entered r a v).regWrite (s.asker r) a v).1 (s.request r a v) := by
  cases r with
  | core l =>
    rw [h.request_core (ha.2 l h.1)]
    exact s.busWrite_asks _ _ _
  | staff =>
    rw [h.request_staff ha.1]
    exact (State.busWrite_asks _ _ _ _).trans (State.winEnd_asks _ _ _)

/-- A command that makes a request leads to what the write of the register leads to, but for what an access itself changes. -/
theorem does_of_request {s : State} {r : Rq} {a : Nat} {v : Word} {i : Instr} {P : State → Prop}
    (hi : exec i s = done s (s.request r a v)) (ha : sharedAddr a)
    (hP : s.Reaches r a v → ∀ t, Frame.asked.Only askReg ((s.entered r a v).regWrite (s.asker r) a v).1 t → P t) : s.Does r a v i P := by
  intro h
  refine State.Leads.of_done hi fun t ht => hP h t ((h.request_asks ha).regsAt ?_)
  exact ((raised_iff _ _).1 ht).mono fun _ => settleReg.askReg

/-- The requester of an access that reaches its register. -/
theorem State.Reaches.asker_isStaff {s : State} {r : Rq} {a : Nat} {v : Word} (h : s.Reaches r a v) : (s.asker r).isStaff = true ↔ r = .staff := by
  cases r with
  | core l =>
    have : l < 5 := h.1
    simp [State.asker, State.who, Who.isStaff]
    omega
  | staff => simp [State.asker, Who.isStaff, Who.staff]

/-- A pass over numbers of which only `l` is acted on. -/
theorem foldl_only {α : Type} {f : α → Nat → α} {s : α} {l : Nat} {ns : List Nat} (hl : l ∈ ns) (hn : ns.Nodup)
    (before : ∀ n ∈ ns, n ≠ l → f s n = s) (after : ∀ n ∈ ns, n ≠ l → f (f s l) n = f s l) : ns.foldl f s = f s l := by
  have rest (t : α) (ms : List Nat) (h : ∀ n ∈ ms, f t n = t) : ms.foldl f t = t := by
    induction ms with
    | nil => rfl
    | cons m ms ih => rw [List.foldl_cons, h m List.mem_cons_self, ih fun n hn => h n (List.mem_cons_of_mem m hn)]
  induction ns with
  | nil => cases hl
  | cons m ms ih =>
    obtain ⟨hm, hms⟩ := List.nodup_cons.1 hn
    rw [List.foldl_cons]
    by_cases h : m = l
    · subst h
      exact rest _ _ fun n hnm => after n (List.mem_cons_of_mem m hnm) fun e => hm (e ▸ hnm)
    · rw [before m List.mem_cons_self h]
      exact ih ((List.mem_cons.1 hl).resolve_left (Ne.symm h)) hms (fun n hn => before n (List.mem_cons_of_mem m hn))
        (fun n hn => after n (List.mem_cons_of_mem m hn))

end Sys2Proof.Machine
end

section
/-! PROOF of O24. The release and the halt of cores by a write of CORERUN. -/

namespace Sys2Proof.Machine

/-! ### The watchdogs follow -/

/-- The watchdogs' clocks, and the registers. -/
def Frame.watchdogs : Frame where
  upd t s := { s with regs := t.regs, wdStart := t.wdStart, wdOut := t.wdOut }
  self _ := rfl
  twice _ _ _ := rfl
  regs _ _ := rfl

theorem State.wdInterval_only {p : Nat → Prop} (s : State) (l : Nat) : Frame.watchdogs.Only p s (s.wdInterval l) :=
  Frame.Only.refl.put rfl rfl

/-- The watchdogs follow: of the registers, WDSTAT of each core that counts. -/
theorem State.wdUpdate_only (s : State) : Frame.watchdogs.Only (fun a => ∃ l, l < 5 ∧ a = R.WDSTAT l) s s.wdUpdate := by
  unfold State.wdUpdate
  refine .foldl (fun s l hl h => ?_) .refl
  have hl5 : l < 5 := by simpa using (mem_upFrom.1 (List.mem_filter.1 hl).1).2
  have hw : ∃ k, k < 5 ∧ R.WDSTAT l = R.WDSTAT k := ⟨l, hl5, rfl⟩
  have hs (x : Nat) := h.setFld R.WDSTAT_COUNTING x hw
  exact .ite _ h (.ite _ (((hs _).trans (State.wdInterval_only _ l)).setFld _ _ hw) (hs _))

theorem State.wdUpdate_rd (s : State) {a : Nat} (h : a < 0x400E070C ∨ 0x400E0750 ≤ a) : s.wdUpdate.rd a = s.rd a := by
  refine s.wdUpdate_only.rd ?_
  rintro ⟨l, hl, rfl⟩
  simp only [R.WDSTAT] at h
  omega

theorem State.wdUpdate_core (s : State) (l : Nat) : s.wdUpdate.core l = s.core l := s.wdUpdate_only.keep (State.core · l) fun _ => rfl
theorem State.wdUpdate_bell (s : State) (l : Nat) : s.wdUpdate.bell l = s.bell l := s.wdUpdate_only.keep (State.bell · l) fun _ => rfl

/-! ### The release and the halt of one core -/

/-- Bit `l` of CORERUN.RUN. -/
def State.released (s : State) (l : Nat) : Bool := (s.fld R.CORERUN R.CORERUN_RUN).testBit l

theorem State.released_eq (s : State) {l : Nat} (h : l < 5) : s.released l = (s.rd R.CORERUN).getLsbD l := by
  simp [State.released, State.fld, F.testBit_get, R.CORERUN_RUN, h]

theorem State.released_setRun (s : State) {l k : Nat} (hl : l < 5) (hk : k < 5) (on : Bool) :
    (s.setFld R.CORERUN ⟨l, 1⟩ on.toNat).released k = if k = l then on else s.released k := by
  rw [State.released_eq _ hk, State.released_eq _ hk, State.setFld, State.rd_wr_self, F.getLsbD_put _ _ _ _ (by omega)]
  by_cases h : k = l
  · subst h; cases on <;> simp
  · rw [if_neg (by simp only; omega), if_neg h]

theorem State.released_congr {s t : State} (h : t.rd R.CORERUN = s.rd R.CORERUN) (k : Nat) : t.released k = s.released k := by
  simp [State.released, State.fld, h]

/-- The core as its release leaves it. -/
def State.releasedCore (s : State) (l : Nat) : Core :=
  let c := s.core l
  { c with started := true, third := false, pc := if c.started then c.pc else s.rd (R.GENTRY l) }

theorem State.coreRelease_eq (s : State) (l : Nat) :
    s.coreRelease l = ((s.setCore l (s.releasedCore l)).setFld R.CORERUN ⟨l, 1⟩ 1).wdUpdate := by
  unfold State.coreRelease State.releasedCore
  extract_lets c c' s'
  have e : { c' with third := false } =
      { c with started := true, third := false, pc := if c.started then c.pc else s.rd (R.GENTRY l) } := by
    cases h : c.started
    · simp [c', h]
    · simp [c', h]
  simp only [s', e]

theorem State.coreRelease_core (s : State) (l : Nat) : (s.coreRelease l).core l = s.releasedCore l := by
  rw [s.coreRelease_eq, State.wdUpdate_core]
  exact s.setCore_core_self l _

theorem State.coreRelease_released (s : State) {l k : Nat} (hl : l < 5) (hk : k < 5) :
    (s.coreRelease l).released k = if k = l then true else s.released k := by
  rw [s.coreRelease_eq, State.released_congr (State.wdUpdate_rd _ (by decide))]
  exact State.released_setRun _ hl hk true

theorem State.bellDrop_regs (s : State) (l : Nat) (p : BellReq → Bool) {a : Nat} (ha : a ≠ R.BELLCNT l) :
    (s.bellDrop l p).rd a = s.rd a :=
  State.rd_count_ne _ _ _ ha

theorem State.coreHold_core (s : State) (l : Nat) : (s.coreHold l).core l = s.core l := State.wdUpdate_core _ l

theorem State.coreHold_bell (s : State) (l : Nat) : (s.coreHold l).bell l = [] := by
  rw [State.coreHold, State.wdUpdate_bell]
  refine (Tab.get_put_self ..).trans ?_
  simp

theorem State.coreHold_released (s : State) {l k : Nat} (hl : l < 5) (hk : k < 5) :
    (s.coreHold l).released k = if k = l then false else s.released k := by
  have hb : R.CORERUN ≠ R.BELLCNT l := by simp only [R.CORERUN, R.BELLCNT]; omega
  rw [State.coreHold, State.released_congr (State.wdUpdate_rd _ (by decide)), State.released_congr (State.bellDrop_regs _ l _ hb)]
  exact State.released_setRun _ hl hk false

/-! ### The write of CORERUN -/

theorem State.coreList_nodup (s : State) : s.coreList.Nodup := (show (upFrom 0 5).Nodup by decide).filter _

theorem State.mem_coreList {s : State} {l : Nat} : l ∈ s.coreList ↔ l < 5 ∧ s.variant.hasCore l = true := by
  simp [State.coreList, mem_upFrom]

/-- One core of a write of CORERUN. -/
def State.runBit (v : Word) (s : State) (l : Nat) : State :=
  let on := (s.fld R.CORERUN R.CORERUN_RUN).testBit l
  if v.getLsbD l && !on then s.coreRelease l else if !v.getLsbD l && on then s.coreHold l else s

theorem State.runBit_same {s : State} {v : Word} {l : Nat} (h : v.getLsbD l = s.released l) : s.runBit v l = s := by
  unfold State.runBit
  extract_lets on
  have e : v.getLsbD l = on := h
  rw [e]
  cases on <;> rfl

theorem State.corerunWrite_eq {s : State} {v : Word} (h : ∀ k, k < 5 → v.getLsbD k = true → s.variant.hasCore k = true) :
    s.corerunWrite v = s.coreList.foldl (State.runBit v) s := by
  have hn : ((upFrom 0 5).any fun l => v.getLsbD l && !s.variant.hasCore l) = false := by
    rw [List.any_eq_false]
    intro k hk
    have h5 := (mem_upFrom.1 hk).2
    cases hv : v.getLsbD k
    · simp
    · simp [h k (by omega) hv]
  unfold State.corerunWrite
  extract_lets absent
  rw [if_neg (by rw [show absent = false from hn]; decide)]
  rfl

/-- A write that changes the bit of one core, which the variant has, acts on that core alone. -/
theorem State.corerunWrite_one {s : State} {v : Word} {l : Nat} (hl : l < 5) (hc : s.variant.hasCore l = true)
    (hv : ∀ k, k < 5 → v.getLsbD k = true → s.variant.hasCore k = true)
    (hk : ∀ k, k < 5 → k ≠ l → v.getLsbD k = s.released k)
    (ht : ∀ k, k < 5 → k ≠ l → (s.runBit v l).released k = s.released k) : s.corerunWrite v = s.runBit v l := by
  rw [State.corerunWrite_eq hv]
  refine foldl_only (State.mem_coreList.2 ⟨hl, hc⟩) s.coreList_nodup (fun k hm hne => ?_) (fun k hm hne => ?_)
  · exact State.runBit_same (hk k (State.mem_coreList.1 hm).1 hne)
  · have h5 := (State.mem_coreList.1 hm).1
    exact State.runBit_same ((hk k h5 hne).trans (ht k h5 hne).symm)

/-- RUN has no bit of a core that the variant lacks. -/
theorem State.hasCore_of_released {s : State} (h : s.fld R.CORERUN R.CORERUN_RUN < 2 ^ (s.variant.nInd + 1)) {k : Nat}
    (hk : s.released k = true) : s.variant.hasCore k = true := by
  by_contra hn
  have lt : s.variant.nInd + 1 ≤ k := by simpa [Variant.hasCore] using hn
  have := Nat.testBit_lt_two_pow (Nat.lt_of_lt_of_le h (Nat.pow_le_pow_right (by decide) lt))
  exact absurd (this.symm.trans hk) (by decide)

theorem getLsbD_or_bit (v : Word) {l k : Nat} (hk : k < 5) : (v ||| BitVec.ofNat 32 (2 ^ l)).getLsbD k = (v.getLsbD k || decide (l = k)) := by
  rw [BitVec.getLsbD_or, BitVec.getLsbD_ofNat, Nat.testBit_two_pow, decide_eq_true (show k < 32 by omega), Bool.true_and]

theorem getLsbD_and_not_bit (v : Word) {l k : Nat} (hk : k < 5) :
    (v &&& ~~~(BitVec.ofNat 32 (2 ^ l))).getLsbD k = (v.getLsbD k && !decide (l = k)) := by
  rw [BitVec.getLsbD_and, BitVec.getLsbD_not, BitVec.getLsbD_ofNat, Nat.testBit_two_pow, decide_eq_true (show k < 32 by omega),
    Bool.true_and, Bool.true_and]

section
variable {s : State} {l : Nat} (hl : l < 5) (hr : s.fld R.CORERUN R.CORERUN_RUN < 2 ^ (s.variant.nInd + 1))
include hl hr

theorem State.corerunWrite_release (hc : s.variant.hasCore l = true) (hoff : s.released l = false) :
    s.corerunWrite (s.rd R.CORERUN ||| BitVec.ofNat 32 (2 ^ l)) = s.coreRelease l := by
  have one : s.runBit (s.rd R.CORERUN ||| BitVec.ofNat 32 (2 ^ l)) l = s.coreRelease l := by
    unfold State.runBit
    exact if_pos (by rw [getLsbD_or_bit _ hl]; simpa [State.released] using hoff)
  rw [← one]
  refine State.corerunWrite_one hl hc (fun k hk hb => ?_) (fun k hk hne => ?_) (fun k hk hne => ?_)
  · rw [getLsbD_or_bit _ hk, ← s.released_eq hk] at hb
    by_cases h : l = k
    · exact h ▸ hc
    · exact State.hasCore_of_released hr (by simpa [h] using hb)
  · rw [getLsbD_or_bit _ hk, s.released_eq hk]
    simp [Ne.symm hne]
  · rw [one, s.coreRelease_released hl hk, if_neg hne]

theorem State.corerunWrite_hold (hc : s.variant.hasCore l = true) (hon : s.released l = true) :
    s.corerunWrite (s.rd R.CORERUN &&& ~~~(BitVec.ofNat 32 (2 ^ l))) = s.coreHold l := by
  have one : s.runBit (s.rd R.CORERUN &&& ~~~(BitVec.ofNat 32 (2 ^ l))) l = s.coreHold l := by
    unfold State.runBit
    extract_lets on
    have on' : on = true := hon
    rw [getLsbD_and_not_bit _ hl, on']
    simp
  rw [← one]
  refine State.corerunWrite_one hl hc (fun k hk hb => ?_) (fun k hk hne => ?_) (fun k hk hne => ?_)
  · rw [getLsbD_and_not_bit _ hk, ← s.released_eq hk] at hb
    exact State.hasCore_of_released hr (Bool.and_eq_true_iff.1 hb).1
  · rw [getLsbD_and_not_bit _ hk, s.released_eq hk]
    simp [Ne.symm hne]
  · rw [one, s.coreHold_released hl hk, if_neg hne]

end

theorem State.corerunWrite_absent {s : State} {l : Nat} (hl : l < 5) (hc : s.variant.hasCore l = false) :
    s.corerunWrite (s.rd R.CORERUN ||| BitVec.ofNat 32 (2 ^ l)) = s.wr R.MODERESP (BitVec.ofNat 32 (4 + 65536 * 7)) := by
  unfold State.corerunWrite
  refine if_pos (List.any_eq_true.2 ⟨l, mem_upFrom.2 ⟨Nat.zero_le l, by omega⟩, ?_⟩)
  rw [getLsbD_or_bit _ hl, hc]
  simp

/-- Only Guard ring 0 of G reaches CORERUN with a write, and what it writes there is the write of CORERUN (R45). -/
theorem State.Reaches.corerun {s : State} {v : Word} (h : s.Reaches (.core 0) R.CORERUN v) :
    s.request (.core 0) R.CORERUN v =
      { s.corerunWrite v with owners := (s.corerunWrite v).owners.put (blockOf R.CORERUN) (0, (s.core 0).guard) } := by
  have hb : s.regBars (s.who 0) R.CORERUN false true v = false := State.regBars_of_dataFault h.2.2.2.1 (by decide) (by decide)
  have hg : ((s.who 0).guard0 && (s.who 0).id == 0) = true := by
    change (true && !((s.who 0).guard0 && (s.who 0).id == 0)) = false at hb
    simpa using hb
  rw [h.request_core (by decide), State.busWrite_core rfl (by decide)]
  have e : s.regWrite (s.who 0) R.CORERUN v = (s.corerunWrite v, true) := by
    change (if ((s.who 0).guard0 && (s.who 0).id == 0) = true then (s.corerunWrite v, true) else (s, false)) = _
    rw [if_pos hg]
  rw [e, if_pos rfl]
  rfl

/-- A write of CORERUN by G leads to what the write itself does, as far as one looks at neither owners nor interrupts. -/
theorem does_corerun {s u : State} {v : Word} {i : Instr} {P : State → Prop} (hi : exec i s = done s (s.request (.core 0) R.CORERUN v))
    (hu : s.corerunWrite v = u)
    (hP : ∀ t : State, (∀ l, t.core l = u.core l) → (∀ l, t.bell l = u.bell l) → (∀ a, offIrq a → t.rd a = u.rd a) → P t) :
    s.Does (.core 0) R.CORERUN v i P := by
  intro h
  refine State.Leads.of_done (hi.trans (by rw [h.corerun, hu])) fun t ht => hP t ?_ ?_ ?_
  · exact fun l => ht.core l
  · exact fun l => ht.keep (State.bell · l) fun _ => rfl
  · exact fun a ha => ht.rd ha

/-- Settles O24, from the release and the hold of one core. -/
theorem coresAreReleasedAndHalted : Obligations.CoresAreReleasedAndHalted := by
  intro s l hl hr
  refine ⟨fun hc hoff => ?_, fun hc hon => ?_, fun hc => ?_⟩
  · refine does_corerun rfl (State.corerunWrite_release hl hr hc hoff) fun t core _ rd => ⟨?_, (core l).trans (s.coreRelease_core l)⟩
    exact (State.released_congr (rd _ (by decide)) l).trans ((s.coreRelease_released hl hl).trans (if_pos rfl))
  · refine does_corerun rfl (State.corerunWrite_hold hl hr hc hon) fun t core bell rd =>
      ⟨?_, (core l).trans (s.coreHold_core l), (bell l).trans (s.coreHold_bell l)⟩
    exact (State.released_congr (rd _ (by decide)) l).trans ((s.coreHold_released hl hl).trans (if_pos rfl))
  · refine does_corerun rfl (State.corerunWrite_absent hl hc) fun t _ _ rd => ?_
    have resp : t.rd R.MODERESP = BitVec.ofNat 32 (4 + 65536 * 7) := (rd _ (by decide)).trans (s.rd_wr_self _ _)
    refine ⟨(rd _ (by decide)).trans (s.rd_wr_ne _ _ _ (by decide)), ?_, ?_⟩
    · rw [State.fld, resp]; decide
    · rw [State.fld, resp]; decide

end Sys2Proof.Machine
end

section
/-! PROOF of O33. The write of TBCMD: why a timebase command is refused, or that it waits for the boundary. -/

namespace Sys2Proof.Machine

theorem tbcmd_shared {i : Nat} (h : i < 32) : sharedAddr (R.TBCMD i) := by
  revert i; decide

/-- A write of TBCMD is the command that it spells. -/
theorem State.regWrite_tbcmd (s : State) (w : Who) {i : Nat} (h : i < 32) (v : Word) :
    (s.regWrite w (R.TBCMD i) v).1 = s.tbCmd w i (R.TBCMD_CMD.get v) (R.TBCMD_NEWSRC.get v) := by
  have hwin : R.TBCMD i / 0x10000 = 0x4001 := by simp only [R.TBCMD]; omega
  have hoff : R.TBCMD i % 0x10000 = 0x1C + 0x40 * i := by simp only [R.TBCMD]; omega
  have hmod : (0x1C + 0x40 * i) % 0x40 = 0x1C := by omega
  have hdiv : (0x1C + 0x40 * i) / 0x40 = i := by omega
  unfold State.regWrite
  simp only [hwin, hoff]
  unfold State.posWrite
  rw [if_pos (by omega)]
  simp only [hmod, hdiv, kindUses, Bool.not_true, Bool.false_eq_true, if_false]

/-- A command of 1 to 6 waits, or leaves its code in WSTAT. -/
theorem State.tbCmd_eq (s : State) (w : Who) (i cmd n : Nat) (h : cmd ≠ 0 ∧ cmd ≠ 7) :
    s.tbCmd w i cmd n =
      if s.tbCmdCode w i cmd n = 0 then
        s.setTb i { s.tb i with
          cmd := some { cmd := cmd, newsrc := n, dueK := nextBoundary s.now, atK := s.now, who := w.id, guard := w.guard, ring := w.ring }
          wstat := 0 }
      else s.tbStat i (s.tbCmdCode w i cmd n) := by
  unfold State.tbCmd
  rw [if_neg (by omega)]

/-- A command that waits already keeps requester `w` out. -/
def State.tbBusy (s : State) (w : Who) (i : Nat) : Bool := (s.tb i).cmd.isSome && !s.tbReplaces w i

/-- A watch channel is assigned to timebase `i`, and the hand-over has not happened (R54). -/
def State.tbWatched (s : State) (i : Nat) : Bool :=
  (upFrom 0 4).any (fun n => s.fld (R.HWCFG n) R.HWCFG_ASSIGNED == 1 && s.fld (R.HWCFG n) R.HWCFG_TB == i) && !s.handed

theorem State.tbWatched_iff (s : State) (i : Nat) : s.tbWatched i = true ↔ s.awaitsHandover i := by
  simp only [State.tbWatched, State.awaitsHandover, Bool.and_eq_true, Bool.not_eq_true', List.any_eq_true, mem_upFrom, beq_iff_eq,
    Nat.zero_le, true_and, Nat.zero_add]
  exact And.comm

/-- The kinds whose timebases have a command. -/
def tbKindHas (cmd k : Nat) : Bool :=
  match cmd with
  | 1 | 3 => k == 1 || k == 3 || k == 6
  | 2 | 4 => k == 1
  | _ => k == 1 || k == 3

/-- Why a new source is refused: ABSENT, COND or ORDER; 0 when it is not (R107, R114). -/
def State.tbSourceCode (s : State) (i n : Nat) : Nat :=
  if s.kind i = 1 then
    if s.variant.nLocal ≤ n then 4 else if (s.chan n).state == .off || (s.chan n).state == .fault then 2 else 0
  else if !s.variant.hasTb n then 4 else if s.badChain i n then 5 else 0

/-- The order in which a command is judged. -/
theorem State.tbCmdCode_eq (s : State) (w : Who) (i cmd n : Nat) :
    s.tbCmdCode w i cmd n =
      if !tbKindHas cmd (s.kind i) then 1
      else if s.tbBusy w i then 3
      else if (cmd == 1 || cmd == 3) && s.tbWatched i then 3
      else if (cmd == 1 || cmd == 3) && (s.tb i).state != .run then 2
      else if cmd == 6 && s.mode != .prepare then 7
      else if cmd == 5 || cmd == 6 then s.tbSourceCode i n
      else 0 := by
  unfold State.tbCmdCode State.tbWatched
  simp only [Bool.and_assoc]
  rfl

section
variable {s : State} {w : Who} {i cmd n : Nat}

theorem State.tbCmdCode_kind (h : tbKindHas cmd (s.kind i) = false) : s.tbCmdCode w i cmd n = 1 := by simp [State.tbCmdCode_eq, h]

variable (hk : tbKindHas cmd (s.kind i) = true)
include hk

theorem State.tbCmdCode_busy (h : s.tbBusy w i = true) : s.tbCmdCode w i cmd n = 3 := by simp [State.tbCmdCode_eq, hk, h]

variable (hb : s.tbBusy w i = false)
include hb

theorem State.tbCmdCode_watched (h : cmd = 1 ∨ cmd = 3) (hw : s.tbWatched i = true) : s.tbCmdCode w i cmd n = 3 := by
  simp [State.tbCmdCode_eq, hk, hb, h, hw]

theorem State.tbCmdCode_stopped (h : cmd = 1 ∨ cmd = 3) (hw : s.tbWatched i = false) (hr : (s.tb i).state ≠ .run) :
    s.tbCmdCode w i cmd n = 2 := by
  simp [State.tbCmdCode_eq, hk, hb, h, hw, hr]

/-- SET, ACCEPT, SHIFT and UNREF are accepted. -/
theorem State.tbCmdCode_plain (h : cmd = 1 ∨ cmd = 2 ∨ cmd = 3 ∨ cmd = 4)
    (hc : cmd = 1 ∨ cmd = 3 → s.tbWatched i = false ∧ (s.tb i).state = .run) : s.tbCmdCode w i cmd n = 0 := by
  rw [State.tbCmdCode_eq]
  rcases h with rfl | rfl | rfl | rfl
  · simp [hk, hb, hc (.inl rfl)]
  · simp [hk, hb]
  · simp [hk, hb, hc (.inr rfl)]
  · simp [hk, hb]

theorem State.tbCmdCode_notNow (h : cmd = 6) (hm : s.mode ≠ .prepare) : s.tbCmdCode w i cmd n = 7 := by
  subst h
  simp [State.tbCmdCode_eq, hk, hb, hm]

/-- A switch is judged by its new source. -/
theorem State.tbCmdCode_switch (h : cmd = 5 ∨ cmd = 6) (hm : cmd = 6 → s.mode = .prepare) :
    s.tbCmdCode w i cmd n = s.tbSourceCode i n := by
  rw [State.tbCmdCode_eq]
  rcases h with rfl | rfl
  · simp [hk, hb]
  · simp [hk, hb, hm rfl]

end

/-! ### The request -/

theorem State.entered_tb (s : State) (r : Rq) (a : Nat) (v : Word) (i : Nat) : (s.entered r a v).tb i = s.tb i := by cases r <;> rfl
theorem State.entered_now (s : State) (r : Rq) (a : Nat) (v : Word) : (s.entered r a v).now = s.now := by cases r <;> rfl
theorem State.entered_tbCmdCode (s : State) (r : Rq) (a : Nat) (v : Word) (w : Who) (i cmd n : Nat) :
    (s.entered r a v).tbCmdCode w i cmd n = s.tbCmdCode w i cmd n := by cases r <;> rfl

/-- What a timebase is when a command written to it has been judged. -/
def State.tbJudged (s : State) (w : Who) (i cmd n : Nat) : Timebase :=
  if s.tbCmdCode w i cmd n = 0 then
    { s.tb i with
      cmd := some { cmd := cmd, newsrc := n, dueK := nextBoundary s.now, atK := s.now, who := w.id, guard := w.guard, ring := w.ring }
      wstat := 0 }
  else { s.tb i with wstat := s.tbCmdCode w i cmd n }

theorem State.tbCmd_tb (s : State) (w : Who) (i cmd n : Nat) (h : cmd ≠ 0 ∧ cmd ≠ 7) : (s.tbCmd w i cmd n).tb i = s.tbJudged w i cmd n := by
  rw [s.tbCmd_eq w i cmd n h, State.tbJudged]
  by_cases hc : s.tbCmdCode w i cmd n = 0
  · rw [if_pos hc, if_pos hc, State.setTb_tb_self]
  · rw [if_neg hc, if_neg hc]
    exact s.setTb_tb_self i _

/-- A command is judged by the state before it. -/
theorem does_tbcmd {s : State} {r : Rq} {i cmd n : Nat} {v : Word} {c : Instr} {P : State → Prop} (hi : i < 32) (h : cmd ≠ 0 ∧ cmd ≠ 7)
    (hv : R.TBCMD_CMD.get v = cmd ∧ R.TBCMD_NEWSRC.get v = n) (hc : exec c s = done s (s.request r (R.TBCMD i) v))
    (hP : ((s.asker r).isStaff = true ↔ r = .staff) → ∀ t : State, t.tb i = s.tbJudged (s.asker r) i cmd n → P t) :
    s.Does r (R.TBCMD i) v c P := by
  refine does_of_request hc (tbcmd_shared hi) fun hr t ht => hP hr.asker_isStaff t ?_
  rw [State.regWrite_tbcmd _ _ hi, hv.1, hv.2] at ht
  rw [ht.keep (State.tb · i) fun _ => rfl, State.tbCmd_tb _ _ _ _ _ h]
  unfold State.tbJudged
  rw [State.entered_tbCmdCode, State.entered_tb, State.entered_now]

theorem State.tbBusy_iff (s : State) {r : Rq} (hr : (s.asker r).isStaff = true ↔ r = .staff) (i : Nat) :
    s.tbBusy (s.asker r) i = true ↔ ∃ c, (s.tb i).cmd = some c ∧ ¬(r = .staff ∧ c.who ≠ 5 ∧ c.atK = s.now) := by
  unfold State.tbBusy State.tbReplaces
  cases (s.tb i).cmd with
  | none => simp
  | some c => cases hs : (s.asker r).isStaff <;> simp [← hr, hs, or_iff_not_imp_left]

section
variable {s : State} {r : Rq} {i cmd n : Nat} {t : State} (ht : t.tb i = s.tbJudged (s.asker r) i cmd n)
include ht

theorem tb_taken (hc : s.tbCmdCode (s.asker r) i cmd n = 0) :
    (t.tb i).wstat = 0 ∧ (t.tb i).word = (s.tb i).word ∧ (t.tb i).cmd =
      some { cmd := cmd, newsrc := n, dueK := (s.now / 8 + 1) * 8, atK := s.now
             who := (s.asker r).id, guard := (s.asker r).guard, ring := (s.asker r).ring } := by
  rw [ht, State.tbJudged, if_pos hc]
  exact ⟨rfl, rfl, rfl⟩

theorem tb_refused {code : Nat} (hc : s.tbCmdCode (s.asker r) i cmd n = code) (h : code ≠ 0) :
    t.tb i = { s.tb i with wstat := code } := by
  rw [ht, State.tbJudged, hc, if_neg h]

end

/-- The rows of R114 without a new source: what the command writes, and which kinds have it. -/
theorem TbRow.facts {row : Rq → Nat → Instr} {cmd : Nat} {kinds : List Nat} (h : TbRow row cmd kinds) :
    (∀ r i s, exec (row r i) s = done s (s.request r (R.TBCMD i) (R.TBCMD_CMD.put 0 cmd))) ∧
      (cmd = 1 ∨ cmd = 2 ∨ cmd = 3 ∨ cmd = 4) ∧ ∀ k, tbKindHas cmd k = true ↔ k ∈ kinds := by
  cases h with
  | set => exact ⟨fun _ _ _ => rfl, by decide, fun k => by simp [tbKindHas, or_assoc]⟩
  | accept => exact ⟨fun _ _ _ => rfl, by decide, fun k => by simp [tbKindHas]⟩
  | shift => exact ⟨fun _ _ _ => rfl, by decide, fun k => by simp [tbKindHas, or_assoc]⟩
  | unref => exact ⟨fun _ _ _ => rfl, by decide, fun k => by simp [tbKindHas]⟩

theorem SwitchRow.facts {row : Rq → Nat → Nat → Instr} {cmd : Nat} (h : SwitchRow row cmd) :
    (∀ r i n s, exec (row r i n) s = done s (s.request r (R.TBCMD i) (R.TBCMD_NEWSRC.put (R.TBCMD_CMD.put 0 cmd) n))) ∧
      (cmd = 5 ∨ cmd = 6) ∧ ∀ k, tbKindHas cmd k = true ↔ k = 1 ∨ k = 3 := by
  cases h with
  | switchb => exact ⟨fun _ _ _ _ => rfl, by decide, fun k => by simp [tbKindHas]⟩
  | switchd => exact ⟨fun _ _ _ _ => rfl, by decide, fun k => by simp [tbKindHas]⟩

theorem tbcmd_get {cmd : Nat} (h : cmd < 8) : R.TBCMD_CMD.get (R.TBCMD_CMD.put 0 cmd) = cmd ∧ R.TBCMD_NEWSRC.get (R.TBCMD_CMD.put 0 cmd) = 0 := by
  revert cmd; decide

theorem tbcmd_get_switch {cmd n : Nat} (h : cmd < 8) (hn : n < 32) :
    R.TBCMD_CMD.get (R.TBCMD_NEWSRC.put (R.TBCMD_CMD.put 0 cmd) n) = cmd ∧
      R.TBCMD_NEWSRC.get (R.TBCMD_NEWSRC.put (R.TBCMD_CMD.put 0 cmd) n) = n := by
  rw [F.get_put_apart (g := R.TBCMD_CMD) _ _ (.inl (by decide)), F.get_put_self R.TBCMD_NEWSRC _ _ (by decide)]
  exact ⟨(tbcmd_get h).1, Nat.mod_eq_of_lt hn⟩

/-- Settles O33, code by code in the order in which a command is judged. -/
theorem timebaseCommandsWaitForTheBoundary : Obligations.TimebaseCommandsWaitForTheBoundary := by
  intro s r i hi _
  refine ⟨fun row cmd kinds hrow => ?_, fun row cmd n hrow hn => ?_⟩
  · obtain ⟨hexec, hcmd, hkind⟩ := hrow.facts
    have does {P : State → Prop} (hP : ((s.asker r).isStaff = true ↔ r = .staff) → ∀ t : State,
        t.tb i = s.tbJudged (s.asker r) i cmd 0 → P t) : s.Does r (R.TBCMD i) (R.TBCMD_CMD.put 0 cmd) (row r i) P :=
      does_tbcmd hi (by omega) (tbcmd_get (by omega)) (hexec r i s) hP
    refine ⟨fun hk hb hc => ?_, fun hk => ?_, fun hk hb => ?_, fun hk hb h13 hw => ?_, fun hk hb h13 hw hs => ?_⟩
    · refine does fun hr t ht => tb_taken ht (State.tbCmdCode_plain ((hkind _).2 hk) ?_ hcmd fun h => ?_)
      · rw [← s.tbBusy_iff hr, Bool.not_eq_true] at hb
        exact hb
      · obtain ⟨run, hw⟩ := hc h
        rw [← s.tbWatched_iff, Bool.not_eq_true] at hw
        exact ⟨hw, run⟩
    · refine does fun hr t ht => tb_refused ht (State.tbCmdCode_kind ?_) (by decide)
      rwa [← hkind, Bool.not_eq_true] at hk
    · exact does fun hr t ht => tb_refused ht (State.tbCmdCode_busy ((hkind _).2 hk) ((s.tbBusy_iff hr i).2 hb)) (by decide)
    · refine does fun hr t ht => tb_refused ht (State.tbCmdCode_watched ((hkind _).2 hk) ?_ h13 ((s.tbWatched_iff i).2 hw)) (by decide)
      rwa [← s.tbBusy_iff hr, Bool.not_eq_true] at hb
    · refine does fun hr t ht => tb_refused ht (State.tbCmdCode_stopped ((hkind _).2 hk) ?_ h13 ?_ hs) (by decide)
      · rwa [← s.tbBusy_iff hr, Bool.not_eq_true] at hb
      · rwa [← s.tbWatched_iff, Bool.not_eq_true] at hw
  · obtain ⟨hexec, hcmd, hkind⟩ := hrow.facts
    have does {P : State → Prop} (hP : ((s.asker r).isStaff = true ↔ r = .staff) → ∀ t : State,
        t.tb i = s.tbJudged (s.asker r) i cmd n → P t) :
        s.Does r (R.TBCMD i) (R.TBCMD_NEWSRC.put (R.TBCMD_CMD.put 0 cmd) n) (row r i n) P :=
      does_tbcmd hi (by omega) (tbcmd_get_switch (by omega) hn) (hexec r i n s) hP
    refine ⟨fun h1 h3 => ?_, fun hk hb => ?_, fun hk hb h6 hm => ?_, fun hb hm => ?_⟩
    · refine does fun hr t ht => tb_refused ht (State.tbCmdCode_kind ?_) (by decide)
      rw [← Bool.not_eq_true, hkind]
      omega
    · exact does fun hr t ht => tb_refused ht (State.tbCmdCode_busy ((hkind _).2 hk) ((s.tbBusy_iff hr i).2 hb)) (by decide)
    · refine does fun hr t ht => tb_refused ht (State.tbCmdCode_notNow ((hkind _).2 hk) ?_ h6 hm) (by decide)
      rwa [← s.tbBusy_iff hr, Bool.not_eq_true] at hb
    · have judged (hk : s.kind i = 1 ∨ s.kind i = 3) (hr : (s.asker r).isStaff = true ↔ r = .staff) :
          s.tbCmdCode (s.asker r) i cmd n = s.tbSourceCode i n := by
        refine State.tbCmdCode_switch ((hkind _).2 hk) ?_ hcmd hm
        rwa [← s.tbBusy_iff hr, Bool.not_eq_true] at hb
      refine ⟨fun hk hl => ?_, fun hk hl hc => ?_, fun hk hl hc => ?_, fun hk hl => ?_, fun hk hl h3 hle => ?_, fun hk hl h3 => ?_⟩
      · exact does fun hr t ht => tb_refused ht ((judged (.inl hk) hr).trans (by simp [State.tbSourceCode, hk, hl])) (by decide)
      · have hc' : (s.chan n).state = .off ∨ (s.chan n).state = .fault := by simpa using hc
        exact does fun hr t ht => tb_refused ht
          ((judged (.inl hk) hr).trans (by simp [State.tbSourceCode, hk, Nat.not_le.2 hl, hc'])) (by decide)
      · have hc' : ¬((s.chan n).state = .off ∨ (s.chan n).state = .fault) := by
          rcases (by simpa using hc : (s.chan n).state = .sync ∨ (s.chan n).state = .track) with e | e <;> rw [e] <;> decide
        exact does fun hr t ht => tb_taken ht ((judged (.inl hk) hr).trans (by simp [State.tbSourceCode, hk, Nat.not_le.2 hl, hc']))
      · exact does fun hr t ht => tb_refused ht ((judged (.inr hk) hr).trans (by simp [State.tbSourceCode, hk, hl])) (by decide)
      · exact does fun hr t ht => tb_refused ht
          ((judged (.inr hk) hr).trans (by simp [State.tbSourceCode, State.badChain, hk, hl, h3, hle])) (by decide)
      · have hch : s.badChain i n = false := by
          by_cases h : s.kind n = 3
          · simp [State.badChain, h, h3 h]
          · simp [State.badChain, h]
        exact does fun hr t ht => tb_taken ht ((judged (.inr hk) hr).trans (by simp [State.tbSourceCode, hk, hl, hch]))

end Sys2Proof.Machine
end

section
/-! SUPPORT. What the MRAM controller, the Logbook's buffer, the safe path and an accepted transition leave unchanged. -/

namespace Sys2Proof.Machine

/-! ### Memory -/

/-- Memory with its check bits, the MRAM controller and the store buffers that it acknowledges. -/
def Frame.memory : Frame where
  upd t s := { s with regs := t.regs, mem := t.mem, ecc := t.ecc, mrq := t.mrq, mrRun := t.mrRun, cores := t.cores, openLines := t.openLines
                      scrub := t.scrub, scrubDue := t.scrubDue }
  self _ := rfl
  twice _ _ _ := rfl
  regs _ _ := rfl

/-- The Logbook's buffer, its entries in MRAM, and the free values. -/
def Frame.logbook : Frame where
  upd t s := { s with regs := t.regs, mem := t.mem, logQ := t.logQ, freeCtr := t.freeCtr }
  self _ := rfl
  twice _ _ _ := rfl
  regs _ _ := rfl

/-- The registers of memory errors and of the scrubber. -/
@[reducible] def memReg (a : Nat) : Prop := 0x400E3000 ≤ a ∧ a ≤ 0x400E3010

/-- The registers of the Logbook. -/
@[reducible] def logReg (a : Nat) : Prop := a = R.LBSTAT ∨ a = R.LBSEQ

section
variable {Φ : Frame} {p : Nat → Prop} {o s : State}

/-- Bytes stored change memory alone. -/
theorem Frame.Only.st (hm : ∀ (s : State) m, { s with mem := m } = Φ.upd { s with mem := m } s) (h : Φ.Only p o s) (n a v : Nat) :
    Φ.Only p o (s.st n a v) := by
  induction n generalizing s a v with
  | zero => exact h
  | succ n ih =>
    have k : Φ.Only p o (s.setByte a (BitVec.ofNat 8 v)) := h.put (hm s _) rfl
    exact ih k _ _

end

section
variable {o s : State}

theorem State.st_memory (h : Frame.memory.Only memReg o s) (n a v : Nat) : Frame.memory.Only memReg o (s.st n a v) :=
  h.st (fun _ _ => rfl) n a v

theorem State.poke_memory (h : Frame.memory.Only memReg o s) (n a v : Nat) : Frame.memory.Only memReg o (s.poke n a v) := by
  induction n generalizing s a v with
  | zero => exact h
  | succ n ih =>
    refine ih ?_ _ _
    unfold State.poke1
    split
    · exact State.st_memory h _ _ _
    · exact h.put rfl rfl

theorem State.noteUncorr_memory (h : Frame.memory.Only memReg o s) (a : Nat) (scrub : Bool) :
    Frame.memory.Only memReg o (s.noteUncorr a scrub) := by
  have c := h.count (a := R.MEMECC1) (eccField (memKind a)) 1 (by decide)
  exact .ite _ c ((c.wr _ (by decide)).wr _ (by decide))

theorem State.checkWord_memory (h : Frame.memory.Only memReg o s) (scrub : Bool) (w : Nat) :
    Frame.memory.Only memReg o (s.checkWord scrub w).1 := by
  unfold State.checkWord
  split
  · exact h
  · have c := (h.put (t := { s with ecc := s.ecc.erase (· == w) }) rfl rfl).count (a := R.MEMECC0) (eccField (memKind w)) 1 (by decide)
    exact .ite _ (c.count _ _ (by decide)) c
  · exact State.noteUncorr_memory h w scrub

theorem State.checkWords_memory (h : Frame.memory.Only memReg o s) (scrub : Bool) (ws : List Nat) :
    Frame.memory.Only memReg o (s.checkWords scrub ws).1 := by
  induction ws generalizing s with
  | nil => exact h
  | cons w ws ih => exact ih (State.checkWord_memory h scrub w)

theorem State.mergeWords_memory (h : Frame.memory.Only memReg o s) (a n : Nat) (ws : List Nat) :
    Frame.memory.Only memReg o (s.mergeWords a n ws) := by
  induction ws generalizing s with
  | nil => exact h
  | cons w ws ih =>
    have c := State.checkWord_memory h false w
    exact .ite _ (ih (h.put rfl rfl)) (ih (.ite _ (c.count _ _ (by decide)) c))

theorem State.store_memory (h : Frame.memory.Only memReg o s) (a n v : Nat) : Frame.memory.Only memReg o (s.store a n v) :=
  State.poke_memory (State.mergeWords_memory h _ _ _) _ _ _

theorem State.mrApply_memory (h : Frame.memory.Only memReg o s) (op : MrOp) : Frame.memory.Only memReg o (s.mrApply op) := by
  unfold State.mrApply
  split
  next who a n v =>
    have k := State.store_memory h a n v
    exact .ite _ (k.put rfl rfl) k
  next => exact h.put rfl rfl
  next =>
    refine State.st_memory ?_ _ _ _
    exact h.put rfl rfl

theorem State.scrubLine_memory (h : Frame.memory.Only memReg o s) : Frame.memory.Only memReg o s.scrubLine := by
  unfold State.scrubLine
  extract_lets a s'
  have k : Frame.memory.Only memReg o s' := State.checkWords_memory h true _
  clear_value s'
  refine .ite _ (.setFld ?_ _ _ (by decide)) ?_
  · exact k.put rfl rfl
  · exact k.put rfl rfl

theorem State.scrubLines_memory (h : Frame.memory.Only memReg o s) (n : Nat) : Frame.memory.Only memReg o (s.scrubLines n) := by
  induction n generalizing s with
  | zero => exact h
  | succ n ih =>
    unfold State.scrubLines
    exact ih (State.scrubLine_memory h)

theorem State.mrNext_memory (h : Frame.memory.Only memReg o s) : Frame.memory.Only memReg o s.mrNext := by
  unfold State.mrNext
  split
  · exact h
  next op rest _ =>
    extract_lets s'
    have k : Frame.memory.Only memReg o s' := by
      refine State.mrApply_memory ?_ op
      exact h.put rfl rfl
    clear_value s'
    refine .ite _ (State.scrubLines_memory ?_ _) k
    exact k.put rfl rfl

theorem State.mrDrop_memory (h : Frame.memory.Only memReg o s) (n : Nat) : Frame.memory.Only memReg o (s.mrDrop n) := by
  induction n generalizing s with
  | zero => exact h
  | succ n ih => exact ih (State.mrNext_memory h)

end

/-- The controller's queue runs empty. -/
theorem State.mrFlush_memory (s : State) : Frame.memory.Only memReg s s.mrFlush := State.mrDrop_memory .refl _

/-! ### The Logbook -/

section
variable {o s : State}

theorem State.logProgram_logbook (h : Frame.logbook.Only logReg o s) : Frame.logbook.Only logReg o s.logProgram := by
  unfold State.logProgram
  split
  · exact h
  next e rest _ =>
    have k := (h.put (t := { s with logQ := rest }) rfl rfl).st (fun _ _ => rfl)
    exact (((k _ _ _).st (fun _ _ => rfl) _ _ _).wr _ (.inr rfl)).setFld _ _ (.inl rfl)

theorem State.logPrograms_logbook (h : Frame.logbook.Only logReg o s) (n : Nat) : Frame.logbook.Only logReg o (s.logPrograms n) := by
  induction n generalizing s with
  | zero => exact h
  | succ n ih => exact ih (State.logProgram_logbook h)

theorem State.logRoom_logbook (h : Frame.logbook.Only logReg o s) : Frame.logbook.Only logReg o s.logRoom :=
  .ite _ h (State.logProgram_logbook ((h.put (t := s.free.2) rfl rfl).count _ _ (.inl rfl)))

end

theorem State.log_logbook (s : State) (path : Nat) (guard : Bool) (ring kind event addr old new : Nat) :
    Frame.logbook.Only logReg s (s.log path guard ring kind event addr old new) :=
  (State.logRoom_logbook .refl).put rfl rfl

theorem State.logFlush_logbook (s : State) : Frame.logbook.Only logReg s s.logFlush := State.logPrograms_logbook .refl _

theorem State.logCfg_logbook (s : State) (w : Who) (a : Nat) (old new : Word) : Frame.logbook.Only logReg s (s.logCfg w a old new) :=
  .ite _ (s.log_logbook _ _ _ _ _ _ _ _) .refl

/-- Every waiting entry has been programmed. -/
theorem State.logFlush_logQ (s : State) : s.logFlush.logQ = [] := by
  have h (n : Nat) (s : State) (hn : s.logQ.length = n) : (s.logPrograms n).logQ = [] := by
    induction n generalizing s with
    | zero => exact List.eq_nil_of_length_eq_zero hn
    | succ n ih =>
      refine ih _ ?_
      rw [State.logProgram_logQ, List.length_tail, hn, Nat.add_sub_cancel]
  exact h _ s rfl

/-! ### The safe path -/

/-- Every output. -/
def Frame.outputs : Frame where
  upd t s := { s with regs := t.regs, gens := t.gens, lines := t.lines, pwms := t.pwms, sds := t.sds, rcs := t.rcs, att := t.att }
  self _ := rfl
  twice _ _ _ := rfl
  regs _ _ := rfl

theorem State.safePath_outputs {p : Nat → Prop} (s : State) : Frame.outputs.Only p s s.safePath := by
  unfold State.safePath
  extract_lets s'
  have k : Frame.outputs.Only p s s' := .foldl (fun s g _ h => h.put rfl rfl) .refl
  clear_value s'
  exact k.put rfl rfl

/-- A table made of the values at consecutive keys. -/
theorem Tab.find_map_upFrom {α : Type} (f : Nat → α) {a n k : Nat} (h : a ≤ k ∧ k < a + n) :
    Tab.find ((upFrom a n).map fun i => (i, f i)) k = some (f k) := by
  induction n generalizing a with
  | zero => omega
  | succ n ih =>
    by_cases e : a = k
    · simp [upFrom, Tab.find, e]
    · simp only [upFrom, List.map_cons, Tab.find, if_neg e]
      exact ih (by omega)

theorem FdCopy.drop_all (c : FdCopy) : (c.drop fun _ => true).e0.v = false ∧ (c.drop fun _ => true).e1.v = false := by
  cases h0 : c.e0.v <;> cases h1 : c.e1.v <;> simp [FdCopy.drop, h0, h1, FdEntry.none]

theorem State.safePath_line (s : State) {l : Nat} (h : l < 64) : ∃ x : Line, s.safePath.line l = x.toSafe := by
  refine ⟨((upFrom 0 16).foldl State.genPark s).line l, ?_⟩
  have e : Tab.find s.safePath.lines l = some (((upFrom 0 16).foldl State.genPark s).line l).toSafe :=
    Tab.find_map_upFrom _ ⟨Nat.zero_le l, by omega⟩
  simp [State.line, Tab.get, e]

theorem State.safePath_linesSafe (s : State) : s.safePath.LinesSafe := by
  intro l hl
  obtain ⟨x, hx⟩ := s.safePath_line hl
  rw [hx]
  exact ⟨rfl, (FdCopy.drop_all _).1, (FdCopy.drop_all _).2⟩

/-- Every event line drives its safe state when its table is one in which each does. -/
theorem State.LinesSafe.congr {s t : State} (h : s.LinesSafe) (e : t.lines = s.lines) : t.LinesSafe := by
  intro l hl
  have : t.line l = s.line l := by rw [State.line, State.line, e]
  rw [this]
  exact h l hl

/-! ### A transition is accepted -/

/-- The transition in progress, and every output. -/
def Frame.accepted : Frame where
  upd t s := { s with regs := t.regs, gens := t.gens, lines := t.lines, pwms := t.pwms, sds := t.sds, rcs := t.rcs, att := t.att
                      trans := t.trans }
  self _ := rfl
  twice _ _ _ := rfl
  regs _ _ := rfl

theorem Frame.outputs_le_accepted : Frame.outputs.le .accepted := by
  intro s t e
  rw [e]
  rfl

section
variable (s : State) (m : Mode) (req : ModeReq) (cause : Nat) (path : Nat × Bool × Nat)

/-- The state in which an accepted transition may drive the outputs safe. -/
def State.accepting : State :=
  ({ s with trans := some { target := m, req := req, src := s.srcMode, cause := cause, path := path } }.modeResp 1 m req 0).setFld
    R.MODESTAT R.MODESTAT_BUSY 1

theorem State.accept_eq : s.accept m req cause path =
    if m == .safe || m == .lockout then (s.accepting m req cause path).safePath else s.accepting m req cause path := rfl

theorem State.accept_accepting {p : Nat → Prop} : Frame.outputs.Only p (s.accepting m req cause path) (s.accept m req cause path) :=
  .ite _ (State.safePath_outputs _) .refl

/-- An accepted transition writes MODERESP and MODESTAT. -/
theorem State.accept_only :
    Frame.accepted.Only (fun a => a = R.MODERESP ∨ a = R.MODESTAT) s (s.accept m req cause path) := by
  refine .trans ?_ ((s.accept_accepting m req cause path).within Frame.outputs_le_accepted)
  have h : Frame.accepted.Only (fun a => a = R.MODERESP ∨ a = R.MODESTAT) s
      { s with trans := some { target := m, req := req, src := s.srcMode, cause := cause, path := path } } := Frame.Only.refl.put rfl rfl
  exact (h.wr _ (.inl rfl)).setFld _ _ (.inr rfl)

theorem State.accept_trans :
    (s.accept m req cause path).trans = some { target := m, req := req, src := s.srcMode, cause := cause, path := path } :=
  (s.accept_accepting (p := fun _ => True) m req cause path).keep State.trans fun _ => rfl

theorem State.accept_moderesp : (s.accept m req cause path).rd R.MODERESP = BitVec.ofNat 32 (1 + 16 * m.code + 256 * req.code) := by
  rw [(s.accept_accepting (p := fun _ => False) m req cause path).rd id]
  exact (State.rd_setFld_ne _ _ _ (by decide)).trans (State.rd_wr_self _ _ _)

theorem State.accept_busy : (s.accept m req cause path).fld R.MODESTAT R.MODESTAT_BUSY = 1 := by
  rw [(s.accept_accepting (p := fun _ => False) m req cause path).fld _ id]
  exact State.fld_setFld_self _ _ _ _ (by decide)

theorem State.accept_linesSafe (h : m = .safe ∨ m = .lockout) : (s.accept m req cause path).LinesSafe := by
  rw [s.accept_eq, if_pos (by rcases h with rfl | rfl <;> rfl)]
  exact State.safePath_linesSafe _

end

end Sys2Proof.Machine
end

section
/-! PROOF of O25. ESTOP_N, its configuration and SVCREQ_N. -/

namespace Sys2Proof.Machine

/-- What one step of a pass establishes, and every step keeps, holds after it. -/
theorem foldl_establishes {α β : Type} {f : α → β → α} {P : α → Prop} {l : List β} {x : β} (hx : x ∈ l) (hit : ∀ s, P (f s x))
    (keep : ∀ s y, P s → P (f s y)) (s : α) : P (l.foldl f s) := by
  have kept (l : List β) (s : α) (h : P s) : P (l.foldl f s) := by
    induction l generalizing s with
    | nil => exact h
    | cons y l ih => exact ih _ (keep s y h)
  induction l generalizing s with
  | nil => cases hx
  | cons y l ih =>
    rcases List.mem_cons.1 hx with rfl | hx
    · exact kept l _ (hit s)
    · exact ih hx _

/-! ### The fall of ESTOP_N -/

/-- ESTOPSTAT.LEVEL reads the level. -/
theorem State.live_estopstat (s : State) : R.ESTOPSTAT_LEVEL.get (s.live 5 R.ESTOPSTAT) = s.estopN.toNat := by
  have e : s.live 5 R.ESTOPSTAT = R.ESTOPSTAT_LEVEL.put (s.rd R.ESTOPSTAT) s.estopN.toNat := rfl
  rw [e, F.get_put_self _ _ _ (by decide)]
  cases s.estopN <;> rfl

/-- The fall is recorded (R301). -/
def State.estopFell (u : State) (k : Nat) : State :=
  ({ u with estopN := false, estopAt := some k }.setFld R.ESTOPSTAT R.ESTOPSTAT_FELL 1).count R.ESTOPSTAT R.ESTOPSTAT_COUNT 1

/-- The NMI bit of every core is set (R302). -/
def State.estopNmi (u : State) : State := u.coreList.foldl (fun (s : State) l => s.nmi l R.NMIPEND_ESTOP) u

theorem State.estopFall_eq {s : State} {k : Nat} (hn : s.estopN = true) (hp : (s.advance k).estopPasses k = true) :
    s.estopFall k =
      let t := ((s.advance k).estopFell k).estopNmi
      if t.mode == .dawn then t.setFld R.DAWNSTAT R.DAWNSTAT_ESTOPLOW 1 else t.demandSafe .estop := by
  unfold State.estopFall
  extract_lets t
  have h : (!s.estopN || !t.estopPasses k) = false := by
    rw [hn, show t.estopPasses k = true from hp]
    rfl
  rw [if_neg (by simp [h])]
  rfl

theorem State.estopNmi_regs (u : State) : State.RegsAt (fun a => ∃ l, l < 5 ∧ a = R.NMIPEND l) u u.estopNmi := by
  refine .foldl (fun s l hl h => h.setFld _ _ ?_) .refl
  exact ⟨l, (State.mem_coreList.1 hl).1, rfl⟩

theorem State.estopNmi_fld (u : State) {l : Nat} (h : l ∈ u.coreList) : u.estopNmi.fld (R.NMIPEND l) R.NMIPEND_ESTOP = 1 := by
  have hit (s : State) (m : Nat) (e : m = l) : (s.nmi m R.NMIPEND_ESTOP).fld (R.NMIPEND l) R.NMIPEND_ESTOP = 1 := by
    rw [e]
    exact State.fld_setFld_self _ _ _ _ (by decide)
  refine foldl_establishes (f := fun s m => s.nmi m R.NMIPEND_ESTOP) (P := fun s => s.fld (R.NMIPEND l) R.NMIPEND_ESTOP = 1) h
    (fun s => hit s l rfl) (fun s m hs => ?_) u
  by_cases e : m = l
  · exact hit s m e
  · refine (State.fld_setFld_ne _ _ _ _ ?_).trans hs
    simp only [R.NMIPEND]
    omega

/-- What follows the record of the fall: the note in DAWN, or the request for SAFE. -/
def State.estopAsks (t : State) : State := if t.mode == .dawn then t.setFld R.DAWNSTAT R.DAWNSTAT_ESTOPLOW 1 else t.demandSafe .estop

/-- The registers that a fall writes beside its record. -/
@[reducible] def estopReg (a : Nat) : Prop := a = R.DAWNSTAT ∨ a = R.MODERESP ∨ a = R.MODESTAT

theorem State.estopAsks_only (t : State) : Frame.accepted.Only estopReg t t.estopAsks :=
  .ite _ (Frame.Only.refl.setFld _ _ (.inl rfl)) (.ite _ ((t.accept_only _ _ _ _).mono fun _ => .inr) .refl)

theorem State.estopAsks_dawn {t : State} (h : t.mode = .dawn) : t.estopAsks.fld R.DAWNSTAT R.DAWNSTAT_ESTOPLOW = 1 := by
  rw [State.estopAsks, if_pos (by rw [h]; rfl)]
  exact State.fld_setFld_self _ _ _ _ (by decide)

theorem State.estopAsks_active {t : State} (ht : t.trans = none) (hm : t.mode ∈ [Mode.prepare, .run, .hold]) :
    t.estopAsks = t.accept .safe .estop 0 (6, false, 0) := by
  have act : t.srcMode.active = true ∧ (t.mode == .dawn) = false := by
    have e : t.srcMode = t.mode := by rw [State.srcMode, ht]
    rw [e]
    simp only [List.mem_cons, List.not_mem_nil, or_false] at hm
    rcases hm with h | h | h <;> rw [h] <;> exact ⟨rfl, rfl⟩
  rw [State.estopAsks, if_neg (by rw [act.2]; decide), State.demandSafe, if_pos act.1]

theorem estopNFall_leads {s : State} {k : Nat} (hn : s.estopN = true) (hp : (s.advance k).estopPasses k = true) :
    s.Leads (.estopNFall k) (fun t => t.estopN = false ∧ R.ESTOPSTAT_LEVEL.get (t.live 5 R.ESTOPSTAT) = 0 ∧
      t.fld R.ESTOPSTAT R.ESTOPSTAT_FELL = 1 ∧
      t.fld R.ESTOPSTAT R.ESTOPSTAT_COUNT = min 255 ((s.advance k).fld R.ESTOPSTAT R.ESTOPSTAT_COUNT + 1) ∧
      (∀ l, s.variant.hasCore l = true → t.fld (R.NMIPEND l) R.NMIPEND_ESTOP = 1) ∧
      ((s.advance k).mode = .dawn → t.fld R.DAWNSTAT R.DAWNSTAT_ESTOPLOW = 1) ∧
      ((s.advance k).trans = none → (s.advance k).mode ∈ [Mode.prepare, .run, .hold] →
        (∃ tr, t.trans = some tr ∧ tr.target = .safe ∧ tr.req = .estop) ∧ t.LinesSafe)) := by
  refine .of_done (u := ((s.advance k).estopFell k).estopNmi.estopAsks) (congrArg (done s) (State.estopFall_eq hn hp)) fun t h => ?_
  have hvar : (s.advance k).variant = s.variant := (State.Keeps.refl (s := s)).advance.variantEq
  generalize s.advance k = u at h hvar
  have hN := (u.estopFell k).estopNmi_regs
  have hA := (u.estopFell k).estopNmi.estopAsks_only
  have mode : (u.estopFell k).estopNmi.mode = u.mode := hN.keep State.mode fun _ => rfl
  have trans : (u.estopFell k).estopNmi.trans = u.trans := hN.keep State.trans fun _ => rfl
  have low : t.estopN = false :=
    (h.keep State.estopN fun _ => rfl).trans ((hA.keep State.estopN fun _ => rfl).trans (hN.keep State.estopN fun _ => rfl))
  have stat (f : F) : t.fld R.ESTOPSTAT f = (u.estopFell k).fld R.ESTOPSTAT f := by
    rw [h.fld _ (by decide), hA.fld _ (by decide), hN.fld]
    rintro ⟨l, hl, e⟩
    simp only [R.ESTOPSTAT, R.NMIPEND] at e
    omega
  refine ⟨low, by rw [State.live_estopstat, low]; rfl, ?_, ?_, fun l hl => ?_, fun hm => ?_, fun ht hm => ⟨?_, ?_⟩⟩
  · rw [stat]
    exact (State.fld_setFld_apart _ _ _ (.inl (by decide))).trans (State.fld_setFld_self _ _ _ _ (by decide))
  · rw [stat, State.estopFell, State.fld_count_self _ _ _ _ (by decide), State.fld_setFld_apart _ _ _ (.inr (by decide))]
    rfl
  · have h5 : l < 5 := by
      have : l ≤ s.variant.nInd := by simpa [Variant.hasCore] using hl
      have : s.variant.nInd ≤ 4 := by cases s.variant <;> decide
      omega
    have hne : ¬estopReg (R.NMIPEND l) := by
      simp only [estopReg, R.NMIPEND, R.DAWNSTAT, R.MODERESP, R.MODESTAT]
      omega
    rw [h.fld _ (.inr (by simp only [R.NMIPEND]; omega)), hA.fld _ hne]
    exact State.estopNmi_fld _ (State.mem_coreList.2 ⟨h5, hvar ▸ hl⟩)
  · rw [h.fld _ (by decide), State.estopAsks_dawn (mode.trans hm)]
  · rw [h.trans, State.estopAsks_active (trans.trans ht) (mode ▸ hm), State.accept_trans]
    exact ⟨_, rfl, rfl, rfl⟩
  · rw [State.estopAsks_active (trans.trans ht) (mode ▸ hm)] at h
    exact (State.accept_linesSafe _ _ _ _ _ (.inl rfl)).congr (h.keep State.lines fun _ => rfl)

/-! ### The configuration -/

theorem State.regWrite_estopcfg (s : State) (w : Who) (v : Word) : (s.regWrite w R.ESTOPCFG v).1 = s.estopcfgWrite w v := rfl

/-- The write of ESTOPCFG in PREPARE, before its status. -/
def State.estopcfgStored (s : State) (w : Who) (v : Word) : State :=
  (s.defer R.ESTOPCFG (v &&& wmaskAt R.ESTOPCFG)).logCfg w R.ESTOPCFG (s.rd R.ESTOPCFG) (v &&& wmaskAt R.ESTOPCFG)

theorem State.estopcfgWrite_stored {s : State} {w : Who} (v : Word) (hw : w.priv = true) (hm : s.mode = .prepare) :
    s.estopcfgWrite w v = (s.estopcfgStored w v).setFld R.ESTOPSTAT R.ESTOPSTAT_WSTAT 0 := by
  simp [State.estopcfgWrite, State.estopcfgStored, hw, hm]

theorem State.estopcfgWrite_notNow {s : State} {w : Who} (v : Word) (hw : w.priv = true) (hm : s.mode ≠ .prepare) :
    s.estopcfgWrite w v = s.setFld R.ESTOPSTAT R.ESTOPSTAT_WSTAT 2 := by
  simp [State.estopcfgWrite, hw, hm]

theorem estopcfg_shared : sharedAddr R.ESTOPCFG := by decide

theorem State.defer_eff (s : State) (a : Nat) (v : Word) : (s.defer a v).eff a = s.eff a := Tab.get_put_self ..

theorem State.eff_congr {s t : State} (a : Nat) (hf : t.inForce = s.inForce) (hr : t.rd a = s.rd a) : t.eff a = s.eff a := by
  simp [State.eff, hf, hr]

theorem State.entered_mode (s : State) (r : Rq) (a : Nat) (v : Word) : (s.entered r a v).mode = s.mode := by cases r <;> rfl
theorem State.entered_rd (s : State) (r : Rq) (a : Nat) (v : Word) (b : Nat) : (s.entered r a v).rd b = s.rd b := by cases r <;> rfl
theorem State.entered_eff (s : State) (r : Rq) (a : Nat) (v : Word) (b : Nat) : (s.entered r a v).eff b = s.eff b := by cases r <;> rfl

theorem estopcfg_does {s : State} {r : Rq} (v : Word) (hw : (s.asker r).priv = true) (hm : s.mode = .prepare) :
    s.Does r R.ESTOPCFG v (.estopcfgWrite r v) (fun t => t.rd R.ESTOPCFG = v &&& 0xFF ∧ t.eff R.ESTOPCFG = s.eff R.ESTOPCFG ∧
      t.fld R.ESTOPSTAT R.ESTOPSTAT_WSTAT = 0) := by
  refine does_of_request rfl estopcfg_shared fun _ t h => ?_
  rw [State.regWrite_estopcfg, State.estopcfgWrite_stored v hw ((s.entered_mode _ _ _).trans hm)] at h
  have hlog := State.logCfg_logbook ((s.entered r R.ESTOPCFG v).defer R.ESTOPCFG (v &&& wmaskAt R.ESTOPCFG)) (s.asker r) R.ESTOPCFG
    ((s.entered r R.ESTOPCFG v).rd R.ESTOPCFG) (v &&& wmaskAt R.ESTOPCFG)
  have stored : t.rd R.ESTOPCFG = v &&& wmaskAt R.ESTOPCFG := by
    rw [h.rd (by decide), State.rd_setFld_ne _ _ _ (by decide)]
    exact (hlog.rd (by decide)).trans (Tab.get_put_self ..)
  refine ⟨stored, ?_, ?_⟩
  · have force : t.inForce = ((s.entered r R.ESTOPCFG v).defer R.ESTOPCFG (v &&& wmaskAt R.ESTOPCFG)).inForce :=
      (h.keep State.inForce fun _ => rfl).trans (hlog.keep State.inForce fun _ => rfl)
    have rd : t.rd R.ESTOPCFG = ((s.entered r R.ESTOPCFG v).defer R.ESTOPCFG (v &&& wmaskAt R.ESTOPCFG)).rd R.ESTOPCFG :=
      stored.trans (Tab.get_put_self ..).symm
    rw [State.eff_congr _ force rd, State.defer_eff, State.entered_eff]
  · rw [h.fld _ (by decide), State.fld_setFld_self _ _ _ _ (by decide), Nat.zero_mod]

theorem estopcfg_refused {s : State} {r : Rq} (v : Word) (hw : (s.asker r).priv = true) (hm : s.mode ≠ .prepare) :
    s.Does r R.ESTOPCFG v (.estopcfgWrite r v) (fun t => t.rd R.ESTOPCFG = s.rd R.ESTOPCFG ∧
      t.fld R.ESTOPSTAT R.ESTOPSTAT_WSTAT = 2) := by
  refine does_of_request rfl estopcfg_shared fun _ t h => ?_
  rw [State.regWrite_estopcfg, State.estopcfgWrite_notNow v hw (by rw [State.entered_mode]; exact hm)] at h
  refine ⟨?_, ?_⟩
  · rw [h.rd (by decide), State.rd_setFld_ne _ _ _ (by decide), State.entered_rd]
  · rw [h.fld _ (by decide), State.fld_setFld_self _ _ _ _ (by decide)]
    rfl

/-! ### The rise, and SVCREQ_N -/

theorem estopNRise_leads {s : State} {k : Nat} (hn : s.estopN = false) (hp : (s.advance k).estopPasses k = true) :
    s.Leads (.estopNRise k) (fun t => t.estopN = true ∧ R.ESTOPSTAT_LEVEL.get (t.live 5 R.ESTOPSTAT) = 1) := by
  have e : s.estopRise k = { s.advance k with estopN := true, estopAt := some k } := by
    unfold State.estopRise
    exact if_neg (by simp [hn, hp])
  refine .of_done (congrArg (done s) e) fun t h => ?_
  have high : t.estopN = true := h.keep State.estopN fun _ => rfl
  exact ⟨high, by rw [State.live_estopstat, high]; rfl⟩

/-- Settles O25. -/
theorem emergencyStopActs : Obligations.EmergencyStopActs := by
  intro s k u
  refine ⟨estopNFall_leads, estopNRise_leads, fun hp => ⟨.of_done rfl ?_, .of_done rfl ?_⟩, fun r v => estopcfg_does v,
    fun r v => estopcfg_refused v, fun hl => .of_done rfl ?_, .of_done rfl rfl⟩
  · exact if_pos (by simp [show (s.advance k).estopPasses k = false from hp])
  · exact if_pos (by simp [show (s.advance k).estopPasses k = false from hp])
  · exact if_neg (by simp [show (s.advance k).svcLow = none from hl])

end Sys2Proof.Machine
end

section
/-! SUPPORT. What a reset of the main domain leaves of the registers and of the units (R46, R47). -/

namespace Sys2Proof.Machine

/-! ### The registers -/

theorem resetMain_find (por : Bool) (regs : Tab Word) (a : Nat) :
    (resetMain por regs).find a =
      if keptBits por a = 0 then none else (regs.find a).map fun v => Word.mix (resetAt a) v (keptBits por a) := by
  induction regs with
  | nil => simp [resetMain, Tab.find]
  | cons e t ih =>
    obtain ⟨b, v⟩ := e
    by_cases hm : keptBits por b = 0
    · have drop : resetMain por ((b, v) :: t) = resetMain por t := List.filterMap_cons_none (if_pos hm)
      rw [drop, ih]
      by_cases h : b = a
      · subst h; simp [hm]
      · simp [Tab.find, h]
    · have cons : resetMain por ((b, v) :: t) = (b, Word.mix (resetAt b) v (keptBits por b)) :: resetMain por t :=
        List.filterMap_cons_some (if_neg hm)
      rw [cons]
      by_cases h : b = a
      · subst h
        rw [if_neg hm]
        simp [Tab.find]
      · simp [Tab.find, h, ih]

theorem Word.mix_zero (a b : Word) : Word.mix a b 0 = a := by
  refine BitVec.eq_of_getLsbD_eq fun i hi => ?_
  simp only [Word.mix, BitVec.getLsbD_or, BitVec.getLsbD_and, BitVec.getLsbD_not, hi]
  simp
theorem Word.mix_self (a m : Word) : Word.mix a a m = a := by
  refine BitVec.eq_of_getLsbD_eq fun i hi => ?_
  simp only [Word.mix, BitVec.getLsbD_or, BitVec.getLsbD_and, BitVec.getLsbD_not, hi, decide_true, Bool.true_and]
  cases a.getLsbD i <;> cases m.getLsbD i <;> rfl

/-- Each register takes its Reset column but for the bits that a reset leaves. -/
theorem State.resetUnits_rd (s : State) (por : Bool) (a : Nat) :
    (s.resetUnits por).rd a = Word.mix (resetAt a) (s.rd a) (keptBits por a) := by
  have e : (s.resetUnits por).rd a = (resetMain por s.regs).get (resetAt a) a := rfl
  rw [e, State.rd, Tab.get, Tab.get, resetMain_find]
  by_cases hm : keptBits por a = 0
  · rw [if_pos hm, hm, Word.mix_zero]
    rfl
  · rw [if_neg hm]
    cases s.regs.find a with
    | none => exact (Word.mix_self _ _).symm
    | some v => rfl

/-- A field that a reset leaves. -/
theorem State.resetUnits_fld (s : State) (por : Bool) (a : Nat) (f : F)
    (h : ∀ i, i < f.w → (keptBits por a).getLsbD (f.lo + i) = true) : (s.resetUnits por).fld a f = s.fld a f := by
  rw [State.fld, s.resetUnits_rd, f.get_mix_right _ _ _ h]
  rfl

/-! ### The outputs -/

theorem State.resetUnits_line (s : State) (por : Bool) {l : Nat} (h : l < 64) :
    (s.resetUnits por).line l =
      { Line.reset with latch := if !por && s.drivesSafe l then (s.line l).latch else none, safed := true } := by
  have e : (s.resetUnits por).lines.find l =
      some { Line.reset with latch := if !por && s.drivesSafe l then (s.line l).latch else none, safed := true } :=
    Tab.find_map_upFrom (fun l => ({ Line.reset with latch := if !por && s.drivesSafe l then (s.line l).latch else none, safed := true } : Line))
      ⟨Nat.zero_le l, by omega⟩
  simp only [State.line, Tab.get, e, Option.getD_some]

theorem State.resetUnits_linesSafe (s : State) (por : Bool) : (s.resetUnits por).LinesSafe := by
  intro l hl
  rw [s.resetUnits_line por hl]
  exact ⟨rfl, rfl, rfl⟩

/-! ### The cause -/

/-- The cause is latched and is the last (R46). -/
theorem State.rstCause_resetBy (s : State) {i : Nat} (h : i < 8) : (s.rstCause i).ResetBy i := by
  refine ⟨?_, ?_⟩
  · rw [State.rstCause, State.fld_setFld_apart _ _ _ (.inl (by decide)), State.fld, F.testBit_get, State.setFld, State.rd_wr_self,
      F.getLsbD_put _ _ _ _ (by simp only [R.RSTCAUSE_CAUSE]; omega)]
    simp [R.RSTCAUSE_CAUSE, h]
  · rw [State.rstCause, State.fld_setFld_self _ _ _ _ (by decide)]
    exact Nat.mod_eq_of_lt (Nat.lt_of_lt_of_le h (by decide))

theorem State.ResetBy.congr {s t : State} {i : Nat} (h : s.ResetBy i) (hc : t.fld R.RSTCAUSE R.RSTCAUSE_CAUSE = s.fld R.RSTCAUSE R.RSTCAUSE_CAUSE)
    (hl : t.fld R.RSTCAUSE R.RSTCAUSE_LAST = s.fld R.RSTCAUSE R.RSTCAUSE_LAST) : t.ResetBy i := by
  unfold State.ResetBy
  rw [hc, hl]
  exact h

theorem State.ResetBy.of_rd {s t : State} {i : Nat} (h : s.ResetBy i) (e : t.rd R.RSTCAUSE = s.rd R.RSTCAUSE) : t.ResetBy i :=
  h.congr (congrArg R.RSTCAUSE_CAUSE.get e) (congrArg R.RSTCAUSE_LAST.get e)

/-- SVCDONE is apart from the cause. -/
theorem State.ResetBy.svcDone {s : State} {i : Nat} (h : s.ResetBy i) (b : Bool) :
    (if b then s.setFld R.RSTCAUSE R.RSTCAUSE_SVCDONE 1 else s).ResetBy i := by
  cases b
  · exact h
  · exact h.congr (State.fld_setFld_apart _ _ _ (.inl (by decide))) (State.fld_setFld_apart _ _ _ (.inr (by decide)))

/-! ### A reset that leads to DAWN -/

/-- The memory and the Logbook. -/
def Frame.stored : Frame where
  upd t s := { s with regs := t.regs, mem := t.mem, ecc := t.ecc, mrq := t.mrq, mrRun := t.mrRun, cores := t.cores, openLines := t.openLines
                      scrub := t.scrub, scrubDue := t.scrubDue, logQ := t.logQ, freeCtr := t.freeCtr }
  self _ := rfl
  twice _ _ _ := rfl
  regs _ _ := rfl

theorem Frame.memory_le_stored : Frame.memory.le .stored := by
  intro s t e
  rw [e]
  rfl

theorem Frame.logbook_le_stored : Frame.logbook.le .stored := by
  intro s t e
  rw [e]
  rfl

/-- The registers that the memory and the Logbook write. -/
@[reducible] def storeReg (a : Nat) : Prop := memReg a ∨ logReg a

theorem State.mrNext_stored (s : State) : Frame.stored.Only storeReg s s.mrNext :=
  ((State.mrNext_memory .refl).within Frame.memory_le_stored).mono fun _ => .inl
theorem State.mrFlush_stored (s : State) : Frame.stored.Only storeReg s s.mrFlush :=
  (s.mrFlush_memory.within Frame.memory_le_stored).mono fun _ => .inl
theorem State.logFlush_stored (s : State) : Frame.stored.Only storeReg s s.logFlush :=
  (s.logFlush_logbook.within Frame.logbook_le_stored).mono fun _ => .inr

/-- What is done before the reset: the stores complete, or are lost with the clock. -/
def State.settled (s : State) (clockLoss begun : Bool) : State :=
  if clockLoss then { (if begun then s.mrNext else s) with mrq := [], logQ := [] } else s.mrFlush.logFlush

theorem State.settled_stored (s : State) (clockLoss begun : Bool) : Frame.stored.Only storeReg s (s.settled clockLoss begun) := by
  unfold State.settled
  refine .ite _ ?_ (s.mrFlush_stored.trans (State.logFlush_stored _))
  have h : Frame.stored.Only storeReg s (if begun then s.mrNext else s) := .ite _ s.mrNext_stored .refl
  exact h.put rfl rfl

theorem State.settled_rd (s : State) (clockLoss begun : Bool) {a : Nat} (h : ¬storeReg a) : (s.settled clockLoss begun).rd a = s.rd a :=
  (s.settled_stored clockLoss begun).rd h

/-- After the reset only its cause and its Logbook entry are written. -/
theorem State.mainReset_logbook (s : State) (bit : Nat) (path : Nat × Bool × Nat) (clockLoss begun : Bool) :
    Frame.logbook.Only (fun a => a = R.RSTCAUSE ∨ logReg a) ((s.settled clockLoss begun).resetUnits false)
      (s.mainReset bit path clockLoss begun) := by
  unfold State.mainReset
  have cause (u : State) : Frame.logbook.Only (fun a => a = R.RSTCAUSE ∨ logReg a) u (u.rstCause bit) :=
    (Frame.Only.refl.setFld _ _ (.inl rfl)).setFld _ _ (.inl rfl)
  refine .trans ?_ ((State.log_logbook _ _ _ _ _ _ _ _ _).mono fun _ => .inr)
  exact .ite _ ((cause _).setFld _ _ (.inl rfl)) (cause _)

theorem State.mainReset_resetBy (s : State) {bit : Nat} (h : bit < 8) (path : Nat × Bool × Nat) (clockLoss begun : Bool) :
    (s.mainReset bit path clockLoss begun).ResetBy bit := by
  unfold State.mainReset
  refine State.ResetBy.of_rd ?_ ((State.log_logbook _ _ _ _ _ _ _ _ _).rd (by decide))
  exact (State.rstCause_resetBy _ h).svcDone _

section
variable (s : State) (bit : Nat) (path : Nat × Bool × Nat) (clockLoss begun : Bool)

theorem State.mainReset_mode : (s.mainReset bit path clockLoss begun).mode = .dawn :=
  (s.mainReset_logbook bit path clockLoss begun).keep State.mode fun _ => rfl
theorem State.mainReset_trans : (s.mainReset bit path clockLoss begun).trans = none :=
  (s.mainReset_logbook bit path clockLoss begun).keep State.trans fun _ => rfl
theorem State.mainReset_clocks : (s.mainReset bit path clockLoss begun).clocks = false :=
  (s.mainReset_logbook bit path clockLoss begun).keep State.clocks fun _ => rfl

theorem State.mainReset_dawn : (s.mainReset bit path clockLoss begun).dawn = if s.resetN then .waitClock else .waitReset := by
  have h : (s.settled clockLoss begun).resetN = s.resetN := (s.settled_stored clockLoss begun).keep State.resetN fun _ => rfl
  exact ((s.mainReset_logbook bit path clockLoss begun).keep State.dawn fun _ => rfl).trans
    (congrArg (fun b : Bool => if b then DawnPhase.waitClock else DawnPhase.waitReset) h)

theorem State.mainReset_resetN : (s.mainReset bit path clockLoss begun).resetN = s.resetN :=
  ((s.mainReset_logbook bit path clockLoss begun).keep State.resetN fun _ => rfl).trans
    ((s.settled_stored clockLoss begun).keep State.resetN fun _ => rfl)
theorem State.mainReset_pllOk : (s.mainReset bit path clockLoss begun).pllOk = s.pllOk :=
  ((s.mainReset_logbook bit path clockLoss begun).keep State.pllOk fun _ => rfl).trans
    ((s.settled_stored clockLoss begun).keep State.pllOk fun _ => rfl)
theorem State.mainReset_refOk : (s.mainReset bit path clockLoss begun).refOk = s.refOk :=
  ((s.mainReset_logbook bit path clockLoss begun).keep State.refOk fun _ => rfl).trans
    ((s.settled_stored clockLoss begun).keep State.refOk fun _ => rfl)

theorem State.mainReset_linesSafe : (s.mainReset bit path clockLoss begun).LinesSafe :=
  (State.resetUnits_linesSafe (s.settled clockLoss begun) false).congr
    ((s.mainReset_logbook bit path clockLoss begun).keep State.lines fun _ => rfl)

/-- A field that resets leave, of a register that neither the memory nor the Logbook nor the cause of the reset writes. -/
theorem State.mainReset_fld (a : Nat) (f : F) (ha : ¬storeReg a ∧ a ≠ R.RSTCAUSE)
    (h : ∀ i, i < f.w → (keptBits false a).getLsbD (f.lo + i) = true) : (s.mainReset bit path clockLoss begun).fld a f = s.fld a f := by
  have hn : ¬(a = R.RSTCAUSE ∨ logReg a) := not_or.2 ⟨ha.2, fun h => ha.1 (.inr h)⟩
  rw [(s.mainReset_logbook bit path clockLoss begun).fld f hn, State.resetUnits_fld _ _ _ _ h, State.fld, s.settled_rd _ _ ha.1]
  rfl

end

end Sys2Proof.Machine
end

section
/-! PROOF of O20. The supplies, RESET_N and the loss of a clock. -/

namespace Sys2Proof.Machine

/-! ### The supplies return -/

/-- The state that a power-on resets. -/
def State.supplied (s : State) : State := { s with supply := [true, true, true], dip := (false, false) }

/-- A power-on, before its Logbook entry. -/
def State.poweredUp (s : State) (por : Bool) : State :=
  if por then ((s.supplied.resetUnits por).rstCause 0).setFld R.LOCKSTAT R.LOCKSTAT_PEND 0 else s.supplied.resetUnits por

theorem State.poweredUp_regs (s : State) (por : Bool) :
    State.RegsAt (fun a => a = R.RSTCAUSE ∨ a = R.LOCKSTAT) (s.supplied.resetUnits por) (s.poweredUp por) :=
  .ite _ (((Frame.Only.refl.setFld _ _ (.inl rfl)).setFld _ _ (.inl rfl)).setFld _ _ (.inr rfl)) .refl

theorem State.powerOn_logbook {s : State} (hm : s.mode = .night) (hs : s.supply.all id = false) (hr : s.resetN = true) :
    Frame.logbook.Only logReg (s.poweredUp (!s.supply.headD true)) s.powerOn := by
  have hn : (s.suppliesGood || s.mode != .night) = false := by simp [State.suppliesGood, hs, hm]
  have e : s.powerOn =
      (s.poweredUp (!s.supply.headD true)).log 6 false 0 2 0 R.MODESTAT 0 ((s.poweredUp (!s.supply.headD true)).rd R.MODESTAT).toNat := by
    unfold State.powerOn
    rw [if_neg (by simp [hn])]
    unfold State.powerUp
    refine if_pos ?_
    refine ((State.log_logbook _ _ _ _ _ _ _ _ _).keep State.resetN fun _ => rfl).trans ?_
    exact ((s.poweredUp_regs _).keep State.resetN fun _ => rfl).trans hr
  rw [e]
  exact State.log_logbook _ _ _ _ _ _ _ _ _

theorem powerOn_leads {s : State} (hm : s.mode = .night) (hs : s.supply.all id = false) (hr : s.resetN = true) :
    s.Leads .powerOn (fun t => t.mode = .dawn ∧ t.dawn = .waitClock ∧ t.supply = [true, true, true] ∧ t.clocks = false ∧
      (s.supply.headD true = false → t.ResetBy 0 ∧ t.fld R.LOCKSTAT R.LOCKSTAT_PEND = 0 ∧ ∀ l, l < 64 → (t.line l).latch = none)) := by
  refine .of_done rfl fun t h => ?_
  have hl := State.powerOn_logbook hm hs hr
  have hp := s.poweredUp_regs (!s.supply.headD true)
  have keep {α : Type} (g : State → α) (h1 : ∀ (u t : State), g (Frame.onRegs.upd t u) = g u)
      (h2 : ∀ (u t : State), g (Frame.logbook.upd t u) = g u) : g t = g (s.supplied.resetUnits (!s.supply.headD true)) :=
    (h.keep g fun r => h1 _ { s with regs := r }).trans ((hl.keep g (h2 _)).trans (hp.keep g (h1 _)))
  refine ⟨keep State.mode (fun _ _ => rfl) (fun _ _ => rfl), ?_, keep State.supply (fun _ _ => rfl) (fun _ _ => rfl),
    keep State.clocks (fun _ _ => rfl) (fun _ _ => rfl), fun hv => ⟨?_, ?_, fun l hl => ?_⟩⟩
  · rw [keep State.dawn (fun _ _ => rfl) (fun _ _ => rfl)]
    exact if_pos hr
  · refine State.ResetBy.of_rd (s := s.poweredUp true) ?_ ((h.rd (by decide)).trans ?_)
    · have b := State.rstCause_resetBy (s.supplied.resetUnits true) (i := 0) (by decide)
      exact b.of_rd (State.rd_setFld_ne _ _ _ (by decide))
    · rw [hv] at hl
      exact hl.rd (by decide)
  · rw [hv] at hl
    rw [h.fld _ (by decide), hl.fld _ (by decide)]
    exact (State.fld_setFld_self _ _ _ _ (by decide)).trans (Nat.zero_mod _)
  · rw [keep (State.line · l) (fun _ _ => rfl) (fun _ _ => rfl), hv, State.resetUnits_line _ _ hl]
    rfl

/-! ### A supply fails -/

/-- What a brown-out does to a main domain that is on (R55, R339, R508). -/
def State.brownedOut (s : State) (i : Nat) (begun : Bool) : State :=
  let t := { (if begun then s.mrNext else s) with mrq := [], logQ := [] }.safePath.toNight
  ({ t with supply := t.supply.set i false, dip := (false, false) }).rstCause 1

theorem State.brownOut_off {s : State} (hm : s.mode = .night) (i : Nat) (begun : Bool) :
    s.brownOut i begun = { ({ s with supply := s.supply.set i false, dip := (false, false) } : State).rstCause 1 with dawn := .none } := by
  unfold State.brownOut
  exact if_pos (by rw [hm]; rfl)

theorem State.brownOut_on {s : State} (hm : s.mode ≠ .night) (i : Nat) (begun : Bool) :
    s.brownOut i begun =
      if s.mode == .service then (s.brownedOut i begun).setFld R.RSTCAUSE R.RSTCAUSE_SVCDONE 1 else s.brownedOut i begun := by
  unfold State.brownOut
  exact if_neg (by simp [hm])

theorem List.getD_set_false {l : List Bool} {i : Nat} (h : i < l.length) : (l.set i false).getD i true = false := by
  simp [h]

/-- The main domain when the stores have been lost. -/
theorem State.lost_stored (s : State) (begun : Bool) :
    Frame.stored.Only storeReg s { (if begun then s.mrNext else s) with mrq := [], logQ := [] } := s.settled_stored true begun

theorem State.brownedOut_resetBy (s : State) (i : Nat) (begun : Bool) : (s.brownedOut i begun).ResetBy 1 :=
  State.rstCause_resetBy _ (by decide)

/-- The main domain goes off with supply `i`, its outputs safe already. -/
def State.intoNight (t : State) (i : Nat) : State := ({ t.toNight with supply := t.toNight.supply.set i false, dip := (false, false) }).rstCause 1

theorem State.intoNight_supply (t : State) (i : Nat) : (t.intoNight i).supply = t.supply.set i false := rfl
theorem State.intoNight_logQ (t : State) (i : Nat) : (t.intoNight i).logQ = t.logQ := rfl

theorem State.brownedOut_eq (s : State) (i : Nat) (begun : Bool) :
    s.brownedOut i begun = ({ (if begun then s.mrNext else s) with mrq := [], logQ := [] } : State).safePath.intoNight i := rfl

theorem State.brownedOut_supply {s : State} {i : Nat} (h : i < s.supply.length) (begun : Bool) :
    (s.brownedOut i begun).supply.getD i true = false := by
  have e : ({ (if begun then s.mrNext else s) with mrq := [], logQ := [] } : State).safePath.supply = s.supply :=
    ((State.safePath_outputs (p := fun _ => True) _).keep State.supply fun _ => rfl).trans ((s.lost_stored begun).keep State.supply fun _ => rfl)
  rw [State.brownedOut_eq, State.intoNight_supply, e, List.getD_set_false h]

theorem State.brownedOut_logQ (s : State) (i : Nat) (begun : Bool) : (s.brownedOut i begun).logQ = [] := by
  have e : ({ (if begun then s.mrNext else s) with mrq := [], logQ := [] } : State).safePath.logQ = [] :=
    (State.safePath_outputs (p := fun _ => True) _).keep State.logQ fun _ => rfl
  rw [State.brownedOut_eq, State.intoNight_logQ, e]

theorem State.brownedOut_linesSafe (s : State) (i : Nat) (begun : Bool) : (s.brownedOut i begun).LinesSafe :=
  (State.resetUnits_linesSafe _ false).congr rfl

theorem brownOut_leads {s : State} {i : Nat} (begun : Bool) (hi : i < 3) (hs : s.supply.length = 3) :
    s.Leads (.brownOut i begun) (fun t => t.mode = .night ∧ t.supply.getD i true = false ∧ t.ResetBy 1 ∧
      (s.mode ≠ .night → t.clocks = false ∧ t.mrq = [] ∧ t.logQ = [] ∧ t.LinesSafe)) := by
  have hlen : i < s.supply.length := by omega
  by_cases hm : s.mode = .night
  · refine .of_done (congrArg (done s) (State.brownOut_off hm i begun)) fun t h => ⟨?_, ?_, ?_, fun hn => absurd hm hn⟩
    · exact h.mode.trans hm
    · rw [h.keep State.supply fun _ => rfl]
      exact List.getD_set_false hlen
    · exact (State.rstCause_resetBy _ (by decide)).of_rd (h.rd (by decide))
  · refine .of_done (congrArg (done s) (State.brownOut_on hm i begun)) fun t h => ?_
    have regs : State.RegsAt (fun a => a = R.RSTCAUSE) (s.brownedOut i begun)
        (if s.mode == .service then (s.brownedOut i begun).setFld R.RSTCAUSE R.RSTCAUSE_SVCDONE 1 else s.brownedOut i begun) :=
      .ite _ (Frame.Only.refl.setFld _ _ rfl) .refl
    have keep {α : Type} (g : State → α) (hg : ∀ (u t : State), g (Frame.onRegs.upd t u) = g u) : g t = g (s.brownedOut i begun) :=
      (h.keep g fun r => hg _ { s with regs := r }).trans (regs.keep g (hg _))
    refine ⟨keep State.mode fun _ _ => rfl, ?_, ?_, fun _ => ⟨keep State.clocks fun _ _ => rfl, keep State.mrq fun _ _ => rfl, ?_, ?_⟩⟩
    · rw [keep State.supply fun _ _ => rfl, State.brownedOut_supply hlen]
    · exact ((s.brownedOut_resetBy i begun).svcDone _).of_rd (h.rd (by decide))
    · rw [keep State.logQ fun _ _ => rfl, State.brownedOut_logQ]
    · exact (s.brownedOut_linesSafe i begun).congr (keep State.lines fun _ _ => rfl)

/-! ### RESET_N -/

theorem resetPinLow_leads {s : State} (hm : s.mode ≠ .night) (hr : s.resetN = true) :
    s.Leads (.resetPin true) (fun t => t.mode = .dawn ∧ t.dawn = .waitReset ∧ t.resetN = false ∧ t.clocks = false ∧ t.ResetBy 2) := by
  have e : s.resetPin true = ({ s with resetN := false } : State).mainReset 2 (6, false, 0) false false := by
    unfold State.resetPin
    rw [if_pos rfl, if_neg (by simp [hr])]
    exact if_neg (by simp [hm])
  refine .of_done (congrArg (done s) e) fun t h => ⟨?_, ?_, ?_, ?_, ?_⟩
  · rw [h.mode, State.mainReset_mode]
  · rw [h.dawn, State.mainReset_dawn]
    rfl
  · rw [h.resetN, State.mainReset_resetN]
  · rw [h.clocks, State.mainReset_clocks]
  · exact (State.mainReset_resetBy _ (by decide) (6, false, 0) _ _).of_rd (h.rd (by decide))

theorem resetPinHigh_gives {s : State} (hd : s.dawn = .waitReset) (hs : s.supply.all id = true) :
    s.Gives (.resetPin false) { s with resetN := true, mode := .dawn, dawn := .waitClock } := by
  refine .of_done rfl ?_
  unfold State.resetPin
  rw [if_neg (by decide)]
  exact if_pos (by simp [hd, State.suppliesGood, hs])

theorem resetPinHigh_gives_of_not {s : State} (h : s.dawn ≠ .waitReset ∨ s.supply.all id = false) :
    s.Gives (.resetPin false) { s with resetN := true } := by
  refine .of_done rfl ?_
  unfold State.resetPin
  rw [if_neg (by decide)]
  refine if_neg ?_
  rcases h with h | h
  · simp [h]
  · simp [State.suppliesGood, h]

/-! ### The loss of a clock -/

/-- The state that the loss of a clock resets. -/
def State.clockless (s : State) (ref : Bool) : State := { s.safePath with clocks := false, refOk := s.refOk && !ref, pllOk := false }

/-- The counter of the losses of the reference, or of the PLL's lock. -/
def clkLoss (ref : Bool) : F := if ref then R.CLKSTAT_REFLOSS else R.CLKSTAT_LOCKLOSS

theorem State.clockLoss_eq {s : State} (hm : s.mode ≠ .night) (ref begun : Bool) :
    s.clockLoss ref begun = ((s.clockless ref).mainReset 3 (6, false, 0) true begun).count R.CLKSTAT (clkLoss ref) 1 := by
  unfold State.clockLoss
  exact if_neg (by simp [hm])

theorem clkLoss_kept : ∀ (ref : Bool) (i : Nat), i < (clkLoss ref).w → (keptBits false R.CLKSTAT).getLsbD ((clkLoss ref).lo + i) = true := by
  decide

theorem clkLoss_fits (ref : Bool) : (clkLoss ref).lo + (clkLoss ref).w ≤ 32 ∧ (clkLoss ref).w = 8 := by cases ref <;> decide

theorem clockLoss_leads {s : State} {i : Instr} {ref begun : Bool} (hm : s.mode ≠ .night)
    (hi : exec i s = done s (s.clockLoss ref begun)) :
    s.Leads i (fun t => t.mode = .dawn ∧ t.clocks = false ∧ t.pllOk = false ∧ t.refOk = (s.refOk && !ref) ∧ t.ResetBy 3 ∧ t.LinesSafe ∧
      t.fld R.CLKSTAT (clkLoss ref) = min 255 (s.fld R.CLKSTAT (clkLoss ref) + 1)) := by
  refine .of_done (hi.trans (congrArg (done s) (State.clockLoss_eq hm ref begun))) fun t h => ?_
  have mode := (s.clockless ref).mainReset_mode 3 (6, false, 0) true begun
  have clocks := (s.clockless ref).mainReset_clocks 3 (6, false, 0) true begun
  have pll := (s.clockless ref).mainReset_pllOk 3 (6, false, 0) true begun
  have refOk := (s.clockless ref).mainReset_refOk 3 (6, false, 0) true begun
  have by3 := (s.clockless ref).mainReset_resetBy (bit := 3) (by decide) (6, false, 0) true begun
  have safe := (s.clockless ref).mainReset_linesSafe 3 (6, false, 0) true begun
  have loss := (s.clockless ref).mainReset_fld 3 (6, false, 0) true begun R.CLKSTAT (clkLoss ref) (by decide) (clkLoss_kept ref)
  have before : (s.clockless ref).rd R.CLKSTAT = s.rd R.CLKSTAT := (State.safePath_outputs (p := fun _ => False) s).rd id
  generalize (s.clockless ref).mainReset 3 (6, false, 0) true begun = u at *
  refine ⟨h.mode.trans mode, h.clocks.trans clocks, h.pllOk.trans pll, h.refOk.trans refOk, ?_, safe.congr h.lines, ?_⟩
  · exact by3.of_rd ((h.rd (by decide)).trans (State.rd_count_ne _ _ _ (by decide)))
  · obtain ⟨hf, hw⟩ := clkLoss_fits ref
    rw [h.fld _ (by decide), State.fld_count_self _ _ _ _ hf, hw, loss, State.fld, before]
    rfl

/-- Settles O20. -/
theorem suppliesAndResets : Obligations.SuppliesAndResets := by
  intro s begun
  refine ⟨powerOn_leads, fun i hi hs => brownOut_leads begun hi hs, resetPinLow_leads, resetPinHigh_gives, resetPinHigh_gives_of_not,
    fun hm => ⟨?_, ?_, fun vdd => ?_⟩, fun vdd => .of_done rfl rfl⟩
  · exact (clockLoss_leads (i := .pllLockLoss begun) hm rfl).mono fun t ⟨mode, clocks, pll, _, by3, safe, loss⟩ =>
      ⟨mode, clocks, pll, by3, safe, loss⟩
  · exact (clockLoss_leads (i := .referenceAbsent begun) hm rfl).mono fun t ⟨mode, clocks, _, ref, by3, safe, loss⟩ =>
      ⟨mode, clocks, ref.trans (by simp), by3, safe, loss⟩
  · exact .of_done rfl (if_neg (by simp [hm]))

end Sys2Proof.Machine
end

section
/-! PROOF of O21. The judgement of a mode request, and what an accepted one does. -/

namespace Sys2Proof.Machine

/-! ### The transition table -/

theorem State.modeWhy_dawn (s : State) :
    s.modeWhy .dawn = 0 ↔ ¬(s.fld R.LOCKSTAT R.LOCKSTAT_PEND = 1 ∧ s.fld R.LOCKSTAT R.LOCKSTAT_CLROK = 0) := by
  simp [State.modeWhy]

theorem State.modeWhy_run (s : State) :
    s.modeWhy .run = 0 ↔ s.estopN = true ∧ s.fltsum = 0 ∧ s.fld R.DAWNSTAT R.DAWNSTAT_IMGBAD = 0 := by
  have lt : s.fld R.DAWNSTAT R.DAWNSTAT_IMGBAD < 2 := s.fld_lt _ _
  have bit : s.fld R.DAWNSTAT R.DAWNSTAT_IMGBAD = 0 ↔ s.fld R.DAWNSTAT R.DAWNSTAT_IMGBAD ≠ 1 := by omega
  rw [bit]
  unfold State.modeWhy
  cases s.estopN
  · simp
  · by_cases h : s.fltsum = 0 <;> simp [h]

theorem State.modeWhy_estop (s : State) : s.modeWhy .estop = 0 ↔ s.estopN = true := by simp [State.modeWhy]

theorem any_elapsed (o : Option Nat) (wait now : Nat) :
    o.any (fun k => decide (k + wait ≤ now)) = true ↔ ∃ k, o = some k ∧ k + wait ≤ now := by
  cases o <;> simp

theorem State.modeWhy_service (s : State) : s.modeWhy .service = 0 ↔ ∃ k, s.svcLow = some k ∧ k + 20000000 ≤ s.now := by
  refine Iff.trans ?_ (any_elapsed s.svcLow 20000000 s.now)
  change (if s.svcHeld = true then 0 else 4) = 0 ↔ s.svcHeld = true
  cases s.svcHeld <;> decide

theorem State.modeWhy_clear (s : State) : s.modeWhy .clear = 0 ↔ s.fld R.LOCKSTAT R.LOCKSTAT_CLROK = 1 := by simp [State.modeWhy]

/-- A path of R36 is a row of the table whose requesters include the one that asks, and whose condition holds. -/
def State.rowAdmits (s : State) (src m : Mode) (q : ModeReq) : Prop :=
  ∃ who cond, modeRow src m = some (who, cond) ∧ q ∈ who ∧ s.modeWhy cond = 0

theorem ModePath.rowAdmits {s : State} {src m : Mode} {q : ModeReq} (h : ModePath s src m q) : s.rowAdmits src m q := by
  cases h with
  | prepareOfDawn h => exact ⟨_, _, rfl, by decide, s.modeWhy_dawn.2 h⟩
  | run _ hq he hf hi => exact ⟨_, _, rfl, hq, s.modeWhy_run.2 ⟨he, hf, hi⟩⟩
  | hold _ hq => exact ⟨_, _, rfl, hq, rfl⟩
  | resume _ hq he => exact ⟨_, _, rfl, hq, s.modeWhy_estop.2 he⟩
  | prepare _ _ hm hq =>
    simp only [List.mem_cons, List.not_mem_nil, or_false] at hm
    rcases hm with rfl | rfl <;> exact ⟨_, _, rfl, hq, rfl⟩
  | prepareOfSafe _ hq he => exact ⟨_, _, rfl, hq, s.modeWhy_estop.2 he⟩
  | safe _ _ hm hq =>
    have hq' : q ∈ [ModeReq.estop, .fault, .guard, .staff] := List.mem_cons_of_mem _ (List.mem_cons_of_mem _ hq)
    simp only [List.mem_cons, List.not_mem_nil, or_false] at hm
    rcases hm with rfl | rfl | rfl <;> exact ⟨_, _, rfl, hq', rfl⟩
  | lockout _ _ hm hq =>
    have hq' : q ∈ [ModeReq.fault, .guard, .staff, .hall] := List.mem_cons_of_mem _ (List.mem_append_left [ModeReq.hall] hq)
    simp only [List.mem_cons, List.not_mem_nil, or_false] at hm
    rcases hm with rfl | rfl | rfl | rfl <;> exact ⟨_, _, rfl, hq', rfl⟩
  | dawn _ _ hn hl hq =>
    have hq' : q ∈ [ModeReq.supply, .staff, .guard, .fault] := by
      simp only [List.mem_cons, List.not_mem_nil, or_false] at hq
      rcases hq with rfl | rfl <;> decide
    cases src with
    | night => exact absurd rfl hn
    | lockout => exact absurd rfl hl
    | _ => exact ⟨_, _, rfl, hq', rfl⟩
  | dawnOfLockout hc => exact ⟨_, _, rfl, by decide, s.modeWhy_clear.2 hc⟩
  | service _ k hm hk hn =>
    have why := s.modeWhy_service.2 ⟨k, hk, hn⟩
    simp only [List.mem_cons, List.not_mem_nil, or_false] at hm
    rcases hm with rfl | rfl | rfl <;> exact ⟨_, _, rfl, by decide, why⟩
  | night _ _ hm hq =>
    have hq' : q ∈ [ModeReq.supply, .guard, .staff] := List.mem_cons_of_mem _ hq
    simp only [List.mem_cons, List.not_mem_nil, or_false] at hm
    rcases hm with rfl | rfl | rfl <;> exact ⟨_, _, rfl, hq', rfl⟩

/-- The requesters that make requests: the Guard and the Shop world, and the Staff port. -/
def ModeReq.asks (q : ModeReq) : Prop := q = .guard ∨ q = .shop ∨ q = .staff

/-- Of the requesters of a row, those that make requests. -/
theorem ModeReq.asks.guard_or_staff {q : ModeReq} (h : q.asks) {who : List ModeReq} (hw : q ∈ who) (hs : ModeReq.shop ∉ who) :
    q ∈ [ModeReq.guard, .staff] := by
  rcases h with rfl | rfl | rfl
  · decide
  · exact absurd hw hs
  · decide

theorem State.rowAdmits.modePath {s : State} {src m : Mode} {q : ModeReq} (hq : q.asks) (h : s.rowAdmits src m q) : ModePath s src m q := by
  obtain ⟨who, cond, hr, hw, hc⟩ := h
  unfold modeRow at hr
  split at hr <;> cases hr
  · obtain rfl : q = .guard := List.mem_singleton.1 hw
    exact .prepareOfDawn (s.modeWhy_dawn.1 hc)
  · obtain rfl : q = .fault := List.mem_singleton.1 hw
    rcases hq with h | h | h <;> cases h
  · obtain rfl : q = .fault := List.mem_singleton.1 hw
    rcases hq with h | h | h <;> cases h
  · obtain ⟨he, hf, hi⟩ := s.modeWhy_run.1 hc
    exact .run q hw he hf hi
  · exact .hold q hw
  · exact .resume q hw (s.modeWhy_estop.1 hc)
  · exact .prepare _ q (by decide) hw
  · exact .prepare _ q (by decide) hw
  · exact .safe _ q (by decide) (hq.guard_or_staff hw (by decide))
  · exact .safe _ q (by decide) (hq.guard_or_staff hw (by decide))
  · exact .safe _ q (by decide) (hq.guard_or_staff hw (by decide))
  · exact .prepareOfSafe q hw (s.modeWhy_estop.1 hc)
  · exact .lockout _ q (by decide) (hq.guard_or_staff hw (by decide))
  · exact .lockout _ q (by decide) (hq.guard_or_staff hw (by decide))
  · exact .lockout _ q (by decide) (hq.guard_or_staff hw (by decide))
  · exact .lockout _ q (by decide) (hq.guard_or_staff hw (by decide))
  · rcases hq with rfl | rfl | rfl
    · exact absurd hw (by decide)
    · exact absurd hw (by decide)
    · exact .dawnOfLockout (s.modeWhy_clear.1 hc)
  · obtain rfl : q = .supply := List.mem_singleton.1 hw
    rcases hq with h | h | h <;> cases h
  · next hl hn => exact .dawn _ q (fun e => hn e) (fun e => hl e) (hq.guard_or_staff hw (by decide))
  · obtain ⟨k, hk, hn⟩ := s.modeWhy_service.1 hc
    obtain rfl : q = .staff := List.mem_singleton.1 hw
    exact .service _ k (by decide) hk hn
  · obtain ⟨k, hk, hn⟩ := s.modeWhy_service.1 hc
    obtain rfl : q = .staff := List.mem_singleton.1 hw
    exact .service _ k (by decide) hk hn
  · obtain ⟨k, hk, hn⟩ := s.modeWhy_service.1 hc
    obtain rfl : q = .staff := List.mem_singleton.1 hw
    exact .service _ k (by decide) hk hn
  · exact .night _ q (by decide) (hq.guard_or_staff hw (by decide))
  · exact .night _ q (by decide) (hq.guard_or_staff hw (by decide))
  · exact .night _ q (by decide) (hq.guard_or_staff hw (by decide))
  · obtain rfl : q = .supply := List.mem_singleton.1 hw
    rcases hq with h | h | h <;> cases h

/-! ### The judgement -/

section
variable {s : State} {m : Mode} {q : ModeReq}

theorem State.judge_of_path (ht : s.trans = none) (hs : q = .staff → s.staff.sess = .opened) (h : ModePath s s.mode m q) :
    s.judge m q = (1, 0) := by
  obtain ⟨who, cond, hr, hw, hc⟩ := h.rowAdmits
  have src : s.srcMode = s.mode := by rw [State.srcMode, ht]
  have open' : (q == .staff && s.staff.sess != .opened) = false := by
    cases q <;> simp [hs]
  simp [State.judge, ht, src, hr, hw, hc, open']

theorem State.judge_of_not (ht : s.trans = none) (hq : q.asks) (hs : q = .staff → s.staff.sess = .opened)
    (h : ¬ModePath s s.mode m q) : (s.judge m q).1 ∈ [2, 3, 4] := by
  have src : s.srcMode = s.mode := by rw [State.srcMode, ht]
  have open' : (q == .staff && s.staff.sess != .opened) = false := by
    cases q <;> simp [hs]
  have pre : (s.trans.isSome && !(m == .safe || m == .lockout)) = false := by simp [ht]
  unfold State.judge
  dsimp only
  rw [pre, if_neg Bool.false_ne_true, src]
  cases hr : modeRow s.mode m with
  | none => simp
  | some row =>
    obtain ⟨who, cond⟩ := row
    by_cases hw : q ∈ who
    · have why : s.modeWhy cond ≠ 0 := fun hc => h (State.rowAdmits.modePath hq ⟨who, cond, hr, hw, hc⟩)
      simp [hw, open', why]
    · simp [hw]

theorem State.judge_busy (ht : s.trans ≠ none) (h1 : m ≠ .safe) (h2 : m ≠ .lockout) : s.judge m q = (5, 0) := by
  have pre : (s.trans.isSome && !(m == .safe || m == .lockout)) = true := by simp [Option.isSome_iff_ne_none, ht, h1, h2]
  unfold State.judge
  exact if_pos pre

end

theorem State.modeRequest_accepted {s : State} {w : Who} {m : Mode} (h : s.judge m w.modeReq = (1, 0)) :
    s.modeRequest w m = s.carryOut w m := by
  unfold State.modeRequest
  simp only [h]

theorem State.modeRequest_refused {s : State} {w : Who} {m : Mode} (h : (s.judge m w.modeReq).1 ≠ 1) :
    s.modeRequest w m = s.modeResp (s.judge m w.modeReq).1 m w.modeReq (s.judge m w.modeReq).2 := by
  unfold State.modeRequest
  dsimp only
  generalize s.judge m w.modeReq = j at h ⊢
  split
  next => exact absurd rfl h
  next => rfl

/-- MODERESP after a request names its outcome and its target. -/
theorem State.modeResp_flds (s : State) (st : Nat) (m : Mode) (q : ModeReq) (why : Nat) :
    let answer := BitVec.ofNat 32 (st + 16 * m.code + 256 * q.code + 65536 * why)
    (s.modeResp st m q why).fld R.MODERESP R.MODERESP_TARGET = R.MODERESP_TARGET.get answer ∧
      (s.modeResp st m q why).fld R.MODERESP R.MODERESP_STATUS = R.MODERESP_STATUS.get answer := by
  unfold State.modeResp State.fld
  rw [State.rd_wr_self]
  exact ⟨rfl, rfl⟩

theorem Mode.code_lt (m : Mode) : m.code < 8 := by cases m <;> decide
theorem Mode.ofCode_code (m : Mode) : Mode.ofCode m.code = m := by cases m <;> rfl

theorem modeResp_target {st : Nat} (m : Mode) (q : ModeReq) (why : Nat) (h : st < 16) :
    R.MODERESP_TARGET.get (BitVec.ofNat 32 (st + 16 * m.code + 256 * q.code + 65536 * why)) = m.code := by
  have := m.code_lt
  simp only [F.get, R.MODERESP_TARGET, BitVec.toNat_ofNat, Nat.shiftRight_eq_div_pow]
  omega

theorem modeResp_status {st : Nat} (m : Mode) (q : ModeReq) (why : Nat) (h : st < 16) :
    R.MODERESP_STATUS.get (BitVec.ofNat 32 (st + 16 * m.code + 256 * q.code + 65536 * why)) = st := by
  simp only [F.get, R.MODERESP_STATUS, BitVec.toNat_ofNat, Nat.shiftRight_eq_div_pow]
  omega

/-! ### What an accepted request does -/

/-- A transition from `src` to `m` that `q` asked for has been accepted in `t` (R37, R42). -/
def State.Accepted (t : State) (src m : Mode) (q : ModeReq) : Prop :=
  (∃ tr, t.trans = some tr ∧ tr.target = m ∧ tr.req = q ∧ tr.src = src) ∧
    t.rd R.MODERESP = BitVec.ofNat 32 (1 + 16 * m.code + 256 * q.code) ∧ t.fld R.MODESTAT R.MODESTAT_BUSY = 1 ∧
    (m = .safe ∨ m = .lockout → t.LinesSafe)

theorem State.accept_accepted {s : State} (ht : s.trans = none) (m : Mode) (q : ModeReq) (cause : Nat) (path : Nat × Bool × Nat) :
    (s.accept m q cause path).Accepted s.mode m q := by
  have src : s.srcMode = s.mode := by rw [State.srcMode, ht]
  exact ⟨⟨_, s.accept_trans m q cause path, rfl, rfl, src⟩, s.accept_moderesp m q cause path, s.accept_busy m q cause path,
    s.accept_linesSafe m q cause path⟩

theorem State.accept_mode (s : State) (m : Mode) (q : ModeReq) (cause : Nat) (path : Nat × Bool × Nat) :
    (s.accept m q cause path).mode = s.mode := (s.accept_only m q cause path).keep State.mode fun _ => rfl

/-- The answer to a request for PREPARE made in DAWN repeats that of the transition. -/
theorem State.Accepted.modeResp {t : State} {src m : Mode} {q : ModeReq} (h : t.Accepted src m q) :
    (t.modeResp 1 m q 0).Accepted src m q := by
  obtain ⟨tr, -, busy, safe⟩ := h
  refine ⟨tr, (State.rd_wr_self _ _ _).trans (by simp), ?_, safe⟩
  exact (State.fld_wr_ne _ _ _ (by decide)).trans busy

/-- A request other than for DAWN is carried out as a transition; one for PREPARE in DAWN, when neither ESTOP_N nor an alarm redirects it. -/
theorem State.carryOut_accepted {s : State} {w : Who} {m : Mode} (ht : s.trans = none) (hm : m ≠ .dawn)
    (hd : s.mode = .dawn → s.estopN = true ∧ s.fld R.DAWNSTAT R.DAWNSTAT_HMALARM = 0) :
    (s.carryOut w m).Accepted s.mode m w.modeReq ∧ (s.carryOut w m).mode = s.mode := by
  unfold State.carryOut
  dsimp only
  split
  next => exact absurd rfl hm
  next =>
    split
    next h =>
      obtain ⟨he, ha⟩ := hd (beq_iff_eq.1 h)
      rw [if_neg (by simp [he]), if_neg (by simp [ha])]
      exact ⟨(State.accept_accepted ht _ _ _ _).modeResp, s.accept_mode _ _ _ _⟩
    next => exact ⟨State.accept_accepted ht _ _ _ _, s.accept_mode _ _ _ _⟩
  next => exact ⟨State.accept_accepted ht _ _ _ _, s.accept_mode _ _ _ _⟩

/-- A request for DAWN is carried out as a reset (R41, R46). -/
theorem State.carryOut_dawn {s : State} {w : Who} (hr : s.resetN = true) :
    let t := s.carryOut w .dawn
    t.mode = .dawn ∧ t.dawn = .waitClock ∧ t.trans = none ∧ t.ResetBy (if s.mode = .lockout then 7 else if w.isStaff then 4 else 5) ∧
      (s.mode = .lockout → t.fld R.LOCKSTAT R.LOCKSTAT_PEND = 0) := by
  by_cases hl : s.mode = .lockout
  · have e : s.carryOut w .dawn = (s.setFld R.LOCKSTAT R.LOCKSTAT_PEND 0).mainReset 7 w.path false false :=
      if_pos (by rw [hl]; rfl)
    rw [e, if_pos hl]
    refine ⟨State.mainReset_mode _ _ _ _ _, ?_, State.mainReset_trans _ _ _ _ _, State.mainReset_resetBy _ (by decide) _ _ _, fun _ => ?_⟩
    · rw [State.mainReset_dawn]
      exact if_pos hr
    · rw [State.mainReset_fld _ _ _ _ _ _ _ (by decide) (by decide), State.fld_setFld_self _ _ _ _ (by decide)]
      rfl
  · have e : s.carryOut w .dawn = s.mainReset (if w.isStaff then 4 else 5) w.path false false := if_neg (by simp [hl])
    rw [e, if_neg hl]
    refine ⟨State.mainReset_mode _ _ _ _ _, ?_, State.mainReset_trans _ _ _ _ _, State.mainReset_resetBy _ (by split <;> decide) _ _ _,
      fun h => absurd h hl⟩
    rw [State.mainReset_dawn]
    exact if_pos hr

/-! ### The command -/

/-- What a request beside its register changes: the record of owners, the Staff port and its data. -/
def Frame.asks : Frame where
  upd t s := { s with regs := t.regs, owners := t.owners, staff := t.staff, rdata := t.rdata }
  self _ := rfl
  twice _ _ _ := rfl
  regs _ _ := rfl

/-- The state in which a request is judged: a frame of the Staff port has been received. -/
def State.heard (s : State) : Rq → State
  | .core _ => s
  | .staff => s.updStaff (fun x => { x with goodK := s.now })

theorem State.heard_judge (s : State) (r : Rq) (m : Mode) (q : ModeReq) : (s.heard r).judge m q = s.judge m q := by cases r <;> rfl
theorem State.heard_trans (s : State) (r : Rq) : (s.heard r).trans = s.trans := by cases r <;> rfl
theorem State.heard_mode (s : State) (r : Rq) : (s.heard r).mode = s.mode := by cases r <;> rfl
theorem State.heard_estopN (s : State) (r : Rq) : (s.heard r).estopN = s.estopN := by cases r <;> rfl
theorem State.heard_resetN (s : State) (r : Rq) : (s.heard r).resetN = s.resetN := by cases r <;> rfl
theorem State.heard_fld (s : State) (r : Rq) (a : Nat) (f : F) : (s.heard r).fld a f = s.fld a f := by cases r <;> rfl

theorem ModeRow.exec_eq {m : Mode} {row : Rq → Instr} (h : ModeRow m row) (r : Rq) (s : State) : exec (row r) s = done s (s.askMode r m) := by
  cases h <;> rfl

theorem modereq_word (m : Mode) : R.MODEREQ_KEY.put (w32 m.code) 0xA55A = BitVec.ofNat 32 (m.code + 65536 * 0xA55A) := by cases m <;> rfl

theorem State.regWrite_modereq (s : State) (w : Who) (v : Word) : (s.regWrite w R.MODEREQ v).1 = s.modereqWrite w v := rfl

theorem State.modereqWrite_key (s : State) (w : Who) (m : Mode) :
    s.modereqWrite w (BitVec.ofNat 32 (m.code + 65536 * 0xA55A)) = s.modeRequest w m := by
  have ht : R.MODEREQ_TARGET.get (BitVec.ofNat 32 (m.code + 65536 * 0xA55A)) = m.code := by cases m <;> rfl
  have hk : R.MODEREQ_KEY.get (BitVec.ofNat 32 (m.code + 65536 * 0xA55A)) = 0xA55A := by cases m <;> rfl
  simp [State.modereqWrite, ht, hk, m.ofCode_code]

theorem askMode_core {s : State} {l : Nat} {m : Mode} (h : s.MayAsk (.core l) m) :
    Frame.asks.Only (fun _ => False) (s.modeRequest (s.who l) m) (s.askMode (.core l) m) := by
  have hl : l < 5 := h.1
  have hw : (s.who l).isStaff = false := by
    simp only [State.who, Who.isStaff]
    exact beq_false_of_ne (by omega)
  have e : s.askMode (.core l) m = s.busWrite (s.who l) R.MODEREQ (BitVec.ofNat 32 (m.code + 65536 * 0xA55A)) := by
    rw [← State.Reaches.request_core h rfl, ← modereq_word]
    rfl
  rw [e, State.busWrite_core hw (by decide), State.regWrite_modereq, State.modereqWrite_key]
  exact .ite _ (Frame.Only.refl.put rfl rfl) .refl

theorem State.stmodereq_asks (s : State) (m : Mode) :
    Frame.asks.Only (fun _ => False) (s.modeRequest .staff m) (s.stmodereq (0xA500 + m.code)).2.2 := by
  have hc := m.code_lt
  have h8 : (0xA500 + m.code) % 8 = m.code := by omega
  have h256 : (0xA500 + m.code) / 256 = 0xA5 := by omega
  simp only [State.stmodereq, h8, h256, m.ofCode_code, bne_self_eq_false, Bool.false_eq_true, if_false]
  exact .ite _ .refl (Frame.Only.refl.put rfl rfl)

theorem askMode_staff {s : State} {m : Mode} (h : s.MayAsk .staff m) :
    Frame.asks.Only (fun _ => False) ((s.heard .staff).modeRequest .staff m) (s.askMode .staff m) := by
  obtain ⟨hn, hr, ho⟩ := h
  have sent : s.staffDo { enroll := false, certOk := false } 2 0x32 (0xA500 + m.code) =
      ((s.heard .staff).stmodereq (0xA500 + m.code)).2.2.staffReply ((s.heard .staff).stmodereq (0xA500 + m.code)).1 0x32
        ((s.heard .staff).stmodereq (0xA500 + m.code)).2.1 := by
    have view : ((s.heard .staff).staffView 0x32).isNone = false := rfl
    have ready : (s.heard .staff).notReady = false := hr
    have opened : ((s.heard .staff).staff.sess != .opened) = false := by
      have : (s.heard .staff).staff.sess = .opened := ho
      rw [this]
      rfl
    unfold State.staffDo
    change (if (s.heard .staff).notReady then _ else if 2 = 0 then _ else if (2 != 1 && 2 != 2) then _ else
      if ((s.heard .staff).staffView 0x32).isNone then _ else
      if !staffOpen 0x32 && (s.heard .staff).staff.sess != .opened then _ else if 2 = 1 then _ else _) = _
    rw [ready, view, opened]
    rfl
  have reply : Frame.asks.Only (fun _ => False) ((s.heard .staff).modeRequest .staff m)
      (s.staffDo { enroll := false, certOk := false } 2 0x32 (0xA500 + m.code)) := by
    rw [sent]
    exact ((s.heard .staff).stmodereq_asks m).trans (Frame.Only.refl.put rfl rfl)
  have e : s.askMode .staff m = if s.staff.uart
      then { s.staffDo { enroll := false, certOk := false } 2 0x32 (0xA500 + m.code) with
        rdata := replyWord (s.staffDo { enroll := false, certOk := false } 2 0x32 (0xA500 + m.code)).staff.reply }
      else { s.staffDo { enroll := false, certOk := false } 2 0x32 (0xA500 + m.code) with rdata := replyWord s.staff.reply } :=
    if_neg (by simp [hn])
  rw [e]
  exact .ite _ (reply.put rfl rfl) (reply.put rfl rfl)

/-- The command leads to what the request does, but for what asking changes. -/
theorem State.MayAsk.leads {s : State} {r : Rq} {m : Mode} {row : Rq → Instr} {P : State → Prop} (h : s.MayAsk r m) (hrow : ModeRow m row)
    (hP : ∀ t, Frame.asks.Only settleReg ((s.heard r).modeRequest (s.asker r) m) t → P t) : s.Leads (row r) P := by
  have asked : Frame.asks.Only (fun _ => False) ((s.heard r).modeRequest (s.asker r) m) (s.askMode r m) := by
    cases r with
    | core l => exact askMode_core h
    | staff => exact askMode_staff h
  exact .of_done (hrow.exec_eq r s) fun t ht => hP t ((asked.mono fun _ => False.elim).regsAt ((raised_iff _ _).1 ht))

theorem State.MayAsk.modeReq {s : State} {r : Rq} {m : Mode} (h : s.MayAsk r m) :
    (s.asker r).modeReq = s.modeAsker r ∧ (s.modeAsker r).asks ∧ (s.modeAsker r = .staff → s.staff.sess = .opened) ∧
      ((s.asker r).isStaff = true ↔ r = .staff) := by
  cases r with
  | core l =>
    have hl : l < 5 := h.1
    have hw : (s.asker (.core l)).isStaff = false := by
      simp only [State.asker, State.who, Who.isStaff]
      exact beq_false_of_ne (by omega)
    refine ⟨?_, ?_, ?_, by simp [hw]⟩
    · rw [Who.modeReq, hw]
      rfl
    · cases hg : (s.core l).guard <;> simp [State.modeAsker, ModeReq.asks, hg]
    · cases hg : (s.core l).guard <;> simp [State.modeAsker, hg]
  | staff => exact ⟨rfl, .inr (.inr rfl), fun _ => h.2.2, by simp [State.asker, Who.isStaff, Who.staff]⟩

/-! What asking and the interrupts leave of the state after the request. -/

section
variable {u t : State} (h : Frame.asks.Only settleReg u t)
include h

theorem State.Accepted.asked {src m : Mode} {q : ModeReq} (ha : u.Accepted src m q) : t.Accepted src m q := by
  obtain ⟨tr, resp, busy, safe⟩ := ha
  have trans : t.trans = u.trans := h.keep State.trans fun _ => rfl
  have lines : t.lines = u.lines := h.keep State.lines fun _ => rfl
  refine ⟨trans ▸ tr, (h.rd (offIrq.not_settleReg (by decide))).trans resp, (h.fld _ (offIrq.not_settleReg (by decide))).trans busy,
    fun hm => (safe hm).congr lines⟩

theorem asked_mode : t.mode = u.mode := h.keep State.mode fun _ => rfl
theorem asked_trans : t.trans = u.trans := h.keep State.trans fun _ => rfl
theorem asked_dawn : t.dawn = u.dawn := h.keep State.dawn fun _ => rfl

/-- The answer of a refused request. -/
theorem asked_refused {s : State} {st why : Nat} {m : Mode} {q : ModeReq} (hu : u = s.modeResp st m q why) (hst : st < 16) :
    t.mode = s.mode ∧ t.trans = s.trans ∧ t.fld R.MODERESP R.MODERESP_TARGET = m.code ∧ t.fld R.MODERESP R.MODERESP_STATUS = st := by
  refine ⟨?_, ?_, ?_, ?_⟩
  · rw [asked_mode h, hu]; rfl
  · rw [asked_trans h, hu]; rfl
  · rw [h.fld _ (offIrq.not_settleReg (by decide)), hu, (s.modeResp_flds st m q why).1, modeResp_target m q why hst]
  · rw [h.fld _ (offIrq.not_settleReg (by decide)), hu, (s.modeResp_flds st m q why).2, modeResp_status m q why hst]

end

/-- Settles O21, by the judgement of the request. -/
theorem modeRequestsAreJudged : Obligations.ModeRequestsAreJudged := by
  intro s r m row hrow hask
  obtain ⟨req, asks, sess, staff⟩ := hask.modeReq
  have judge : (s.heard r).judge m (s.asker r).modeReq = s.judge m (s.modeAsker r) := by rw [s.heard_judge, req]
  refine ⟨fun ht hp hm hd => ?_, fun ht hp hm hr => ?_, fun ht hp => ?_, fun ht h1 h2 => ?_, fun hm => ?_⟩
  · refine hask.leads hrow fun t h => ?_
    rw [State.modeRequest_accepted (judge.trans (State.judge_of_path ht sess hp))] at h
    obtain ⟨acc, mode⟩ := State.carryOut_accepted (w := s.asker r) ((s.heard_trans r).trans ht) hm
      (by rw [s.heard_mode, s.heard_estopN, s.heard_fld]; exact hd)
    rw [req, s.heard_mode] at acc
    exact ⟨(asked_mode h).trans (mode.trans (s.heard_mode r)), acc.asked h⟩
  · subst hm
    refine hask.leads hrow fun t h => ?_
    rw [State.modeRequest_accepted (judge.trans (State.judge_of_path ht sess hp))] at h
    obtain ⟨mode, dawn, trans, by', pend⟩ := State.carryOut_dawn (w := s.asker r) ((s.heard_resetN r).trans hr)
    have cause : (if s.mode = .lockout then 7 else if (s.asker r).isStaff then 4 else 5) =
        if s.mode = .lockout then 7 else if r = .staff then 4 else 5 := by simp only [staff]
    rw [s.heard_mode, cause] at by'
    rw [s.heard_mode] at pend
    refine ⟨(asked_mode h).trans mode, (asked_dawn h).trans dawn, (asked_trans h).trans trans, ?_, fun hl => ?_⟩
    · exact by'.of_rd (h.rd (offIrq.not_settleReg (by decide)))
    · exact (h.fld _ (offIrq.not_settleReg (by decide))).trans (pend hl)
  · refine hask.leads hrow fun t h => ?_
    have st := State.judge_of_not ht asks sess hp
    rw [← judge] at st
    have lt : ((s.heard r).judge m (s.asker r).modeReq).1 ≠ 1 ∧ ((s.heard r).judge m (s.asker r).modeReq).1 < 16 := by
      simp only [List.mem_cons, List.not_mem_nil, or_false] at st
      omega
    obtain ⟨mode, trans, target, status⟩ := asked_refused h (State.modeRequest_refused lt.1) lt.2
    exact ⟨⟨mode.trans (s.heard_mode r), trans.trans (s.heard_trans r), target⟩, status ▸ st⟩
  · refine hask.leads hrow fun t h => ?_
    have st : (s.heard r).judge m (s.asker r).modeReq = (5, 0) := judge.trans (State.judge_busy ht h1 h2)
    obtain ⟨mode, trans, target, status⟩ := asked_refused h (State.modeRequest_refused (by rw [st]; decide)) (by rw [st]; decide)
    exact ⟨⟨mode.trans (s.heard_mode r), trans.trans (s.heard_trans r), target⟩, status.trans (congrArg Prod.fst st)⟩
  · exact congrArg (done s) (if_pos (by rw [hm]; rfl))

end Sys2Proof.Machine
end

section
/-! SUPPORT. What the end of a slot, its queue's step and its forecast's message leave unchanged, and what a fire reaches. -/

namespace Sys2Proof.Machine

/-! ### The parts that change -/

/-- The queues and the reports that wait to be written. -/
def Frame.queueing : Frame where
  upd t s := { s with regs := t.regs, queues := t.queues, reports := t.reports, repFirst := t.repFirst }
  self _ := rfl
  twice _ _ _ := rfl
  regs _ _ := rfl

/-- The forecasts, and the messages that wait for the Enward. -/
def Frame.forecast : Frame where
  upd t s := { s with regs := t.regs, enq := t.enq, en := t.en, fcOut := t.fcOut, fcMap := t.fcMap }
  self _ := rfl
  twice _ _ _ := rfl
  regs _ _ := rfl

/-- What follows the end of a slot. -/
def Frame.ending : Frame where
  upd t s := { s with regs := t.regs, queues := t.queues, reports := t.reports, repFirst := t.repFirst, enq := t.enq, en := t.en
                      fcOut := t.fcOut, fcMap := t.fcMap }
  self _ := rfl
  twice _ _ _ := rfl
  regs _ _ := rfl

/-- The slots, what follows their end, and the units that a fire reaches. -/
def Frame.units : Frame where
  upd t s := { s with regs := t.regs, queues := t.queues, reports := t.reports, repFirst := t.repFirst, enq := t.enq, en := t.en
                      fcOut := t.fcOut, fcMap := t.fcMap, slots := t.slots, lines := t.lines, gens := t.gens, caps := t.caps
                      capSeq := t.capSeq, capAt := t.capAt, memq := t.memq, acts := t.acts }
  self _ := rfl
  twice _ _ _ := rfl
  regs _ _ := rfl

/-- What the evaluation of a slot reaches: a compare fault asks for SAFE. -/
def Frame.judged : Frame where
  upd t s := { s with regs := t.regs, queues := t.queues, reports := t.reports, repFirst := t.repFirst, enq := t.enq, en := t.en
                      fcOut := t.fcOut, fcMap := t.fcMap, slots := t.slots, lines := t.lines, gens := t.gens, caps := t.caps
                      capSeq := t.capSeq, capAt := t.capAt, memq := t.memq, acts := t.acts, trans := t.trans, pwms := t.pwms
                      sds := t.sds, rcs := t.rcs, att := t.att }
  self _ := rfl
  twice _ _ _ := rfl
  regs _ _ := rfl

theorem Frame.queueing_le : Frame.queueing.le .ending := fun _ _ e => by rw [e]; rfl
theorem Frame.forecast_le : Frame.forecast.le .ending := fun _ _ e => by rw [e]; rfl
theorem Frame.ending_le : Frame.ending.le .units := fun _ _ e => by rw [e]; rfl
theorem Frame.units_le : Frame.units.le .judged := fun _ _ e => by rw [e]; rfl
theorem Frame.accepted_le : Frame.accepted.le .judged := fun _ _ e => by rw [e]; rfl

/-- Not a register that a command or a transition answers for: the mode, LOCKOUT, the Guard policy, late fires, and MODECHG. -/
@[reducible] def unwatched (a : Nat) : Prop :=
  a ≠ R.TTLATECNT ∧ a ≠ R.MODESTAT ∧ a ≠ R.LOCKSTAT ∧ a ≠ R.GPOLICY ∧ (a < R.IRQCNT 0x98 ∨ R.IRQCNT 0x9C < a)

theorem unwatched_irqcnt {n : Nat} (h : n < 0x98 ∨ 0x9C < n ∧ n < 0x100) : unwatched (R.IRQCNT n) := by
  simp only [unwatched, R.IRQCNT, R.TTLATECNT, R.MODESTAT, R.LOCKSTAT, R.GPOLICY]
  omega

theorem unwatched_queue {q a : Nat} (hq : q < 16) (h : a = R.QCNT q ∨ a = R.QFAIL q) : unwatched a := by
  simp only [R.QCNT, R.QFAIL] at h
  simp only [unwatched, R.IRQCNT, R.TTLATECNT, R.MODESTAT, R.LOCKSTAT, R.GPOLICY]
  omega

/-! ### Queues -/

section
variable {o s : State} {q : Nat} (h : Frame.queueing.Only unwatched o s)
include h

theorem State.setQueue_queueing (x : Queue) : Frame.queueing.Only unwatched o (s.setQueue q x) := h.put rfl rfl

theorem State.addReport_queueing (r : Report) : Frame.queueing.Only unwatched o (s.addReport r) := h.put rfl rfl

variable (hq : q < 16)
include hq

theorem arrive_queueing : Frame.queueing.Only unwatched o (s.arrive (0x70 + q)) :=
  h.arrive (unwatched_irqcnt (by omega)) (by decide)

theorem count_queueing (f : F) : Frame.queueing.Only unwatched o (s.count (R.QCNT q) f 1) :=
  h.count f 1 (unwatched_queue hq (.inl rfl))

theorem State.haltQueue_queueing (why : Nat) : Frame.queueing.Only unwatched o (s.haltQueue q why) :=
  arrive_queueing (State.setQueue_queueing h _) hq

theorem State.setHead_queueing (n : Nat) : Frame.queueing.Only unwatched o (s.setHead q n) :=
  .ite _ (arrive_queueing (State.setQueue_queueing h _) hq) (State.setQueue_queueing h _)

theorem State.freeHead_queueing : Frame.queueing.Only unwatched o (s.freeHead q) := by
  unfold State.freeHead
  split
  · exact .ite _ h (State.setHead_queueing h hq _)
  · exact .ite _ h (State.setHead_queueing h hq _)

theorem State.consume_queueing (code when0 : Nat) (latef rawpl disc ready : Bool) :
    Frame.queueing.Only unwatched o (s.consume q code when0 latef rawpl disc ready) :=
  .ite _ (State.addReport_queueing (State.setQueue_queueing h _) _) (State.freeHead_queueing (State.setQueue_queueing h _) hq)

theorem State.afterConsume_queueing : Frame.queueing.Only unwatched o (s.afterConsume q) :=
  .ite _ h (.ite _ (count_queueing (State.setQueue_queueing h _) hq _)
    (.ite _ (State.setQueue_queueing h _) (count_queueing (State.setQueue_queueing h _) hq _)))

theorem State.queueStatus_queueing (status : Nat) (latef : Bool) : Frame.queueing.Only unwatched o (s.queueStatus q status latef) := by
  unfold State.queueStatus
  extract_lets late skip fail
  have hl : Frame.queueing.Only unwatched o late := .ite _ (count_queueing h hq _) h
  clear_value late
  have hs : Frame.queueing.Only unwatched o skip := .ite _ (count_queueing hl hq _) hl
  clear_value skip
  have hf : Frame.queueing.Only unwatched o fail := hs.count _ 1 (unwatched_queue hq (.inr rfl))
  exact .ite _ (.ite _ (State.haltQueue_queueing hf hq _) hf) (.ite _ (State.haltQueue_queueing hs hq _) hs)

end

theorem State.queueEnd_queueing (s : State) (i status : Nat) (ready : Bool) :
    Frame.queueing.Only unwatched s (s.queueEnd i status ready) := by
  unfold State.queueEnd
  split
  next => exact .refl
  next q e =>
    have hq : q < 16 := by simpa using (mem_upFrom.1 (List.mem_of_find?_eq_some e)).2
    have hc (when0 : Nat) (latef rawpl disc : Bool) := State.consume_queueing (s := s) .refl hq status when0 latef rawpl disc ready
    refine .ite _ .refl (.ite _ (State.setQueue_queueing .refl _) ?_)
    exact State.afterConsume_queueing (.ite _ (State.queueStatus_queueing (hc _ _ _ _) hq _ _) (hc _ _ _ _)) hq

/-! ### Forecasts -/

section
variable {o s : State} (h : Frame.forecast.Only unwatched o s)
include h

theorem State.enPush_forecast {m : EnMsg} {t : State} (e : s.enPush m = some t) : Frame.forecast.Only unwatched o t := by
  unfold State.enPush at e
  obtain ⟨-, ht⟩ := Option.ite_none_right_eq_some.1 e
  cases ht
  exact h.put rfl rfl

theorem State.enRefused_forecast (cls : Nat) : Frame.forecast.Only unwatched o (s.enRefused cls) :=
  (h.put (t := { s with en := { s.en with refused := cls :: s.en.refused.filter (· != cls) } }) rfl rfl).count _ _ (by decide)

theorem State.enSend_forecast (m : EnMsg) : Frame.forecast.Only unwatched o (s.enSend m) := by
  unfold State.enSend
  split
  next e => exact State.enPush_forecast h e
  next => exact State.enRefused_forecast h _

theorem State.fcSend_forecast (typ tag body : Nat) : Frame.forecast.Only unwatched o (s.fcSend typ tag body) := by
  unfold State.fcSend
  dsimp only
  split
  next e => exact State.enPush_forecast h e
  next => exact (State.enRefused_forecast h _).count _ _ (by decide)

theorem State.fcEnd_forecast (slot tag status whenT : Nat) : Frame.forecast.Only unwatched o (s.fcEnd slot tag status whenT) := by
  unfold State.fcEnd
  split
  next => exact h
  next =>
    have k := h.put (t := { s with fcOut := s.fcOut.erase (· == slot) }) rfl rfl
    exact .ite _ (State.fcSend_forecast k _ _ _) (State.fcSend_forecast k _ _ _)

theorem State.fcRetract_forecast (slot tag reason : Nat) : Frame.forecast.Only unwatched o (s.fcRetract slot tag reason) := by
  unfold State.fcRetract
  split
  next => exact h
  next => exact State.fcSend_forecast (h.put (t := { s with fcOut := s.fcOut.erase (· == slot) }) rfl rfl) _ _ _

theorem State.fcSlotEnd_forecast (x : Slot) (status : Nat) : Frame.forecast.Only unwatched o (s.fcSlotEnd x status) := by
  unfold State.fcSlotEnd
  split
  next => exact .ite _ (h.put rfl rfl) h
  next => exact h

end

/-! ### The end of a slot -/

/-- Slot `i` is FREE, in both copies, with status `st`. -/
def State.Freed (t : State) (i st : Nat) : Prop := (t.slot i).a.state = 0 ∧ (t.slot i).b.state = 0 ∧ (t.slot i).status = st

theorem State.slot_setSlot_self (s : State) (i : Nat) (x : Slot) : (s.setSlot i x).slot i = x := by
  simp [State.slot, State.setSlot, Tab.get, Tab.find_put_self]

theorem State.slot_setSlot_ne (s : State) {i j : Nat} (x : Slot) (h : j ≠ i) : (s.setSlot i x).slot j = s.slot j := by
  simp [State.slot, State.setSlot, Tab.get, Tab.find_put_ne _ _ h]

theorem Frame.Only.slot_ending {p : Nat → Prop} {s t : State} (h : Frame.ending.Only p s t) (i : Nat) : t.slot i = s.slot i :=
  h.keep (State.slot · i) fun _ => rfl

theorem State.freeSlot_slot (s : State) (i st : Nat) :
    (s.freeSlot i st).slot i = { (s.slot i).both (fun c => { c with state := 0 }) with status := st, late := false } :=
  s.slot_setSlot_self i _

/-- Beyond the slot, its end changes the forecasts and its queue. -/
theorem State.endSlot_ending (s : State) (i st : Nat) : Frame.ending.Only unwatched (s.freeSlot i st) (s.endSlot i st) := by
  refine .trans ?_ ((State.queueEnd_queueing _ i st true).within Frame.queueing_le)
  have h : Frame.forecast.Only unwatched (s.freeSlot i st) (s.endSlotOnly i st) :=
    State.fcSlotEnd_forecast (State.fcEnd_forecast .refl _ _ _ _) _ _
  exact h.within Frame.forecast_le

theorem State.endSlot_slot (s : State) (i st : Nat) :
    (s.endSlot i st).slot i = { (s.slot i).both (fun c => { c with state := 0 }) with status := st, late := false } :=
  ((s.endSlot_ending i st).slot_ending i).trans (s.freeSlot_slot i st)

theorem State.endSlot_slot_ne (s : State) {i j : Nat} (st : Nat) (h : j ≠ i) : (s.endSlot i st).slot j = s.slot j :=
  ((s.endSlot_ending i st).slot_ending j).trans (s.slot_setSlot_ne _ h)

theorem State.endSlot_units (s : State) (i st : Nat) : Frame.units.Only unwatched s (s.endSlot i st) :=
  (Frame.Only.refl.put (t := s.freeSlot i st) rfl rfl).trans ((s.endSlot_ending i st).within Frame.ending_le)

/-- A fire whose action reaches its unit later changes its slot, its queue and the errands. -/
theorem State.sendErrand_queueing (s : State) (i k st : Nat) (e : Errand) : ∃ u, Frame.queueing.Only unwatched (s.freeSlot i st) u ∧
    s.sendErrand i k st e = { u with acts := u.acts ++ [{ slot := i, due := e.due k, op := e, queue := s.recordIn i }] } :=
  ⟨_, State.queueEnd_queueing _ i st false, rfl⟩

theorem State.sendErrand_units (s : State) (i k st : Nat) (e : Errand) : Frame.units.Only unwatched s (s.sendErrand i k st e) := by
  obtain ⟨u, h, hu⟩ := s.sendErrand_queueing i k st e
  rw [hu]
  have hf : Frame.units.Only unwatched s (s.freeSlot i st) := Frame.Only.refl.put rfl rfl
  exact (hf.trans ((h.within Frame.queueing_le).within Frame.ending_le)).put rfl rfl

/-! ### What a fire reaches -/

section
variable {p : Nat → Prop} {o s : State} (h : Frame.units.Only p o s)
include h

theorem State.placeEdge_units {l kind k tap slot : Nat} {t : State} (e : s.placeEdge l kind k tap slot = some t) :
    Frame.units.Only p o t := by
  obtain ⟨fd, -, rfl⟩ := Option.map_eq_some_iff.1 e
  exact h.put rfl rfl

theorem State.genStart_units {g k tap slot : Nat} {t : State} (e : s.genStart g k tap slot = some t) : Frame.units.Only p o t := by
  unfold State.genStart at e
  extract_lets x n y at e
  split at e
  · cases e
    exact h.put rfl rfl
  · obtain ⟨fd, -, rfl⟩ := Option.map_eq_some_iff.1 e
    exact h.put rfl rfl

theorem State.landGen_units (g k : Nat) : Frame.units.Only p o (s.landGen g k) := by
  unfold State.landGen
  extract_lets x fall off
  have hoff : Frame.units.Only p o off := h.put rfl rfl
  split
  · exact .ite _ hoff (.ite _ (h.put rfl rfl) h)
  · exact .ite _ hoff h

theorem State.genAdd_units (g k : Nat) : Frame.units.Only p o (s.genAdd g k) := by
  unfold State.genAdd
  extract_lets x r x' q
  refine .ite _ ?_ (h.put rfl rfl)
  split
  · exact h.put rfl rfl
  · exact h.put rfl rfl

theorem State.genRunBy_units (fuel g k : Nat) : Frame.units.Only p o (s.genRunBy fuel g k) := by
  induction fuel generalizing s with
  | zero => exact h
  | succ fuel ih =>
    unfold State.genRunBy
    extract_lets x r e s1 s2
    refine .ite _ h (.ite _ (h.put rfl rfl) (ih (State.genAdd_units ?_ g e)))
    have h1 : Frame.units.Only p o s1 := h.put rfl rfl
    exact .foldl (fun s _ _ hs => State.landGen_units hs g e) h1

theorem State.genStop_units (g t : Nat) : Frame.units.Only p o (s.genStop g t) := by
  unfold State.genStop
  extract_lets s'
  have k : Frame.units.Only p o s' := State.genRunBy_units h _ g _
  exact k.put rfl rfl

end

section
variable {o s : State} (h : Frame.units.Only unwatched o s)
include h

theorem State.capture_units {k src src2 : Nat} {t : State} (e : s.capture k src src2 = some t) : Frame.units.Only unwatched o t := by
  unfold State.capture State.captureNew at e
  split at e
  · cases e
    exact h.put rfl rfl
  · cases e
  · split at e
    · cases e
    · next b _ =>
      cases e
      refine Frame.Only.setFld ?_ _ _ (by decide)
      exact h.put rfl rfl

theorem State.captureLost_units (k : Nat) : Frame.units.Only unwatched o (s.captureLost k) :=
  .ite _ h ((h.put (t := { s with capAt := (k, none) :: s.capAt.take 1 }) rfl rfl).count _ _ (by decide))

theorem State.armNext_units (j : Nat) : Frame.units.Only unwatched o (s.armNext j).1 := by
  unfold State.armNext
  extract_lets x
  split
  · exact h
  · split
    · exact h.trans (s.endSlot_units j 8)
    · split
      · exact h.trans (s.endSlot_units j 9)
      · exact h.put rfl rfl

theorem State.act_units (i : Nat) (p : Period) (pl : Placing) : Frame.units.Only unwatched o (s.act i p pl).1 := by
  unfold State.act
  extract_lets orFail
  have of {r : Option State} (st : Nat) (hr : ∀ t, r = some t → Frame.units.Only unwatched o t) :
      Frame.units.Only unwatched o (orFail r st).1 := by
    cases r with
    | some t => exact hr t rfl
    | none => exact h
  split
  · exact of _ fun t e => State.placeEdge_units h e
  · exact of _ fun t e => State.placeEdge_units h e
  · exact of _ fun t e => State.placeEdge_units h e
  · split
    · exact h
    · exact of _ fun t e => State.genStart_units h e
  · exact State.genStop_units h _ _
  · split
    next e => exact State.capture_units h e
    next => exact State.captureLost_units h _
  · split
    · exact h
    · split
      · exact h
      · exact h.put rfl rfl
  · exact State.armNext_units h _
  · exact h

end

end Sys2Proof.Machine
end

section
/-! PROOF of O38. How a slot is evaluated at an edge, what a fire leaves of it, and how pending edges land. -/

namespace Sys2Proof.Machine

/-! ### What a fire does -/

/-- Slot `i` as a crossing leaves it: the word compared and the crossing instant are kept (R33, R143). -/
def State.reached (s : State) (i : Nat) (late : Bool) : Slot :=
  let x := s.slot i
  let word := (s.tb x.a.per.tb).prev
  let pl := s.placing x.a.per word late
  { x.both (fun c => { c with cap := word }) with whenT := pl.time, latef := late, rawpl := pl.raw, evalK := s.now, late := false }

/-- The same of a crossing that is only recorded: no edge is placed raw. -/
def State.recorded (s : State) (i : Nat) (late : Bool) : Slot := { s.reached i late with rawpl := (s.slot i).rawpl }

/-- The slot keeps the word compared, the instant, and whether it was reached late. -/
def State.KeepsCrossing (u t : State) (i : Nat) (late : Bool) : Prop :=
  let p := (u.slot i).a.per
  (t.slot i).a.cap = (u.tb p.tb).prev ∧ (t.slot i).whenT = (u.placing p (u.tb p.tb).prev late).time ∧ (t.slot i).latef = late

section
variable {s : State} {i : Nat} {late : Bool}

theorem State.fire_hold (h : s.mode = .hold) :
    s.fire i late = s.setSlot i { (s.recorded i late).both (fun c => { c with state := 3 }) with status := 5 } :=
  if_pos (by rw [h]; rfl)

theorem State.fire_skipped (h : s.mode ≠ .hold) (hp : (s.slot i).a.per.latepol = 1) :
    s.fire i true = ((s.setSlot i (s.recorded i true)).count R.TTLATECNT R.TTLATECNT_SKIP 1).endSlot i 4 :=
  (if_neg (by simp [h])).trans (if_pos (by simp [hp]))

theorem State.fire_gated (h : s.mode = .prepare) (hp : late = true → (s.slot i).a.per.latepol ≠ 1) (ha : (s.slot i).a.per.act ≤ 5) :
    s.fire i late = (s.setSlot i (s.recorded i late)).endSlot i 5 := by
  refine (if_neg (by simp [h])).trans ((if_neg ?_).trans (if_pos (by simp [h, ha])))
  cases late <;> simp [hp]

/-- The state in which a fire's action takes effect. -/
def State.firing (s : State) (i : Nat) (late : Bool) : State :=
  if late then (s.setSlot i (s.reached i late)).count R.TTLATECNT R.TTLATECNT_LATE 1 else s.setSlot i (s.reached i late)

/-- The status of a fire that its unit takes. -/
def firedStatus (late : Bool) : Nat := if late then 3 else 2

theorem State.fire_acts (h : s.mode ≠ .hold) (hp : late = true → (s.slot i).a.per.latepol ≠ 1)
    (hm : s.mode = .prepare → 5 < (s.slot i).a.per.act) :
    let p := (s.slot i).a.per
    let word := (s.tb p.tb).prev
    let pl := s.placing p word late
    s.fire i late = match p.errand i word pl late with
      | some e => (s.firing i late).sendErrand i (s.firing i late).now (firedStatus late) e
      | none => ((s.firing i late).act i p pl).1.endSlot i
          (if ((s.firing i late).act i p pl).2 != 0 then ((s.firing i late).act i p pl).2 else firedStatus late) := by
  refine (if_neg (by simp [h])).trans ((if_neg ?_).trans (if_neg ?_))
  · cases late <;> simp [hp]
  · simp only [Bool.and_eq_true, beq_iff_eq, decide_eq_true_eq, not_and]
    intro e
    have := hm e
    omega

/-- A fire whose action is carried to its unit later. -/
theorem State.fire_errand (h : s.mode ≠ .hold) (hp : late = true → (s.slot i).a.per.latepol ≠ 1)
    (hm : s.mode = .prepare → 5 < (s.slot i).a.per.act) {e : Errand}
    (he : (s.slot i).a.per.errand i (s.tb (s.slot i).a.per.tb).prev
      (s.placing (s.slot i).a.per (s.tb (s.slot i).a.per.tb).prev late) late = some e) :
    s.fire i late = (s.firing i late).sendErrand i (s.firing i late).now (firedStatus late) e := by
  rw [State.fire_acts h hp hm]
  simp only [he]

/-- A fire that its unit takes at once. -/
theorem State.fire_taken (h : s.mode ≠ .hold) (hp : late = true → (s.slot i).a.per.latepol ≠ 1)
    (hm : s.mode = .prepare → 5 < (s.slot i).a.per.act)
    (he : (s.slot i).a.per.errand i (s.tb (s.slot i).a.per.tb).prev
      (s.placing (s.slot i).a.per (s.tb (s.slot i).a.per.tb).prev late) late = none) {t : State}
    (ht : (s.firing i late).act i (s.slot i).a.per
      (s.placing (s.slot i).a.per (s.tb (s.slot i).a.per.tb).prev late) = (t, 0)) :
    s.fire i late = t.endSlot i (firedStatus late) := by
  rw [State.fire_acts h hp hm]
  simp only [he, ht]
  rfl

theorem State.firing_slot : (s.firing i late).slot i = s.reached i late := by
  cases late <;> exact s.slot_setSlot_self i _

/-- The instant of a late fire is that of the edge. -/
theorem State.placing_late (p : Period) (word : Int) : (s.placing p word true).time = s.wallAt s.now := by
  simp [State.placing]

theorem placeTaps_le (u v : Nat) : placeTaps u v ≤ 4 := by
  unfold placeTaps
  split
  · decide
  · exact Nat.min_le_left _ _

theorem State.wrapN_wallAt (k : Int) : wrapN 72 (s.wallAt k : Int) = s.wallAt k := by
  unfold State.wallAt wrapN
  omega

/-- The instant of a crossing lies at most a PSCLK before the edge. -/
theorem State.placing_time (p : Period) (word : Int) :
    ∃ q : Nat, q ≤ 4 ∧ (s.placing p word false).time = wrapN 72 ((s.wallAt ((s.now : Int) - 1) : Int) - 64 * q) := by
  unfold State.placing
  dsimp only
  split
  · refine ⟨0, Nat.zero_le 4, ?_⟩
    rw [Nat.cast_zero, Int.mul_zero, Int.sub_zero, State.wrapN_wallAt]
    rfl
  · exact ⟨_, placeTaps_le _ _, rfl⟩

end

/-- The registers that a fire writes. -/
@[reducible] def fireReg (a : Nat) : Prop := a = R.TTLATECNT ∨ unwatched a

theorem State.fire_units (s : State) (i : Nat) (late : Bool) : Frame.units.Only fireReg s (s.fire i late) := by
  have slot (x : Slot) : Frame.units.Only fireReg s (s.setSlot i x) := Frame.Only.refl.put rfl rfl
  have ends {t : State} (h : Frame.units.Only fireReg s t) (st : Nat) : Frame.units.Only fireReg s (t.endSlot i st) :=
    h.trans ((State.endSlot_units t i st).mono fun _ => .inr)
  by_cases hm : s.mode = .hold
  · rw [State.fire_hold hm]
    exact slot _
  by_cases hl : late = true ∧ (s.slot i).a.per.latepol = 1
  · obtain ⟨rfl, hp⟩ := hl
    rw [State.fire_skipped hm hp]
    exact ends ((slot _).count _ _ (.inl rfl)) 4
  have hl' : late = true → (s.slot i).a.per.latepol ≠ 1 := fun e hp => hl ⟨e, hp⟩
  by_cases ha : s.mode = .prepare ∧ (s.slot i).a.per.act ≤ 5
  · rw [State.fire_gated ha.1 hl' ha.2]
    exact ends (slot _) 5
  · have firing : Frame.units.Only fireReg s (s.firing i late) := .ite _ ((slot _).count _ _ (.inl rfl)) (slot _)
    rw [State.fire_acts hm hl' fun e => Nat.lt_of_not_le fun h => ha ⟨e, h⟩]
    generalize s.firing i late = u at *
    split
    · exact firing.trans ((State.sendErrand_units u i _ _ _).mono fun _ => .inr)
    · exact ends (firing.trans ((State.act_units .refl i _ _).mono fun _ => .inr)) _

/-! ### The slots below -/

theorem State.ownedSafe_judged (s : State) (i : Nat) : Frame.judged.Only unwatched s (s.ownedSafe i) := by
  unfold State.ownedSafe
  extract_lets x act s1
  have h1 : Frame.judged.Only unwatched s s1 := .foldl (fun s l _ h => .ite _ (h.put rfl rfl) h) .refl
  clear_value s1
  exact .foldl (fun s g _ h => .ite _ (h.put rfl rfl) h) h1

/-- The registers that a compare fault writes. -/
@[reducible] def faultReg (a : Nat) : Prop := a = R.TTLATECNT ∨ a = R.MODERESP ∨ a = R.MODESTAT ∨ unwatched a

theorem State.ttFaultReact_judged (s : State) : Frame.judged.Only faultReg s s.ttFaultReact := by
  have h : Frame.judged.Only faultReg s (s.nmi 0 R.NMIPEND_TTFAULT) := Frame.Only.refl.setFld _ _ (.inr (.inr (.inr (by decide))))
  refine .ite _ (h.trans ?_) h
  refine ((State.accept_only _ _ _ _ _).within Frame.accepted_le).mono fun a ha => ?_
  rcases ha with rfl | rfl
  · exact .inr (.inl rfl)
  · exact .inr (.inr (.inl rfl))

theorem State.compareFault_judged (s : State) (i : Nat) : Frame.judged.Only faultReg s (s.compareFault i) := by
  unfold State.compareFault
  split
  next => exact .refl
  next f _ =>
    have wide {o t : State} (h : Frame.judged.Only unwatched o t) : Frame.judged.Only faultReg o t :=
      h.mono fun _ => .inr ∘ .inr ∘ .inr
    have h := (wide (s.ownedSafe_judged i)).trans (wide ((State.endSlot_units _ i 15).within Frame.units_le))
    refine Frame.Only.trans ?_ (State.ttFaultReact_judged _)
    exact .ite _ h (h.wr _ (.inr (.inr (.inr (by decide)))))

theorem State.passSlot_judged (s : State) (i : Nat) : Frame.judged.Only faultReg s (s.passSlot i) := by
  unfold State.passSlot
  extract_lets x t y s1
  have h : Frame.judged.Only faultReg s s1 := Frame.Only.refl.put rfl rfl
  have retract (tag reason : Nat) : Frame.judged.Only faultReg s (s1.fcRetract i tag reason) :=
    h.trans (((((State.fcRetract_forecast .refl i tag reason).within Frame.forecast_le).within Frame.ending_le).within
      Frame.units_le).mono fun _ => .inr ∘ .inr ∘ .inr)
  exact .ite _ (retract _ _) (.ite _ (retract _ _) (.ite _ (retract _ _) h))

/-- The evaluation of a slot leaves all but the slots, the units and a request for SAFE as it is. -/
theorem State.evalSlot_judged (s : State) (i : Nat) : Frame.judged.Only faultReg s (s.evalSlot i) := by
  have fire (late : Bool) : Frame.judged.Only faultReg s (s.fire i late) := by
    refine ((s.fire_units i late).within Frame.units_le).mono fun a ha => ?_
    rcases ha with h | h
    · exact .inl h
    · exact .inr (.inr (.inr h))
  exact .ite _ .refl (.ite _ (s.compareFault_judged i) (.ite _ (fire true) (.ite _ (fire false) (s.passSlot_judged i))))

theorem State.evalBelow_judged (s : State) (n : Nat) : Frame.judged.Only faultReg s (s.evalBelow n) :=
  .foldl (fun _ i _ h => h.trans (State.evalSlot_judged _ i)) .refl

/-- A command at the edge evaluates the slot after those below it. -/
theorem crossing_leads {s : State} {i k : Nat} {P : State → Prop} (hk : ((s.advance k).evalBelow i).now = k)
    (h : ∀ t, Raised (((s.advance k).evalBelow i).evalSlot i) t → P t) : s.Leads (.crossing i k) P := by
  have now : (s.advance k).now = k := ((s.advance k).evalBelow_judged i |>.keep State.now fun _ => rfl).symm.trans hk
  exact .of_done (congrArg (done s) (if_pos now)) h

/-! ### Which slots fire -/

theorem Slot.diffs_of_eq {x : Slot} (h : x.a = x.b) : x.diffs = [] := by
  unfold Slot.diffs
  rw [h]
  simp

theorem SlotCopy.dist_eq (c : SlotCopy) (span : Nat) (word : Int) :
    c.dist span word = (if c.down then -1 else 1) * diffSpan span word c.per.posInt := by
  unfold SlotCopy.dist
  cases c.down <;> simp

/-- The test of R130 on a copy whose result no test flips. -/
theorem SlotCopy.crosses_iff {c : SlotCopy} (hn : c.noDir = false) (hx : c.xinv = false) (span : Nat) (word : Int) :
    c.crosses span word = true ↔
      c.primed = true ∧ c.dp < 0 ∧ 0 ≤ c.dist span word ∧ 2 * (c.dist span word - c.dp) < span := by
  simp [SlotCopy.crosses, hn, hx, and_assoc]

section
variable {u : State} {i : Nat} (hs : (u.slot i).a.state = 2) (heq : (u.slot i).a = (u.slot i).b) (hk : (u.slot i).evalK < u.now)
include hs heq hk

theorem State.evalSlot_armed : u.evalSlot i =
    if (u.slot i).late then u.fire i true else if u.crossesNow i then u.fire i false else u.passSlot i := by
  have armed : ((u.slot i).a.state != 2 || decide (u.now ≤ (u.slot i).evalK)) = false := by simp [hs, hk]
  have agree : ((u.slot i).diffs.any fun f => f.2) = false := by rw [Slot.diffs_of_eq heq]; rfl
  unfold State.evalSlot
  dsimp only
  rw [armed, agree]
  rfl

theorem State.evalSlot_late (hl : (u.slot i).late = true) : u.evalSlot i = u.fire i true :=
  (State.evalSlot_armed hs heq hk).trans (if_pos hl)

theorem State.evalSlot_onTime (hl : (u.slot i).late = false) :
    u.evalSlot i = if u.crossesNow i then u.fire i false else u.passSlot i :=
  (State.evalSlot_armed hs heq hk).trans (if_neg (by simp [hl]))

end

/-! ### What is left of a fire -/

theorem State.KeepsCrossing.raised {u v t : State} {i : Nat} {late : Bool} (hr : Raised v t) (h : u.KeepsCrossing v i late) :
    u.KeepsCrossing t i late := by
  unfold State.KeepsCrossing
  rw [hr.slot i]
  exact h

/-- A slot whose record is written down and that then changes its state and status alone. -/
theorem State.KeepsCrossing.of_slot {u t : State} {i : Nat} {late : Bool} {x : Slot} {n st : Nat} {l : Bool}
    (hx : x = u.reached i late ∨ x = u.recorded i late)
    (h : t.slot i = { x.both (fun c => { c with state := n }) with status := st, late := l }) : u.KeepsCrossing t i late := by
  unfold State.KeepsCrossing
  rw [h]
  rcases hx with rfl | rfl
  · exact ⟨rfl, rfl, rfl⟩
  · exact ⟨rfl, rfl, rfl⟩

theorem State.Freed.of_slot {t : State} {x : Slot} {i st : Nat}
    (h : t.slot i = { x.both (fun c => { c with state := 0 }) with status := st, late := false }) : t.Freed i st := by
  unfold State.Freed
  rw [h]
  exact ⟨rfl, rfl, rfl⟩

section
variable {u : State} {i : Nat} {late : Bool}

/-- HOLD gates the crossing: the slot is HELD with status 5. -/
theorem State.fire_held (h : u.mode = .hold) : u.KeepsCrossing (u.fire i late) i late ∧
    ((u.fire i late).slot i).a.state = 3 ∧ ((u.fire i late).slot i).status = 5 := by
  have e : (u.fire i late).slot i = { (u.recorded i late).both (fun c => { c with state := 3 }) with status := 5 } := by
    rw [State.fire_hold h]
    exact u.slot_setSlot_self i _
  exact ⟨.of_slot (.inr rfl) e, by rw [e]; rfl, by rw [e]⟩

/-- A slot that ends when its record has been written down. -/
theorem State.endSlot_recorded {s : State} {x : Slot} (st : Nat) (hx : x = u.reached i late ∨ x = u.recorded i late) (hs : s.slot i = x) :
    u.KeepsCrossing (s.endSlot i st) i late ∧ (s.endSlot i st).Freed i st := by
  have e := s.endSlot_slot i st
  rw [hs] at e
  exact ⟨.of_slot hx e, .of_slot e⟩

theorem State.fire_skips (h : u.mode ≠ .hold) (hp : (u.slot i).a.per.latepol = 1) :
    u.KeepsCrossing (u.fire i true) i true ∧ (u.fire i true).Freed i 4 ∧
      (u.fire i true).fld R.TTLATECNT R.TTLATECNT_SKIP = min 65535 (u.fld R.TTLATECNT R.TTLATECNT_SKIP + 1) := by
  rw [State.fire_skipped h hp]
  obtain ⟨keeps, freed⟩ := State.endSlot_recorded (u := u) (late := true) 4 (.inr rfl)
    (s := (u.setSlot i (u.recorded i true)).count R.TTLATECNT R.TTLATECNT_SKIP 1) (u.slot_setSlot_self i _)
  refine ⟨keeps, freed, ?_⟩
  rw [(State.endSlot_ending _ i 4).fld _ (fun h => h.1 rfl)]
  exact State.fld_count_self _ _ _ _ (by decide)

theorem State.fire_gates (h : u.mode = .prepare) (hp : late = true → (u.slot i).a.per.latepol ≠ 1) (ha : (u.slot i).a.per.act ≤ 5) :
    u.KeepsCrossing (u.fire i late) i late ∧ (u.fire i late).Freed i 5 ∧ (u.fire i late).lines = u.lines ∧ (u.fire i late).gens = u.gens := by
  rw [State.fire_gated h hp ha]
  obtain ⟨keeps, freed⟩ := State.endSlot_recorded (u := u) (late := late) 5 (.inr rfl) (s := u.setSlot i (u.recorded i late))
    (u.slot_setSlot_self i _)
  have ends := State.endSlot_ending (u.setSlot i (u.recorded i late)) i 5
  exact ⟨keeps, freed, ends.keep State.lines fun _ => rfl, ends.keep State.gens fun _ => rfl⟩

/-- The errand of an interrupt has been sent, for the first concord edge after the next edge. -/
def State.SendsIrq (t : State) (i n k : Nat) : Prop := ∃ a ∈ t.acts, a.slot = i ∧ a.op = .irq n ∧ a.due = (k + 1) / 2 * 2 + 2

theorem State.fire_sends (h : u.mode ∈ [Mode.prepare, .run]) (hp : late = true → (u.slot i).a.per.latepol ≠ 1)
    (ha : (u.slot i).a.per.act = 7) :
    u.KeepsCrossing (u.fire i late) i late ∧ (u.fire i late).Freed i (firedStatus late) ∧
      (u.fire i late).SendsIrq i (0x60 + (u.slot i).a.per.arg % 16) u.now ∧
      (u.fire i late).fld R.TTLATECNT R.TTLATECNT_LATE = (u.firing i late).fld R.TTLATECNT R.TTLATECNT_LATE := by
  have hm : u.mode ≠ .hold := fun e => by simp [e] at h
  have now : (u.firing i late).now = u.now := by cases late <;> rfl
  have errand (w : Int) (pl : Placing) : (u.slot i).a.per.errand i w pl late = some (.irq (0x60 + (u.slot i).a.per.arg % 16)) := by
    simp [Period.errand, ha]
  obtain ⟨v, hv, sent⟩ := State.sendErrand_queueing (u.firing i late) i (u.firing i late).now (firedStatus late)
    (.irq (0x60 + (u.slot i).a.per.arg % 16))
  rw [State.fire_errand hm hp (fun _ => by omega) (errand _ _), sent]
  have slot : v.slot i = { (u.reached i late).both (fun c => { c with state := 0 }) with status := firedStatus late, late := false } := by
    rw [hv.keep (State.slot · i) fun _ => rfl, State.freeSlot_slot, State.firing_slot]
  refine ⟨.of_slot (.inl rfl) slot, .of_slot slot, ⟨_, List.mem_append_right _ List.mem_cons_self, rfl, rfl, ?_⟩, ?_⟩
  · rw [now]
    rfl
  · exact (hv.fld _ fun h => h.1 rfl).trans rfl

theorem State.firing_late : (u.firing i true).fld R.TTLATECNT R.TTLATECNT_LATE = min 65535 (u.fld R.TTLATECNT R.TTLATECNT_LATE + 1) :=
  State.fld_count_self _ _ _ _ (by decide)

/-- An edge is put into both copies when the first entry of each is free. -/
theorem Fd.place_free {x : Fd} {e : FdEntry} (ha : x.a.e0.v = false) (hb : x.b.e0.v = false) (ht : e.tog = false) :
    ∃ y, x.place e = some y ∧ y.a.e0 = e := by
  have place {c : FdCopy} (h : c.e0.v = false) : c.place e = some { c with e0 := e }.relevel := if_pos (by simp [h])
  refine ⟨_, by rw [Fd.place, place ha, place hb], ?_⟩
  have after (l : Bool) : e.after l = e := if_neg (by simp [ht])
  unfold FdCopy.relevel
  split
  · exact after _
  · exact after _

theorem State.line_setLine_self (s : State) (l : Nat) (x : Line) : (s.setLine l x).line l = x := by
  simp [State.line, State.setLine, Tab.get, Tab.find_put_self]

/-- A raw edge action is placed one PSCLK after the edge. -/
theorem State.placing_raw {p : Period} (h : p.rawArg = true) (word : Int) :
    u.placing p word false = { raw := true, time := u.wallAt ((u.now : Int) - 1), edge := u.now + 1, tap := 0 } := by
  unfold State.placing
  simp [h]

/-- An edge action takes its line's free entry. -/
theorem State.act_edge {s : State} {p : Period} {pl : Placing} {fd : Fd} (ha : p.act = 1 ∨ p.act = 2)
    (hfd : (s.line (p.arg % 64)).fd.place
      { v := true, lvl := p.act == 1, tog := p.act == 3, tap := pl.tap, edge := pl.edge, slot := i } = some fd) :
    s.act i p pl = (s.setLine (p.arg % 64) { s.line (p.arg % 64) with fd := fd }, 0) := by
  have placed : s.placeEdge (p.arg % 64) p.act pl.edge pl.tap i = some (s.setLine (p.arg % 64) { s.line (p.arg % 64) with fd := fd }) := by
    exact congrArg (Option.map _) hfd
  unfold State.act
  rcases ha with ha | ha
  · rw [ha] at placed ⊢
    simp only [placed]
  · rw [ha] at placed ⊢
    simp only [placed]

/-- An edge action of a raw period drives its line one PSCLK after the edge. -/
theorem State.fire_places (h : u.mode = .run) (ha : (u.slot i).a.per.act = 1 ∨ (u.slot i).a.per.act = 2)
    (hraw : (u.slot i).a.per.arg / 64 % 2 = 1)
    (hfree : (u.line ((u.slot i).a.per.arg % 64)).fd.a.e0.v = false ∧ (u.line ((u.slot i).a.per.arg % 64)).fd.b.e0.v = false) :
    u.KeepsCrossing (u.fire i false) i false ∧ (u.fire i false).Freed i 2 ∧ ((u.fire i false).slot i).rawpl = true ∧
      ((u.fire i false).line ((u.slot i).a.per.arg % 64)).fd.a.e0 =
        { v := true, lvl := decide ((u.slot i).a.per.act = 1), tog := false, tap := 0, edge := u.now + 1, slot := i } := by
  have raw : (u.slot i).a.per.rawArg = true := by
    have : (u.slot i).a.per.act ≤ 5 := by omega
    simp [Period.rawArg, hraw, this]
  have none (w : Int) (pl : Placing) : (u.slot i).a.per.errand i w pl false = none := by
    rcases ha with ha | ha <;> simp [Period.errand, ha]
  have pl := State.placing_raw (u := u) raw (u.tb (u.slot i).a.per.tb).prev
  obtain ⟨fd, hfd, he⟩ := Fd.place_free hfree.1 hfree.2
    (e := { v := true, lvl := (u.slot i).a.per.act == 1, tog := (u.slot i).a.per.act == 3, tap := 0, edge := u.now + 1, slot := i })
    (beq_false_of_ne (by omega))
  rw [State.fire_taken (by rw [h]; decide) (by simp) (by rw [h]; simp) (none _ _) (State.act_edge ha (by rw [pl]; exact hfd))]
  have slot : (((u.firing i false).setLine ((u.slot i).a.per.arg % 64)
      { (u.firing i false).line ((u.slot i).a.per.arg % 64) with fd := fd })).slot i = u.reached i false := State.firing_slot
  have line := State.line_setLine_self (u.firing i false) ((u.slot i).a.per.arg % 64)
    { (u.firing i false).line ((u.slot i).a.per.arg % 64) with fd := fd }
  generalize (u.firing i false).setLine _ _ = v at slot line ⊢
  have ends := v.endSlot_ending i (firedStatus false)
  obtain ⟨keeps, freed⟩ := State.endSlot_recorded (firedStatus false) (.inl rfl) slot
  refine ⟨keeps, freed, ?_, ?_⟩
  · rw [v.endSlot_slot, slot]
    exact congrArg Placing.raw pl
  · rw [ends.keep (State.line · ((u.slot i).a.per.arg % 64)) fun _ => rfl]
    change (v.line _).fd.a.e0 = _
    rw [line, he]
    rcases ha with ha | ha <;> simp [ha]

end

/-! ### A slot that does not cross -/

/-- A slot that does not cross is only evaluated; the forecast unit may retract what it announced (R130, R369). -/
theorem State.passSlot_slot (u : State) (i : Nat) : (u.passSlot i).slot i =
    (u.slot i).leave (u.span (u.slot i).a.per.tb) (u.tb (u.slot i).a.per.tb).prev (u.tb (u.slot i).a.per.tb).pdisc u.now := by
  have retract {s : State} (tag reason : Nat) : (s.fcRetract i tag reason).slot i = s.slot i :=
    (State.fcRetract_forecast .refl i tag reason).keep (State.slot · i) fun _ => rfl
  have slot := u.slot_setSlot_self i
    ((u.slot i).leave (u.span (u.slot i).a.per.tb) (u.tb (u.slot i).a.per.tb).prev (u.tb (u.slot i).a.per.tb).pdisc u.now)
  unfold State.passSlot
  extract_lets x t y s1
  change s1.slot i = y at slot
  split
  · rw [retract, slot]
  · split
    · rw [retract, slot]
    · split
      · rw [retract, slot]
      · exact slot

/-- Where the direction is known, a pass keeps the distance, and is primed before the position, or within the hysteresis as it was. -/
theorem SlotCopy.pass_eq {c : SlotCopy} (hn : c.noDir = false) (span : Nat) (word : Int) :
    c.pass span word = { c with
      primed := if 0 ≤ c.dist span word then false else if c.dist span word < -(c.per.hyst : Int) then true else c.primed
      dp := c.dist span word } :=
  if_neg (by simp [hn])

/-! ### Edges that land -/

/-- One edge is pending, and it lands. -/
theorem FdCopy.land_single {c : FdCopy} (h0 : c.e0.v = true) (h1 : c.e1.v = false) : c.land = { c with lvl := c.e0.lvl, e0 := .none } := by
  simp [FdCopy.land, h0, h1]

theorem FdCopy.next_single {c : FdCopy} (h0 : c.e0.v = true) (h1 : c.e1.v = false) : c.next = some c.e0 := by
  simp [FdCopy.next, h0, h1]

theorem FdCopy.next_none {c : FdCopy} (h0 : c.e0.v = false) (h1 : c.e1.v = false) : c.next = none := by
  simp [FdCopy.next, h0, h1]

theorem State.gen_setGen_self (s : State) (g : Nat) (x : Gen) : (s.setGen g x).gen g = x := by
  simp [State.gen, State.setGen, Tab.get, Tab.find_put_self]

/-- The pending edge of a line lands when its edge has come, and not before (R140, R143). -/
theorem State.landLine_of_pending {u : State} {l k : Nat} (h0 : (u.line l).fd.a.e0.v = true) (h1 : (u.line l).fd.a.e1.v = false) :
    u.landLine l k =
      if (u.line l).fd.a.e0.edge ≤ k then u.setLine l { u.line l with fd := (u.line l).fd.map FdCopy.land } else u := by
  unfold State.landLine
  simp only [FdCopy.next_single h0 h1]

/-- The active edge of a step lands (R143, R179). -/
theorem State.landGen_rises {u : State} {g k : Nat} (h0 : (u.gen g).fd.a.e0.v = true) (h1 : (u.gen g).fd.a.e1.v = false)
    (hl : (u.gen g).fd.a.lvl = false) (he : (u.gen g).fd.a.e0.edge ≤ k) :
    u.landGen g k = u.setGen g { (u.gen g).counted with
      fd := (u.gen g).fd.map FdCopy.land, stepEnd := (u.gen g).fd.a.e0.at + 4 * (u.effFld (R.PTCFG g) R.PTCFG_WIDTH + 1) } := by
  unfold State.landGen
  simp [FdCopy.next_single h0 h1, hl, he]

/-- The active time of a step ends (R179). -/
theorem State.landGen_falls {u : State} {g k : Nat} (h0 : (u.gen g).fd.a.e0.v = false) (h1 : (u.gen g).fd.a.e1.v = false)
    (hl : (u.gen g).fd.a.lvl = true) (hs : (u.gen g).stepEnd ≠ 0) (he : (u.gen g).stepEnd / 4 ≤ k) :
    u.landGen g k = u.setGen g { u.gen g with fd := (u.gen g).fd.setLvl false, stepEnd := 0 } := by
  unfold State.landGen
  simp [FdCopy.next_none h0 h1, hl, hs, he]

theorem Fd.setLvl_lvl (x : Fd) (b : Bool) : (x.setLvl b).a.lvl = b := by
  unfold Fd.setLvl Fd.map FdCopy.relevel
  dsimp only
  split <;> rfl

/-- A copy is primed before its position, and within the hysteresis as it was (R130). -/
theorem primed_iff {d hyst : Int} (h : 0 ≤ hyst) (b : Bool) :
    (if 0 ≤ d then false else if d < -hyst then true else b) = true ↔ d < -hyst ∨ d < 0 ∧ b = true := by
  by_cases h0 : 0 ≤ d
  · rw [if_pos h0]
    simp only [Bool.false_eq_true, false_iff]
    omega
  · by_cases h1 : d < -hyst
    · simp [h0, h1]
    · simp [h0, h1, Int.not_le.1 h0]

/-! ### The statement -/

theorem fires_leads {s : State} {i k : Nat} {late : Bool} {P : State → Prop} (hk : ((s.advance k).evalBelow i).now = k)
    (he : ((s.advance k).evalBelow i).evalSlot i = ((s.advance k).evalBelow i).fire i late)
    (keeps : ((s.advance k).evalBelow i).KeepsCrossing (((s.advance k).evalBelow i).fire i late) i late)
    (h : ∀ t, Raised (((s.advance k).evalBelow i).fire i late) t → P t) :
    s.Leads (.crossing i k) (fun t => ((s.advance k).evalBelow i).KeepsCrossing t i late ∧ P t) :=
  crossing_leads hk fun t ht => ⟨keeps.raised (he ▸ ht), h t (he ▸ ht)⟩

section
variable {u v t : State} {i : Nat} (hr : Raised v t)
include hr

theorem State.Freed.raised {st : Nat} (h : v.Freed i st) : t.Freed i st := by
  unfold State.Freed
  rw [hr.slot i]
  exact h

theorem State.SendsIrq.raised {n k : Nat} (h : v.SendsIrq i n k) : t.SendsIrq i n k := by
  unfold State.SendsIrq
  rw [hr.keep State.acts fun _ => rfl]
  exact h

end

/-- What is kept of a crossing on time. -/
theorem State.KeepsCrossing.onTime {u t : State} {i : Nat} (h : u.KeepsCrossing t i false) :
    (t.slot i).a.cap = (u.tb (u.slot i).a.per.tb).prev ∧
      (∃ q : Nat, q ≤ 4 ∧ (t.slot i).whenT = wrapN 72 ((u.wallAt ((u.now : Int) - 1) : Int) - 64 * q)) ∧ (t.slot i).latef = false := by
  obtain ⟨cap, time, late⟩ := h
  obtain ⟨q, hq, e⟩ := u.placing_time (u.slot i).a.per (u.tb (u.slot i).a.per.tb).prev
  exact ⟨cap, ⟨q, hq, time.trans e⟩, late⟩

/-- What is kept of a period that was reached late. -/
theorem State.KeepsCrossing.late {u t : State} {i : Nat} (h : u.KeepsCrossing t i true) :
    (t.slot i).a.cap = (u.tb (u.slot i).a.per.tb).prev ∧ (t.slot i).whenT = u.wallAt u.now ∧ (t.slot i).latef = true := by
  obtain ⟨cap, time, late⟩ := h
  exact ⟨cap, time.trans (State.placing_late _ _), late⟩

/-- Settles O38, by the branches of a slot's evaluation and of its fire, and by the edge that is pending. -/
theorem crossingsFire : Obligations.CrossingsFire := by
  intro s k
  refine ⟨fun i _ => ?_, fun l _ => ?_, fun g _ => ?_⟩
  · extract_lets u x c p tb d crosses freed sent held fires line firesLate
    intro hk hs heq hev
    have hev' : (u.slot i).evalK < u.now := hk ▸ hev
    refine ⟨fun hl hd hn hx => ?_, fun hl => ?_⟩
    · have test : u.crossesNow i = true ↔ crosses := by
        have e := SlotCopy.crosses_iff hn hx (u.span p.tb) tb.prev
        rw [SlotCopy.dist_eq] at e
        unfold State.crossesNow
        simp only [show (u.tb (u.slot i).a.per.tb).pdisc = false from hd, Bool.not_false, Bool.true_and]
        exact e
      have slot := State.evalSlot_onTime hs heq hev' hl
      have fires_of {P : State → Prop} (hc : crosses) (keeps : u.KeepsCrossing (u.fire i false) i false)
          (h : ∀ t, Raised (u.fire i false) t → P t) : fires P := by
        refine (fires_leads hk (slot.trans (if_pos (test.2 hc))) keeps h).mono fun t ht => ?_
        obtain ⟨cap, time, late⟩ := ht.1.onTime
        rw [show u.now = k from hk] at time
        exact ⟨cap, time, late, ht.2⟩
      refine ⟨fun hc hm => ?_, fun hc hm ha => ?_, fun hc hm ha => ?_, fun hc hm ha hraw hfree => ?_, fun hc => ?_⟩
      · obtain ⟨keeps, state, status⟩ := State.fire_held (i := i) (late := false) hm
        exact fires_of hc keeps fun t ht => ⟨by rw [ht.slot]; exact state, by rw [ht.slot]; exact status⟩
      · obtain ⟨keeps, free, lines, gens⟩ := State.fire_gates (i := i) (late := false) hm nofun ha
        exact fires_of hc keeps fun t ht => ⟨free.raised ht, ht.lines.trans lines, (ht.keep State.gens fun _ => rfl).trans gens⟩
      · obtain ⟨keeps, free, sends, -⟩ := State.fire_sends (i := i) (late := false) hm nofun ha
        rw [show u.now = k from hk] at sends
        exact fires_of hc keeps fun t ht => ⟨free.raised ht, sends.raised ht⟩
      · obtain ⟨keeps, free, raw, edge⟩ := State.fire_places hm ha hraw hfree
        rw [show u.now = k from hk] at edge
        exact fires_of hc keeps fun t ht => ⟨free.raised ht, by rw [ht.slot]; exact raw, by rw [ht.line]; exact edge⟩
      · have pass : u.evalSlot i = u.passSlot i := slot.trans (if_neg fun h => hc (test.1 h))
        have left : (u.passSlot i).slot i = { x.both (fun c => c.pass (u.span p.tb) tb.prev) with evalK := k } := by
          rw [State.passSlot_slot, show (u.tb (u.slot i).a.per.tb).pdisc = false from hd, show u.now = k from hk]
          rfl
        have copy : ((u.passSlot i).slot i).a = c.pass (u.span p.tb) tb.prev := by rw [left]; rfl
        have dist : c.dist (u.span p.tb) tb.prev = d := SlotCopy.dist_eq c _ _
        rw [SlotCopy.pass_eq hn, dist] at copy
        refine crossing_leads hk fun t ht => ?_
        rw [show ((s.advance k).evalBelow i).evalSlot i = u.passSlot i from pass] at ht
        rw [ht.slot i, copy, left]
        refine ⟨hs, rfl, rfl, rfl, rfl, ?_⟩
        have nonneg : (0 : Int) ≤ c.per.hyst := Int.natCast_nonneg _
        exact primed_iff nonneg c.primed
    · have slot := State.evalSlot_late hs heq hev' hl
      have fires_of {P : State → Prop} (keeps : u.KeepsCrossing (u.fire i true) i true)
          (h : ∀ t, Raised (u.fire i true) t → P t) : firesLate P := by
        refine (fires_leads hk slot keeps h).mono fun t ht => ?_
        obtain ⟨cap, time, late⟩ := ht.1.late
        rw [show u.now = k from hk] at time
        exact ⟨cap, time, late, ht.2⟩
      have kept {v t : State} (ht : Raised v t) (f : F) : t.fld R.TTLATECNT f = v.fld R.TTLATECNT f := ht.fld f (by decide)
      have notSkip (hp : p.latepol = 0) (_ : true = true) : (u.slot i).a.per.latepol ≠ 1 := fun e => by
        rw [show (u.slot i).a.per.latepol = 0 from hp] at e
        cases e
      refine ⟨fun hm => ?_, fun hm hp => ?_, fun hm hp ha => ?_, fun hm hp ha => ?_⟩
      · obtain ⟨keeps, state, status⟩ := State.fire_held (i := i) (late := true) hm
        exact fires_of keeps fun t ht => ⟨by rw [ht.slot]; exact state, by rw [ht.slot]; exact status⟩
      · obtain ⟨keeps, free, skips⟩ := State.fire_skips hm hp
        exact fires_of keeps fun t ht => ⟨free.raised ht, (kept ht _).trans skips⟩
      · obtain ⟨keeps, free, lines, gens⟩ := State.fire_gates hm (notSkip hp) ha
        exact fires_of keeps fun t ht => ⟨free.raised ht, ht.lines.trans lines, (ht.keep State.gens fun _ => rfl).trans gens⟩
      · obtain ⟨keeps, free, sends, counts⟩ := State.fire_sends hm (notSkip hp) ha
        rw [show u.now = k from hk] at sends
        exact fires_of keeps fun t ht =>
          ⟨free.raised ht, sends.raised ht, (kept ht _).trans (counts.trans State.firing_late)⟩
  · intro u x h0 h1
    have land := State.landLine_of_pending (k := k) h0 h1
    refine ⟨fun he => .of_done (congrArg (done s) (land.trans (if_pos he))) fun t ht => ?_,
      fun he => .of_done (congrArg (done s) (land.trans (if_neg (Nat.not_le.2 he)))) rfl⟩
    rw [ht.line, State.line_setLine_self]
    exact ⟨congrArg FdCopy.lvl (FdCopy.land_single h0 h1), congrArg (·.e0.v) (FdCopy.land_single h0 h1)⟩
  · intro u x
    refine ⟨fun h0 h1 hl he => ?_, fun h0 h1 hl hs he => ?_⟩
    · refine .of_done (congrArg (done s) (State.landGen_rises h0 h1 hl he)) fun t ht => ?_
      rw [ht.keep (State.gen · g) fun _ => rfl, State.gen_setGen_self]
      exact ⟨congrArg FdCopy.lvl (FdCopy.land_single h0 h1), congrArg (·.e0.v) (FdCopy.land_single h0 h1), rfl, rfl, rfl⟩
    · refine .of_done (congrArg (done s) (State.landGen_falls h0 h1 hl hs he)) fun t ht => ?_
      rw [ht.keep (State.gen · g) fun _ => rfl, State.gen_setGen_self]
      exact ⟨Fd.setLvl_lvl _ _, rfl, rfl⟩

end Sys2Proof.Machine
end

section
/-! SUPPORT. The mode, the level of ESTOP_N and the key slots stay as they are while edges pass and at a pin epoch boundary. -/

namespace Sys2Proof.Machine

/-- What no passing edge and no boundary changes of themselves. -/
def State.standing (s : State) : Mode × Bool × List KeySlot := (s.mode, s.estopN, s.keys)

/-- From `o` to `t` the mode, the level of ESTOP_N and the key slots have not changed. -/
structure State.Steady (o t : State) : Prop where
  eq : t.standing = o.standing

section
variable {o s t : State}

/-! ### Rules of composition -/

theorem State.Steady.refl : s.Steady s := ⟨rfl⟩

theorem State.Steady.mode (h : o.Steady t) : t.mode = o.mode := congrArg Prod.fst h.eq
theorem State.Steady.estopN (h : o.Steady t) : t.estopN = o.estopN := congrArg (·.2.1) h.eq
theorem State.Steady.keys (h : o.Steady t) : t.keys = o.keys := congrArg (·.2.2) h.eq

/-- A change of other fields alone. -/
theorem State.Steady.upd (h : o.Steady s) {pending variant freeCtr rdata now regs inForce was mem ecc mrq mrRun openLines scrub
    scrubDue dip trans dawn stepK supply resetN refOk pllOk clocks dawnEnd estopAt svcLow chans mains tbs wall caps capSeq handed
    capAt slots memq acts ttPeak queues reports repFirst lines gens pwms sds pins bankOk loaded cores rcs uarts att macs bells enq en fcMap fcOut logQ staff owners page snapK hall
    otp certBuf attRec signing noise drbgs drbgLast crypto crLast wdStart wdOut wdStage restart safeTest} :
    o.Steady ⟨pending, variant, freeCtr, rdata, now, regs, inForce, was, mem, ecc, mrq, mrRun, openLines, scrub, scrubDue, dip, s.mode, trans,
      dawn, stepK, supply, resetN, refOk, pllOk, clocks, dawnEnd, s.estopN, estopAt, svcLow, chans, mains, tbs, wall, caps, capSeq,
      handed, capAt, slots, memq, acts, ttPeak, queues, reports, repFirst, lines, gens, pwms, sds, pins, bankOk, loaded, cores, rcs,
      uarts, att, macs, bells, enq, en, fcMap, fcOut, logQ, staff, owners, page, snapK, hall, s.keys, otp, certBuf, attRec, signing,
      noise, drbgs, drbgLast, crypto, crLast, wdStart, wdOut, wdStage, restart, safeTest⟩ := ⟨h.eq⟩

/-- A change within a frame that has none of them. -/
theorem State.Steady.within {Φ : Frame} {p : Nat → Prop} (h : o.Steady s) (e : ∀ u, (Φ.upd u s).standing = s.standing)
    (k : Φ.Only p s t) : o.Steady t := ⟨(k.keep State.standing e).trans h.eq⟩

theorem State.Steady.ite {c : Prop} [Decidable c] (hs : o.Steady s) (ht : o.Steady t) : o.Steady (if c then s else t) := by
  split
  · exact hs
  · exact ht

theorem State.Steady.iteFst {β : Type} {c : Prop} [Decidable c] {p q : State × β} (hp : o.Steady p.1) (hq : o.Steady q.1) :
    o.Steady (if c then p else q).1 := by
  split
  · exact hp
  · exact hq

theorem State.Steady.foldl {α : Type} {f : State → α → State} (h : o.Steady s) (l : List α)
    (hf : ∀ {s a}, o.Steady s → o.Steady (f s a)) : o.Steady (l.foldl f s) := by
  induction l generalizing s with
  | nil => exact h
  | cons a l ih => exact ih (hf h)

theorem State.Steady.arrive (h : o.Steady s) {n : Nat} : o.Steady (s.arrive n) := by
  unfold State.arrive
  exact (h.upd.ite h.upd).ite h

/-! ### Slots, queues and errands -/

theorem State.Steady.endSlot (h : o.Steady s) {i st : Nat} : o.Steady (s.endSlot i st) := h.within (fun _ => rfl) (s.endSlot_units i st)

theorem State.Steady.endSlots (h : o.Steady s) {p : Nat → Slot → Bool} {st : Nat} : o.Steady (s.endSlots p st) := by
  unfold State.endSlots
  exact h.foldl _ fun hk => hk.endSlot.ite hk

theorem State.Steady.haltQueue (h : o.Steady s) {q why : Nat} : o.Steady (s.haltQueue q why) := by
  unfold State.haltQueue
  exact h.upd.arrive

theorem State.Steady.queueStatus (h : o.Steady s) {q st : Nat} {latef : Bool} : o.Steady (s.queueStatus q st latef) := by
  unfold State.queueStatus
  extract_lets late skip fail
  have hl : o.Steady late := h.upd.ite h
  have hs : o.Steady skip := hl.upd.ite hl
  exact (hs.upd.haltQueue.ite hs.upd).ite (hs.haltQueue.ite hs)

theorem State.Steady.settleReport (h : o.Steady s) {q idx st : Nat} {latef : Bool} : o.Steady (s.settleReport q idx st latef) := by
  unfold State.settleReport
  exact h.upd.queueStatus.ite h.upd

theorem State.Steady.bellPush (h : o.Steady s) {l : Nat} {r : BellReq} (e : s.bellPush l r = some t) : o.Steady t := by
  unfold State.bellPush at e
  obtain ⟨-, ht⟩ := Option.ite_none_right_eq_some.1 e
  cases ht
  exact h.upd

theorem State.Steady.rcStart (h : o.Steady s) {c w k : Nat} (e : s.rcStart c w k = some t) : o.Steady t := by
  unfold State.rcStart at e
  obtain ⟨-, ht⟩ := Option.ite_none_left_eq_some.1 e
  cases ht
  exact h.upd

theorem State.Steady.errand (h : o.Steady s) {e : Errand} {k : Nat} : o.Steady (s.errand e k).1 := by
  unfold State.errand
  split
  · exact h.arrive
  · split
    next e => exact h.bellPush e
    next => exact h.upd
  · split
    next e => exact h.within (fun _ => rfl) (State.enPush_forecast .refl e)
    next => exact h.within (fun _ => rfl) (State.enRefused_forecast .refl _)
  · split
    next e => exact h.rcStart e
    next => exact h

theorem State.Steady.settleAct (h : o.Steady s) {a : Act} : o.Steady (s.settleAct a) := by
  unfold State.settleAct
  extract_lets r x st s'
  have hr : o.Steady r.1 := h.errand
  have hs : o.Steady s' := hr.upd.within (fun _ => rfl) (State.fcEnd_forecast .refl _ _ _ _)
  split
  · exact hs.settleReport
  · exact hs

theorem State.Steady.settleDue (h : o.Steady s) : o.Steady s.settleDue := by
  unfold State.settleDue
  exact h.upd.foldl _ fun hk => hk.settleAct

theorem State.Steady.checkTaken (h : o.Steady s) {q : Nat} : o.Steady (s.checkTaken q) := by
  unfold State.checkTaken
  extract_lets x
  split
  · exact h.upd.ite (h.upd.ite h)
  · exact h

/-! ### Words of the timebases -/

theorem State.Steady.moveTo (h : o.Steady s) {i : Nat} {w : Int} : o.Steady (s.moveTo i w) := by
  unfold State.moveTo
  exact h.upd.ite ((h.upd.arrive.ite h.upd).ite h.upd)

theorem State.Steady.setVel (h : o.Steady s) {i : Nat} {v : Int} : o.Steady (s.setVel i v) := by
  unfold State.setVel
  exact h.upd.arrive.ite h.upd

theorem State.Steady.stepTb (h : o.Steady s) {old : State} {i : Nat} : o.Steady (s.stepTb old i) := by
  unfold State.stepTb
  extract_lets x p s'
  have hs : o.Steady s' := State.Steady.setVel (State.Steady.moveTo h.upd)
  exact hs.upd.ite h.upd

theorem State.Steady.stepWords (h : o.Steady s) : o.Steady s.stepWords := by
  unfold State.stepWords
  exact (h.foldl _ fun hk => hk.stepTb).upd

theorem State.Steady.setRef (h : o.Steady s) {i : Nat} {ref : Bool} : o.Steady (s.setRef i ref) := by
  unfold State.setRef State.endUnref
  exact h.upd.endSlots.ite h.upd

theorem State.Steady.followRefs (h : o.Steady s) : o.Steady s.followRefs := by
  unfold State.followRefs
  exact h.foldl _ fun hk => hk.setRef

theorem State.Steady.putRef (h : o.Steady s) {i : Nat} {ref : Bool} : o.Steady (s.putRef i ref) := by
  unfold State.putRef
  exact h.setRef.followRefs

theorem State.Steady.tbStop (h : o.Steady s) {i : Nat} {st : TbState} {cause : Nat} : o.Steady (s.tbStop i st cause) := by
  unfold State.tbStop
  exact (h.upd.arrive.ite h.upd).endSlots

theorem State.Steady.chain (h : o.Steady s) {old : State} : o.Steady (s.chain old) := by
  unfold State.chain
  exact h.foldl _ fun hk => hk.tbStop.ite (hk.upd.ite hk)

theorem State.Steady.overspeed (h : o.Steady s) : o.Steady s.overspeed := by
  unfold State.overspeed State.tbFault
  exact h.foldl _ fun hk => (hk.tbStop.ite hk).ite (hk.upd.ite hk)

/-! ### The Attendance scan -/

theorem State.Steady.attPublish (h : o.Steady s) {inputs : List Word} : o.Steady (s.attPublish inputs) := by
  have points (l : List Nat) (r : State × Bool) (hr : o.Steady r.1) : o.Steady (l.foldl (fun (r : State × Bool) p =>
      let q := r.1.attPoint p ((inputs.getD (p / 32) 0).getLsbD (p % 32))
      if q.2 && q.1.attBit R.AIEN p then (q.1.setFld (R.ACHG (p / 32)) ⟨p % 32, 1⟩ 1, true) else (q.1, r.2)) r).1 := by
    induction l generalizing r with
    | nil => exact hr
    | cons p l ih =>
      refine ih _ ?_
      have hp (lv : Bool) : o.Steady (r.1.attPoint p lv).1 := by
        unfold State.attPoint
        exact .iteFst hr.upd (.iteFst hr.upd hr.upd)
      exact .iteFst (hp _).upd (hp _)
  unfold State.attPublish
  extract_lets r t
  have ht : o.Steady t := (points _ (s, false) h).upd
  exact ht.arrive.ite ht

theorem State.Steady.attFinish (h : o.Steady s) {c : AttShift} : o.Steady (s.attFinish c) := by
  unfold State.attFinish
  extract_lets pass n lim s1 att x s2
  have h1 : o.Steady s1 := h.upd.ite h
  have h2 : o.Steady s2 := h1.upd.arrive
  split
  · exact h2.upd.attPublish
  · exact h2.upd
  · exact h2.upd.arrive.ite h2.upd

theorem State.Steady.attDue (h : o.Steady s) : o.Steady s.attDue := by
  unfold State.attDue
  split
  · exact h
  · exact (h.upd.ite h).attFinish.ite (h.upd.ite h)

/-! ### The Enward -/

theorem State.Steady.setEnRing (h : o.Steady s) {b : Bool} {r : EnRing} : o.Steady (s.setEnRing b r) := by
  unfold State.setEnRing
  exact h.upd.ite h.upd

theorem State.Steady.enRoom (h : o.Steady s) : o.Steady s.enRoom := by
  unfold State.enRoom
  exact h.ite h.upd.arrive

theorem State.Steady.enTake (h : o.Steady s) {b : Bool} {m : EnMsg} : o.Steady (s.enTake b m) := by
  unfold State.enTake
  exact h.upd.setEnRing.enRoom

theorem State.Steady.enMsgPass (h : o.Steady s) {b : Bool} {i : Nat} {good : Bool} {x : EnSection} :
    o.Steady (s.enMsgPass b i good x).1 := by
  unfold State.enMsgPass
  extract_lets chars
  split
  · exact h.enTake
  · exact h

theorem State.Steady.enStatusPass (h : o.Steady s) {first good : Bool} {x : EnSection} : o.Steady (s.enStatusPass first good x).1 := by
  unfold State.enStatusPass
  exact .iteFst (h.upd.ite h) (h.upd.ite h)

theorem State.Steady.enSection (h : o.Steady s) {b : Bool} {e : Nat × EnSection} : o.Steady (s.enSection b e) := by
  unfold State.enSection
  extract_lets i good s1 first out r
  have h1 : o.Steady s1 := h.ite h.upd
  have h2 : o.Steady out.1 := .iteFst (.iteFst h1.enMsgPass h1) (.iteFst h1.enStatusPass (.iteFst h1 h1.enMsgPass))
  exact h2.setEnRing

theorem State.Steady.enPassRing (h : o.Steady s) {k : Nat} {b : Bool} : o.Steady (s.enPassRing k b) := by
  unfold State.enPassRing
  exact h.setEnRing.foldl _ fun hk => hk.enSection

theorem State.Steady.enPass (h : o.Steady s) {k : Nat} : o.Steady (s.enPass k) := by
  unfold State.enPass
  exact h.ite h.enPassRing.enPassRing

theorem State.Steady.enState (h : o.Steady s) {st : EnState} : o.Steady (s.enState st) := by
  unfold State.enState
  extract_lets back en s'
  have hs : o.Steady s' := State.Steady.arrive h.upd
  exact h.ite (hs.upd.ite hs)

/-! ### Edges -/

theorem State.Steady.tick (h : o.Steady s) : o.Steady s.tick := by
  unfold State.tick
  exact ((h.within (fun _ => rfl) (s.evalBelow_judged 32)).stepWords.chain.overspeed.followRefs.settleDue.foldl _ fun hk => hk.checkTaken).enPass

theorem State.Steady.advance (h : o.Steady s) {k : Nat} : o.Steady (s.advance k) := by
  unfold State.advance
  exact ((h.upd.ite h).foldl _ fun hk => hk.tick).attDue.ite h

/-! ### What a boundary commits -/

theorem State.Steady.placeAt (h : o.Steady s) {i : Nat} {w : Int} : o.Steady (s.placeAt i w) := by
  unfold State.placeAt State.signalDisc
  exact h.upd

theorem State.Steady.jumpTo (h : o.Steady s) {i : Nat} {w : Int} : o.Steady (s.jumpTo i w) := by
  unfold State.jumpTo
  exact h.upd.placeAt

theorem State.Steady.wallBoundary (h : o.Steady s) : o.Steady s.wallBoundary := by
  unfold State.wallBoundary
  exact h.upd.ite (h.upd.moveTo.ite h.upd.jumpTo)

theorem State.Steady.tbDoSet (h : o.Steady s) {i : Nat} : o.Steady (s.tbDoSet i) := by
  unfold State.tbDoSet
  exact h.upd.placeAt.ite h.upd.placeAt.putRef

theorem State.Steady.tbDoSwitchB (h : o.Steady s) {i newsrc : Nat} : o.Steady (s.tbDoSwitchB i newsrc) := by
  unfold State.tbDoSwitchB
  exact h.upd.ite h.upd.followRefs

theorem State.Steady.tbDoSwitchD (h : o.Steady s) {i newsrc : Nat} : o.Steady (s.tbDoSwitchD i newsrc) := by
  unfold State.tbDoSwitchD
  exact h.tbDoSwitchB.upd.jumpTo.putRef.ite h.tbDoSwitchB.upd.jumpTo

theorem State.Steady.tbEffect (h : o.Steady s) {i : Nat} : o.Steady (s.tbEffect i) := by
  have log {s : State} (h : o.Steady s) (path : Nat) (guard : Bool) (ring kind event addr old new : Nat) :
      o.Steady (s.log path guard ring kind event addr old new) := h.within (fun _ => rfl) (s.log_logbook path guard ring kind event addr old new)
  unfold State.tbEffect
  extract_lets x
  split
  · exact h
  · refine h.ite (State.Steady.ite h.upd (log ?_ _ _ _ _ _ _ _ _))
    split
    · exact h.upd.tbDoSet
    · exact h.upd.putRef
    · unfold State.tbDoShift
      exact h.upd.placeAt
    · exact h.upd.putRef
    · exact h.upd.tbDoSwitchB
    · exact h.upd.tbDoSwitchD

theorem State.Steady.commitTb (h : o.Steady s) {a : Nat} {old : Word} : o.Steady (s.commitTb a old) := by
  unfold State.commitTb
  extract_lets s'
  have h1 : o.Steady s' := h.upd
  split
  · unfold State.commitMod
    extract_lets x cut
    split
    · exact h1.upd.placeAt
    · exact h1.upd.placeAt
    · exact h1.upd.placeAt
    · exact h1.upd.placeAt
  · exact h1.upd
  · exact h.ite h1

theorem State.Steady.commitRate (h : o.Steady s) {g : Nat} : o.Steady (s.commitRate g) := by
  have step : o.Steady (s.genStep g (s.now - 1)) := h.within (fun _ => rfl) (State.genRunBy_units (p := fun _ => False) .refl _ g _)
  unfold State.commitRate
  exact step.upd.ite step.upd

theorem State.Steady.commitOut (h : o.Steady s) {a : Nat} : o.Steady (s.commitOut a) := by
  unfold State.commitOut
  extract_lets s' is
  have h1 : o.Steady s' := h.upd
  split
  · exact h.ite h.commitRate
  · exact h1.upd
  · exact h1.upd
  · exact h1.upd
  · exact h1.upd
  · exact h1.upd
  · exact h1

theorem State.Steady.commitReg (h : o.Steady s) {a : Nat} {old : Word} : o.Steady (s.commitReg a old) := by
  unfold State.commitReg
  exact (h.commitTb.ite (h.upd.ite h.upd)).ite h.commitOut

theorem State.Steady.pinLost (h : o.Steady s) {f : Nat} : o.Steady (s.pinLost f) := by
  unfold State.pinLost
  extract_lets i
  split
  · exact h.upd
  · exact h.upd
  · exact h.upd
  · exact h.upd
  · exact h.upd
  · unfold State.uartCtsTo
    exact (h.ite h.upd.arrive).ite h
  · exact h.upd
  · exact h

theorem State.Steady.inputReset (h : o.Steady s) {f : Nat} : o.Steady (s.inputReset f) := by
  unfold State.inputReset
  split
  · exact h.upd
  · exact h

theorem State.Steady.pinSwitch (h : o.Steady s) {drive : Nat → Lvl} {b : Nat} : o.Steady (s.pinSwitch drive b) := by
  unfold State.pinSwitch
  extract_lets p
  split
  · exact (h.upd.pinLost.ite h.upd).ite h
  · exact h.upd.inputReset.ite h
  · exact h.upd.ite h

theorem State.Steady.atBoundary (h : o.Steady s) : o.Steady s.atBoundary := by
  unfold State.atBoundary State.commitAll State.ringStep
  exact ((((h.advance.enState.ite h.advance).wallBoundary.foldl _ fun hk => hk.tbEffect).foldl _ fun hk =>
    hk.commitReg).foldl _ fun hk => hk.pinSwitch)

end

end Sys2Proof.Machine
end

section
/-! SUPPORT. What the effects of a mode transition leave unchanged: the mode, the transition, the level of ESTOP_N, and MODECHG. -/

namespace Sys2Proof.Machine

/-- All but the mode, the transition, the level of ESTOP_N, the edge and the variant. -/
def Frame.effects : Frame where
  upd t s := { t with pending := s.pending, variant := s.variant, now := s.now, mode := s.mode, trans := s.trans, estopN := s.estopN }
  self _ := rfl
  twice _ _ _ := rfl
  regs _ _ := rfl

/-- The same but for the event lines and the slots. -/
def Frame.settling : Frame where
  upd t s := { t with
    pending := s.pending, variant := s.variant, now := s.now, mode := s.mode, trans := s.trans, estopN := s.estopN, lines := s.lines
    slots := s.slots }
  self _ := rfl
  twice _ _ _ := rfl
  regs _ _ := rfl

/-- All but those and the key slots. -/
def Frame.entry : Frame where
  upd t s := { t with
    pending := s.pending, variant := s.variant, now := s.now, mode := s.mode, trans := s.trans, estopN := s.estopN, keys := s.keys }
  self _ := rfl
  twice _ _ _ := rfl
  regs _ _ := rfl

theorem Frame.units_le_entry : Frame.units.le .entry := fun _ _ e => by rw [e]; rfl
theorem Frame.entry_le : Frame.entry.le .effects := fun _ _ e => by rw [e]; rfl
theorem Frame.units_le_effects : Frame.units.le .effects := fun _ _ e => by rw [e]; rfl
theorem Frame.outputs_le_effects : Frame.outputs.le .effects := fun _ _ e => by rw [e]; rfl
theorem Frame.settling_le : Frame.settling.le .effects := fun _ _ e => by rw [e]; rfl
theorem Frame.forecast_le_settling : Frame.forecast.le .settling := fun _ _ e => by rw [e]; rfl
theorem Frame.logbook_le_settling : Frame.logbook.le .settling := fun _ _ e => by rw [e]; rfl

/-- Not MODESTAT, and no MODECHG. -/
@[reducible] def effectReg (a : Nat) : Prop := a ≠ R.MODESTAT ∧ (a < R.IRQCNT 0x98 ∨ R.IRQCNT 0x9C < a)

theorem unwatched.effectReg {a : Nat} (h : unwatched a) : effectReg a := ⟨h.2.1, h.2.2.2.2⟩

theorem fireReg.effectReg {a : Nat} (h : fireReg a) : effectReg a := by
  rcases h with rfl | h
  · decide
  · exact h.effectReg

theorem unwatched_of_far {a : Nat} (h : R.IRQCNT 0x9C < a ∧ a < R.MODESTAT) : unwatched a := by
  simp only [R.IRQCNT, R.MODESTAT] at h
  simp only [unwatched, R.IRQCNT, R.TTLATECNT, R.MODESTAT, R.LOCKSTAT, R.GPOLICY]
  omega

theorem unwatched_of_outputs {a : Nat} (h : 0x40040000 ≤ a ∧ a < R.IRQCNT 0x98) : unwatched a := by
  simp only [R.IRQCNT] at h
  simp only [unwatched, R.IRQCNT, R.TTLATECNT, R.MODESTAT, R.LOCKSTAT, R.GPOLICY]
  omega

/-! ### Outputs -/

section
variable {p : Nat → Prop} {o s : State} (h : Frame.entry.Only p o s)
include h

theorem State.genStep_entry (g k : Nat) : Frame.entry.Only p o (s.genStep g k) :=
  h.trans ((State.genRunBy_units .refl _ g k).within Frame.units_le_entry)

theorem State.commitRate_entry (g : Nat) : Frame.entry.Only p o (s.commitRate g) := by
  unfold State.commitRate
  extract_lets s1 s2
  have h1 : Frame.entry.Only p o s1 := State.genStep_entry h g _
  have h2 : Frame.entry.Only p o s2 := h1.put rfl rfl
  exact .ite _ h2 (h2.put rfl rfl)

theorem State.ratesAfterHold_entry : Frame.entry.Only p o s.ratesAfterHold :=
  .foldl (fun _ g _ h => .ite _ (State.commitRate_entry h g) h) h

theorem State.genStopAll_entry : Frame.entry.Only p o s.genStopAll := .foldl (fun _ _ _ h => h.put rfl rfl) h

end

section
variable {o s : State} (h : Frame.settling.Only effectReg o s)
include h

theorem State.pwmStart_settling {c : Nat} (hc : c < 16) (k : Nat) : Frame.settling.Only effectReg o (s.pwmStart c k) := by
  unfold State.pwmStart
  extract_lets x duty
  refine Frame.Only.setFld ?_ _ _ (unwatched_of_outputs ?_).effectReg
  · exact h.put rfl rfl
  · simp only [R.PWMDUTY, R.IRQCNT]
    omega

theorem State.sdStart_settling {i : Nat} (hi : i < 8) : Frame.settling.Only effectReg o (s.sdStart i) := by
  unfold State.sdStart
  extract_lets code
  refine Frame.Only.setFld ?_ _ _ (unwatched_of_outputs ?_).effectReg
  · exact h.put rfl rfl
  · simp only [R.SDCODE, R.IRQCNT]
    omega

theorem State.attRunEntry_settling : Frame.settling.Only effectReg o s.attRunEntry := by
  have h' : Frame.settling.Only effectReg o { s with att := { s.att with safed := false } } := h.put rfl rfl
  refine .foldl (fun s n hn h => h.wr _ (unwatched_of_far ?_).effectReg) h'
  have := (mem_upFrom.1 hn).2
  simp only [R.AOUT, R.IRQCNT, R.MODESTAT]
  omega

end

/-- What RUN starts beside the event lines leaves them as they are. -/
theorem State.outputsRun_settling (s : State) (k : Nat) : Frame.settling.Only effectReg (s.mapLines State.lineRun) (s.outputsRun k) := by
  have gens : Frame.settling.Only effectReg (s.mapLines State.lineRun) ((s.mapLines State.lineRun).mapGens State.genRun) :=
    .foldl (fun _ _ _ h => h.put rfl rfl) .refl
  have pwms := Frame.Only.foldl (f := fun s c => s.pwmStart c k) (l := upFrom 0 16)
    (fun _ c hc h => State.pwmStart_settling h (by simpa using (mem_upFrom.1 hc).2) k) gens
  unfold State.outputsRun
  extract_lets s1 s2
  have sds : Frame.settling.Only effectReg s1 s2 :=
    .foldl (fun _ i hi h => State.sdStart_settling h (by simpa using (mem_upFrom.1 hi).2)) pwms
  exact State.attRunEntry_settling (.foldl (fun _ _ _ h => h.put rfl rfl) sds)

section
variable {o s : State} (h : Frame.effects.Only effectReg o s)
include h

theorem State.outputsPrepare_effects : Frame.effects.Only effectReg o s.outputsPrepare := by
  unfold State.outputsPrepare
  extract_lets s1 s2 s3 s4 s5
  have h1 : Frame.effects.Only effectReg o s1 := .foldl (fun _ _ _ h => h.put rfl rfl) h
  have h2 : Frame.effects.Only effectReg o s2 := .foldl (fun _ _ _ h => h.put rfl rfl) h1
  have h3 : Frame.effects.Only effectReg o s3 := .foldl (fun _ _ _ h => h.put rfl rfl) h2
  have h4 : Frame.effects.Only effectReg o s4 := .foldl (fun _ _ _ h => h.put rfl rfl) h3
  have h5 : Frame.effects.Only effectReg o s5 := .foldl (fun _ _ _ h => h.put rfl rfl) h4
  exact h5.put rfl rfl

theorem State.outputsRun_effects (k : Nat) : Frame.effects.Only effectReg o (s.outputsRun k) := by
  have lines : Frame.effects.Only effectReg o (s.mapLines State.lineRun) := .foldl (fun _ _ _ h => h.put rfl rfl) h
  exact lines.trans ((s.outputsRun_settling k).within Frame.settling_le)

theorem State.genResume_effects (k g : Nat) : Frame.effects.Only effectReg o (s.genResume k g) := by
  unfold State.genResume State.genGo
  extract_lets x y
  refine .ite _ h (.ite _ (h.put rfl rfl) ?_)
  split
  · exact h.put rfl rfl
  · exact h.put rfl rfl

theorem State.lineHold_effects (k l : Nat) : Frame.effects.Only effectReg o (s.lineHold k l) := by
  unfold State.lineHold
  extract_lets x late n s'
  have hs : Frame.effects.Only effectReg o s' := h.put rfl rfl
  exact .ite _ (.ite _ hs (hs.count _ _ (by decide))) h

theorem State.genHold_effects (k g : Nat) : Frame.effects.Only effectReg o (s.genHold k g) := by
  unfold State.genHold
  extract_lets x s'
  have hs : Frame.effects.Only effectReg o s' := h.trans ((State.genStep_entry .refl g _).within Frame.entry_le)
  exact .ite _ h (hs.put rfl rfl)

theorem State.rcResume_effects (c : Nat) : Frame.effects.Only effectReg o (s.rcResume c) := .ite _ (h.put rfl rfl) h

/-! ### Queues and slots -/

theorem State.issueFetch_effects (q : Nat) : Frame.effects.Only effectReg o (s.issueFetch q) := .ite _ (h.put rfl rfl) h

theorem State.restartQueues_effects : Frame.effects.Only effectReg o s.restartQueues := by
  refine .foldl (fun s q _ h => .ite _ (.ite _ (h.put rfl rfl) (State.issueFetch_effects ?_ q)) h) h
  exact h.put rfl rfl

theorem State.resumeQueues_effects : Frame.effects.Only effectReg o s.resumeQueues := by
  refine .foldl (fun s q _ h => .ite _ h (.ite _ (State.issueFetch_effects ?_ q) (h.put rfl rfl))) h
  exact h.put rfl rfl

theorem State.resolveHeld_effects : Frame.effects.Only effectReg o s.resolveHeld :=
  .foldl (fun s i _ h => .ite _
    (h.trans (((s.fire_units i true).within Frame.units_le_effects).mono fun _ => fireReg.effectReg)) h) h

end

theorem State.disarmAll_effects {o s : State} (h : Frame.effects.Only unwatched o s) (modestop : Bool) :
    Frame.effects.Only unwatched o (s.disarmAll modestop) := by
  refine .foldl (fun _ _ _ h => h.put rfl rfl) (Frame.Only.foldl (fun s i _ h => .ite _ ?_ h) h)
  exact h.trans ((s.endSlot_units i 7).within Frame.units_le_effects)

theorem State.enterSafe_effects (s : State) : Frame.effects.Only unwatched s s.enterSafe := by
  have h := State.disarmAll_effects (s.safePath_outputs.within Frame.outputs_le_effects) true
  exact .foldl (fun _ _ _ h => .ite _ h (h.put rfl rfl)) h

/-! ### The entry to SAFE, LOCKOUT and SERVICE -/

/-- What they may write: not MODESTAT, LOCKSTAT or GPOLICY, and no MODECHG. -/
@[reducible] def settleSafeReg (a : Nat) : Prop :=
  a ≠ R.MODESTAT ∧ a ≠ R.LOCKSTAT ∧ a ≠ R.GPOLICY ∧ (a < R.IRQCNT 0x98 ∨ R.IRQCNT 0x9C < a)

theorem unwatched.settleSafeReg {a : Nat} (h : unwatched a) : settleSafeReg a := by
  obtain ⟨-, ms, ls, gp, irq⟩ := h
  exact ⟨ms, ls, gp, irq⟩

theorem settleSafeReg.effectReg {a : Nat} (h : settleSafeReg a) : effectReg a := ⟨h.1, h.2.2.2⟩

section
variable {o s : State} (h : Frame.settling.Only settleSafeReg o s)
include h

theorem State.bellDrop_settling {l : Nat} (hl : l < 5) (p : BellReq → Bool) : Frame.settling.Only settleSafeReg o (s.bellDrop l p) := by
  have k : Frame.settling.Only settleSafeReg o { s with bells := s.bells.put l ((s.bell l).filter fun r => !p r) } := h.put rfl rfl
  refine k.count _ _ (unwatched_of_far ?_).settleSafeReg
  simp only [R.BELLCNT, R.IRQCNT, R.MODESTAT]
  omega

theorem State.haltShop_settling : Frame.settling.Only settleSafeReg o s.haltShop := by
  refine .foldl (fun s l hl h => State.bellDrop_settling ?_ (State.mem_coreList.1 hl).1 _) h
  exact h.put rfl rfl

theorem State.haltAll_settling : Frame.settling.Only settleSafeReg o s.haltAll :=
  .foldl (fun _ _ hl h => State.bellDrop_settling h (State.mem_coreList.1 hl).1 _) h

theorem State.enModeMsg_settling (old new : Mode) (req : ModeReq) : Frame.settling.Only settleSafeReg o (s.enModeMsg old new req) :=
  .ite _ (h.trans (((State.enSend_forecast .refl _).within Frame.forecast_le_settling).mono fun _ => unwatched.settleSafeReg)) h

theorem State.enRepeat_settling : Frame.settling.Only settleSafeReg o s.enRepeat := by
  refine .ite _ h ?_
  unfold State.enState
  extract_lets back en s'
  have hs : Frame.settling.Only settleSafeReg o s' :=
    (h.put (t := { s with en := { s.en with state := .repeats } }) rfl rfl).arrive (by decide) (by decide)
  exact .ite _ h (.ite _ (hs.setFld _ _ (by decide)) hs)

theorem State.cancelStage2_settling : Frame.settling.Only settleSafeReg o s.cancelStage2 := by
  refine .foldl (fun s l hl h => .ite _ (h.setFld _ _ ?_) h) h
  have := (State.mem_coreList.1 hl).1
  simp only [settleSafeReg, R.WDSTAT, R.MODESTAT, R.LOCKSTAT, R.GPOLICY, R.IRQCNT]
  omega

theorem State.logFlushed_settling (path : Nat) (guard : Bool) (ring kind event addr old new : Nat) :
    Frame.settling.Only settleSafeReg o (s.log path guard ring kind event addr old new).logFlush := by
  have log : ∀ a, logReg a → settleSafeReg a := by
    rintro a (rfl | rfl)
    · decide
    · decide
  exact (h.trans (((s.log_logbook path guard ring kind event addr old new).within Frame.logbook_le_settling).mono log)).trans
    (((State.logFlush_logbook _).within Frame.logbook_le_settling).mono log)

theorem State.setDrbg_settling {n : Nat} (hn : n < 10) (d : Drbg) : Frame.settling.Only settleSafeReg o (s.setDrbg n d) := by
  refine Frame.Only.setFld ?_ _ _ (unwatched_of_far ?_).settleSafeReg
  · exact h.put rfl rfl
  · simp only [R.DRBGINST, R.IRQCNT, R.MODESTAT]
    omega

theorem State.serviceErase_settling : Frame.settling.Only settleSafeReg o s.serviceErase := by
  unfold State.serviceErase
  extract_lets s1 d s2
  have h1 : Frame.settling.Only settleSafeReg o s1 := .foldl (fun _ _ _ h => h.put rfl rfl) h
  have h2 : Frame.settling.Only settleSafeReg o s2 := .foldl
    (fun _ _ hn h => State.setDrbg_settling h (List.mem_range.1 (List.mem_filter.1 hn).1) _) h1
  exact .foldl (fun _ _ _ h => .ite _ (h.put rfl rfl) h) (h2.setFld _ _ (by decide))

theorem State.serviceOpen_settling : Frame.settling.Only settleSafeReg o s.serviceOpen := by
  unfold State.serviceOpen
  extract_lets s1 n otp s2 counted s3
  have h1 : Frame.settling.Only settleSafeReg o s1 := (State.logFlushed_settling h _ _ _ _ _ _ _ _).put rfl rfl
  clear_value s1
  have h2 : Frame.settling.Only settleSafeReg o s2 := State.serviceErase_settling (h1.put rfl rfl)
  clear_value s2
  have h3 : Frame.settling.Only settleSafeReg o { s2 with otp := { s2.otp.counted with svcpend := none } } := h2.put rfl rfl
  exact ((h3.setFld _ _ (by decide)).setFld _ _ (by decide)).setFld _ _ (by decide)

end

theorem State.lockStat_settling (s : State) (cause : Nat) : Frame.settling.Only effectReg s (s.lockStat cause) := by
  have h : Frame.settling.Only effectReg s (s.setFld R.LOCKSTAT R.LOCKSTAT_COUNT (s.fld R.LOCKSTAT R.LOCKSTAT_COUNT + 1)) :=
    Frame.Only.refl.setFld _ _ (by decide)
  exact .ite _ h (((h.setFld _ _ (by decide)).setFld _ _ (by decide)).setFld _ _ (by decide))

/-! ### The effects of a transition -/

/-- What SAFE does once the outputs are safe and the slots have ended. -/
theorem State.safeRest_settling (s : State) (old : Mode) (req : ModeReq) :
    Frame.settling.Only settleSafeReg s (s.haltShop.enModeMsg old .safe req) :=
  State.enModeMsg_settling (State.haltShop_settling .refl) _ _ _

/-- What LOCKOUT does then. -/
theorem State.lockoutRest_settling (s : State) (cause : Nat) :
    Frame.settling.Only effectReg s ((s.haltAll.lockStat cause).enRepeat.cancelStage2) := by
  have halts : Frame.settling.Only effectReg s s.haltAll := (State.haltAll_settling .refl).mono fun _ => settleSafeReg.effectReg
  exact (halts.trans (State.lockStat_settling _ _)).trans
    ((State.cancelStage2_settling (State.enRepeat_settling .refl)).mono fun _ => settleSafeReg.effectReg)

/-- What SERVICE does then. -/
theorem State.serviceRest_settling (s : State) : Frame.settling.Only settleSafeReg s s.haltAll.enRepeat.serviceOpen :=
  State.serviceOpen_settling (State.enRepeat_settling (State.haltAll_settling .refl))

theorem State.modeEffects_effects (s : State) (old : Mode) (t : Trans) (k : Nat) :
    Frame.effects.Only effectReg s (s.modeEffects old t k) := by
  have disarm : Frame.effects.Only effectReg s (s.disarmAll false) := (State.disarmAll_effects .refl _).mono fun _ => unwatched.effectReg
  have enter : Frame.effects.Only effectReg s s.enterSafe := s.enterSafe_effects.mono fun _ => unwatched.effectReg
  unfold State.modeEffects
  split
  · refine .ite _ (State.outputsPrepare_effects .refl) (.ite _ (State.restartQueues_effects (State.outputsPrepare_effects .refl)) ?_)
    exact .foldl (fun _ c _ h => State.rcResume_effects h c) (State.outputsPrepare_effects disarm)
  · refine .ite _ ?_ (State.outputsRun_effects .refl k)
    have gens : Frame.effects.Only effectReg s (s.mapGens fun s g => s.genResume k g) :=
      .foldl (fun _ g _ h => State.genResume_effects h k g) .refl
    have rates := gens.trans ((State.ratesAfterHold_entry .refl).within Frame.entry_le)
    exact State.resolveHeld_effects (State.resumeQueues_effects (.foldl (fun _ c _ h => State.rcResume_effects h c) rates))
  · extract_lets s1
    have lines : Frame.effects.Only effectReg s (s.mapLines fun s l => s.lineHold k l) :=
      .foldl (fun _ l _ h => State.lineHold_effects h k l) .refl
    have gens : Frame.effects.Only effectReg s ((s.mapLines fun s l => s.lineHold k l).mapGens fun s g => s.genHold k g) :=
      .foldl (fun _ g _ h => State.genHold_effects h k g) lines
    have h1 : Frame.effects.Only effectReg s s1 := .foldl (fun _ _ _ h => h.put rfl rfl) gens
    have rcs : Frame.effects.Only effectReg s (s1.mapRcs State.rcPause) := .foldl (fun _ _ _ h => .ite _ (h.put rfl rfl) h) h1
    exact .foldl (fun _ _ _ h => h.put rfl rfl) rcs
  · exact enter.trans (((State.safeRest_settling _ _ _).within Frame.settling_le).mono fun _ => settleSafeReg.effectReg)
  · exact enter.trans ((State.lockoutRest_settling _ _).within Frame.settling_le)
  · exact enter.trans (((State.serviceRest_settling _).within Frame.settling_le).mono fun _ => settleSafeReg.effectReg)
  · exact .refl

end Sys2Proof.Machine
end

section
/-! PROOF of O22. The completion of a transition: its mode and MODECHG, and the effects of each target. -/

namespace Sys2Proof.Machine

/-! ### The mode takes effect -/

/-- The state in which the mode of a transition takes effect. -/
def State.entering (s : State) (t : Trans) : State :=
  let old := s.mode
  let s := if (old == .run || old == .hold) && t.target != .run && t.target != .hold then s.genStopAll else s
  let s := if old == .prepare then s.endForces else s
  let s := { s.dawnOver with trans := none, mode := t.target }
  if old == .hold && t.target != .run then s.ratesAfterHold else s

/-- The state in which the effects of a transition begin: MODESTAT names the mode. -/
def State.beginning (s : State) (t : Trans) : State := (s.entering t).modeStat s.mode t.target t.req false

/-- MODECHG for every core, and the Logbook entry. -/
def State.announce (s : State) (path : Nat × Bool × Nat) (ms : Word) : State :=
  let s := s.coreList.foldl (fun (s : State) l => s.arrive (0x98 + l)) s.wdUpdate
  s.log path.1 path.2.1 path.2.2 2 0 R.MODESTAT ms.toNat (s.rd R.MODESTAT).toNat

/-- The transition is complete, but for what ESTOP_N low asks for. -/
def State.completed (s : State) (t : Trans) : State :=
  ((s.beginning t).modeEffects s.mode t s.now).announce t.path (s.rd R.MODESTAT)

theorem State.complete_eq (s : State) (t : Trans) :
    s.complete t s.now = if !(s.completed t).estopN then (s.completed t).demandSafe .estop else s.completed t := rfl

/-- The registers that the end of a mode writes. -/
@[reducible] def entryReg (a : Nat) : Prop := a = R.EVFEN 0 ∨ a = R.EVFEN 1 ∨ a = R.DAWNSTAT

/-- In `v` the mode `m` has taken effect from `u`. -/
structure State.Enters (u v : State) (m : Mode) : Prop where
  mode : v.mode = m
  trans : v.trans = none
  estopN : v.estopN = u.estopN
  variant : v.variant = u.variant
  keys : v.keys = u.keys
  rd : ∀ a, ¬entryReg a → v.rd a = u.rd a

theorem State.enters_entering (s : State) (t : Trans) : s.Enters (s.entering t) t.target := by
  unfold State.entering
  extract_lets old s1 s2 w s3
  have h1 : Frame.entry.Only entryReg s s1 := .ite _ (State.genStopAll_entry .refl) .refl
  clear_value s1
  have h2 : Frame.entry.Only entryReg s s2 := by
    refine .ite _ (Frame.Only.put ((h1.wr 0 (.inl rfl)).wr 0 (.inr (.inl rfl))) rfl rfl) h1
  clear_value s2
  have h3 : Frame.entry.Only entryReg s w :=
    .ite _ ((h2.put (t := { s2 with dawn := .none, dawnEnd := some s2.now }) rfl rfl).setFld _ _ (.inr (.inr rfl))) h2
  have rest : Frame.entry.Only (fun _ => False) s3 (if old == .hold && t.target != .run then s3.ratesAfterHold else s3) :=
    .ite _ (State.ratesAfterHold_entry .refl) .refl
  have trans : s3.trans = none ∧ s3.mode = t.target ∧ s3.estopN = w.estopN ∧ s3.variant = w.variant ∧
    s3.keys = w.keys ∧ s3.regs = w.regs := ⟨rfl, rfl, rfl, rfl, rfl, rfl⟩
  clear_value s3 w
  obtain ⟨trans, mode, estop, var, keys, regs⟩ := trans
  refine ⟨?_, ?_, ?_, ?_, ?_, fun a ha => ?_⟩
  · exact (rest.keep State.mode fun _ => rfl).trans mode
  · exact (rest.keep State.trans fun _ => rfl).trans trans
  · exact (rest.keep State.estopN fun _ => rfl).trans (estop.trans (h3.keep State.estopN fun _ => rfl))
  · exact (rest.keep State.variant fun _ => rfl).trans (var.trans (h3.keep State.variant fun _ => rfl))
  · exact (rest.keep State.keys fun _ => rfl).trans (keys.trans (h3.keep State.keys fun _ => rfl))
  · have e : s3.rd a = w.rd a := by simp [State.rd, regs]
    exact (rest.rd id).trans (e.trans (h3.rd ha))

section
variable (u : State) (t : Trans)

theorem State.beginning_mode : (u.beginning t).mode = t.target := (u.enters_entering t).mode
theorem State.beginning_trans : (u.beginning t).trans = none := (u.enters_entering t).trans
theorem State.beginning_estopN : (u.beginning t).estopN = u.estopN := (u.enters_entering t).estopN
theorem State.beginning_variant : (u.beginning t).variant = u.variant := (u.enters_entering t).variant
theorem State.beginning_keys : (u.beginning t).keys = u.keys := (u.enters_entering t).keys

theorem State.beginning_modestat :
    (u.beginning t).rd R.MODESTAT = BitVec.ofNat 32 (t.target.code + 16 * u.mode.code + 256 * t.req.code) :=
  State.rd_wr_self _ _ _

theorem State.beginning_rd {a : Nat} (hm : a ≠ R.MODESTAT) (ha : ¬entryReg a) : (u.beginning t).rd a = u.rd a :=
  (State.rd_wr_ne _ _ _ _ hm).trans ((u.enters_entering t).rd a ha)

end

theorem State.dawnOver_inForce (s : State) : s.dawnOver.inForce = s.inForce := by
  unfold State.dawnOver
  split
  · rfl
  · rfl

/-- An entry that is not erased is still found. -/
theorem Tab.find_erase_of_not {α : Type} (t : Tab α) {p : Nat → Bool} {k : Nat} (h : p k = false) : (t.erase p).find k = t.find k := by
  induction t with
  | nil => rfl
  | cons e t ih =>
    obtain ⟨j, x⟩ := e
    by_cases hj : j = k
    · subst hj
      simp [Tab.erase, Tab.find, h]
    · by_cases hp : p j = true
      · simpa [Tab.erase, Tab.find, hp, hj] using ih
      · simpa [Tab.erase, Tab.find, hp, hj] using ih

/-- Forces end with PREPARE, and the event lines' configurations stay in force. -/
theorem State.endForces_inForce (s : State) {l : Nat} (hl : l < 64) :
    s.endForces.inForce.find (R.EVCFG l) = s.inForce.find (R.EVCFG l) := by
  have e : s.endForces.inForce = s.inForce.erase fun a => a == R.EVFEN 0 || a == R.EVFEN 1 := rfl
  rw [e, Tab.find_erase_of_not]
  simp only [R.EVCFG, R.EVFEN, Bool.or_eq_false_iff, beq_eq_false_iff_ne]
  omega

/-- RUN begins with the event lines' configurations in force. -/
theorem State.beginning_eff (u : State) {t : Trans} (h : t.target = .run) {l : Nat} (hl : l < 64) :
    (u.beginning t).eff (R.EVCFG l) = u.eff (R.EVCFG l) := by
  have stops : ((u.mode == .run || u.mode == .hold) && t.target != .run && t.target != .hold) = false := by simp [h]
  have rates : (u.mode == .hold && t.target != .run) = false := by simp [h]
  have kept : (u.beginning t).inForce.find (R.EVCFG l) = u.inForce.find (R.EVCFG l) := by
    change (u.entering t).inForce.find (R.EVCFG l) = _
    unfold State.entering
    dsimp only
    rw [stops, rates, if_neg Bool.false_ne_true, if_neg Bool.false_ne_true]
    dsimp only
    rw [State.dawnOver_inForce]
    split
    · exact u.endForces_inForce hl
    · rfl
  have rd : (u.beginning t).rd (R.EVCFG l) = u.rd (R.EVCFG l) := by
    refine u.beginning_rd t ?_ ?_
    · simp only [R.EVCFG, R.MODESTAT]
      omega
    · simp only [entryReg, R.EVCFG, R.EVFEN, R.DAWNSTAT]
      omega
  simp [State.eff, Tab.get, kept, rd]

/-! ### MODECHG -/

/-- The watchdogs, the Logbook and the registers. -/
def Frame.announcing : Frame where
  upd t s := { s with regs := t.regs, wdStart := t.wdStart, wdOut := t.wdOut, mem := t.mem, logQ := t.logQ, freeCtr := t.freeCtr }
  self _ := rfl
  twice _ _ _ := rfl
  regs _ _ := rfl

theorem Frame.watchdogs_le : Frame.watchdogs.le .announcing := fun _ _ e => by rw [e]; rfl
theorem Frame.logbook_le : Frame.logbook.le .announcing := fun _ _ e => by rw [e]; rfl

/-- The registers that the announcement of a mode writes. -/
@[reducible] def announceReg (a : Nat) : Prop :=
  (∃ l, l < 5 ∧ a = R.WDSTAT l) ∨ (∃ l, l < 5 ∧ a = R.IRQCNT (0x98 + l)) ∨ a = R.IRQLOST ∨ logReg a

theorem State.announce_only (s : State) (path : Nat × Bool × Nat) (ms : Word) :
    Frame.announcing.Only announceReg s (s.announce path ms) := by
  have wd : Frame.announcing.Only announceReg s s.wdUpdate := (s.wdUpdate_only.within Frame.watchdogs_le).mono fun _ => .inl
  have chg := Frame.Only.foldl (f := fun (s : State) l => s.arrive (0x98 + l)) (l := s.coreList)
    (fun _ l hl h => h.arrive (.inr (.inl ⟨l, (State.mem_coreList.1 hl).1, rfl⟩)) (.inr (.inr (.inl rfl)))) wd
  exact chg.trans (((State.log_logbook _ _ _ _ _ _ _ _ _).within Frame.logbook_le).mono fun _ => .inr ∘ .inr ∘ .inr)

theorem State.arrive_count {s : State} {n : Nat} (h : s.hasSrc n = true) (hn : n < 0x100) :
    (s.arrive n).fld (R.IRQCNT n) R.IRQCNT_COUNT = min 15 (s.fld (R.IRQCNT n) R.IRQCNT_COUNT + 1) := by
  have lt : s.fld (R.IRQCNT n) R.IRQCNT_COUNT < 16 := s.fld_lt _ _
  unfold State.arrive
  rw [if_pos h]
  split
  · rw [State.fld_setFld_self _ _ _ _ (by decide)]
    change _ % 16 = _
    omega
  · have ne : R.IRQCNT n ≠ R.IRQLOST := by
      simp only [R.IRQCNT, R.IRQLOST]
      omega
    rw [State.fld_count_ne _ _ _ _ ne, State.fld_setFld_apart _ _ _ (.inl (by decide))]
    omega

theorem State.arrive_count_ne (s : State) {n m : Nat} (h : m ≠ n) (hm : m < 0x100) :
    (s.arrive n).fld (R.IRQCNT m) R.IRQCNT_COUNT = s.fld (R.IRQCNT m) R.IRQCNT_COUNT := by
  have only : State.RegsAt (fun a => a ≠ R.IRQCNT m) s (s.arrive n) := by
    refine Frame.Only.refl.arrive ?_ ?_
    · simp only [R.IRQCNT]
      omega
    · simp only [R.IRQLOST, R.IRQCNT]
      omega
  exact only.fld _ fun h => h rfl

theorem State.arrive_hasSrc (s : State) (n m : Nat) : (s.arrive n).hasSrc m = s.hasSrc m := by
  have only : State.RegsAt (fun _ => True) s (s.arrive n) := Frame.Only.refl.arrive trivial trivial
  exact only.keep (State.hasSrc · m) fun _ => rfl

/-- One arrival each of some sources counts each once. -/
theorem arrivals_count {L : List Nat} (hn : L.Nodup) {l : Nat} (hl : l ∈ L) (hb : l < 5) {s : State} (hs : s.hasSrc (0x98 + l) = true) :
    (L.foldl (fun (s : State) l => s.arrive (0x98 + l)) s).fld (R.IRQCNT (0x98 + l)) R.IRQCNT_COUNT =
      min 15 (s.fld (R.IRQCNT (0x98 + l)) R.IRQCNT_COUNT + 1) := by
  have others (L : List Nat) (s : State) (h : l ∉ L) :
      (L.foldl (fun (s : State) l => s.arrive (0x98 + l)) s).fld (R.IRQCNT (0x98 + l)) R.IRQCNT_COUNT =
        s.fld (R.IRQCNT (0x98 + l)) R.IRQCNT_COUNT := by
    induction L generalizing s with
    | nil => rfl
    | cons k L ih =>
      rw [List.mem_cons, not_or] at h
      exact (ih _ h.2).trans (s.arrive_count_ne (by omega) (by omega))
  induction L generalizing s with
  | nil => cases hl
  | cons k L ih =>
    obtain ⟨hk, hn⟩ := List.nodup_cons.1 hn
    rw [List.foldl_cons]
    rcases List.mem_cons.1 hl with rfl | hl
    · rw [others L _ hk, State.arrive_count hs (by omega)]
    · have ne : l ≠ k := fun e => hk (e ▸ hl)
      rw [ih hn hl ((s.arrive_hasSrc _ _).trans hs), s.arrive_count_ne (by omega) (by omega)]

theorem State.hasSrc_modechg {s : State} {l : Nat} (h : l ∈ s.coreList) : s.hasSrc (0x98 + l) = true := by
  obtain ⟨hl, hc⟩ := State.mem_coreList.1 h
  have mod : (0x98 + l) % 8 = l := by omega
  unfold State.hasSrc
  simp only [mod, hc, hl, Bool.and_true, decide_true]
  rw [if_neg (by omega), if_neg (by omega), if_neg (by omega), if_neg (by omega), if_pos (by omega)]

/-- Every core is told of the mode. -/
theorem State.announce_modechg {s : State} {l : Nat} (h : l ∈ s.coreList) (path : Nat × Bool × Nat) (ms : Word) :
    (s.announce path ms).fld (R.IRQCNT (0x98 + l)) R.IRQCNT_COUNT = min 15 (s.fld (R.IRQCNT (0x98 + l)) R.IRQCNT_COUNT + 1) := by
  have hl := (State.mem_coreList.1 h).1
  have off : ¬logReg (R.IRQCNT (0x98 + l)) := by
    simp only [logReg, R.IRQCNT, R.LBSTAT, R.LBSEQ]
    omega
  have src : s.wdUpdate.hasSrc (0x98 + l) = true := (s.wdUpdate_only.keep (State.hasSrc · _) fun _ => rfl).trans (State.hasSrc_modechg h)
  have same : s.wdUpdate.fld (R.IRQCNT (0x98 + l)) R.IRQCNT_COUNT = s.fld (R.IRQCNT (0x98 + l)) R.IRQCNT_COUNT := by
    have e := s.wdUpdate_rd (a := R.IRQCNT (0x98 + l)) (.inl (by simp only [R.IRQCNT]; omega))
    rw [State.fld, e, State.fld]
  unfold State.announce
  extract_lets told
  rw [(State.log_logbook _ _ _ _ _ _ _ _ _).fld _ off, arrivals_count s.coreList_nodup h hl src, same]

/-! ### Outputs at the start of RUN -/

theorem Frame.Only.line_settling {p : Nat → Prop} {s t : State} (h : Frame.settling.Only p s t) (l : Nat) : t.line l = s.line l :=
  h.keep (State.line · l) fun _ => rfl

theorem State.lineRun_line (s : State) (l : Nat) :
    ((s.lineRun l).line l).safed = false ∧ ((s.lineRun l).line l).fd.a.lvl = s.safeBit l := by
  have e : (s.lineRun l).line l = _ := s.line_setLine_self l _
  rw [e]
  exact ⟨rfl, rfl⟩

theorem State.line_setLine_ne (s : State) {l m : Nat} (x : Line) (h : m ≠ l) : (s.setLine l x).line m = s.line m := by
  simp [State.line, State.setLine, Tab.get, Tab.find_put_ne _ _ h]

/-- Line `l` starts from level `b` in every state in which that is its safe level. -/
def State.StartsAt (s : State) (l : Nat) (b : Bool) : Prop := s.safeBit l = b → (s.line l).safed = false ∧ (s.line l).fd.a.lvl = b

theorem State.lineRun_startsAt (s : State) (l : Nat) (b : Bool) : (s.lineRun l).StartsAt l b := by
  intro e
  have e' : s.safeBit l = b := e
  rw [← e']
  exact s.lineRun_line l

theorem State.StartsAt.lineRun {s : State} {l : Nat} {b : Bool} (h : s.StartsAt l b) (m : Nat) : (s.lineRun m).StartsAt l b := by
  by_cases hm : l = m
  · subst hm
    exact s.lineRun_startsAt l b
  · intro e
    have same : (s.lineRun m).line l = s.line l := s.line_setLine_ne _ hm
    rw [same]
    exact h e

theorem State.mapLines_establishes {f : State → Nat → State} {P : State → Prop} {l : Nat} (hl : l < 64) (hit : ∀ s, P (f s l))
    (keep : ∀ s m, P s → P (f s m)) (s : State) : P (s.mapLines f) :=
  foldl_establishes (l := upFrom 0 64) (mem_upFrom.2 ⟨Nat.zero_le l, by omega⟩) hit keep s

theorem State.lineRuns_safeBit (s : State) (l : Nat) : (s.mapLines State.lineRun).safeBit l = s.safeBit l := by
  have only : Frame.outputs.Only (fun _ => False) s (s.mapLines State.lineRun) := .foldl (fun _ _ _ h => h.put rfl rfl) .refl
  have e : (s.mapLines State.lineRun).eff (R.EVCFG l) = s.eff (R.EVCFG l) :=
    State.eff_congr _ (only.keep State.inForce fun _ => rfl) (only.rd id)
  unfold State.safeBit State.effFld
  rw [e]

/-- Every event line starts RUN from its safe level (R172). -/
theorem State.outputsRun_line (s : State) (k : Nat) {l : Nat} (hl : l < 64) :
    ((s.outputsRun k).line l).safed = false ∧ ((s.outputsRun k).line l).fd.a.lvl = s.safeBit l := by
  have starts : (s.mapLines State.lineRun).StartsAt l (s.safeBit l) :=
    State.mapLines_establishes (P := fun t => t.StartsAt l (s.safeBit l)) hl (fun t => t.lineRun_startsAt l _) (fun _ m h => h.lineRun m) s
  rw [(s.outputsRun_settling k).line_settling]
  exact starts (s.lineRuns_safeBit l)

/-! ### Outputs and slots in SAFE, LOCKOUT and SERVICE -/

/-- What no step of a pass changes is as before. -/
theorem foldl_keeps {α β γ : Type} (g : α → γ) {f : α → β → α} (h : ∀ s x, g (f s x) = g s) (l : List β) (s : α) :
    g (l.foldl f s) = g s := by
  induction l generalizing s with
  | nil => rfl
  | cons x l ih => exact (ih _).trans (h s x)

theorem State.endSlot_lines (s : State) (i st : Nat) : (s.endSlot i st).lines = s.lines :=
  (s.endSlot_ending i st).keep State.lines fun _ => rfl

/-- The end of a slot that is not FREE. -/
def State.endIfHeld (s : State) (st i : Nat) : State := if (s.slot i).a.state != 0 && true then s.endSlot i st else s

theorem State.endIfHeld_lines (s : State) (st i : Nat) : (s.endIfHeld st i).lines = s.lines := by
  unfold State.endIfHeld
  split
  · exact s.endSlot_lines i st
  · rfl

theorem State.endIfHeld_self (s : State) (st i : Nat) : ((s.endIfHeld st i).slot i).a.state = 0 := by
  unfold State.endIfHeld
  split
  · rw [State.endSlot_slot]
    rfl
  · next h => simpa using h

theorem State.endIfHeld_free (s : State) (st : Nat) {i j : Nat} (h : (s.slot j).a.state = 0) : ((s.endIfHeld st i).slot j).a.state = 0 := by
  by_cases e : j = i
  · subst e
    exact s.endIfHeld_self st j
  · unfold State.endIfHeld
    split
    · rw [s.endSlot_slot_ne st e, h]
    · exact h

/-- Every output is safe and every slot FREE. -/
def State.AllSafe (s : State) : Prop := s.LinesSafe ∧ ∀ i, i < 32 → (s.slot i).a.state = 0

theorem State.AllSafe.congr {s t : State} (h : s.AllSafe) (hl : t.lines = s.lines) (hs : t.slots = s.slots) : t.AllSafe := by
  refine ⟨h.1.congr hl, fun i hi => ?_⟩
  have e : t.slot i = s.slot i := by rw [State.slot, State.slot, hs]
  rw [e]
  exact h.2 i hi

theorem State.endSlots_eq (s : State) (st : Nat) :
    s.endSlots (fun _ _ => true) st = (upFrom 0 32).foldl (fun s i => State.endIfHeld s st i) s := rfl

theorem State.endSlots_lines (s : State) (st : Nat) : (s.endSlots (fun _ _ => true) st).lines = s.lines :=
  foldl_keeps State.lines (fun s i => s.endIfHeld_lines st i) (upFrom 0 32) s

theorem State.endSlots_free (s : State) (st : Nat) {i : Nat} (h : i < 32) :
    ((s.endSlots (fun _ _ => true) st).slot i).a.state = 0 := by
  rw [State.endSlots_eq]
  exact foldl_establishes (f := fun s i => State.endIfHeld s st i) (P := fun s => (s.slot i).a.state = 0)
    (mem_upFrom.2 ⟨Nat.zero_le i, by omega⟩) (fun s => s.endIfHeld_self st i) (fun s _ h => s.endIfHeld_free st h) s

theorem State.AllSafe.settling {p : Nat → Prop} {s t : State} (h : s.AllSafe) (k : Frame.settling.Only p s t) : t.AllSafe :=
  h.congr (k.keep State.lines fun _ => rfl) (k.keep State.slots fun _ => rfl)

theorem State.mapQueues_settling (s : State) (f : Queue → Queue) : Frame.settling.Only (fun _ => False) s (s.mapQueues f) :=
  .foldl (fun _ _ _ h => h.put rfl rfl) .refl

theorem State.stopRcs_settling (s : State) (why : Nat) :
    Frame.settling.Only (fun _ => False) s (s.mapRcs fun s c => s.rcStop c why s.now) :=
  .foldl (fun _ _ _ h => .ite _ h (h.put rfl rfl)) .refl

theorem State.LinesSafe.disarmAll {s : State} (h : s.LinesSafe) (modestop : Bool) : (s.disarmAll modestop).AllSafe := by
  have ends : (s.endSlots (fun _ _ => true) 7).AllSafe := ⟨h.congr (s.endSlots_lines 7), fun _ hi => s.endSlots_free 7 hi⟩
  exact ends.settling (State.mapQueues_settling _ (Queue.modeStop modestop))

theorem State.enterSafe_allSafe (s : State) : s.enterSafe.AllSafe :=
  (s.safePath_linesSafe.disarmAll true).settling (State.stopRcs_settling _ 3)

theorem State.modeEffects_allSafe (s : State) (old : Mode) {t : Trans} (k : Nat) (h : t.target ∈ [Mode.safe, .lockout, .service]) :
    (s.modeEffects old t k).AllSafe := by
  simp only [List.mem_cons, List.not_mem_nil, or_false] at h
  unfold State.modeEffects
  rcases h with h | h | h
  · rw [h]
    exact s.enterSafe_allSafe.settling (State.safeRest_settling _ _ _)
  · rw [h]
    exact s.enterSafe_allSafe.settling (State.lockoutRest_settling _ _)
  · rw [h]
    exact s.enterSafe_allSafe.settling (State.serviceRest_settling _)

/-! ### SAFE halts the Shop world -/

theorem State.core_setCore_self (s : State) (l : Nat) (c : Core) : (s.setCore l c).core l = c := by
  simp [State.core, State.setCore, Tab.get, Tab.find_put_self]

theorem State.core_setCore_ne (s : State) {l m : Nat} (c : Core) (h : m ≠ l) : (s.setCore l c).core m = s.core m := by
  simp [State.core, State.setCore, Tab.get, Tab.find_put_ne _ _ h]

/-- The Shop world of core `l` is halted, and its Shop requests are dropped. -/
def State.haltShopOf (s : State) (l : Nat) : State :=
  (s.setCore l { s.core l with shopHalted := true }).bellDrop l (fun r => !r.guard)

theorem State.haltShopOf_self (s : State) (l : Nat) : ((s.haltShopOf l).core l).shopHalted = true :=
  congrArg Core.shopHalted (s.core_setCore_self l { s.core l with shopHalted := true })

theorem State.haltShopOf_keeps {s : State} {l : Nat} (h : (s.core l).shopHalted = true) (m : Nat) :
    ((s.haltShopOf m).core l).shopHalted = true := by
  by_cases e : l = m
  · subst e
    exact s.haltShopOf_self l
  · exact (congrArg Core.shopHalted (s.core_setCore_ne { s.core m with shopHalted := true } e)).trans h

theorem State.haltShop_core {s : State} {l : Nat} (h : l ∈ s.coreList) : (s.haltShop.core l).shopHalted = true :=
  foldl_establishes (f := State.haltShopOf) (P := fun t => (t.core l).shopHalted = true) h (fun t => t.haltShopOf_self l)
    (fun _ m ht => State.haltShopOf_keeps ht m) s

theorem State.enModeMsg_core (s : State) (old new : Mode) (req : ModeReq) (l : Nat) : (s.enModeMsg old new req).core l = s.core l := by
  unfold State.enModeMsg
  split
  · exact (State.enSend_forecast .refl _).keep (State.core · l) fun _ => rfl
  · rfl

theorem State.safeEffects_core {s : State} {old : Mode} {t : Trans} {k l : Nat} (h : t.target = .safe) (hl : l ∈ s.coreList) :
    ((s.modeEffects old t k).core l).shopHalted = true := by
  have cores : s.enterSafe.coreList = s.coreList := s.enterSafe_effects.keep State.coreList fun _ => rfl
  unfold State.modeEffects
  rw [h]
  dsimp only
  rw [State.enModeMsg_core]
  refine State.haltShop_core ?_
  rw [cores]
  exact hl

/-! ### LOCKOUT records its cause -/

theorem State.lockStat_pend (s : State) (cause : Nat) : (s.lockStat cause).fld R.LOCKSTAT R.LOCKSTAT_PEND = 1 := by
  unfold State.lockStat
  extract_lets n s' ok
  split
  next h => exact h.2.1
  next =>
    rw [State.fld_setFld_apart _ _ _ (.inl (by decide)), State.fld_setFld_self _ _ _ _ (by decide)]
    rfl

theorem State.lockStat_cause (s : State) {cause : Nat} (h1 : 1 ≤ cause) (h9 : cause < 9) :
    (s.lockStat cause).fld R.LOCKSTAT R.LOCKSTAT_CAUSE = cause ∧
      (s.lockStat cause).fld R.LOCKSTAT R.LOCKSTAT_CLROK = s.fld R.GPOLICY R.GPOLICY_CLR / 2 ^ (cause - 1) % 2 := by
  have ne : cause ≠ 9 := by omega
  unfold State.lockStat
  extract_lets n s' ok
  have policy : s'.fld R.GPOLICY R.GPOLICY_CLR = s.fld R.GPOLICY R.GPOLICY_CLR := State.fld_setFld_ne _ _ _ _ (by decide)
  have hok : ok = s.fld R.GPOLICY R.GPOLICY_CLR / 2 ^ (cause - 1) % 2 := by rw [← policy]; exact if_neg ne
  rw [if_neg fun h => ne h.1]
  constructor
  · rw [State.fld_setFld_apart _ _ _ (.inl (by decide)), State.fld_setFld_apart _ _ _ (.inl (by decide)), State.fld_setFld_self _ _ _ _ (by decide)]
    change cause % 16 = cause
    omega
  · rw [State.fld_setFld_self _ _ _ _ (by decide), hok]
    change _ % 2 % 2 = _
    omega

theorem State.lockoutEffects_lockstat {s : State} {old : Mode} {t : Trans} {k : Nat} (h : t.target = .lockout) :
    (s.modeEffects old t k).fld R.LOCKSTAT R.LOCKSTAT_PEND = 1 ∧ (1 ≤ t.cause → t.cause < 9 →
      (s.modeEffects old t k).fld R.LOCKSTAT R.LOCKSTAT_CAUSE = t.cause ∧
      (s.modeEffects old t k).fld R.LOCKSTAT R.LOCKSTAT_CLROK = s.fld R.GPOLICY R.GPOLICY_CLR / 2 ^ (t.cause - 1) % 2) := by
  have rest (u : State) (f : F) : u.enRepeat.cancelStage2.fld R.LOCKSTAT f = u.fld R.LOCKSTAT f :=
    (State.cancelStage2_settling (State.enRepeat_settling .refl)).fld f fun h => h.2.1 rfl
  have halts (u : State) : u.haltAll.fld R.GPOLICY R.GPOLICY_CLR = u.fld R.GPOLICY R.GPOLICY_CLR :=
    (State.haltAll_settling .refl).fld _ fun h => h.2.2.1 rfl
  have policy : s.enterSafe.haltAll.fld R.GPOLICY R.GPOLICY_CLR = s.fld R.GPOLICY R.GPOLICY_CLR :=
    (halts _).trans (s.enterSafe_effects.fld _ fun h => h.2.2.2.1 rfl)
  unfold State.modeEffects
  rw [h]
  dsimp only
  rw [rest, rest, rest, ← policy]
  exact ⟨State.lockStat_pend _ _, State.lockStat_cause _⟩

/-! ### SERVICE ends the session and erases the keys -/

/-- Key slot `k` is erased. -/
def State.eraseKey (s : State) (k : Nat) : State := s.setKey k { state := .erased, key := [] }

/-- Key slots 1 to 6 are erased (R457). -/
def State.eraseKeys (s : State) : State := [1, 2, 3, 4, 5, 6].foldl State.eraseKey s

theorem State.eraseKeys_staff (s : State) : s.eraseKeys.staff = s.staff :=
  foldl_keeps State.staff (f := State.eraseKey) (fun _ _ => rfl) [1, 2, 3, 4, 5, 6] s

theorem State.setKey_key_self {s : State} {k : Nat} (h : k < s.keys.length) (x : KeySlot) : (s.setKey k x).key k = x := by
  simp [State.key, State.setKey, h]

theorem State.setKey_key_ne (s : State) {j k : Nat} (h : k ≠ j) (x : KeySlot) : (s.setKey j x).key k = s.key k := by
  simp [State.key, State.setKey, List.getD_eq_getElem?_getD, List.getElem?_set_ne h.symm]

theorem State.setKey_length (s : State) (k : Nat) (x : KeySlot) : (s.setKey k x).keys.length = s.keys.length := List.length_set

/-- Slot `k` is erased, when there is one. -/
def State.Erased (s : State) (k : Nat) : Prop := k < s.keys.length → (s.key k).state = .erased

theorem State.erased_eraseKey (s : State) (k : Nat) : (s.eraseKey k).Erased k := fun h => by
  rw [State.eraseKey, State.setKey_key_self (s.setKey_length k _ ▸ h)]

theorem State.Erased.eraseKey {s : State} {k : Nat} (h : s.Erased k) (j : Nat) : (s.eraseKey j).Erased k := by
  by_cases e : k = j
  · subst e
    exact s.erased_eraseKey k
  · intro hk
    rw [State.eraseKey, s.setKey_key_ne e]
    exact h (s.setKey_length j _ ▸ hk)

theorem State.eraseKeys_erased (s : State) {k : Nat} (h1 : 1 ≤ k) (h7 : k < 7) : s.eraseKeys.Erased k :=
  foldl_establishes (f := State.eraseKey) (P := fun s => s.Erased k)
    (by simp only [List.mem_cons, List.not_mem_nil, or_false]; omega) (fun s => s.erased_eraseKey k) (fun _ j h => h.eraseKey j) s

theorem State.eraseKeys_length (s : State) : s.eraseKeys.keys.length = s.keys.length :=
  foldl_keeps (fun s : State => s.keys.length) (f := State.eraseKey) (fun s k => s.setKey_length k _) [1, 2, 3, 4, 5, 6] s

/-- What SERVICE changes beside the session and the keys. -/
def Frame.seeds : Frame where
  upd t s := { s with regs := t.regs, drbgs := t.drbgs, mem := t.mem, ecc := t.ecc, otp := t.otp }
  self _ := rfl
  twice _ _ _ := rfl
  regs _ _ := rfl

theorem State.serviceErase_seeds (s : State) : Frame.seeds.Only (fun _ => True) s.eraseKeys s.serviceErase := by
  unfold State.serviceErase
  extract_lets s1 d s2
  have h2 : Frame.seeds.Only (fun _ => True) s1 s2 := by
    refine .foldl (fun _ _ _ h => Frame.Only.setFld ?_ _ _ trivial) .refl
    exact h.put rfl rfl
  exact .foldl (fun _ _ _ h => .ite _ (h.put rfl rfl) h) (h2.setFld _ _ trivial)

theorem State.serviceErase_staff (s : State) : s.serviceErase.staff = s.staff :=
  (s.serviceErase_seeds.keep State.staff fun _ => rfl).trans s.eraseKeys_staff

theorem State.serviceErase_keys (s : State) : s.serviceErase.keys = s.eraseKeys.keys := s.serviceErase_seeds.keep State.keys fun _ => rfl

theorem State.Erased.congr {s t : State} {k : Nat} (h : s.Erased k) (e : t.keys = s.keys) : t.Erased k := by
  unfold State.Erased State.key
  rw [e]
  exact h

/-- The state in which SERVICE erases: the session has ended, and the opening is being counted. -/
def State.serviceBegun (s : State) : State :=
  let s := (s.log 5 false 0 3 6 0 0 0).logFlush.endSession
  { s with otp := { s.otp with svcpend := some s.otp.count } }

theorem State.serviceBegun_session (s : State) : s.serviceBegun.staff.sess = .closed := rfl

theorem State.serviceBegun_keys (s : State) : s.serviceBegun.keys = s.keys :=
  ((State.logFlush_logbook _).keep State.keys fun _ => rfl).trans ((s.log_logbook _ _ _ _ _ _ _ _).keep State.keys fun _ => rfl)

/-- What SERVICE does once it has erased. -/
def State.serviceCounted (s : State) : State :=
  ({ s with otp := { s.otp.counted with svcpend := none } } : State).idCount.setFld R.HMCTL R.HMCTL_HMLOCK 0

theorem State.serviceCounted_staff (s : State) : s.serviceCounted.staff = s.staff := rfl
theorem State.serviceCounted_keys (s : State) : s.serviceCounted.keys = s.keys := rfl

theorem State.serviceOpen_eq (s : State) : s.serviceOpen = s.serviceBegun.serviceErase.serviceCounted := rfl

theorem State.serviceOpen_session (s : State) : s.serviceOpen.staff.sess = .closed := by
  rw [State.serviceOpen_eq, State.serviceCounted_staff, State.serviceErase_staff, State.serviceBegun_session]

theorem State.serviceOpen_keys (s : State) : s.serviceOpen.keys = s.serviceBegun.eraseKeys.keys := by
  rw [State.serviceOpen_eq, State.serviceCounted_keys, State.serviceErase_keys]

theorem State.serviceOpen_erased (s : State) {k : Nat} (h1 : 1 ≤ k) (h7 : k < 7) (hk : k < s.keys.length) :
    (s.serviceOpen.key k).state = .erased := by
  have erased : s.serviceOpen.Erased k := (s.serviceBegun.eraseKeys_erased h1 h7).congr s.serviceOpen_keys
  refine erased ?_
  rw [State.serviceOpen_keys, State.eraseKeys_length, State.serviceBegun_keys]
  exact hk

section
variable {o s : State} (h : o.Steady s)
include h

theorem State.Steady.disarmAll (modestop : Bool) : o.Steady (s.disarmAll modestop) := by
  unfold State.disarmAll State.mapQueues
  exact h.endSlots.foldl _ fun hk => hk.upd

theorem State.Steady.stopRcs : o.Steady (s.mapRcs fun s c => s.rcStop c 3 s.now) := by
  unfold State.mapRcs State.rcStop
  exact h.foldl _ fun hk => hk.ite hk.upd

theorem State.Steady.haltAll : o.Steady s.haltAll := by
  unfold State.haltAll
  exact h.foldl _ fun hk => hk.upd

theorem State.Steady.enRepeat : o.Steady s.enRepeat := by
  unfold State.enRepeat
  exact h.ite h.enState

end

/-- Entering SAFE, LOCKOUT or SERVICE and halting every core leaves the key slots as they are. -/
theorem State.enterSafe_keys (s : State) : s.enterSafe.haltAll.enRepeat.keys = s.keys := by
  have safe : s.Steady s.safePath := State.Steady.refl.within (fun _ => rfl) (State.safePath_outputs (p := fun _ => True) s)
  have enter : s.Steady s.enterSafe := (safe.disarmAll true).stopRcs
  exact enter.haltAll.enRepeat.keys

theorem State.serviceEffects {s : State} {old : Mode} {t : Trans} {k : Nat} (h : t.target = .service) :
    (s.modeEffects old t k).staff.sess = .closed ∧
      ∀ j, 1 ≤ j → j < 7 → j < s.keys.length → ((s.modeEffects old t k).key j).state = .erased := by
  unfold State.modeEffects
  rw [h]
  refine ⟨State.serviceOpen_session _, fun j h1 h7 hj => State.serviceOpen_erased _ h1 h7 ?_⟩
  rw [State.enterSafe_keys]
  exact hj

/-! ### NIGHT -/

/-- The main domain goes off with what `x` leaves in the Logbook's buffer. -/
def State.asleep (x : State) (en : Enward) : State := { x.toNight with en := en, hall := { x.toNight.hall with sleepDue := true } }

/-- What was pending has been programmed. -/
def State.programmed (s : State) (t : Trans) : State :=
  (s.mrFlush.log t.path.1 t.path.2.1 t.path.2.2 2 0 R.MODESTAT (s.rd R.MODESTAT).toNat (16 * s.mode.code + 256 * t.req.code)).logFlush

/-- The Enward of a participant announces NIGHT in one more cycle (R380). -/
def State.farewell (s : State) : Enward :=
  if s.enJoined then { s.en with farewell := true, pubs := [], ringA := .reset, ringB := .reset } else .reset

/-- NIGHT follows the safe path. -/
def State.nightAfter (s : State) (t : Trans) : State := (s.programmed t).asleep (s.programmed t).farewell

theorem State.completeNight_eq (s : State) (t : Trans) : s.completeNight t = s.safePath.nightAfter t := by
  unfold State.completeNight State.nightAfter State.programmed State.asleep State.farewell
  rfl

theorem State.asleep_night (x : State) (en : Enward) : (x.asleep en).mode = .night ∧ (x.asleep en).hall.sleepDue = true ∧
    (x.asleep en).mrq = [] ∧ (x.asleep en).logQ = x.logQ ∧ (x.asleep en).lines = (x.resetUnits false).lines := ⟨rfl, rfl, rfl, rfl, rfl⟩

/-- What holds once NIGHT has been entered. -/
theorem State.nightAfter_night (s : State) (t : Trans) : (s.nightAfter t).mode = .night ∧ (s.nightAfter t).hall.sleepDue = true ∧
    (s.nightAfter t).mrq = [] ∧ (s.nightAfter t).logQ = [] ∧ (s.nightAfter t).LinesSafe := by
  have logQ : (s.programmed t).logQ = [] := State.logFlush_logQ _
  unfold State.nightAfter
  generalize (s.programmed t).farewell = en
  generalize s.programmed t = x at logQ
  obtain ⟨mode, sleep, mrq, kept, lines⟩ := x.asleep_night en
  exact ⟨mode, sleep, mrq, kept.trans logQ, (x.resetUnits_linesSafe false).congr lines⟩

/-! ### The statement -/

section
variable {p : Nat → Prop} {s t : State}

theorem Frame.Only.mode_effects (h : Frame.effects.Only p s t) : t.mode = s.mode := h.keep State.mode fun _ => rfl
theorem Frame.Only.trans_effects (h : Frame.effects.Only p s t) : t.trans = s.trans := h.keep State.trans fun _ => rfl
theorem Frame.Only.estopN_effects (h : Frame.effects.Only p s t) : t.estopN = s.estopN := h.keep State.estopN fun _ => rfl
theorem Frame.Only.coreList_effects (h : Frame.effects.Only p s t) : t.coreList = s.coreList := h.keep State.coreList fun _ => rfl

theorem Frame.Only.mode_announcing (h : Frame.announcing.Only p s t) : t.mode = s.mode := h.keep State.mode fun _ => rfl
theorem Frame.Only.trans_announcing (h : Frame.announcing.Only p s t) : t.trans = s.trans := h.keep State.trans fun _ => rfl
theorem Frame.Only.estopN_announcing (h : Frame.announcing.Only p s t) : t.estopN = s.estopN := h.keep State.estopN fun _ => rfl
theorem Frame.Only.lines_announcing (h : Frame.announcing.Only p s t) : t.lines = s.lines := h.keep State.lines fun _ => rfl
theorem Frame.Only.slots_announcing (h : Frame.announcing.Only p s t) : t.slots = s.slots := h.keep State.slots fun _ => rfl
theorem Frame.Only.cores_announcing (h : Frame.announcing.Only p s t) : t.cores = s.cores := h.keep State.cores fun _ => rfl
theorem Frame.Only.staff_announcing (h : Frame.announcing.Only p s t) : t.staff = s.staff := h.keep State.staff fun _ => rfl
theorem Frame.Only.keys_announcing (h : Frame.announcing.Only p s t) : t.keys = s.keys := h.keep State.keys fun _ => rfl

end

/-- The state whose effects have been made, and that is still to be announced. -/
def State.effected (u : State) (t : Trans) : State := (u.beginning t).modeEffects u.mode t u.now

section
variable (u : State) (t : Trans)

theorem State.effected_effects : Frame.effects.Only effectReg (u.beginning t) (u.effected t) := State.modeEffects_effects _ _ _ _

theorem State.completed_announcing : Frame.announcing.Only announceReg (u.effected t) (u.completed t) := State.announce_only _ _ _

theorem State.completed_mode : (u.completed t).mode = t.target :=
  (u.completed_announcing t).mode_announcing.trans ((u.effected_effects t).mode_effects.trans (u.beginning_mode t))

theorem State.completed_trans : (u.completed t).trans = none :=
  (u.completed_announcing t).trans_announcing.trans ((u.effected_effects t).trans_effects.trans (u.beginning_trans t))

theorem State.completed_estopN : (u.completed t).estopN = u.estopN :=
  (u.completed_announcing t).estopN_announcing.trans ((u.effected_effects t).estopN_effects.trans (u.beginning_estopN t))

/-- MODESTAT and LOCKSTAT lie apart from what an announcement writes. -/
theorem not_announceReg {a : Nat} (h : a = R.MODESTAT ∨ a = R.LOCKSTAT) : ¬announceReg a := by
  rintro (⟨l, hl, e⟩ | ⟨l, hl, e⟩ | e | e | e)
  all_goals
    simp only [R.MODESTAT, R.LOCKSTAT, R.WDSTAT, R.IRQCNT, R.IRQLOST, R.LBSTAT, R.LBSEQ] at h e
    omega

theorem State.completed_modestat :
    (u.completed t).rd R.MODESTAT = BitVec.ofNat 32 (t.target.code + 16 * u.mode.code + 256 * t.req.code) :=
  ((u.completed_announcing t).rd (not_announceReg (.inl rfl))).trans
    (((u.effected_effects t).rd fun h => h.1 rfl).trans (u.beginning_modestat t))

theorem State.beginning_coreList : (u.beginning t).coreList = u.coreList := by
  unfold State.coreList
  rw [u.beginning_variant]

theorem State.completed_modechg {l : Nat} (hl : l ∈ u.coreList) :
    (u.completed t).fld (R.IRQCNT (0x98 + l)) R.IRQCNT_COUNT = min 15 (u.fld (R.IRQCNT (0x98 + l)) R.IRQCNT_COUNT + 1) := by
  have lt := (State.mem_coreList.1 hl).1
  have cores : (u.effected t).coreList = u.coreList := (u.effected_effects t).coreList_effects.trans (u.beginning_coreList t)
  have begins : (u.beginning t).rd (R.IRQCNT (0x98 + l)) = u.rd (R.IRQCNT (0x98 + l)) := by
    refine u.beginning_rd t ?_ ?_
    · simp only [R.IRQCNT, R.MODESTAT]
      omega
    · simp only [entryReg, R.IRQCNT, R.EVFEN, R.DAWNSTAT]
      omega
  have effected : (u.effected t).rd (R.IRQCNT (0x98 + l)) = (u.beginning t).rd (R.IRQCNT (0x98 + l)) := by
    refine (u.effected_effects t).rd fun h => ?_
    simp only [effectReg, R.IRQCNT] at h
    omega
  have same : (u.effected t).fld (R.IRQCNT (0x98 + l)) R.IRQCNT_COUNT = u.fld (R.IRQCNT (0x98 + l)) R.IRQCNT_COUNT :=
    congrArg R.IRQCNT_COUNT.get (effected.trans begins)
  rw [← same]
  exact State.announce_modechg (cores ▸ hl) _ _

end

section
variable {u : State} {t : Trans}

theorem State.completed_run (h : t.target = .run) (ho : u.mode ≠ .hold) {l : Nat} (hl : l < 64) :
    ((u.completed t).line l).safed = false ∧ ((u.completed t).line l).fd.a.lvl = decide (R.EVCFG_SAFE.get (u.eff (R.EVCFG l)) = 1) := by
  have line : (u.completed t).line l = (u.effected t).line l := by
    unfold State.line
    rw [(u.completed_announcing t).lines_announcing]
  have run : u.effected t = (u.beginning t).outputsRun u.now := by
    unfold State.effected State.modeEffects
    rw [h]
    exact if_neg (by simp [ho])
  rw [line, run, ← u.beginning_eff h hl]
  exact State.outputsRun_line _ _ hl

theorem State.completed_allSafe (h : t.target ∈ [Mode.safe, .lockout, .service]) : (u.completed t).AllSafe :=
  (State.modeEffects_allSafe (u.beginning t) u.mode u.now h).congr (u.completed_announcing t).lines_announcing
    (u.completed_announcing t).slots_announcing

theorem State.completed_shop (h : t.target = .safe) {l : Nat} (hl : l ∈ u.coreList) : ((u.completed t).core l).shopHalted = true := by
  have e : (u.completed t).core l = (u.effected t).core l := by
    unfold State.core
    rw [(u.completed_announcing t).cores_announcing]
  rw [e]
  exact State.safeEffects_core h (u.beginning_coreList t ▸ hl)

theorem State.completed_lockstat (h : t.target = .lockout) :
    (u.completed t).fld R.LOCKSTAT R.LOCKSTAT_PEND = 1 ∧ (1 ≤ t.cause → t.cause < 9 →
      (u.completed t).fld R.LOCKSTAT R.LOCKSTAT_CAUSE = t.cause ∧
      (u.completed t).fld R.LOCKSTAT R.LOCKSTAT_CLROK = u.fld R.GPOLICY R.GPOLICY_CLR / 2 ^ (t.cause - 1) % 2) := by
  have same (f : F) : (u.completed t).fld R.LOCKSTAT f = (u.effected t).fld R.LOCKSTAT f :=
    (u.completed_announcing t).fld f (not_announceReg (.inr rfl))
  have policy : (u.beginning t).fld R.GPOLICY R.GPOLICY_CLR = u.fld R.GPOLICY R.GPOLICY_CLR :=
    congrArg R.GPOLICY_CLR.get (u.beginning_rd t (by decide) (by decide))
  rw [same, same, same, ← policy]
  exact State.lockoutEffects_lockstat h

theorem State.completed_service (h : t.target = .service) : (u.completed t).staff.sess = .closed ∧
    ∀ k, 1 ≤ k → k < 7 → k < u.keys.length → ((u.completed t).key k).state = .erased := by
  have keys (k : Nat) : (u.completed t).key k = (u.effected t).key k := by
    unfold State.key
    rw [(u.completed_announcing t).keys_announcing]
  obtain ⟨session, erased⟩ := State.serviceEffects (s := u.beginning t) (old := u.mode) (k := u.now) h
  rw [(u.completed_announcing t).staff_announcing]
  refine ⟨session, fun k h1 h7 hk => ?_⟩
  rw [keys]
  exact erased k h1 h7 (u.beginning_keys t ▸ hk)

end

/-- The boundary that falls at a transition. -/
def State.atTransition (s : State) : State := if s.clocks then s.atBoundary else s

theorem State.atTransition_steady (s : State) : s.Steady s.atTransition := State.Steady.refl.atBoundary.ite .refl

theorem State.atTransition_coreList (s : State) : s.atTransition.coreList = s.coreList := by
  have k : s.Keeps s.atTransition := State.Keeps.refl.atBoundary.ite .refl
  unfold State.coreList
  rw [k.variantEq]

theorem State.modeTransition_complete {s : State} {t : Trans} (h : s.trans = some t) (he : s.estopN = true) (hn : t.target ≠ .night) :
    s.modeTransition = s.atTransition.completed t := by
  have estop : (s.atTransition.completed t).estopN = true := (s.atTransition.completed_estopN t).trans (s.atTransition_steady.estopN.trans he)
  have e : s.modeTransition = s.atTransition.complete t s.atTransition.now := by
    unfold State.modeTransition
    rw [h]
    exact if_neg (by simp [hn])
  rw [e, State.complete_eq, estop]
  rfl

theorem State.modeTransition_night {s : State} {t : Trans} (h : s.trans = some t) (hn : t.target = .night) :
    s.modeTransition = s.atTransition.safePath.nightAfter t := by
  rw [← State.completeNight_eq]
  unfold State.modeTransition
  rw [h]
  exact if_pos (by rw [hn]; rfl)

/-- Settles O22, by the completion of the transition and the effects of its target. -/
theorem transitionsComplete : Obligations.TransitionsComplete := by
  intro s u
  refine ⟨fun tr ht he hn => ?_, fun tr ht hn => ?_, fun ht => ?_, fun hs => ?_, fun hs => ?_⟩
  · refine .of_done (congrArg (done s) (State.modeTransition_complete ht he hn)) fun t hr => ?_
    have steady : s.Steady u := s.atTransition_steady
    have core {l : Nat} (h : s.variant.hasCore l = true) : l ∈ u.coreList := by
      rw [show u.coreList = s.coreList from s.atTransition_coreList]
      refine State.mem_coreList.2 ⟨?_, h⟩
      have le : l ≤ s.variant.nInd := of_decide_eq_true h
      have : s.variant.nInd ≤ 4 := by cases s.variant <;> decide
      omega
    have stat : t.rd R.MODESTAT = _ := (hr.rd (by decide)).trans (u.completed_modestat tr)
    rw [steady.mode] at stat
    refine ⟨hr.mode.trans (u.completed_mode tr), hr.trans.trans (u.completed_trans tr), stat, fun l hl => ?_, fun h ho l hl => ?_,
      fun h => ?_, fun h l hl => ?_, fun h => ?_, fun h => ?_⟩
    · refine (hr.fld _ (.inl ?_)).trans (u.completed_modechg tr (core hl))
      have := (State.mem_coreList.1 (core hl)).1
      simp only [R.IRQCNT]
      omega
    · rw [hr.line l]
      exact State.completed_run h (steady.mode ▸ ho) hl
    · have safe := (State.completed_allSafe (u := u) h).congr hr.lines (hr.keep State.slots fun _ => rfl)
      exact safe
    · rw [hr.core l]
      exact State.completed_shop h (core hl)
    · have same (f : F) : t.fld R.LOCKSTAT f = (u.completed tr).fld R.LOCKSTAT f := hr.fld f (by decide)
      rw [same, same, same]
      exact State.completed_lockstat h
    · obtain ⟨session, erased⟩ := State.completed_service (u := u) h
      refine ⟨(congrArg Staff.sess (hr.keep State.staff fun _ => rfl)).trans session, fun k h1 h7 hk => ?_⟩
      have key : t.key k = (u.completed tr).key k := hr.keep (State.key · k) fun _ => rfl
      rw [key]
      exact erased k h1 h7 (steady.keys ▸ hk)
  · refine .of_done (congrArg (done s) (State.modeTransition_night ht hn)) fun t hr => ?_
    obtain ⟨mode, sleep, mrq, logQ, lines⟩ := u.safePath.nightAfter_night tr
    exact ⟨hr.mode.trans mode, (congrArg Hall.sleepDue hr.hall).trans sleep, hr.mrq.trans mrq, hr.logQ.trans logQ, lines.congr hr.lines⟩
  · refine .of_done rfl ?_
    unfold State.modeTransition
    rw [ht]
  · exact .of_done rfl (if_pos hs)
  · exact .of_done rfl (if_neg (by simp [hs]))

end Sys2Proof.Machine
end

section
/-! PROOF of O47: a refutation. The statement speaks of every state, and so of one whose record of owners (R434) names a core that the
block does not have (it has 5). A window write then tells that owner what has changed at an address that is not one of STCHGADDR, and
which is the Staff port's own copy of RCSTAT. -/

namespace Sys2Proof.Machine

/-- STCHGADDR of a core 3221168001 would lie where the Staff port's copy of RCSTAT of channel 0 does. -/
theorem stchgaddr_stray_eq_rcstat : R.STCHGADDR 3221168001 = perReq Who.staff.id (R.RCSTAT 0) := rfl

/-- The Staff session is open, channel 0 has room in its TX FIFO, and its block is recorded as owned by that core. The number of an owner
is that of a core that has made an access (`State.busWrite`), but nothing that the statement asks of a state says so. -/
def State.strayOwner : State :=
  { State.reset with
    owners := [(blockOf (R.RCTX 0), (3221168001, false))]
    staff := { Staff.reset with sess := .opened } }

theorem State.strayOwner_inv : State.strayOwner.Inv := by
  refine ⟨?_, ?_⟩ <;> decide

theorem State.strayOwner_reaches : State.strayOwner.Reaches .staff (R.RCTX 0) 0 := by
  refine ⟨?_, ?_, ?_⟩ <;> decide

/-- The word is taken, and WSTAT of the Staff port is then overwritten with the address that it has changed. -/
theorem State.strayOwner_told :
    (settle .strayOwner (State.strayOwner.request .staff (R.RCTX 0) 0)).rdReq Who.staff.id (R.RCSTAT 0) = BitVec.ofNat 32 (R.RCTX 0) := by
  decide

/-- Refutes O47: in `State.strayOwner` the Staff port writes a word into a TX FIFO that has room, and does not read 0 in RCSTAT. -/
theorem not_recitationRunsItsCode : ¬ Obligations.RecitationRunsItsCode := by
  intro h
  obtain ⟨-, hregs⟩ := h .strayOwner 0 (by decide)
  obtain ⟨-, -, -, -, hroom, -⟩ := hregs .staff 0
  obtain ⟨t, e, told, -⟩ := hroom (by decide) State.strayOwner_reaches
  have ht : t.rdReq Who.staff.id (R.RCSTAT 0) = BitVec.ofNat 32 (R.RCTX 0) := Host.Outcome.next.inj e ▸ State.strayOwner_told
  exact absurd (ht.symm.trans told) (by decide)

end Sys2Proof.Machine
end

section
/-! SUPPORT. What a position source does to the timebases that it feeds, and these to their slots, leaves the channels, the mains block and the
registers of both as they were (R118, R134, R162, R369). -/

namespace Sys2Proof.Machine

/-- The timebases, their slots, and what follows the end of a slot. -/
def Frame.fed : Frame where
  upd t s := { s with regs := t.regs, tbs := t.tbs, slots := t.slots, queues := t.queues, reports := t.reports, repFirst := t.repFirst
                      enq := t.enq, en := t.en, fcOut := t.fcOut, fcMap := t.fcMap }
  self _ := rfl
  twice _ _ _ := rfl
  regs _ _ := rfl

/-- The registers of the timebases, the queues and the Enward, and the interrupts of timebases and queues. -/
@[reducible] def fedReg (a : Nat) : Prop :=
  (0x40010000 ≤ a ∧ a < 0x40010800) ∨ (0x40030000 ≤ a ∧ a < 0x40030400) ∨ (R.IRQCNT 0x20 ≤ a ∧ a < R.IRQCNT 0x80) ∨ a = R.IRQLOST ∨
    a = R.ENDROP ∨ a = R.ENFCCNT2

theorem fedReg_queue {q a : Nat} (hq : q < 16) (h : a = R.QCNT q ∨ a = R.QFAIL q) : fedReg a := by
  simp only [R.QCNT, R.QFAIL] at h
  unfold fedReg
  omega

theorem fedReg_irqcnt {n : Nat} (h : 0x20 ≤ n ∧ n < 0x80) : fedReg (R.IRQCNT n) := by
  simp only [fedReg, R.IRQCNT]
  omega

section
variable {o s : State} (h : Frame.fed.Only fedReg o s)
include h

theorem arrive_fed {n : Nat} (hn : 0x20 ≤ n ∧ n < 0x80) : Frame.fed.Only fedReg o (s.arrive n) :=
  h.arrive (fedReg_irqcnt hn) (by decide)

/-! ### Queues -/

theorem State.setQueue_fed (q : Nat) (x : Queue) : Frame.fed.Only fedReg o (s.setQueue q x) := h.put rfl rfl

section
variable {q : Nat} (hq : q < 16)
include hq

theorem count_queue_fed (f : F) : Frame.fed.Only fedReg o (s.count (R.QCNT q) f 1) := h.count f 1 (fedReg_queue hq (.inl rfl))

theorem State.haltQueue_fed (why : Nat) : Frame.fed.Only fedReg o (s.haltQueue q why) :=
  arrive_fed (State.setQueue_fed h _ _) (by omega)

theorem State.setHead_fed (n : Nat) : Frame.fed.Only fedReg o (s.setHead q n) :=
  .ite _ (arrive_fed (State.setQueue_fed h _ _) (by omega)) (State.setQueue_fed h _ _)

theorem State.freeHead_fed : Frame.fed.Only fedReg o (s.freeHead q) := by
  unfold State.freeHead
  split <;> exact .ite _ h (State.setHead_fed h hq _)

theorem State.consume_fed (code when0 : Nat) (latef rawpl disc ready : Bool) :
    Frame.fed.Only fedReg o (s.consume q code when0 latef rawpl disc ready) :=
  .ite _ ((State.setQueue_fed h _ _).put rfl rfl) (State.freeHead_fed (State.setQueue_fed h _ _) hq)

theorem State.afterConsume_fed : Frame.fed.Only fedReg o (s.afterConsume q) :=
  .ite _ h (.ite _ (count_queue_fed (State.setQueue_fed h _ _) hq _)
    (.ite _ (State.setQueue_fed h _ _) (count_queue_fed (State.setQueue_fed h _ _) hq _)))

theorem State.queueStatus_fed (status : Nat) (latef : Bool) : Frame.fed.Only fedReg o (s.queueStatus q status latef) := by
  unfold State.queueStatus
  extract_lets late skip fail
  have hl : Frame.fed.Only fedReg o late := .ite _ (count_queue_fed h hq _) h
  clear_value late
  have hs : Frame.fed.Only fedReg o skip := .ite _ (count_queue_fed hl hq _) hl
  clear_value skip
  have hf : Frame.fed.Only fedReg o fail := hs.count _ 1 (fedReg_queue hq (.inr rfl))
  exact .ite _ (.ite _ (State.haltQueue_fed hf hq _) hf) (.ite _ (State.haltQueue_fed hs hq _) hs)

end

theorem State.queueEnd_fed (i status : Nat) (ready : Bool) : Frame.fed.Only fedReg o (s.queueEnd i status ready) := by
  unfold State.queueEnd
  split
  next => exact h
  next q e =>
    have hq : q < 16 := by simpa using (mem_upFrom.1 (List.mem_of_find?_eq_some e)).2
    have hc (when0 : Nat) (latef rawpl disc : Bool) := State.consume_fed h hq status when0 latef rawpl disc ready
    refine .ite _ h (.ite _ (State.setQueue_fed h _ _) ?_)
    exact State.afterConsume_fed (.ite _ (State.queueStatus_fed (hc _ _ _ _) hq _ _) (hc _ _ _ _)) hq

/-! ### Forecasts -/

theorem State.fcSend_fed (typ tag body : Nat) : Frame.fed.Only fedReg o (s.fcSend typ tag body) := by
  unfold State.fcSend
  extract_lets m
  split
  next e =>
    unfold State.enPush at e
    obtain ⟨-, ht⟩ := Option.ite_none_right_eq_some.1 e
    cases ht
    exact h.put rfl rfl
  next =>
    have k := h.put (t := { s with en := { s.en with refused := 1 :: s.en.refused.filter (· != 1) } }) rfl rfl
    exact (k.count _ _ (by decide)).count _ _ (by decide)

theorem State.fcEnd_fed (slot tag status whenT : Nat) : Frame.fed.Only fedReg o (s.fcEnd slot tag status whenT) := by
  unfold State.fcEnd
  split
  next => exact h
  next =>
    have k := h.put (t := { s with fcOut := s.fcOut.erase (· == slot) }) rfl rfl
    exact .ite _ (State.fcSend_fed k _ _ _) (State.fcSend_fed k _ _ _)

theorem State.fcSlotEnd_fed (x : Slot) (status : Nat) : Frame.fed.Only fedReg o (s.fcSlotEnd x status) := by
  unfold State.fcSlotEnd
  split
  next => exact .ite _ (h.put rfl rfl) h
  next => exact h

/-! ### Slots -/

theorem State.endSlot_fed (i status : Nat) : Frame.fed.Only fedReg o (s.endSlot i status) :=
  State.queueEnd_fed (State.fcSlotEnd_fed (State.fcEnd_fed (h.put (t := s.freeSlot i status) rfl rfl) _ _ _ _) _ _) _ _ _

theorem State.endSlots_fed (p : Nat → Slot → Bool) (status : Nat) : Frame.fed.Only fedReg o (s.endSlots p status) :=
  .foldl (fun _ _ _ k => .ite _ (State.endSlot_fed k _ _) k) h

/-! ### Timebases -/

theorem State.setTb_fed (t : Nat) (x : Timebase) : Frame.fed.Only fedReg o (s.setTb t x) := h.put rfl rfl

theorem State.setRef_fed (t : Nat) (ref : Bool) : Frame.fed.Only fedReg o (s.setRef t ref) :=
  .ite _ (State.endSlots_fed (State.setTb_fed h _ _) _ _) (State.setTb_fed h _ _)

theorem State.putRef_fed (t : Nat) (ref : Bool) : Frame.fed.Only fedReg o (s.putRef t ref) :=
  .foldl (fun _ _ _ k => State.setRef_fed k _ _) (State.setRef_fed h _ _)

theorem State.tbSync_fed (t : Nat) : Frame.fed.Only fedReg o (s.tbSync t) := State.putRef_fed (State.setTb_fed h _ _) _ _

theorem State.jumpTo_fed (t : Nat) (w : Int) : Frame.fed.Only fedReg o (s.jumpTo t w) :=
  State.setTb_fed (State.setTb_fed (State.setTb_fed h _ _) _ _) _ _

variable {t : Nat} (ht : t < 32)
include ht

theorem State.tbStop_fed (st : TbState) (cause : Nat) : Frame.fed.Only fedReg o (s.tbStop t st cause) := by
  unfold State.tbStop
  extract_lets y stopped raised
  have k : Frame.fed.Only fedReg o stopped := State.setTb_fed h _ _
  clear_value stopped
  have kr : Frame.fed.Only fedReg o raised := .ite _ (arrive_fed (n := 0x40 + t) k (by omega)) k
  exact State.endSlots_fed kr _ _

theorem State.tbFault_fed (cause : Nat) : Frame.fed.Only fedReg o (s.tbFault t cause) := .ite _ (State.tbStop_fed h ht _ _) h

theorem State.tbOff_fed : Frame.fed.Only fedReg o (s.tbOff t) := .ite _ h (State.tbStop_fed h ht _ _)

theorem State.moveTo_fed (w : Int) : Frame.fed.Only fedReg o (s.moveTo t w) := by
  unfold State.moveTo
  extract_lets
  exact .ite _ (State.setTb_fed h _ _)
    (.ite _ (.ite _ (arrive_fed (State.setTb_fed h _ _) (by omega)) (State.setTb_fed h _ _)) (State.setTb_fed h _ _))

theorem State.setVel_fed (v : Int) : Frame.fed.Only fedReg o (s.setVel t v) :=
  .ite _ (arrive_fed (State.setTb_fed h _ _) (by omega)) (State.setTb_fed h _ _)

theorem State.feedWord_fed : Frame.fed.Only fedReg o (s.feedWord t) :=
  State.setTb_fed (State.setVel_fed (State.moveTo_fed h ht _) ht _) _ _

theorem State.feedStep_fed (up : Bool) (e : Nat) : Frame.fed.Only fedReg o (s.feedStep t up e) := by
  refine .ite _ h (State.feedWord_fed ?_ ht)
  exact .ite _ (arrive_fed (State.setTb_fed h _ _) (by omega)) (State.setTb_fed h _ _)

theorem State.applyEst_fed (est : Int) : Frame.fed.Only fedReg o (s.applyEst t est) := by
  unfold State.applyEst
  extract_lets
  refine .ite _ (State.setTb_fed (State.moveTo_fed h ht _) _ _) (.ite _ (State.setTb_fed h _ _) ((State.jumpTo_fed h t _).count _ _ ?_))
  simp only [fedReg, R.TBCORR]
  omega

theorem State.feedSample_fed (v : Int) (t0 : Nat) : Frame.fed.Only fedReg o (s.feedSample t v t0) := by
  refine .ite _ h (.ite _ (State.jumpTo_fed (State.setTb_fed h _ _) t _) (State.applyEst_fed ?_ ht _))
  exact State.setVel_fed (State.setTb_fed h _ _) ht _

end

/-! ### The local timebases of a channel -/

theorem State.mem_fedBy {s : State} {ch t : Nat} : t ∈ s.fedBy ch ↔ t < 16 ∧ s.variant.hasTb t = true ∧ (s.tb t).src = ch := by
  simp [State.fedBy, mem_upFrom]

/-- A pass over the timebases that a channel feeds. -/
theorem foldl_fed {s : State} {ch : Nat} {l : State} {f : State → Nat → State}
    (hf : ∀ {s : State} {t : Nat}, t < 32 → Frame.fed.Only fedReg l s → Frame.fed.Only fedReg l (f s t)) (h : Frame.fed.Only fedReg l s)
    (u : State) : Frame.fed.Only fedReg l ((u.fedBy ch).foldl f s) :=
  .foldl (fun _ _ ht k => hf (Nat.lt_trans (State.mem_fedBy.1 ht).1 (by decide)) k) h

section
variable {p : Nat → Prop} {s t : State} (h : Frame.fed.Only p s t)
include h

theorem Frame.Only.chan_fed (ch : Nat) : t.chan ch = s.chan ch := h.keep (State.chan · ch) fun _ => rfl
theorem Frame.Only.mains_fed : t.mains = s.mains := h.keep State.mains fun _ => rfl

end

/-! ### A timebase that faults -/

theorem State.endSlots_tb (s : State) (p : Nat → Slot → Bool) (st i : Nat) : (s.endSlots p st).tb i = s.tb i := by
  have h : Frame.units.Only unwatched s (s.endSlots p st) := .foldl (fun s j _ k => .ite _ (k.trans (s.endSlot_units j st)) k) .refl
  exact h.keep (State.tb · i) fun _ => rfl

theorem State.arrive_tb (s : State) (n i : Nat) : (s.arrive n).tb i = s.tb i := by
  have h : Frame.onRegs.Only (fun _ => True) s (s.arrive n) := Frame.Only.refl.arrive trivial trivial
  exact h.keep (State.tb · i) fun _ => rfl

/-- A timebase that leaves RUN holds its word with no velocity (R118). -/
def Timebase.left (x : Timebase) (st : TbState) (cause now : Nat) : Timebase :=
  { x.stopped now with state := st, cause := cause, hold := false }

theorem State.tbStop_tb_self (s : State) (t : Nat) (st : TbState) (cause : Nat) :
    (s.tbStop t st cause).tb t = (s.tb t).left st cause s.now := by
  unfold State.tbStop
  rw [State.endSlots_tb]
  split
  · rw [State.arrive_tb, State.setTb_tb_self]; rfl
  · rw [State.setTb_tb_self]; rfl

theorem State.tbStop_tb_ne (s : State) {t i : Nat} (st : TbState) (cause : Nat) (h : i ≠ t) : (s.tbStop t st cause).tb i = s.tb i := by
  unfold State.tbStop
  rw [State.endSlots_tb]
  split
  · rw [State.arrive_tb, State.setTb_tb_ne _ _ _ _ h]
  · rw [State.setTb_tb_ne _ _ _ _ h]

theorem State.tbFault_tb_self {s : State} {t : Nat} (cause : Nat) (h : (s.tb t).state = .run) :
    (s.tbFault t cause).tb t = (s.tb t).left .fault cause s.now := by
  rw [State.tbFault, if_pos h, State.tbStop_tb_self]

theorem State.tbFault_tb_ne (s : State) {t i : Nat} (cause : Nat) (h : i ≠ t) : (s.tbFault t cause).tb i = s.tb i := by
  unfold State.tbFault
  split
  · exact s.tbStop_tb_ne _ _ h
  · rfl

theorem State.tbFault_of_not_run {s : State} {t : Nat} (cause : Nat) (h : (s.tb t).state ≠ .run) : s.tbFault t cause = s := if_neg h

theorem State.tbOff_tb (s : State) (t : Nat) : ((s.tbOff t).tb t).state = .off ∧ ((s.tbOff t).tb t).word = (s.tb t).word := by
  unfold State.tbOff
  split
  next h => exact ⟨h, rfl⟩
  next => rw [State.tbStop_tb_self]; exact ⟨rfl, rfl⟩

/-- Each timebase of the pass that runs has faulted after it, and holds its word. -/
theorem State.foldl_tbFault_tb {s : State} {l : List Nat} {i : Nat} (cause : Nat) (hi : i ∈ l) (hrun : (s.tb i).state = .run) :
    ∃ now, (l.foldl (fun s t => s.tbFault t cause) s).tb i = (s.tb i).left .fault cause now := by
  have after (l : List Nat) (s : State) (h : (s.tb i).state ≠ .run) : (l.foldl (fun s t => s.tbFault t cause) s).tb i = s.tb i := by
    induction l generalizing s with
    | nil => rfl
    | cons t l ih =>
      have e : (s.tbFault t cause).tb i = s.tb i := by
        by_cases ht : i = t
        · rw [State.tbFault_of_not_run _ (ht ▸ h)]
        · exact s.tbFault_tb_ne _ ht
      rw [List.foldl_cons, ih _ (by rwa [e]), e]
  induction l generalizing s with
  | nil => cases hi
  | cons t l ih =>
    rw [List.foldl_cons]
    by_cases ht : i = t
    · subst ht
      have e := State.tbFault_tb_self cause hrun
      exact ⟨s.now, (after l _ (by rw [e]; exact nofun)).trans e⟩
    · have e := s.tbFault_tb_ne cause ht
      rw [← e] at hrun ⊢
      exact ih ((List.mem_cons.1 hi).resolve_left ht) hrun

/-! ### Interrupts that arrive -/

/-- An arrival at a source that the variant has counts up to 15 (R305). -/
theorem State.fld_arrive_self {s : State} {n : Nat} (h : s.hasSrc n = true) (hn : R.IRQCNT n ≠ R.IRQLOST) :
    (s.arrive n).fld (R.IRQCNT n) R.IRQCNT_COUNT = min 15 (s.fld (R.IRQCNT n) R.IRQCNT_COUNT + 1) := by
  have lt : s.fld (R.IRQCNT n) R.IRQCNT_COUNT < 2 ^ 4 := s.fld_lt _ _
  unfold State.arrive
  rw [if_pos h]
  split
  next hlt =>
    rw [State.fld_setFld_self _ _ _ _ (by decide), show R.IRQCNT_COUNT.w = 4 from rfl]
    omega
  next hge =>
    rw [State.fld_count_ne _ _ _ _ hn, State.fld_setFld_apart _ _ _ (.inl (by decide))]
    omega

theorem State.fld_arrive_ne (s : State) {n a : Nat} (f : F) (h : a ≠ R.IRQCNT n ∧ a ≠ R.IRQLOST) : (s.arrive n).fld a f = s.fld a f := by
  have k : State.RegsAt (fun b => b = R.IRQCNT n ∨ b = R.IRQLOST) s (s.arrive n) := Frame.Only.refl.arrive (.inl rfl) (.inr rfl)
  exact k.fld f (by simpa using h)

theorem State.arrive_chan (s : State) (n ch : Nat) : (s.arrive n).chan ch = s.chan ch := by
  have h : Frame.onRegs.Only (fun _ => True) s (s.arrive n) := Frame.Only.refl.arrive trivial trivial
  exact h.keep (State.chan · ch) fun _ => rfl

end Sys2Proof.Machine
end

section
/-! SUPPORT. The fault of a position channel (R75, R118), and lists by number. -/

namespace Sys2Proof.Machine

theorem Variant.nLocal_le (v : Variant) : v.nLocal ≤ 16 := by cases v <;> decide

theorem getD_map_upFrom {α : Type} (f : Nat → α) (d : α) {n i : Nat} (h : i < n) : ((upFrom 0 n).map f).getD i d = f i := by
  have hl : i < (upFrom 0 n).length := by rwa [upFrom_length]
  simp [List.getD_eq_getElem?_getD, List.getElem?_map, List.getElem?_eq_getElem hl, upFrom_getElem]

/-- The least number that `p` holds of is found first. -/
theorem find?_upFrom {p : Nat → Bool} {a n i : Nat} (h : a ≤ i ∧ i < a + n) (hi : p i = true) (first : ∀ j, a ≤ j → j < i → p j = false) :
    (upFrom a n).find? p = some i := by
  induction n generalizing a with
  | zero => omega
  | succ n ih =>
    by_cases e : a = i
    · simp [upFrom, e, hi]
    · simp only [upFrom, List.find?, first a (Nat.le_refl _) (by omega)]
      exact ih (by omega) fun j hj => first j (by omega)

/-! ### A channel and its registers after a command -/

theorem Raised.chan {u t : State} (h : Raised u t) (ch : Nat) : t.chan ch = u.chan ch := h.keep (State.chan · ch) fun _ => rfl
theorem Raised.tb {u t : State} (h : Raised u t) (i : Nat) : t.tb i = u.tb i := h.keep (State.tb · i) fun _ => rfl

/-- The registers of the positions are below those of the interrupts. -/
theorem Raised.fld_pos {u t : State} (h : Raised u t) {a : Nat} (f : F) (ha : a < 0x40020000) : t.fld a f = u.fld a f :=
  h.fld f (.inl (by omega))

/-- Where the registers of a channel's block lie. -/
theorem Variant.chanBlock_lt {v : Variant} {ch base : Nat} (h : ch < v.nLocal) (hb : base < 0x40018080) : base + 0x80 * ch < 0x40020000 := by
  have := v.nLocal_le
  omega

theorem Variant.pcerr_lt {v : Variant} {ch : Nat} (h : ch < v.nLocal) : R.PCERR ch < 0x40020000 :=
  Variant.chanBlock_lt (base := 0x40018018) h (by decide)

theorem Variant.pcidxctl_lt {v : Variant} {ch : Nat} (h : ch < v.nLocal) : R.PCIDXCTL ch < 0x40020000 :=
  Variant.chanBlock_lt (base := 0x40018020) h (by decide)

theorem State.advance_local {s : State} {ch : Nat} (h : ch < s.variant.nLocal) (k : Nat) : ch < (s.advance k).variant.nLocal := by
  rwa [(State.Keeps.advance .refl).variantEq]

/-! ### The fault of a channel -/

theorem State.hasSrc_chan {s : State} {ch : Nat} (h : ch < s.variant.nLocal) : s.hasSrc ch = true := by
  have := s.variant.nLocal_le
  unfold State.hasSrc
  rw [if_pos (by omega), Nat.mod_eq_of_lt (by omega)]
  exact decide_eq_true h

theorem State.fedBy_congr {s t : State} (hv : t.variant = s.variant) (ht : t.tbs = s.tbs) (ch : Nat) : t.fedBy ch = s.fedBy ch := by
  simp only [State.fedBy, State.tb, hv, ht]

section
variable {s : State} {ch cause : Nat} (h : (s.chan ch).state ∈ [ChState.sync, .track])
include h

/-- The channel has stopped, before the timebases that it feeds. -/
theorem State.chFault_eq : s.chFault ch cause =
    (s.fedBy ch).foldl (fun s t => s.tbFault t 1) ((s.setChan ch { s.chan ch with state := .fault, cause := cause }).arrive ch) := by
  have hs : (s.chan ch).state = .sync ∨ (s.chan ch).state = .track := by simpa using h
  unfold State.chFault
  extract_lets x s'
  rw [if_pos hs, State.fedBy_congr (s := s) (t := s')]
  · exact Frame.Only.keep (Frame.Only.refl.arrive (p := fun _ => True) trivial trivial : Frame.onRegs.Only _ _ s') State.variant fun _ => rfl
  · exact Frame.Only.keep (Frame.Only.refl.arrive (p := fun _ => True) trivial trivial : Frame.onRegs.Only _ _ s') State.tbs fun _ => rfl

theorem State.chFault_only : Frame.fed.Only fedReg ((s.setChan ch { s.chan ch with state := .fault, cause := cause }).arrive ch)
    (s.chFault ch cause) := by
  rw [State.chFault_eq h]
  exact foldl_fed (fun ht k => State.tbFault_fed k ht _) .refl s

theorem State.chFault_chan : (s.chFault ch cause).chan ch = { s.chan ch with state := .fault, cause := cause } := by
  rw [(State.chFault_only h).chan_fed, State.arrive_chan, State.setChan_chan_self]

theorem State.chFault_fld {a : Nat} (f : F) (ha : ¬fedReg a ∧ a ≠ R.IRQCNT ch ∧ a ≠ R.IRQLOST) : (s.chFault ch cause).fld a f = s.fld a f := by
  rw [(State.chFault_only h).fld f ha.1, State.fld_arrive_ne _ _ ha.2]
  rfl

/-- A channel in SYNC or TRACK that meets a cause enters FAULT in all that R75 and R118 say. -/
theorem State.chFault_faulted (hch : ch < s.variant.nLocal) : ChannelFaulted s (s.chFault ch cause) ch cause := by
  have h16 := s.variant.nLocal_le
  have hc := State.chFault_chan (cause := cause) h
  refine ⟨by rw [hc], by rw [hc], by rw [hc], ?_, fun i hi hv hsrc hrun => ?_⟩
  · rw [(State.chFault_only h).fld _ (by simp only [fedReg, R.IRQCNT, R.IRQLOST, R.ENDROP, R.ENFCCNT2]; omega), State.fld_arrive_self]
    · rfl
    · exact State.hasSrc_chan hch
    · simp only [R.IRQCNT, R.IRQLOST]; omega
  · have mem : i ∈ s.fedBy ch := State.mem_fedBy.2 ⟨hi, hv, hsrc⟩
    obtain ⟨now, e⟩ := State.foldl_tbFault_tb
      (s := (s.setChan ch { s.chan ch with state := .fault, cause := cause }).arrive ch) 1 mem (by rw [State.arrive_tb]; exact hrun)
    rw [State.chFault_eq h, e, State.arrive_tb]
    exact ⟨rfl, rfl, rfl, rfl⟩

end

theorem State.chFault_of_not {s : State} {ch cause : Nat} (h : (s.chan ch).state ∉ [ChState.sync, .track]) : s.chFault ch cause = s :=
  if_neg (by simpa using h)

/-- A fault says the same of an earlier state with the same count, interrupts of the channel, and timebases, and of a later one in which
other interrupts have been raised. -/
theorem ChannelFaulted.mono {u s t t' : State} {ch cause : Nat} (h : ChannelFaulted s t ch cause) (hch : ch < u.variant.nLocal)
    (count : (s.chan ch).count = (u.chan ch).count) (irq : s.fld (R.IRQCNT ch) R.IRQCNT_COUNT = u.fld (R.IRQCNT ch) R.IRQCNT_COUNT)
    (hv : s.variant = u.variant) (tbs : s.tbs = u.tbs) (ht : Raised t t') : ChannelFaulted u t' ch cause := by
  obtain ⟨hs, hc, hn, hi, hb⟩ := h
  have h16 := u.variant.nLocal_le
  have chan : t'.chan ch = t.chan ch := ht.chan ch
  have old (i : Nat) : s.tb i = u.tb i := by simp only [State.tb, tbs]
  refine ⟨by rw [chan, hs], by rw [chan, hc], by rw [chan, hn, count], ?_, fun i hlt hvi hsrc hrun => ?_⟩
  · rw [ht.fld _ (by simp only [offIrq, R.IRQCNT]; omega), hi, irq]
  · rw [ht.tb, ← old i]
    exact hb i hlt (hv ▸ hvi) (old i ▸ hsrc) (old i ▸ hrun)

end Sys2Proof.Machine
end

section
/-! PROOF of O29. Wire breaks, shorter episodes of invalid levels, and the end of a QUAD channel's SYNC. -/

namespace Sys2Proof.Machine

/-- The check of a pair is that of R73. -/
theorem State.checked_iff {s : State} {ch i : Nat} (hi : i < 3) : s.checked ch i = true ↔ s.PairChecked ch i := by
  have cases3 : i = 0 ∨ i = 1 ∨ i = 2 := by omega
  unfold State.checked State.PairChecked State.chMode
  rcases cases3 with rfl | rfl | rfl <;> simp [or_assoc]

theorem State.PairChecked.lt {s : State} {ch i : Nat} (h : s.PairChecked ch i) : i < 3 := by
  obtain ⟨-, h⟩ := h
  omega

/-! ### What a channel has read of its pairs -/

/-- The pairs as the channel has read them. -/
def Channel.reads (x : Channel) (i : Nat) (b : Bool) : Channel :=
  { x with valid := (upFrom 0 3).map (fun j => if j = i then b else x.valid.getD j false) }

theorem Channel.reads_getD (x : Channel) {i j : Nat} (b d : Bool) (hj : j < 3) :
    (x.reads i b).valid.getD j d = if j = i then b else x.valid.getD j false := getD_map_upFrom _ _ hj

theorem Channel.same_of_reads {x y : Channel} {i : Nat} {b : Bool} (h : y = x.reads i b) : y.state = x.state ∧ y.count = x.count := by
  subst h
  exact ⟨rfl, rfl⟩

theorem State.setValid_chan (s : State) (ch i : Nat) (b : Bool) : (s.setValid ch i b).chan ch = (s.chan ch).reads i b :=
  s.setChan_chan_self _ _

/-- The state in which the pairs of a list have been read invalid. -/
def State.misread (s : State) (ch : Nat) (l : List (Nat × Nat)) : State := l.foldl (fun s p => s.setValid ch p.1 false) s

section
variable (s : State) (ch : Nat) (l : List (Nat × Nat))

theorem State.misread_eq : s.misread ch l = { s with chans := (s.misread ch l).chans } := by
  induction l generalizing s with
  | nil => rfl
  | cons p l ih => exact ih (s.setValid ch p.1 false)

/-- What does not look at the channels is unchanged. -/
theorem State.misread_keep {α : Type} (g : State → α) (hg : ∀ c, g { s with chans := c } = g s) : g (s.misread ch l) = g s := by
  rw [s.misread_eq]
  exact hg _

theorem State.misread_chan : (s.misread ch l).chan ch = { s.chan ch with valid := ((s.misread ch l).chan ch).valid } := by
  induction l generalizing s with
  | nil => rfl
  | cons p l ih => exact (ih (s.setValid ch p.1 false)).trans (by rw [s.setValid_chan]; rfl)

theorem State.misread_valid {p : Nat × Nat} (hp : p ∈ l) (h3 : p.1 < 3) : ((s.misread ch l).chan ch).valid.getD p.1 true = false := by
  refine foldl_establishes (P := fun s => (s.chan ch).valid.getD p.1 true = false) hp (fun s => ?_) (fun s q h => ?_) s
  · rw [s.setValid_chan, Channel.reads_getD _ _ _ h3, if_pos rfl]
  · rw [s.setValid_chan, Channel.reads_getD _ _ _ h3]
    split
    · rfl
    · rw [List.getD_eq_getElem?_getD] at h ⊢
      cases hv : (s.chan ch).valid[p.1]? with
      | none => rfl
      | some b => simpa [hv] using h

end

/-! ### The judgement of broken pairs -/

/-- Pair `i` is checked, and is one of the list that has been invalid for WBFILT PSCLK. -/
def State.broken (s : State) (ch k : Nat) (l : List (Nat × Nat)) (i : Nat) : Bool :=
  s.checked ch i && l.any (fun p => p.1 == i && decide (p.2 + s.wbfilt ch ≤ k))

theorem State.broken_iff {s : State} {ch k i : Nat} {l : List (Nat × Nat)} (hi : i < 3) :
    s.broken ch k l i = true ↔ s.PairChecked ch i ∧ ∃ e, (i, e) ∈ l ∧ e + R.PCCTL_WBFILT.get (s.eff (R.PCCTL ch)) ≤ k := by
  simp only [State.broken, Bool.and_eq_true, State.checked_iff hi, List.any_eq_true, beq_iff_eq, decide_eq_true_eq, Prod.exists]
  constructor
  · rintro ⟨hc, _, e, hm, rfl, he⟩
    exact ⟨hc, e, hm, he⟩
  · rintro ⟨hc, e, hm, he⟩
    exact ⟨hc, i, e, hm, rfl, he⟩

/-- The first broken pair faults the channel. -/
theorem State.wireBreak_eq {s : State} {ch : Nat} (h : ch < s.variant.nLocal) (k : Nat) (l : List (Nat × Nat)) :
    s.wireBreak ch k l =
      match (upFrom 0 3).find? ((s.advance k).broken ch k l) with
      | some i => ((s.advance k).misread ch l).chFault ch (1 + i)
      | none => (s.advance k).misread ch l := by
  have hl : ¬(s.advance k).variant.nLocal ≤ ch := Nat.not_le.2 (State.advance_local h k)
  have hc (i : Nat) : ((s.advance k).misread ch l).checked ch i = (s.advance k).checked ch i :=
    State.misread_keep _ _ _ (State.checked · ch i) fun _ => rfl
  unfold State.wireBreak State.broken
  simp only [hl, if_false]
  change (match (upFrom 0 3).find? (fun i => ((s.advance k).misread ch l).checked ch i && _) with | some i => _ | none => _) = _
  simp only [hc]
  rfl

section
variable {s : State} {ch k : Nat} (hch : ch < s.variant.nLocal)
include hch

/-- WIRE_BREAK with a broken pair. -/
theorem wireBreak_faults {l : List (Nat × Nat)} (h3 : ∀ p ∈ l, p.1 < 3) {i : Nat} (hi : i < 3) (hb : (s.advance k).broken ch k l i = true)
    (first : ∀ j, j < i → (s.advance k).broken ch k l j = false) (hs : ((s.advance k).chan ch).state ∈ [ChState.sync, .track]) :
    s.Leads (.wireBreak ch k l) (fun t => ChannelFaulted (s.advance k) t ch (1 + i) ∧ ∀ p ∈ l, (t.chan ch).valid.getD p.1 true = false) := by
  have hf := find?_upFrom (p := (s.advance k).broken ch k l) (a := 0) (n := 3) ⟨Nat.zero_le i, by omega⟩ hb fun j _ => first j
  have e : exec (.wireBreak ch k l) s = done s (((s.advance k).misread ch l).chFault ch (1 + i)) := by
    change done s (s.wireBreak ch k l) = _
    rw [State.wireBreak_eq hch, hf]
  have hm := State.misread_chan (s.advance k) ch l
  have hs' : (((s.advance k).misread ch l).chan ch).state ∈ [ChState.sync, .track] := by rw [hm]; exact hs
  have hv : ((s.advance k).misread ch l).variant = (s.advance k).variant := State.misread_keep _ _ _ State.variant fun _ => rfl
  have hlocal := State.advance_local hch k
  refine .of_done e fun t ht => ⟨?_, fun p hp => ?_⟩
  · refine (State.chFault_faulted hs' (by rwa [hv])).mono hlocal (by rw [hm]) ?_ hv ?_ ht
    · exact State.misread_keep _ _ _ (State.fld · _ _) fun _ => rfl
    · exact State.misread_keep _ _ _ State.tbs fun _ => rfl
  · rw [ht.chan, State.chFault_chan hs']
    exact State.misread_valid _ _ _ hp (h3 p hp)

/-- WIRE_BREAK with none. -/
theorem wireBreak_keeps {l : List (Nat × Nat)} (h3 : ∀ p ∈ l, p.1 < 3) (hb : ∀ i, i < 3 → (s.advance k).broken ch k l i = false) :
    s.Leads (.wireBreak ch k l) (fun t => ((t.chan ch).state = ((s.advance k).chan ch).state ∧
      (t.chan ch).count = ((s.advance k).chan ch).count) ∧ ∀ p ∈ l, (t.chan ch).valid.getD p.1 true = false) := by
  have hf : (upFrom 0 3).find? ((s.advance k).broken ch k l) = none :=
    List.find?_eq_none.2 fun i hi => by rw [hb i (by simpa using (mem_upFrom.1 hi).2)]; exact Bool.false_ne_true
  have e : exec (.wireBreak ch k l) s = done s ((s.advance k).misread ch l) := by
    change done s (s.wireBreak ch k l) = _
    rw [State.wireBreak_eq hch, hf]
  refine .of_done e fun t ht => ?_
  rw [ht.chan]
  refine ⟨?_, fun p hp => State.misread_valid _ _ _ hp (h3 p hp)⟩
  rw [State.misread_chan]
  exact ⟨rfl, rfl⟩

/-! ### The end of an episode -/

/-- The end of an episode, by the check of its pair and its length. -/
theorem State.episodeEnd_eq (i since : Nat) :
    s.episodeEnd ch i since k =
      if (s.advance k).checked ch i = false then (s.advance k).setValid ch i true
      else if k < since + (s.advance k).wbfilt ch then ((s.advance k).setValid ch i true).count (R.PCERR ch) R.PCERR_WBGLITCH 1
      else ((s.advance k).setValid ch i true).chFault ch (1 + i) := by
  have hl : ¬(s.advance k).variant.nLocal ≤ ch := Nat.not_le.2 (State.advance_local hch k)
  unfold State.episodeEnd
  simp only [hl, if_false, Bool.not_eq_true']

end

/-- After the end of an episode its pair is valid. -/
theorem episodeEnd_leads {s u : State} {ch k i since : Nat} (hi : i < 3) {P : State → Prop} (e : s.episodeEnd ch i since k = u)
    (hv : (u.chan ch).valid = (((s.advance k).chan ch).reads i true).valid) (hP : ∀ t, Raised u t → P t) :
    s.Leads (.invalidEpisodeEnd ch i since k) (fun t => (t.chan ch).valid.getD i false = true ∧ P t) := by
  refine .of_done (congrArg (done s) e) fun t ht => ⟨?_, hP t ht⟩
  rw [ht.chan, hv, Channel.reads_getD _ _ _ hi, if_pos rfl]

/-! ### SYNC ends -/

theorem State.syncComplete_eq (s : State) (ch k : Nat) :
    s.syncComplete ch k =
      let u := s.advance k
      if u.fld (R.PCCTL ch) R.PCCTL_MODE = 1 ∧ (u.chan ch).state = .sync ∧ (u.chan ch).syncK + 8 ≤ u.now then
        (u.setChan ch { u.chan ch with valid := (upFrom 0 3).map (fun i => (u.chan ch).valid.getD i false || u.checked ch i) }).chTrack ch
      else u := by
  unfold State.syncComplete State.chMode
  simp only [Bool.and_eq_true, beq_iff_eq, decide_eq_true_eq, and_assoc]

/-- Settles O29, command by command. -/
theorem wireChecksFaultChannels : Obligations.WireChecksFaultChannels := by
  intro s ch k hch
  have hlocal := State.advance_local hch k
  refine ⟨fun pairs h3 => ⟨fun i hb first hs => ?_, fun hb => ?_⟩, fun i since hi => ⟨fun hc hk => ?_, fun hc hk hs => ?_, fun hc => ?_⟩,
    fun hm hs => ⟨fun hk => ?_, fun hk => ?_⟩⟩
  · have hi : i < 3 := hb.1.lt
    refine wireBreak_faults hch h3 hi ((State.broken_iff hi).2 hb) (fun j hj => ?_) hs
    rw [← Bool.not_eq_true, State.broken_iff (Nat.lt_trans hj hi)]
    exact first j hj
  · refine wireBreak_keeps hch h3 fun i hi => ?_
    rw [← Bool.not_eq_true, State.broken_iff hi]
    exact hb i
  · have hc' : ¬(s.advance k).checked ch i = false := by rw [(State.checked_iff hi).2 hc]; decide
    have e := (State.episodeEnd_eq (k := k) hch i since).trans (if_neg hc')
    rw [if_pos (show k < since + (s.advance k).wbfilt ch from hk)] at e
    refine episodeEnd_leads hi e (congrArg Channel.valid (State.setValid_chan ..)) fun t ht => ?_
    have hchan : t.chan ch = ((s.advance k).chan ch).reads i true := (ht.chan ch).trans (State.setValid_chan ..)
    refine ⟨Channel.same_of_reads hchan, ?_⟩
    rw [ht.fld_pos _ (Variant.pcerr_lt hlocal), State.fld_count_self _ _ _ _ (by decide)]
    rfl
  · have hc' : ¬(s.advance k).checked ch i = false := by rw [(State.checked_iff hi).2 hc]; decide
    have e := (State.episodeEnd_eq (k := k) hch i since).trans (if_neg hc')
    rw [if_neg (show ¬k < since + (s.advance k).wbfilt ch from Nat.not_lt.2 hk)] at e
    have hs' : (((s.advance k).setValid ch i true).chan ch).state ∈ [ChState.sync, .track] := by rw [State.setValid_chan]; exact hs
    refine episodeEnd_leads hi e ?_ fun t ht => ?_
    · rw [State.chFault_chan hs', State.setValid_chan]
    · exact (State.chFault_faulted hs' hlocal).mono hlocal (by rw [State.setValid_chan]; rfl) rfl rfl rfl ht
  · have hc' : (s.advance k).checked ch i = false := by rw [← Bool.not_eq_true, State.checked_iff hi]; exact hc
    have e := (State.episodeEnd_eq (k := k) hch i since).trans (if_pos hc')
    refine episodeEnd_leads hi e (congrArg Channel.valid (State.setValid_chan ..)) fun t ht => ?_
    have hchan : t.chan ch = ((s.advance k).chan ch).reads i true := (ht.chan ch).trans (State.setValid_chan ..)
    exact ⟨Channel.same_of_reads hchan, ht.fld_pos _ (Variant.pcerr_lt hlocal)⟩
  · refine .of_done (congrArg (done s) ((s.syncComplete_eq ch k).trans (if_pos ⟨hm, hs, hk⟩))) fun t ht => ?_
    rw [ht.chan, State.chTrack, State.setChan_chan_self, State.setChan_chan_self]
    exact ⟨rfl, rfl, rfl⟩
  · exact .of_done (congrArg (done s) ((s.syncComplete_eq ch k).trans (if_neg (by omega)))) rfl

end Sys2Proof.Machine
end

section
/-! SUPPORT. Numbers brought into the range of an `n`-bit one: DIFF over a power of two is the only such number (R69, R92). -/

namespace Sys2Proof.Machine

theorem diffSpan_isWrapped (n : Nat) (a b : Int) : isWrapped n (a - b) (diffSpan (2 ^ n) a b) := by
  cases n with
  | zero => simp [isWrapped, diffSpan]
  | succ m =>
    have hp : (2 : Int) ^ (m + 1) = 2 * 2 ^ m := by rw [pow_succ, mul_comm]
    have pos : (0 : Int) < 2 ^ m := by positivity
    simp only [isWrapped, diffSpan, Nat.add_sub_cancel, Nat.cast_pow, Nat.cast_ofNat, hp]
    generalize (2 : Int) ^ m = p at pos
    have lo := Int.emod_nonneg (a - b + 2 * p / 2) (show 2 * p ≠ 0 by omega)
    have hi := Int.emod_lt_of_pos (a - b + 2 * p / 2) (show 0 < 2 * p by omega)
    have div := Int.emod_add_mul_ediv (a - b + 2 * p / 2) (2 * p)
    refine ⟨by omega, by omega, ?_⟩
    have e : (a - b + 2 * p / 2) % (2 * p) - 2 * p / 2 - (a - b) = 2 * p * -((a - b + 2 * p / 2) / (2 * p)) := by
      rw [Int.mul_neg]
      omega
    rw [e]
    exact Int.mul_emod_right _ _

theorem isWrapped.unique {n : Nat} (hn : 0 < n) {x y z : Int} (hy : isWrapped n x y) (hz : isWrapped n x z) : y = z := by
  obtain ⟨m, rfl⟩ : ∃ m, n = m + 1 := ⟨n - 1, by omega⟩
  obtain ⟨ylo, yhi, ymod⟩ := hy
  obtain ⟨zlo, zhi, zmod⟩ := hz
  have hp : (2 : Int) ^ (m + 1) = 2 * 2 ^ m := by rw [pow_succ, mul_comm]
  rw [hp] at ymod zmod
  simp only [Nat.add_sub_cancel] at ylo yhi zlo zhi
  have pos : (0 : Int) < 2 ^ m := by positivity
  generalize (2 : Int) ^ m = p at *
  obtain ⟨c, hc⟩ := (Int.dvd_of_emod_eq_zero ymod).sub (Int.dvd_of_emod_eq_zero zmod)
  have hyz : y - z = 2 * p * c := by omega
  have c0 : c = 0 := by
    by_contra h
    rcases Int.lt_or_gt_of_ne h with h | h <;> nlinarith
  rw [c0] at hyz
  omega

theorem isWrapped.eq_diffSpan {n : Nat} (hn : 0 < n) {a b d : Int} (h : isWrapped n (a - b) d) : diffSpan (2 ^ n) a b = d :=
  (diffSpan_isWrapped n a b).unique hn h

/-- In no bits at all the two differ by at most 1. -/
theorem isWrapped_zero {x d : Int} (h : isWrapped 0 x d) : d.natAbs ≤ 1 := by
  obtain ⟨lo, hi, -⟩ := h
  norm_num at lo hi
  omega

end Sys2Proof.Machine
end

section
/-! PROOF of O28. The levels of A, B and Z that the filters accept, the steps counted of A and B, and the index captures of Z. -/

namespace Sys2Proof.Machine

/-! ### The filters -/

theorem State.accepts_iff {s : State} {ch k i : Nat} :
    s.accepts ch k i = true ↔ ∀ e, (s.chan ch).accK.getD i none = some e → e + s.filtAt ch k + 1 ≤ k := by
  unfold State.accepts
  cases (s.chan ch).accK.getD i none with
  | none => simp
  | some e => simp

/-- A level is accepted when it stands, or has not changed. -/
theorem State.filtered_stood {s : State} {ch k i : Nat} {b : Bool}
    (h : b ≠ (s.chan ch).lvl.getD i false → ∀ e, (s.chan ch).accK.getD i none = some e → e + s.filtAt ch k + 1 ≤ k) :
    s.filtered ch k i b = b := by
  unfold State.filtered
  split
  · rfl
  next hn =>
    by_contra hb
    exact hn (State.accepts_iff.2 (h (Ne.symm hb)))

/-- A change that has not stood is not accepted. -/
theorem State.filtered_unstood {s : State} {ch k i : Nat} {b : Bool}
    (h : b ≠ (s.chan ch).lvl.getD i false → ¬∀ e, (s.chan ch).accK.getD i none = some e → e + s.filtAt ch k + 1 ≤ k) :
    s.filtered ch k i b = (s.chan ch).lvl.getD i false := by
  unfold State.filtered
  split
  next ha =>
    by_contra hb
    exact h hb (State.accepts_iff.1 ha)
  · rfl

/-- The state in which channel `ch` has accepted levels at edge `k`. -/
def State.levels (s : State) (ch k : Nat) (l : List Bool) : State := s.setChan ch ((s.chan ch).accept k l)

theorem State.levels_chan (s : State) (ch k : Nat) (l : List Bool) : (s.levels ch k l).chan ch = (s.chan ch).accept k l :=
  s.setChan_chan_self _ _

/-! ### Steps of A and B -/

/-- The decoding of R66 as its rows give it. -/
theorem StepRow.decoded {decode : Nat} {rev a0 b0 a b : Bool} {step : Option Bool} (h : StepRow decode rev a0 b0 a b step) :
    quadStep decode rev a0 b0 a b = step ∧ (a = a0 ∨ b = b0) := by
  cases h with
  | changeA _ _ _ ha hd => simp [quadStep, ha, hd]
  | riseA _ hd => simp [quadStep, Nat.not_lt.2 hd]
  | fallA _ hd => simp [quadStep, Nat.not_lt.2 hd]
  | changeB _ _ _ hb hd => simp [quadStep, hb, hd]
  | ignoreB _ _ _ hb hd => simp [quadStep, hd]
  | none _ _ => simp [quadStep]

section
variable {s : State} {ch k : Nat} {a0 b0 z0 a b : Bool} (hl : (s.chan ch).lvl = [a0, b0, z0])
include hl

/-- A and B change together. -/
theorem State.quadLevels_illegal (hm : s.fld (R.PCCTL ch) R.PCCTL_MODE = 1) (ha : a ≠ a0) (hb : b ≠ b0) :
    s.quadLevels ch k a b = (s.levels ch k [a, b, z0]).chFault ch 4 := by
  have hm' : s.chMode ch = 1 := hm
  simp only [State.quadLevels, hl, List.getD_cons_zero, List.getD_cons_succ]
  change (if (s.chMode ch != 1) = true then _ else if (a != a0 && b != b0) = true then (s.levels ch k [a, b, z0]).chFault ch 4 else _) = _
  simp [hm', ha, hb]

/-- Levels that are followed and count nothing. -/
theorem State.quadLevels_follow (h : s.fld (R.PCCTL ch) R.PCCTL_MODE ≠ 1 ∨ (s.chan ch).state ∉ [ChState.sync, .track] ∨
      (a = a0 ∨ b = b0) ∧ ((s.chan ch).state = .track →
        quadStep (s.fld (R.PCCTL ch) R.PCCTL_DECODE) (s.fld (R.PCCTL ch) R.PCCTL_DIR == 1) a0 b0 a b = none)) :
    s.quadLevels ch k a b = s.levels ch k [a, b, z0] := by
  simp only [State.quadLevels, hl, List.getD_cons_zero, List.getD_cons_succ]
  change (if (s.chMode ch != 1) = true then s.levels ch k [a, b, z0]
    else if (a != a0 && b != b0) = true then (s.levels ch k [a, b, z0]).chFault ch 4
    else if ((s.chan ch).state != .track) = true then s.levels ch k [a, b, z0]
    else match quadStep (s.fld (R.PCCTL ch) R.PCCTL_DECODE) (s.fld (R.PCCTL ch) R.PCCTL_DIR == 1) a0 b0 a b with
      | none => s.levels ch k [a, b, z0]
      | some up => _) = _
  split
  · rfl
  next hm =>
    have hm' : s.fld (R.PCCTL ch) R.PCCTL_MODE = 1 := by simpa [State.chMode] using hm
    have idle : (s.chan ch).state ∉ [ChState.sync, .track] → (s.levels ch k [a, b, z0]).chFault ch 4 = s.levels ch k [a, b, z0] := fun hs =>
      State.chFault_of_not (by rw [State.levels_chan]; exact hs)
    rcases h with h | h | ⟨hab, hstep⟩
    · exact absurd hm' h
    · have ht : (s.chan ch).state ≠ .track := fun e => h (by rw [e]; decide)
      simp only [idle h, bne_iff_ne, ne_eq, ht, not_false_eq_true, if_true, ite_self]
    · have hn : (a != a0 && b != b0) = false := by rcases hab with rfl | rfl <;> simp
      rw [if_neg (by rw [hn]; decide)]
      split
      · rfl
      next ht => rw [hstep (by simpa using ht)]

/-- The channel after a counted step of direction `up`. -/
def State.stepped (s : State) (ch k : Nat) (l : List Bool) (up : Bool) : Channel :=
  let x := s.chan ch
  let e := s.edgeOf ch k
  let close := match x.stepK with
    | some e0 => decide (e < e0 + 4)
    | none => false
  { x.accept k l with
    count := wrap40 (x.count + (if up then 1 else -1)), edgeK := e, edgeWall := s.wallPs e, stepK := some e, stepUp := up
    fast := x.fast || close, idxRef := if x.stepK.isSome && x.stepUp != up then none else x.idxRef }

/-- A counted step, and the timebases that it moves. -/
theorem State.quadLevels_count (hm : s.fld (R.PCCTL ch) R.PCCTL_MODE = 1) (ht : (s.chan ch).state = .track) (hab : a = a0 ∨ b = b0) {up : Bool}
    (hstep : quadStep (s.fld (R.PCCTL ch) R.PCCTL_DECODE) (s.fld (R.PCCTL ch) R.PCCTL_DIR == 1) a0 b0 a b = some up) :
    s.quadLevels ch k a b =
      (s.fedBy ch).foldl (fun (t : State) i => t.feedStep i up (s.edgeOf ch k)) (s.setChan ch (s.stepped ch k [a, b, z0] up)) := by
  have hm' : s.chMode ch = 1 := hm
  have hn : (a != a0 && b != b0) = false := by rcases hab with rfl | rfl <;> simp
  have put (x y : Channel) : (s.setChan ch x).setChan ch y = s.setChan ch y := by simp [State.setChan]
  simp only [State.quadLevels, hl, List.getD_cons_zero, List.getD_cons_succ]
  change (if (s.chMode ch != 1) = true then _
    else if (a != a0 && b != b0) = true then _
    else if ((s.chan ch).state != .track) = true then _
    else match quadStep (s.fld (R.PCCTL ch) R.PCCTL_DECODE) (s.fld (R.PCCTL ch) R.PCCTL_DIR == 1) a0 b0 a b with
      | none => _
      | some up => (s.fedBy ch).foldl (fun (t : State) i => t.feedStep i up (s.edgeOf ch k)) ((s.levels ch k [a, b, z0]).setChan ch _)) = _
  simp only [hm', hn, ht, hstep, bne_self_eq_false, Bool.false_eq_true, if_false, State.levels, put, State.setChan_chan_self]
  rfl

end

theorem State.quadLevels_count_chan {s : State} {ch k : Nat} {l : List Bool} {up : Bool} :
    ((s.fedBy ch).foldl (fun (t : State) i => t.feedStep i up (s.edgeOf ch k)) (s.setChan ch (s.stepped ch k l up))).chan ch = s.stepped ch k l up := by
  rw [(foldl_fed (fun ht h => State.feedStep_fed h ht up (s.edgeOf ch k)) .refl s).chan_fed, State.setChan_chan_self]

/-! ### The command QUAD_STEP -/

theorem State.quadEvent_eq {s : State} {ch : Nat} (h : ch < s.variant.nLocal) (k : Nat) (a b : Bool) :
    s.quadEvent ch k a b = (s.advance k).quadLevels ch k ((s.advance k).filtered ch k 0 a) ((s.advance k).filtered ch k 1 b) :=
  if_neg (Nat.not_le.2 (State.advance_local h k))

section
variable {s : State} {ch k : Nat} {a0 b0 z0 a b a' b' : Bool} (hch : ch < s.variant.nLocal)
  (hl : ((s.advance k).chan ch).lvl = [a0, b0, z0]) (fa : (s.advance k).filtered ch k 0 a = a') (fb : (s.advance k).filtered ch k 1 b = b')
include hch hl fa fb

/-- Accepted levels `a'` and `b'` that count nothing. -/
theorem quadStep_follows
    (h : (s.advance k).fld (R.PCCTL ch) R.PCCTL_MODE ≠ 1 ∨ ((s.advance k).chan ch).state ∉ [ChState.sync, .track] ∨
      (a' = a0 ∨ b' = b0) ∧ (((s.advance k).chan ch).state = .track →
        quadStep ((s.advance k).fld (R.PCCTL ch) R.PCCTL_DECODE) ((s.advance k).fld (R.PCCTL ch) R.PCCTL_DIR == 1) a0 b0 a' b' = none)) :
    s.Leads (.quadStep ch k a b) (fun t => (t.chan ch).lvl = [a', b', z0] ∧ (t.chan ch).state = ((s.advance k).chan ch).state ∧
      (t.chan ch).count = ((s.advance k).chan ch).count) := by
  have e : s.quadEvent ch k a b = (s.advance k).levels ch k [a', b', z0] := by
    rw [State.quadEvent_eq hch, fa, fb, State.quadLevels_follow hl h]
  refine .of_done (congrArg (done s) e) fun t ht => ?_
  rw [ht.chan, State.levels_chan]
  exact ⟨rfl, rfl, rfl⟩

/-- Both change. -/
theorem quadStep_illegal (hm : (s.advance k).fld (R.PCCTL ch) R.PCCTL_MODE = 1)
    (hs : ((s.advance k).chan ch).state ∈ [ChState.sync, .track]) (ha : a' ≠ a0) (hb : b' ≠ b0) :
    s.Leads (.quadStep ch k a b) (fun t => ChannelFaulted (s.advance k) t ch 4) := by
  have e : s.quadEvent ch k a b = ((s.advance k).levels ch k [a', b', z0]).chFault ch 4 := by
    rw [State.quadEvent_eq hch, fa, fb, State.quadLevels_illegal hl hm ha hb]
  have hs' : (((s.advance k).levels ch k [a', b', z0]).chan ch).state ∈ [ChState.sync, .track] := by rw [State.levels_chan]; exact hs
  have hlocal := State.advance_local hch k
  refine .of_done (congrArg (done s) e) fun t ht => ?_
  exact (State.chFault_faulted hs' hlocal).mono hlocal (by rw [State.levels_chan]; rfl) rfl rfl rfl ht

/-- A step is counted. -/
theorem quadStep_counts (hm : (s.advance k).fld (R.PCCTL ch) R.PCCTL_MODE = 1) (hs : ((s.advance k).chan ch).state = .track)
    (hab : a' = a0 ∨ b' = b0) {up : Bool}
    (hstep : quadStep ((s.advance k).fld (R.PCCTL ch) R.PCCTL_DECODE) ((s.advance k).fld (R.PCCTL ch) R.PCCTL_DIR == 1) a0 b0 a' b' = some up) :
    s.Leads (.quadStep ch k a b) (fun t => t.chan ch = (s.advance k).stepped ch k [a', b', z0] up) := by
  refine .of_done (congrArg (done s) ?_) fun t ht => (ht.chan ch).trans State.quadLevels_count_chan
  rw [State.quadEvent_eq hch, fa, fb, State.quadLevels_count hl hm hs hab hstep]

end

/-! ### Index edges -/

theorem zQualified_of_selected {zqual : Nat} {a b : Bool} (h : zSelected zqual a b) : zQualified zqual a b = true := by
  rcases h with rfl | ⟨rfl, rfl, rfl⟩ | ⟨rfl, rfl, rfl⟩ | ⟨rfl, rfl, rfl⟩ <;> rfl

/-- An accepted edge of Z from `inv`, which is the level that ZINV calls inactive, is qualified. -/
theorem State.indexLevel_hit {s : State} {ch k : Nat} {a b inv : Bool} (hl : (s.chan ch).lvl = [a, b, inv])
    (hinv : (s.fld (R.PCIDXCTL ch) R.PCIDXCTL_ZINV == 1) = inv) (hm : s.fld (R.PCCTL ch) R.PCCTL_MODE ∈ [1, 4])
    (hz : s.fld (R.PCCTL ch) R.PCCTL_ZEN = 1) (ht : (s.chan ch).state = .track)
    (hq : zSelected (R.PCIDXCTL_ZQUAL.get (s.effAt (R.PCIDXCTL ch) (k - 2))) a b) :
    s.indexLevel ch k (!inv) = (s.levels ch k [a, b, !inv]).indexHit ch k := by
  have hm' : (s.chMode ch == 1 || s.chMode ch == 4) = true := by simpa [State.chMode] using hm
  simp only [State.indexLevel, hl, hinv, List.getD_cons_zero, List.getD_cons_succ, ht]
  change (if (_ && zQualified (R.PCIDXCTL_ZQUAL.get (s.effAt (R.PCIDXCTL ch) (k - 2))) a b && s.fld (R.PCCTL ch) R.PCCTL_ZEN == 1 && _ &&
    (s.chMode ch == 1 || s.chMode ch == 4)) = true then (s.levels ch k [a, b, !inv]).indexHit ch k else _) = _
  rw [zQualified_of_selected hq, hz, hm', if_pos (by cases inv <;> decide)]

/-- Index edges count in ZCNT. -/
def State.zSeen (s : State) (ch : Nat) : State :=
  s.setFld (R.PCIDXCTL ch) R.PCIDXCTL_ZCNT (s.fld (R.PCIDXCTL ch) R.PCIDXCTL_ZCNT + 1)

/-- The channel with its count and time captured. -/
def State.zCaptured (s : State) (ch k : Nat) : Channel :=
  { s.chan ch with idxCount := (s.chan ch).count, idxTime := s.wallPs (s.edgeOf ch k) % 2 ^ 24 }

/-- The capture misses the distance of PCZDIST from the one before in the same direction (R72). -/
def State.zMissed (s : State) (ch : Nat) : Bool :=
  match (s.chan ch).idxRef with
  | some (c, up) => up == (s.chan ch).stepUp && s.fld (R.PCZDIST ch) R.PCZDIST_DIST != 0 &&
      (diffSpan (2 ^ 40) (s.chan ch).count c).natAbs != s.fld (R.PCZDIST ch) R.PCZDIST_DIST
  | none => false

/-- The channel with every edge captured, which is the reference of the next distance. -/
def State.zReferred (s : State) (ch k : Nat) : Channel :=
  { s.zCaptured ch k with idxRef := some ((s.chan ch).count, (s.chan ch).stepUp), zmiss := (s.chan ch).zmiss || s.zMissed ch }

section
variable (s : State) (ch k : Nat)

theorem State.zSeen_fld (f : F) (h : f.apart R.PCIDXCTL_ZCNT) : (s.zSeen ch).fld (R.PCIDXCTL ch) f = s.fld (R.PCIDXCTL ch) f :=
  State.fld_setFld_apart _ _ _ h

theorem State.zSeen_fld_ne {a : Nat} (f : F) (h : a ≠ R.PCIDXCTL ch) : (s.zSeen ch).fld a f = s.fld a f := State.fld_setFld_ne _ _ _ _ h

theorem State.zSeen_zcnt : (s.zSeen ch).fld (R.PCIDXCTL ch) R.PCIDXCTL_ZCNT = (s.fld (R.PCIDXCTL ch) R.PCIDXCTL_ZCNT + 1) % 256 :=
  State.fld_setFld_self _ _ _ _ (by decide)

theorem State.zSeen_edgeOf : (s.zSeen ch).edgeOf ch k = s.edgeOf ch k := by
  have h : (s.zSeen ch).rd (R.PCCTL ch) = s.rd (R.PCCTL ch) := State.rd_setFld_ne _ _ _ (by simp only [R.PCCTL, R.PCIDXCTL]; omega)
  simp only [State.edgeOf, State.filtAt, State.effAt, State.eff, h]
  rfl

theorem State.zSeen_time : (s.zSeen ch).wallPs ((s.zSeen ch).edgeOf ch k) = s.wallPs (s.edgeOf ch k) := by
  rw [s.zSeen_edgeOf ch k]
  rfl

/-- A qualified edge leaves what it captures of the channel as it was. -/
theorem State.zSeen_captured : (s.zSeen ch).zCaptured ch k = s.zCaptured ch k := by
  simp only [State.zCaptured, s.zSeen_time ch k]
  rfl

theorem State.zSeen_missed : (s.zSeen ch).zMissed ch = s.zMissed ch := by
  simp only [State.zMissed, s.zSeen_fld_ne ch (a := R.PCZDIST ch) R.PCZDIST_DIST (by simp only [R.PCZDIST, R.PCIDXCTL]; omega)]
  rfl

theorem State.zSeen_referred : (s.zSeen ch).zReferred ch k = s.zReferred ch k := by
  simp only [State.zReferred, s.zSeen_captured ch k, s.zSeen_missed ch]
  rfl

/-- The state in which every edge is captured. -/
def State.zEvery : State := (s.setChan ch (s.zReferred ch k)).arrive (0x10 + ch)

/-- The state in which the armed edge is captured. -/
def State.zOnce : State :=
  ((s.setChan ch (s.zCaptured ch k)).setFld (R.PCIDXCTL ch) R.PCIDXCTL_ZARMED 0).setFld (R.PCIDXCTL ch) R.PCIDXCTL_ARM 0

/-- A qualified edge, by ZMODE and ZARMED of the state that has counted it. -/
theorem State.indexHit_seen : s.indexHit ch k =
    if (s.zSeen ch).fld (R.PCIDXCTL ch) R.PCIDXCTL_ZMODE = 1 then
      if (s.zSeen ch).fld (R.PCIDXCTL ch) R.PCIDXCTL_ZARMED = 1 then ((s.zSeen ch).zOnce ch k).arrive (0x10 + ch) else s.zSeen ch
    else if (s.zSeen ch).zMissed ch then (((s.zSeen ch).zEvery ch k).count (R.PCERR ch) R.PCERR_ZMISSCNT 1).arrive (0x10 + ch)
      else (s.zSeen ch).zEvery ch k := rfl

/-- A qualified edge, by ZMODE and ZARMED. -/
theorem State.indexHit_eq : s.indexHit ch k =
    if s.fld (R.PCIDXCTL ch) R.PCIDXCTL_ZMODE = 1 then
      if s.fld (R.PCIDXCTL ch) R.PCIDXCTL_ZARMED = 1 then ((s.zSeen ch).zOnce ch k).arrive (0x10 + ch) else s.zSeen ch
    else if s.zMissed ch then (((s.zSeen ch).zEvery ch k).count (R.PCERR ch) R.PCERR_ZMISSCNT 1).arrive (0x10 + ch)
      else (s.zSeen ch).zEvery ch k := by
  rw [State.indexHit_seen, s.zSeen_fld ch R.PCIDXCTL_ZMODE (.inl (by decide)), s.zSeen_fld ch R.PCIDXCTL_ZARMED (.inl (by decide)),
    s.zSeen_missed ch]

theorem State.zEvery_chan : ((s.zSeen ch).zEvery ch k).chan ch = s.zReferred ch k := by
  rw [State.zEvery, State.arrive_chan, State.setChan_chan_self, State.zSeen_referred]

theorem State.zOnce_chan : ((s.zSeen ch).zOnce ch k).chan ch = s.zCaptured ch k := by
  rw [← s.zSeen_captured ch k]
  exact State.setChan_chan_self ..

/-- A qualified edge changes no accepted level. -/
theorem State.indexHit_lvl : ((s.indexHit ch k).chan ch).lvl = (s.chan ch).lvl := by
  have hevery := congrArg Channel.lvl (s.zEvery_chan ch k)
  rw [State.indexHit_eq]
  split
  · split
    · rw [State.arrive_chan, State.zOnce_chan]
      rfl
    · rfl
  · split
    · rw [State.arrive_chan]
      exact hevery
    · exact hevery

end

section
variable {ch : Nat} (hch : ch < 16)
include hch

theorem State.arrive_index_fld (t : State) (f : F) : (t.arrive (0x10 + ch)).fld (R.PCIDXCTL ch) f = t.fld (R.PCIDXCTL ch) f := by
  exact t.fld_arrive_ne f (by simp only [R.PCIDXCTL, R.IRQCNT, R.IRQLOST]; omega)

theorem State.arrive_pcerr_fld (t : State) (f : F) : (t.arrive (0x10 + ch)).fld (R.PCERR ch) f = t.fld (R.PCERR ch) f := by
  exact t.fld_arrive_ne f (by simp only [R.PCERR, R.IRQCNT, R.IRQLOST]; omega)

variable (s : State) (k : Nat)

theorem State.zEvery_fld (f : F) : (s.zEvery ch k).fld (R.PCIDXCTL ch) f = s.fld (R.PCIDXCTL ch) f :=
  State.arrive_index_fld hch _ f

/-- Every qualified edge counts in ZCNT. -/
theorem State.indexHit_zcnt :
    (s.indexHit ch k).fld (R.PCIDXCTL ch) R.PCIDXCTL_ZCNT = (s.fld (R.PCIDXCTL ch) R.PCIDXCTL_ZCNT + 1) % 256 := by
  have hne : R.PCIDXCTL ch ≠ R.PCERR ch := by simp only [R.PCIDXCTL, R.PCERR]; omega
  rw [← s.zSeen_zcnt ch, State.indexHit_eq]
  split
  · split
    · rw [State.arrive_index_fld hch, State.zOnce, State.fld_setFld_apart _ _ _ (.inr (by decide)),
        State.fld_setFld_apart _ _ _ (.inr (by decide))]
      rfl
    · rfl
  · split
    · rw [State.arrive_index_fld hch, State.fld_count_ne _ _ _ _ hne, State.zEvery_fld hch]
    · rw [State.zEvery_fld hch]

/-- ZMODE 0. -/
theorem State.indexHit_every (hm : s.fld (R.PCIDXCTL ch) R.PCIDXCTL_ZMODE = 0) :
    (s.indexHit ch k).chan ch = s.zReferred ch k ∧
      (s.zMissed ch = true → (s.indexHit ch k).fld (R.PCERR ch) R.PCERR_ZMISSCNT = min 255 (s.fld (R.PCERR ch) R.PCERR_ZMISSCNT + 1)) := by
  rw [State.indexHit_eq, if_neg (by omega)]
  split
  · refine ⟨?_, fun _ => ?_⟩
    · rw [State.arrive_chan]
      exact s.zEvery_chan ch k
    · rw [State.arrive_pcerr_fld hch, State.fld_count_self _ _ _ _ (by decide), State.zEvery, State.arrive_pcerr_fld hch]
      change min _ ((s.zSeen ch).fld (R.PCERR ch) R.PCERR_ZMISSCNT + 1) = _
      rw [s.zSeen_fld_ne _ _ (by simp only [R.PCIDXCTL, R.PCERR]; omega)]
      rfl
  next hn => exact ⟨s.zEvery_chan ch k, fun h => absurd h hn⟩

/-- ZMODE 1, armed. -/
theorem State.indexHit_once (hm : s.fld (R.PCIDXCTL ch) R.PCIDXCTL_ZMODE = 1) (ha : s.fld (R.PCIDXCTL ch) R.PCIDXCTL_ZARMED = 1) :
    (s.indexHit ch k).chan ch = s.zCaptured ch k ∧ (s.indexHit ch k).fld (R.PCIDXCTL ch) R.PCIDXCTL_ZARMED = 0 := by
  rw [State.indexHit_eq, if_pos hm, if_pos ha]
  refine ⟨?_, ?_⟩
  · rw [State.arrive_chan, State.zOnce_chan]
  · rw [State.arrive_index_fld hch, State.zOnce, State.fld_setFld_apart _ _ _ (.inr (by decide)), State.fld_setFld_self _ _ _ _ (by decide)]
    rfl

end

/-- ZMODE 1, not armed: nothing is captured. -/
theorem State.indexHit_unarmed {s : State} {ch : Nat} (k : Nat) (hm : s.fld (R.PCIDXCTL ch) R.PCIDXCTL_ZMODE = 1)
    (ha : s.fld (R.PCIDXCTL ch) R.PCIDXCTL_ZARMED = 0) : (s.indexHit ch k).chan ch = s.chan ch := by
  rw [State.indexHit_eq, if_pos hm, if_neg (by omega)]
  rfl

/-- The distance check of R72 in terms of the distance itself. -/
theorem State.zMissed_iff {s : State} {ch : Nat} {c d : Int} (hr : (s.chan ch).idxRef = some (c, (s.chan ch).stepUp))
    (hd : isWrapped 40 ((s.chan ch).count - c) d) (h0 : s.fld (R.PCZDIST ch) R.PCZDIST_DIST ≠ 0) :
    s.zMissed ch = true ↔ d.natAbs ≠ s.fld (R.PCZDIST ch) R.PCZDIST_DIST := by
  have e : diffSpan (2 ^ 40) (s.chan ch).count c = d := hd.eq_diffSpan (by decide)
  simp only [State.zMissed, hr, e, beq_self_eq_true, Bool.true_and, Bool.and_eq_true, bne_iff_ne]
  exact and_iff_right h0

/-- INDEX_EDGE with a level that has stood. -/
theorem State.indexEvent_eq {s : State} {ch : Nat} (h : ch < s.variant.nLocal) (k : Nat) (z : Bool) :
    s.indexEvent ch k z = (s.advance k).indexLevel ch k ((s.advance k).filtered ch k 2 z) :=
  if_neg (Nat.not_le.2 (State.advance_local h k))

/-- An accepted edge of Z that ZQUAL selects. -/
theorem indexEdge_hits {s : State} {ch k : Nat} {a b inv : Bool} (hch : ch < s.variant.nLocal) (hl : ((s.advance k).chan ch).lvl = [a, b, inv])
    (hinv : ((s.advance k).fld (R.PCIDXCTL ch) R.PCIDXCTL_ZINV == 1) = inv) (hm : (s.advance k).fld (R.PCCTL ch) R.PCCTL_MODE ∈ [1, 4])
    (hz : (s.advance k).fld (R.PCCTL ch) R.PCCTL_ZEN = 1) (ht : ((s.advance k).chan ch).state = .track)
    (hst : (s.advance k).filtered ch k 2 (!inv) = !inv)
    (hq : zSelected (R.PCIDXCTL_ZQUAL.get ((s.advance k).effAt (R.PCIDXCTL ch) (k - 2))) a b) :
    s.Leads (.indexEdge ch k !inv) (fun t => Raised (((s.advance k).levels ch k [a, b, !inv]).indexHit ch k) t) := by
  refine .of_done (congrArg (done s) (?_ : s.indexEvent ch k (!inv) = _)) fun _ ht => ht
  rw [State.indexEvent_eq hch, hst, State.indexLevel_hit hl hinv hm hz ht hq]

/-- Settles O28: the levels that the filters let pass, the rows of the decoding, and the captures. -/
theorem stepsAndIndexAreCounted : Obligations.StepsAndIndexAreCounted := by
  intro s ch k hch
  have hlocal := State.advance_local hch k
  refine ⟨fun a0 b0 z0 a b hl => ⟨fun ha hb => ?_, fun ha hb => ?_⟩, fun a b hm hz ht hst hl hq => ?_⟩
  · have fa : (s.advance k).filtered ch k 0 a = a0 := (State.filtered_unstood (by rw [hl]; exact ha)).trans (by rw [hl]; rfl)
    have fb : (s.advance k).filtered ch k 1 b = b0 := (State.filtered_unstood (by rw [hl]; exact hb)).trans (by rw [hl]; rfl)
    refine (quadStep_follows hch hl fa fb (.inr (.inr ⟨.inl rfl, fun _ => ?_⟩))).mono fun t ⟨h1, h2, h3⟩ => ⟨h1.trans hl.symm, h2, h3⟩
    exact (StepRow.none (decode := _) a0 b0).decoded.1
  · have fa : (s.advance k).filtered ch k 0 a = a := State.filtered_stood (by rw [hl]; exact ha)
    have fb : (s.advance k).filtered ch k 1 b = b := State.filtered_stood (by rw [hl]; exact hb)
    refine ⟨fun h => quadStep_follows hch hl fa fb ?_, fun hm hs ha0 hb0 => quadStep_illegal hch hl fa fb hm hs ha0 hb0,
      fun step hm hs hrow => ?_⟩
    · rcases h with h | h | ⟨h, hab⟩
      · exact .inl h
      · exact .inr (.inl h)
      · exact .inr (.inr ⟨hab, fun ht => absurd (h.symm.trans ht) (by decide)⟩)
    · obtain ⟨hstep, hab⟩ := hrow.decoded
      cases step with
      | none =>
        refine (quadStep_follows hch hl fa fb (.inr (.inr ⟨hab, fun _ => hstep⟩))).mono fun t ⟨h1, h2, h3⟩ =>
          ⟨h1, h2.trans hs, fun _ => h3, nofun⟩
      | some up =>
        refine (quadStep_counts hch hl fa fb hm hs hab hstep).mono fun t h => ?_
        rw [h]
        refine ⟨rfl, hs, nofun, fun up' e => ?_⟩
        cases e
        exact ⟨wrap40_isWrapped _, rfl, rfl⟩
  · have fz := State.filtered_stood (s := s.advance k) (ch := ch) (k := k) (i := 2)
      (b := !((s.advance k).fld (R.PCIDXCTL ch) R.PCIDXCTL_ZINV == 1)) fun _ => hst
    refine (indexEdge_hits hch hl rfl hm hz ht fz hq).mono fun t hr => ?_
    have h16 : ch < 16 := Nat.lt_of_lt_of_le hch s.variant.nLocal_le
    have hidx (f : F) := hr.fld_pos f (Variant.pcidxctl_lt hch)
    have herr (f : F) := hr.fld_pos f (Variant.pcerr_lt hch)
    let l := [a, b, !((s.advance k).fld (R.PCIDXCTL ch) R.PCIDXCTL_ZINV == 1)]
    have hchan := (s.advance k).levels_chan ch k l
    have hcount := congrArg Channel.count hchan
    rw [hidx, hidx, herr, State.indexHit_zcnt h16]
    refine ⟨?_, rfl, fun h0 => ?_, fun h1 harm => ?_, fun h1 harm => ?_⟩
    · rw [hr.chan, State.indexHit_lvl, hchan]
      rfl
    · obtain ⟨hx, hmiss⟩ := State.indexHit_every h16 ((s.advance k).levels ch k l) k h0
      have ht' := (hr.chan ch).trans hx
      refine ⟨⟨(congrArg Channel.idxCount ht').trans hcount, congrArg Channel.idxTime ht'⟩, (congrArg Channel.idxRef ht').trans ?_,
        fun c d hr0 hd hdist => ?_⟩
      · exact congrArg some (Prod.ext hcount (congrArg Channel.stepUp hchan :))
      · have hiff := State.zMissed_iff (s := (s.advance k).levels ch k l) (by rw [hchan]; exact hr0) (by rw [hchan]; exact hd) hdist
        have hz' := congrArg Channel.zmiss ht'
        refine ⟨fun he => hz'.trans ?_, fun hne => ⟨hz'.trans ?_, hmiss (hiff.2 hne)⟩⟩
        · have hno := Bool.eq_false_iff.2 fun h => hiff.1 h he
          exact (congrArg₂ or (congrArg Channel.zmiss hchan) hno).trans (Bool.or_false _)
        · exact (congrArg₂ or rfl (hiff.2 hne)).trans (Bool.or_true _)
    · obtain ⟨hx, hz0⟩ := State.indexHit_once h16 ((s.advance k).levels ch k l) k h1 harm
      have ht' := (hr.chan ch).trans hx
      exact ⟨⟨(congrArg Channel.idxCount ht').trans hcount, congrArg Channel.idxTime ht'⟩, hz0⟩
    · have hx := State.indexHit_unarmed (s := (s.advance k).levels ch k l) k h1 harm
      exact (congrArg Channel.idxCount ((hr.chan ch).trans (hx.trans hchan)) :)

end Sys2Proof.Machine
end

section
/-! PROOF of O30. Frame requests, and the frames of SSI and BiSS encoders that are taken, counted as bad, or fault their channel. -/

namespace Sys2Proof.Machine

/-! ### Requests -/

/-- The channel asks for frames, and a boundary that REQPER names has come (R83). -/
def State.FrameAsked (s : State) (ch : Nat) : Prop :=
  s.fld (R.PCCTL ch) R.PCCTL_MODE ∈ [2, 3] ∧ (s.chan ch).state ≠ .off ∧ s.fld (R.PCREQ ch) R.PCREQ_REQPER ≠ 0 ∧ s.now % 8 = 0 ∧
    ∀ e, (s.chan ch).reqK = some e → e + 8 * s.fld (R.PCREQ ch) R.PCREQ_REQPER ≤ s.now

theorem State.not_frameAsked_iff {s : State} {ch : Nat} :
    (!(s.chMode ch == 2 || s.chMode ch == 3) || (s.chan ch).state == .off || !s.frameDue ch) = true ↔ ¬s.FrameAsked ch := by
  rw [← not_iff_not, not_not, Bool.not_eq_true]
  simp only [State.FrameAsked, State.frameDue, State.chMode, List.mem_cons, List.not_mem_nil, or_false, Bool.or_eq_false_iff, Bool.not_eq_false',
    Bool.or_eq_true, Bool.and_eq_true, beq_iff_eq, bne_iff_ne, beq_eq_false_iff_ne, ne_eq, Option.all_eq_true, decide_eq_true_eq, and_assoc]
  tauto

/-- The channel with its request at the present edge. -/
def State.requested (s : State) (ch : Nat) : Channel := { s.chan ch with reqK := some s.now }

theorem State.frameRequest_eq (s : State) (ch : Nat) :
    s.frameRequest ch =
      if (!(s.chMode ch == 2 || s.chMode ch == 3) || (s.chan ch).state == .off || !s.frameDue ch) = true then s
      else if ((s.chan ch).frameRun.isSome || decide (s.now < (s.chan ch).busyTill)) = true then
        (s.setChan ch (s.requested ch)).count (R.PCERR ch) R.PCERR_REQSKIP 1
      else s.setChan ch { s.requested ch with frameRun := some s.now } := rfl

theorem State.frameRequest_of_not {s : State} {ch : Nat} (h : ¬s.FrameAsked ch) : s.frameRequest ch = s :=
  (s.frameRequest_eq ch).trans (if_pos (State.not_frameAsked_iff.2 h))

theorem State.frameRequest_of_asked {s : State} {ch : Nat} (h : s.FrameAsked ch) :
    s.frameRequest ch =
      if (s.chan ch).frameRun.isSome = true ∨ s.now < (s.chan ch).busyTill then
        (s.setChan ch (s.requested ch)).count (R.PCERR ch) R.PCERR_REQSKIP 1
      else s.setChan ch { s.requested ch with frameRun := some s.now } := by
  rw [State.frameRequest_eq, if_neg fun n => State.not_frameAsked_iff.1 n h]
  simp only [Bool.or_eq_true, decide_eq_true_eq]

theorem frameRequest_skipped {s : State} {ch : Nat} (hch : ch < s.variant.nLocal) (h : s.FrameAsked ch)
    (hb : (s.chan ch).frameRun.isSome = true ∨ s.now < (s.chan ch).busyTill) :
    s.Leads (.frameRequest ch) (fun t => t.chan ch = { s.chan ch with reqK := some s.now } ∧
      t.fld (R.PCERR ch) R.PCERR_REQSKIP = min 255 (s.fld (R.PCERR ch) R.PCERR_REQSKIP + 1)) := by
  refine .of_done (congrArg (done s) ((State.frameRequest_of_asked h).trans (if_pos hb))) fun t ht => ⟨?_, ?_⟩
  · exact (ht.chan ch).trans (s.setChan_chan_self ch _)
  · rw [ht.fld_pos _ (Variant.pcerr_lt hch), State.fld_count_self _ _ _ _ (by decide)]
    rfl

/-! ### A frame on its way to the word -/

/-- The channel with a frame received. -/
def State.received (s : State) (ch k : Nat) (f : Sys2Proof.Frame) : Channel :=
  let d := s.decodeFrame ch f
  { s.chan ch with
    frameRun := none, busyTill := k + 200 * s.fld (R.PCABS2 ch) R.PCABS2_TMO, raw := d.pos, trail := d.trail
    ne := d.ne, nw := d.nw, cds := f.cds, frmstat := d.stat }

/-- The state with a frame received, before it is used. -/
def State.frameIn (s : State) (ch k : Nat) (f : Sys2Proof.Frame) : State :=
  let r := s.setChan ch (s.received ch k f)
  let r := if s.chMode ch = 3 ∧ f.ack = true then r.setFld (R.PCCRC ch) R.PCCRC_LINEDLY f.delay else r
  if (s.decodeFrame ch f).stat = 0 then r else r.count (R.PCERR ch) R.PCERR_BADFRM 1

section
variable (s : State) (ch k : Nat) (f : Sys2Proof.Frame)

theorem State.frameIn_only : Frame.onRegs.Only (fun a => a = R.PCCRC ch ∨ a = R.PCERR ch) (s.setChan ch (s.received ch k f)) (s.frameIn ch k f) := by
  unfold State.frameIn
  extract_lets r r'
  have h : Frame.onRegs.Only (fun a => a = R.PCCRC ch ∨ a = R.PCERR ch) r r' := .ite _ (Frame.Only.refl.setFld _ _ (.inl rfl)) .refl
  exact .ite _ h (h.count _ _ (.inr rfl))

theorem State.frameIn_chan : (s.frameIn ch k f).chan ch = s.received ch k f :=
  ((s.frameIn_only ch k f).keep (State.chan · ch) fun _ => rfl).trans (s.setChan_chan_self _ _)

theorem State.frameIn_variant : (s.frameIn ch k f).variant = s.variant := (s.frameIn_only ch k f).keep State.variant fun _ => rfl
theorem State.frameIn_tbs : (s.frameIn ch k f).tbs = s.tbs := (s.frameIn_only ch k f).keep State.tbs fun _ => rfl

theorem State.frameIn_fld {a : Nat} (g : F) (h : a ≠ R.PCCRC ch ∧ a ≠ R.PCERR ch) : (s.frameIn ch k f).fld a g = s.fld a g :=
  (s.frameIn_only ch k f).fld g (by simpa using h)

theorem State.frameIn_badfrm (h : (s.decodeFrame ch f).stat ≠ 0) :
    (s.frameIn ch k f).fld (R.PCERR ch) R.PCERR_BADFRM = min 255 (s.fld (R.PCERR ch) R.PCERR_BADFRM + 1) := by
  unfold State.frameIn
  extract_lets r r'
  have e : r'.fld (R.PCERR ch) R.PCERR_BADFRM = s.fld (R.PCERR ch) R.PCERR_BADFRM := by
    have k : Frame.onRegs.Only (fun a => a = R.PCCRC ch) r r' := .ite _ (Frame.Only.refl.setFld _ _ rfl) .refl
    exact k.fld _ (by simp only [R.PCERR, R.PCCRC]; omega)
  rw [if_neg h, State.fld_count_self _ _ _ _ (by decide), e]
  rfl

/-- The cause of a fault by frames that are bad. -/
def State.badCause : Nat := if s.chMode ch == 3 && f.ack && f.start && !(s.decodeFrame ch f).ne then 6 else 5

/-- The channel with one more bad frame in succession. -/
def State.frameBad : State :=
  (s.frameIn ch k f).setChan ch { s.received ch k f with badRun := (s.chan ch).badRun + 1 }

theorem State.frameBad_chan :
    (s.frameBad ch k f).chan ch = { s.received ch k f with badRun := (s.chan ch).badRun + 1 } := State.setChan_chan_self ..

/-- A frame that has been requested at edge `k0`, by the registers of the state that has received it. -/
theorem State.frameEvent_received {k0 : Nat} (h : ((s.advance k).chan ch).frameRun = some k0) :
    s.frameEvent ch k f =
      let u := s.advance k
      let w := u.frameIn ch k f
      let lim := w.fld (R.PCABS2 ch) R.PCABS2_BADLIM
      if (!((u.chan ch).state == .sync || (u.chan ch).state == .track)) = true then w
      else if (u.decodeFrame ch f).stat = 0 then w.goodFrame ch (u.decodeFrame ch f) (k0 + w.fld (R.PCABS2 ch) R.PCABS2_SAMPDLY)
      else if (if lim = 0 then 3 else lim) ≤ (u.chan ch).badRun + 1 then
        (u.frameBad ch k f).chFault ch (if w.chMode ch == 3 && f.ack && f.start && !(u.decodeFrame ch f).ne then 6 else 5)
      else u.frameBad ch k f := by
  unfold State.frameEvent
  extract_lets u x
  rw [show x.frameRun = some k0 from h]
  rfl

/-- A frame that has been requested at edge `k0`. -/
theorem State.frameEvent_eq {k0 : Nat} (h : ((s.advance k).chan ch).frameRun = some k0) :
    s.frameEvent ch k f =
      let u := s.advance k
      let lim := u.fld (R.PCABS2 ch) R.PCABS2_BADLIM
      if (u.chan ch).state ∉ [ChState.sync, .track] then u.frameIn ch k f
      else if (u.decodeFrame ch f).stat = 0 then
        (u.frameIn ch k f).goodFrame ch (u.decodeFrame ch f) (k0 + u.fld (R.PCABS2 ch) R.PCABS2_SAMPDLY)
      else if (if lim = 0 then 3 else lim) ≤ (u.chan ch).badRun + 1 then (u.frameBad ch k f).chFault ch (u.badCause ch f)
      else u.frameBad ch k f := by
  have hreg : R.PCABS2 ch ≠ R.PCCRC ch ∧ R.PCABS2 ch ≠ R.PCERR ch := by simp only [R.PCABS2, R.PCCRC, R.PCERR]; omega
  have hctl : R.PCCTL ch ≠ R.PCCRC ch ∧ R.PCCTL ch ≠ R.PCERR ch := by simp only [R.PCCTL, R.PCCRC, R.PCERR]; omega
  have hmode : ((s.advance k).frameIn ch k f).chMode ch = (s.advance k).chMode ch := (s.advance k).frameIn_fld ch k f _ hctl
  have hstate : (!(((s.advance k).chan ch).state == .sync || ((s.advance k).chan ch).state == .track)) = true ↔
      ((s.advance k).chan ch).state ∉ [ChState.sync, .track] := by simp
  rw [s.frameEvent_received ch k f h]
  simp only [hmode, hstate, (s.advance k).frameIn_fld ch k f _ hreg, State.badCause]

end

/-! ### Good frames -/

/-- The position has changed by more than PCJUMP (R82). -/
def State.frameJumps (s : State) (ch : Nat) (d : Decoded) : Bool :=
  match (s.chan ch).lastGood with
  | some p => s.fld (R.PCJUMP ch) R.PCJUMP_LIMIT != 0 &&
      decide (s.fld (R.PCJUMP ch) R.PCJUMP_LIMIT < (diffSpan (2 ^ s.fld (R.PCABS ch) R.PCABS_POSBITS) d.pos p).natAbs)
  | none => false

/-- The channel with a good frame. -/
def State.frameGood (s : State) (ch : Nat) (d : Decoded) : Channel :=
  { s.chan ch with badRun := 0, warn := s.chMode ch == 3 && !d.nw, lastGood := some d.pos }

/-- The channel with the position of a good frame, sampled at edge `t0`. -/
def State.framePlaced (s : State) (ch : Nat) (d : Decoded) (t0 : Nat) : Channel :=
  { s.frameGood ch d with count := d.pos, edgeK := t0, edgeWall := s.wallPs t0 }

section
variable {s : State} {ch : Nat} {d : Decoded}

theorem State.goodFrame_of_jump (t0 : Nat) (h : s.frameJumps ch d = true) :
    s.goodFrame ch d t0 = (s.setChan ch (s.frameGood ch d)).chFault ch 7 := by
  unfold State.goodFrame
  extract_lets x n lim jump g
  exact if_pos h

/-- A good frame puts the position in the count, and the channel in TRACK. -/
theorem State.goodFrame_chan (t0 : Nat) (h : s.frameJumps ch d = false) (hs : (s.chan ch).state ∈ [ChState.sync, .track]) :
    ∃ c, (s.goodFrame ch d t0).chan ch = { s.framePlaced ch d t0 with state := .track, cause := c } := by
  have e : (s.goodFrame ch d t0).chan ch = if (s.chan ch).state = .sync then { s.framePlaced ch d t0 with state := .track, cause := 0 }
      else s.framePlaced ch d t0 := by
    unfold State.goodFrame
    extract_lets x n lim jump g y p q
    have hj : jump = false := h
    rw [hj, if_neg Bool.false_ne_true]
    have hy : y = s.frameGood ch d := s.setChan_chan_self ch _
    have hp : p.chan ch = s.framePlaced ch d t0 := by
      rw [show p.chan ch = { y with count := d.pos, edgeK := t0, edgeWall := g.wallPs t0 } from g.setChan_chan_self ch _, hy]
      rfl
    have hq : q.chan ch = if (s.chan ch).state = .sync then (p.chTrack ch).chan ch else p.chan ch := by
      rw [show q = if y.state = .sync then p.chTrack ch else p from rfl, hy, apply_ite (State.chan · ch)]
      rfl
    rw [(foldl_fed (fun ht k => State.feedSample_fed k ht _ _) .refl q).chan_fed, hq, State.chTrack, State.setChan_chan_self, hp]
  rw [e]
  split
  · exact ⟨0, rfl⟩
  next hn =>
    have ht : (s.framePlaced ch d t0).state = .track := show (s.chan ch).state = .track by simpa [hn] using hs
    exact ⟨(s.framePlaced ch d t0).cause, by rw [← ht]⟩

end

/-! ### What a frame says -/

/-- A SSI frame in binary without leading bits and parity, whose line is idle. -/
theorem State.decodeFrame_plain {s : State} {ch : Nat} {f : Sys2Proof.Frame} (hm : s.fld (R.PCCTL ch) R.PCCTL_MODE = 2)
    (hlead : s.fld (R.PCABS ch) R.PCABS_LEAD = 0) (hgray : s.fld (R.PCABS ch) R.PCABS_GRAY = 0) (hpar : s.fld (R.PCABS ch) R.PCABS_PAR = 0)
    (hi : f.idle = true) :
    (s.decodeFrame ch f).stat = 0 ∧ (s.decodeFrame ch f).pos = bitsVal (f.bits.take (s.fld (R.PCABS ch) R.PCABS_POSBITS)) := by
  have hm' : s.chMode ch = 2 := hm
  simp [State.decodeFrame, hm', hlead, hgray, hpar, hi]

/-- The frames that R79 and R81 call bad before their bits are looked at, with FRMSTAT. -/
theorem State.decodeFrame_bad {s : State} {ch code : Nat} {f : Sys2Proof.Frame}
    (h : f.idle = false ∧ code = 5 ∨ s.fld (R.PCCTL ch) R.PCCTL_MODE = 3 ∧ f.idle = true ∧ f.ack = false ∧ code = 3 ∨
      s.fld (R.PCCTL ch) R.PCCTL_MODE = 3 ∧ f.idle = true ∧ f.ack = true ∧ f.start = false ∧ code = 4) :
    (s.decodeFrame ch f).stat = code ∧ code ≠ 0 := by
  have hm : s.chMode ch = s.fld (R.PCCTL ch) R.PCCTL_MODE := rfl
  rcases h with ⟨hi, rfl⟩ | ⟨h3, hi, ha, rfl⟩ | ⟨h3, hi, ha, hst, rfl⟩
  · simp [State.decodeFrame, hi]
  · simp [State.decodeFrame, hm, h3, hi, ha]
  · simp [State.decodeFrame, hm, h3, hi, ha, hst]

/-- The change of position since the last good frame stays within PCJUMP. -/
theorem State.frameJumps_of_near {s : State} {ch : Nat} {d : Decoded}
    (h : ∀ p, (s.chan ch).lastGood = some p → s.fld (R.PCJUMP ch) R.PCJUMP_LIMIT = 0 ∨
      ∀ e, isWrapped (s.fld (R.PCABS ch) R.PCABS_POSBITS) (d.pos - p) e → e.natAbs ≤ s.fld (R.PCJUMP ch) R.PCJUMP_LIMIT) :
    s.frameJumps ch d = false := by
  unfold State.frameJumps
  cases hp : (s.chan ch).lastGood with
  | none => rfl
  | some p =>
    rcases h p hp with h0 | h0
    · simp [h0]
    · have := h0 _ (diffSpan_isWrapped _ _ _)
      simp [Nat.not_lt.2 this]

theorem State.frameJumps_of_far {s : State} {ch : Nat} {d : Decoded} {p : Nat} {e : Int} (hp : (s.chan ch).lastGood = some p)
    (h0 : s.fld (R.PCJUMP ch) R.PCJUMP_LIMIT ≠ 0) (he : isWrapped (s.fld (R.PCABS ch) R.PCABS_POSBITS) (d.pos - p) e)
    (hlt : s.fld (R.PCJUMP ch) R.PCJUMP_LIMIT < e.natAbs) : s.frameJumps ch d = true := by
  have hn : 0 < s.fld (R.PCABS ch) R.PCABS_POSBITS := by
    by_contra hn
    rw [Nat.eq_zero_of_not_pos hn] at he
    have := isWrapped_zero he
    omega
  simp [State.frameJumps, hp, h0, he.eq_diffSpan hn, hlt]

/-! ### The command ENCODER_FRAME -/

/-- After the fault of a channel in a state that differs from `u` in nothing that the fault looks at. -/
theorem ChannelFaulted.of_raised {u w t : State} {ch cause : Nat} (ht : Raised (w.chFault ch cause) t) (hch : ch < u.variant.nLocal)
    (hs : (w.chan ch).state ∈ [ChState.sync, .track]) (hc : (w.chan ch).count = (u.chan ch).count)
    (irq : w.fld (R.IRQCNT ch) R.IRQCNT_COUNT = u.fld (R.IRQCNT ch) R.IRQCNT_COUNT) (hv : w.variant = u.variant) (tbs : w.tbs = u.tbs) :
    ChannelFaulted u t ch cause := (State.chFault_faulted hs (hv ▸ hch)).mono hch hc irq hv tbs ht

section
variable {s : State} {ch k k0 : Nat} {f : Sys2Proof.Frame} (hch : ch < s.variant.nLocal) (hrun : ((s.advance k).chan ch).frameRun = some k0)

theorem State.frameIn_irq (s : State) (ch k : Nat) (f : Sys2Proof.Frame) :
    (s.frameIn ch k f).fld (R.IRQCNT ch) R.IRQCNT_COUNT = s.fld (R.IRQCNT ch) R.IRQCNT_COUNT :=
  s.frameIn_fld ch k f _ (by simp only [R.IRQCNT, R.PCCRC, R.PCERR]; omega)

include hrun in
/-- A good frame that does not jump. -/
theorem encoderFrame_taken (hs : ((s.advance k).chan ch).state ∈ [ChState.sync, .track]) (hd : ((s.advance k).decodeFrame ch f).stat = 0)
    (hj : ((s.advance k).frameIn ch k f).frameJumps ch ((s.advance k).decodeFrame ch f) = false) :
    s.Leads (.encoderFrame ch k f) (fun t => ∃ c, t.chan ch =
      { ((s.advance k).frameIn ch k f).framePlaced ch ((s.advance k).decodeFrame ch f) (k0 + (s.advance k).fld (R.PCABS2 ch) R.PCABS2_SAMPDLY) with
        state := .track, cause := c }) := by
  have e := s.frameEvent_eq ch k f hrun
  simp only [hd, hs, not_true, if_true, if_false] at e
  refine .of_done (congrArg (done s) e) fun t ht => ?_
  rw [ht.chan]
  exact State.goodFrame_chan _ hj (by rw [State.frameIn_chan]; exact hs)

include hch hrun in
/-- A good frame that jumps. -/
theorem encoderFrame_jumps (hs : ((s.advance k).chan ch).state ∈ [ChState.sync, .track]) (hd : ((s.advance k).decodeFrame ch f).stat = 0)
    (hj : ((s.advance k).frameIn ch k f).frameJumps ch ((s.advance k).decodeFrame ch f) = true) :
    s.Leads (.encoderFrame ch k f) (fun t => ChannelFaulted (s.advance k) t ch 7) := by
  have e := s.frameEvent_eq ch k f hrun
  simp only [hd, hs, not_true, if_true, if_false] at e
  have hg : (((s.advance k).frameIn ch k f).setChan ch (((s.advance k).frameIn ch k f).frameGood ch ((s.advance k).decodeFrame ch f))).chan ch =
    ((s.advance k).frameIn ch k f).frameGood ch ((s.advance k).decodeFrame ch f) := State.setChan_chan_self ..
  have hlocal := State.advance_local hch k
  have hv := (s.advance k).frameIn_variant ch k f
  refine .of_done (congrArg (done s) (e.trans (State.goodFrame_of_jump _ hj))) fun t ht => ?_
  refine ChannelFaulted.of_raised ht hlocal ?_ ?_ ?_ hv ?_
  · rw [hg]
    exact (congrArg Channel.state ((s.advance k).frameIn_chan ch k f)).symm ▸ hs
  · rw [hg]
    exact (congrArg Channel.count ((s.advance k).frameIn_chan ch k f) :)
  · exact (s.advance k).frameIn_irq ch k f
  · exact (s.advance k).frameIn_tbs ch k f

/-- A bad frame is counted, and its code stands in FRMSTAT. -/
def BadCounted (u t : State) (ch code : Nat) : Prop :=
  (t.chan ch).frmstat = code ∧ t.fld (R.PCERR ch) R.PCERR_BADFRM = min 255 (u.fld (R.PCERR ch) R.PCERR_BADFRM + 1)

/-- A bad frame that does not fault its channel. -/
theorem BadCounted.of_raised {u w t : State} {ch k code : Nat} {f : Sys2Proof.Frame} (ht : Raised w t)
    (hch : ch < u.variant.nLocal) (hd : (u.decodeFrame ch f).stat = code) (h0 : code ≠ 0)
    (hw : (w.chan ch).frmstat = (u.received ch k f).frmstat)
    (he : w.fld (R.PCERR ch) R.PCERR_BADFRM = (u.frameIn ch k f).fld (R.PCERR ch) R.PCERR_BADFRM) : BadCounted u t ch code := by
  refine ⟨(congrArg Channel.frmstat (ht.chan ch)).trans (hw.trans hd), ?_⟩
  rw [ht.fld_pos _ (Variant.pcerr_lt hch), he, State.frameIn_badfrm _ _ _ _ (hd ▸ h0)]

section
variable {code : Nat} (hd : ((s.advance k).decodeFrame ch f).stat = code) (h0 : code ≠ 0)
include hch hrun hd h0

theorem encoderFrame_bad (hs : ((s.advance k).chan ch).state ∈ [ChState.sync, .track])
    (hlim : ((s.advance k).chan ch).badRun + 1 < (if (s.advance k).fld (R.PCABS2 ch) R.PCABS2_BADLIM = 0 then 3
      else (s.advance k).fld (R.PCABS2 ch) R.PCABS2_BADLIM)) :
    s.Leads (.encoderFrame ch k f) (fun t => BadCounted (s.advance k) t ch code ∧ (t.chan ch).badRun = ((s.advance k).chan ch).badRun + 1 ∧
      (t.chan ch).state = ((s.advance k).chan ch).state ∧ (t.chan ch).count = ((s.advance k).chan ch).count) := by
  have e := s.frameEvent_eq ch k f hrun
  simp only [hs, hd, h0, not_true, if_false, Nat.not_le.2 hlim] at e
  have hb := (s.advance k).frameBad_chan ch k f
  refine .of_done (congrArg (done s) e) fun t ht => ⟨?_, ?_⟩
  · exact .of_raised ht (State.advance_local hch k) hd h0 (congrArg Channel.frmstat hb :) rfl
  · rw [ht.chan, hb]
    exact ⟨rfl, rfl, rfl⟩

theorem encoderFrame_badFaults (hs : ((s.advance k).chan ch).state ∈ [ChState.sync, .track])
    (hcause : (s.advance k).badCause ch f = 5)
    (hlim : (if (s.advance k).fld (R.PCABS2 ch) R.PCABS2_BADLIM = 0 then 3
      else (s.advance k).fld (R.PCABS2 ch) R.PCABS2_BADLIM) ≤ ((s.advance k).chan ch).badRun + 1) :
    s.Leads (.encoderFrame ch k f) (fun t => BadCounted (s.advance k) t ch code ∧ ChannelFaulted (s.advance k) t ch 5) := by
  have e := s.frameEvent_eq ch k f hrun
  simp only [hs, hd, h0, not_true, if_false, if_true, hlim, hcause] at e
  have hb := (s.advance k).frameBad_chan ch k f
  have hlocal := State.advance_local hch k
  have hs' : (((s.advance k).frameBad ch k f).chan ch).state ∈ [ChState.sync, .track] := hb.symm ▸ hs
  refine .of_done (congrArg (done s) e) fun t ht => ⟨?_, ?_⟩
  · refine .of_raised (k := k) ht hlocal hd h0 ?_ ?_
    · rw [State.chFault_chan hs', hb]
    · exact State.chFault_fld hs' _ (by
        have := (s.advance k).variant.nLocal_le
        simp only [fedReg, R.PCERR, R.IRQCNT, R.IRQLOST, R.ENDROP, R.ENFCCNT2]
        omega)
  · refine ChannelFaulted.of_raised ht hlocal hs' (by rw [hb]; rfl) ?_ ?_ ?_
    · exact (s.advance k).frameIn_irq ch k f
    · exact (s.advance k).frameIn_variant ch k f
    · exact (s.advance k).frameIn_tbs ch k f

theorem encoderFrame_badInFault (hs : ((s.advance k).chan ch).state = .fault) :
    s.Leads (.encoderFrame ch k f) (fun t => BadCounted (s.advance k) t ch code ∧ (t.chan ch).state = .fault ∧
      (t.chan ch).count = ((s.advance k).chan ch).count) := by
  have e := s.frameEvent_eq ch k f hrun
  simp only [hs] at e
  have hb := (s.advance k).frameIn_chan ch k f
  refine .of_done (congrArg (done s) (e.trans (if_pos (by decide)))) fun t ht => ⟨?_, ?_⟩
  · exact .of_raised ht (State.advance_local hch k) hd h0 (congrArg Channel.frmstat hb :) rfl
  · rw [ht.chan, hb]
    exact ⟨hs, rfl⟩

end
end

/-- Without START, or from SSI, bad frames fault with cause 5. -/
theorem State.badCause_of {s : State} {ch : Nat} {f : Sys2Proof.Frame} (h : f.start = false ∨ s.fld (R.PCCTL ch) R.PCCTL_MODE = 2) :
    s.badCause ch f = 5 := by
  rcases h with h | h
  · simp [State.badCause, h]
  · simp [State.badCause, State.chMode, h]

/-- Settles O30: requests, then the frames by what they say and by the state of the channel. -/
theorem encoderFramesAreTaken : Obligations.EncoderFramesAreTaken := by
  intro s ch k f hch
  refine ⟨fun hdue hr hb => ?_, fun hdue hb => frameRequest_skipped hch hdue hb,
    fun hn => .of_done (congrArg (done s) (State.frameRequest_of_not hn)) rfl, fun k0 => ?_⟩
  · refine .of_done (congrArg (done s) ((State.frameRequest_of_asked hdue).trans (if_neg ?_))) rfl
    simp [hr, hb]
  intro u x m n lim jump pos hrun
  have hchan := u.frameIn_chan ch k f
  have hreg : R.PCJUMP ch ≠ R.PCCRC ch ∧ R.PCJUMP ch ≠ R.PCERR ch := by simp only [R.PCJUMP, R.PCCRC, R.PCERR]; omega
  have habs : R.PCABS ch ≠ R.PCCRC ch ∧ R.PCABS ch ≠ R.PCERR ch := by simp only [R.PCABS, R.PCCRC, R.PCERR]; omega
  have hjump := u.frameIn_fld ch k f R.PCJUMP_LIMIT hreg
  have hbits := u.frameIn_fld ch k f R.PCABS_POSBITS habs
  refine ⟨fun hm hs hlead hgray hpar hi => ?_, fun code hm hbad => ?_⟩
  · obtain ⟨hd, hpos⟩ := State.decodeFrame_plain hm hlead hgray hpar hi
    refine ⟨fun hnear => ?_, fun ⟨p, d, hp, h0, hw, hlt⟩ => ?_⟩
    · have hj : (u.frameIn ch k f).frameJumps ch (u.decodeFrame ch f) = false := by
        refine State.frameJumps_of_near ?_
        rw [hchan, hjump, hbits, hpos]
        exact hnear
      refine (encoderFrame_taken hrun hs hd hj).mono fun t ⟨c, ht⟩ => ?_
      have hraw : (((u.frameIn ch k f).chan ch).raw) = (u.decodeFrame ch f).pos := congrArg Channel.raw hchan
      rw [ht]
      exact ⟨rfl, congrArg Nat.cast hpos, hraw.trans hpos, rfl, rfl, (congrArg Channel.frmstat hchan).trans hd, congrArg some hpos,
        congrArg Channel.frameRun hchan, congrArg Channel.busyTill hchan⟩
    · refine encoderFrame_jumps hch hrun hs hd (State.frameJumps_of_far (p := p) (e := d) ?_ ?_ ?_ ?_)
      · rw [hchan]; exact hp
      · rw [hjump]; exact h0
      · rw [hbits, hpos]; exact hw
      · rw [hjump]; exact hlt
  · obtain ⟨hd, h0⟩ := State.decodeFrame_bad (ch := ch) hbad
    exact ⟨fun hs hlim => encoderFrame_bad hch hrun hd h0 hs hlim,
      fun hs hc hlim => encoderFrame_badFaults hch hrun hd h0 hs (State.badCause_of hc) hlim,
      fun hs => encoderFrame_badInFault hch hrun hd h0 hs⟩

end Sys2Proof.Machine
end

section
/-! PROOF of O31. The angle of a sin/cos sample, the periods that it completes, and the faults that it may find. -/

namespace Sys2Proof.Machine

/-! ### The range of an angle -/

/-- One halving of `angleFloor`. -/
def halved (p : Nat × Int × Int) (h : Int × Int) : Nat × Int × Int :=
  if 0 ≤ p.2.1 * h.1 - p.2.2 * h.2 then (2 * p.1 + 1, p.2.1 * h.1 - p.2.2 * h.2, p.2.2 * h.1 + p.2.1 * h.2)
  else (2 * p.1, p.2.1 * 2 ^ 96, p.2.2 * 2 ^ 96)

/-- Each halving gives one bit. -/
theorem halved_lt (p : Nat × Int × Int) (h : Int × Int) {n : Nat} (hp : p.1 < 2 ^ n) : (halved p h).1 < 2 ^ (n + 1) := by
  unfold halved
  split <;> simp only [pow_succ] <;> omega

theorem foldl_halved_lt (l : List (Int × Int)) (p : Nat × Int × Int) {n : Nat} (hp : p.1 < 2 ^ n) : (l.foldl halved p).1 < 2 ^ (n + l.length) := by
  induction l generalizing p n with
  | nil => exact hp
  | cons h l ih =>
    have := ih (halved p h) (halved_lt p h hp)
    rwa [Nat.add_right_comm] at this

theorem angleFloor_lt (sn c : Int) : angleFloor sn c < 16384 :=
  (foldl_halved_lt halvings (0, sn, c) (n := 0) Nat.zero_lt_one : (halvings.foldl halved (0, sn, c)).1 < 2 ^ (0 + halvings.length))

theorem quadrant_le (sn c : Int) : (quadrant sn c).1 ≤ 3 := by
  unfold quadrant
  split_ifs <;> simp

theorem angle16_lt (sn c : Int) : angle16 sn c < 65536 := by
  unfold angle16
  extract_lets q n
  have hn : n < 65536 := by
    have hq : q.1 ≤ 3 := quadrant_le sn c
    have hf : angleFloor q.2.1 q.2.2 < 16384 := angleFloor_lt _ _
    have : n = q.1 * 16384 + angleFloor q.2.1 q.2.2 := rfl
    omega
  split_ifs
  · exact Nat.mod_lt _ (by decide)
  · exact hn
  · exact Nat.mod_lt _ (by decide)

theorem State.sincosAngle_lt (s : State) (ch : Nat) (p : Int × Int) : s.sincosAngle ch p < 65536 := angle16_lt _ _

/-! ### A channel with a sample -/

/-- With the amplitude of a sample. -/
def Channel.ampSeen (x : Channel) (whole : Nat) : Channel :=
  { x with amp := min whole 255, ampLow := some (min (min whole 255) (x.ampLow.getD 255)), ampHigh := max (min whole 255) x.ampHigh }

/-- With the samples in succession outside the window, and inside. -/
def Channel.ampJudged (x : Channel) (whole : Nat) (low high : Bool) : Channel :=
  { x.ampSeen whole with
    lowRun := if low then x.lowRun + 1 else 0, highRun := if high then x.highRun + 1 else 0
    goodRun := if low || high then 0 else x.goodRun + 1, sampled := true }

/-- The periods completed when the angle becomes `ang` the shorter way round. -/
def Channel.periodsAt (x : Channel) (ang : Nat) : Int :=
  if x.state = .sync then 0
  else if (x.angle : Int) + diffSpan 65536 ang x.angle < 0 then x.periods - 1
  else if 65536 ≤ (x.angle : Int) + diffSpan 65536 ang x.angle then x.periods + 1
  else x.periods

/-- With the position of a sample taken at edge `t0`, which is `wall` of the wall clock. -/
def Channel.turned (x : Channel) (whole : Nat) (low high : Bool) (ang interp t0 wall : Nat) : Channel :=
  let step := diffSpan 65536 ang x.angle
  let up := if step = 0 then x.stepUp else decide (0 < step)
  let pos := sincosPos interp (x.periodsAt ang) ang
  { x.ampJudged whole low high with
    state := .track, cause := 0, angle := ang, periods := x.periodsAt ang, count := diffSpan (2 ^ 40) pos.1 0, frac := pos.2
    stepUp := up, idxRef := if up == x.stepUp then x.idxRef else none, edgeK := t0, edgeWall := wall }

section
variable {x : Channel} {whole : Nat} {low high : Bool}

/-- Fewer than four samples in succession outside the window. -/
theorem Channel.ampJudged_lowRun (h : low = true → x.lowRun < 3) : ¬4 ≤ (x.ampJudged whole low high).lowRun := by
  simp only [Channel.ampJudged]
  split
  next hl =>
    have := h hl
    omega
  next => decide

theorem Channel.ampJudged_highRun (h : high = true → x.highRun < 3) : ¬4 ≤ (x.ampJudged whole low high).highRun := by
  simp only [Channel.ampJudged]
  split
  next hh =>
    have := h hh
    omega
  next => decide

/-- The sixteenth sample in succession inside the window. -/
theorem Channel.ampJudged_goodRun : 16 ≤ (x.ampJudged whole low high).goodRun ↔ low = false ∧ high = false ∧ 15 ≤ x.goodRun := by
  cases low <;> cases high <;> simp [Channel.ampJudged]

end

/-- The angle and the periods agree with the step taken. -/
theorem Channel.periodsAt_eq {x : Channel} {ang : Nat} {d : Int} (ht : x.state = .track) (ha : x.angle < 65536) (hang : ang < 65536)
    (hd : isWrapped 16 ((ang : Int) - x.angle) d) : 65536 * x.periodsAt ang + ang = 65536 * x.periods + x.angle + d := by
  have hstep : diffSpan 65536 ang x.angle = d := hd.eq_diffSpan (n := 16) (by decide)
  obtain ⟨lo, hi, hmod⟩ := hd
  unfold Channel.periodsAt
  rw [hstep, ht, if_neg (by decide)]
  norm_num at lo hi hmod
  split_ifs <;> omega

/-- The first position after SYNC needs no more than the 16 bits of its angle. -/
theorem sincosPos_first {ang interp : Nat} (hang : ang < 65536) :
    diffSpan (2 ^ 40) (sincosPos interp 0 ang).1 0 = ((ang / 2 ^ (16 - interp) : Nat) : Int) := by
  have h : ang / 2 ^ (16 - interp) ≤ ang := Nat.div_le_self _ _
  simp only [sincosPos, diffSpan, Int.zero_mul]
  generalize ang / 2 ^ (16 - interp) = q at h
  omega

/-! ### The command SINCOS_SAMPLE -/

/-- What the sample says of its channel. -/
structure SinCos where
  whole : Nat
  ang   : Nat
  low   : Bool
  high  : Bool

/-- A sample corrected and measured. -/
def State.sincosOf (u : State) (ch : Nat) (sn cs : Int) (clip : Bool) : SinCos where
  whole := sincosAmp (u.sincosPair ch sn cs)
  ang := u.sincosAngle ch (u.sincosPair ch sn cs)
  low := decide (sincosAmp (u.sincosPair ch sn cs) < u.fld (R.PCSC ch) R.PCSC_AMIN)
  high := clip || decide (u.fld (R.PCSC ch) R.PCSC_AMAX < sincosAmp (u.sincosPair ch sn cs))

/-- The channel with the sample judged. -/
def State.sincosJudged (u : State) (ch : Nat) (m : SinCos) : State := u.setChan ch ((u.chan ch).ampJudged m.whole m.low m.high)

/-- The channel with the sample's position, and the timebases that it feeds. -/
def State.sincosTurned (u : State) (ch k : Nat) (m : SinCos) : State :=
  let interp := u.fld (R.PCSC ch) R.PCSC_INTERP
  let pos := sincosPos interp ((u.chan ch).periodsAt m.ang) m.ang
  (u.fedBy ch).foldl (fun s t => s.feedSample t (pos.1 * 256 + pos.2) (k - 25))
    (u.setChan ch ((u.chan ch).turned m.whole m.low m.high m.ang interp (k - 25) (u.wallPs ((k - 25 : Nat) : Int))))

theorem State.sincosTurned_chan (u : State) (ch k : Nat) (m : SinCos) :
    (u.sincosTurned ch k m).chan ch =
      (u.chan ch).turned m.whole m.low m.high m.ang (u.fld (R.PCSC ch) R.PCSC_INTERP) (k - 25) (u.wallPs ((k - 25 : Nat) : Int)) :=
  (foldl_fed (fun ht h => State.feedSample_fed h ht _ _) .refl u).chan_fed ch |>.trans (u.setChan_chan_self _ _)

theorem State.sincosEvent_eq (s : State) (ch k : Nat) (sn cs : Int) (clip : Bool) :
    s.sincosEvent ch k sn cs clip =
      let u := s.advance k
      let x := u.chan ch
      let m := u.sincosOf ch sn cs clip
      let step := diffSpan 65536 m.ang x.angle
      if (u.chMode ch != 4 || x.state == .off) = true then u
      else if x.state = .fault then u.setChan ch (x.ampSeen m.whole)
      else if 4 ≤ (x.ampJudged m.whole m.low m.high).lowRun then (u.sincosJudged ch m).chFault ch 8
      else if 4 ≤ (x.ampJudged m.whole m.low m.high).highRun then (u.sincosJudged ch m).chFault ch 9
      else if (x.state = .track ∨ x.sampled = true) ∧ 16384 ≤ step.natAbs then (u.sincosJudged ch m).chFault ch 10
      else if x.state = .sync ∧ (x.ampJudged m.whole m.low m.high).goodRun < 16 then
        u.setChan ch { x.ampJudged m.whole m.low m.high with angle := m.ang, periods := 0 }
      else u.sincosTurned ch k m := rfl

section
variable {s : State} {ch k : Nat} {sn cs : Int} {clip : Bool}

/-- A channel that is on takes the sample. -/
theorem State.sincosEvent_on (hm : (s.advance k).fld (R.PCCTL ch) R.PCCTL_MODE = 4) (hoff : ((s.advance k).chan ch).state ≠ .off) :
    s.sincosEvent ch k sn cs clip =
      let u := s.advance k
      let x := u.chan ch
      let m := u.sincosOf ch sn cs clip
      let step := diffSpan 65536 m.ang x.angle
      if x.state = .fault then u.setChan ch (x.ampSeen m.whole)
      else if 4 ≤ (x.ampJudged m.whole m.low m.high).lowRun then (u.sincosJudged ch m).chFault ch 8
      else if 4 ≤ (x.ampJudged m.whole m.low m.high).highRun then (u.sincosJudged ch m).chFault ch 9
      else if (x.state = .track ∨ x.sampled = true) ∧ 16384 ≤ step.natAbs then (u.sincosJudged ch m).chFault ch 10
      else if x.state = .sync ∧ (x.ampJudged m.whole m.low m.high).goodRun < 16 then
        u.setChan ch { x.ampJudged m.whole m.low m.high with angle := m.ang, periods := 0 }
      else u.sincosTurned ch k m := by
  have hm' : (s.advance k).chMode ch = 4 := hm
  rw [State.sincosEvent_eq]
  exact if_neg (by simp [hm', hoff])

/-- A sample that faults its channel leaves the amplitude. -/
theorem sincosSample_faults (hch : ch < s.variant.nLocal) (hs : ((s.advance k).chan ch).state ∈ [ChState.sync, .track]) {cause : Nat}
    (e : s.sincosEvent ch k sn cs clip = ((s.advance k).sincosJudged ch ((s.advance k).sincosOf ch sn cs clip)).chFault ch cause) :
    s.Leads (.sincosSample ch k sn cs clip) (fun t => ChannelFaulted (s.advance k) t ch cause ∧
      (t.chan ch).amp = min ((s.advance k).sincosOf ch sn cs clip).whole 255) := by
  have hc : ((s.advance k).sincosJudged ch ((s.advance k).sincosOf ch sn cs clip)).chan ch = _ := State.setChan_chan_self ..
  have hs' : (((s.advance k).sincosJudged ch ((s.advance k).sincosOf ch sn cs clip)).chan ch).state ∈ [ChState.sync, .track] := by
    rw [hc]; exact hs
  refine .of_done (congrArg (done s) e) fun t ht => ⟨?_, ?_⟩
  · exact ChannelFaulted.of_raised ht (State.advance_local hch k) hs' (by rw [hc]; rfl) rfl rfl rfl
  · rw [ht.chan, State.chFault_chan hs', hc]
    rfl

end

/-- Settles O31, by the state of the channel and what the sample says. -/
theorem sinCosSamplesAreTaken : Obligations.SinCosSamplesAreTaken := by
  intro s ch k sn cs clip hch u x p ang whole low high n does amp calm hm hx d hd
  let m := u.sincosOf ch sn cs clip
  have hlow : m.low = true ↔ low := decide_eq_true_iff
  have hhigh : m.high = true ↔ high := by simp [m, State.sincosOf, high, whole, p]
  have hstep : diffSpan 65536 m.ang x.angle = d := hd.eq_diffSpan (n := 16) (by decide)
  have hang : ang < 65536 := State.sincosAngle_lt ..
  have on (h : x.state ≠ .off) := State.sincosEvent_on (sn := sn) (cs := cs) (clip := clip) hm h
  have lowCalm (h : calm) : ¬4 ≤ (x.ampJudged m.whole m.low m.high).lowRun := Channel.ampJudged_lowRun fun hl => h.1 (hlow.1 hl)
  have highCalm (h : calm) : ¬4 ≤ (x.ampJudged m.whole m.low m.high).highRun := Channel.ampJudged_highRun fun hh => h.2 (hhigh.1 hh)
  have live (h : x.state ∈ [ChState.sync, .track]) : x.state ≠ .off ∧ x.state ≠ .fault := by
    constructor <;> intro e <;> simp [e] at h
  have near (hs : x.state ∈ [ChState.sync, .track]) (hcalm : calm) (hn : x.state = .track ∨ x.sampled = true → d.natAbs < 16384) :=
    (on (live hs).1).trans ((if_neg (live hs).2).trans ((if_neg (lowCalm hcalm)).trans ((if_neg (highCalm hcalm)).trans
      (if_neg fun h => absurd (hn h.1) (Nat.not_lt.2 (hstep ▸ h.2))))))
  refine ⟨fun hs hl hr => ?_, fun hs hl hh hr => ?_, fun hs hcalm hfar => ?_, fun hs hcalm hnear => ⟨fun hc => ?_, fun hl hh hr h2 h10 => ?_⟩,
    fun hs hcalm hnear h2 h10 => ?_, fun hs => ?_, fun hs => ?_⟩
  · obtain ⟨hoff, hfault⟩ := live hs
    have h4 : 4 ≤ (x.ampJudged m.whole m.low m.high).lowRun := by
      simp only [Channel.ampJudged, hlow.2 hl, if_true]
      omega
    exact sincosSample_faults hch hs ((on hoff).trans ((if_neg hfault).trans (if_pos h4)))
  · obtain ⟨hoff, hfault⟩ := live hs
    have h4 : 4 ≤ (x.ampJudged m.whole m.low m.high).highRun := by
      simp only [Channel.ampJudged, hhigh.2 hh, if_true]
      omega
    have hn := Channel.ampJudged_lowRun (x := x) (whole := m.whole) (high := m.high) fun h => absurd (hlow.1 h) hl
    exact sincosSample_faults hch hs ((on hoff).trans ((if_neg hfault).trans ((if_neg hn).trans (if_pos h4))))
  · have hs' : x.state ∈ [ChState.sync, .track] := by rcases hs with h | ⟨h, -⟩ <;> simp [h]
    obtain ⟨hoff, hfault⟩ := live hs'
    have hj : (x.state = .track ∨ x.sampled = true) ∧ 16384 ≤ (diffSpan 65536 m.ang x.angle).natAbs :=
      ⟨hs.imp_right And.right, hstep.symm ▸ hfar⟩
    exact sincosSample_faults hch hs'
      ((on hoff).trans ((if_neg hfault).trans ((if_neg (lowCalm hcalm)).trans ((if_neg (highCalm hcalm)).trans (if_pos hj)))))
  · have hg : ¬16 ≤ (x.ampJudged m.whole m.low m.high).goodRun := fun h => by
      obtain ⟨h1, h2, h3⟩ := Channel.ampJudged_goodRun.1 h
      rcases hc with h | h | h
      · rw [hlow.2 h] at h1; cases h1
      · rw [hhigh.2 h] at h2; cases h2
      · omega
    have e := (near (by simp [hs]) hcalm fun h => hnear (h.resolve_left (by simp [hs]))).trans (if_pos ⟨hs, Nat.not_le.1 hg⟩)
    refine .of_done (congrArg (done s) e) fun t ht => ?_
    have hgood : (if low ∨ high then 0 else x.goodRun + 1) = if (m.low || m.high) = true then 0 else x.goodRun + 1 :=
      if_congr (by rw [Bool.or_eq_true, hlow, hhigh]) rfl rfl
    change (t.chan ch).state = _ ∧ (t.chan ch).count = _ ∧ (t.chan ch).amp = _ ∧ (t.chan ch).goodRun = _ ∧ (t.chan ch).angle = _
    rw [ht.chan, State.setChan_chan_self, hgood]
    exact ⟨hs, rfl, rfl, rfl, rfl⟩
  · have hg : 16 ≤ (x.ampJudged m.whole m.low m.high).goodRun :=
      Channel.ampJudged_goodRun.2 ⟨Bool.eq_false_iff.2 (hlow.not.2 hl), Bool.eq_false_iff.2 (hhigh.not.2 hh), hr⟩
    have e := (near (by simp [hs]) hcalm fun h => hnear (h.resolve_left (by simp [hs]))).trans (if_neg fun h => Nat.not_le.2 h.2 hg)
    refine .of_done (congrArg (done s) e) fun t ht => ?_
    have hc := (ht.chan ch).trans (u.sincosTurned_chan ch k m)
    refine ⟨congrArg Channel.state hc, congrArg Channel.cause hc, congrArg Channel.amp hc, congrArg Channel.angle hc, ?_⟩
    have hp : x.periodsAt m.ang = 0 := if_pos hs
    refine (congrArg Channel.count hc).trans ?_
    change diffSpan (2 ^ 40) (sincosPos n (x.periodsAt m.ang) m.ang).1 0 = _
    rw [hp]
    exact sincosPos_first hang
  · have e := (near (by simp [hs]) hcalm fun _ => hnear).trans (if_neg fun h => absurd (hs.symm.trans h.1) (by decide))
    refine .of_done (congrArg (done s) e) fun t ht => ?_
    have hc := (ht.chan ch).trans (u.sincosTurned_chan ch k m)
    have hper : (t.chan ch).periods = x.periodsAt m.ang := congrArg Channel.periods hc
    have hcount : (t.chan ch).count = wrap40 (sincosPos n (x.periodsAt m.ang) m.ang).1 := congrArg Channel.count hc
    refine ⟨congrArg Channel.state hc, congrArg Channel.angle hc, congrArg Channel.amp hc, congrArg Channel.edgeK hc, ?_, ?_,
      congrArg Channel.frac hc⟩
    · rw [hper]
      exact Channel.periodsAt_eq hs hx hang hd
    · rw [hper, hcount]
      exact_mod_cast wrap40_isWrapped _
  · have e := (on (by simp [hs])).trans (if_pos hs)
    refine .of_done (congrArg (done s) e) fun t ht => ?_
    change (t.chan ch).amp = _ ∧ (t.chan ch).state = _ ∧ (t.chan ch).count = _ ∧ (t.chan ch).cause = _
    rw [ht.chan, State.setChan_chan_self]
    exact ⟨rfl, hs, rfl, rfl⟩
  · exact .of_done (congrArg (done s) ((s.sincosEvent_eq ch k sn cs clip).trans (if_pos (by simp [hs, x, u])))) rfl

end Sys2Proof.Machine
end

section
/-! PROOF of O32. The comparator's switch, the crossings of the mains and their use by timebase 28, and the loss. -/

namespace Sys2Proof.Machine

/-! ### Timebase 28 after a crossing -/

section
variable (s : State) (t : Nat)

/-- A word that moves leaves state, REF and DISCGEN. -/
theorem State.moveTo_tb (w : Int) : ∃ word wrap rev, (s.moveTo t w).tb t = { s.tb t with word := word, wrap := wrap, rev := rev } := by
  unfold State.moveTo
  extract_lets x m dst hi lo passes y wrapped
  split
  · exact ⟨_, _, _, s.setTb_tb_self ..⟩
  split
  · have e : wrapped.tb t = { y with wrap := true } := s.setTb_tb_self ..
    split
    · exact ⟨_, _, _, (wrapped.arrive_tb _ _).trans e⟩
    · exact ⟨_, _, _, e⟩
  · exact ⟨_, _, _, s.setTb_tb_self ..⟩

theorem State.jumpTo_tb (w : Int) :
    (s.jumpTo t w).tb t =
      { s.tb t with
        hold := false, word := normWord ((s.setTb t { s.tb t with hold := false }).modulus t) w
        discgen := ((s.tb t).discgen + 1) % 256, disc := true } := by
  simp only [State.jumpTo, State.placeAt, State.signalDisc, State.setTb_tb_self]

theorem State.setVel_tb (v : Int) :
    ∃ down zeroK still, (s.setVel t v).tb t = { s.tb t with vel := v, down := down, zeroK := zeroK, still := still } := by
  unfold State.setVel
  extract_lets x quad down zeroK y set
  have e : set.tb t = y := s.setTb_tb_self ..
  split
  · exact ⟨_, _, _, (set.arrive_tb _ _).trans e⟩
  · exact ⟨_, _, _, e⟩

end

/-- What a crossing that is used makes of timebase 28: it runs with its reference at the velocity of the period. -/
structure MainsTb (x y : Timebase) (p : Nat) (disc : Bool) : Prop where
  state : y.state = .run
  ref : y.ref = true
  vel : y.vel = ((2 ^ 48 / max p 1 : Nat) : Int)
  discgen : y.discgen = if disc then (x.discgen + 1) % 256 else x.discgen

/-- The cycles that fit between the crossing in use and one stamped `st`. -/
def Mains.advance (x : Mains) (st : Int) (resumed : Bool) : Int :=
  match x.useK with
  | none => 0
  | some s0 => max (roundHalf (st - s0) x.useP) (if resumed then 0 else 1)

/-- A resumption, or more than one cycle, is a discontinuity. -/
def Mains.disc (x : Mains) (st : Int) (resumed : Bool) : Bool := (resumed && x.useK.isSome) || decide (1 < x.advance st resumed)

section
variable (s : State) (st : Int) (p : Nat) (resumed : Bool)

/-- The state in which the crossing is in use, before timebase 28 moves. -/
def State.mainsUsed : State :=
  { s with mains := { s.mains with cycle := s.mains.cycle + s.mains.advance st resumed, useK := some st, useP := p } }.setTb 28
    { s.tb 28 with state := .run, cause := 0, ref := true, holding := false }

theorem State.mainsUse_eq :
    s.mainsUse st p resumed =
      let u := s.mainsUsed st p resumed
      let w := (u.formTb 28 u.now).1
      (if s.mains.disc st resumed then u.jumpTo 28 w
        else (u.moveTo 28 w).setTb 28 { (u.moveTo 28 w).tb 28 with fresh := true }).setVel 28 ((2 ^ 48 / max p 1 : Nat) : Int) := rfl

theorem State.mainsUse_fed : Frame.fed.Only fedReg (s.mainsUsed st p resumed) (s.mainsUse st p resumed) := by
  rw [State.mainsUse_eq]
  exact State.setVel_fed (.ite _ (State.jumpTo_fed .refl _ _) (State.setTb_fed (State.moveTo_fed .refl (by decide) _) _ _)) (by decide) _

theorem State.mainsUse_mains : (s.mainsUse st p resumed).mains =
    { s.mains with cycle := s.mains.cycle + s.mains.advance st resumed, useK := some st, useP := p } :=
  (s.mainsUse_fed st p resumed).mains_fed

/-- The registers of the mains block stay. -/
theorem State.mainsUse_rd {a : Nat} (h : ¬fedReg a) : (s.mainsUse st p resumed).rd a = s.rd a := (s.mainsUse_fed st p resumed).rd h

theorem State.mainsUse_tb : MainsTb (s.tb 28) ((s.mainsUse st p resumed).tb 28) p (s.mains.disc st resumed) := by
  rw [State.mainsUse_eq]
  extract_lets u w
  have hu : u.tb 28 = { s.tb 28 with state := .run, cause := 0, ref := true, holding := false } := State.setTb_tb_self ..
  obtain ⟨word, wrap, rev, hm⟩ := u.moveTo_tb 28 w
  split
  next hd =>
    obtain ⟨_, _, _, e⟩ := (u.jumpTo 28 w).setVel_tb 28 ((2 ^ 48 / max p 1 : Nat) : Int)
    rw [e, State.jumpTo_tb, hu]
    exact ⟨rfl, rfl, rfl, by rw [hd]; rfl⟩
  next hd =>
    obtain ⟨_, _, _, e⟩ := ((u.moveTo 28 w).setTb 28 { (u.moveTo 28 w).tb 28 with fresh := true }).setVel_tb 28 ((2 ^ 48 / max p 1 : Nat) : Int)
    rw [e, State.setTb_tb_self, hm, hu]
    exact ⟨rfl, rfl, rfl, by rw [Bool.eq_false_iff.2 hd]; rfl⟩

end

/-! ### The state of the mains block -/

theorem State.mzState_eq {s : State} {st : MzState} (h : st ≠ s.mains.state) :
    s.mzState st = ({ s with mains := { s.mains with state := st } }.setFld R.MZSTAT R.MZSTAT_STATE st.code).arrive 0x90 := if_neg h

section
variable {s : State} {st : MzState} (h : st ≠ s.mains.state)
include h

theorem State.mzState_mains : (s.mzState st).mains = { s.mains with state := st } := by
  rw [State.mzState_eq h]
  have k : Frame.onRegs.Only (fun _ => True) _ (State.arrive ({ s with mains := { s.mains with state := st } }.setFld R.MZSTAT R.MZSTAT_STATE st.code)
    0x90) := Frame.Only.refl.arrive trivial trivial
  exact k.keep State.mains fun _ => rfl

theorem State.mzState_tb (i : Nat) : (s.mzState st).tb i = s.tb i := by
  rw [State.mzState_eq h, State.arrive_tb]
  rfl

theorem State.mzState_stat : (s.mzState st).fld R.MZSTAT R.MZSTAT_STATE = st.code := by
  rw [State.mzState_eq h, State.fld_arrive_ne _ _ (by decide), State.fld_setFld_self _ _ _ _ (by decide)]
  cases st <;> rfl

theorem State.mzState_irq :
    (s.mzState st).fld (R.IRQCNT 0x90) R.IRQCNT_COUNT = min 15 (s.fld (R.IRQCNT 0x90) R.IRQCNT_COUNT + 1) := by
  rw [State.mzState_eq h, State.fld_arrive_self (n := 0x90) rfl (by decide)]
  rw [State.fld_setFld_ne _ _ _ _ (by decide)]
  rfl

theorem State.mzState_fld {a : Nat} (f : F) (ha : a ≠ R.MZSTAT ∧ a ≠ R.IRQCNT 0x90 ∧ a ≠ R.IRQLOST) : (s.mzState st).fld a f = s.fld a f := by
  rw [State.mzState_eq h, State.fld_arrive_ne _ _ ha.2, State.fld_setFld_ne _ _ _ _ ha.1]
  rfl

end

/-! ### Crossings -/

/-- The comparator output that rises at `rise` and stays high for `high` PSCLK is a crossing (R87). -/
def State.Crosses (u : State) (rise : Int) (high : Nat) : Prop :=
  200 * u.fld R.MZCTL R.MZCTL_MZFILT ≤ high ∧ ∀ r0, u.mains.riseK = some r0 → 20000 * (u.fld R.MZCTL R.MZCTL_MZBLANK : Int) ≤ rise - r0

/-- The period since the crossing before, for a crossing stamped `st`. -/
def Mains.period (x : Mains) (st : Int) : Option Nat := x.refK.map (fun r => (st - r).toNat)

/-- A period lies in the range of MZWIN (R87). -/
def State.mainsInRange (u : State) (p : Nat) : Bool :=
  decide (200 * u.fld R.MZWIN R.MZWIN_PMIN ≤ p ∧ p ≤ 200 * u.fld R.MZWIN R.MZWIN_PMAX)

/-- The state in which a crossing is noted as the reference of the next period. -/
def State.mainsNoted (u : State) (k : Nat) (rise st : Int) (run : Nat) : State :=
  { u with mains := { u.mains with stampW := wrapN 64 (u.wallPs st), refK := some st, riseK := some rise, runLen := run, sinceK := k } }

/-- The state in which a crossing with a period in range is taken. -/
def State.mainsMeasured (u : State) (k : Nat) (rise st : Int) (p : Nat) : State :=
  (u.mainsNoted k rise st (u.mains.runLen + 1)).wr R.MZPER (BitVec.ofNat 32 p)

/-- The state in which a crossing is taken, by the period since the one before and its range. -/
def State.mainsTaken (u : State) (k : Nat) (rise st : Int) (per : Option Nat) (inr : Bool) : State :=
  let w := u.mainsNoted k rise st (if inr then u.mains.runLen + 1 else 0)
  let w := match per with
    | some p => w.wr R.MZPER (BitVec.ofNat 32 p)
    | none => w
  let w := if per.isSome && !inr then w.setFld R.MZSTAT R.MZSTAT_OUTRANGE 1 else w
  if !inr then w
  else if u.mains.state = .track then w.mainsUse st (per.getD 0) false
  else if 2 ≤ (if inr then u.mains.runLen + 1 else 0) then (w.mzState .track).mainsUse st (per.getD 0) true
  else w

/-- The range of a period, if there is one. -/
def State.mainsRange (u : State) : Option Nat → Bool
  | some p => u.mainsInRange p
  | none => false

/-- The comparator's output is blanked. -/
def State.mainsBlanked (u : State) (rise : Int) : Bool :=
  match u.mains.riseK with
  | some r => decide (rise - r < (20000 * u.fld R.MZCTL R.MZCTL_MZBLANK : Nat))
  | none => false

/-- The stamp of a crossing, corrected by MZSKEW. -/
def State.mainsStamp (u : State) (stamp : Int) : Int := stamp + sx 24 (u.fld R.MZSKEW R.MZSKEW_SKEW)

section
variable {s : State} {k : Nat} {rise stamp : Int} {high : Nat}

theorem State.mainsCrossing_eq (s : State) (k : Nat) (rise stamp : Int) (high : Nat) :
    s.mainsCrossing k rise stamp high =
      let u := s.advance k
      let st := u.mainsStamp stamp
      if u.mains.state = .off ∨ u.mainsBlanked rise = true ∨ high < 200 * u.fld R.MZCTL R.MZCTL_MZFILT then u
      else u.mainsTaken k rise st (u.mains.period st) (u.mainsRange (u.mains.period st)) := rfl

theorem State.crosses_iff {u : State} :
    u.Crosses rise high ↔ ¬(u.mainsBlanked rise = true ∨ high < 200 * u.fld R.MZCTL R.MZCTL_MZFILT) := by
  unfold State.Crosses State.mainsBlanked
  cases u.mains.riseK with
  | none => simp
  | some r => simp [not_or, and_comm]

theorem State.mainsCrossing_none (h : (s.advance k).mains.state = .off ∨ ¬(s.advance k).Crosses rise high) :
    s.mainsCrossing k rise stamp high = s.advance k := by
  rw [State.crosses_iff, not_not] at h
  exact (s.mainsCrossing_eq ..).trans (if_pos h)

section
variable (hoff : (s.advance k).mains.state ≠ .off) (hc : (s.advance k).Crosses rise high)
include hoff hc

theorem State.mainsCrossing_taken {per : Option Nat} (hp : (s.advance k).mains.period ((s.advance k).mainsStamp stamp) = per) :
    s.mainsCrossing k rise stamp high =
      (s.advance k).mainsTaken k rise ((s.advance k).mainsStamp stamp) per ((s.advance k).mainsRange per) :=
  hp ▸ (s.mainsCrossing_eq ..).trans (if_neg fun h => h.elim hoff (State.crosses_iff.1 hc))

/-- The first crossing. -/
theorem State.mainsCrossing_first (h : (s.advance k).mains.refK = none) :
    s.mainsCrossing k rise stamp high = (s.advance k).mainsNoted k rise ((s.advance k).mainsStamp stamp) 0 := by
  have hp : (s.advance k).mains.period ((s.advance k).mainsStamp stamp) = none := by rw [Mains.period, h]; rfl
  exact State.mainsCrossing_taken hoff hc hp

section
variable {p : Nat} (hp : (s.advance k).mains.period ((s.advance k).mainsStamp stamp) = some p)
include hp

/-- A crossing whose period is out of range. -/
theorem State.mainsCrossing_out (h : (s.advance k).mainsInRange p = false) :
    s.mainsCrossing k rise stamp high = (((s.advance k).mainsNoted k rise ((s.advance k).mainsStamp stamp) 0).wr R.MZPER
      (BitVec.ofNat 32 p)).setFld R.MZSTAT R.MZSTAT_OUTRANGE 1 := by
  rw [State.mainsCrossing_taken hoff hc hp, show (s.advance k).mainsRange (some p) = false from h]
  rfl

/-- A crossing in TRACK. -/
theorem State.mainsCrossing_track (h : (s.advance k).mainsInRange p = true) (ht : (s.advance k).mains.state = .track) :
    s.mainsCrossing k rise stamp high =
      ((s.advance k).mainsMeasured k rise ((s.advance k).mainsStamp stamp) p).mainsUse ((s.advance k).mainsStamp stamp) p false := by
  rw [State.mainsCrossing_taken hoff hc hp, show (s.advance k).mainsRange (some p) = true from h]
  exact if_pos ht

/-- The second crossing in range in succession, in SYNC or LOST. -/
theorem State.mainsCrossing_resumes (h : (s.advance k).mainsInRange p = true) (ht : (s.advance k).mains.state ≠ .track)
    (hr : 1 ≤ (s.advance k).mains.runLen) :
    s.mainsCrossing k rise stamp high =
      (((s.advance k).mainsMeasured k rise ((s.advance k).mainsStamp stamp) p).mzState .track).mainsUse ((s.advance k).mainsStamp stamp) p true := by
  rw [State.mainsCrossing_taken hoff hc hp, show (s.advance k).mainsRange (some p) = true from h]
  exact (if_neg ht).trans (if_pos (Nat.succ_le_succ hr))

end
end
end

/-! ### The requests -/

/-- A field whose bits a mask keeps. -/
theorem F.get_and_mask (f : F) (v m : Word) (h : ∀ i, i < f.w → m.getLsbD (f.lo + i) = true) : f.get (v &&& m) = f.get v := by
  refine Nat.eq_of_testBit_eq fun i => ?_
  rw [F.testBit_get, F.testBit_get, BitVec.getLsbD_and]
  by_cases hi : i < f.w
  · rw [h i hi, Bool.and_true]
  · simp [hi]

/-- The state in which EN has been written. -/
def State.mzctlPut (s : State) (w : Who) (v : Word) : State :=
  (s.wr R.MZCTL (v &&& wmaskAt R.MZCTL)).logCfg w R.MZCTL (s.rd R.MZCTL) (v &&& wmaskAt R.MZCTL)

theorem mzctl_shared : sharedAddr R.MZCTL := by decide

theorem State.regWrite_mzctl (s : State) (w : Who) (v : Word) : (s.regWrite w R.MZCTL v).1 = s.mzctlWrite w v := rfl

section
variable (s : State) (w : Who) (v : Word)

theorem State.mzctlPut_rd : (s.mzctlPut w v).rd R.MZCTL = v &&& wmaskAt R.MZCTL := by
  rw [State.mzctlPut, (State.logCfg_logbook ..).rd (by decide), State.rd_wr_self]

theorem State.mzctlPut_keep {α : Type} (g : State → α) (hg : ∀ t, g (Frame.logbook.upd t s) = g s) : g (s.mzctlPut w v) = g s := by
  have h : Frame.logbook.Only (fun a => logReg a ∨ a = R.MZCTL) s (s.mzctlPut w v) :=
    (Frame.Only.refl.wr _ (.inr rfl)).trans ((State.logCfg_logbook ..).mono fun _ => .inl)
  exact h.keep g hg

theorem State.mzctlPut_fld {a : Nat} (f : F) (ha : ¬logReg a ∧ a ≠ R.MZCTL) : (s.mzctlPut w v).fld a f = s.fld a f := by
  have h : Frame.logbook.Only (fun a => logReg a ∨ a = R.MZCTL) s (s.mzctlPut w v) :=
    (Frame.Only.refl.wr _ (.inr rfl)).trans ((State.logCfg_logbook ..).mono fun _ => .inl)
  exact h.fld f (by simpa using ha)

end

/-- EN is set while the block is off. -/
theorem State.mzctlWrite_on {s : State} {w : Who} {v : Word} (hv : R.MZCTL_EN.get v = 1) (h : s.mains.state = .off) :
    s.mzctlWrite w v =
      let u := s.mzctlPut w v
      ({ u with mains := { u.mains with runLen := 0, refK := none, riseK := none, sinceK := u.now } }.setTb 28
        { (u.tb 28).stopped u.now with state := .run, cause := 0, holding := true }).mzState .sync := by
  have e : (s.mzctlPut w v).mains = s.mains := s.mzctlPut_keep w v State.mains fun _ => rfl
  unfold State.mzctlWrite
  extract_lets old nv u x y tb
  rw [if_pos hv, if_pos (show x.state = .off from (congrArg Mains.state e).trans h)]
  rfl

/-- EN is cleared while the block is on. -/
theorem State.mzctlWrite_off {s : State} {w : Who} {v : Word} (hv : R.MZCTL_EN.get v ≠ 1) (h : s.mains.state ≠ .off) :
    s.mzctlWrite w v = ((s.mzctlPut w v).mzState .off).tbOff 28 := by
  have e : (s.mzctlPut w v).mains = s.mains := s.mzctlPut_keep w v State.mains fun _ => rfl
  unfold State.mzctlWrite
  extract_lets old nv u x y tb
  rw [if_neg hv, if_neg (show ¬x.state = .off from fun n => h ((congrArg Mains.state e).symm.trans n))]
  rfl

/-- An access changes the counter of MAINS by its register only: what it tells the owner of a block has other sources. -/
theorem State.stateChg_mainsIrq (s : State) (l a : Nat) (f : F) : (s.stateChg l a).fld (R.IRQCNT 0x90) f = s.fld (R.IRQCNT 0x90) f := by
  have haddr : R.IRQCNT 0x90 ≠ R.STCHGADDR l := by simp only [R.IRQCNT, R.STCHGADDR]; omega
  rw [State.stateChg, State.fld_arrive_ne _ _ (by simp only [R.IRQCNT, R.IRQLOST]; omega),
    State.fld_count_ne _ _ _ _ (by simp only [R.IRQCNT, R.STCHGCNT]; omega)]
  exact congrArg f.get (State.rd_wr_ne _ _ _ _ haddr)

theorem State.busWrite_mainsIrq (s : State) (w : Who) (a : Nat) (v : Word) (f : F) :
    (s.busWrite w a v).fld (R.IRQCNT 0x90) f = (s.regWrite w a v).1.fld (R.IRQCNT 0x90) f := by
  unfold State.busWrite
  extract_lets r
  split
  · rfl
  split
  · split
    · exact State.stateChg_mainsIrq _ _ _ _
    · rfl
  · rfl

theorem State.Reaches.request_mainsIrq {s : State} {r : Rq} {a : Nat} {v : Word} (h : s.Reaches r a v) (ha : sharedAddr a) (f : F) :
    (s.request r a v).fld (R.IRQCNT 0x90) f = ((s.entered r a v).regWrite (s.asker r) a v).1.fld (R.IRQCNT 0x90) f := by
  cases r with
  | core l =>
    rw [h.request_core (ha.2 l h.1)]
    exact s.busWrite_mainsIrq _ _ _ _
  | staff =>
    rw [h.request_staff ha.1]
    exact State.busWrite_mainsIrq _ _ _ _ _

theorem State.entered_mains (s : State) (r : Rq) (a : Nat) (v : Word) : (s.entered r a v).mains = s.mains := by cases r <;> rfl

/-- A command that makes a request, with the counter of MAINS. -/
theorem does_with_mainsIrq {s : State} {r : Rq} {a : Nat} {v : Word} {i : Instr} {P : State → Prop}
    (hi : exec i s = done s (s.request r a v)) (ha : sharedAddr a)
    (hP : ∀ t, Frame.asked.Only askReg ((s.entered r a v).regWrite (s.asker r) a v).1 t →
      (∀ f, t.fld (R.IRQCNT 0x90) f = ((s.entered r a v).regWrite (s.asker r) a v).1.fld (R.IRQCNT 0x90) f) → P t) : s.Does r a v i P := by
  intro h
  refine State.Leads.of_done hi fun t ht => ?_
  have hr := (raised_iff _ _).1 ht
  refine hP t ((h.request_asks ha).regsAt (hr.mono fun _ => settleReg.askReg)) fun f => ?_
  rw [hr.fld f (by simp only [settleReg, R.IRQCNT, R.IRQLOST]; omega), h.request_mainsIrq ha]

/-- MAINS_ENABLE. -/
theorem mainsEnable_does {s : State} {r : Rq} (h : s.mains.state = .off) :
    s.Does r R.MZCTL (R.MZCTL_EN.put (s.rd R.MZCTL) 1) (.mainsEnable r) (fun t =>
      t.mains.state = .sync ∧ t.fld R.MZSTAT R.MZSTAT_STATE = 1 ∧ t.fld R.MZCTL R.MZCTL_EN = 1 ∧ (t.tb 28).state = .run ∧
      t.fld (R.IRQCNT 0x90) R.IRQCNT_COUNT = min 15 (s.fld (R.IRQCNT 0x90) R.IRQCNT_COUNT + 1)) := by
  refine does_with_mainsIrq rfl mzctl_shared fun t ht hirq => ?_
  let v := R.MZCTL_EN.put (s.rd R.MZCTL) 1
  let e := s.entered r R.MZCTL v
  let u := e.mzctlPut (s.asker r) v
  let w := { u with mains := { u.mains with runLen := 0, refK := none, riseK := none, sinceK := u.now } }.setTb 28
    { (u.tb 28).stopped u.now with state := .run, cause := 0, holding := true }
  have hen : R.MZCTL_EN.get v = 1 := F.get_put_self _ _ _ (by decide)
  have hmains : u.mains = s.mains := (e.mzctlPut_keep (s.asker r) v State.mains fun _ => rfl).trans (s.entered_mains ..)
  have hw : (e.regWrite (s.asker r) R.MZCTL v).1 = w.mzState .sync := by
    rw [State.regWrite_mzctl, State.mzctlWrite_on hen (by rw [State.entered_mains]; exact h)]
  have hst : MzState.sync ≠ w.mains.state := fun n => absurd (n.trans ((congrArg Mains.state hmains).trans h)) (by decide)
  have hctl : w.fld R.MZCTL R.MZCTL_EN = 1 := by
    have e1 : w.rd R.MZCTL = v &&& wmaskAt R.MZCTL := e.mzctlPut_rd (s.asker r) v
    have keep : R.MZCTL_EN.get (v &&& wmaskAt R.MZCTL) = R.MZCTL_EN.get v := F.get_and_mask _ _ _ (by decide)
    exact (congrArg R.MZCTL_EN.get e1).trans (keep.trans hen)
  have hcnt : w.fld (R.IRQCNT 0x90) R.IRQCNT_COUNT = s.fld (R.IRQCNT 0x90) R.IRQCNT_COUNT :=
    (e.mzctlPut_fld (s.asker r) v R.IRQCNT_COUNT (a := R.IRQCNT 0x90) (by decide)).trans (congrArg _ (s.entered_rd ..))
  rw [hw] at ht hirq
  refine ⟨?_, ?_, ?_, ?_, ?_⟩
  · rw [ht.keep State.mains fun _ => rfl, State.mzState_mains hst]
  · rw [ht.fld _ (by decide), State.mzState_stat hst]
    rfl
  · rw [ht.fld _ (by decide), State.mzState_fld hst _ (by decide), hctl]
  · rw [ht.keep (State.tb · 28) fun _ => rfl, State.mzState_tb hst]
    exact congrArg Timebase.state (State.setTb_tb_self ..)
  · rw [hirq, State.mzState_irq hst, hcnt]

/-- MAINS_DISABLE. -/
theorem mainsDisable_does {s : State} {r : Rq} (h : s.mains.state ≠ .off) :
    s.Does r R.MZCTL (R.MZCTL_EN.put (s.rd R.MZCTL) 0) (.mainsDisable r) (fun t =>
      t.mains.state = .off ∧ t.fld R.MZSTAT R.MZSTAT_STATE = 0 ∧ (t.tb 28).state = .off ∧ (t.tb 28).word = (s.tb 28).word) := by
  refine does_of_request rfl mzctl_shared fun _ t ht => ?_
  let v := R.MZCTL_EN.put (s.rd R.MZCTL) 0
  let e := s.entered r R.MZCTL v
  let u := e.mzctlPut (s.asker r) v
  have hen : R.MZCTL_EN.get v = 0 := F.get_put_self _ _ _ (by decide)
  have hmains : u.mains = s.mains := (e.mzctlPut_keep (s.asker r) v State.mains fun _ => rfl).trans (s.entered_mains ..)
  have htb : u.tb 28 = s.tb 28 := (e.mzctlPut_keep (s.asker r) v (State.tb · 28) fun _ => rfl).trans (s.entered_tb ..)
  have hw : (e.regWrite (s.asker r) R.MZCTL v).1 = (u.mzState .off).tbOff 28 := by
    rw [State.regWrite_mzctl, State.mzctlWrite_off (by rw [hen]; decide) (by rw [State.entered_mains]; exact h)]
  have hst : MzState.off ≠ u.mains.state := fun n => h ((congrArg Mains.state hmains).symm.trans n.symm)
  have hfed := State.tbOff_fed (.refl (s := u.mzState .off)) (t := 28) (by decide)
  obtain ⟨hoff, hword⟩ := (u.mzState .off).tbOff_tb 28
  rw [hw] at ht
  have htb' := ht.keep (State.tb · 28) fun _ => rfl
  refine ⟨?_, ?_, (congrArg Timebase.state htb').trans hoff, ?_⟩
  · rw [ht.keep State.mains fun _ => rfl, hfed.mains_fed, State.mzState_mains hst]
  · rw [ht.fld _ (by decide), hfed.fld _ (by decide), State.mzState_stat hst]
    rfl
  · rw [congrArg Timebase.word htb', hword, State.mzState_tb hst, htb]

/-! ### The loss -/

/-- The mains are lost when no crossing has come for MZLOSS. -/
theorem State.mainsLoss_eq {u : State} {k : Nat} (hs : u.mains.state ∈ [MzState.sync, .track]) (h0 : u.fld R.MZLOSS R.MZLOSS_LOSS ≠ 0)
    (hk : u.mains.sinceK + 8 * u.fld R.MZLOSS R.MZLOSS_LOSS ≤ k) :
    u.mainsLoss k = ({ u with mains := { u.mains with runLen := 0, refK := none } }.mzState .lost).tbFault 28 2 := by
  unfold State.mainsLoss
  extract_lets x loss lost
  exact if_pos (by simpa [x, loss, h0, hk] using hs)

theorem mainsLoss_leads {s : State} {k : Nat} (hs : (s.advance k).mains.state ∈ [MzState.sync, .track])
    (h0 : (s.advance k).fld R.MZLOSS R.MZLOSS_LOSS ≠ 0)
    (hk : (s.advance k).mains.sinceK + 8 * (s.advance k).fld R.MZLOSS R.MZLOSS_LOSS ≤ k) :
    s.Leads (.mainsLoss k) (fun t => t.mains.state = .lost ∧ t.fld R.MZSTAT R.MZSTAT_STATE = 3 ∧
      (((s.advance k).tb 28).state = .run → (t.tb 28).state = .fault ∧ (t.tb 28).cause = 2 ∧ (t.tb 28).word = ((s.advance k).tb 28).word)) := by
  let u := s.advance k
  let w := { u with mains := { u.mains with runLen := 0, refK := none } }
  have hst : MzState.lost ≠ w.mains.state := fun n => by
    have : u.mains.state = .lost := n.symm
    rw [this] at hs
    exact absurd hs (by decide)
  have hfed := State.tbFault_fed (.refl (s := w.mzState .lost)) (t := 28) (by decide) 2
  refine .of_done (congrArg (done s) (State.mainsLoss_eq hs h0 hk)) fun t ht => ⟨?_, ?_, fun hrun => ?_⟩
  · rw [ht.keep State.mains fun _ => rfl, hfed.mains_fed, State.mzState_mains hst]
  · rw [ht.fld_pos _ (by decide), hfed.fld _ (by decide), State.mzState_stat hst]
    rfl
  · rw [ht.tb, State.tbFault_tb_self 2 (by rw [State.mzState_tb hst]; exact hrun), State.mzState_tb hst]
    exact ⟨rfl, rfl, rfl⟩

/-! ### The obligation -/

/-- The period between a reference and a later stamp. -/
theorem Mains.period_of {x : Mains} {st : Int} {p : Nat} (h : ∃ r0, x.refK = some r0 ∧ st = r0 + p) : x.period st = some p := by
  obtain ⟨r0, hr, rfl⟩ := h
  simp [Mains.period, hr]

/-- The rounded number of cycles, of at least one. -/
theorem Mains.advance_fit {x : Mains} {st s0 : Int} (h : x.useK = some s0) (hp : 0 < x.useP) :
    x.advance st false = max ((2 * (st - s0) + x.useP) / (2 * x.useP)) 1 := by
  have e : max x.useP 1 = x.useP := max_eq_left hp
  simp [Mains.advance, h, roundHalf, e]

/-- After a crossing has been used. -/
theorem Raised.mainsUse {w t : State} {st : Int} {p : Nat} {resumed : Bool} (h : Raised (w.mainsUse st p resumed) t) :
    MainsTb (w.tb 28) (t.tb 28) p (w.mains.disc st resumed) ∧
      t.mains = { w.mains with cycle := w.mains.cycle + w.mains.advance st resumed, useK := some st, useP := p } := by
  rw [h.tb]
  exact ⟨w.mainsUse_tb st p resumed, (h.keep State.mains fun _ => rfl).trans (w.mainsUse_mains st p resumed)⟩

/-- A resumption without a crossing in use begins cycle 0. -/
theorem Mains.disc_first {x : Mains} {st : Int} (h : x.useK = none) : x.advance st true = 0 ∧ x.disc st true = false := by
  simp [Mains.disc, Mains.advance, h]

theorem Mains.disc_resumed {x : Mains} {st : Int} (h : x.useK.isSome = true) : x.disc st true = true := by
  simp [Mains.disc, h]

/-- Settles O32: the switch, the crossings by their period, and the loss. -/
theorem mainsIsMeasured : Obligations.MainsIsMeasured := by
  intro s r k rise stamp high u x st crossing period inRange does
  refine ⟨fun h => mainsEnable_does h, fun h => mainsDisable_does h, fun h => .of_done (congrArg (done s) (State.mainsCrossing_none h)) rfl,
    fun hoff hc hr => ?_, fun p ht hc hp hin hpos => ?_, fun p hs hc hp hin hpos hrun => ?_, fun p hoff hc hp hout => ?_,
    fun hs h0 hk => mainsLoss_leads hs h0 hk⟩
  · refine .of_done (congrArg (done s) (State.mainsCrossing_first hoff hc hr)) fun t ht => ?_
    rw [ht.tb, ht.keep State.mains fun _ => rfl, ht.rd (.inl (by decide))]
    exact ⟨rfl, rfl, rfl, rfl, rfl⟩
  · let w := u.mainsMeasured k rise st p
    refine .of_done (congrArg (done s) (State.mainsCrossing_track (stamp := stamp) (ht ▸ by decide) hc (Mains.period_of hp) (decide_eq_true hin) ht))
      fun t hr => ?_
    obtain ⟨⟨hst, href, hvel, hdisc⟩, hm⟩ := Raised.mainsUse (w := w) (st := st) hr
    have hper : t.rd R.MZPER = BitVec.ofNat 32 p := by
      rw [hr.rd (.inl (by decide)), State.mainsUse_rd _ _ _ _ (by decide)]
      exact State.rd_wr_self ..
    refine ⟨hper, (congrArg Mains.state hm).trans ht, congrArg Mains.refK hm, congrArg Mains.useK hm, congrArg Mains.useP hm, hst, href,
      ?_, fun s0 h0 hu => ?_⟩
    · rw [hvel, Nat.max_eq_left hpos]
    · have hfit : w.mains.advance st false = max ((2 * (st - s0) + x.useP) / (2 * x.useP)) 1 := Mains.advance_fit h0 hu
      rw [Mains.disc, Bool.false_and, Bool.false_or, hfit] at hdisc
      refine ⟨(congrArg Mains.cycle hm).trans (congrArg (x.cycle + ·) hfit), hdisc.trans ?_⟩
      exact if_congr decide_eq_true_iff rfl rfl
  · let w := u.mainsMeasured k rise st p
    have hoff : x.state ≠ .off := fun n => by rw [n] at hs; exact absurd hs (by decide)
    have htr : x.state ≠ .track := fun n => by rw [n] at hs; exact absurd hs (by decide)
    have hch : MzState.track ≠ w.mains.state := htr.symm
    refine .of_done (congrArg (done s) (State.mainsCrossing_resumes (stamp := stamp) hoff hc (Mains.period_of hp) (decide_eq_true hin) htr hrun))
      fun t hr => ?_
    obtain ⟨⟨-, href, -, hdisc⟩, hm⟩ := Raised.mainsUse (w := w.mzState .track) (st := st) hr
    rw [State.mzState_mains hch, State.mzState_tb hch] at hdisc
    rw [State.mzState_mains hch] at hm
    refine ⟨congrArg Mains.state hm, ?_, congrArg Mains.useK hm, href, fun hn => ?_, fun hsome => ?_⟩
    · rw [hr.fld_pos _ (by decide)]
      exact (congrArg R.MZSTAT_STATE.get (State.mainsUse_rd _ _ _ _ (by decide))).trans (State.mzState_stat hch)
    · obtain ⟨h0, hd⟩ := Mains.disc_first (x := { w.mains with state := .track }) (st := st) hn
      exact ⟨(congrArg Mains.cycle hm).trans ((congrArg (x.cycle + ·) h0).trans (Int.add_zero _)), hdisc.trans (if_neg (Bool.eq_false_iff.1 hd))⟩
    · exact hdisc.trans (if_pos (Mains.disc_resumed (x := { w.mains with state := .track }) (st := st) hsome))
  · refine .of_done (congrArg (done s) (State.mainsCrossing_out hoff hc (Mains.period_of hp) (decide_eq_false hout))) fun t ht => ?_
    rw [ht.tb, ht.keep State.mains fun _ => rfl, ht.fld_pos _ (by decide), State.fld_setFld_self _ _ _ _ (by decide)]
    exact ⟨rfl, rfl, rfl, rfl, rfl⟩

end Sys2Proof.Machine
end

section
/-! PROOF of O27. Writes of PCCTL, by the value and by what the channel does, and the arming of an index capture. -/

namespace Sys2Proof.Machine

/-! ### The registers of a channel's block -/

theorem pcctl_wmask {ch : Nat} (h : ch < 16) : wmaskAt (R.PCCTL ch) = 0xFF1FFF := by
  revert ch; decide

theorem chan_shared {ch : Nat} (h : ch < 16) : sharedAddr (R.PCCTL ch) ∧ sharedAddr (R.PCIDXCTL ch) := by
  revert ch; decide

/-- A write in the block of a channel, but of PCSTAT. -/
theorem State.regWrite_chan (s : State) (w : Who) {ch off : Nat} (hch : ch < 16) (hoff : off < 0x80 ∧ off ≠ 4) (v : Word) :
    (s.regWrite w (0x40018000 + 0x80 * ch + off) v).1 = s.chanWrite w ch off v := by
  have hwin : (0x40018000 + 0x80 * ch + off) / 0x10000 = 0x4001 := by omega
  have hmod : (0x40018000 + 0x80 * ch + off) % 0x10000 = 0x8000 + 0x80 * ch + off := by omega
  have hidx : (0x8000 + 0x80 * ch + off - 0x8000) / 0x80 = ch := by omega
  have hreg : (0x8000 + 0x80 * ch + off) % 0x80 = off := by omega
  unfold State.regWrite
  simp only [hwin, hmod]
  unfold State.posWrite
  simp only [hidx, hreg, hoff.2, if_false]
  rw [if_neg (by omega), if_neg (by omega), if_neg (by omega), if_neg (by omega), if_neg (by omega), if_neg (by omega), if_neg (by omega),
    if_pos (by omega)]

theorem State.regWrite_pcctl (s : State) (w : Who) {ch : Nat} (hch : ch < 16) (v : Word) :
    (s.regWrite w (R.PCCTL ch) v).1 = s.pcctlWrite w ch v := s.regWrite_chan w (off := 0) hch (by decide) v

theorem State.regWrite_pcidxctl (s : State) (w : Who) {ch : Nat} (hch : ch < 16) (v : Word) :
    (s.regWrite w (R.PCIDXCTL ch) v).1 = s.idxctlWrite w ch v := by
  have e : R.PCIDXCTL ch = 0x40018000 + 0x80 * ch + 0x20 := by simp only [R.PCIDXCTL]; omega
  rw [e, s.regWrite_chan w hch (by decide)]
  rfl

/-! ### A stored configuration -/

/-- The state in which a configuration register of channel `ch` has been written. -/
def State.chStored (s : State) (w : Who) (ch a : Nat) (v : Word) : State := ((s.defer a v).logCfg w a (s.rd a) v).chStat ch 0

section
variable (s : State) (w : Who) (ch a : Nat) (v : Word)

theorem State.chStored_rd (ha : ¬logReg a) : (s.chStored w ch a v).rd a = v :=
  ((State.logCfg_logbook (s.defer a v) w a (s.rd a) v).rd ha).trans (Tab.get_put_self ..)

theorem State.chStored_chan : (s.chStored w ch a v).chan ch = { s.chan ch with wstat := 0 } := by
  have h := (State.logCfg_logbook (s.defer a v) w a (s.rd a) v).keep (State.chan · ch) fun _ => rfl
  rw [State.chStored, State.chStat, State.setChan_chan_self]
  exact congrArg (fun x : Channel => { x with wstat := 0 }) h

end

/-- A channel that goes to SYNC, at edge `now`. -/
def Channel.synced (x : Channel) (now : Nat) (keep : Bool) : Channel :=
  { x with
    state := .sync, syncK := now, count := if keep then x.count else 0, frac := if keep then x.frac else 0, stepK := none
    idxRef := none, lastGood := none, badRun := 0, lowRun := 0, highRun := 0, goodRun := 0, sampled := false, frameRun := none }

section
variable (s : State) (ch : Nat)

theorem State.chSync_fed (keep : Bool) :
    Frame.fed.Only fedReg (s.setChan ch ((s.chan ch).synced s.now keep)) (s.chSync ch keep) :=
  foldl_fed (fun _ h => State.tbSync_fed h _) .refl s

theorem State.chSync_chan (keep : Bool) : (s.chSync ch keep).chan ch = (s.chan ch).synced s.now keep :=
  ((s.chSync_fed ch keep).chan_fed ch).trans (s.setChan_chan_self _ _)

theorem State.chOff_fed : Frame.fed.Only fedReg (s.setChan ch { s.chan ch with state := .off, frameRun := none }) (s.chOff ch) :=
  foldl_fed (fun ht h => State.tbOff_fed h ht) .refl s

theorem State.chOff_chan : (s.chOff ch).chan ch = { s.chan ch with state := .off, frameRun := none } :=
  ((s.chOff_fed ch).chan_fed ch).trans (s.setChan_chan_self _ _)

theorem State.chStat_chan (code : Nat) : (s.chStat ch code).chan ch = { s.chan ch with wstat := code } := s.setChan_chan_self _ _

theorem State.chSync_rd (keep : Bool) {a : Nat} (h : ¬fedReg a) : (s.chSync ch keep).rd a = s.rd a := (s.chSync_fed ch keep).rd h
theorem State.chOff_rd {a : Nat} (h : ¬fedReg a) : (s.chOff ch).rd a = s.rd a := (s.chOff_fed ch).rd h

end

/-! ### The value of PCCTL -/

/-- What a write of `v` stores. -/
def pcctlValue (ch : Nat) (v : Word) : Word :=
  if R.PCCTL_WBFILT.get (v &&& wmaskAt (R.PCCTL ch)) = 0 then R.PCCTL_WBFILT.put (v &&& wmaskAt (R.PCCTL ch)) 64
  else v &&& wmaskAt (R.PCCTL ch)

/-- A field whose bits can be written, other than WBFILT. -/
theorem pcctlValue_get {ch : Nat} (h : ch < 16) (v : Word) (f : F) (hf : f.lo + f.w ≤ R.PCCTL_WBFILT.lo)
    (hm : ∀ i, i < f.w → (0xFF1FFF : Word).getLsbD (f.lo + i) = true) : f.get (pcctlValue ch v) = f.get v := by
  have keep : f.get (v &&& wmaskAt (R.PCCTL ch)) = f.get v := F.get_and_mask _ _ _ (by rw [pcctl_wmask h]; exact hm)
  unfold pcctlValue
  split
  · rw [F.get_put_apart _ _ (.inl hf), keep]
  · exact keep

theorem pcctlValue_wbfilt {ch : Nat} (h : ch < 16) (v : Word) :
    R.PCCTL_WBFILT.get (pcctlValue ch v) = if R.PCCTL_WBFILT.get v = 0 then 64 else R.PCCTL_WBFILT.get v := by
  have keep : R.PCCTL_WBFILT.get (v &&& wmaskAt (R.PCCTL ch)) = R.PCCTL_WBFILT.get v :=
    F.get_and_mask _ _ _ (by rw [pcctl_wmask h]; decide)
  unfold pcctlValue
  rw [keep]
  split
  · exact F.get_put_self _ _ _ (by decide)
  · exact keep

theorem pcctlValue_mode {ch : Nat} (h : ch < 16) (v : Word) : R.PCCTL_MODE.get (pcctlValue ch v) = R.PCCTL_MODE.get v :=
  pcctlValue_get h v _ (by decide) (by decide)

theorem pcctlValue_key {ch : Nat} (h : ch < 16) (v : Word) : pcctlKey (pcctlValue ch v) = pcctlKey v := by
  simp only [pcctlKey, pcctlValue_mode h, pcctlValue_get h v R.PCCTL_DECODE (by decide) (by decide),
    pcctlValue_get h v R.PCCTL_DIR (by decide) (by decide), pcctlValue_get h v R.PCCTL_SE (by decide) (by decide)]

/-! ### A write of PCCTL -/

/-- Every field of the value may hold it (R61). -/
def State.PcctlLegal (s : State) (ch : Nat) (v : Word) : Prop :=
  R.PCCTL_MODE.get v ≤ 4 ∧ (R.PCCTL_MODE.get v = 4 → ch < s.variant.nAdc) ∧ R.PCCTL_DECODE.get v ≠ 3

/-- The channel after a stored MODE. -/
def State.modeSet (s u : State) (ch : Nat) (v : Word) : State :=
  if R.PCCTL_MODE.get v = 0 then (if R.PCCTL_MODE.get (s.rd (R.PCCTL ch)) = 0 then u else u.chOff ch)
  else if R.PCCTL_MODE.get (s.rd (R.PCCTL ch)) = 0 then u.chSync ch false
  else if pcctlKey (pcctlValue ch v) != pcctlKey (s.rd (R.PCCTL ch)) then u.chRestart ch
  else u

section
variable {s : State} {w : Who} {ch : Nat} {v : Word}

theorem State.pcctlLegal_iff : s.PcctlLegal ch v ↔
    ¬(decide (5 ≤ R.PCCTL_MODE.get v) || (R.PCCTL_MODE.get v == 4 && decide (s.variant.nAdc ≤ ch)) || R.PCCTL_DECODE.get v == 3) = true := by
  simp only [State.PcctlLegal, Bool.or_eq_true, decide_eq_true_eq, Bool.and_eq_true, beq_iff_eq, not_or, not_and, not_le, ne_eq, and_assoc,
    Nat.lt_succ_iff]

theorem State.chOpen_iff : s.chOpen ch = true ↔ s.mode = .prepare ∨ (s.chan ch).state = .off ∨ (s.chan ch).state = .fault := by
  simp [State.chOpen, or_assoc]

theorem State.pcctlWrite_eq (s : State) (w : Who) (ch : Nat) (v : Word) : s.pcctlWrite w ch v =
    if (decide (5 ≤ R.PCCTL_MODE.get v) || (R.PCCTL_MODE.get v == 4 && decide (s.variant.nAdc ≤ ch)) || R.PCCTL_DECODE.get v == 3) = true then
      s.chStat ch 1
    else if (pcctlKey (pcctlValue ch v) != pcctlKey (s.rd (R.PCCTL ch)) && !s.chOpen ch) = true then s.chStat ch 2
    else if R.PCCTL_CLR.get v = 1 then (s.modeSet (s.chStored w ch (R.PCCTL ch) (pcctlValue ch v)) ch v).chClear ch
    else s.modeSet (s.chStored w ch (R.PCCTL ch) (pcctlValue ch v)) ch v := rfl

theorem State.pcctlWrite_illegal (h : ¬s.PcctlLegal ch v) : s.pcctlWrite w ch v = s.chStat ch 1 :=
  (s.pcctlWrite_eq w ch v).trans (if_pos (not_not.1 fun n => h (State.pcctlLegal_iff.2 n)))

theorem State.pcctlWrite_locked (h16 : ch < 16) (h : s.PcctlLegal ch v) (ho : s.chOpen ch = false)
    (hm : R.PCCTL_MODE.get v ≠ R.PCCTL_MODE.get (s.rd (R.PCCTL ch))) : s.pcctlWrite w ch v = s.chStat ch 2 := by
  have hk : pcctlKey (pcctlValue ch v) ≠ pcctlKey (s.rd (R.PCCTL ch)) := by
    rw [pcctlValue_key h16]
    exact fun e => hm (congrArg Prod.fst e)
  refine (s.pcctlWrite_eq w ch v).trans ((if_neg (State.pcctlLegal_iff.1 h)).trans (if_pos ?_))
  rw [ho, bne_iff_ne.2 hk]
  rfl

theorem State.pcctlWrite_open (h : s.PcctlLegal ch v) (ho : s.chOpen ch = true) : s.pcctlWrite w ch v =
    if R.PCCTL_CLR.get v = 1 then (s.modeSet (s.chStored w ch (R.PCCTL ch) (pcctlValue ch v)) ch v).chClear ch
    else s.modeSet (s.chStored w ch (R.PCCTL ch) (pcctlValue ch v)) ch v :=
  (s.pcctlWrite_eq w ch v).trans ((if_neg (State.pcctlLegal_iff.1 h)).trans (if_neg (by rw [ho]; simp)))

end

/-! ### MODE -/

section
variable (s u : State) (ch : Nat) (v : Word)

/-- MODE leaves registers other than those of timebases as they are, and WSTAT. -/
theorem State.modeSet_keeps {a : Nat} (ha : ¬fedReg a) :
    (s.modeSet u ch v).rd a = u.rd a ∧ ((s.modeSet u ch v).chan ch).wstat = (u.chan ch).wstat := by
  have sync : (u.chSync ch false).rd a = u.rd a ∧ ((u.chSync ch false).chan ch).wstat = (u.chan ch).wstat :=
    ⟨u.chSync_rd ch false ha, (congrArg Channel.wstat (u.chSync_chan ch false) :)⟩
  unfold State.modeSet State.chRestart
  split_ifs
  · exact ⟨rfl, rfl⟩
  · exact ⟨u.chOff_rd ch ha, (congrArg Channel.wstat (u.chOff_chan ch) :)⟩
  · exact sync
  · exact ⟨rfl, rfl⟩
  · exact sync
  · exact ⟨rfl, rfl⟩

variable {s u ch v}

theorem State.modeSet_starts (h0 : R.PCCTL_MODE.get (s.rd (R.PCCTL ch)) = 0) (h : R.PCCTL_MODE.get v ≠ 0) :
    s.modeSet u ch v = u.chSync ch false := (if_neg h).trans (if_pos h0)

theorem State.modeSet_stops (h0 : R.PCCTL_MODE.get (s.rd (R.PCCTL ch)) ≠ 0) (h : R.PCCTL_MODE.get v = 0) :
    s.modeSet u ch v = u.chOff ch := (if_pos h).trans (if_neg h0)

/-- The fields that restart a channel are the old ones. -/
theorem State.modeSet_same (h : pcctlKey (pcctlValue ch v) = pcctlKey (s.rd (R.PCCTL ch)))
    (hm : R.PCCTL_MODE.get v = R.PCCTL_MODE.get (s.rd (R.PCCTL ch))) : s.modeSet u ch v = u := by
  unfold State.modeSet
  rw [h, hm, bne_self_eq_false]
  split <;> simp

end

/-! ### The clearing of a fault -/

/-- A checked pair of the channel reads an invalid level. -/
theorem State.causePresent_iff {s : State} {ch : Nat} :
    s.causePresent ch = true ↔ ∃ i, i < 3 ∧ s.PairChecked ch i ∧ (s.chan ch).valid.getD i false = false := by
  simp only [State.causePresent, List.any_eq_true, mem_upFrom, Bool.and_eq_true, Bool.not_eq_true']
  refine exists_congr fun i => ?_
  constructor
  · rintro ⟨⟨-, hi⟩, hc, hv⟩
    exact ⟨by omega, (State.checked_iff (by omega)).1 hc, hv⟩
  · rintro ⟨hi, hc, hv⟩
    exact ⟨⟨Nat.zero_le i, by omega⟩, (State.checked_iff hi).2 hc, hv⟩

section
variable {s : State} {ch : Nat} (hf : (s.chan ch).state = .fault)
include hf

theorem State.chClear_refused (hc : s.causePresent ch = true) : s.chClear ch = s.chStat ch 3 := by
  simp [State.chClear, hf, hc]

theorem State.chClear_done (hc : s.causePresent ch = false) : s.chClear ch = (s.chSync ch true).chStat ch 0 := by
  simp [State.chClear, hf, hc]

end

/-- The checks of pairs look at MODE, SE and ZEN. -/
theorem State.PairChecked.congr {s t : State} {ch i : Nat}
    (h : ∀ f ∈ [R.PCCTL_MODE, R.PCCTL_SE, R.PCCTL_ZEN], t.fld (R.PCCTL ch) f = s.fld (R.PCCTL ch) f) :
    t.PairChecked ch i ↔ s.PairChecked ch i := by
  simp only [State.PairChecked, h R.PCCTL_MODE (by simp), h R.PCCTL_SE (by simp), h R.PCCTL_ZEN (by simp)]

/-! ### The requests -/

theorem State.entered_chan (s : State) (r : Rq) (a : Nat) (v : Word) (ch : Nat) : (s.entered r a v).chan ch = s.chan ch := by cases r <;> rfl
theorem State.entered_variant (s : State) (r : Rq) (a : Nat) (v : Word) : (s.entered r a v).variant = s.variant := by cases r <;> rfl

/-- A command that writes PCCTL leads to what the write leads to. -/
theorem does_pcctl {s : State} {r : Rq} {ch : Nat} {v : Word} {i : Instr} {P : State → Prop} (h16 : ch < 16)
    (hi : exec i s = done s (s.request r (R.PCCTL ch) v))
    (hP : ∀ t, t.chan ch = ((s.entered r (R.PCCTL ch) v).pcctlWrite (s.asker r) ch v).chan ch →
      t.rd (R.PCCTL ch) = ((s.entered r (R.PCCTL ch) v).pcctlWrite (s.asker r) ch v).rd (R.PCCTL ch) → P t) :
    s.Does r (R.PCCTL ch) v i P := by
  refine does_of_request hi (chan_shared h16).1 fun _ t ht => ?_
  rw [State.regWrite_pcctl _ _ h16] at ht
  exact hP t (ht.keep (State.chan · ch) fun _ => rfl) (ht.rd (by simp only [R.PCCTL]; omega))

/-- The state in which a write of PCCTL has stored its value. -/
def State.pcctlStored (s : State) (r : Rq) (ch : Nat) (v : Word) : State :=
  (s.entered r (R.PCCTL ch) v).chStored (s.asker r) ch (R.PCCTL ch) (pcctlValue ch v)

section
variable {s : State} {r : Rq} {ch : Nat} {v : Word} (h16 : ch < 16)

theorem pcctl_off (ch : Nat) (h16 : ch < 16) : ¬logReg (R.PCCTL ch) ∧ ¬fedReg (R.PCCTL ch) := by
  simp only [logReg, fedReg, R.PCCTL, R.LBSTAT, R.LBSEQ, R.IRQCNT, R.IRQLOST, R.ENDROP, R.ENFCCNT2]
  omega

theorem State.pcctlStored_chan : (s.pcctlStored r ch v).chan ch = { s.chan ch with wstat := 0 } := by
  rw [State.pcctlStored, State.chStored_chan, State.entered_chan]

include h16

theorem State.pcctlStored_rd : (s.pcctlStored r ch v).rd (R.PCCTL ch) = pcctlValue ch v := State.chStored_rd _ _ _ _ _ (pcctl_off ch h16).1

/-- A write that is refused. -/
theorem channelModeWrite_refused {code : Nat}
    (e : (s.entered r (R.PCCTL ch) v).pcctlWrite (s.asker r) ch v = (s.entered r (R.PCCTL ch) v).chStat ch code) :
    s.Does r (R.PCCTL ch) v (.channelModeWrite r ch v) (fun t => (t.chan ch).wstat = code ∧ t.rd (R.PCCTL ch) = s.rd (R.PCCTL ch)) := by
  refine does_pcctl h16 rfl fun t hc hr => ?_
  rw [hc, hr, e, State.chStat_chan]
  exact ⟨rfl, s.entered_rd ..⟩

/-- A write that is taken, and clears no fault. -/
theorem channelModeWrite_taken
    (e : (s.entered r (R.PCCTL ch) v).pcctlWrite (s.asker r) ch v =
      (s.entered r (R.PCCTL ch) v).modeSet (s.pcctlStored r ch v) ch v) :
    s.Does r (R.PCCTL ch) v (.channelModeWrite r ch v) (fun t =>
      (t.chan ch).wstat = 0 ∧ t.fld (R.PCCTL ch) R.PCCTL_MODE = R.PCCTL_MODE.get v ∧
      t.fld (R.PCCTL ch) R.PCCTL_WBFILT = (if R.PCCTL_WBFILT.get v = 0 then 64 else R.PCCTL_WBFILT.get v) ∧
      (R.PCCTL_MODE.get (s.rd (R.PCCTL ch)) = 0 → R.PCCTL_MODE.get v ≠ 0 → (t.chan ch).state = .sync ∧ (t.chan ch).count = 0) ∧
      (R.PCCTL_MODE.get (s.rd (R.PCCTL ch)) ≠ 0 → R.PCCTL_MODE.get v = 0 →
        (t.chan ch).state = .off ∧ (t.chan ch).count = (s.chan ch).count)) := by
  refine does_pcctl h16 rfl fun t hc hr => ?_
  rw [e] at hc hr
  obtain ⟨hrd, hw⟩ := (s.entered r (R.PCCTL ch) v).modeSet_keeps (s.pcctlStored r ch v) ch v (pcctl_off ch h16).2
  have hval : t.rd (R.PCCTL ch) = pcctlValue ch v := (hr.trans hrd).trans (State.pcctlStored_rd h16)
  have hold : (s.entered r (R.PCCTL ch) v).rd (R.PCCTL ch) = s.rd (R.PCCTL ch) := s.entered_rd ..
  refine ⟨?_, ?_, ?_, fun h0 hm => ?_, fun h0 hm => ?_⟩
  · rw [hc, hw, State.pcctlStored_chan]
  · rw [State.fld, hval, pcctlValue_mode h16]
  · rw [State.fld, hval, pcctlValue_wbfilt h16]
  · rw [hc, State.modeSet_starts (by rw [hold]; exact h0) hm, State.chSync_chan]
    exact ⟨rfl, rfl⟩
  · rw [hc, State.modeSet_stops (by rw [hold]; exact h0) hm, State.chOff_chan, State.pcctlStored_chan]
    exact ⟨rfl, rfl⟩

end

/-! ### CLR and ARM -/

/-- A write of PCIDXCTL that arms a capture and leaves ZQUAL. -/
theorem State.idxctlWrite_arm {s : State} {w : Who} {ch : Nat} {v : Word}
    (hq : R.PCIDXCTL_ZQUAL.get v = R.PCIDXCTL_ZQUAL.get (s.rd (R.PCIDXCTL ch)))
    (ha : R.PCIDXCTL_ARM.get v = 1) :
    ∃ y, s.idxctlWrite w ch v = s.chStored w ch (R.PCIDXCTL ch) (R.PCIDXCTL_ZARMED.put y 1) := by
  unfold State.idxctlWrite
  extract_lets a old mixed nv
  refine ⟨R.PCIDXCTL_ARM.put mixed 1, (if_neg ?_).trans ?_⟩
  · rw [hq, bne_self_eq_false]
    exact Bool.false_ne_true
  · rw [show nv = R.PCIDXCTL_ZARMED.put (R.PCIDXCTL_ARM.put mixed 1) 1 from if_pos ha]
    rfl

section
variable {s : State} {r : Rq} {ch : Nat} (h16 : ch < 16)
include h16

/-- PCCTL as it reads, with CLR set, keeps what a mode write looks at. -/
theorem pcctlValue_clr (old : Word) (f : F) (hf : f.lo + f.w ≤ 16) (hm : ∀ i, i < f.w → (0xFF1FFF : Word).getLsbD (f.lo + i) = true) :
    f.get (pcctlValue ch (R.PCCTL_CLR.put old 1)) = f.get old := by
  rw [pcctlValue_get h16 _ f hf hm]
  exact F.get_put_apart _ _ (.inl (Nat.le_trans hf (by decide)))

/-- The state in which the command has stored PCCTL. -/
theorem State.pcctlStored_cause :
    (s.pcctlStored r ch (R.PCCTL_CLR.put (s.rd (R.PCCTL ch)) 1)).causePresent ch = true ↔
      ∃ i, i < 3 ∧ s.PairChecked ch i ∧ (s.chan ch).valid.getD i false = false := by
  rw [State.causePresent_iff, State.pcctlStored_chan]
  refine exists_congr fun i => and_congr_right fun _ => and_congr_left fun _ => State.PairChecked.congr fun f hf => ?_
  rw [State.fld, State.pcctlStored_rd h16]
  simp only [List.mem_cons, List.not_mem_nil, or_false] at hf
  rcases hf with rfl | rfl | rfl <;> exact pcctlValue_clr h16 _ _ (by decide) (by decide)

/-- CHANNEL_CLEAR of a channel in FAULT. -/
theorem channelClear_does (hl : s.PcctlLegal ch (s.rd (R.PCCTL ch))) (hf : (s.chan ch).state = .fault) {P : State → Prop}
    (hP : ∀ t, t.chan ch = ((s.pcctlStored r ch (R.PCCTL_CLR.put (s.rd (R.PCCTL ch)) 1)).chClear ch).chan ch → P t) :
    s.Does r (R.PCCTL ch) (R.PCCTL_CLR.put (s.rd (R.PCCTL ch)) 1) (.channelClear r ch) P := by
  refine does_pcctl h16 rfl fun t hc _ => hP t (hc.trans ?_)
  let v := R.PCCTL_CLR.put (s.rd (R.PCCTL ch)) 1
  have hmode : R.PCCTL_MODE.get v = R.PCCTL_MODE.get (s.rd (R.PCCTL ch)) := F.get_put_apart _ _ (.inl (by decide))
  have hdec : R.PCCTL_DECODE.get v = R.PCCTL_DECODE.get (s.rd (R.PCCTL ch)) := F.get_put_apart _ _ (.inl (by decide))
  have hdir : R.PCCTL_DIR.get v = R.PCCTL_DIR.get (s.rd (R.PCCTL ch)) := F.get_put_apart _ _ (.inl (by decide))
  have hse : R.PCCTL_SE.get v = R.PCCTL_SE.get (s.rd (R.PCCTL ch)) := F.get_put_apart _ _ (.inl (by decide))
  have hold : (s.entered r (R.PCCTL ch) v).rd (R.PCCTL ch) = s.rd (R.PCCTL ch) := s.entered_rd ..
  have hkey : pcctlKey (pcctlValue ch v) = pcctlKey ((s.entered r (R.PCCTL ch) v).rd (R.PCCTL ch)) := by
    rw [pcctlValue_key h16, hold]
    simp only [pcctlKey, hmode, hdec, hdir, hse]
  have hlegal : (s.entered r (R.PCCTL ch) v).PcctlLegal ch v := by
    rw [State.PcctlLegal, State.entered_variant, hmode, hdec]
    exact hl
  have hopen : (s.entered r (R.PCCTL ch) v).chOpen ch = true := State.chOpen_iff.2 (.inr (.inr (by rw [State.entered_chan]; exact hf)))
  have hclr : R.PCCTL_CLR.get v = 1 := F.get_put_self _ _ _ (by decide)
  rw [State.pcctlWrite_open hlegal hopen, if_pos hclr, State.modeSet_same hkey (by rw [hold]; exact hmode)]
  rfl

/-- INDEX_ARM. -/
theorem indexArm_does : s.Does r (R.PCIDXCTL ch) (R.PCIDXCTL_ARM.put (s.rd (R.PCIDXCTL ch)) 1) (.indexArm r ch) (fun t =>
    t.fld (R.PCIDXCTL ch) R.PCIDXCTL_ZARMED = 1 ∧ (t.chan ch).wstat = 0) := by
  refine does_of_request rfl (chan_shared h16).2 fun _ t ht => ?_
  have hq : R.PCIDXCTL_ZQUAL.get (R.PCIDXCTL_ARM.put (s.rd (R.PCIDXCTL ch)) 1) = R.PCIDXCTL_ZQUAL.get (s.rd (R.PCIDXCTL ch)) :=
    F.get_put_apart _ _ (.inl (by decide))
  have ha : R.PCIDXCTL_ARM.get (R.PCIDXCTL_ARM.put (s.rd (R.PCIDXCTL ch)) 1) = 1 := F.get_put_self _ _ _ (by decide)
  obtain ⟨y, e⟩ := State.idxctlWrite_arm (s := s.entered r (R.PCIDXCTL ch) _) (w := s.asker r)
    (hq.trans (congrArg _ (s.entered_rd r _ _ _).symm)) ha
  rw [State.regWrite_pcidxctl _ _ h16, e] at ht
  refine ⟨?_, ?_⟩
  · rw [ht.fld _ (by simp only [R.PCIDXCTL]; omega), State.fld,
      State.chStored_rd _ _ _ _ _ (by simp only [logReg, R.PCIDXCTL, R.LBSTAT, R.LBSEQ]; omega)]
    exact F.get_put_self _ _ _ (by decide)
  · rw [ht.keep (State.chan · ch) fun _ => rfl, State.chStored_chan]

end

/-- Settles O27, by the value written and the state of the channel. -/
theorem channelsAreConfigured : Obligations.ChannelsAreConfigured := by
  intro s r ch v hch x old legal open'
  have h16 : ch < 16 := Nat.lt_of_lt_of_le hch s.variant.nLocal_le
  have legalIn : (s.entered r (R.PCCTL ch) v).PcctlLegal ch v ↔ legal v := by
    rw [State.PcctlLegal, State.entered_variant]
  have openIn : (s.entered r (R.PCCTL ch) v).chOpen ch = true ↔ open' := by
    rw [State.chOpen_iff, State.entered_mode, State.entered_chan]
  refine ⟨fun hl ho h0 => ?_, fun hl => ?_, fun hl ho hm => ?_, fun hl hf => ⟨fun hc => ?_, fun hc => ?_⟩, indexArm_does h16⟩
  · exact channelModeWrite_taken h16 ((State.pcctlWrite_open (legalIn.2 hl) (openIn.2 ho)).trans (if_neg (by rw [h0]; decide)))
  · exact channelModeWrite_refused h16 (State.pcctlWrite_illegal (legalIn.not.2 hl))
  · refine channelModeWrite_refused h16 (State.pcctlWrite_locked h16 (legalIn.2 hl) ?_ (by rw [State.entered_rd]; exact hm))
    exact Bool.eq_false_iff.2 (openIn.not.2 ho)
  · refine channelClear_does h16 hl hf fun t ht => ?_
    rw [ht, State.chClear_done (by rw [State.pcctlStored_chan]; exact hf) (Bool.eq_false_iff.2 ((State.pcctlStored_cause h16).not.2 hc)),
      State.chStat_chan, State.chSync_chan, State.pcctlStored_chan]
    exact ⟨rfl, rfl, rfl, rfl⟩
  · refine channelClear_does h16 hl hf fun t ht => ?_
    rw [ht, State.chClear_refused (by rw [State.pcctlStored_chan]; exact hf) ((State.pcctlStored_cause h16).2 hc), State.chStat_chan,
      State.pcctlStored_chan]
    exact ⟨hf, rfl⟩

end Sys2Proof.Machine
end

section
/-! SUPPORT. The registers of the timebases, and with them kinds and moduli, stay as they are while slots, their queues and their forecasts
end. -/

namespace Sys2Proof.Machine

/-! ### Registers below those of the queues -/

/-- Not the address of a register of a timebase or of a channel: the queues' are the first above them. -/
@[reducible] def fromQueues (a : Nat) : Prop := 0x40030000 ≤ a

/-- From `s` to `t` timebases, slots and what follows their end have changed, and no register below those of the queues. -/
abbrev State.LowKept (s t : State) : Prop := Frame.fed.Only fromQueues s t

theorem fromQueues_queue (q : Nat) : fromQueues (R.QCNT q) ∧ fromQueues (R.QFAIL q) := by
  simp only [fromQueues, R.QCNT, R.QFAIL]
  omega

section
variable {o s : State} (h : o.LowKept s)
include h

theorem arrive_low (n : Nat) : o.LowKept (s.arrive n) := h.arrive (by simp only [fromQueues, R.IRQCNT]; omega) (by decide)

theorem State.setTb_low (i : Nat) (x : Timebase) : o.LowKept (s.setTb i x) := h.put rfl rfl

theorem State.setQueue_low (q : Nat) (x : Queue) : o.LowKept (s.setQueue q x) := h.put rfl rfl

theorem State.haltQueue_low (q why : Nat) : o.LowKept (s.haltQueue q why) := arrive_low (State.setQueue_low h _ _) _

theorem State.freeHead_low (q : Nat) : o.LowKept (s.freeHead q) := by
  have head (n : Nat) : o.LowKept (s.setHead q n) := .ite _ (arrive_low (State.setQueue_low h _ _) _) (State.setQueue_low h _ _)
  unfold State.freeHead
  split <;> exact .ite _ h (head _)

theorem State.consume_low (q code when0 : Nat) (latef rawpl disc ready : Bool) :
    o.LowKept (s.consume q code when0 latef rawpl disc ready) :=
  .ite _ (h.put rfl rfl) (State.freeHead_low (State.setQueue_low h _ _) q)

theorem State.afterConsume_low (q : Nat) : o.LowKept (s.afterConsume q) :=
  have counted (x : Queue) (f : F) : o.LowKept ((s.setQueue q x).count (R.QCNT q) f 1) :=
    (State.setQueue_low h q x).count f 1 (fromQueues_queue q).1
  .ite _ h (.ite _ (counted _ _) (.ite _ (State.setQueue_low h _ _) (counted _ _)))

theorem State.queueStatus_low (q status : Nat) (latef : Bool) : o.LowKept (s.queueStatus q status latef) := by
  unfold State.queueStatus
  extract_lets late skip fail
  have hl : o.LowKept late := .ite _ (h.count _ _ (fromQueues_queue q).1) h
  clear_value late
  have hs : o.LowKept skip := .ite _ (hl.count _ _ (fromQueues_queue q).1) hl
  clear_value skip
  have hf : o.LowKept fail := hs.count _ _ (fromQueues_queue q).2
  exact .ite _ (.ite _ (State.haltQueue_low hf _ _) hf) (.ite _ (State.haltQueue_low hs _ _) hs)

theorem State.queueEnd_low (i status : Nat) (ready : Bool) : o.LowKept (s.queueEnd i status ready) := by
  unfold State.queueEnd
  split
  · exact h
  next q _ =>
    have consumed (when0 : Nat) (latef rawpl disc : Bool) := State.consume_low h q status when0 latef rawpl disc ready
    refine .ite _ h (.ite _ (State.setQueue_low h _ _) (State.afterConsume_low ?_ q))
    exact .ite _ (State.queueStatus_low (consumed _ _ _ _) _ _ _) (consumed _ _ _ _)

theorem State.fcSend_low (typ tag body : Nat) : o.LowKept (s.fcSend typ tag body) := by
  unfold State.fcSend
  dsimp only
  split
  next e =>
    unfold State.enPush at e
    obtain ⟨-, ht⟩ := Option.ite_none_right_eq_some.1 e
    cases ht
    exact h.put rfl rfl
  next =>
    have k := h.put (t := { s with en := { s.en with refused := 1 :: s.en.refused.filter (· != 1) } }) rfl rfl
    exact (k.count _ _ (by decide)).count _ _ (by decide)

theorem State.fcEnd_low (slot tag status whenT : Nat) : o.LowKept (s.fcEnd slot tag status whenT) := by
  unfold State.fcEnd
  split
  · exact h
  · have k := h.put (t := { s with fcOut := s.fcOut.erase (· == slot) }) rfl rfl
    exact .ite _ (State.fcSend_low k _ _ _) (State.fcSend_low k _ _ _)

theorem State.fcSlotEnd_low (x : Slot) (status : Nat) : o.LowKept (s.fcSlotEnd x status) := by
  unfold State.fcSlotEnd
  split
  · exact .ite _ (h.put rfl rfl) h
  · exact h

theorem State.endSlot_low (i status : Nat) : o.LowKept (s.endSlot i status) :=
  State.queueEnd_low (State.fcSlotEnd_low (State.fcEnd_low (h.put (t := s.freeSlot i status) rfl rfl) _ _ _ _) _ _) _ _ _

theorem State.endSlots_low (p : Nat → Slot → Bool) (status : Nat) : o.LowKept (s.endSlots p status) :=
  .foldl (fun _ _ _ k => .ite _ (State.endSlot_low k _ _) k) h

/-! ### References and states -/

theorem State.setRef_low (i : Nat) (ref : Bool) : o.LowKept (s.setRef i ref) :=
  .ite _ (State.endSlots_low (State.setTb_low h _ _) _ _) (State.setTb_low h _ _)

theorem State.followRefs_low : o.LowKept s.followRefs := .foldl (fun _ _ _ k => State.setRef_low k _ _) h

theorem State.tbStop_low (i : Nat) (st : TbState) (cause : Nat) : o.LowKept (s.tbStop i st cause) := by
  unfold State.tbStop
  extract_lets x stopped raised
  have k : o.LowKept stopped := State.setTb_low h _ _
  clear_value stopped
  exact State.endSlots_low (.ite _ (arrive_low k _) k) _ _

theorem State.tbOff_low (i : Nat) : o.LowKept (s.tbOff i) := .ite _ h (State.tbStop_low h _ _ _)

end

/-! ### Kinds and moduli -/

theorem State.kind_congr {s t : State} {i : Nat} (h : t.fld (R.TBCFG i) R.TBCFG_KIND = s.fld (R.TBCFG i) R.TBCFG_KIND) : t.kind i = s.kind i := by
  unfold State.kind
  rw [h]

theorem State.modulus_congr {s t : State} {i : Nat} (hk : t.kind i = s.kind i) (he : t.eff (R.TBMOD i) = s.eff (R.TBMOD i)) :
    t.modulus i = s.modulus i := by
  unfold State.modulus
  rw [hk, he]

section
variable {s t : State} (h : s.LowKept t)
include h

theorem State.LowKept.eff {a : Nat} (ha : a < 0x40030000) : t.eff a = s.eff a :=
  State.eff_congr a (h.keep State.inForce fun _ => rfl) (h.rd (Nat.not_le.2 ha))

variable {i : Nat} (hi : i < 32)
include hi

theorem State.LowKept.rd_tbcfg : t.rd (R.TBCFG i) = s.rd (R.TBCFG i) := h.rd (by simp only [fromQueues, R.TBCFG]; omega)

theorem State.LowKept.kind : t.kind i = s.kind i := State.kind_congr (congrArg R.TBCFG_KIND.get (State.LowKept.rd_tbcfg h hi))

theorem State.LowKept.modulus : t.modulus i = s.modulus i :=
  State.modulus_congr (State.LowKept.kind h hi) (State.LowKept.eff h (by simp only [R.TBMOD]; omega))

end

end Sys2Proof.Machine
end

section
/-! PROOF of O34. What a timebase command does at its boundary: the word that it places, the source that it takes, and the references that
follow. -/

namespace Sys2Proof.Machine

/-! ### References (R108) -/

section
variable (s : State)

theorem State.setRef_tb_self (i : Nat) (ref : Bool) : (s.setRef i ref).tb i = { s.tb i with ref := ref } := by
  unfold State.setRef State.endUnref
  split
  · rw [State.endSlots_tb, State.setTb_tb_self]
  · rw [State.setTb_tb_self]

theorem State.setRef_tb_ne {i j : Nat} (ref : Bool) (h : j ≠ i) : (s.setRef i ref).tb j = s.tb j := by
  unfold State.setRef State.endUnref
  split
  · rw [State.endSlots_tb, State.setTb_tb_ne _ _ _ _ h]
  · rw [State.setTb_tb_ne _ _ _ _ h]

/-- A virtual timebase takes the reference of its source. -/
def State.followRef (s : State) (v : Nat) : State := s.setRef v (s.tb (s.tb v).src).ref

theorem State.followRefs_eq : s.followRefs = s.virtuals.foldl State.followRef s := rfl

theorem State.mem_virtuals {s : State} {j : Nat} : j ∈ s.virtuals ↔ 16 ≤ j ∧ j < 28 ∧ s.kind j = 3 := by
  simp [State.virtuals, mem_upFrom, and_assoc]

variable {s} {l : List Nat}

theorem foldl_followRef_tb_of_not_mem {j : Nat} (h : j ∉ l) : (l.foldl State.followRef s).tb j = s.tb j := by
  induction l generalizing s with
  | nil => rfl
  | cons v l ih =>
    obtain ⟨hv, hl⟩ := List.ne_and_not_mem_of_not_mem_cons h
    exact (ih hl).trans (s.setRef_tb_ne _ hv)

/-- A pass changes nothing of a timebase but its reference. -/
theorem foldl_followRef_tb (j : Nat) : ∃ ref, (l.foldl State.followRef s).tb j = { s.tb j with ref := ref } := by
  induction l generalizing s with
  | nil => exact ⟨_, rfl⟩
  | cons v l ih =>
    obtain ⟨ref, e⟩ := ih (s := s.followRef v)
    by_cases h : j = v
    · subst h
      exact ⟨ref, e.trans (by rw [State.followRef, State.setRef_tb_self])⟩
    · exact ⟨ref, e.trans (by rw [State.followRef, State.setRef_tb_ne _ _ h])⟩

/-- A timebase of the pass takes the reference of a source that is not of the pass. -/
theorem foldl_followRef_ref {i j : Nat} (hj : j ∈ l) (hi : i ∉ l) (hs : (s.tb j).src = i) :
    ((l.foldl State.followRef s).tb j).ref = (s.tb i).ref := by
  induction l generalizing s with
  | nil => cases hj
  | cons v l ih =>
    obtain ⟨hv, hl⟩ := List.ne_and_not_mem_of_not_mem_cons hi
    have src : (s.followRef v).tb i = s.tb i := s.setRef_tb_ne _ hv
    rw [List.foldl_cons, ← src]
    by_cases hjl : j ∈ l
    · refine ih hjl hl ?_
      by_cases h : j = v
      · subst h
        rw [State.followRef, State.setRef_tb_self, ← hs]
      · rw [State.followRef, State.setRef_tb_ne _ _ h, hs]
    · obtain rfl := (List.mem_cons.1 hj).resolve_right hjl
      rw [foldl_followRef_tb_of_not_mem hjl, src, State.followRef, State.setRef_tb_self, hs]

end

/-- In `t` the virtual timebases whose source is timebase `i` have its reference `ref`. -/
def State.Followed (s : State) (i : Nat) (t : State) (ref : Bool) : Prop :=
  ∀ j, 16 ≤ j → j < 28 → s.kind j = 3 → (s.tb j).src = i → (t.tb j).ref = ref

/-- Only the other timebases of the two states matter, and the kinds. -/
theorem State.Followed.congr {s s' t t' : State} {i : Nat} {ref : Bool} (h : s'.Followed i t' ref) (hi : s.kind i ≠ 3)
    (hk : ∀ j, s'.kind j = s.kind j) (hs : ∀ j, j ≠ i → s'.tb j = s.tb j) (ht : ∀ j, t.tb j = t'.tb j) : s.Followed i t ref := by
  intro j h16 h28 h3 hsrc
  have hji : j ≠ i := by
    rintro rfl
    exact hi h3
  rw [ht]
  exact h j h16 h28 ((hk j).trans h3) (by rw [hs j hji, hsrc])

section
variable {s : State} {i : Nat}

theorem State.putRef_tb (s : State) (i : Nat) (ref : Bool) : ∃ ref', (s.putRef i ref).tb i = { s.tb i with ref := ref' } := by
  obtain ⟨ref', e⟩ := foldl_followRef_tb (s := s.setRef i ref) (l := (s.setRef i ref).virtuals) i
  exact ⟨ref', e.trans (by rw [State.setRef_tb_self])⟩

variable (hi : i < 32) (hk : s.kind i ≠ 3) (ref : Bool)
include hi hk

theorem State.not_mem_setRef_virtuals : i ∉ (s.setRef i ref).virtuals := by
  rw [State.mem_virtuals, State.LowKept.kind (State.setRef_low .refl i ref) hi]
  exact fun h => hk h.2.2

theorem State.putRef_tb_self : (s.putRef i ref).tb i = { s.tb i with ref := ref } :=
  (foldl_followRef_tb_of_not_mem (State.not_mem_setRef_virtuals hi hk ref)).trans (s.setRef_tb_self i ref)

/-- The virtual timebases that follow `i` take its reference. -/
theorem State.putRef_follows : s.Followed i (s.putRef i ref) ref := by
  intro j hj hj' h3 hs
  have hji : j ≠ i := by
    rintro rfl
    exact hk h3
  have mem : j ∈ (s.setRef i ref).virtuals :=
    State.mem_virtuals.2 ⟨hj, hj', (State.LowKept.kind (State.setRef_low .refl i ref) (by omega)).trans h3⟩
  have src : ((s.setRef i ref).tb j).src = i := by rw [State.setRef_tb_ne _ _ hji, hs]
  exact (foldl_followRef_ref mem (State.not_mem_setRef_virtuals hi hk ref) src).trans (by rw [State.setRef_tb_self])

end

/-! ### Words in range (R91) -/

theorem isWord_normWord (s : State) (i : Nat) (x : Int) : s.isWord i x (normWord (s.modulus i) x) := by
  unfold State.isWord normWord
  split
  · simpa using diffSpan_isWrapped 48 x 0
  next h =>
    have pos : (0 : Int) < 256 * s.modulus i := by omega
    have e : ((s.modulus i * 256 : Nat) : Int) = 256 * s.modulus i := by push_cast; ring
    rw [e]
    exact ⟨Int.emod_nonneg _ pos.ne', Int.emod_lt_of_pos _ pos, Int.emod_eq_emod_iff_emod_sub_eq_zero.1 (Int.emod_emod ..)⟩

/-- A number in range stays as it is. -/
theorem normWord_normWord (m : Nat) (x : Int) : normWord m (normWord m x) = normWord m x := by
  unfold normWord
  split
  · have wrapped := diffSpan_isWrapped 48 x 0
    refine isWrapped.eq_diffSpan (by decide) ?_
    obtain ⟨lo, hi, -⟩ := wrapped
    exact ⟨lo, hi, by simp⟩
  · exact Int.emod_emod ..

/-! ### Words that are placed -/

/-- The word becomes `w`, as a discontinuity (R117). -/
def Timebase.jumped (x : Timebase) (w : Int) : Timebase := { x with word := w, discgen := (x.discgen + 1) % 256, disc := true }

section
variable (s : State) (i : Nat)

theorem State.placeAt_tb (w : Int) : (s.placeAt i w).tb i = (s.tb i).jumped (normWord (s.modulus i) w) := by
  simp only [State.placeAt, State.signalDisc, State.setTb_tb_self, Timebase.jumped]

theorem State.placeAt_tb_ne (w : Int) {j : Nat} (h : j ≠ i) : (s.placeAt i w).tb j = s.tb j := by
  simp only [State.placeAt, State.signalDisc, State.setTb_tb_ne _ _ _ _ h]

theorem State.jumpTo_jumped (w : Int) :
    (s.jumpTo i w).tb i = { s.tb i with hold := false }.jumped (normWord (s.modulus i) w) := s.jumpTo_tb i w

theorem State.setTb_modulus (x : Timebase) (j : Nat) : (s.setTb i x).modulus j = s.modulus j := rfl
theorem State.setTb_kind (x : Timebase) (j : Nat) : (s.setTb i x).kind j = s.kind j := rfl
theorem State.jumpTo_kind (w : Int) (j : Nat) : (s.jumpTo i w).kind j = s.kind j := rfl

/-- The timebase that SET places at its word, with offset and accumulator to match. -/
def State.tbSetting (s : State) (i : Nat) : Timebase :=
  let w := normWord (s.modulus i) (s.tbSet i)
  { (s.tb i).shifted (w - (s.tb i).word) with synth := w * (2 ^ 24 : Nat) }

/-- The word is TBSET. -/
def State.tbPlaced (s : State) (i : Nat) : State := (s.setTb i (s.tbSetting i)).placeAt i (normWord (s.modulus i) (s.tbSet i))

theorem State.tbPlaced_tb : (s.tbPlaced i).tb i = (s.tbSetting i).jumped (normWord (s.modulus i) (s.tbSet i)) := by
  rw [State.tbPlaced, State.placeAt_tb, State.setTb_tb_self, State.setTb_modulus, normWord_normWord]

theorem State.tbPlaced_tb_ne {j : Nat} (h : j ≠ i) : (s.tbPlaced i).tb j = s.tb j := by
  rw [State.tbPlaced, State.placeAt_tb_ne _ _ _ h, State.setTb_tb_ne _ _ _ _ h]

theorem State.tbDoSet_eq : s.tbDoSet i = if s.kind i = 3 then s.tbPlaced i else (s.tbPlaced i).putRef i true := rfl

/-- SET places TBSET, and gives a timebase that follows no other its reference. -/
theorem State.tbDoSet_tb {i : Nat} (hi : i < 32) : (s.tbDoSet i).tb i =
    { s.tbSetting i with ref := if s.kind i = 3 then (s.tb i).ref else true }.jumped (normWord (s.modulus i) (s.tbSet i)) := by
  rw [State.tbDoSet_eq]
  split
  · exact s.tbPlaced_tb i
  next hk =>
    rw [State.putRef_tb_self hi (s := s.tbPlaced i) hk, s.tbPlaced_tb]
    rfl

theorem State.tbDoSet_follows {i : Nat} (hi : i < 32) (hk : s.kind i ≠ 3) : s.Followed i (s.tbDoSet i) true := by
  rw [State.tbDoSet_eq, if_neg hk]
  exact (State.putRef_follows (s := s.tbPlaced i) hi hk true).congr hk (fun _ => rfl) (fun _ hj => s.tbPlaced_tb_ne i hj) fun _ => rfl

/-- SHIFT moves the word by TBSET. -/
theorem State.tbDoShift_tb : ∃ offset synth, (s.tbDoShift i).tb i =
    { s.tb i with offset := offset, synth := synth }.jumped (normWord (s.modulus i) ((s.tb i).word + s.tbSet i)) := by
  refine ⟨((s.tb i).shifted (s.tbSet i)).offset, ((s.tb i).shifted (s.tbSet i)).synth, ?_⟩
  rw [State.tbDoShift, State.placeAt_tb, State.setTb_tb_self]
  rfl

end

/-! ### Sources that are switched -/

/-- `y` is `x` with source `n`, its word as it was. -/
structure Timebase.Switched (x y : Timebase) (n : Nat) : Prop where
  src : y.src = n
  cmd : y.cmd = x.cmd
  word : y.word = x.word
  discgen : y.discgen = x.discgen

section
variable (s : State) (i n : Nat)

theorem State.setSource_kind (j : Nat) : (s.setFld (R.TBCFG i) R.TBCFG_SRC n).kind j = s.kind j := by
  refine State.kind_congr ?_
  by_cases h : R.TBCFG j = R.TBCFG i
  · rw [h, State.fld_setFld_apart _ _ _ (.inl (by decide))]
  · rw [State.fld_setFld_ne _ _ _ _ h]

theorem State.setSource_modulus (j : Nat) : (s.setFld (R.TBCFG i) R.TBCFG_SRC n).modulus j = s.modulus j := by
  refine State.modulus_congr (s.setSource_kind i n j) ?_
  unfold State.eff
  rw [State.rd_setFld_ne _ _ _ (by simp only [R.TBMOD, R.TBCFG]; omega)]
  rfl

theorem State.tbDoSwitchB_switched : (s.tb i).Switched ((s.tbDoSwitchB i n).tb i) n := by
  unfold State.tbDoSwitchB
  extract_lets x s' ch down quad frac
  split
  · rw [State.setTb_tb_self]
    exact ⟨rfl, rfl, rfl, rfl⟩
  · obtain ⟨ref, e⟩ := foldl_followRef_tb (s := s'.setTb i { x with src := n }) (l := (s'.setTb i { x with src := n }).virtuals) i
    rw [State.followRefs_eq, e, State.setTb_tb_self]
    exact ⟨rfl, rfl, rfl, rfl⟩

/-- A local timebase keeps its reference. -/
theorem State.tbDoSwitchB_ref (hk : s.kind i = 1) : ((s.tbDoSwitchB i n).tb i).ref = (s.tb i).ref := by
  unfold State.tbDoSwitchB
  extract_lets
  rw [if_pos hk, State.setTb_tb_self]
  rfl

theorem State.tbDoSwitchB_low : (s.setFld (R.TBCFG i) R.TBCFG_SRC n).LowKept (s.tbDoSwitchB i n) := by
  unfold State.tbDoSwitchB
  extract_lets
  exact .ite _ (State.setTb_low .refl _ _) (State.followRefs_low (State.setTb_low .refl _ _))

variable {i} (hi : i < 32)
include hi

theorem State.tbDoSwitchB_kind : (s.tbDoSwitchB i n).kind i = s.kind i :=
  (State.LowKept.kind (s.tbDoSwitchB_low i n) hi).trans (s.setSource_kind i n i)

theorem State.tbDoSwitchB_modulus : (s.tbDoSwitchB i n).modulus i = s.modulus i :=
  (State.LowKept.modulus (s.tbDoSwitchB_low i n) hi).trans (s.setSource_modulus i n i)

/-- SWITCHD of a local timebase places the position of the channel, unreferenced. -/
theorem State.tbDoSwitchD_local (hk : s.kind i = 1) : (s.tbDoSwitchD i n).tb i =
    { (s.tbDoSwitchB i n).tb i with offset := 0, hold := false, ref := false }.jumped (normWord (s.modulus i) (s.chanPos n)) := by
  have kind (x : Timebase) (w : Int) : (((s.tbDoSwitchB i n).setTb i x).jumpTo i w).kind i ≠ 3 := by
    rw [State.jumpTo_kind, State.setTb_kind, s.tbDoSwitchB_kind n hi, hk]
    decide
  have e : s.tbDoSwitchD i n = (((s.tbDoSwitchB i n).setTb i { (s.tbDoSwitchB i n).tb i with offset := 0 }).jumpTo i (s.chanPos n)).putRef i false :=
    if_pos hk
  rw [e, State.putRef_tb_self hi (kind _ _), State.jumpTo_jumped, State.setTb_modulus, s.tbDoSwitchB_modulus n hi, State.setTb_tb_self]
  rfl

/-- SWITCHD of a virtual timebase places the word of its source by the ratio. -/
theorem State.tbDoSwitchD_virtual (hk : s.kind i ≠ 1) : (s.tbDoSwitchD i n).tb i =
    { (s.tbDoSwitchB i n).tb i with acc := 0, hold := false }.jumped
      (normWord (s.modulus i) ((s.tb n).prev * (s.eff (R.TBGNUM i)).toInt / (max (s.eff (R.TBGDEN i)).toNat 1 : Nat))) := by
  have e : s.tbDoSwitchD i n = ((s.tbDoSwitchB i n).setTb i { (s.tbDoSwitchB i n).tb i with acc := 0 }).jumpTo i
      ((s.tb n).prev * (s.eff (R.TBGNUM i)).toInt / (max (s.eff (R.TBGDEN i)).toNat 1 : Nat)) := if_neg hk
  rw [e, State.jumpTo_jumped, State.setTb_modulus, s.tbDoSwitchB_modulus n hi, State.setTb_tb_self]

end

/-! ### The boundary -/

/-- The timebase that a command moves, or the source that it names, has stopped. -/
def State.tbDead (s : State) (i : Nat) (c : TbCmd) : Bool :=
  ((c.cmd == 1 || c.cmd == 3) && (s.tb i).state != .run) ||
    ((c.cmd == 5 || c.cmd == 6) && if s.kind i = 1 then (s.chan c.newsrc).state == .off || (s.chan c.newsrc).state == .fault
      else (s.tb c.newsrc).state != .run)

/-- The state in which a command is carried out: it waits no longer. -/
def State.tbTaken (s : State) (i : Nat) : State := s.setTb i { s.tb i with cmd := none }

/-- A command, by its code. -/
def State.tbCarry (s : State) (i cmd n : Nat) : State :=
  match cmd with
  | 1 => s.tbDoSet i
  | 2 => s.putRef i true
  | 3 => s.tbDoShift i
  | 4 => s.putRef i false
  | 5 => s.tbDoSwitchB i n
  | _ => s.tbDoSwitchD i n

section
variable {s : State} {i : Nat} {c : TbCmd}

/-- A switch finds its source stopped. -/
theorem State.tbDead_switch (h : c.cmd = 5 ∨ c.cmd = 6) : s.tbDead i c = true ↔
    if s.kind i = 1 then (s.chan c.newsrc).state ∈ [ChState.off, .fault] else (s.tb c.newsrc).state ≠ .run := by
  have h13 : ¬(c.cmd = 1 ∨ c.cmd = 3) := by omega
  unfold State.tbDead
  split <;> simp [h, h13]

variable (hc : (s.tb i).cmd = some c) (hd : c.dueK ≤ s.now)
include hc hd

theorem State.tbEffect_eq : s.tbEffect i =
    if s.tbDead i c then (s.tbTaken i).tbStat i 2
    else ((s.tbTaken i).tbCarry i c.cmd c.newsrc).log c.who c.guard c.ring 1 0 (R.TBCMD i) (wrapN 32 (s.tb i).word) (c.cmd + 256 * c.newsrc) := by
  unfold State.tbEffect
  simp only [hc]
  rw [if_neg (Nat.not_lt.2 hd)]
  rfl

/-- A command that finds its timebase or its source stopped is dropped with COND. -/
theorem tbEffect_dropped (h : s.tbDead i c = true) :
    s.Leads (.timebaseCommandEffect i) (fun t => t.tb i = { s.tb i with cmd := none, wstat := 2 }) := by
  refine State.Leads.of_done (u := (s.tbTaken i).tbStat i 2) (congrArg (done s) ((State.tbEffect_eq hc hd).trans (if_pos h))) fun t ht => ?_
  rw [ht.keep (State.tb · i) fun _ => rfl, State.tbStat, State.setTb_tb_self, State.tbTaken, State.setTb_tb_self]

/-- Any other leads to what it does to the timebases. -/
theorem tbEffect_carried (h : s.tbDead i c = false) {u : State} (hu : (s.tbTaken i).tbCarry i c.cmd c.newsrc = u) {P : State → Prop}
    (hP : ∀ t : State, (∀ j, t.tb j = u.tb j) → P t) : s.Leads (.timebaseCommandEffect i) P := by
  refine State.Leads.of_done (congrArg (done s) ((State.tbEffect_eq hc hd).trans (if_neg (by simp [h])))) fun t ht => hP t fun j => ?_
  exact (ht.keep (State.tb · j) fun _ => rfl).trans (((State.log_logbook ..).keep (State.tb · j) fun _ => rfl).trans (by rw [hu]))

end

/-! ### The commands, one by one -/

section
variable {s : State} {i : Nat}

theorem State.tbTaken_tb_self (s : State) (i : Nat) : (s.tbTaken i).tb i = { s.tb i with cmd := none } := State.setTb_tb_self ..
theorem State.tbTaken_tb_ne (s : State) {i j : Nat} (h : j ≠ i) : (s.tbTaken i).tb j = s.tb j := State.setTb_tb_ne _ _ _ _ h

theorem State.tbTaken_prev (s : State) (i j : Nat) : ((s.tbTaken i).tb j).prev = (s.tb j).prev := by
  by_cases h : j = i
  · subst h
    rw [s.tbTaken_tb_self]
  · rw [s.tbTaken_tb_ne h]

/-- `y` is `x` after a discontinuity. -/
def Timebase.After (x y : Timebase) : Prop := y.discgen = (x.discgen + 1) % 256 ∧ y.disc = true

variable {c : TbCmd} (hi : i < 32) (hc : (s.tb i).cmd = some c) (hd : c.dueK ≤ s.now)

section
variable (hr : (s.tb i).state = .run)
include hi hc hd hr

theorem tbSet_effect (h : c.cmd = 1) : s.Leads (.timebaseCommandEffect i) (fun t =>
    (t.tb i).cmd = none ∧ s.isWord i (s.tbSet i) (t.tb i).word ∧ (s.tb i).After (t.tb i) ∧
      (s.kind i ≠ 3 → (t.tb i).ref = true ∧ s.Followed i t true) ∧ (s.kind i = 3 → (t.tb i).ref = (s.tb i).ref)) := by
  refine tbEffect_carried hc hd (u := (s.tbTaken i).tbDoSet i) (by simp [State.tbDead, h, hr]) (by rw [h]; rfl) fun t ht => ?_
  have e : t.tb i = { (s.tbTaken i).tbSetting i with ref := if s.kind i = 3 then (s.tb i).ref else true }.jumped
      (normWord (s.modulus i) (s.tbSet i)) := by
    rw [ht, State.tbDoSet_tb _ hi, State.tbTaken_tb_self]
    rfl
  rw [e]
  exact ⟨congrArg Timebase.cmd (s.tbTaken_tb_self i), isWord_normWord s i _,
    ⟨congrArg (fun x => (x.discgen + 1) % 256) (s.tbTaken_tb_self i), rfl⟩,
    fun hk => ⟨if_neg hk, (State.tbDoSet_follows (s := s.tbTaken i) hi hk).congr hk (fun _ => rfl) (fun _ hj => s.tbTaken_tb_ne hj) ht⟩,
    fun hk => if_pos hk⟩

omit hi in
theorem tbShift_effect (h : c.cmd = 3) : s.Leads (.timebaseCommandEffect i) (fun t =>
    (t.tb i).cmd = none ∧ s.isWord i ((s.tb i).word + s.tbSet i) (t.tb i).word ∧ (s.tb i).After (t.tb i) ∧ (t.tb i).ref = (s.tb i).ref) := by
  refine tbEffect_carried hc hd (u := (s.tbTaken i).tbDoShift i) (by simp [State.tbDead, h, hr]) (by rw [h]; rfl) fun t ht => ?_
  obtain ⟨offset, synth, e⟩ := (s.tbTaken i).tbDoShift_tb i
  rw [ht, e, State.tbTaken_tb_self]
  exact ⟨rfl, isWord_normWord s i _, ⟨rfl, rfl⟩, rfl⟩

end

include hi hc hd in
/-- ACCEPT and UNREF set the reference of a timebase that follows no other. -/
theorem tbReference_effect {ref : Bool} (h : c.cmd = if ref then 2 else 4) (hk : s.kind i ≠ 3) :
    s.Leads (.timebaseCommandEffect i) (fun t => t.tb i = { s.tb i with cmd := none, ref := ref } ∧ s.Followed i t ref) := by
  have u : (s.tbTaken i).tbCarry i c.cmd c.newsrc = (s.tbTaken i).putRef i ref := by rw [h]; cases ref <;> rfl
  refine tbEffect_carried hc hd (by cases ref <;> simp [State.tbDead, h]) u fun t ht => ⟨?_, ?_⟩
  · rw [ht, State.putRef_tb_self (s := s.tbTaken i) hi hk, State.tbTaken_tb_self]
  · exact (State.putRef_follows (s := s.tbTaken i) hi hk ref).congr hk (fun _ => rfl) (fun _ hj => s.tbTaken_tb_ne hj) ht

section
variable (hl : s.tbDead i c = false)
include hc hd hl

theorem tbSwitchB_effect (h : c.cmd = 5) : s.Leads (.timebaseCommandEffect i) (fun t =>
    (t.tb i).cmd = none ∧ (t.tb i).src = c.newsrc ∧ (t.tb i).word = (s.tb i).word ∧ (t.tb i).discgen = (s.tb i).discgen ∧
      (s.kind i = 1 → (t.tb i).ref = (s.tb i).ref)) := by
  refine tbEffect_carried hc hd hl (u := (s.tbTaken i).tbDoSwitchB i c.newsrc) (by rw [h]; rfl) fun t ht => ?_
  obtain ⟨src, cmd, word, discgen⟩ := (s.tbTaken i).tbDoSwitchB_switched i c.newsrc
  rw [s.tbTaken_tb_self] at cmd word discgen
  rw [ht]
  refine ⟨cmd, src, word, discgen, fun hk => ?_⟩
  rw [State.tbDoSwitchB_ref (s.tbTaken i) _ _ hk, State.tbTaken_tb_self]

include hi

theorem tbSwitchD_effect (h : c.cmd = 6) : s.Leads (.timebaseCommandEffect i) (fun t =>
    (t.tb i).cmd = none ∧ (t.tb i).src = c.newsrc ∧ (s.tb i).After (t.tb i) ∧
      (s.kind i = 1 → s.isWord i (s.chanPos c.newsrc) (t.tb i).word ∧ (t.tb i).ref = false) ∧
      (s.kind i = 3 → s.eff (R.TBGDEN i) ≠ 0 →
        s.isWord i ((s.tb c.newsrc).prev * (s.eff (R.TBGNUM i)).toInt / (s.eff (R.TBGDEN i)).toNat) (t.tb i).word)) := by
  refine tbEffect_carried hc hd hl (u := (s.tbTaken i).tbDoSwitchD i c.newsrc) (by rw [h]; rfl) fun t ht => ?_
  obtain ⟨src, cmd, -, discgen⟩ := (s.tbTaken i).tbDoSwitchB_switched i c.newsrc
  rw [s.tbTaken_tb_self] at cmd discgen
  have count := congrArg (fun n => (n + 1) % 256) discgen
  rw [ht]
  by_cases h1 : s.kind i = 1
  · rw [State.tbDoSwitchD_local (s.tbTaken i) _ hi h1]
    exact ⟨cmd, src, ⟨count, rfl⟩, fun _ => ⟨isWord_normWord s i _, rfl⟩, fun h3 => absurd (h1.symm.trans h3) (by decide)⟩
  · rw [State.tbDoSwitchD_virtual (s.tbTaken i) _ hi h1]
    refine ⟨cmd, src, ⟨count, rfl⟩, fun h => absurd h h1, fun _ h0 => ?_⟩
    have den : max (s.eff (R.TBGDEN i)).toNat 1 = (s.eff (R.TBGDEN i)).toNat := by
      have : (s.eff (R.TBGDEN i)).toNat ≠ 0 := fun e => h0 (BitVec.eq_of_toNat_eq e)
      omega
    rw [← den, ← s.tbTaken_prev i]
    exact isWord_normWord s i _

end

end

/-- Settles O34, command by command: one whose timebase or source has stopped is dropped, any other has the effect of its own rule. -/
theorem timebaseCommandsTakeEffect : Obligations.TimebaseCommandsTakeEffect := by
  intro s i c hi hc hd x k v does jumped followed dead
  have deadIff (h : c.cmd = 5 ∨ c.cmd = 6) : s.tbDead i c = true ↔ dead := State.tbDead_switch h
  have live (h : c.cmd = 5 ∨ c.cmd = 6) (hl : ¬dead) : s.tbDead i c = false := Bool.eq_false_iff.2 fun e => hl ((deadIff h).1 e)
  refine ⟨fun h hr => tbSet_effect hi hc hd hr h, fun h hr => tbShift_effect hc hd hr h, fun h hr => ?_,
    fun h hk => tbReference_effect (ref := true) hi hc hd h hk, fun h hk => tbReference_effect (ref := false) hi hc hd h hk,
    fun h hdead => tbEffect_dropped hc hd ((deadIff h).2 hdead), fun h hl _ => tbSwitchB_effect hc hd (live (.inl h) hl) h,
    fun h hl _ => ?_⟩
  · have hr' : (s.tb i).state ≠ .run := hr
    exact tbEffect_dropped hc hd (by simp [State.tbDead, h, hr'])
  · have e := tbSwitchD_effect hi hc hd (live (.inr h) hl) h
    rw [State.chanPos, Int.mul_comm] at e
    exact e

end Sys2Proof.Machine
end

section
/-! PROOF of O35. Writes of the kinds, moduli, ratios and rates of timebases, and of wall time: why one is refused, or what it leaves. -/

namespace Sys2Proof.Machine

/-! ### The registers of a timebase's block -/

theorem State.Does.mono {s : State} {r : Rq} {a : Nat} {v : Word} {c : Instr} {P Q : State → Prop} (h : s.Does r a v c P)
    (hpq : ∀ t, P t → Q t) : s.Does r a v c Q := fun hr => State.Leads.mono (h hr) hpq

/-- Which register of timebase `i` a command writes: its address, its place in the block, and the command. -/
inductive TbReg (i : Nat) : Nat → Nat → (Rq → Nat → Word → Instr) → Prop
  | cfg : TbReg i (R.TBCFG i) 0x00 .tbcfgKindWrite
  | mod : TbReg i (R.TBMOD i) 0x20 .tbmodWrite
  | den : TbReg i (R.TBGDEN i) 0x2C .tbgdenWrite
  | syn : TbReg i (R.TBSYNVEL i) 0x34 .tbsynvelWrite

theorem tb_shared {i : Nat} (h : i < 32) :
    sharedAddr (R.TBCFG i) ∧ sharedAddr (R.TBMOD i) ∧ sharedAddr (R.TBGDEN i) ∧ sharedAddr (R.TBSYNVEL i) := by
  revert i; decide

section
variable {i a off : Nat} {row : Rq → Nat → Word → Instr} (h : TbReg i a off row)
include h

theorem TbReg.addr : a = 0x40010000 + 0x40 * i + off ∧ off < 0x40 := by
  cases h <;> simp only [R.TBCFG, R.TBMOD, R.TBGDEN, R.TBSYNVEL] <;> omega

theorem TbReg.shared (hi : i < 32) : sharedAddr a := by
  obtain ⟨cfg, mod, den, syn⟩ := tb_shared hi
  cases h <;> assumption

theorem TbReg.exec_eq (r : Rq) (v : Word) (s : State) : exec (row r i v) s = done s (s.request r a v) := by
  cases h <;> rfl

/-- The address is none of those that an access or the Logbook changes besides. -/
theorem TbReg.apart (hi : i < 32) : ¬askReg a ∧ ¬logReg a := by
  obtain ⟨ha, hoff⟩ := h.addr
  simp only [askReg, logReg, R.LBSTAT, R.LBSEQ]
  omega

end

theorem kindHasMod_iff (k : Nat) : kindHasMod k = true ↔ k ∈ [1, 3, 4, 6] := by
  simp [kindHasMod, or_assoc]

/-- What a write of TBCFG, TBMOD, TBGDEN or TBSYNVEL does, by the register's place in the block. -/
def State.tbRegWrite (s : State) (w : Who) (i off : Nat) (v : Word) : State :=
  if off = 0x00 then s.tbCfgWrite w i v
  else if off = 0x20 then s.tbModWrite w i v
  else if off = 0x2C then s.tbDenWrite w i v
  else s.tbSynWrite i v

/-- A kind that does not use the register is refused by the block as it is by the register (R95). -/
theorem State.tbRegWrite_unused {s : State} {w : Who} {i a off : Nat} {v : Word} {row : Rq → Nat → Word → Instr} (h : TbReg i a off row)
    (hk : kindUses (s.kind i) off = false) : s.tbRegWrite w i off v = s.tbStat i 1 := by
  cases h with
  | cfg => exact absurd hk nofun
  | mod =>
    have hk' : kindHasMod (s.kind i) = false := hk
    simp [State.tbRegWrite, State.tbModWrite, hk']
  | den =>
    have hk' : (s.kind i == 3) = false := hk
    simp [State.tbRegWrite, State.tbDenWrite, bne, hk']
  | syn =>
    have hk' : (s.kind i == 6) = false := hk
    simp [State.tbRegWrite, State.tbSynWrite, bne, hk']

theorem State.regWrite_tb {s : State} {w : Who} {i a off : Nat} {v : Word} {row : Rq → Nat → Word → Instr} (h : TbReg i a off row)
    (hi : i < 32) : (s.regWrite w a v).1 = s.tbRegWrite w i off v := by
  obtain ⟨ha, hoff⟩ := h.addr
  have hwin : a / 0x10000 = 0x4001 := by omega
  have hmod : a % 0x10000 = 0x40 * i + off := by omega
  have hidx : (0x40 * i + off) / 0x40 = i := by omega
  have hreg : (0x40 * i + off) % 0x40 = off := by omega
  unfold State.regWrite
  simp only [hwin, hmod]
  unfold State.posWrite
  rw [if_pos (by omega)]
  simp only [hidx, hreg]
  cases hk : kindUses (s.kind i) off with
  | false => exact (State.tbRegWrite_unused h hk).symm
  | true => cases h <;> rfl

/-- `t` is `s` with a write of `v` at `a` that waits for the boundary, and with WSTAT 0. -/
def State.Defers (s : State) (i a : Nat) (v : Word) (t : State) : Prop :=
  ∃ u, Frame.logbook.Only logReg (s.defer a v) u ∧ t = u.tbStat i 0

section
variable {s : State} {r : Rq} {i a off : Nat} {v : Word} {row : Rq → Nat → Word → Instr} (h : TbReg i a off row) (hi : i < 32)
include h hi

/-- The command leads to what the write of the register does. -/
theorem does_tbreg {P : State → Prop}
    (hP : ∀ t, Frame.asked.Only askReg ((s.entered r a v).tbRegWrite (s.asker r) i off v) t → P t) : s.Does r a v (row r i v) P :=
  does_of_request (h.exec_eq r v s) (h.shared hi) fun _ t ht => hP t (State.regWrite_tb h hi ▸ ht)

theorem does_tbreg_refused {code : Nat} (hw : (s.entered r a v).tbRegWrite (s.asker r) i off v = (s.entered r a v).tbStat i code) :
    s.Does r a v (row r i v) (fun t => t.rd a = s.rd a ∧ t.tb i = { s.tb i with wstat := code }) := by
  refine does_tbreg h hi fun t ht => ?_
  rw [hw] at ht
  refine ⟨(ht.rd (h.apart hi).1).trans (s.entered_rd r a v a), ?_⟩
  rw [ht.keep (State.tb · i) fun _ => rfl, State.tbStat, State.setTb_tb_self, State.entered_tb]

/-- A write that waits for the boundary reads back at once. -/
theorem does_tbreg_late (hw : (s.entered r a v).Defers i a v ((s.entered r a v).tbRegWrite (s.asker r) i off v)) :
    s.Does r a v (row r i v) (fun t => t.rd a = v ∧ t.eff a = s.eff a ∧ (t.tb i).wstat = 0) := by
  refine does_tbreg h hi fun t ht => ?_
  obtain ⟨u, hu, e⟩ := hw
  obtain ⟨hask, hlog⟩ := h.apart hi
  rw [e] at ht
  have rd : t.rd a = ((s.entered r a v).defer a v).rd a := (ht.rd hask).trans (hu.rd hlog)
  have force : t.inForce = ((s.entered r a v).defer a v).inForce := (ht.keep State.inForce fun _ => rfl).trans (hu.keep State.inForce fun _ => rfl)
  refine ⟨rd.trans (Tab.get_put_self ..), ?_, ?_⟩
  · rw [State.eff_congr _ force rd, State.defer_eff, State.entered_eff]
  · rw [ht.keep (State.tb · i) fun _ => rfl, State.tbStat, State.setTb_tb_self]

end

/-! ### Moduli, ratios and rates -/

section
variable {s : State} {w : Who} {i : Nat} {v : Word}

theorem State.tbModWrite_late (hk : kindHasMod (s.kind i) = true) (hm : s.mode = .prepare) : s.Defers i (R.TBMOD i) v (s.tbModWrite w i v) :=
  ⟨_, State.logCfg_logbook _ w (R.TBMOD i) (s.rd (R.TBMOD i)) v, by simp [State.tbModWrite, hk, hm]⟩

theorem State.tbModWrite_notNow (hk : kindHasMod (s.kind i) = true) (hm : s.mode ≠ .prepare) : s.tbModWrite w i v = s.tbStat i 7 := by
  simp [State.tbModWrite, hk, hm]

theorem State.tbDenWrite_late (hk : s.kind i = 3) (hv : v ≠ 0) : s.Defers i (R.TBGDEN i) v (s.tbDenWrite w i v) :=
  ⟨_, State.logCfg_logbook _ w (R.TBGDEN i) (s.rd (R.TBGDEN i)) v, by rw [State.tbDenWrite, hk, if_neg (by decide), if_neg hv]⟩

theorem State.tbDenWrite_zero (hk : s.kind i = 3) (hv : v = 0) : s.tbDenWrite w i v = s.tbStat i 2 := by
  simp [State.tbDenWrite, hk, hv]

theorem State.tbSynWrite_late (hk : s.kind i = 6) : s.Defers i (R.TBSYNVEL i) v (s.tbSynWrite i v) :=
  ⟨_, .refl, by simp [State.tbSynWrite, hk]⟩

end

theorem State.entered_kind (s : State) (r : Rq) (a : Nat) (v : Word) (i : Nat) : (s.entered r a v).kind i = s.kind i := by cases r <;> rfl

/-! ### Kinds -/

theorem tbcfg_wmask {i : Nat} (h : i < 32) : wmaskAt (R.TBCFG i) = 0x07FF0F07 := by
  revert i; decide

/-- What a write of `v` stores in TBCFG: SRC is the timebase's own, but that of a REMOTE one, and STILLT is never 0. -/
def State.tbcfgValue (s : State) (i : Nat) (v : Word) : Word :=
  let v := R.TBCFG_SRC.put (v &&& wmaskAt (R.TBCFG i)) (R.TBCFG_SRC.get (s.rd (R.TBCFG i)))
  let v := if R.TBCFG_KIND.get v = 2 then R.TBCFG_SRC.put v (i - 16) else v
  if R.TBCFG_STILLT.get v = 0 then R.TBCFG_STILLT.put v 50 else v

/-- Why a write of TBCFG is refused; 0 when it is not (R96). -/
def State.tbcfgCode (s : State) (i k : Nat) : Nat :=
  if k != s.kind i && !(decide (16 ≤ i ∧ i < 28) && (k == 0 || k == 2 || k == 3)) then 1
  else if k == 2 && !s.variant.enward then 4
  else if k != s.kind i && k == 3 && (s.badChain i (s.tb i).src || !s.variant.hasTb (s.tb i).src) then 5
  else if k != s.kind i && s.mode != .prepare && (s.tb i).state == .run then 7
  else 0

/-- TBCFG reads `v`. -/
def State.tbcfgStored (s : State) (w : Who) (i : Nat) (v : Word) : State :=
  ((s.wr (R.TBCFG i) v).logCfg w (R.TBCFG i) (s.rd (R.TBCFG i)) v).tbStat i 0

/-- With a new kind, the slots on the timebase have ended. -/
def State.tbcfgEnded (s : State) (w : Who) (i : Nat) (v : Word) : State := (s.tbcfgStored w i v).endSlots (fun _ y => y.a.per.tb == i) 8

/-- A flexible timebase as it starts, at edge `now`, with source `n` (R118). -/
def Timebase.begun (x : Timebase) (now n : Nat) : Timebase :=
  { x.stopped now with
    state := .run, cause := 0, src := n, acc := 0, samples := [], hold := false, rxSeen := false, rxK := now, rxDisc := none }

/-- The timebase starts with its new kind, at edge `now`. -/
def State.tbcfgStarted (s : State) (now i : Nat) (v : Word) : State :=
  (s.setTb i ((s.tb i).begun now (R.TBCFG_SRC.get v))).putRef i false

section
variable {s : State} {i : Nat} (v : Word)

theorem State.tbcfgValue_apart (f : F) (hf : f.apart R.TBCFG_SRC ∧ f.apart R.TBCFG_STILLT) :
    f.get (s.tbcfgValue i v) = f.get (v &&& wmaskAt (R.TBCFG i)) := by
  obtain ⟨hsrc, hstill⟩ := hf
  unfold State.tbcfgValue
  extract_lets v1 v2
  have h1 : f.get v1 = f.get (v &&& wmaskAt (R.TBCFG i)) := F.get_put_apart _ _ hsrc
  have h2 : f.get v2 = f.get v1 := by
    by_cases h : R.TBCFG_KIND.get v1 = 2
    · exact (congrArg f.get (if_pos h)).trans (F.get_put_apart _ _ hsrc)
    · exact congrArg f.get (if_neg h)
  split
  · rw [F.get_put_apart _ _ hstill, h2, h1]
  · rw [h2, h1]

variable (hi : i < 32)
include hi

theorem State.tbcfgValue_kind : R.TBCFG_KIND.get (s.tbcfgValue i v) = R.TBCFG_KIND.get v := by
  rw [State.tbcfgValue_apart v _ ⟨.inl (by decide), .inl (by decide)⟩, tbcfg_wmask hi]
  exact F.get_and_mask _ _ _ (by decide)

theorem State.tbcfgValue_src : R.TBCFG_SRC.get (s.tbcfgValue i v) =
    if R.TBCFG_KIND.get v = 2 then (i - 16) % 32 else R.TBCFG_SRC.get (s.rd (R.TBCFG i)) := by
  unfold State.tbcfgValue
  extract_lets v1 v2
  have kind : R.TBCFG_KIND.get v1 = R.TBCFG_KIND.get v :=
    (F.get_put_apart _ _ (.inl (by decide))).trans (F.get_and_mask _ _ _ (by rw [tbcfg_wmask hi]; decide))
  have own : R.TBCFG_SRC.get v1 = R.TBCFG_SRC.get (s.rd (R.TBCFG i)) :=
    (F.get_put_self _ _ _ (by decide)).trans (Nat.mod_eq_of_lt (F.get_lt ..))
  have src : R.TBCFG_SRC.get v2 = if R.TBCFG_KIND.get v = 2 then (i - 16) % 32 else R.TBCFG_SRC.get (s.rd (R.TBCFG i)) := by
    rw [← kind, ← own]
    by_cases h : R.TBCFG_KIND.get v1 = 2
    · rw [if_pos h, show v2 = R.TBCFG_SRC.put v1 (i - 16) from if_pos h]
      exact F.get_put_self _ _ _ (by decide)
    · rw [if_neg h, show v2 = v1 from if_neg h]
  split
  · rw [F.get_put_apart _ _ (.inl (by decide)), src]
  · exact src

omit hi in
/-- The first of four codes that applies, or none. -/
theorem ite_code {α : Type} {p q r t : Prop} [Decidable p] [Decidable q] [Decidable r] [Decidable t] (f : Nat → α) (x : α) (a b c d : Nat)
    (h : a ≠ 0 ∧ b ≠ 0 ∧ c ≠ 0 ∧ d ≠ 0) :
    (if p then f a else if q then f b else if r then f c else if t then f d else x) =
      let code := if p then a else if q then b else if r then c else if t then d else 0
      if code = 0 then x else f code := by
  obtain ⟨ha, hb, hc, hd⟩ := h
  by_cases hp : p
  · simp [hp, ha]
  by_cases hq : q
  · simp [hp, hq, hb]
  by_cases hr : r
  · simp [hp, hq, hr, hc]
  by_cases ht : t
  · simp [hp, hq, hr, ht, hd]
  · simp [hp, hq, hr, ht]

theorem State.tbCfgWrite_eq (w : Who) : s.tbCfgWrite w i v =
    if s.tbcfgCode i (R.TBCFG_KIND.get v) = 0 then
      if R.TBCFG_KIND.get v = s.kind i then s.tbcfgStored w i (s.tbcfgValue i v)
      else if R.TBCFG_KIND.get v = 0 then (s.tbcfgEnded w i (s.tbcfgValue i v)).tbOff i
      else (s.tbcfgEnded w i (s.tbcfgValue i v)).tbcfgStarted s.now i (s.tbcfgValue i v)
    else s.tbStat i (s.tbcfgCode i (R.TBCFG_KIND.get v)) := by
  rw [← State.tbcfgValue_kind (s := s) v hi]
  unfold State.tbCfgWrite
  extract_lets old v1 v2 v3 k x flexible s1 s2
  rw [show s.tbcfgValue i v = v3 from rfl]
  clear_value v3
  refine (ite_code (s.tbStat i) _ 1 4 5 7 (by decide)).trans ?_
  rfl

end

section
variable (s : State) (w : Who) (now : Nat) {i : Nat} (v : Word)

theorem State.tbcfgEnded_tb : (s.tbcfgEnded w i v).tb i = { s.tb i with wstat := 0 } := by
  rw [State.tbcfgEnded, State.endSlots_tb, State.tbcfgStored, State.tbStat, State.setTb_tb_self,
    (State.logCfg_logbook ..).keep (State.tb · i) fun _ => rfl]
  rfl

theorem State.tbcfgStarted_low : s.LowKept (s.tbcfgStarted now i v) := State.followRefs_low (State.setRef_low (State.setTb_low .refl _ _) _ _)

theorem State.tbcfgStarted_tb :
    ((s.tbcfgStarted now i v).tb i).state = .run ∧ ((s.tbcfgStarted now i v).tb i).cause = 0 ∧
      ((s.tbcfgStarted now i v).tb i).src = R.TBCFG_SRC.get v ∧ ((s.tbcfgStarted now i v).tb i).wstat = (s.tb i).wstat := by
  obtain ⟨ref, e⟩ := State.putRef_tb (s.setTb i ((s.tb i).begun now (R.TBCFG_SRC.get v))) i false
  rw [State.tbcfgStarted, e, State.setTb_tb_self]
  exact ⟨rfl, rfl, rfl, rfl⟩

variable (hi : i < 32)
include hi

theorem State.tbcfgEnded_rd : (s.tbcfgEnded w i v).rd (R.TBCFG i) = v := by
  rw [State.tbcfgEnded, State.LowKept.rd_tbcfg (State.endSlots_low .refl _ _) hi, State.tbcfgStored, State.tbStat, State.setTb_rd,
    (State.logCfg_logbook ..).rd ((TbReg.cfg (i := i)).apart hi).2, State.rd_wr_self]

/-- A timebase that follows no other starts unreferenced. -/
theorem State.tbcfgStarted_ref (hk : s.kind i ≠ 3) : ((s.tbcfgStarted now i v).tb i).ref = false := by
  rw [State.tbcfgStarted, State.putRef_tb_self (s := s.setTb i _) hi hk]

end

theorem State.tbOff_wstat (s : State) (i : Nat) : ((s.tbOff i).tb i).wstat = (s.tb i).wstat := by
  unfold State.tbOff
  split
  · rfl
  · rw [State.tbStop_tb_self]; rfl

theorem State.kind_flexible (s : State) {i : Nat} (h16 : 16 ≤ i) (h28 : i < 28) : s.kind i = R.TBCFG_KIND.get (s.rd (R.TBCFG i)) := by
  unfold State.kind
  rw [if_neg (by omega), if_pos h28]
  rfl

/-- The source in use is there, and following it makes no chain that R107 forbids. -/
def State.MayFollow (s : State) (i : Nat) : Prop :=
  s.variant.hasTb (s.tb i).src = true ∧ (s.kind (s.tb i).src = 3 → (s.tb i).src < i)

theorem State.mayFollow_iff (s : State) (i : Nat) : (s.badChain i (s.tb i).src || !s.variant.hasTb (s.tb i).src) = false ↔ s.MayFollow i := by
  simp [State.badChain, State.MayFollow, and_comm]

section
variable {s : State} {i k : Nat} (h16 : 16 ≤ i) (h28 : i < 28) (hk : k ≠ s.kind i)
include h16 h28 hk

/-- Where a flexible timebase takes the kind, only its running keeps a write out, but in PREPARE. -/
theorem State.tbcfgCode_open (h : k = 0 ∨ k = 2 ∧ s.variant.enward = true ∨ k = 3 ∧ s.MayFollow i) :
    s.tbcfgCode i k = if s.mode = .prepare ∨ (s.tb i).state ≠ .run then 0 else 7 := by
  have last : s.tbcfgCode i k = if s.mode != .prepare && (s.tb i).state == .run then 7 else 0 := by
    rcases h with rfl | ⟨rfl, he⟩ | ⟨rfl, hf⟩
    · simp [State.tbcfgCode, h16, h28, hk]
    · simp [State.tbcfgCode, h16, h28, hk, he]
    · simp [State.tbcfgCode, h16, h28, hk, (s.mayFollow_iff i).2 hf]
  rw [last]
  by_cases hm : s.mode = .prepare
  · simp [hm]
  · simp [hm]

theorem State.tbcfgCode_chain (h : k = 3) (hf : ¬s.MayFollow i) : s.tbcfgCode i k = 5 := by
  rw [← s.mayFollow_iff, Bool.not_eq_false] at hf
  subst h
  simp [State.tbcfgCode, h16, h28, hk, hf]

end

theorem State.tbcfgCode_fixed {s : State} {i k : Nat} (h : i < 16 ∨ 28 ≤ i) (hk : k ≠ s.kind i) : s.tbcfgCode i k = 1 := by
  have fixed : ¬(16 ≤ i ∧ i < 28) := by omega
  simp [State.tbcfgCode, fixed, hk]

/-- Timebase `i` runs with kind `k`, and without a fault. -/
def State.Started (t : State) (i k : Nat) : Prop := t.kind i = k ∧ (t.tb i).wstat = 0 ∧ (t.tb i).state = .run ∧ (t.tb i).cause = 0

section
variable {s : State} {r : Rq} {i : Nat} {v : Word}

theorem State.entered_tbcfgCode (k : Nat) : (s.entered r (R.TBCFG i) v).tbcfgCode i k = s.tbcfgCode i k := by cases r <;> rfl
theorem State.entered_tbcfgValue : (s.entered r (R.TBCFG i) v).tbcfgValue i v = s.tbcfgValue i v := by cases r <;> rfl

variable (hi : i < 32)
include hi

theorem tbcfg_refused {code : Nat} (hc : s.tbcfgCode i (R.TBCFG_KIND.get v) = code) (h : code ≠ 0) :
    s.Does r (R.TBCFG i) v (.tbcfgKindWrite r i v) (fun t => t.rd (R.TBCFG i) = s.rd (R.TBCFG i) ∧ t.tb i = { s.tb i with wstat := code }) := by
  refine does_tbreg_refused .cfg hi ((State.tbCfgWrite_eq v hi _).trans ?_)
  rw [State.entered_tbcfgCode, hc, if_neg h]

end

section
variable {s : State} {r : Rq} {i : Nat} {v : Word} (h16 : 16 ≤ i) (h28 : i < 28) (hc : s.tbcfgCode i (R.TBCFG_KIND.get v) = 0)
  (hk : R.TBCFG_KIND.get v ≠ s.kind i)
include h16 h28

theorem State.kind_of_tbcfg {t : State} (h : t.rd (R.TBCFG i) = s.tbcfgValue i v) : t.kind i = R.TBCFG_KIND.get v := by
  rw [t.kind_flexible h16 h28, h, State.tbcfgValue_kind v (by omega)]

include hc hk

/-- A new kind is taken: TBCFG reads it, and the timebase is stopped or started from the state `u` in which its slots have ended. -/
theorem does_tbcfg {P : State → Prop} (hP : ∀ u t : State, u.tb i = { s.tb i with wstat := 0 } → u.kind i = R.TBCFG_KIND.get v →
      t.tb i = (if R.TBCFG_KIND.get v = 0 then u.tbOff i else u.tbcfgStarted s.now i (s.tbcfgValue i v)).tb i →
      t.rd (R.TBCFG i) = s.tbcfgValue i v → P t) :
    s.Does r (R.TBCFG i) v (.tbcfgKindWrite r i v) P := by
  have hi : i < 32 := by omega
  refine does_tbreg .cfg hi fun t ht => ?_
  let u := (s.entered r (R.TBCFG i) v).tbcfgEnded (s.asker r) i (s.tbcfgValue i v)
  have rd : u.rd (R.TBCFG i) = s.tbcfgValue i v := State.tbcfgEnded_rd _ _ _ hi
  have low : u.LowKept (if R.TBCFG_KIND.get v = 0 then u.tbOff i else u.tbcfgStarted s.now i (s.tbcfgValue i v)) :=
    .ite _ (State.tbOff_low .refl i) (u.tbcfgStarted_low _ _)
  have e := State.tbCfgWrite_eq (s := s.entered r (R.TBCFG i) v) v hi (s.asker r)
  rw [State.entered_tbcfgCode, State.entered_tbcfgValue, State.entered_kind, State.entered_now, if_pos hc, if_neg hk] at e
  change Frame.asked.Only askReg ((s.entered r (R.TBCFG i) v).tbCfgWrite (s.asker r) i v) t at ht
  rw [e] at ht
  refine hP u t ((State.tbcfgEnded_tb _ _ _).trans (by rw [State.entered_tb])) (State.kind_of_tbcfg h16 h28 rd) ?_ ?_
  · exact ht.keep (State.tb · i) fun _ => rfl
  · exact (ht.rd ((TbReg.cfg (i := i)).apart hi).1).trans ((State.LowKept.rd_tbcfg low hi).trans rd)

theorem tbcfg_started (h0 : R.TBCFG_KIND.get v ≠ 0) : s.Does r (R.TBCFG i) v (.tbcfgKindWrite r i v) (fun t =>
    t.Started i (R.TBCFG_KIND.get v) ∧ (R.TBCFG_KIND.get v ≠ 3 → (t.tb i).ref = false) ∧
      (t.tb i).src = R.TBCFG_SRC.get (s.tbcfgValue i v) ∧ t.fld (R.TBCFG i) R.TBCFG_SRC = R.TBCFG_SRC.get (s.tbcfgValue i v)) := by
  refine does_tbcfg h16 h28 hc hk fun u t hu hkind ht hrd => ?_
  rw [if_neg h0] at ht
  obtain ⟨run, cause, src, wstat⟩ := u.tbcfgStarted_tb s.now (i := i) (s.tbcfgValue i v)
  rw [← ht] at run cause src wstat
  refine ⟨⟨State.kind_of_tbcfg h16 h28 hrd, by rw [wstat, hu], run, cause⟩, fun h3 => ?_, src, congrArg R.TBCFG_SRC.get hrd⟩
  rw [ht]
  exact State.tbcfgStarted_ref _ _ _ (by omega) (by rwa [hkind])

theorem tbcfg_stopped (h0 : R.TBCFG_KIND.get v = 0) : s.Does r (R.TBCFG i) v (.tbcfgKindWrite r i v) (fun t =>
    t.kind i = 0 ∧ (t.tb i).state = .off ∧ (t.tb i).word = (s.tb i).word ∧ (t.tb i).wstat = 0) := by
  refine does_tbcfg h16 h28 hc hk fun u t hu _ ht hrd => ?_
  rw [if_pos h0] at ht
  obtain ⟨off, word⟩ := u.tbOff_tb i
  have wstat := u.tbOff_wstat i
  rw [← ht] at off word wstat
  rw [hu] at word wstat
  exact ⟨(State.kind_of_tbcfg h16 h28 hrd).trans h0, off, word, wstat⟩

end

/-! ### Wall time -/

theorem wall_shared : sharedAddr R.WADJ ∧ sharedAddr R.WSTEPL ∧ sharedAddr R.WSTEPH ∧ sharedAddr R.WALLCTL := by decide

section
variable (s : State) (w : Who) (v : Word)

theorem State.regWrite_wadj : (s.regWrite w R.WADJ v).1 = s.wadj 0 v := rfl
theorem State.regWrite_wstepl : (s.regWrite w R.WSTEPL v).1 = s.wstepLow v := rfl
theorem State.regWrite_wsteph : (s.regWrite w R.WSTEPH v).1 = s.wstep 0 (s.rd R.WSTEPL) v := rfl
theorem State.regWrite_wallctl : (s.regWrite w R.WALLCTL v).1 = s.wallCtl w v := rfl

end

theorem State.entered_wall (s : State) (r : Rq) (a : Nat) (v : Word) : (s.entered r a v).wall = s.wall := by cases r <;> rfl

/-- What a write of wall time's registers that ends with WSTAT at `code` leaves of the state `u` before: the rest of WALLCTL, and the
other registers. -/
structure State.WallAnswered (u t : State) (code : Nat) : Prop where
  wstat : t.fld R.WALLCTL R.WALLCTL_WSTAT = code
  ctl : ∀ f : F, f.apart R.WALLCTL_WSTAT → t.fld R.WALLCTL f = u.fld R.WALLCTL f
  wall : t.wall = u.wall
  wstepl : t.rd R.WSTEPL = u.rd R.WSTEPL

theorem does_wall {s u : State} {r : Rq} {a code : Nat} {v : Word} {c : Instr} {P : State → Prop} (ha : sharedAddr a)
    (hc : exec c s = done s (s.request r a v)) (hcode : code < 16)
    (hu : ((s.entered r a v).regWrite (s.asker r) a v).1 = u.wallStat code) (hP : ∀ t, u.WallAnswered t code → P t) : s.Does r a v c P := by
  refine does_of_request hc ha fun _ t ht => hP t ?_
  rw [hu] at ht
  refine ⟨?_, fun f hf => ?_, ?_, ?_⟩
  · rw [ht.fld _ (by decide), State.wallStat, State.fld_setFld_self _ _ _ _ (by decide)]
    exact Nat.mod_eq_of_lt hcode
  · rw [ht.fld _ (by decide), State.wallStat, State.fld_setFld_apart _ _ _ hf]
  · exact ht.keep State.wall fun _ => rfl
  · rw [ht.rd (by decide), State.wallStat, State.rd_setFld_ne _ _ _ (by decide)]

section
variable {s : State} {r : Rq} {v : Word}

theorem State.wallOwned_iff (s : State) : s.wallOwned 0 = true ↔ s.fld R.WALLCTL R.WALLCTL_OWNER ∈ [1, 2] := by
  simp [State.wallOwned]

theorem State.entered_wallOwned (a : Nat) (n : Nat) : (s.entered r a v).wallOwned n = s.wallOwned n := by cases r <;> rfl

section
variable (hw : s.wallOwned 0 = false)
include hw

theorem wadj_taken : s.Does r R.WADJ v (.wadjWrite r v) (fun t =>
    t.wall = { s.wall with adj := v.toInt } ∧ t.fld R.WALLCTL R.WALLCTL_WSTAT = 0) := by
  let e := s.entered r R.WADJ v
  refine does_wall (u := { e with wall := { e.wall with adj := v.toInt } }) wall_shared.1 rfl (by decide)
    ((State.regWrite_wadj ..).trans (if_neg (by rw [State.entered_wallOwned, hw]; decide))) fun t ht => ⟨ht.wall.trans ?_, ht.wstat⟩
  exact congrArg (fun x : Wall => { x with adj := v.toInt }) (s.entered_wall r R.WADJ v)

theorem wstepl_taken : s.Does r R.WSTEPL v (.registerWrite r (BitVec.ofNat 32 R.WSTEPL) .word v) (fun t =>
    t.rd R.WSTEPL = v ∧ t.wall = s.wall ∧ t.fld R.WALLCTL R.WALLCTL_WSTAT = 0) := by
  refine does_wall (u := (s.entered r R.WSTEPL v).wr R.WSTEPL v) wall_shared.2.1 rfl (by decide)
    ((State.regWrite_wstepl ..).trans (if_neg (by rw [State.entered_wallOwned, hw]; decide)))
      fun t ht => ⟨?_, ht.wall.trans (s.entered_wall ..), ht.wstat⟩
  rw [ht.wstepl, State.rd_wr_self]

theorem wsteph_taken (hn : s.wall.step = none) : s.Does r R.WSTEPH v (.wstephWrite r v) (fun t =>
    t.fld R.WALLCTL R.WALLCTL_WSTAT = 0 ∧ t.wall = { s.wall with step := some (sx 64 ((s.rd R.WSTEPL).toNat + 2 ^ 32 * v.toNat)) }) := by
  let e := s.entered r R.WSTEPH v
  let step := some (sx 64 ((e.rd R.WSTEPL).toNat + 2 ^ 32 * v.toNat))
  have stepped : e.wstep 0 (e.rd R.WSTEPL) v = { e with wall := { e.wall with step := step } }.wallStat 0 := by
    rw [State.wstep, State.entered_wallOwned, hw, State.entered_wall, hn]
    rfl
  refine does_wall wall_shared.2.2.1 rfl (by decide) ((State.regWrite_wsteph ..).trans stepped) fun t ht => ⟨ht.wstat, ht.wall.trans ?_⟩
  simp only [step, e, State.entered_wall, State.entered_rd]

theorem wsteph_busy (hn : s.wall.step ≠ none) : s.Does r R.WSTEPH v (.wstephWrite r v) (fun t =>
    t.wall = s.wall ∧ t.fld R.WALLCTL R.WALLCTL_WSTAT = 3) := by
  let e := s.entered r R.WSTEPH v
  have busy : e.wstep 0 (e.rd R.WSTEPL) v = e.wallStat 3 := by
    rw [State.wstep, State.entered_wallOwned, hw, State.entered_wall, if_neg (by decide), if_pos (Option.isSome_iff_ne_none.2 hn)]
  exact does_wall wall_shared.2.2.1 rfl (by decide) ((State.regWrite_wsteph ..).trans busy) fun t ht => ⟨ht.wall.trans (s.entered_wall ..), ht.wstat⟩

end

/-- While the ring or PTP owns wall time, the three registers of software are refused with OWNED (R112). -/
theorem wall_owned (hw : s.wallOwned 0 = true) :
    s.Does r R.WADJ v (.wadjWrite r v) (fun t => t.wall = s.wall ∧ t.fld R.WALLCTL R.WALLCTL_WSTAT = 6) ∧
    s.Does r R.WSTEPL v (.registerWrite r (BitVec.ofNat 32 R.WSTEPL) .word v) (fun t =>
      t.rd R.WSTEPL = s.rd R.WSTEPL ∧ t.fld R.WALLCTL R.WALLCTL_WSTAT = 6) ∧
    s.Does r R.WSTEPH v (.wstephWrite r v) (fun t => t.wall = s.wall ∧ t.fld R.WALLCTL R.WALLCTL_WSTAT = 6) := by
  obtain ⟨adj, stepl, steph, -⟩ := wall_shared
  have owned (a : Nat) : (s.entered r a v).wallOwned 0 = true := (s.entered_wallOwned a 0).trans hw
  refine ⟨does_wall adj rfl (by decide) ((State.regWrite_wadj ..).trans (if_pos (owned _))) fun t ht => ⟨ht.wall.trans (s.entered_wall ..), ht.wstat⟩,
    does_wall stepl rfl (by decide) ((State.regWrite_wstepl ..).trans (if_pos (owned _))) fun t ht => ⟨ht.wstepl.trans (s.entered_rd ..), ht.wstat⟩,
    does_wall steph rfl (by decide) ((State.regWrite_wsteph ..).trans (if_pos (owned _))) fun t ht => ⟨ht.wall.trans (s.entered_wall ..), ht.wstat⟩⟩

end

/-! ### The owner of wall time -/

/-- WALLCTL with the slew rate of a write of `v`, never 0 (R111). -/
def State.wallRated (s : State) (v : Word) : State :=
  s.setFld R.WALLCTL R.WALLCTL_WRATE (if R.WALLCTL_WRATE.get v = 0 then 1 else R.WALLCTL_WRATE.get v)

section
variable {s : State} {w : Who} {v : Word}

theorem State.wallCtl_same (h : R.WALLCTL_OWNER.get v = s.fld R.WALLCTL R.WALLCTL_OWNER) : s.wallCtl w v = (s.wallRated v).wallStat 0 := if_pos h

theorem State.wallCtl_rights (h : R.WALLCTL_OWNER.get v ≠ s.fld R.WALLCTL R.WALLCTL_OWNER) (hw : w.priv = false) :
    s.wallCtl w v = (s.wallRated v).wallStat 1 := (if_neg h).trans (if_pos (by rw [hw]; rfl))

/-- Software, or nobody, becomes the owner while the ring is down. -/
theorem State.wallCtl_given (h : R.WALLCTL_OWNER.get v ≠ s.fld R.WALLCTL R.WALLCTL_OWNER) (hw : w.priv = true) (hd : s.en.state = .down)
    (ho : R.WALLCTL_OWNER.get v = 0 ∨ R.WALLCTL_OWNER.get v = 3) : s.wallCtl w v =
      (((s.wallRated v).setFld R.WALLCTL R.WALLCTL_OWNER (R.WALLCTL_OWNER.get v)).logCfg w R.WALLCTL (s.rd R.WALLCTL) v).wallStat 0 := by
  refine (if_neg h).trans ((if_neg (by rw [hw]; decide)).trans ((if_neg (by simp [hd])).trans (if_neg ?_)))
  rcases ho with e | e <;> rw [e] <;> simp

theorem State.wallRated_owner (s : State) (v : Word) : (s.wallRated v).fld R.WALLCTL R.WALLCTL_OWNER = s.fld R.WALLCTL R.WALLCTL_OWNER :=
  State.fld_setFld_apart _ _ _ (.inr (by decide))

theorem State.wallRated_rate (s : State) (v : Word) : (s.wallRated v).fld R.WALLCTL R.WALLCTL_WRATE =
    if R.WALLCTL_WRATE.get v = 0 then 1 else R.WALLCTL_WRATE.get v := by
  have lt : R.WALLCTL_WRATE.get v < 16 := R.WALLCTL_WRATE.get_lt v
  rw [State.wallRated, State.fld_setFld_self _ _ _ _ (by decide), show 2 ^ R.WALLCTL_WRATE.w = 16 from rfl]
  split <;> omega

end

section
variable {s : State} {r : Rq} {v : Word}

theorem State.entered_en (s : State) (r : Rq) (a : Nat) (v : Word) : (s.entered r a v).en = s.en := by cases r <;> rfl
theorem State.entered_fld (s : State) (r : Rq) (a : Nat) (v : Word) (b : Nat) (f : F) : (s.entered r a v).fld b f = s.fld b f := by cases r <;> rfl

theorem wallctl_same (h : R.WALLCTL_OWNER.get v = s.fld R.WALLCTL R.WALLCTL_OWNER) : s.Does r R.WALLCTL v (.wallctlWrite r v) (fun t =>
    t.fld R.WALLCTL R.WALLCTL_WSTAT = 0 ∧ t.fld R.WALLCTL R.WALLCTL_OWNER = s.fld R.WALLCTL R.WALLCTL_OWNER ∧
      t.fld R.WALLCTL R.WALLCTL_WRATE = if R.WALLCTL_WRATE.get v = 0 then 1 else R.WALLCTL_WRATE.get v) := by
  rw [← s.entered_fld r R.WALLCTL v] at h ⊢
  refine does_wall wall_shared.2.2.2 rfl (by decide) ((State.regWrite_wallctl ..).trans (State.wallCtl_same h)) fun t ht => ⟨ht.wstat, ?_, ?_⟩
  · rw [ht.ctl _ (.inl (by decide)), State.wallRated_owner]
  · rw [ht.ctl _ (.inl (by decide)), State.wallRated_rate]

theorem wallctl_rights (h : R.WALLCTL_OWNER.get v ≠ s.fld R.WALLCTL R.WALLCTL_OWNER) (hw : (s.asker r).priv = false) :
    s.Does r R.WALLCTL v (.wallctlWrite r v) (fun t =>
      t.fld R.WALLCTL R.WALLCTL_WSTAT = 1 ∧ t.fld R.WALLCTL R.WALLCTL_OWNER = s.fld R.WALLCTL R.WALLCTL_OWNER) := by
  rw [← s.entered_fld r R.WALLCTL v] at h ⊢
  refine does_wall wall_shared.2.2.2 rfl (by decide) ((State.regWrite_wallctl ..).trans (State.wallCtl_rights h hw)) fun t ht => ⟨ht.wstat, ?_⟩
  rw [ht.ctl _ (.inl (by decide)), State.wallRated_owner]

theorem wallctl_given (ho : R.WALLCTL_OWNER.get v = 0 ∨ R.WALLCTL_OWNER.get v = 3)
    (h : R.WALLCTL_OWNER.get v ≠ s.fld R.WALLCTL R.WALLCTL_OWNER) (hw : (s.asker r).priv = true) (hd : s.en.state = .down) :
    s.Does r R.WALLCTL v (.wallctlWrite r v) (fun t =>
      t.fld R.WALLCTL R.WALLCTL_WSTAT = 0 ∧ t.fld R.WALLCTL R.WALLCTL_OWNER = R.WALLCTL_OWNER.get v) := by
  rw [← s.entered_fld r R.WALLCTL v] at h
  rw [← s.entered_en r R.WALLCTL v] at hd
  refine does_wall wall_shared.2.2.2 rfl (by decide) ((State.regWrite_wallctl ..).trans (State.wallCtl_given h hw hd ho)) fun t ht => ⟨ht.wstat, ?_⟩
  rw [ht.ctl _ (.inl (by decide)), (State.logCfg_logbook ..).fld _ (by decide), State.fld_setFld_self _ _ _ _ (by decide)]
  exact Nat.mod_eq_of_lt (R.WALLCTL_OWNER.get_lt v)

end

/-! ### The obligation -/

section
variable {s : State} {r : Rq} {i : Nat} {v : Word}

/-- A write of KIND of a flexible timebase, by the kind. -/
theorem tbcfg_flexible (h16 : 16 ≤ i) (h28 : i < 28) (hk : R.TBCFG_KIND.get v ≠ s.kind i) :
    let does := s.Does r (R.TBCFG i) v (.tbcfgKindWrite r i v)
    let free := s.mode = .prepare ∨ (s.tb i).state ≠ .run
    (R.TBCFG_KIND.get v = 2 → s.variant.enward = true → free → does (fun t =>
      t.Started i (R.TBCFG_KIND.get v) ∧ (t.tb i).ref = false ∧ (t.tb i).src = i - 16 ∧ t.fld (R.TBCFG i) R.TBCFG_SRC = i - 16)) ∧
    (R.TBCFG_KIND.get v = 3 → s.MayFollow i → free → does (fun t =>
      t.Started i (R.TBCFG_KIND.get v) ∧ (t.tb i).src = s.fld (R.TBCFG i) R.TBCFG_SRC)) ∧
    (R.TBCFG_KIND.get v = 3 → ¬s.MayFollow i → does (fun t =>
      t.rd (R.TBCFG i) = s.rd (R.TBCFG i) ∧ t.tb i = { s.tb i with wstat := 5 })) ∧
    (R.TBCFG_KIND.get v = 0 → free → does (fun t =>
      t.kind i = 0 ∧ (t.tb i).state = .off ∧ (t.tb i).word = (s.tb i).word ∧ (t.tb i).wstat = 0)) ∧
    (R.TBCFG_KIND.get v = 0 → ¬free → does (fun t =>
      t.rd (R.TBCFG i) = s.rd (R.TBCFG i) ∧ (t.tb i).wstat ≠ 0 ∧ (t.tb i).state = .run)) := by
  intro does free
  have hi : i < 32 := by omega
  have code := State.tbcfgCode_open h16 h28 hk
  refine ⟨fun h2 he hf => ?_, fun h3 hm hf => ?_, fun h3 hm => ?_, fun h0 hf => ?_, fun h0 hf => ?_⟩
  · have src : R.TBCFG_SRC.get (s.tbcfgValue i v) = i - 16 := by
      rw [State.tbcfgValue_src v hi, if_pos h2]
      omega
    have e := tbcfg_started (r := r) h16 h28 ((code (.inr (.inl ⟨h2, he⟩))).trans (if_pos hf)) hk (by omega)
    rw [src] at e
    exact e.mono fun t ⟨started, ref, own⟩ => ⟨started, ref (by omega), own⟩
  · have src : R.TBCFG_SRC.get (s.tbcfgValue i v) = s.fld (R.TBCFG i) R.TBCFG_SRC := by
      rw [State.tbcfgValue_src v hi, if_neg (by omega)]
      rfl
    have e := tbcfg_started (r := r) h16 h28 ((code (.inr (.inr ⟨h3, hm⟩))).trans (if_pos hf)) hk (by omega)
    rw [src] at e
    exact e.mono fun t ⟨started, _, own, _⟩ => ⟨started, own⟩
  · exact tbcfg_refused hi (State.tbcfgCode_chain h16 h28 hk h3 hm) (by decide)
  · exact tbcfg_stopped h16 h28 ((code (.inl h0)).trans (if_pos hf)) hk h0
  · have run : (s.tb i).state = .run := not_not.1 fun h => hf (.inr h)
    refine State.Does.mono (tbcfg_refused hi ((code (.inl h0)).trans (if_neg hf)) (by decide)) fun t ⟨rd, tb⟩ => ⟨rd, ?_⟩
    rw [tb]
    exact ⟨nofun, run⟩

end

/-- Settles O35, register by register. -/
theorem timebaseRegistersAreWritten : Obligations.TimebaseRegistersAreWritten := by
  intro s r i v hi _ x k has late refused owner wall
  have kindMod : kindHasMod k = true ↔ has := kindHasMod_iff k
  have software : s.wallOwned 0 = true ↔ owner ∈ [1, 2] := s.wallOwned_iff
  have unused {a off : Nat} {row : Rq → Nat → Word → Instr} (h : TbReg i a off row) (hk : kindUses k off = false) :
      s.Does r a v (row r i v) (fun t => refused t a 1) :=
    does_tbreg_refused h hi (State.tbRegWrite_unused h (by rw [State.entered_kind]; exact hk))
  refine ⟨tbcfg_flexible, fun hk h => ?_, fun hk hm => ?_, fun hk hm => ?_, fun hk => ?_, fun hk hv => ?_, fun hk hv => ?_, fun hk => ?_,
    fun hk => ?_, fun hk => ?_, fun ho => ?_, fun ho => ?_, wallctl_same, wallctl_rights, fun ho h => ?_⟩
  · exact tbcfg_refused hi (State.tbcfgCode_fixed h hk) (by decide)
  · exact does_tbreg_late .mod hi (State.tbModWrite_late (by rw [State.entered_kind]; exact kindMod.2 hk) (by rwa [State.entered_mode]))
  · exact does_tbreg_refused .mod hi (State.tbModWrite_notNow (by rw [State.entered_kind]; exact kindMod.2 hk) (by rwa [State.entered_mode]))
  · exact unused .mod (Bool.eq_false_iff.2 (kindMod.not.2 hk))
  · exact does_tbreg_late .den hi (State.tbDenWrite_late (by rwa [State.entered_kind]) hv)
  · exact does_tbreg_refused .den hi (State.tbDenWrite_zero (by rwa [State.entered_kind]) hv)
  · exact unused .den (beq_false_of_ne hk)
  · exact does_tbreg_late .syn hi (State.tbSynWrite_late (by rwa [State.entered_kind]))
  · exact unused .syn (beq_false_of_ne hk)
  · have hw : s.wallOwned 0 = false := Bool.eq_false_iff.2 (software.not.2 ho)
    exact ⟨wadj_taken hw, wstepl_taken hw, wsteph_taken hw, wsteph_busy hw⟩
  · exact wall_owned (software.2 ho)
  · exact wallctl_given (by simpa using ho) (Ne.symm h)

end Sys2Proof.Machine
end

section
/-! PROOF of O37 and O39: refutations. Both statements speak of every state, and so of one whose record of owners (R434) names a core that
the block does not have (it has 5). A window write that the Timetable has answered then counts the change for that owner at an address that
is not one of STCHGCNT, and which is the Staff port's own copy of TTRES: the answer there is one more than the code that R128 gives. -/

namespace Sys2Proof.Machine

/-- STCHGCNT of a core 3221127266 would lie where the Staff port's copy of TTRES does. -/
theorem stchgcnt_stray_eq_ttres : R.STCHGCNT 3221127266 = perReq Who.staff.id R.TTRES := rfl

/-- The Staff session is open in DAWN, where the Timetable takes no period and no injection, and its common block is recorded as owned by
that core. The number of an owner is that of a core that has made an access (`State.busWrite`), but nothing that the statements ask of
a state says so. -/
def State.strayTimetableOwner : State :=
  { State.reset with
    owners := [(blockOf R.TTNEWGO, (3221127266, false))]
    staff := { Staff.reset with sess := .opened } }

/-- What every step keeps holds of it too. -/
theorem State.strayTimetableOwner_inv : State.strayTimetableOwner.Inv := by
  refine ⟨?_, ?_⟩ <;> decide

/-! ### TTNEW of the Staff port -/

theorem State.strayTimetableOwner_reaches_ttnewgo :
    State.strayTimetableOwner.Reaches .staff R.TTNEWGO (R.TTNEWGO_GO.put 0 1) := by
  refine ⟨?_, ?_, ?_⟩ <;> decide

/-- The request is refused with MODE, code 2 in bits 15:8 under bit 31 of TTRES, and the count of changes adds 1 to it. -/
theorem State.strayTimetableOwner_ttnewgo_told :
    (settle .strayTimetableOwner (State.strayTimetableOwner.request .staff R.TTNEWGO (R.TTNEWGO_GO.put 0 1))).rdReq Who.staff.id R.TTRES =
      BitVec.ofNat 32 (256 * 2 + 2 ^ 31 + 1) := by
  decide

/-- Refutes O37: in `State.strayTimetableOwner` the Staff port, which may arm, asks outside PREPARE, RUN and HOLD, and does not read
code 2 in TTRES. -/
theorem not_periodsAreArmed : ¬ Obligations.PeriodsAreArmed := by
  intro h
  obtain ⟨-, -, hmode, -⟩ := h .strayTimetableOwner (.ofWords 0 0 0 0) .staff
  obtain ⟨hnew, -⟩ := hmode (.inl rfl) (by decide)
  obtain ⟨t, e, told, -⟩ := hnew .staff rfl (by decide) State.strayTimetableOwner_reaches_ttnewgo
  have ht : t.rdReq Who.staff.id R.TTRES = BitVec.ofNat 32 (256 * 2 + 2 ^ 31 + 1) :=
    Host.Outcome.next.inj e ▸ State.strayTimetableOwner_ttnewgo_told
  exact absurd (ht.symm.trans told) (by decide)

/-! ### TTINJ of the Staff port -/

theorem State.strayTimetableOwner_reaches_ttinj : State.strayTimetableOwner.Reaches .staff R.TTINJ (R.TTINJ_GO.put 0 1) := by
  refine ⟨?_, ?_, ?_⟩ <;> decide

/-- The injection is refused with NOTNOW, code 9, and the count of changes adds 1 to it. -/
theorem State.strayTimetableOwner_ttinj_told :
    (settle .strayTimetableOwner (State.strayTimetableOwner.request .staff R.TTINJ (R.TTINJ_GO.put 0 1))).rdReq Who.staff.id R.TTRES =
      BitVec.ofNat 32 (256 * 9 + 2 ^ 31 + 1) := by
  decide

/-- Refutes O39: in `State.strayTimetableOwner` the Staff port, which is privileged, writes TTINJ outside PREPARE, and does not read
code 9 in TTRES. -/
theorem not_twinCopiesAreCompared : ¬ Obligations.TwinCopiesAreCompared := by
  intro h
  obtain ⟨-, -, -, hwrites⟩ := h .strayTimetableOwner
  obtain ⟨-, hnotnow, -⟩ := hwrites .staff (R.TTINJ_GO.put 0 1)
  obtain ⟨t, e, told, -⟩ := hnotnow (by decide) (by decide) (by decide) State.strayTimetableOwner_reaches_ttinj
  have ht : t.rdReq Who.staff.id R.TTRES = BitVec.ofNat 32 (256 * 9 + 2 ^ 31 + 1) :=
    Host.Outcome.next.inj e ▸ State.strayTimetableOwner_ttinj_told
  exact absurd (ht.symm.trans told) (by decide)

end Sys2Proof.Machine
end

section
/-! PROOF of O40: a refutation. The statement's last clause speaks of every report that waits, at whatever address. BIND takes a queue whose
reports lie in shared SRAM (R153), but nothing that the clause asks of a state says so: where a report's bytes fall on a sealed line of MRAM,
their block is encrypted as it is written (R345), and memory does not hold the report's own bytes. -/

namespace Sys2Proof.Machine

/-- Line 1 of MRAM is sealed under the key of slot 2, and a settled report of queue 0, all of whose bytes are 0, waits to be written: seven
bytes before that line and one on it. -/
def State.sealedReport : State :=
  { State.reset with
    regs := (State.reset.regs.put (R.SEALCFG 0) (R.SEALCFG_EN.put (R.SEALCFG_LINE.put 0 1) 1)).put (R.SEALLIM 0) (R.SEALLIM_LINE.put 0 1)
    keys := State.reset.keys.set 2 { state := .set, key := List.range 32 }
    reports := [{ queue := 0, idx := 0, addr := 57, w0 := 0, w1 := 0, ready := true }] }

/-- What every step keeps holds of it too. -/
theorem State.sealedReport_inv : State.sealedReport.Inv := by
  refine ⟨?_, ?_⟩ <;> decide

/-- The report's last byte, 0, is the first of the sealed line, and is held encrypted with its block. -/
theorem State.sealedReport_byte : State.sealedReport.reportPosted.byte 64 = 203 := by
  decide +kernel

/-- Memory is as the write of the report leaves it. -/
theorem reportPosted_byte {s t : State} (e : exec .reportPosted s = .next t) (b : Nat) : t.byte b = s.reportPosted.byte b := by
  have ht : settle s s.reportPosted = t := Host.Outcome.next.inj e
  exact ht ▸ (raised_settle s s.reportPosted).keep (State.byte · b) fun _ => rfl

/-- Refutes O40: in `State.sealedReport` the report may go and is written, and the byte at 64 is not its last. -/
theorem not_queuesServeTheirRecords : ¬ Obligations.QueuesServeTheirRecords := by
  intro h
  obtain ⟨-, -, -, hreport⟩ := h .sealedReport 0 (by decide)
  obtain ⟨-, hposted⟩ := hreport { queue := 0, idx := 0, addr := 57, w0 := 0, w1 := 0, ready := true } [] rfl
  obtain ⟨t, e, -, hbytes, -⟩ :=
    hposted ⟨rfl, .inr ⟨rfl, by decide⟩⟩ rfl State.sealedReport_inv rfl (by decide) (by decide)
  have told : t.byte 64 = 203 := (reportPosted_byte e 64).trans State.sealedReport_byte
  exact absurd (told.symm.trans (hbytes 64)) (by decide)

end Sys2Proof.Machine
end

section
/-! SUPPORT. What an accepted window write of an owned block tells its owner (R434): STCHGADDR and STCHGCNT of the owner's number. -/

namespace Sys2Proof.Machine

/-- A window write that its unit accepts, of a block that core `l` owns: the write of the register, then what its owner is told. -/
theorem State.Reaches.request_staff_owned {s : State} {a l : Nat} {v : Word} (h : s.Reaches .staff a v) (ha : placeOf a = .periph)
    (hreq : isPerReq a = false) (hown : s.ownerOf a = some l) (hacc : ((s.windowOpen a v).regWrite .staff a v).2 = true) :
    s.request .staff a v =
      (((s.windowOpen a v).regWrite .staff a v).1.stateChg l a).winEnd { write := true, addr := a, n := 4, val := v.toNat } 0 := by
  have owner : (s.windowOpen a v).ownerOf a = some l := hown
  have staff : Who.staff.isStaff = true := rfl
  rw [h.request_staff ha, State.busWrite]
  simp [hacc, hreq, staff, owner]

/-- An arrival writes the counter of its source and IRQLOST alone. -/
theorem State.find_arrive {s : State} {n b : Nat} (hn : b ≠ R.IRQCNT n) (hl : b ≠ R.IRQLOST) :
    (s.arrive n).regs.find b = s.regs.find b :=
  ((Frame.Only.refl (Φ := .onRegs) (p := fun b => b = R.IRQCNT n ∨ b = R.IRQLOST)).arrive (.inl rfl) (.inr rfl)).2 b (not_or.2 ⟨hn, hl⟩)

/-- STCHGADDR of the owner's number holds the address that was written, whatever that number is. -/
theorem State.find_stateChg_stchgaddr (s : State) (l a : Nat) : (s.stateChg l a).regs.find (R.STCHGADDR l) = some (w32 a) := by
  have hcnt : R.STCHGADDR l ≠ R.STCHGCNT l := by simp only [R.STCHGADDR, R.STCHGCNT]; omega
  have hirq : R.STCHGADDR l ≠ R.IRQCNT (0xA0 + l) := by simp only [R.STCHGADDR, R.IRQCNT]; omega
  have hlost : R.STCHGADDR l ≠ R.IRQLOST := by simp only [R.STCHGADDR, R.IRQLOST]; omega
  rw [State.stateChg, State.find_arrive hirq hlost]
  simp [State.count, State.setFld, State.wr, Tab.find_put_ne _ _ hcnt]

/-- STCHGCNT of the owner's number has counted the write, whatever that number is. -/
theorem State.find_stateChg_stchgcnt (s : State) (l a : Nat) :
    ∃ x, (s.stateChg l a).regs.find (R.STCHGCNT l) = some x ∧ R.STCHGCNT_COUNT.get x ≠ 0 := by
  have hirq : R.STCHGCNT l ≠ R.IRQCNT (0xA0 + l) := by simp only [R.STCHGCNT, R.IRQCNT]; omega
  have hlost : R.STCHGCNT l ≠ R.IRQLOST := by simp only [R.STCHGCNT, R.IRQLOST]; omega
  refine ⟨_, (State.find_arrive hirq hlost).trans (Tab.find_put_self _ _ _), ?_⟩
  rw [F.get_put_self _ _ _ (by decide)]
  simp only [satAdd, R.STCHGCNT_COUNT]
  omega

/-- The state after a command that makes such a write, with the interrupts that the change raises. -/
theorem State.Reaches.find_owned {s t : State} {i : Instr} {a b l : Nat} {v : Word} (h : s.Reaches .staff a v) (ha : placeOf a = .periph)
    (hreq : isPerReq a = false) (hown : s.ownerOf a = some l) (hacc : ((s.windowOpen a v).regWrite .staff a v).2 = true)
    (hi : exec i s = done s (s.request .staff a v)) (e : exec i s = .next t) (hb : offIrq b) :
    t.regs.find b = (((s.windowOpen a v).regWrite .staff a v).1.stateChg l a).regs.find b := by
  have ht : settle s (s.request .staff a v) = t := Host.Outcome.next.inj (hi.symm.trans e)
  have raised := ((raised_iff _ _).1 (ht ▸ raised_settle s (s.request .staff a v))).2 b hb.not_settleReg
  rw [raised, h.request_staff_owned ha hreq hown hacc]
  rfl

end Sys2Proof.Machine
end

section
/-! PROOF of O41, O42 and O48: refutations. The statements speak of every state, and so of one whose record of owners (R434) names a core
that the block does not have (it has 5). A window write that the unit has accepted then tells that owner of the change at an address that
is not one of STCHGADDR or STCHGCNT, and which is the Staff port's own copy of OUTWSTAT or of USTAT: the port does not read the code 0 there. -/

namespace Sys2Proof.Machine

/-- The Staff session is open in mode `m`, and the block of the register at `a` is recorded as owned by core `l`. The number of an owner is
that of a core that has made an access (`State.busWrite`), but nothing that the statements ask of a state says so. -/
def State.strayBlock (m : Mode) (a l : Nat) : State :=
  { State.reset with mode := m, owners := [(blockOf a, (l, false))], staff := { Staff.reset with sess := .opened } }

/-- What every step keeps holds of it too. -/
theorem State.strayBlock_inv (m : Mode) (a l : Nat) : (State.strayBlock m a l).Inv :=
  ⟨rfl, show State.reset.logQ.length ≤ 32 by decide⟩

/-! ### OUTWSTAT -/

/-- STCHGADDR of a core 3221143872 would lie where the Staff port's copy of OUTWSTAT does. -/
theorem stchgaddr_stray_eq_outwstat : R.STCHGADDR 3221143872 = perReq Who.staff.id R.OUTWSTAT := rfl

/-- An accepted write of the Outputs window in a block recorded as that core's leaves its own address in the Staff port's OUTWSTAT. -/
theorem State.Reaches.outwstat_stray {s t : State} {i : Instr} {a : Nat} {v : Word} (h : s.Reaches .staff a v) (ha : placeOf a = .periph)
    (hreq : isPerReq a = false) (hown : s.ownerOf a = some 3221143872)
    (hacc : ((s.windowOpen a v).regWrite .staff a v).2 = true) (hi : exec i s = done s (s.request .staff a v)) (e : exec i s = .next t) :
    t.rdReq Who.staff.id R.OUTWSTAT = w32 a := by
  have told := (h.find_owned ha hreq hown hacc hi e (b := R.STCHGADDR 3221143872) (by decide)).trans (State.find_stateChg_stchgaddr _ _ _)
  rw [stchgaddr_stray_eq_outwstat] at told
  simp [State.rdReq, Tab.get, told]

theorem State.strayBlock_reaches_evset : (State.strayBlock .run (R.EVSET 0) 3221143872).Reaches .staff (R.EVSET 0) 1 := by
  refine ⟨?_, ?_, ?_⟩ <;> decide

/-- Refutes O41: in RUN the Staff port sets event line 0, which the mode and the world allow, and does not read 0 in OUTWSTAT, where the
owner of the block has been told of the write. -/
theorem not_linesAndPinsAreWritten : ¬ Obligations.LinesAndPinsAreWritten := by
  intro h
  obtain ⟨hwrites, -⟩ := h (.strayBlock .run (R.EVSET 0) 3221143872)
  obtain ⟨hmask, -⟩ := hwrites .staff 0 1 (by decide)
  obtain ⟨hset, -⟩ := hmask .evsetRegisterWrite (R.EVSET 0) (fun _ => true) (by simp)
  obtain ⟨t, e, -, hok, -⟩ := hset (.inl rfl) State.strayBlock_reaches_evset
  have allowed : t.rdReq Who.staff.id R.OUTWSTAT = BitVec.ofNat 32 0 :=
    hok fun i _ _ => ⟨fun closed => closed (.inl rfl), fun barred => Bool.false_ne_true barred.1⟩
  have told : t.rdReq Who.staff.id R.OUTWSTAT = w32 (R.EVSET 0) :=
    State.strayBlock_reaches_evset.outwstat_stray rfl (by decide) (by decide) (by decide) rfl e
  exact absurd (told.symm.trans allowed) (by decide)

theorem State.strayBlock_reaches_ptrate : (State.strayBlock .run (R.PTRATE 0) 3221143872).Reaches .staff (R.PTRATE 0) 1 := by
  refine ⟨?_, ?_, ?_⟩ <;> decide

/-- Refutes O42: the Staff port writes a rate of 1 to generator 0, and does not read 0 in OUTWSTAT, where the owner of the block has been
told of the write. -/
theorem not_drivesFollowTheirRegisters : ¬ Obligations.DrivesFollowTheirRegisters := by
  intro h
  obtain ⟨hwrites, -⟩ := h (.strayBlock .run (R.PTRATE 0) 3221143872) 0 0 (by decide)
  obtain ⟨-, hfree, -⟩ := hwrites .staff 1
  obtain ⟨-, hrate, -⟩ := hfree fun barred => Bool.false_ne_true barred.1
  obtain ⟨t, e, allowed, -⟩ := hrate (by decide) State.strayBlock_reaches_ptrate
  have told : t.rdReq Who.staff.id R.OUTWSTAT = w32 (R.PTRATE 0) :=
    State.strayBlock_reaches_ptrate.outwstat_stray rfl (by decide) (by decide) (by decide) rfl e
  exact absurd (told.symm.trans allowed) (by decide)

/-! ### USTAT -/

/-- STCHGCNT of a core 3221176162 would lie where the Staff port's copy of USTAT of UART 0 does. -/
theorem stchgcnt_stray_eq_ustat : R.STCHGCNT 3221176162 = perReq Who.staff.id (R.USTAT 0) := rfl

theorem State.strayBlock_reaches_utx : (State.strayBlock .run (R.UTX 0) 3221176162).Reaches .staff (R.UTX 0) 0x55 := by
  refine ⟨?_, ?_, ?_⟩ <;> decide

/-- Refutes O48: the Staff port writes a character into the empty TX FIFO of UART 0, and does not read 0 in USTAT, where the write has been
counted for the owner of the block. -/
theorem not_serialPortsServeCharacters : ¬ Obligations.SerialPortsServeCharacters := by
  intro h
  obtain ⟨hwrites, -⟩ := h (.strayBlock .run (R.UTX 0) 3221176162) 0 (by decide)
  obtain ⟨-, hroom, -⟩ := hwrites .staff 0x55
  obtain ⟨t, e, taken, -⟩ := hroom (by decide) State.strayBlock_reaches_utx
  have allowed : t.rdReq Who.staff.id (R.USTAT 0) = 0 := taken
  obtain ⟨x, hx, counted⟩ := State.find_stateChg_stchgcnt
    (((State.strayBlock .run (R.UTX 0) 3221176162).windowOpen (R.UTX 0) 0x55).regWrite .staff (R.UTX 0) 0x55).1 3221176162 (R.UTX 0)
  have told : t.regs.find (R.STCHGCNT 3221176162) = some x :=
    (State.strayBlock_reaches_utx.find_owned rfl (by decide) (by decide) (by decide) rfl e (by decide)).trans hx
  have hzero : x = 0 := by
    rw [stchgcnt_stray_eq_ustat] at told
    simpa [State.rdReq, Tab.get, told] using allowed
  exact counted (hzero ▸ rfl)

end Sys2Proof.Machine
end

section
/-! SUPPORT. An instruction of a core from handy stacks, to the next state: the moves of R199 on both stacks, a push, and the rest of
the core's registers. -/

namespace Sys2Proof.Machine

/-! ### The moves of R199 -/

/-- A handy stack raises no fault of R199. -/
theorem State.stackFault_handy {s : State} {l : Nat} {r : Bool} {p q : Nat} (h : s.Handy l r p q) : s.stackFault l r p q = none := by
  have hp := State.prepare_handy h
  cases e : s.stackFault l r p q with
  | none => rfl
  | some f =>
    rw [State.prepare, show s.stackFault (s.who l).id r p q = some f from e] at hp
    cases hp

/-- The moves of a handy stack: none, and its operands. -/
theorem State.moves_handy {s : State} {l : Nat} {r : Bool} {p q : Nat} (h : s.Handy l r p q) :
    s.moves (s.who l) r p q = .ok s ((s.held l r).take p) := by
  have hp := State.prepare_handy h
  rwa [State.prepare, show s.stackFault (s.who l).id r p q = none from State.stackFault_handy h] at hp

/-- R199 for an instruction on both stacks, each handy. -/
theorem State.prepareBoth_handy {s : State} {l : Nat} {o r : Nat × Nat} (ho : s.Handy l false o.1 o.2) (hr : s.Handy l true r.1 r.2) :
    s.prepareBoth (s.who l) o r = .ok s ((s.held l false).take o.1, (s.held l true).take r.1) := by
  unfold State.prepareBoth
  rw [show s.stackFault (s.who l).id false o.1 o.2 = none from State.stackFault_handy ho,
    show s.stackFault (s.who l).id true r.1 r.2 = none from State.stackFault_handy hr]
  simp only [show firstOf [none, none] = none from rfl, State.guardBy, Out.bind, State.moves_handy ho, State.moves_handy hr]

/-- A push alone. -/
theorem State.push_restack (s : State) (l : Nat) (r : Bool) (v : Word) :
    s.push l r v = s.setCore l (s.restack l r 0 [v] (s.core l)) := by
  unfold State.push State.restack
  by_cases hb : s.inLesson l = true
  · simp [hb]
  · simp [hb, pushedOn]

/-- The top entry of a handy stack replaced. -/
theorem State.setTop_handy {s : State} {l q : Nat} {r : Bool} (h : s.Handy l r 1 q) (v : Word) :
    s.setTop l r v = s.setCore l (s.restack l r 1 [v] (s.core l)) := by
  rw [State.setTop, State.popN_handy h]
  exact State.pushAll_restack s l r 1 (s.core l) [v]

theorem wAt_take {vs : List Word} {p i : Nat} (h : i < p) : wAt (vs.take p) i = wAt vs i := by
  simp [wAt, List.getD_eq_getElem?_getD, List.getElem?_take_of_lt h]

/-! ### The rest of the core's registers -/

theorem State.restack_x (s : State) (l : Nat) (r : Bool) (p : Nat) (vs : List Word) (c : Core) (v : Xreg) :
    s.restack l r p vs { c with x := v } = { s.restack l r p vs c with x := v } := by
  unfold State.restack
  by_cases hb : s.inLesson l = true <;> cases r <;> simp [hb, Core.setBell, Core.setSp, Core.setChip, Core.sp, Core.chip, Core.bellStack]

theorem State.restack_y (s : State) (l : Nat) (r : Bool) (p : Nat) (vs : List Word) (c : Core) (v : Xreg) :
    s.restack l r p vs { c with y := v } = { s.restack l r p vs c with y := v } := by
  unfold State.restack
  by_cases hb : s.inLesson l = true <;> cases r <;> simp [hb, Core.setBell, Core.setSp, Core.setChip, Core.sp, Core.chip, Core.bellStack]

theorem State.restack_sb (s : State) (l : Nat) (r : Bool) (p : Nat) (vs : List Word) (c : Core) (v : List SbEntry) :
    s.restack l r p vs { c with sb := v } = { s.restack l r p vs c with sb := v } := by
  unfold State.restack
  by_cases hb : s.inLesson l = true <;> cases r <;> simp [hb, Core.setBell, Core.setSp, Core.setChip, Core.sp, Core.chip, Core.bellStack]

/-- STW, ACC, X and Y are of no concern to the stacks. -/
theorem State.restack_regs (s : State) (l : Nat) (r : Bool) (p : Nat) (vs : List Word) (c : Core) (w : Word) (a : BitVec 72) (x y : Xreg) :
    s.restack l r p vs { c with stw := w, acc := a, x := x, y := y } =
      { s.restack l r p vs c with stw := w, acc := a, x := x, y := y } := by
  have h := State.restack_stw s l r p vs { c with acc := a, x := x, y := y } w
  have ha := State.restack_acc s l r p vs { c with x := x, y := y } a
  have hx := State.restack_x s l r p vs { c with y := y } x
  rw [h, ha, hx, State.restack_y]

/-! ### To the next state -/

/-- A ready instruction whose own part leaves PC at A + 2 but for a change of its core's stacks, sticky bits and other registers. -/
theorem done_next {s : State} {l : Nat} {f : State → Word → Out Unit} {g : Core → Core} (h : s.Ready l)
    (hf : f (s.setPc l ((s.core l).pc + 2)) (s.core l).pc = .ok (s.setCore l (g { s.core l with pc := (s.core l).pc + 2 })) ())
    (hfault : ∀ c, { g c with fault := none } = g { c with fault := none })
    (hstw : ∀ c, (g c).stw = c.stw) (hh : ∀ c, (g c).shopHalted = c.shopHalted) :
    done s (s.instr l f) = .next (s.setCore l (g (s.next l))) := by
  rw [done_instr h hf (by rw [Core.guard, hstw, Core.guard]) (by rw [hstw]) (hh _), hfault, State.next]

/-- An instruction on the operand stack that changes STW, not its world or level, and ACC, X and Y. -/
theorem done_coreOp {s : State} {l p q : Nat} {f : Core → List Word → Core × List Word} {w : Word} {a : BitVec 72} {x y : Xreg}
    {vs : List Word} (h : s.Ready l) (hh : s.Handy l false p q)
    (hf : ∀ c : Core, c.stw = (s.core l).stw → c.acc = (s.core l).acc → c.x = (s.core l).x → c.y = (s.core l).y →
      f c ((s.held l false).take p) = ({ c with stw := w, acc := a, x := x, y := y }, vs))
    (hg : stwWORLD.get w = stwWORLD.get (s.core l).stw) (hi : stwIML.get w = stwIML.get (s.core l).stw) :
    done s (s.instr l (fun (s : State) _ => s.coreOp l p q f)) =
      .next (s.setCore l (s.restack l false p vs { s.next l with stw := w, acc := a, x := x, y := y })) := by
  have hh' := (State.handy_setPc (v := (s.core l).pc + 2)).mpr hh
  have e : (s.setPc l ((s.core l).pc + 2)).coreOp l p q f =
      .ok (s.setCore l (s.restack l false p vs { s.core l with pc := (s.core l).pc + 2, stw := w, acc := a, x := x, y := y })) () := by
    unfold State.coreOp
    simp only [State.prepare_handy hh', Out.bind, State.popN_handy hh', State.setCore_core_self, State.setCore_setCore,
      State.held_setPc, State.restack_setPc, State.setPc_core, State.setCore_setPc]
    rw [hf _ (by simp) (by simp) (by simp) (by simp), ← State.restack_regs, State.pushAll_restack]
  rw [done_instr h e (by rw [State.guard_restack, Core.guard, Core.guard, hg]) (by rw [State.stw_restack]; exact hi)
    (by rw [State.shopHalted_restack]), ← State.restack_fault, State.next]

end Sys2Proof.Machine
end

section
/-! PROOF of O2. LIT and the stack group (R221, R227). -/

namespace Sys2Proof.Machine

theorem StackRow.exec_eq {i : Nat → Instr} {p q : Nat} {f : List Word → List Word} (h : StackRow i p q f) (l : Nat) (s : State) :
    exec (i l) s = done s (s.instr l (fun (s : State) _ => s.stackOp l p q f)) := by
  cases h <;> rfl

section
variable {s : State} {l : Nat}

/-- What an instruction that moves entries of one stack comes to. -/
theorem done_restack {f : State → Word → Out Unit} {r : Bool} {p : Nat} {vs : List Word} (h : s.Ready l)
    (hf : f (s.setPc l ((s.core l).pc + 2)) (s.core l).pc =
      .ok (s.setCore l (s.restack l r p vs { s.core l with pc := (s.core l).pc + 2 })) ()) :
    done s (s.instr l f) = .next (s.setCore l (s.restack l r p vs (s.next l))) :=
  done_next (g := s.restack l r p vs) h hf (fun c => (State.restack_fault ..).symm) (fun c => by simp) (fun c => by simp)

/-- What an instruction that moves entries of two stacks comes to. -/
theorem done_restack_restack {f : State → Word → Out Unit} {r k : Bool} {p q : Nat} {vs us : List Word} (h : s.Ready l)
    (hf : f (s.setPc l ((s.core l).pc + 2)) (s.core l).pc =
      .ok (s.setCore l (s.restack l r p vs (s.restack l k q us { s.core l with pc := (s.core l).pc + 2 }))) ()) :
    done s (s.instr l f) = .next (s.setCore l (s.restack l r p vs (s.restack l k q us (s.next l)))) :=
  done_next (g := fun c => s.restack l r p vs (s.restack l k q us c)) h hf
    (fun c => (State.restack_fault ..).symm.trans (congrArg _ (State.restack_fault ..).symm)) (fun c => by simp) (fun c => by simp)

theorem done_pick {i : Nat} (h : s.Ready l) (hi : i < 16) (hh : s.Handy l false (i + 1) (i + 2)) :
    done s (s.instr l (fun (s : State) _ => s.pickOp l i)) =
      .next (s.setCore l (s.restack l false 0 [wAt (s.held l false) i] (s.next l))) := by
  refine done_restack h ?_
  have hh' := (State.handy_setPc (v := (s.core l).pc + 2)).mpr hh
  simp only [State.pickOp, if_neg (Nat.not_le.2 hi), State.prepare_handy hh', Out.bind, State.push_restack, State.held_setPc,
    State.restack_setPc, State.setPc_core, State.setCore_setPc, wAt_take (Nat.lt_succ_self i)]

theorem done_tor (h : s.Ready l) (ho : s.Handy l false 1 0) (hr : s.Handy l true 0 1) :
    done s (s.instr l (fun (s : State) _ => s.torOp l)) =
      .next (s.setCore l (s.restack l true 0 [wAt (s.held l false) 0] (s.restack l false 1 [] (s.next l)))) := by
  refine done_restack_restack h ?_
  have ho' := (State.handy_setPc (v := (s.core l).pc + 2)).mpr ho
  have hr' := (State.handy_setPc (v := (s.core l).pc + 2)).mpr hr
  simp only [State.torOp, State.prepareBoth_handy (o := (1, 0)) (r := (0, 1)) ho' hr', Out.bind, State.popN_handy ho', State.push_restack,
    State.held_setPc, State.restack_setPc, State.restack_setCore, State.setPc_core, State.setCore_setPc, State.setCore_setCore,
    State.setCore_core_self, wAt_take Nat.zero_lt_one]

theorem done_fromr (h : s.Ready l) (hr : s.Handy l true 1 0) (ho : s.Handy l false 0 1) :
    done s (s.instr l (fun (s : State) _ => s.fromrOp l true)) =
      .next (s.setCore l (s.restack l false 0 [wAt (s.held l true) 0] (s.restack l true 1 [] (s.next l)))) := by
  refine done_restack_restack h ?_
  have ho' := (State.handy_setPc (v := (s.core l).pc + 2)).mpr ho
  have hr' := (State.handy_setPc (v := (s.core l).pc + 2)).mpr hr
  simp only [State.fromrOp, if_true, State.prepareBoth_handy (o := (0, 1)) (r := (1, 0)) ho' hr', Out.bind, State.popN_handy hr',
    State.push_restack, State.held_setPc, State.restack_setPc, State.restack_setCore, State.setPc_core, State.setCore_setPc,
    State.setCore_setCore, State.setCore_core_self, wAt_take Nat.zero_lt_one]

theorem done_rfetch (h : s.Ready l) (hr : s.Handy l true 1 1) (ho : s.Handy l false 0 1) :
    done s (s.instr l (fun (s : State) _ => s.fromrOp l false)) =
      .next (s.setCore l (s.restack l false 0 [wAt (s.held l true) 0] (s.next l))) := by
  refine done_restack h ?_
  have ho' := (State.handy_setPc (v := (s.core l).pc + 2)).mpr ho
  have hr' := (State.handy_setPc (v := (s.core l).pc + 2)).mpr hr
  simp only [State.fromrOp, Bool.false_eq_true, if_false, State.prepareBoth_handy (o := (0, 1)) (r := (1, 1)) ho' hr', Out.bind,
    State.push_restack, State.held_setPc, State.restack_setPc, State.setPc_core, State.setCore_setPc, wAt_take Nat.zero_lt_one]

theorem done_rdrop (h : s.Ready l) (hr : s.Handy l true 1 0) :
    done s (s.instr l (fun (s : State) _ => (s.prepare (s.who l) true 1 0).bind (fun s _ => .ok (s.popN l true 1) ()))) =
      .next (s.setCore l (s.restack l true 1 [] (s.next l))) := by
  refine done_restack h ?_
  have hr' := (State.handy_setPc (v := (s.core l).pc + 2)).mpr hr
  simp only [State.prepare_handy hr', Out.bind, State.popN_handy hr', State.restack_setPc, State.setPc_core, State.setCore_setPc]

end

/-- Settles O2, by the rows of the table and by the stacks that each of the other instructions moves. -/
theorem stackGroupMovesEntries : Obligations.StackGroupMovesEntries := by
  unfold Obligations.StackGroupMovesEntries
  refine ⟨fun i p q f row s l h hh => ?_, fun s l i hi h hh => done_pick h hi hh, fun s l h ho hr => done_tor h ho hr,
    fun s l h hr ho => done_fromr h hr ho, fun s l h hr ho => done_rfetch h hr ho, fun s l h hr => done_rdrop h hr⟩
  rw [row.exec_eq]
  exact done_stackOp f h hh

end Sys2Proof.Machine
end

section
/-! SUPPORT. The sticky bits of STW, numbers that are clamped or cut to `n` bits, and the rounded quotient of R211. -/

namespace Sys2Proof.Machine

/-! ### STW -/

theorem and_not_or_self {n : Nat} (v m : BitVec n) : (v &&& ~~~m) ||| m = v ||| m := by
  refine BitVec.eq_of_getLsbD_eq fun i hi => ?_
  simp only [BitVec.getLsbD_or, BitVec.getLsbD_and, BitVec.getLsbD_not, hi, decide_true, Bool.true_and]
  cases m.getLsbD i <;> simp

theorem stwSV_put_one (w : Word) : stwSV.put w 1 = w ||| 0x1000 := and_not_or_self w 0x1000
theorem stwAV_put_one (w : Word) : stwAV.put w 1 = w ||| 0x2000 := and_not_or_self w 0x2000

theorem stwWORLD_or_sticky (w : Word) : stwWORLD.get (w ||| 0x1000) = stwWORLD.get w ∧ stwWORLD.get (w ||| 0x2000) = stwWORLD.get w := by
  rw [← stwSV_put_one, ← stwAV_put_one]
  exact ⟨F.get_put_apart _ _ (.inl (by decide)), F.get_put_apart _ _ (.inl (by decide))⟩

theorem stwIML_or_sticky (w : Word) : stwIML.get (w ||| 0x1000) = stwIML.get w ∧ stwIML.get (w ||| 0x2000) = stwIML.get w := by
  rw [← stwSV_put_one, ← stwAV_put_one]
  exact ⟨F.get_put_apart _ _ (.inl (by decide)), F.get_put_apart _ _ (.inl (by decide))⟩

theorem stwSAT_get_eq_one (w : Word) : stwSAT.get w = 1 ↔ w.getLsbD 8 = true := by
  have h := F.testBit_get stwSAT w 0
  have hlt : stwSAT.get w < 2 := F.get_lt stwSAT w
  rw [show stwSAT.lo + 0 = 8 from rfl, show decide (0 < stwSAT.w) = true from rfl, Bool.true_and] at h
  rw [← h]
  interval_cases stwSAT.get w <;> decide

theorem Core.stickSV_eq (c : Core) (b : Bool) : c.stickSV b = { c with stw := if b then c.stw ||| 0x1000 else c.stw } := by
  cases b
  · rfl
  · rw [Core.stickSV, if_pos rfl, if_pos rfl, stwSV_put_one]

/-! ### Clamped numbers (R209) -/

theorem clampS_fst (n : Nat) (x : Int) : (clampS n x).1 = max (-2 ^ (n - 1)) (min (2 ^ (n - 1) - 1) x) := by
  have hk : (1 : Int) ≤ 2 ^ (n - 1) := by exact_mod_cast Nat.one_le_two_pow
  simp only [clampS, Nat.cast_pow, Nat.cast_ofNat]
  generalize (2 : Int) ^ (n - 1) = k at *
  split
  · simp only; omega
  · split <;> simp only <;> omega

theorem clampS_snd (n : Nat) (x : Int) : (clampS n x).2 = decide (x ≠ max (-2 ^ (n - 1)) (min (2 ^ (n - 1) - 1) x)) := by
  have hk : (1 : Int) ≤ 2 ^ (n - 1) := by exact_mod_cast Nat.one_le_two_pow
  simp only [clampS, Nat.cast_pow, Nat.cast_ofNat]
  generalize (2 : Int) ^ (n - 1) = k at *
  split
  · exact (decide_eq_true (by omega)).symm
  · split
    · exact (decide_eq_true (by omega)).symm
    · exact (decide_eq_false (by omega)).symm

/-! ### Numbers cut to their low bits -/

/-- The signed value of the low `n` bits is that of the `n`-bit vector. -/
theorem sx_toNat {n : Nat} (b : BitVec n) (h : 0 < n) : sx n b.toNat = b.toInt := by
  obtain ⟨m, rfl⟩ : ∃ m, n = m + 1 := ⟨n - 1, by omega⟩
  have hp : 2 ^ (m + 1) = 2 * 2 ^ m := by rw [Nat.pow_succ, Nat.mul_comm]
  rw [sx, Nat.mod_eq_of_lt b.isLt, BitVec.toInt_eq_toNat_cond, Nat.add_sub_cancel]
  by_cases hb : b.toNat < 2 ^ m
  · rw [if_pos hb, if_pos (by omega)]
  · rw [if_neg hb, if_neg (by omega)]

theorem wordOf_toInt {n : Nat} (b : BitVec n) : wordOf b.toInt = b.signExtend 32 := rfl

/-- The low `n` bits of an integer, sign-extended into a stack entry. -/
theorem wordOf_sx_wrapN {n : Nat} (x : Int) (h0 : 0 < n) (h : n ≤ 64) :
    wordOf (sx n (wrapN n x)) = ((BitVec.ofInt 64 x).truncate n).signExtend 32 := by
  have e : wrapN n x = ((BitVec.ofInt 64 x).truncate n).toNat := by
    have hd : ((2 ^ n : Nat) : Int) ∣ ((2 ^ 64 : Nat) : Int) := Int.natCast_dvd_natCast.2 (Nat.pow_dvd_pow 2 h)
    have hpos : (0 : Int) < ((2 ^ 64 : Nat) : Int) := by norm_num
    rw [wrapN, BitVec.truncate, BitVec.toNat_setWidth, BitVec.toNat_ofInt, ← Int.emod_emod_of_dvd x hd]
    have hx := Int.emod_nonneg x hpos.ne'
    obtain ⟨k, hk⟩ := Int.eq_ofNat_of_zero_le hx
    rw [hk]
    norm_cast
  rw [e, sx_toNat _ h0, wordOf_toInt]

/-! ### Rounding (R211) -/

theorem roundedTo_roundShift (rnd sh : Nat) (a : Int) : roundedTo rnd sh a (roundShift rnd sh a) := by
  have hd : (0 : Int) < 2 ^ sh := by positivity
  have he := Int.mul_ediv_add_emod a (2 ^ sh)
  have hr0 := Int.emod_nonneg a hd.ne'
  have hr1 := Int.emod_lt_of_pos a hd
  simp only [roundShift, Nat.cast_pow, Nat.cast_ofNat]
  unfold roundedTo
  generalize a % 2 ^ sh = r at *
  generalize a / 2 ^ sh = t at *
  generalize (2 : Int) ^ sh = d at *
  have products (u : Int) :
      u * d = d * u ∧ (u + 1) * d = d * u + d ∧ (2 * u - 1) * d = 2 * (d * u) - d ∧ (2 * u + 1) * d = 2 * (d * u) + d :=
    ⟨by ring, by ring, by ring, by ring⟩
  have next : d * (t + 1) = d * t + d := by ring
  have := products t
  have := products (t + 1)
  by_cases h0 : sh = 0
  · rw [if_pos h0]
    exact ⟨fun _ => by omega, fun h => absurd h0 h.2, fun h => absurd h0 h.2⟩
  · rw [if_neg h0]
    by_cases h1 : rnd = 1
    · rw [if_pos h1]
      refine ⟨fun h => by omega, fun _ => ?_, fun h => by omega⟩
      split <;> omega
    · rw [if_neg h1]
      by_cases h2 : rnd = 2
      · rw [if_pos h2]
        refine ⟨fun h => by omega, fun h => by omega, fun _ => ?_⟩
        split <;> omega
      · rw [if_neg h2]
        exact ⟨fun _ => by omega, fun h => absurd h.1 h1, fun h => absurd h.1 h2⟩

end Sys2Proof.Machine
end

section
/-! PROOF of O4. The saturating instructions (R209, R228) and the extractions (R211, R212). -/

namespace Sys2Proof.Machine

theorem SaturatingRow.exec_eq {i : Nat → Instr} {p n : Nat} {f : List Word → Int} (h : SaturatingRow i p n f) (l : Nat) (s : State) :
    exec (i l) s = done s (s.instr l (fun (s : State) _ => s.saturating l p n f)) := by
  cases h <;> rfl

/-- What an extraction's `A` reads of the core is ACC. -/
theorem ExtractRow.exec_eq {i : Nat → Instr} {p n sh : Nat} {a : Core → List Word → Int} (h : ExtractRow i p n sh a) (l : Nat)
    (s : State) : exec (i l) s = done s (s.instr l (fun (s : State) _ => s.extracted l p n sh a)) := by
  cases h with
  | ext8 | ext16 | ext32 => rfl
  | mulq =>
    have e : (fun (_ : Core) (v : List Word) => 2 * (wAt v 1).toInt * (wAt v 0).toInt) =
        fun _ v => product true (wAt v 1) (wAt v 0) := by
      funext _ v
      rw [product, if_pos rfl, mul_assoc]
    rw [e]
    rfl

theorem ExtractRow.acc {i : Nat → Instr} {p n sh : Nat} {a : Core → List Word → Int} (h : ExtractRow i p n sh a) {c d : Core}
    (e : c.acc = d.acc) (v : List Word) : a c v = a d v := by
  cases h <;> simp only [e]

theorem ExtractRow.width {i : Nat → Instr} {p n sh : Nat} {a : Core → List Word → Int} (h : ExtractRow i p n sh a) :
    0 < n ∧ n ≤ 32 := by
  cases h <;> decide

section
variable {s : State} {l p : Nat}

/-- An instruction that pushes one word and may set SV. -/
theorem done_sticky {f : Core → List Word → Core × List Word} {v : Word} {b : Bool} (h : s.Ready l) (hh : s.Handy l false p 1)
    (hf : ∀ c : Core, c.stw = (s.core l).stw → c.acc = (s.core l).acc → f c ((s.held l false).take p) = (c.stickSV b, [v])) :
    done s (s.instr l (fun (s : State) _ => s.coreOp l p 1 f)) =
      .next (s.setCore l (s.restack l false p [v]
        { s.next l with stw := if b then (s.core l).stw ||| 0x1000 else (s.core l).stw })) := by
  refine done_coreOp (a := (s.core l).acc) (x := (s.core l).x) (y := (s.core l).y) h hh (fun c hw ha hx hy => ?_) ?_ ?_
  · rw [hf c hw ha, Core.stickSV_eq, hw, ← ha, ← hx, ← hy]
  · cases b
    · rfl
    · exact (stwWORLD_or_sticky _).1
  · cases b
    · rfl
    · exact (stwIML_or_sticky _).1

theorem done_saturating {n : Nat} (f : List Word → Int) (h : s.Ready l) (hh : s.Handy l false p 1) :
    let x := f ((s.held l false).take p)
    let y := max (-2 ^ (n - 1)) (min (2 ^ (n - 1) - 1) x)
    done s (s.instr l (fun (s : State) _ => s.saturating l p n f)) =
      .next (s.setCore l (s.restack l false p [BitVec.ofInt 32 y]
        { s.next l with stw := if x = y then (s.core l).stw else (s.core l).stw ||| 0x1000 })) := by
  intro x y
  have hd := done_sticky (v := BitVec.ofInt 32 y) (b := decide (x ≠ y)) (s := s) (l := l) h hh
    (f := fun c v => (c.stickSV (clampS n (f v)).2, [wordOf (clampS n (f v)).1]))
    (fun c _ _ => by simp only [clampS_fst, clampS_snd, wordOf, x, y])
  by_cases hxy : x = y
  · rw [if_pos hxy]
    rwa [decide_eq_false (not_not.2 hxy)] at hd
  · rw [if_neg hxy]
    rwa [decide_eq_true hxy] at hd

/-- The word and the flag of an extraction (R211). -/
theorem Core.extracts_eq (c : Core) {n : Nat} (sh : Nat) (a : Int) (h0 : 0 < n) (h : n ≤ 32) :
    let t := roundShift (stwRND.get c.stw) sh a
    let y := max (-2 ^ (n - 1)) (min (2 ^ (n - 1) - 1) t)
    let sat := c.stw.getLsbD 8
    c.extracts n sh a = (if sat then BitVec.ofInt 32 y else ((BitVec.ofInt 64 t).truncate n).signExtend 32, sat && decide (t ≠ y)) := by
  intro t y sat
  unfold Core.extracts extract
  simp only [stwSAT_get_eq_one]
  cases hs : c.stw.getLsbD 8
  · simp only [Bool.false_eq_true, if_false, sat, hs, Bool.false_and, wordOf_sx_wrapN _ h0 (show n ≤ 64 by omega), t]
  · simp only [if_true, sat, hs, Bool.true_and, clampS_fst, clampS_snd, wordOf, t, y]

end

/-- Settles O4: the clamped number and its flag, and the rounded quotient of an extraction. -/
theorem saturationAndExtraction : Obligations.SaturationAndExtraction := by
  unfold Obligations.SaturationAndExtraction
  refine ⟨fun i p n f row s l h hh => ?_, fun i p n sh a row s l h hh => ⟨_, roundedTo_roundShift _ _ _, ?_⟩⟩
  · rw [row.exec_eq]
    exact done_saturating f h hh
  · obtain ⟨h0, hn⟩ := row.width
    rw [row.exec_eq]
    refine done_sticky h hh fun c hw ha => ?_
    simp only [Core.extracts_eq c _ _ h0 hn, row.acc ha, hw]

end Sys2Proof.Machine
end

section
/-! SUPPORT. Loads of a core from memory (R213, R269, R272): the parts of an access, and the value of its bytes. -/

namespace Sys2Proof.Machine

/-! ### Where an access goes -/

/-- The places of the map hold whole words. -/
theorem placeOf_word {a b : Nat} (h : a / 4 = b / 4) : placeOf a = placeOf b := by
  unfold placeOf inWindows
  by_cases hm : 0x10000000 ≤ a ∧ a < 0x10800000
  · rw [if_pos hm, if_pos (by omega)]
  · rw [if_neg hm, if_neg (show ¬(0x10000000 ≤ b ∧ b < 0x10800000) by omega)]
    by_cases hs : 0x20000000 ≤ a ∧ a < 0x20200000
    · rw [if_pos hs, if_pos (by omega)]
    · rw [if_neg hs, if_neg (show ¬(0x20000000 ≤ b ∧ b < 0x20200000) by omega)]
      by_cases hf : 0x30000000 ≤ a ∧ a < 0x30C00000
      · rw [if_pos hf, if_pos (show 0x30000000 ≤ b ∧ b < 0x30C00000 by omega)]
        extract_lets x y
        rw [show (a - 0x30000000) / 0x200000 = (b - 0x30000000) / 0x200000 by omega]
        exact if_congr (by omega) rfl rfl
      · rw [if_neg hf, if_neg (show ¬(0x30000000 ≤ b ∧ b < 0x30C00000) by omega)]
        exact if_congr (by rw [decide_eq_true_iff, decide_eq_true_iff]; omega) rfl rfl

theorem targetOf_word {a b : Nat} (h : a / 4 = b / 4) : targetOf a = targetOf b := by
  unfold targetOf
  rw [placeOf_word h]
  exact if_congr (by omega) rfl rfl

theorem placeOf_ne_periph {a : Nat} (h : a < 0x40000000) : placeOf a ≠ .periph := by
  have hw : inWindows a = false := decide_eq_false (by omega)
  unfold placeOf
  simp only [hw, Bool.false_eq_true, if_false]
  split_ifs <;> nofun

theorem targetOf_ne_periph {a : Nat} (h : a < 0x40000000) : targetOf a ≠ some .periph := by
  have hp := placeOf_ne_periph h
  unfold targetOf
  split_ifs
  · nofun
  · cases e : placeOf a with
    | periph => exact absurd e hp
    | mram | sram | far | unmapped => nofun

/-- Bytes of one word lie at successive cells. -/
theorem State.cellOf_add (s : State) (l : Nat) {a i : Nat} (h : a % 4 + i < 4) (ha : a < 0x40000000) :
    s.cellOf l (a + i) = s.cellOf l a + i := by
  unfold State.cellOf
  rw [targetOf_word (show (a + i) / 4 = a / 4 by omega)]
  have hp := targetOf_ne_periph ha
  cases e : targetOf a with
  | none => rfl
  | some t =>
    cases t with
    | tcm | far =>
      simp only [Option.getD_some, Variant.accessKey, Variant.tcmKey]
      omega
    | periph => exact absurd e hp
    | mram | sram => rfl

/-! ### The value of bytes -/

theorem State.value_add (s : State) (l m k a : Nat) : s.value l (m + k) a = s.value l m a + 2 ^ (8 * m) * s.value l k (a + m) := by
  induction m generalizing a with
  | zero => simp [State.value]
  | succ m ih =>
    rw [Nat.succ_add, State.value, State.value, ih, show a + 1 + m = a + (m + 1) by omega,
      show 8 * (m + 1) = 8 * m + 8 by omega, Nat.pow_add]
    ring

theorem State.value_lt (s : State) (l n a : Nat) : s.value l n a < 2 ^ (8 * n) := by
  induction n generalizing a with
  | zero => exact Nat.one_pos
  | succ n ih =>
    have hb := (s.byte (s.cellOf l a)).isLt
    have := ih (a + 1)
    rw [State.value, show 8 * (n + 1) = 8 * n + 8 by omega, Nat.pow_add]
    omega

@[simp] theorem State.value_setCore (s : State) (l k : Nat) (c : Core) (n a : Nat) : (s.setCore k c).value l n a = s.value l n a := by
  induction n generalizing a with
  | zero => rfl
  | succ n ih =>
    rw [State.value, State.value, ih]
    rfl

/-- Bytes outside the sealed regions are read as memory holds them. -/
theorem State.peek_eq_value {s : State} {l : Nat} : ∀ {n a k : Nat}, (∀ i, i < n → s.cellOf l (a + i) = k + i ∧ s.sealedAt (k + i) = none) →
    s.peek n k = s.value l n a
  | 0, _, _, _ => rfl
  | n + 1, a, k, h => by
    obtain ⟨hk, hs⟩ := h 0 (Nat.succ_pos n)
    have next := State.peek_eq_value (n := n) (a := a + 1) (k := k + 1) (s := s) (l := l) fun i hi => by
      have := h (i + 1) (by omega)
      rwa [show a + 1 + i = a + (i + 1) by omega, show k + 1 + i = k + (i + 1) by omega]
    simp only [Nat.add_zero] at hk hs
    simp only [State.peek, State.value, next, hk, State.plain, hs]

/-! ### The parts of an access -/

/-- The parts of an access of a byte, a halfword or a word: one, or two that meet in the middle; each within a word. -/
theorem splitAt_cases {a n : Nat} (hn : n = 1 ∨ n = 2 ∨ n = 4) (ha : a + n ≤ 0x40000000) :
    splitAt a n = [(a, n)] ∧ a % 4 + n ≤ 4 ∨
      ∃ m k, m + k = n ∧ a % 4 + m ≤ 4 ∧ (a + m) % 4 + k ≤ 4 ∧ splitAt a n = [(a, m), (a + m, k)] := by
  unfold splitAt
  by_cases h : a % n = 0
  · rw [if_pos h]
    refine .inl ⟨rfl, ?_⟩
    rcases hn with rfl | rfl | rfl <;> omega
  · rw [if_neg h]
    refine .inr ⟨n - a % n, a % n, ?_⟩
    have hm : (a + (n - a % n)) % 2 ^ 32 = a + (n - a % n) := Nat.mod_eq_of_lt (by omega)
    have hk : n - (n - a % n) = a % n := by rcases hn with rfl | rfl | rfl <;> omega
    simp only [hm, hk, and_true]
    rcases hn with rfl | rfl | rfl <;> omega

/-- A part that passes its checks has a place. -/
theorem State.targetOf_of_dataFault {s : State} {w : Who} {k : AccKind} {a n b m : Nat} {v : Word} (h : s.dataFault w k a n v = none)
    (hp : (b, m) ∈ splitAt a n) : (targetOf b).isSome = true := by
  have hf : s.partFault w.id a b m (k == .write) = none :=
    firstOf_eq_none h _ (List.mem_append_right _ (List.mem_map.2 ⟨(b, m), hp, rfl⟩))
  cases e : targetOf b with
  | some t => rfl
  | none =>
    unfold State.partFault at hf
    simp only [e] at hf
    split at hf <;> cases hf

/-! ### A load -/

section
variable {s : State} {l a n : Nat}

/-- One part of a load. -/
theorem State.Loads.readMem (h : s.Loads l a n) (fa : Nat) {i m : Nat} (hi : i + m ≤ n) (hw : (a + i) % 4 + m ≤ 4)
    (ht : (targetOf (a + i)).isSome = true) : s.readMem (s.who l) fa (a + i) m = .ok s (s.value l m (a + i)) := by
  obtain ⟨-, hlim, -, hq, hecc, hseal⟩ := h
  obtain ⟨t, e⟩ := Option.isSome_iff_exists.1 ht
  have hflush : (if t == Target.mram then s.mrFlush else s) = s := by
    simp [State.mrFlush, hq, State.mrDrop]
  have hkey : s.variant.accessKey l (a + i) t = s.cellOf l (a + i) := by rw [State.cellOf, e, Option.getD_some]
  have hclean : s.eccRead (s.cellOf l (a + i)) m = (s, false) := checkWords_clean s false _ fun w _ => by simp [hecc, Tab.get, Tab.find]
  have hpeek : s.peek m (s.cellOf l (a + i)) = s.value l m (a + i) := State.peek_eq_value fun j hj => by
    have hc := s.cellOf_add l (a := a + i) (i := j) (by omega) (by omega)
    exact ⟨hc, by rw [← hc, Nat.add_assoc]; exact hseal (i + j) (by omega)⟩
  simp only [State.readMem, e, hflush, State.who, hkey, hclean, hpeek, Bool.false_eq_true, if_false]

/-- A load reads the value of its bytes and changes nothing. -/
theorem State.Loads.loadAt (h : s.Loads l a n) (hn : n = 1 ∨ n = 2 ∨ n = 4) : s.loadAt (s.who l) a n = .ok s (s.value l n a) := by
  obtain ⟨hf, hlim, hsb, -⟩ := id h
  have hper : (targetOf a == some .periph) = false := beq_false_of_ne (targetOf_ne_periph (by omega))
  have hclear (p : SbEntry → Bool) : s.sbClear l p = s := State.sbClear_of_none (by simp [hsb])
  have hparts : s.readParts (s.who l) a (splitAt a n) = .ok s (s.value l n a) := by
    rcases splitAt_cases hn hlim with ⟨e, hw⟩ | ⟨m, k, rfl, hm, hk, e⟩
    · have ht := State.targetOf_of_dataFault hf (b := a) (m := n) (by simp [e])
      have hr : s.readMem (s.who l) a a n = _ := h.readMem a (i := 0) (Nat.zero_add n).le hw ht
      simp only [e, State.readParts, hr, Out.bind, Nat.mul_zero, Nat.add_zero]
    · have ht := State.targetOf_of_dataFault hf (b := a) (m := m) (by simp [e])
      have htk := State.targetOf_of_dataFault hf (b := a + m) (m := k) (by simp [e])
      have hr : s.readMem (s.who l) a a m = _ := h.readMem a (i := 0) (by omega) hm ht
      have hrk := h.readMem a (i := m) le_rfl hk htk
      simp only [e, State.readParts, hr, hrk, Out.bind, Nat.mul_zero, Nat.add_zero, State.value_add]
  have hmiss : ((s.partKeys (s.who l) (splitAt a n)).map fun k => forwarded (s.core l).sb k.1 k.2).all Option.isSome = false := by
    rcases splitAt_cases hn hlim with ⟨e, -⟩ | ⟨m, k, -, -, -, e⟩ <;> simp [e, State.partKeys, forwarded, hsb]
  simp only [State.loadAt, hper, Bool.false_eq_true, if_false, State.loadParts]
  rw [show (s.who l).id = l from rfl, hmiss, hclear]
  simpa using hparts

/-- A load that is permitted. -/
theorem State.Loads.load (h : s.Loads l a n) (hn : n = 1 ∨ n = 2 ∨ n = 4) : s.load (s.who l) a n = .ok s (s.value l n a) := by
  rw [State.load, h.1]
  exact h.loadAt hn

end

/-- What a load asks of its core: the world, the ring and the store buffer. -/
theorem State.loads_setCore {s : State} {l a n : Nat} {c : Core} (hg : c.guard = (s.core l).guard) (hr : c.ring = (s.core l).ring)
    (hs : c.sb = (s.core l).sb) : (s.setCore l c).Loads l a n ↔ s.Loads l a n := by
  have hw : (s.setCore l c).who l = s.who l := by simp [State.who, hg, hr]
  have hd : (s.setCore l c).dataFault (s.who l) .read a n 0 = s.dataFault (s.who l) .read a n 0 := rfl
  unfold State.Loads
  rw [hw, hd, State.setCore_core_self, hs]
  rfl

@[simp] theorem State.loads_setPc {s : State} {l a n : Nat} {v : Word} : (s.setPc l v).Loads l a n ↔ s.Loads l a n :=
  State.loads_setCore (c := { s.core l with pc := v }) rfl rfl rfl

@[simp] theorem State.value_setPc (s : State) (l k : Nat) (v : Word) (n a : Nat) : (s.setPc k v).value l n a = s.value l n a :=
  State.value_setCore s l k { s.core k with pc := v } n a

end Sys2Proof.Machine
end

section
/-! SUPPORT. The stepping of X and Y (R204): an access leaves the one address that the rule names. -/

namespace Sys2Proof.Machine

/-! ### Reversed bits -/

theorem isReversed_unique {n x y z : Nat} (hy : isReversed n x y) (hz : isReversed n x z) : y = z := by
  refine Nat.eq_of_testBit_eq fun i => ?_
  by_cases hi : i < n
  · rw [hy.2 i hi, hz.2 i hi]
  · have hp : 2 ^ n ≤ 2 ^ i := Nat.pow_le_pow_right Nat.two_pos (Nat.le_of_not_lt hi)
    rw [Nat.testBit_lt_two_pow (hy.1.trans_le hp), Nat.testBit_lt_two_pow (hz.1.trans_le hp)]

/-- The passes of `bitRev` over the last `m` of `n` bits add the low `m` bits of the reversed number. -/
theorem bitRev_passes (n x : Nat) : ∀ m j r, j + m = n → ∃ y, y < 2 ^ m ∧ (∀ i, i < m → y.testBit i = x.testBit (n - 1 - i)) ∧
    (upFrom j m).foldl (fun r i => if x.testBit i then r + 2 ^ (n - 1 - i) else r) r = r + y
  | 0, _, _, _ => ⟨0, Nat.one_pos, fun _ h => absurd h (Nat.not_lt_zero _), rfl⟩
  | m + 1, j, r, h => by
    have hj : n - 1 - j = m := by omega
    obtain ⟨y, hy, hbits, hfold⟩ := bitRev_passes n x m (j + 1) (if x.testBit j then r + 2 ^ m else r) (by omega)
    have hpow : 2 ^ (m + 1) = 2 ^ m + 2 ^ m := by rw [Nat.pow_succ, Nat.mul_two]
    rw [upFrom, List.foldl_cons, hj, hfold]
    cases hx : x.testBit j with
    | true =>
      refine ⟨2 ^ m + y, by omega, fun i hi => ?_, by simp only [if_true]; omega⟩
      rcases Nat.lt_succ_iff_lt_or_eq.1 hi with hi | rfl
      · rw [Nat.testBit_two_pow_add_gt hi, hbits i hi]
      · rw [Nat.testBit_two_pow_add_eq, Nat.testBit_lt_two_pow hy, show n - 1 - i = j by omega, hx]
        rfl
    | false =>
      refine ⟨y, by omega, fun i hi => ?_, by simp only [Bool.false_eq_true, if_false]⟩
      rcases Nat.lt_succ_iff_lt_or_eq.1 hi with hi | rfl
      · exact hbits i hi
      · rw [Nat.testBit_lt_two_pow hy, show n - 1 - i = j by omega, hx]

theorem isReversed_bitRev (n x : Nat) : isReversed n x (bitRev n x) := by
  obtain ⟨y, hy, hbits, hfold⟩ := bitRev_passes n x n 0 0 (Nat.zero_add n)
  rw [bitRev, hfold, Nat.zero_add]
  exact ⟨hy, hbits⟩

/-! ### Powers of two -/

theorem log2_two_pow {n : Nat} (h : n < 32) : log2 (2 ^ n) = n :=
  (show ∀ n, n < 32 → log2 (2 ^ n) = n by decide) n h

theorem isPow2_eq_false {x : Nat} (h : x < 2 ^ 24) : isPow2 x = false ↔ ∀ i, x ≠ 2 ^ i := by
  rw [isPow2, List.any_eq_false]
  simp only [mem_upFrom, beq_iff_eq]
  refine ⟨fun hx i e => ?_, fun hx i _ e => hx i e.symm⟩
  have hi : i < 24 := (Nat.pow_lt_pow_iff_right (by decide)).1 (e ▸ h)
  exact hx i ⟨Nat.zero_le _, by omega⟩ e.symm

/-! ### The address after an access -/

/-- The machine steps as R204 says. -/
theorem isStepped_stepped (x : Xreg) (e : Nat) : isStepped x e (x.stepped e).a := by
  have hlen : x.cfg.toNat % 2 ^ 24 < 2 ^ 24 := Nat.mod_lt _ (by norm_num)
  unfold isStepped Xreg.stepped
  extract_lets len o q next
  refine ⟨fun h0 => if_pos h0, fun h0 hlin => ?_, fun hrev i hi he n hn => ?_⟩
  · exact (if_neg h0).trans (if_pos (by rwa [isPow2_eq_false hlen]))
  · have h0 : len ≠ 0 := by rw [hi]; exact (Nat.two_pow_pos i).ne'
    have hlin : ¬(x.cfg.getLsbD 24 = false ∨ isPow2 len = false ∨ len < e) := by
      rw [isPow2_eq_false hlen, hrev]
      rintro (h | h | h)
      · cases h
      · exact h i hi
      · omega
    have h24 : n < 24 := by
      have : 2 ^ n ≤ len := hn ▸ Nat.div_le_self _ _
      exact (Nat.pow_lt_pow_iff_right (by decide)).1 (this.trans_lt hlen)
    refine ⟨_, _, _, isReversed_bitRev n _, isReversed_bitRev n _, isReversed_bitRev n _, ?_⟩
    refine (if_neg h0).trans ((if_neg hlin).trans ?_)
    simp only [q, hn, log2_two_pow (show n < 32 by omega), revAdd]

/-- R204 names one address, for accesses whose size divides every power of two from it on. -/
theorem isStepped_unique {x : Xreg} {e : Nat} {u v : Word} (he : ∀ i, e ≤ 2 ^ i → ∃ n, 2 ^ i / e = 2 ^ n) (hu : isStepped x e u)
    (hv : isStepped x e v) : u = v := by
  obtain ⟨hu0, hulin, hurev⟩ := hu
  obtain ⟨hv0, hvlin, hvrev⟩ := hv
  by_cases h0 : x.cfg.toNat % 2 ^ 24 = 0
  · exact (hu0 h0).trans (hv0 h0).symm
  · by_cases hlin : x.cfg.getLsbD 24 = false ∨ (∀ i, x.cfg.toNat % 2 ^ 24 ≠ 2 ^ i) ∨ x.cfg.toNat % 2 ^ 24 < e
    · exact (hulin h0 hlin).trans (hvlin h0 hlin).symm
    · simp only [not_or, not_forall, not_not, not_lt, Bool.not_eq_false] at hlin
      obtain ⟨hrev, ⟨i, hi⟩, hle⟩ := hlin
      obtain ⟨n, hn⟩ := he i (hi ▸ hle)
      obtain ⟨a, b, w, ha, hb, hw, rfl⟩ := hurev hrev i hi hle n (hi ▸ hn)
      obtain ⟨a', b', w', ha', hb', hw', rfl⟩ := hvrev hrev i hi hle n (hi ▸ hn)
      obtain rfl := isReversed_unique ha ha'
      obtain rfl := isReversed_unique hb hb'
      rw [isReversed_unique hw hw']

/-- The address that R204 names for a word. -/
theorem isStepped.eq_stepped {x : Xreg} {v : Word} (h : isStepped x 4 v) : { x with a := v } = x.stepped 4 := by
  have he : ∀ i, 4 ≤ 2 ^ i → ∃ n, 2 ^ i / 4 = 2 ^ n := fun i hi => by
    have h2 : 2 ≤ i := (Nat.pow_le_pow_iff_right (by decide)).1 (show 2 ^ 2 ≤ 2 ^ i from hi)
    exact ⟨i - 2, Nat.pow_div h2 Nat.two_pos⟩
  rw [isStepped_unique he h (isStepped_stepped x 4)]
  rfl

end Sys2Proof.Machine
end

section
/-! SUPPORT. LONGCNT counts a long instruction that a delivery stops (R259), and no interrupt asks for it. -/

namespace Sys2Proof.Machine

section
variable {s t : State} {a l : Nat} {v : Word}

/-- A change that neither moves FLTSUM nor lets a Shop candidate wait raises nothing. -/
theorem settle_eq_self (hf : t.fltsum = s.fltsum) (hk : ∀ k, k < 5 → t.shopHeld k = s.shopHeld k) : settle s t = t := by
  have rise : fltRise s t = 0 := by simp [fltRise, hf]
  have held : ∀ k ∈ upFrom 0 5, heldRise s t k = t := fun k hm => by
    have := hk k (by simpa using (mem_upFrom.1 hm).2)
    simp [heldRise, this]
  rw [settle, rise]
  change (upFrom 0 5).foldl (heldRise s) t = t
  generalize upFrom 0 5 = ks at held
  induction ks with
  | nil => rfl
  | cons k ks ih => rw [List.foldl_cons, held k List.mem_cons_self, ih fun j hj => held j (List.mem_cons_of_mem k hj)]

/-- A register whose block no interrupt and no fault bit looks at: LONGCNT. -/
@[reducible] def longReg (a : Nat) : Prop := 0x400E0300 ≤ a ∧ a < 0x400E0400

theorem State.rd_wr_long (h : longReg a) {b : Nat} (hb : b < 0x400E0300 ∨ 0x400E0400 ≤ b) : (s.wr a v).rd b = s.rd b :=
  State.rd_wr_ne _ _ _ _ (by omega)

theorem State.fltsum_wr_long (h : longReg a) : (s.wr a v).fltsum = s.fltsum := by
  have rd (b : Nat) (hb : b < 0x400E0300 ∨ 0x400E0400 ≤ b) : (s.wr a v).rd b = s.rd b := State.rd_wr_long h hb
  have wd (l : Nat) : (s.wr a v).rd (R.WDSTAT l) = s.rd (R.WDSTAT l) := rd _ (by simp only [R.WDSTAT]; omega)
  have bit (i : Nat) : (s.wr a v).fltBit i = s.fltBit i := by
    unfold State.fltBit State.rngStopped State.fld
    simp only [rd R.TTFAULT (by decide), rd R.PAIRSTAT (by decide), rd R.CORERST (by decide), rd R.MEMUEWHO (by decide),
      rd R.HMALARM (by decide), rd R.PINBANK (by decide), rd R.RNGSTAT (by decide), wd]
    rfl
  simp only [State.fltsum, bit]

theorem Tab.filterMap_put {α β : Type} {f : Nat × α → Option β} {k : Nat} (hf : ∀ v, f (k, v) = none) (v : α) (t : Tab α) :
    (t.put k v).filterMap f = t.filterMap f := by
  induction t with
  | nil => simp [Tab.put, hf]
  | cons e t ih =>
    obtain ⟨b, w⟩ := e
    rw [Tab.put]
    by_cases hb : b = k
    · subst hb
      simp [hf]
    · rw [if_neg hb]
      by_cases hlt : k < b
      · simp [hlt, hf]
      · simp only [hlt, if_false, List.filterMap_cons, ih]

theorem State.liveSources_wr_long (h : longReg a) : (s.wr a v).liveSources = s.liveSources :=
  Tab.filterMap_put (fun w => if_neg (by simp only [R.IRQCNT]; omega)) v s.regs

theorem State.liveSources_le {n : Nat} (h : n ∈ s.liveSources) : n ≤ 255 := by
  obtain ⟨e, -, he⟩ := List.mem_filterMap.1 h
  split at he
  next hc =>
    obtain ⟨h0, h1, -⟩ := hc
    simp only [R.IRQCNT, Option.some.injEq] at h0 h1 he
    omega
  · cases he

theorem State.shopHeld_wr_long (h : longReg a) {k : Nat} (hk : k < 5) : (s.wr a v).shopHeld k = s.shopHeld k := by
  have rd (b : Nat) (hb : b < 0x400E0300 ∨ 0x400E0400 ≤ b) : (s.wr a v).rd b = s.rd b := State.rd_wr_long h hb
  have act (n : Nat) (hn : n ≤ 8) : (s.wr a v).saveAct k n = s.saveAct k n := by
    rw [State.saveAct, State.sstat, rd _ (by simp only [saveAddr, R.SAVE]; omega)]
    rfl
  have nmi : (s.wr a v).nmiAct k = s.nmiAct k := by
    rw [State.nmiAct, State.fld, rd _ (by simp only [R.NMIPEND]; omega)]
    rfl
  have df : (s.wr a v).dfAct k = s.dfAct k := by
    rw [State.dfAct, State.fld, rd _ (by simp only [R.DFSTAT]; omega)]
    rfl
  have lesson : (s.wr a v).lessonAct k = s.lessonAct k := act bellSet (by decide)
  have cp : (s.wr a v).cp k = s.cp k := by
    simp only [State.cp, List.find?, act 0 (by omega), act 1 (by omega), act 2 (by omega), act 3 (by omega), act 4 (by omega),
      act 5 (by omega), act 6 (by omega)]
  have cfg (n : Nat) (hn : n ≤ 255) : (s.wr a v).irqcfg n = s.irqcfg n := by
    rw [State.irqcfg, rd _ (by simp only [R.IRQCFG]; omega)]
    rfl
  have cnt (n : Nat) (hn : n ≤ 255) : (s.wr a v).rd (R.IRQCNT n) = s.rd (R.IRQCNT n) := rd _ (by simp only [R.IRQCNT]; omega)
  have waits (n : Nat) (hn : n ≤ 255) : ((s.wr a v).passes5 k n && !(s.wr a v).irqGuard n) = (s.passes5 k n && !s.irqGuard n) := by
    simp only [State.passes5, State.irqGuard, State.irqLevel, State.irqCore, State.irqEn, State.irqPend, State.fld, cfg n hn, cnt n hn, cp,
      nmi, df, lesson]
    rfl
  have any : s.liveSources.any (fun n => (s.wr a v).passes5 k n && !(s.wr a v).irqGuard n) =
      s.liveSources.any (fun n => s.passes5 k n && !s.irqGuard n) := by
    rw [Bool.eq_iff_iff, List.any_eq_true, List.any_eq_true]
    exact exists_congr fun n => and_congr_right fun hn => by rw [waits n (State.liveSources_le hn)]
  simp only [State.shopHeld, State.liveSources_wr_long h, any]
  rfl

/-- LONGCNT of a core that the machine has. -/
theorem longReg_of_hasCore {w : Variant} (h : w.hasCore l = true) : longReg (R.LONGCNT (w.phys l)) ∧ longReg (R.LONGCNT (w.phys l + 1)) := by
  have hn : w.nInd ≤ 4 := by cases w <;> decide
  have hl : l ≤ w.nInd := of_decide_eq_true h
  have hp : w.phys l ≤ 4 := by unfold Variant.phys; split <;> omega
  simp only [longReg, R.LONGCNT]
  omega

/-- Counting a long instruction raises no interrupt. -/
theorem longCount_quiet (h : t.variant.hasCore l = true) (f : F) :
    (t.longCount l f).fltsum = t.fltsum ∧ ∀ k, k < 5 → (t.longCount l f).shopHeld k = t.shopHeld k := by
  obtain ⟨h0, h1⟩ := longReg_of_hasCore h
  unfold State.longCount
  extract_lets p u
  have hu : u.fltsum = t.fltsum ∧ ∀ k, k < 5 → u.shopHeld k = t.shopHeld k :=
    ⟨State.fltsum_wr_long h0, fun k hk => State.shopHeld_wr_long h0 hk⟩
  split
  · exact ⟨(State.fltsum_wr_long h1).trans hu.1, fun k hk => (State.shopHeld_wr_long h1 hk).trans (hu.2 k hk)⟩
  · exact hu

/-- A core that changes in its world and at its level, and whose long instruction is counted, answers just that. -/
theorem done_longCount {c : Core} (h : s.runs l = true) (hg : c.guard = (s.core l).guard)
    (hi : stwIML.get c.stw = stwIML.get (s.core l).stw) (hh : c.shopHalted = (s.core l).shopHalted) (f : F) :
    done s ((s.setCore l c).longCount l f) = .next ((s.setCore l c).longCount l f) := by
  have hcore : (s.setCore l c).variant.hasCore l = true := by
    simp only [State.runs, State.canRun, Bool.and_eq_true, and_assoc] at h
    obtain ⟨-, hcore, -⟩ := h
    exact hcore
  obtain ⟨hf, hk⟩ := longCount_quiet hcore f
  rw [done, settle_eq_self (hf.trans (State.setCore_fltsum ..)) fun k h5 => (hk k h5).trans (State.setCore_shopHeld s l k c hg hi hh)]

end

end Sys2Proof.Machine
end

section
/-! PROOF of O6. The accumulator: the instructions of R242 and R243, and the accumulations through X and Y (R241, R246, R250-R252). -/

namespace Sys2Proof.Machine

/-! ### ACC and AV (R206) -/

/-- STW after an exact result `x` of ACC. -/
def stwAfter (w : Word) (x : Int) : Word := if -2 ^ 71 ≤ x ∧ x < 2 ^ 71 then w else w ||| 0x2000

theorem stwAfter_world (w : Word) (x : Int) : stwWORLD.get (stwAfter w x) = stwWORLD.get w := by
  unfold stwAfter
  split
  · rfl
  · exact (stwWORLD_or_sticky w).2

theorem stwAfter_level (w : Word) (x : Int) : stwIML.get (stwAfter w x) = stwIML.get w := by
  unfold stwAfter
  split
  · rfl
  · exact (stwIML_or_sticky w).2

theorem stwAfter_ring (w : Word) (x : Int) : stwRING.get (stwAfter w x) = stwRING.get w := by
  unfold stwAfter
  split
  · rfl
  · rw [← stwAV_put_one]
    exact F.get_put_apart _ _ (.inl (by decide))

theorem Core.accSet_eq (c : Core) (x : Int) : c.accSet x = { c with acc := BitVec.ofInt 72 x, stw := stwAfter c.stw x } := by
  have h := clampS_snd 72 x
  unfold Core.accSet Core.stickAV stwAfter
  by_cases hx : -2 ^ 71 ≤ x ∧ x < 2 ^ 71
  · rw [if_pos hx, h, decide_eq_false (by omega), if_neg Bool.false_ne_true]
  · rw [if_neg hx, h, decide_eq_true (by omega), if_pos rfl, stwAV_put_one]

theorem Core.accSet_of_range (c : Core) {x : Int} (h : -2 ^ 71 ≤ x ∧ x < 2 ^ 71) : c.accSet x = { c with acc := BitVec.ofInt 72 x } := by
  rw [Core.accSet_eq, stwAfter, if_pos h]

/-- A right shift of ACC floors, and stays in range. -/
theorem Core.asra_eq (c : Core) (sh : Nat) : c.asra sh = c.accSet (c.acc.toInt / 2 ^ sh) := by
  have h0 := c.acc.le_toInt
  have h1 := c.acc.toInt_lt
  have hp : (0 : Int) < 2 ^ sh := by positivity
  have hlo : -2 ^ 71 ≤ c.acc.toInt / 2 ^ sh := by
    rw [Int.le_ediv_iff_mul_le hp]
    omega
  have hhi : c.acc.toInt / 2 ^ sh < 2 ^ 71 := by
    rw [Int.ediv_lt_iff_lt_mul hp]
    omega
  rw [Core.accSet_of_range _ ⟨hlo, hhi⟩, Core.asra, BitVec.sshiftRight, Int.shiftRight_eq_div_pow]
  norm_cast

/-- LDA stays in range. -/
theorem Core.loadAcc_eq (c : Core) (lo hi : Word) : c.loadAcc lo hi = c.accSet (hi.toInt * 2 ^ 32 + lo.toNat) := by
  have hlo := lo.isLt
  have hhi := hi.isLt
  have e : sx 64 (lo.toNat + 2 ^ 32 * hi.toNat) = hi.toInt * 2 ^ 32 + lo.toNat := by
    unfold sx
    rw [BitVec.toInt_eq_toNat_cond, Nat.mod_eq_of_lt (by omega)]
    split <;> split <;> omega
  have h0 := hi.le_toInt
  have h1 := hi.toInt_lt
  rw [Core.accSet_of_range _ (by omega), Core.loadAcc, e]

theorem AccRow.exec_eq {i : Nat → Instr} {p : Nat} {f : Int → List Word → Int} (h : AccRow i p f) (l : Nat) (s : State) :
    exec (i l) s = done s (s.instr l (fun (s : State) _ => s.accOp l p (fun c v => c.accSet (f c.acc.toInt v)))) := by
  have same {g : Core → List Word → Core} (he : exec (i l) s = done s (s.instr l (fun (s : State) _ => s.accOp l p g)))
      (hg : ∀ c v, g c v = c.accSet (f c.acc.toInt v)) :
      exec (i l) s = done s (s.instr l (fun (s : State) _ => s.accOp l p (fun c v => c.accSet (f c.acc.toInt v)))) := by
    rw [he, show g = fun c v => c.accSet (f c.acc.toInt v) from funext fun c => funext (hg c)]
  cases h with
  | clra | adda | addal | nega | asla => rfl
  | macs | msus | macsi | msusi =>
    exact same rfl fun c v => by simp [Core.accAdd, product, sub_eq_add_neg, mul_assoc]
  | mpys | mpysi => exact same rfl fun c v => by simp [product, mul_assoc]
  | lda => exact same rfl fun c v => c.loadAcc_eq _ _
  | asra sh => exact same rfl fun c v => c.asra_eq _

theorem done_accSet {s : State} {l p : Nat} (f : Int → List Word → Int) (h : s.Ready l) (hh : s.Handy l false p 0) :
    let x := f (s.core l).acc.toInt ((s.held l false).take p)
    done s (s.instr l (fun (s : State) _ => s.accOp l p (fun c v => c.accSet (f c.acc.toInt v)))) =
      .next (s.setCore l (s.restack l false p [] { s.next l with acc := BitVec.ofInt 72 x, stw := stwAfter (s.core l).stw x })) := by
  intro x
  refine done_coreOp (x := (s.core l).x) (y := (s.core l).y) h hh (fun c hw ha hx hy => ?_) (stwAfter_world _ x) (stwAfter_level _ x)
  simp only [Core.accSet_eq, hw, ha, x, ← hx, ← hy]

/-! ### One accumulation through X and Y -/

section
variable {s : State} {l : Nat} {frac sub : Bool}

/-- `c` is core `l` of `s` but for PC, ACC, X, Y, the sticky bits of STW and a fault in progress: what an accumulation may change and
what it does not look at. -/
def State.MacLike (s : State) (l : Nat) (c : Core) : Prop :=
  c = { s.core l with pc := c.pc, stw := c.stw, x := c.x, y := c.y, acc := c.acc, fault := c.fault } ∧
    stwWORLD.get c.stw = stwWORLD.get (s.core l).stw ∧ stwRING.get c.stw = stwRING.get (s.core l).stw ∧
    stwIML.get c.stw = stwIML.get (s.core l).stw

theorem State.macLike_next (s : State) (l : Nat) : s.MacLike l (s.next l) := ⟨rfl, rfl, rfl, rfl⟩

theorem State.MacLike.pc {c : Core} (h : s.MacLike l c) (v : Word) : s.MacLike l { c with pc := v } := by
  obtain ⟨hc, hw, hr, hi⟩ := h
  exact ⟨by rw [hc], hw, hr, hi⟩

theorem State.MacLike.step {c d : Core} (h : s.MacLike l c) (hd : s.MacStep l frac sub c d) : s.MacLike l d := by
  obtain ⟨hc, hw, hr, hi⟩ := h
  obtain ⟨-, -, xa, ya, -, -, rfl⟩ := hd
  exact ⟨by rw [hc], (stwAfter_world _ _).trans hw, (stwAfter_ring _ _).trans hr, (stwAfter_level _ _).trans hi⟩

theorem State.MacLike.steps {n : Nat} {c d : Core} (h : s.MacLike l c) (hd : s.MacSteps l frac sub n c d) : s.MacLike l d := by
  induction hd with
  | zero => exact h
  | succ first _ ih => exact ih (h.step first)

/-- PC is of no concern to an accumulation. -/
theorem State.MacStep.pc {c d : Core} (h : s.MacStep l frac sub c d) (v : Word) :
    s.MacStep l frac sub { c with pc := v } { d with pc := v } := by
  obtain ⟨hx, hy, xa, ya, hxa, hya, rfl⟩ := h
  exact ⟨hx, hy, xa, ya, hxa, hya, rfl⟩

theorem State.MacSteps.pc {n : Nat} {c d : Core} (h : s.MacSteps l frac sub n c d) (v : Word) :
    s.MacSteps l frac sub n { c with pc := v } { d with pc := v } := by
  induction h with
  | zero => exact .zero _
  | succ first _ ih => exact .succ (first.pc v) ih

/-- The top entry of the return stack is of no concern to it either. -/
theorem State.MacStep.restack {c d : Core} (h : s.MacStep l frac sub c d) (r : Bool) (p : Nat) (vs : List Word) :
    s.MacStep l frac sub (s.restack l r p vs c) (s.restack l r p vs d) := by
  obtain ⟨hx, hy, xa, ya, hxa, hya, rfl⟩ := h
  refine ⟨by rwa [State.x_restack], by rwa [State.y_restack], xa, ya, by rwa [State.x_restack], by rwa [State.y_restack], ?_⟩
  simp only [State.x_restack, State.y_restack, State.acc_restack, State.stw_restack]
  exact State.restack_regs ..

/-- The machine makes the accumulation. -/
theorem State.macPair_of_step {c d : Core} (h : s.MacStep l frac sub c d) (hg : c.guard = (s.core l).guard)
    (hr : c.ring = (s.core l).ring) (hs : c.sb = (s.core l).sb) : (s.setCore l c).macPair l frac sub = .ok (s.setCore l d) () := by
  obtain ⟨hx, hy, xa, ya, hxa, hya, rfl⟩ := h
  have hx' := (State.loads_setCore hg hr hs).2 hx
  have hy' := (State.loads_setCore hg hr hs).2 hy
  have lx := hx'.loadAt (.inr (.inr rfl))
  have ly := hy'.loadAt (.inr (.inr rfl))
  have hlim : c.x.a.toNat + 4 ≤ 0x40000000 := hx.right.left
  have hper : (targetOf c.x.a.toNat == some .periph) = false := beq_false_of_ne (targetOf_ne_periph (by omega))
  unfold State.macPair
  simp only [State.setCore_core_self, hx'.1, hy'.1, hper, Bool.false_eq_true, if_false, show firstOf [none, none] = none from rfl,
    State.guardBy, Out.bind, lx, ly, State.stepReg, if_true, State.setCore_setCore, State.value_setCore]
  have sum (u v : Word) : c.acc.toInt + (if sub then -product frac u v else product frac u v) =
      if sub then c.acc.toInt - (if frac then 2 else 1) * u.toInt * v.toInt
      else c.acc.toInt + (if frac then 2 else 1) * u.toInt * v.toInt := by
    cases sub <;> simp [product, mul_assoc, sub_eq_add_neg]
  simp only [← hxa.eq_stepped, ← hya.eq_stepped, Core.accAdd, Core.accSet_eq, sum]
  rfl

end

/-! ### The top entry of a handy stack, and the entry that stands for it -/

section
variable {s : State} {l : Nat} {r : Bool} {c e : Core}

/-- One entry taken and one pushed again, once or twice. -/
theorem State.restack_restack_one (s : State) (l : Nat) (r : Bool) (v : Word) (vs : List Word) (c : Core) :
    s.restack l r 1 vs (s.restack l r 1 [v] c) = s.restack l r 1 vs c := by
  unfold State.restack
  by_cases hb : s.inLesson l = true
  · simp only [hb, if_true, Core.bellStack_setBell, Core.setBell_setBell, List.reverse_singleton, List.singleton_append, List.drop_succ_cons,
      List.drop_zero]
  · simp only [hb, if_false, Bool.false_eq_true, Core.sp_setSp, Core.chip_setSp, Core.chip_setChip, Core.setChip_setSp_setChip_setSp,
      pushedOn, List.drop_succ_cons, List.drop_zero, List.length_singleton, Nat.mul_one, BitVec.sub_add_cancel]

/-- A stack whose top entry has been replaced is as handy as before. -/
theorem State.handy_restack_one {v : Word} (h : (s.setCore l c).Handy l r 1 0) : (s.setCore l (s.restack l r 1 [v] c)).Handy l r 1 0 := by
  unfold State.Handy at h ⊢
  simp only [State.setCore_inLesson, State.setCore_core_self] at h ⊢
  by_cases hb : s.inLesson l = true
  · simp only [hb, if_true] at h ⊢
    simp only [State.restack, hb, if_true, Core.bellStack_setBell]
    simp only [List.reverse_singleton, List.singleton_append, List.length_cons, List.length_drop]
    omega
  · have hbounds : (s.restack l r 1 [v] c).base r = c.base r ∧ (s.restack l r 1 [v] c).lim r = c.lim r ∧
        (s.restack l r 1 [v] c).sp r = c.sp r ∧ (s.restack l r 1 [v] c).chip r =
          { home := c.sp r, val := v, own := (s.contexts l).length } :: (c.chip r).drop 1 := by
      cases r <;> simp [State.restack, hb, pushedOn, Core.setChip, Core.setSp, Core.sp, Core.chip, Core.base, Core.lim]
    obtain ⟨hbase, hlim, hsp, hchip⟩ := hbounds
    simp only [hb, if_false, Bool.false_eq_true] at h ⊢
    rw [hbase, hlim, hsp, hchip]
    obtain ⟨h0, h1, h2, h3, h4⟩ := h
    refine ⟨h0, h1, h2, ?_, ?_⟩
    · simp [upFrom, homeAt]
    · simp only [List.length_cons, List.length_drop]
      have := congrArg List.length h3
      simp only [List.length_map, List.length_take, upFrom] at this
      omega

/-- `e` is `c`, but that the top entry of the return stack may have been replaced. -/
def State.Topped (s : State) (l : Nat) (c e : Core) : Prop := e = c ∨ ∃ v, e = s.restack l true 1 [v] c

theorem State.Topped.restack (h : s.Topped l c e) (vs : List Word) : s.restack l true 1 vs e = s.restack l true 1 vs c := by
  obtain rfl | ⟨v, rfl⟩ := h
  · rfl
  · exact State.restack_restack_one ..

theorem State.MacLike.handy (h : s.MacLike l c) (hh : s.Handy l true 1 0) : (s.setCore l c).Handy l true 1 0 := by
  have hc := h.1
  refine (State.handy_setCore ?_ ?_ ?_ ?_ ?_).2 hh <;> rw [hc] <;> rfl

theorem State.Topped.handy (h : s.Topped l c e) (hc : s.MacLike l c) (hh : s.Handy l true 1 0) : (s.setCore l e).Handy l true 1 0 := by
  obtain rfl | ⟨v, rfl⟩ := h
  · exact hc.handy hh
  · exact State.handy_restack_one (hc.handy hh)

theorem State.Topped.popN (h : s.Topped l c e) (hc : s.MacLike l c) (hh : s.Handy l true 1 0) :
    (s.setCore l e).popN l true 1 = s.setCore l (s.restack l true 1 [] c) := by
  rw [State.popN_handy (h.handy hc hh), State.setCore_setCore, State.setCore_core_self, State.restack_setCore, h.restack]

theorem State.Topped.setTop (h : s.Topped l c e) (hc : s.MacLike l c) (hh : s.Handy l true 1 0) (v : Word) :
    (s.setCore l e).setTop l true v = s.setCore l (s.restack l true 1 [v] c) := by
  rw [State.setTop_handy (h.handy hc hh), State.setCore_setCore, State.setCore_core_self, State.restack_setCore, h.restack]

/-- An accumulation leaves the return stack as it is. -/
theorem State.Topped.macPair {d : Core} {frac sub : Bool} (h : s.Topped l c e) (hc : s.MacLike l c) (hd : s.MacStep l frac sub c d) :
    ∃ e', s.Topped l d e' ∧ (s.setCore l e).macPair l frac sub = .ok (s.setCore l e') () := by
  obtain ⟨heq, hw, hr, -⟩ := hc
  have hguard : c.guard = (s.core l).guard := by rw [Core.guard, hw, Core.guard]
  have hsb : c.sb = (s.core l).sb := by rw [heq]
  obtain rfl | ⟨v, rfl⟩ := h
  · exact ⟨d, .inl rfl, State.macPair_of_step hd hguard hr hsb⟩
  · exact ⟨_, .inr ⟨v, rfl⟩, State.macPair_of_step (hd.restack true 1 [v]) (by rwa [State.guard_restack])
      (by rw [State.ring_restack]; exact hr) (by rwa [State.sb_restack])⟩

/-! ### As many accumulations as the return stack says -/

/-- All iterations are made: no delivery stops them before the last. -/
theorem State.macLoop_runs {n : Nat} {c d e : Core} {frac sub : Bool} {a : Word} (hsteps : s.MacSteps l frac sub n c d)
    (he : s.Topped l c e) (hc : s.MacLike l c) (hh : s.Handy l true 1 0) {stop : Option Nat}
    (hstop : ∀ j, stop = some j → j = 0 ∨ n ≤ j) :
    State.macLoop l frac sub a n stop (s.setCore l e) = .ok (s.setCore l (s.restack l true 1 [] d)) true := by
  induction hsteps generalizing e stop with
  | zero c => rw [State.macLoop, he.popN hc hh]
  | @succ n c d f first rest ih =>
    obtain ⟨e', he', hpair⟩ := he.macPair hc first
    have hgo : (stop == some 1 && n != 0) = false := by
      by_contra hgo
      rw [Bool.not_eq_false, Bool.and_eq_true, beq_iff_eq, bne_iff_ne] at hgo
      have := hstop 1 hgo.1
      omega
    rw [State.macLoop, hpair]
    simp only [Out.bind, he'.setTop (hc.step first) hh, hgo, Bool.false_eq_true, if_false]
    refine ih (.inr ⟨_, rfl⟩) (hc.step first) fun j hj => ?_
    obtain ⟨k, hk, rfl⟩ := Option.map_eq_some_iff.1 hj
    have := hstop k hk
    omega

/-- A delivery committed after `j` iterations suspends the rest. -/
theorem State.macLoop_stops {j : Nat} {c d e : Core} {frac sub : Bool} {a : Word} (hsteps : s.MacSteps l frac sub j c d)
    (he : s.Topped l c e) (hc : s.MacLike l c) (hh : s.Handy l true 1 0) {n : Nat} (h0 : 0 < j) (hj : j < n) :
    State.macLoop l frac sub a n (some j) (s.setCore l e) =
      .ok ((s.setCore l (s.restack l true 1 [BitVec.ofNat 32 (n - j)] { d with pc := a })).longCount l R.LONGCNT_MACNBRK) false := by
  induction hsteps generalizing e n with
  | zero => exact absurd h0 (Nat.lt_irrefl 0)
  | @succ j c d f first rest ih =>
    obtain ⟨m, rfl⟩ : ∃ m, n = m + 1 := ⟨n - 1, by omega⟩
    obtain ⟨e', he', hpair⟩ := he.macPair hc first
    rw [State.macLoop, hpair]
    simp only [Out.bind, he'.setTop (hc.step first) hh]
    cases rest with
    | zero =>
      have hstop : (some (0 + 1) == some 1 && m != 0) = true := by
        rw [Bool.and_eq_true, bne_iff_ne]
        exact ⟨rfl, by omega⟩
      rw [if_pos hstop, State.setPc_setCore, ← State.restack_pc s l true 1 [w32 m] d a]
      rfl
    | @succ k _ _ _ second rest =>
      have hgo : ¬((some (k + 1 + 1) == some 1 && m != 0) = true) := by
        rw [Bool.and_eq_true, beq_iff_eq, Option.some.injEq]
        omega
      rw [if_neg hgo]
      have := ih (.inr ⟨w32 m, rfl⟩) (hc.step first) (Nat.succ_pos k) (n := m) (by omega)
      rw [show m + 1 - (k + 1 + 1) = m - (k + 1) by omega]
      exact this

end

/-! ### The instructions -/

section
variable {s : State} {l : Nat}

/-- An instruction that is ready is carried out by its own part, and when it retires it ends the protection of R295. -/
theorem State.instrB_ok {t : State} {f : State → Word → Out Bool} {b : Bool} (h : s.Ready l)
    (hf : f (s.setPc l ((s.core l).pc + 2)) (s.core l).pc = .ok t b) :
    s.instrB l f = if b then t.setCore l { t.core l with fault := none } else t := by
  unfold State.instrB
  simp only [h.1, State.fetch_ok h.2, hf, Bool.not_true, Bool.false_eq_true, if_false]

theorem State.MacLike.of_fault {c : Core} (h : s.MacLike l c) (v : Option FirstFault) : s.MacLike l { c with fault := v } := by
  obtain ⟨hc, hw, hr, hi⟩ := h
  exact ⟨by rw [hc], hw, hr, hi⟩

/-- What a core that accumulations have changed answers. -/
theorem State.MacLike.answers {c : Core} (h : s.MacLike l c) :
    c.guard = (s.core l).guard ∧ stwIML.get c.stw = stwIML.get (s.core l).stw ∧ c.shopHalted = (s.core l).shopHalted := by
  obtain ⟨hc, hw, -, hi⟩ := h
  exact ⟨by rw [Core.guard, hw, Core.guard], hi, by rw [hc]⟩

/-- Neither PC nor a fault in progress changes. -/
theorem State.MacSteps.kept {n : Nat} {c d : Core} {frac sub : Bool} (h : s.MacSteps l frac sub n c d) :
    d.pc = c.pc ∧ d.fault = c.fault := by
  induction h with
  | zero => exact ⟨rfl, rfl⟩
  | succ first _ ih =>
    obtain ⟨-, -, xa, ya, -, -, rfl⟩ := first
    exact ih

theorem State.MacSteps.fault {n : Nat} {c d : Core} {frac sub : Bool} (h : s.MacSteps l frac sub n c d) (v : Option FirstFault) :
    s.MacSteps l frac sub n { c with fault := v } { d with fault := v } := by
  induction h with
  | zero => exact .zero _
  | succ first _ ih =>
    obtain ⟨hx, hy, xa, ya, hxa, hya, rfl⟩ := first
    exact .succ ⟨hx, hy, xa, ya, hxa, hya, rfl⟩ ih

/-- The core at A + 2 with the fault that is in progress, from which the machine accumulates. -/
theorem State.MacSteps.ofNext {n : Nat} {d : Core} {frac sub : Bool} (h : s.MacSteps l frac sub n (s.next l) d) :
    s.MacSteps l frac sub n { s.core l with pc := (s.core l).pc + 2 } { d with fault := (s.core l).fault } := h.fault _

variable {frac sub : Bool}

theorem done_macPair {d : Core} (h : s.Ready l) (hd : s.MacStep l frac sub (s.next l) d) :
    done s (s.instr l (fun (s : State) _ => s.macPair l frac sub)) = .next (s.setCore l d) := by
  have one := State.MacSteps.succ hd (.zero d)
  have hlike := ((s.macLike_next l).steps one).of_fault (s.core l).fault
  obtain ⟨hguard, hlevel, hshop⟩ := hlike.answers
  obtain ⟨-, hfault⟩ := one.kept
  have start : s.MacStep l frac sub { s.core l with pc := (s.core l).pc + 2 } { d with fault := (s.core l).fault } := by
    cases one.ofNext with
    | succ first rest => cases rest; exact first
  rw [done_instr h (State.macPair_of_step start rfl rfl rfl) hguard hlevel hshop]
  change _ = Host.Outcome.next (s.setCore l d)
  rw [show (none : Option FirstFault) = d.fault from hfault.symm]

theorem done_macn {d : Core} {n : Nat} {stop : Option Nat} (h : s.Ready l) (hh : s.Handy l true 1 0)
    (hn : (wAt (s.held l true) 0).toNat = n) (hd : s.MacSteps l frac sub n (s.next l) d) (hstop : ∀ j, stop = some j → j = 0 ∨ n ≤ j) :
    done s (s.instrB l (fun (s : State) a => s.macn l frac sub a stop)) = .next (s.setCore l (s.restack l true 1 [] d)) := by
  have hlike := ((s.macLike_next l).steps hd).of_fault (s.core l).fault
  obtain ⟨hguard, hlevel, hshop⟩ := hlike.answers
  obtain ⟨-, hfault⟩ := hd.kept
  have hh' := (State.handy_setPc (v := (s.core l).pc + 2)).mpr hh
  have loop : (s.setPc l ((s.core l).pc + 2)).macn l frac sub (s.core l).pc stop =
      .ok (s.setCore l (s.restack l true 1 [] { d with fault := (s.core l).fault })) true := by
    rw [State.macn, State.prepare_handy hh']
    simp only [Out.bind, State.held_setPc, wAt_take Nat.zero_lt_one, hn]
    exact State.macLoop_runs hd.ofNext (.inl rfl) ((s.macLike_next l).of_fault (s.core l).fault) hh hstop
  rw [State.instrB_ok h loop, if_pos rfl, State.setCore_core_self, State.setCore_setCore, ← State.restack_fault]
  change done s (s.setCore l (s.restack l true 1 [] { d with fault := none })) = _
  rw [show (none : Option FirstFault) = d.fault from hfault.symm]
  exact done_setCore (by rwa [State.guard_restack]) (by rwa [State.stw_restack]) (by rwa [State.shopHalted_restack])

theorem done_macn_stopped {d : Core} {n j : Nat} (h : s.Ready l) (hh : s.Handy l true 1 0) (hn : (wAt (s.held l true) 0).toNat = n)
    (h0 : 0 < j) (hj : j < n) (hd : s.MacSteps l frac sub j (s.core l) d) :
    done s (s.instrB l (fun (s : State) a => s.macn l frac sub a (some j))) =
      .next ((s.setCore l (s.restack l true 1 [BitVec.ofNat 32 (n - j)] d)).longCount l R.LONGCNT_MACNBRK) := by
  have hself : s.MacLike l (s.core l) := ⟨rfl, rfl, rfl, rfl⟩
  obtain ⟨hguard, hlevel, hshop⟩ := (hself.steps hd).answers
  obtain ⟨hpc, -⟩ := hd.kept
  have hh' := (State.handy_setPc (v := (s.core l).pc + 2)).mpr hh
  have loop : (s.setPc l ((s.core l).pc + 2)).macn l frac sub (s.core l).pc (some j) =
      .ok ((s.setCore l (s.restack l true 1 [BitVec.ofNat 32 (n - j)] { d with pc := (s.core l).pc })).longCount l
        R.LONGCNT_MACNBRK) false := by
    rw [State.macn, State.prepare_handy hh']
    simp only [Out.bind, State.held_setPc, wAt_take Nat.zero_lt_one, hn]
    exact State.macLoop_stops (hd.pc _) (.inl rfl) (hself.pc _) hh h0 hj
  rw [State.instrB_ok h loop, if_neg Bool.false_ne_true]
  change done s ((s.setCore l (s.restack l true 1 [BitVec.ofNat 32 (n - j)] { d with pc := (s.core l).pc })).longCount l _) = _
  rw [← hpc]
  exact done_longCount h.1 (by rwa [State.guard_restack]) (by rwa [State.stw_restack]) (by rwa [State.shopHalted_restack]) _

end

/-- Settles O6, by the rows of ACC and by the loop of the accumulations through X and Y. -/
theorem accumulatorInstructions : Obligations.AccumulatorInstructions := by
  unfold Obligations.AccumulatorInstructions
  refine ⟨fun i p f row s l h hh => ?_, fun s l frac sub one many h hm => ?_⟩
  · rw [row.exec_eq]
    exact done_accSet f h hh
  · have hone : exec one s = done s (s.instr l (fun (s : State) _ => s.macPair l frac sub)) ∧
        ∀ stop, exec (many stop) s = done s (s.instrB l (fun (s : State) a => s.macn l frac sub a stop)) := by
      simp only [List.mem_cons, Prod.mk.injEq, List.not_mem_nil, or_false] at hm
      rcases hm with ⟨rfl, rfl, rfl, rfl⟩ | ⟨rfl, rfl, rfl, rfl⟩ | ⟨rfl, rfl, rfl, rfl⟩ | ⟨rfl, rfl, rfl, rfl⟩ <;>
        exact ⟨rfl, fun _ => rfl⟩
    obtain ⟨eone, emany⟩ := hone
    refine ⟨fun d hd => eone.trans (done_macPair h hd), fun hh => ⟨fun d stop hd hstop => ?_, fun d j h0 hj hd => ?_⟩⟩
    · exact (emany stop).trans (done_macn h hh rfl hd hstop)
    · exact (emany (some j)).trans (done_macn_stopped h hh rfl h0 hj hd)

end Sys2Proof.Machine
end

section
/-! PROOF of O9. Loads push the value of their bytes, stores enter the store buffer (R238, R269), also through X and Y (R239). -/

namespace Sys2Proof.Machine

/-! ### Sizes and extensions (R209) -/

theorem Size.bytes_cases (z : Size) : z.bytes = 1 ∨ z.bytes = 2 ∨ z.bytes = 4 := by
  cases z <;> decide

theorem extended_zero {n v : Nat} (h : v < 2 ^ (8 * n)) : extended false n v = BitVec.ofNat 32 v := by
  rw [extended, if_neg Bool.false_ne_true, Nat.mod_eq_of_lt h, w32]

theorem extended_signed {n : Nat} (v : Nat) (h0 : 0 < n) (h : n ≤ 4) :
    extended true n v = ((BitVec.ofNat 32 v).truncate (8 * n)).signExtend 32 := by
  have hw : (BitVec.ofNat 32 v).truncate (8 * n) = BitVec.ofNat (8 * n) v := BitVec.setWidth_ofNat_of_le (by omega) v
  have hs : sx (8 * n) v = (BitVec.ofNat (8 * n) v).toInt := by
    rw [← sx_toNat _ (show 0 < 8 * n by omega), BitVec.toNat_ofNat, sx, sx, Nat.mod_mod]
  rw [extended, if_pos rfl, hs, hw, wordOf_toInt]

/-! ### Accesses -/

section
variable {s : State} {l a n : Nat}

/-- The first check of an access is that of its privilege. -/
theorem State.privFault_of_dataFault {w : Who} {k : AccKind} {v : Word} (h : s.dataFault w k a n v = none) :
    s.privFault w a n (k == .write) v = none :=
  firstOf_eq_none h _ (by simp)

/-- A store that is permitted enters the store buffer. -/
theorem State.Stores.storeOp {v : Word} (h : s.Stores l a n v) :
    s.storeOp (s.who l) a n v = .ok (s.setCore l { s.core l with sb := (s.core l).sb ++ [s.entryOf l a n v] }) () := by
  obtain ⟨hf, hal, -, hroom⟩ := h
  have hval : v.toNat % 2 ^ (8 * n) % 2 ^ (8 * n) = v.toNat % 256 ^ n := by
    rw [Nat.mod_mod, Nat.pow_mul]
  have hsplit : splitAt a n = [(a, n)] := by rw [splitAt, if_pos hal]
  rw [State.storeOp, hf, State.guardBy]
  simp only [Out.bind, hsplit, State.storeParts, State.sbPush, State.who, hroom, if_true, hval]
  rfl

/-- What a store asks of its core: the world, the ring and the store buffer. -/
theorem State.stores_setCore {v : Word} {c : Core} (hg : c.guard = (s.core l).guard) (hr : c.ring = (s.core l).ring)
    (hs : c.sb = (s.core l).sb) : (s.setCore l c).Stores l a n v ↔ s.Stores l a n v := by
  have hw : (s.setCore l c).who l = s.who l := by simp [State.who, hg, hr]
  have hd : (s.setCore l c).dataFault (s.who l) .write a n v = s.dataFault (s.who l) .write a n v := rfl
  unfold State.Stores
  rw [hw, hd, State.setCore_core_self, hs]

theorem State.entryOf_setCore {v : Word} {c : Core} (hg : c.guard = (s.core l).guard) (hr : c.ring = (s.core l).ring) :
    (s.setCore l c).entryOf l a n v = s.entryOf l a n v := by
  rw [State.entryOf, State.entryOf, State.setCore_core_self, hg, hr]
  rfl

@[simp] theorem State.stores_setPc {u v : Word} : (s.setPc l u).Stores l a n v ↔ s.Stores l a n v :=
  State.stores_setCore (c := { s.core l with pc := u }) rfl rfl rfl

@[simp] theorem State.entryOf_setPc (u v : Word) : (s.setPc l u).entryOf l a n v = s.entryOf l a n v :=
  State.entryOf_setCore (c := { s.core l with pc := u }) rfl rfl

/-! ### LD and ST -/

theorem done_ld {signed : Bool} {off : Nat} (h : s.Ready l) (hn : n = 1 ∨ n = 2 ∨ n = 4) (hh : s.Handy l false 1 1)
    (ha : offsetAddr (wAt (s.held l false) 0) off n = a) (hl : s.Loads l a n) :
    done s (s.instr l (fun (s : State) _ => s.ldOp l signed n off)) =
      .next (s.setCore l (s.restack l false 1 [extended signed n (s.value l n a)] (s.next l))) := by
  refine done_restack h ?_
  have hh' := (State.handy_setPc (v := (s.core l).pc + 2)).mpr hh
  have hl' := (State.loads_setPc (v := (s.core l).pc + 2)).2 hl
  simp only [State.ldOp, State.prepare_handy hh', State.held_setPc, wAt_take Nat.zero_lt_one, ha, Out.bind, hl'.load hn, State.value_setPc,
    State.setTop_handy hh', State.restack_setPc, State.setPc_core, State.setCore_setPc]

theorem done_st {off : Nat} (h : s.Ready l) (hh : s.Handy l false 2 0) (ha : offsetAddr (wAt (s.held l false) 0) off n = a)
    (hs : s.Stores l a n (wAt (s.held l false) 1)) :
    done s (s.instr l (fun (s : State) _ => s.stOp l n off)) =
      .next (s.setCore l (s.restack l false 2 []
        { s.next l with sb := (s.core l).sb ++ [s.entryOf l a n (wAt (s.held l false) 1)] })) := by
  refine done_next (g := fun c => s.restack l false 2 [] { c with sb := (s.core l).sb ++ [s.entryOf l a n (wAt (s.held l false) 1)] }) h ?_
    (fun c => (State.restack_fault ..).symm) (fun c => by simp) (fun c => by simp)
  have hh' := (State.handy_setPc (v := (s.core l).pc + 2)).mpr hh
  have hs' := (State.stores_setPc (u := (s.core l).pc + 2)).2 hs
  have hh'' (q : List SbEntry) : (s.setCore l { s.core l with pc := (s.core l).pc + 2, sb := q }).Handy l false 2 0 :=
    (State.handy_setCore (c := { s.core l with pc := (s.core l).pc + 2, sb := q }) rfl rfl rfl rfl rfl).2 hh
  simp only [State.stOp, State.prepare_handy hh', State.held_setPc, wAt_take Nat.zero_lt_two, wAt_take Nat.one_lt_two, ha, Out.bind,
    hs'.storeOp, State.entryOf_setPc, State.setPc_core, State.setCore_setPc, State.popN_handy (hh'' _), State.setCore_core_self, State.setCore_setCore,
    State.restack_setCore]

/-! ### Through X and Y -/

/-- A step moves the address alone. -/
theorem Xreg.stepped_eq (x : Xreg) (e : Nat) : x.stepped e = { x with a := (x.stepped e).a } := by
  unfold Xreg.stepped
  rfl

theorem State.stepReg_eq (s : State) (l : Nat) (y : Bool) (e : Nat) :
    s.stepReg l y e = s.setCore l ((s.core l).steppedTo y (((s.core l).through y).stepped e).a) := by
  cases y
  · simp only [State.stepReg, Core.steppedTo, Core.through, Bool.false_eq_true, if_false]
    rw [← Xreg.stepped_eq]
  · simp only [State.stepReg, Core.steppedTo, Core.through, if_true]
    rw [← Xreg.stepped_eq]

/-! The address of X or Y is of no concern to the frame of an instruction. -/

theorem Core.steppedTo_fault (c : Core) (y : Bool) (v : Word) (f : Option FirstFault) :
    { c with fault := f }.steppedTo y v = { c.steppedTo y v with fault := f } := by
  cases y <;> rfl

@[simp] theorem Core.stw_steppedTo (c : Core) (y : Bool) (v : Word) : (c.steppedTo y v).stw = c.stw := by cases y <;> rfl
@[simp] theorem Core.shopHalted_steppedTo (c : Core) (y : Bool) (v : Word) : (c.steppedTo y v).shopHalted = c.shopHalted := by
  cases y <;> rfl

theorem Core.steppedTo_sb (c : Core) (y : Bool) (v : Word) (q : List SbEntry) :
    { c with sb := q }.steppedTo y v = { c.steppedTo y v with sb := q } := by
  cases y <;> rfl

theorem Core.through_pc_sb (c : Core) (y : Bool) (v : Word) (q : List SbEntry) : { c with pc := v, sb := q }.through y = c.through y := by
  cases y <;> rfl

theorem State.through_setPc (s : State) (l : Nat) (v : Word) (y : Bool) : ((s.setPc l v).core l).xreg y = (s.core l).through y := by
  rw [State.setPc_core]
  rfl

theorem done_ldx {y signed : Bool} (h : s.Ready l) (hn : n = 1 ∨ n = 2 ∨ n = 4) (hh : s.Handy l false 0 1)
    (hl : s.Loads l ((s.core l).through y).a.toNat n) :
    done s (s.instr l (fun (s : State) _ => s.ldxOp l y signed n)) =
      .next (s.setCore l (s.restack l false 0 [extended signed n (s.value l n ((s.core l).through y).a.toNat)]
        ((s.next l).steppedTo y (((s.core l).through y).stepped n).a))) := by
  refine done_next (g := fun c => s.restack l false 0 [extended signed n (s.value l n ((s.core l).through y).a.toNat)]
      (c.steppedTo y (((s.core l).through y).stepped n).a)) h ?_ (fun c => ?_) (fun c => ?_) (fun c => ?_)
  · have hh' := (State.handy_setPc (v := (s.core l).pc + 2)).mpr hh
    have hl' := (State.loads_setPc (v := (s.core l).pc + 2)).2 hl
    have hpriv := State.privFault_of_dataFault hl'.1
    have hthrough : (s.setPc l ((s.core l).pc + 2)).stepReg l y n = s.setCore l
        ({ s.core l with pc := (s.core l).pc + 2 }.steppedTo y (((s.core l).through y).stepped n).a) := by
      rw [State.stepReg_eq, State.setPc_core, State.setCore_setPc]
      rfl
    rw [show (AccKind.read == AccKind.write) = false from rfl] at hpriv
    simp only [State.ldxOp, State.through_setPc, hpriv, State.guardBy, Out.bind, State.prepare_handy hh', hl'.load hn, State.value_setPc, hthrough,
      State.push_restack, State.setCore_core_self, State.setCore_setCore, State.restack_setCore]
  · exact (State.restack_fault ..).symm.trans (congrArg _ (Core.steppedTo_fault ..).symm)
  · rw [State.stw_restack, Core.stw_steppedTo]
  · rw [State.shopHalted_restack, Core.shopHalted_steppedTo]

theorem done_stx {y : Bool} (h : s.Ready l) (hh : s.Handy l false 1 0)
    (hs : s.Stores l ((s.core l).through y).a.toNat n (wAt (s.held l false) 0)) :
    done s (s.instr l (fun (s : State) _ => s.stxOp l y n)) =
      .next (s.setCore l (s.restack l false 1 []
        { (s.next l).steppedTo y (((s.core l).through y).stepped n).a with
          sb := (s.core l).sb ++ [s.entryOf l ((s.core l).through y).a.toNat n (wAt (s.held l false) 0)] })) := by
  rw [← Core.steppedTo_sb]
  refine done_next (g := fun c => s.restack l false 1 []
      ({ c with sb := (s.core l).sb ++ [s.entryOf l ((s.core l).through y).a.toNat n (wAt (s.held l false) 0)] }.steppedTo y
        (((s.core l).through y).stepped n).a)) h ?_ (fun c => ?_) (fun c => ?_) (fun c => ?_)
  · have hh' := (State.handy_setPc (v := (s.core l).pc + 2)).mpr hh
    have hs' := (State.stores_setPc (u := (s.core l).pc + 2)).2 hs
    have hpriv := State.privFault_of_dataFault hs'.1
    rw [show (AccKind.write == AccKind.write) = true from rfl] at hpriv
    have htop : wAt ((s.setPc l ((s.core l).pc + 2)).tops l false 1) 0 = wAt (s.held l false) 0 := by
      rw [State.tops_handy hh', State.held_setPc, wAt_take Nat.zero_lt_one]
    have hh'' (q : List SbEntry) (v : Word) :
        (s.setCore l ({ s.core l with pc := (s.core l).pc + 2, sb := q }.steppedTo y v)).Handy l false 1 0 := by
      refine (State.handy_setCore ?_ ?_ ?_ ?_ ?_).2 hh <;> cases y <;> rfl
    unfold State.stxOp
    rw [State.through_setPc]
    simp only [htop, hpriv, State.guardBy, Out.bind, State.prepare_handy hh', State.held_setPc,
      wAt_take Nat.zero_lt_one, hs'.storeOp, State.entryOf_setPc, State.setPc_core, State.setCore_setPc, State.stepReg_eq,
      State.setCore_core_self, State.setCore_setCore, Core.through_pc_sb, State.popN_handy (hh'' _ _), State.restack_setCore]
  · exact (State.restack_fault ..).symm.trans (congrArg _ (Core.steppedTo_fault ..).symm)
  · rw [State.stw_restack, Core.stw_steppedTo]
  · rw [State.shopHalted_restack, Core.shopHalted_steppedTo]

end

/-- Settles O9: loads and stores at an offset, then those through X and Y. -/
theorem loadsAndStores : Obligations.LoadsAndStores := by
  unfold Obligations.LoadsAndStores
  refine ⟨fun s l z off h => ?_, fun s l y z h => ?_⟩
  · intro n a
    have hn : n = 1 ∨ n = 2 ∨ n = 4 := Size.bytes_cases z
    refine ⟨fun hh hl => ⟨?_, ?_⟩, fun hh hs => done_st h hh rfl hs⟩
    · rw [← extended_signed _ (by omega) (by omega)]
      exact done_ld h hn hh rfl hl
    · rw [← extended_zero (s.value_lt l n a)]
      exact done_ld h hn hh rfl hl
  · intro n x
    have hn : n = 1 ∨ n = 2 ∨ n = 4 := Size.bytes_cases z
    refine ⟨_, isStepped_stepped x n, fun hh hl => ⟨?_, ?_⟩, fun hh hs => done_stx h hh hs⟩
    · rw [← extended_signed _ (by omega) (by omega)]
      exact done_ldx h hn hh hl
    · rw [← extended_zero (s.value_lt l n _)]
      exact done_ldx h hn hh hl

end Sys2Proof.Machine
end

section
/-! SUPPORT. The fault of an instruction (R294, R297): its registers, its two words on the return stack, and the vector. -/

namespace Sys2Proof.Machine

/-! ### FSTAT, FADDR and FCNT -/

/-- The registers that a fault of core `l` writes. -/
@[reducible] def fltReg (l a : Nat) : Prop := a = R.FSTATG l ∨ a = R.FADDRG l ∨ a = R.FSTATS l ∨ a = R.FADDRS l ∨ a = R.FCNT l

section
variable {s t u : State} {l a : Nat} {v a' : Word}

theorem State.recordFault_regsAt (s : State) (l : Nat) (f : Flt) (v : Word) : State.RegsAt (fltReg l) s (s.recordFault l f v) := by
  unfold State.recordFault
  refine .ite _ (((Frame.Only.refl.wr _ ?_).wr _ ?_).count _ _ ?_) (((Frame.Only.refl.wr _ ?_).wr _ ?_).count _ _ ?_) <;> simp [fltReg]

/-- What a fault records (R297). -/
theorem State.recordFault_reads (s : State) (l : Nat) (f : Flt) (v : Word) :
    let c := s.core l
    let g := c.guard
    (s.recordFault l f v).rd (if g then R.FSTATG l else R.FSTATS l) =
      w32 (f.kind + 16 * f.cause + 256 * g.toNat + 512 * c.ring + 2048 * f.write.toNat + 4096 * f.rstk.toNat) ∧
    (s.recordFault l f v).rd (if g then R.FADDRG l else R.FADDRS l) = w32 (f.addr.getD v.toNat) ∧
    (s.recordFault l f v).fld (R.FCNT l) (if g then R.FCNT_GUARD else R.FCNT_SHOP) =
      min (2 ^ (if g then R.FCNT_GUARD else R.FCNT_SHOP).w - 1) (s.fld (R.FCNT l) (if g then R.FCNT_GUARD else R.FCNT_SHOP) + 1) := by
  intro c g
  unfold State.recordFault
  cases hg : (s.core l).guard
  · simp only [g, c, hg, Bool.false_eq_true, if_false]
    refine ⟨?_, ?_, ?_⟩
    · rw [State.rd_count_ne _ _ _ (by simp only [R.FSTATS, R.FCNT]; omega),
        State.rd_wr_ne _ _ _ _ (by simp only [R.FSTATS, R.FADDRS]; omega), State.rd_wr_self]
    · rw [State.rd_count_ne _ _ _ (by simp only [R.FADDRS, R.FCNT]; omega), State.rd_wr_self]
    · rw [State.fld_count_self _ _ _ _ (by decide), State.fld_wr_ne _ _ _ (by simp only [R.FADDRS, R.FCNT]; omega),
        State.fld_wr_ne _ _ _ (by simp only [R.FSTATS, R.FCNT]; omega)]
  · simp only [g, c, hg, if_true]
    refine ⟨?_, ?_, ?_⟩
    · rw [State.rd_count_ne _ _ _ (by simp only [R.FSTATG, R.FCNT]; omega),
        State.rd_wr_ne _ _ _ _ (by simp only [R.FSTATG, R.FADDRG]; omega), State.rd_wr_self]
    · rw [State.rd_count_ne _ _ _ (by simp only [R.FADDRG, R.FCNT]; omega), State.rd_wr_self]
    · rw [State.fld_count_self _ _ _ _ (by decide), State.fld_wr_ne _ _ _ (by simp only [R.FADDRG, R.FCNT]; omega),
        State.fld_wr_ne _ _ _ (by simp only [R.FSTATG, R.FCNT]; omega)]

/-! ### What a fault's record leaves of the contexts and the stacks -/

theorem fltReg.not_save {n j : Nat} (hn : n ≤ 8) (hj : j ≤ 15) : ¬fltReg l (saveAddr l n j) := by
  simp only [fltReg, saveAddr, R.SAVE, R.FSTATG, R.FADDRG, R.FSTATS, R.FADDRS, R.FCNT]
  omega

theorem State.RegsAt.contexts_fault (h : State.RegsAt (fltReg l) s t) :
    t.contexts l = s.contexts l ∧ t.inLesson l = s.inLesson l := by
  have save (n j : Nat) (hn : n ≤ 8) (hj : j ≤ 15) : t.rd (saveAddr l n j) = s.rd (saveAddr l n j) := h.rd (fltReg.not_save hn hj)
  have dfsave (j : Nat) : t.rd (R.DFSAVE l j) = s.rd (R.DFSAVE l j) :=
    h.rd (by simp only [fltReg, R.DFSAVE, R.FSTATG, R.FADDRG, R.FSTATS, R.FADDRS, R.FCNT]; omega)
  have df : t.dfAct l = s.dfAct l := by
    rw [State.dfAct, h.fld _ (by simp only [fltReg, R.DFSTAT, R.FSTATG, R.FADDRG, R.FSTATS, R.FADDRS, R.FCNT]; omega), State.dfAct]
  have nmi : t.nmiAct l = s.nmiAct l := by
    rw [State.nmiAct, h.fld _ (by simp only [fltReg, R.NMIPEND, R.FSTATG, R.FADDRG, R.FSTATS, R.FADDRS, R.FCNT]; omega), State.nmiAct]
  have act (n : Nat) (hn : n ≤ 8) : t.saveAct l n = s.saveAct l n := by
    rw [State.saveAct, State.sstat, save n 15 hn le_rfl, State.saveAct, State.sstat]
  have levels : t.levelSets l = s.levelSets l := List.filter_congr fun n hn => act n (by simp at hn; omega)
  have sets (n : Nat) (hn : n ≤ 8) :
      (t.rd (saveAddr l n 2), t.rd (saveAddr l n 3), ssSW.get (t.sstat l n) == 1) =
        (s.rd (saveAddr l n 2), s.rd (saveAddr l n 3), ssSW.get (s.sstat l n) == 1) := by
    rw [save n 2 hn (by omega), save n 3 hn (by omega), State.sstat, save n 15 hn le_rfl, State.sstat]
  refine ⟨?_, ?_⟩
  · unfold State.contexts
    simp only [df, nmi, levels, dfsave, sets nmiSet le_rfl]
    refine congrArg _ (List.map_congr_left fun n hn => sets n ?_)
    have := List.mem_of_mem_filter hn
    simp at this
    omega
  · rw [State.inLesson, State.lessonAct, act bellSet (by decide), nmi]
    rfl

/-- The stacks look at the contexts alone. -/
theorem State.restack_congr (hc : t.contexts l = s.contexts l) (hi : t.inLesson l = s.inLesson l) : t.restack l = s.restack l := by
  unfold State.restack
  rw [hc, hi]

/-- A push alone needs no ring of its own. -/
theorem State.prepare_push {w : Who} {r : Bool} {q : Nat} (h : s.Handy w.id r 0 q) : s.prepare w r 0 q = .ok s [] := by
  have hf := State.stackFault_handy h
  have ht : s.tops w.id r 0 = [] := by rw [State.tops_handy h, List.take_zero]
  unfold State.prepare State.moves
  rw [hf]
  cases hb : s.inLesson w.id
  · have hroom : ((s.core w.id).chip r).length + q ≤ 16 + 0 := by
      simp only [State.Handy, hb, Bool.false_eq_true, if_false] at h
      obtain ⟨-, -, -, -, hroom⟩ := h
      exact hroom
    simp only [hb, State.guardBy, Out.bind, Bool.false_eq_true, if_false, State.fill, State.spill, upFrom, List.all_nil, if_true, hroom, ht]
  · simp only [hb, State.guardBy, Out.bind, if_true, ht]

/-- One more word pushed. -/
theorem State.restack_snoc (s : State) (l : Nat) (r : Bool) (p : Nat) (vs : List Word) (v : Word) (c : Core) :
    s.restack l r 0 [v] (s.restack l r p vs c) = s.restack l r p (vs ++ [v]) c := by
  unfold State.restack
  by_cases hb : s.inLesson l = true
  · simp [hb]
  · simp only [hb, if_false, Bool.false_eq_true, Core.sp_setSp, Core.chip_setSp, Core.chip_setChip, Core.setChip_setSp_setChip_setSp,
      pushedOn_snoc, pushedOn, List.length_append, List.length_singleton, List.drop_zero, words_sub, Nat.mul_zero, BitVec.add_zero,
      BitVec.ofNat_eq_ofNat, BitVec.sub_zero]

/-- Two words pushed. -/
theorem State.pushAll_two (s : State) (l : Nat) (r : Bool) (u v : Word) :
    s.pushAll l r [u, v] = s.setCore l (s.restack l r 0 [u, v] (s.core l)) := by
  change (s.push l r u).push l r v = _
  rw [State.push_restack s, State.push_restack, State.setCore_core_self, State.setCore_setCore, State.restack_setCore, State.restack_snoc]
  rfl

theorem State.restack_faulted (s : State) (l : Nat) (r : Bool) (p : Nat) (vs : List Word) (c : Core) (w : Bool) (f : Option FirstFault) :
    s.restack l r p vs { c with waiting := w, fault := f } = { s.restack l r p vs c with waiting := w, fault := f } := by
  unfold State.restack
  by_cases hb : s.inLesson l = true <;> cases r <;> simp [hb, Core.setBell, Core.setSp, Core.setChip, Core.sp, Core.chip, Core.bellStack]

/-- The STW of a fault's handler: its own world, at ring 0. -/
theorem Core.stw_setWorld_ring0 (c : Core) : (c.setWorld c.guard 0).stw = c.stw &&& 0xFFFFFFF9 := by
  have mask : ∀ j, j < 32 → (0xFFFFFFF9 : Word).getLsbD j = !decide (1 ≤ j ∧ j < 3) := by decide
  have world : c.guard.toNat.testBit 0 = c.stw.getLsbD 0 := by
    have hbit := F.testBit_get stwWORLD c.stw 0
    have hlt : stwWORLD.get c.stw < 2 := F.get_lt stwWORLD c.stw
    rw [show stwWORLD.lo + 0 = 0 from rfl, show decide (0 < stwWORLD.w) = true from rfl, Bool.true_and] at hbit
    rw [← hbit, Core.guard]
    interval_cases stwWORLD.get c.stw <;> rfl
  refine BitVec.eq_of_getLsbD_eq fun j hj => ?_
  simp only [Core.setWorld, F.getLsbD_put _ _ _ _ hj, BitVec.getLsbD_and, mask j hj, stwRING, stwWORLD]
  by_cases h3 : 1 ≤ j ∧ j < 3
  · simp [h3]
  · by_cases h0 : j = 0
    · subst h0
      simpa using world
    · have : ¬j < 1 := by omega
      simp [h3, this]

/-! ### The entry -/

/-- The core that enters a fault at its PC, its handler not yet reached. -/
def Core.faulting (c : Core) (kind : Nat) : Core := { c with waiting := false, fault := some (c.firstFault kind c.pc) }

theorem Core.setWorld_ring0 {c d : Core} (h : d.stw = c.stw) : d.setWorld c.guard 0 = { d with stw := c.stw &&& 0xFFFFFFF9 } := by
  have hd : d.guard = c.guard := by rw [Core.guard, h, Core.guard]
  rw [← h, ← Core.stw_setWorld_ring0, hd]
  rfl

/-- The core at the handler, before its PC: at ring 0 of its own world, with `vs` on the return stack. -/
theorem State.setWorld_restack_faulting (s : State) (l kind : Nat) (vs : List Word) (c : Core) :
    (s.restack l true 0 vs (c.faulting kind)).setWorld c.guard 0 =
      { s.restack l true 0 vs c with
        stw := c.stw &&& 0xFFFFFFF9, waiting := false, fault := some (c.firstFault kind c.pc) } := by
  rw [Core.setWorld_ring0 (by rw [State.stw_restack, Core.faulting]), Core.faulting, State.restack_faulted]

/-- The entry of a fault outside a lesson, with no fault of the Guard world in progress, whose push finds room. -/
theorem State.faultEntry_of_room {f : Flt} {c : Core} (hlesson : s.inLesson l = false) (h3 : ((s.core l).guard && s.dfAct l) = false)
    (h2 : ((s.core l).guard && (s.core l).fault.isSome) = false)
    (hc : c = { s.core l with pc := a', waiting := false, fault := some ((s.core l).firstFault f.kind a') })
    (hroom : ((s.setCore l c).recordFault l f a').prepare { id := l, guard := (s.core l).guard, ring := 0 } true 0 2 =
      .ok ((s.setCore l c).recordFault l f a') [])
    (hu : u = ((s.setCore l c).recordFault l f a').pushAll l true [(s.core l).stw, a']) :
    s.faultEntry l f a' = u.setCore l { (u.core l).setWorld (s.core l).guard 0 with
      pc := u.rd (if (s.core l).guard then R.FVECG l else R.FVECS l) &&& 0xFFFFFFFE } := by
  unfold State.faultEntry
  extract_lets d t e w r
  have ht : t.inLesson l = false := hlesson
  have h3' : (d.guard && t.dfAct l) = false := h3
  have hr : r = (s.setCore l c).recordFault l f a' := by
    simp only [r, w, e, t, d, hc, State.setCore_setCore, State.setCore_core_self]
  have hroom' : r.prepare { id := l, guard := d.guard, ring := 0 } true 0 2 = .ok r [] := by rw [hr]; exact hroom
  rw [if_neg (ne_true_of_eq_false ht), if_neg (ne_true_of_eq_false h3'), if_neg (ne_true_of_eq_false h2), hroom', hr]
  subst hu
  rfl

/-- The fault of an instruction at its PC. -/
theorem State.EntersFaults.faultEntry_eq (h : s.EntersFaults l) (f : Flt) (v : Word) :
    let c := s.core l
    let w := (s.setCore l (c.faulting f.kind)).recordFault l f c.pc
    (s.setPc l v).faultEntry l f c.pc = w.setCore l
      { s.restack l true 0 [c.stw, c.pc] c with
        pc := w.rd (if c.guard then R.FVECG l else R.FVECS l) &&& 0xFFFFFFFE, stw := c.stw &&& 0xFFFFFFF9, waiting := false
        fault := some (c.firstFault f.kind c.pc) } := by
  obtain ⟨-, hlesson, hguard, hroom⟩ := h
  intro c w
  have hrec : State.RegsAt (fltReg l) (s.setCore l (c.faulting f.kind)) w := State.recordFault_regsAt ..
  obtain ⟨hctx, hless⟩ := hrec.contexts_fault
  have hcore : w.core l = c.faulting f.kind := (hrec.keep (State.core · l) fun _ => rfl).trans (State.setCore_core_self ..)
  have hhandy : w.Handy l true 0 2 := by
    have hset : (s.setCore l (c.faulting f.kind)).Handy l true 0 2 := (State.handy_setCore (c := c.faulting f.kind) rfl rfl rfl rfl rfl).2 hroom
    unfold State.Handy at hset ⊢
    rwa [hless, hcore, ← State.setCore_core_self s l (c.faulting f.kind)]
  have hpush : w.pushAll l true [c.stw, c.pc] = w.setCore l (s.restack l true 0 [c.stw, c.pc] (c.faulting f.kind)) := by
    rw [State.pushAll_two, State.restack_congr hctx hless, hcore]
    rfl
  have free (b : Bool) (hb : c.guard = true → b = false) : (c.guard && b) = false := by
    cases hg : c.guard
    · rfl
    · rw [hb hg]
      rfl
  have hpc := State.setPc_core s l v
  have entry := State.faultEntry_of_room (s := s.setPc l v) (l := l) (f := f) (a' := c.pc) (c := c.faulting f.kind) hlesson
    (by rw [hpc]; exact free _ fun hg => (hguard hg).1) (by rw [hpc]; exact free _ fun hg => by rw [(hguard hg).2]; rfl)
    (by rw [hpc]; rfl) (by rw [State.setCore_setPc]; exact State.prepare_push hhandy) rfl
  rw [hpc, State.setCore_setPc] at entry
  rw [entry]
  change (w.pushAll l true [c.stw, c.pc]).setCore l _ = _
  rw [hpush]
  rw [State.setCore_core_self, State.setCore_setCore]
  change w.setCore l { (s.restack l true 0 [c.stw, c.pc] (c.faulting f.kind)).setWorld c.guard 0 with pc := _ } = _
  rw [State.setWorld_restack_faulting]
  rfl

/-- The state that a detected fault leads to has taken it. -/
theorem State.EntersFaults.took (h : s.EntersFaults l) (f : Flt) (v : Word) (o : State) :
    TookFault s (settle o ((s.setPc l v).faultEntry l f (s.core l).pc)) l f.kind f.cause (w32 (f.addr.getD (s.core l).pc.toNat)) f.write
      f.rstk := by
  have hraised := raised_settle o ((s.setPc l v).faultEntry l f (s.core l).pc)
  generalize settle o ((s.setPc l v).faultEntry l f (s.core l).pc) = t at hraised ⊢
  have entry := h.faultEntry_eq f v
  extract_lets c w at entry
  rw [entry] at hraised
  obtain ⟨hstat, haddr, hcnt⟩ := State.recordFault_reads (s.setCore l (c.faulting f.kind)) l f c.pc
  rw [State.setCore_core_self] at hstat haddr hcnt
  have hrec : State.RegsAt (fltReg l) (s.setCore l (c.faulting f.kind)) w := State.recordFault_regsAt ..
  have hvec : w.rd (if c.guard then R.FVECG l else R.FVECS l) = s.rd (if c.guard then R.FVECG l else R.FVECS l) :=
    hrec.rd (by cases c.guard <;> simp only [fltReg, Bool.false_eq_true, if_false, if_true, R.FVECG, R.FVECS, R.FSTATG, R.FADDRG, R.FSTATS,
      R.FADDRS, R.FCNT] <;> omega)
  refine ⟨?_, ?_, ?_, ?_, ?_⟩
  · rw [hraised.rd (by cases (s.core l).guard <;> simp only [offIrq, Bool.false_eq_true, if_false, if_true, R.FSTATG, R.FSTATS] <;> omega)]
    exact hstat
  · rw [hraised.rd (by cases (s.core l).guard <;> simp only [offIrq, Bool.false_eq_true, if_false, if_true, R.FADDRG, R.FADDRS] <;> omega)]
    exact haddr
  · rw [hraised.fld _ (by simp only [offIrq, R.FCNT]; omega)]
    exact hcnt
  · rw [hraised.core, State.setCore_core_self, hvec]
    rfl
  · exact (hraised.keep State.mem fun _ => rfl).trans (hrec.keep State.mem fun _ => rfl)

/-- An instruction whose carrying out ends in fault `f`, with nothing moved, takes it. -/
theorem State.EntersFaults.of_badB (h : s.EntersFaults l) {part : State → Word → Out Bool} {v : Word} {f : Flt}
    (hf : part (s.setPc l ((s.core l).pc + 2)) (s.core l).pc = .bad (s.setPc l v) f) :
    ∃ t, done s (s.instrB l part) = .next t ∧
      TookFault s t l f.kind f.cause (w32 (f.addr.getD (s.core l).pc.toNat)) f.write f.rstk := by
  have hbad : s.instrB l part = (s.setPc l v).faultEntry l f (s.core l).pc := by
    unfold State.instrB
    simp only [h.left.left, State.fetch_ok h.left.right, hf, Bool.not_true, Bool.false_eq_true, if_false]
  rw [hbad]
  exact ⟨_, rfl, h.took f v s⟩

end

end Sys2Proof.Machine
end

section
/-! PROOF of O12. The faults that instructions raise before they move anything (R218, R219, R226, R229, R234). -/

namespace Sys2Proof.Machine

section
variable {s : State} {l : Nat}

/-! A moved PC changes neither the stacks nor the world and ring. -/

theorem State.stackFault_setPc (v : Word) (r : Bool) (p q : Nat) : (s.setPc l v).stackFault l r p q = s.stackFault l r p q := by
  unfold State.stackFault
  rw [State.setPc_core]
  rfl

theorem State.who_setPc (v : Word) : (s.setPc l v).who l = s.who l := by
  unfold State.who
  rw [State.setPc_core]
  rfl

/-- The first check of R199 to fail, with nothing moved. -/
theorem State.prepare_bad {v : Word} {r : Bool} {p q : Nat} {f : Flt} (h : s.stackFault l r p q = some f) :
    (s.setPc l v).prepare ((s.setPc l v).who l) r p q = .bad (s.setPc l v) f := by
  have hfault : (s.setPc l v).stackFault ((s.setPc l v).who l).id r p q = some f := by
    rw [State.who_setPc]
    exact (State.stackFault_setPc v r p q).trans h
  simp only [State.prepare, hfault, State.guardBy, Out.bind]

/-! ### Faults without an address of their own, and with one -/

theorem State.EntersFaults.faultedB (h : s.EntersFaults l) {part : State → Word → Out Bool} {v : Word} {f : Flt} (ha : f.addr = none)
    (hf : part (s.setPc l ((s.core l).pc + 2)) (s.core l).pc = .bad (s.setPc l v) f) :
    ∃ t, done s (s.instrB l part) = .next t ∧ TookFault s t l f.kind f.cause (s.core l).pc f.write f.rstk := by
  have took := h.of_badB hf
  rwa [ha, Option.getD_none, w32, BitVec.ofNat_toNat, BitVec.setWidth_eq] at took

section
variable (h : s.EntersFaults l) {part : State → Word → Out Unit} {v a : Word} {f : Flt}
  (hf : part (s.setPc l ((s.core l).pc + 2)) (s.core l).pc = .bad (s.setPc l v) f)
include h hf

theorem State.EntersFaults.faulted (ha : f.addr = none) :
    ∃ t, done s (s.instr l part) = .next t ∧ TookFault s t l f.kind f.cause (s.core l).pc f.write f.rstk :=
  h.faultedB (v := v) ha (by rw [hf, Out.bind])

theorem State.EntersFaults.faultedAt (ha : f.addr = some a.toNat) :
    ∃ t, done s (s.instr l part) = .next t ∧ TookFault s t l f.kind f.cause a f.write f.rstk := by
  have took := h.of_badB (v := v) (f := f) (part := fun s a => (part s a).bind (fun s _ => .ok s true)) (by rw [hf, Out.bind])
  rwa [ha, Option.getD_some, w32, BitVec.ofNat_toNat, BitVec.setWidth_eq] at took

end

/-! ### The stacks (R199, R202) -/

section
variable {r : Bool} {p q : Nat} (hlesson : s.inLesson l = false)
include hlesson

theorem State.stackFault_area {f : Flt} (hpq : p + q ≠ 0)
    (h : areaFault ((s.core l).base r) ((s.core l).lim r) ((s.core l).sp r) r = some f) : s.stackFault l r p q = some f := by
  have harea : p + q ≠ 0 ∧ areaFault ((s.core l).base r) ((s.core l).lim r) ((s.core l).sp r) r ≠ none := ⟨hpq, by rw [h]; nofun⟩
  simp only [State.stackFault, hlesson, Bool.false_eq_true, if_false]
  rw [if_pos harea, h]

theorem State.stackFault_empty (h : areaFault ((s.core l).base r) ((s.core l).lim r) ((s.core l).sp r) r = none)
    (hp : ((s.core l).base r).toNat < ((s.core l).sp r).toNat + 4 * p) : s.stackFault l r p q = some (.stack 1 r) := by
  simp [State.stackFault, hlesson, h, hp]

theorem State.stackFault_full (h : areaFault ((s.core l).base r) ((s.core l).lim r) ((s.core l).sp r) r = none)
    (hp : ((s.core l).sp r).toNat + 4 * p ≤ ((s.core l).base r).toNat)
    (hq : ((s.core l).sp r).toNat + 4 * p < ((s.core l).lim r).toNat + 4 * q) : s.stackFault l r p q = some (.stack 0 r) := by
  simp [State.stackFault, hlesson, h, Nat.not_lt.2 hp, hq]

end

/-- A stack with a misaligned pointer. -/
theorem areaFault_sp {base lim sp : Word} {r : Bool} (h : sp.toNat % 4 ≠ 0) : areaFault base lim sp r = some (.stkPtr sp.toNat) := by
  simp [areaFault, h]

/-- An aligned stack out of its place. -/
theorem areaFault_range {base lim sp : Word} {r : Bool} (hs : sp.toNat % 4 = 0) (hb : base.toNat % 4 = 0) (hl : lim.toNat % 4 = 0)
    (h : stackArea lim base = false) : areaFault base lim sp r = some (.stack 2 r) := by
  simp [areaFault, hs, hb, hl, h]

/-- An instruction on the operand stack faults with it. -/
theorem State.stackOp_bad {v : Word} {p q : Nat} {f : Flt} {g : List Word → List Word} (h : s.stackFault l false p q = some f) :
    (s.setPc l v).stackOp l p q g = .bad (s.setPc l v) f := by
  rw [State.stackOp, State.prepare_bad h, Out.bind]

/-! ### Targets and divisors (R226, R229) -/

theorem State.popTarget_odd {v : Word} {f : State → Word → Out Unit} (h : s.Handy l false 1 0)
    (hodd : (wAt (s.held l false) 0).toNat % 2 = 1) :
    (s.setPc l v).popTarget l false f = .bad (s.setPc l v) (.fetchOdd (wAt (s.held l false) 0).toNat) := by
  have hbit : (wAt (s.held l false) 0).getLsbD 0 = true := by
    rw [BitVec.getLsbD, Nat.testBit_zero, hodd]
    rfl
  simp only [State.popTarget, State.prepare_handy (State.handy_setPc.2 h), State.held_setPc, wAt_take Nat.zero_lt_one, Out.bind, hbit, if_true]

theorem State.divide_zero {v a : Word} {ab : Bool} {f : Word → Word → Word} (h : s.Handy l false 2 1)
    (hz : wAt (s.held l false) 0 = 0) : (s.setPc l v).divide l a ab f = .bad (s.setPc l v) { kind := 8, cause := 0 } := by
  simp only [State.divide, State.prepare_handy (State.handy_setPc.2 h), State.held_setPc, wAt_take Nat.zero_lt_two, Out.bind, hz, if_true]

/-! ### Returns (R234) -/

theorem State.retf_ring {v : Word} (h : (s.core l).ring ≠ 0) : (s.setPc l v).retf l = .bad (s.setPc l v) (.priv 0) := by
  have hring : ((s.who l).ring != 0) = true := bne_iff_ne.2 h
  simp only [State.retf, State.who_setPc, hring, Bool.or_true, if_true]

theorem State.reti_ring {v : Word} (h : (s.core l).ring ≠ 0) : (s.setPc l v).reti l = .bad (s.setPc l v) (.priv 0) := by
  have hring : (((s.setPc l v).core l).ring != 0) = true := by
    rw [State.setPc_core]
    exact bne_iff_ne.2 h
  simp only [State.reti, hring, Bool.true_or, if_true]

theorem State.retw_ring {v : Word} (h : (s.core l).ring ≠ 0) : (s.setPc l v).retw l = .bad (s.setPc l v) (.priv 0) := by
  have hguard : (s.who l).guard0 = false := by simp [Who.guard0, State.who, h]
  simp only [State.retw, State.who_setPc, hguard, Bool.not_false, Bool.or_true, Bool.true_or, if_true]

/-! ### Accesses (R218, R289) -/

/-- A load that its checks refuse faults before anything is popped. -/
theorem State.ldOp_bad {v : Word} {n off : Nat} {signed : Bool} {f : Flt} (h : s.Handy l false 1 1)
    (hf : s.dataFault (s.who l) .read (offsetAddr (wAt (s.held l false) 0) off n) n 0 = some f) :
    (s.setPc l v).ldOp l signed n off = .bad (s.setPc l v) f := by
  have hfault : (s.setPc l v).dataFault ((s.setPc l v).who l) .read (offsetAddr (wAt (s.held l false) 0) off n) n 0 = some f := by
    rw [State.who_setPc]
    exact hf
  simp only [State.ldOp, State.prepare_handy (State.handy_setPc.2 h), State.held_setPc, wAt_take Nat.zero_lt_one, Out.bind, State.load,
    hfault, State.guardBy]

/-- An aligned access below the peripherals, to a place of the core's own, is refused for its region alone. -/
theorem State.dataFault_region {a n : Nat} {w : Who} {k : AccKind} {v : Word} (hn : n = 1 ∨ n = 2 ∨ n = 4) (hlim : a < 0x40000000)
    (hal : a % n = 0) (hfar : ∀ p, placeOf a ≠ .far p) (hreg : s.regionOk w.id w.guard w.ring k a n = false) :
    s.dataFault w k a n v = some { kind := 7, cause := 1, addr := some a, write := k == .write } := by
  have hend : (a + n - 1) % 2 ^ 32 = a + n - 1 := Nat.mod_eq_of_lt (by omega)
  have hword : placeOf (a + n - 1) = placeOf a := placeOf_word (by rcases hn with rfl | rfl | rfl <;> omega)
  have hwin : inWindows a = false := decide_eq_false (by omega)
  have hpriv : s.privFault w a n (k == .write) v = none := by
    unfold State.privFault
    -- `hfar` settles the match on the place
    simp only [hend, hword, hwin, Bool.false_and, Bool.false_eq_true, if_false, Bool.or_self]
  have halign : alignFault a n (k == .write) = none := if_neg (by omega)
  simp only [State.dataFault, hpriv, halign, hreg, Bool.false_eq_true, if_false]
  rfl

theorem placeOf_ne_far {a : Nat} (h : ∀ p, targetOf a ≠ some (.far p)) (p : Nat) : placeOf a ≠ .far p := by
  intro e
  refine h p ?_
  by_cases htcm : a < 0x20000 ∨ (0x100000 ≤ a ∧ a < 0x110000)
  · have hout : ¬(0x10000000 ≤ a ∧ a < 0x10800000) ∧ ¬(0x20000000 ≤ a ∧ a < 0x20200000) ∧ ¬(0x30000000 ≤ a ∧ a < 0x30C00000) := by omega
    obtain ⟨hm, hs, hf⟩ := hout
    rw [placeOf, if_neg hm, if_neg hs, if_neg hf] at e
    split_ifs at e
  · rw [targetOf, if_neg htcm, e]

end

/-- Settles O12: each cause is the first check to fail, so that nothing has moved when the core takes the fault. -/
theorem instructionFaultsAreTaken : Obligations.InstructionFaultsAreTaken := by
  intro s l h c faults
  have hlesson := h.right.left
  refine ⟨fun harea => ⟨fun hempty => ?_, fun hfit hfull v => ?_⟩, fun hs hb hl harea v => ?_, fun hs v => ?_, fun harea hempty => ?_,
    fun hh hodd => ?_, fun hh hz ab i hi => ?_, ?_, fun hring => ⟨?_, ?_, ?_⟩, fun hh z off => ?_⟩
  · exact h.faulted (f := .stack 1 false) (State.stackOp_bad (State.stackFault_empty hlesson harea hempty)) rfl
  · exact h.faulted (f := .stack 0 false) (State.stackOp_bad (State.stackFault_full hlesson harea hfit hfull)) rfl
  · exact h.faulted (f := .stack 2 false)
      (State.stackOp_bad (State.stackFault_area hlesson Nat.one_ne_zero (areaFault_range hs hb hl harea))) rfl
  · exact h.faultedAt (f := .stkPtr c.dsp.toNat)
      (State.stackOp_bad (State.stackFault_area hlesson Nat.one_ne_zero (areaFault_sp hs))) rfl
  · refine h.faulted (f := .stack 1 true) (v := c.pc + 2) ?_ rfl
    rw [State.prepare_bad (State.stackFault_empty (r := true) (p := 1) (q := 0) hlesson harea hempty), Out.bind]
  · exact h.faultedAt (f := .fetchOdd _) (State.popTarget_odd hh hodd) rfl
  · simp only [List.mem_cons, List.not_mem_nil, or_false] at hi
    rcases hi with rfl | rfl | rfl | rfl <;> exact h.faultedB (f := { kind := 8, cause := 0 }) rfl (State.divide_zero hh hz)
  · exact h.faulted (f := .illegal 1) (v := c.pc + 2) (if_neg (ne_true_of_eq_false hlesson)) rfl
  · exact h.faulted (f := .priv 0) (State.retf_ring hring) rfl
  · exact h.faulted (f := .priv 0) (State.reti_ring hring) rfl
  · exact h.faulted (f := .priv 0) (State.retw_ring hring) rfl
  · intro a hlim hal _ hfar hreg
    refine h.faultedAt (f := { kind := 7, cause := 1, addr := some a })
      (State.ldOp_bad hh (State.dataFault_region (Size.bytes_cases z) hlim hal (placeOf_ne_far hfar) hreg)) ?_
    rw [BitVec.toNat_ofNat, Nat.mod_eq_of_lt (by omega)]

end Sys2Proof.Machine
end

section
/-! PROOF of O7. RSR and WSR by special register number (R196), and WSR STW (R208). -/

namespace Sys2Proof.Machine

/-! ### RSR -/

theorem Core.accg_eq (c : Core) : c.accg = ((c.acc >>> 64).truncate 8).signExtend 32 := by
  have hg : ((c.acc >>> 64).truncate 8).toNat = c.acc.toNat / 2 ^ 64 := by
    have := c.acc.isLt
    rw [BitVec.toNat_setWidth, BitVec.toNat_ushiftRight, Nat.shiftRight_eq_div_pow]
    omega
  rw [Core.accg, ← hg, sx_toNat _ (by decide), wordOf_toInt]

theorem RsrRow.toNat {n : Nat} {f : State → Nat → Word} (h : RsrRow n f) : (BitVec.ofNat 8 n).toNat = n := by
  cases h <;> decide

/-- What RSR finds when PC has gone on: the address is that of the instruction. -/
theorem RsrRow.specialReg {n : Nat} {f : State → Nat → Word} (h : RsrRow n f) (s : State) (l : Nat) (v : Word) :
    (s.setPc l v).specialReg l (s.core l).pc n = some (f s l) := by
  unfold State.specialReg
  rw [State.setPc_core]
  cases h
  case acch =>
    refine congrArg some (BitVec.eq_of_toNat_eq ?_)
    rw [w32, BitVec.toNat_ofNat, BitVec.toNat_setWidth, BitVec.toNat_ushiftRight, Nat.shiftRight_eq_div_pow]
  case accg => exact congrArg some (Core.accg_eq _)
  case coreid =>
    refine congrArg (some ∘ w32) ?_
    change s.variant.phys l + 8 * (decide (l = 0)).toNat + 16 * l = _
    by_cases hl : l = 0 <;> simp [hl]
  all_goals rfl

theorem done_rsr {s : State} {l n : Nat} {v : Word} (h : s.Ready l) (hh : s.Handy l false 0 1)
    (hv : (s.setPc l ((s.core l).pc + 2)).specialReg l (s.core l).pc n = some v) :
    done s (s.instr l (fun (s : State) a => s.rsr l a n)) = .next (s.setCore l (s.restack l false 0 [v] (s.next l))) := by
  refine done_restack h ?_
  have hh' := (State.handy_setPc (v := (s.core l).pc + 2)).mpr hh
  simp only [State.rsr, hv, State.prepare_handy hh', Out.bind, Option.getD_some, State.push_restack, State.restack_setPc, State.setPc_core,
    State.setCore_setPc]

/-! ### WSR of ACC, X and Y -/

/-- The bits of ACC from its three parts. -/
theorem testBit_accParts {lo hi : Nat} (g j : Nat) (hlo : lo < 2 ^ 32) (hhi : hi < 2 ^ 32) :
    (lo + 2 ^ 32 * hi + 2 ^ 64 * g).testBit j =
      if j < 32 then lo.testBit j else if j < 64 then hi.testBit (j - 32) else g.testBit (j - 64) := by
  have e : lo + 2 ^ 32 * hi + 2 ^ 64 * g = 2 ^ 32 * (2 ^ 32 * g + hi) + lo := by ring
  rw [e, Nat.testBit_two_pow_mul_add _ hlo, Nat.testBit_two_pow_mul_add _ hhi, Nat.sub_sub]
  refine if_congr Iff.rfl rfl ?_
  exact if_congr (by omega) rfl rfl

theorem getLsbD_accPart (acc : BitVec 72) (n : Nat) (v : Word) {j : Nat} (hj : j < 72) :
    (accPart acc n v).getLsbD j =
      if j < 32 then (if n = 0x10 then v.getLsbD j else acc.getLsbD j)
      else if j < 64 then (if n = 0x11 then v.getLsbD (j - 32) else acc.getLsbD j)
      else if n = 0x12 then v.getLsbD (j - 64) else acc.getLsbD j := by
  have hlo : (if n = 0x10 then v.toNat else acc.toNat % 2 ^ 32) < 2 ^ 32 := by have := v.isLt; split_ifs <;> omega
  have hhi : (if n = 0x11 then v.toNat else acc.toNat / 2 ^ 32 % 2 ^ 32) < 2 ^ 32 := by have := v.isLt; split_ifs <;> omega
  rw [accPart, BitVec.getLsbD_ofNat, testBit_accParts _ _ hlo hhi, decide_eq_true hj, Bool.true_and]
  by_cases h32 : j < 32
  · rw [if_pos h32, if_pos h32]
    split_ifs
    · rfl
    · rw [Nat.testBit_mod_two_pow, decide_eq_true h32, Bool.true_and]
      rfl
  · rw [if_neg h32, if_neg h32]
    by_cases h64 : j < 64
    · rw [if_pos h64, if_pos h64]
      split_ifs
      · rfl
      · rw [Nat.testBit_mod_two_pow, Nat.testBit_div_two_pow, decide_eq_true (by omega), Bool.true_and, Nat.sub_add_cancel (by omega)]
        rfl
    · rw [if_neg h64, if_neg h64]
      split_ifs
      · rw [show (256 : Nat) = 2 ^ 8 from rfl, Nat.testBit_mod_two_pow, decide_eq_true (by omega), Bool.true_and]
        rfl
      · rw [Nat.testBit_div_two_pow, Nat.sub_add_cancel (by omega)]
        rfl

theorem accPart_accl (acc : BitVec 72) (v : Word) : accPart acc 0x10 v = (acc &&& ~~~0xFFFFFFFF) ||| v.zeroExtend 72 := by
  have mask : ∀ j, j < 72 → (~~~0xFFFFFFFF : BitVec 72).getLsbD j = !decide (j < 32) := by decide
  refine BitVec.eq_of_getLsbD_eq fun j hj => ?_
  rw [getLsbD_accPart _ _ _ hj, BitVec.getLsbD_or, BitVec.getLsbD_and, mask j hj, BitVec.getLsbD_setWidth]
  by_cases h32 : j < 32
  · simp [h32, hj]
  · simp [h32, hj, BitVec.getLsbD_of_ge v j (by omega)]

theorem accPart_acch (acc : BitVec 72) (v : Word) :
    accPart acc 0x11 v = (acc &&& ~~~((0xFFFFFFFF : BitVec 72) <<< 32)) ||| (v.zeroExtend 72 <<< 32) := by
  have mask : ∀ j, j < 72 → (~~~((0xFFFFFFFF : BitVec 72) <<< 32)).getLsbD j = !decide (32 ≤ j ∧ j < 64) := by decide
  refine BitVec.eq_of_getLsbD_eq fun j hj => ?_
  rw [getLsbD_accPart _ _ _ hj, BitVec.getLsbD_or, BitVec.getLsbD_and, mask j hj, BitVec.getLsbD_shiftLeft, BitVec.getLsbD_setWidth]
  by_cases h32 : j < 32
  · simp [h32, show ¬32 ≤ j by omega]
  · by_cases h64 : j < 64
    · simp [h32, h64, show 32 ≤ j by omega, hj, show j - 32 < 72 by omega]
    · simp [h32, h64, BitVec.getLsbD_of_ge v (j - 32) (by omega)]

theorem accPart_accg (acc : BitVec 72) (v : Word) :
    accPart acc 0x12 v = (acc &&& ~~~((0xFF : BitVec 72) <<< 64)) ||| (v.zeroExtend 72 <<< 64) := by
  have mask : ∀ j, j < 72 → (~~~((0xFF : BitVec 72) <<< 64)).getLsbD j = decide (j < 64) := by decide
  refine BitVec.eq_of_getLsbD_eq fun j hj => ?_
  rw [getLsbD_accPart _ _ _ hj, BitVec.getLsbD_or, BitVec.getLsbD_and, mask j hj, BitVec.getLsbD_shiftLeft, BitVec.getLsbD_setWidth]
  by_cases h64 : j < 64
  · simp [h64]
  · simp [h64, show ¬j < 32 by omega, hj, show j - 64 < 72 by omega]

section
variable {n : Nat} {f : Core → Word → Core}

theorem WsrRow.toNat (h : WsrRow n f) : (BitVec.ofNat 8 n).toNat = n := by
  cases h <;> decide

theorem WsrRow.wsr_core (h : WsrRow n f) (c : Core) (v : Word) : c.wsr n v = some (f c v) := by
  cases h
  case accl => exact congrArg (fun a => some { c with acc := a }) (accPart_accl c.acc v)
  case acch => exact congrArg (fun a => some { c with acc := a }) (accPart_acch c.acc v)
  case accg => exact congrArg (fun a => some { c with acc := a }) (accPart_accg c.acc v)
  all_goals rfl

/-- The registers of these rows are ACC, X and Y. -/
theorem WsrRow.eq_regs (h : WsrRow n f) (c d : Core) (v : Word) (ha : c.acc = d.acc) (hx : c.x = d.x) (hy : c.y = d.y) :
    f c v = { c with acc := (f d v).acc, x := (f d v).x, y := (f d v).y } := by
  cases h <;> simp only [← ha, ← hx, ← hy]

theorem WsrRow.wsr_state (h : WsrRow n f) (s : State) (l : Nat) : s.wsr l n = s.coreOp l 1 0 (fun c v => (f c (wAt v 0), [])) := by
  have hplain : s.wsr l n = s.wsrPlain l n := by cases h <;> rfl
  rw [hplain, State.wsrPlain, h.wsr_core]
  simp only [h.wsr_core, Option.isNone_some, Bool.false_eq_true, if_false, Option.getD_some]

theorem WsrRow.done_wsr (h : WsrRow n f) {s : State} {l : Nat} (hs : s.Ready l) (hh : s.Handy l false 1 0) :
    done s (s.instr l (fun (s : State) _ => s.wsr l n)) =
      .next (s.setCore l (s.restack l false 1 [] (f (s.next l) (wAt (s.held l false) 0)))) := by
  have hf (c : Core) (ha : c.acc = (s.core l).acc) (hx : c.x = (s.core l).x) (hy : c.y = (s.core l).y) :=
    h.eq_regs c (s.core l) (wAt (s.held l false) 0) ha hx hy
  have hdone := done_coreOp (f := fun c v => (f c (wAt v 0), [])) (w := (s.core l).stw) hs hh
    (fun c hw ha hx hy => by rw [wAt_take Nat.zero_lt_one, hf c ha hx hy, ← hw]) rfl rfl
  simp only [h.wsr_state, hdone]
  rw [hf (s.next l) rfl rfl rfl]
  rfl

end

/-! ### WSR STW -/

theorem F.get_mix_left (f : F) (v r m : Word) (hw : f.lo + f.w ≤ 32) (h : ∀ i, i < f.w → m.getLsbD (f.lo + i) = false) :
    f.get (Word.mix v r m) = f.get v := by
  refine Nat.eq_of_testBit_eq fun i => ?_
  rw [F.testBit_get, F.testBit_get]
  by_cases hi : i < f.w
  · rw [Word.mix, BitVec.getLsbD_or, BitVec.getLsbD_and, BitVec.getLsbD_and, BitVec.getLsbD_not, h i hi]
    simp [show f.lo + i < 32 by omega]
  · simp [hi]

theorem stwIML_get_eq (v : Word) : stwIML.get v = v.toNat / 16 % 8 := by
  rw [F.get, Nat.shiftRight_eq_div_pow]
  rfl

section
variable {s : State} {l : Nat}

/-- WSR STW where it is permitted. -/
theorem State.wsrStw_ok {v : Word} (hh : s.Handy l false 1 0)
    (hp : (s.core l).ring = 0 ∨ stwIML.get (wAt (s.held l false) 0) = stwIML.get (s.core l).stw) :
    (s.setPc l v).wsrStw l = .ok (s.setCore l (s.restack l false 1 [] { s.core l with
      pc := v, stw := Word.mix (s.core l).stw (wAt (s.held l false) 0) (if (s.core l).ring = 0 then stwRing0 else stwRingN) })) () := by
  have hh' := (State.handy_setPc (v := v)).mpr hh
  have hperm : ((s.core l).ring != 0 && stwIML.get (wAt (s.held l false) 0) != stwIML.get (s.core l).stw) = false := by
    rcases hp with h | h <;> simp [h]
  simp only [State.wsrStw, State.prepare_handy hh', State.popN_handy hh', State.held_setPc, wAt_take Nat.zero_lt_one, Out.bind,
    State.setPc_core, Core.ring_pc, hperm, Bool.false_eq_true, if_false, State.setCore_setPc, State.setCore_core_self,
    State.setCore_setCore, State.restack_setPc, ← State.restack_stw]

theorem State.wsrStw_refused {v : Word} (hh : s.Handy l false 1 0) (hr : (s.core l).ring ≠ 0)
    (hi : stwIML.get (wAt (s.held l false) 0) ≠ stwIML.get (s.core l).stw) : (s.setPc l v).wsrStw l = .bad (s.setPc l v) (.priv 3) := by
  have hh' := (State.handy_setPc (v := v)).mpr hh
  have hbar : ((s.core l).ring != 0 && stwIML.get (wAt (s.held l false) 0) != stwIML.get (s.core l).stw) = true := by simp [hr, hi]
  simp only [State.wsrStw, State.prepare_handy hh', State.held_setPc, wAt_take Nat.zero_lt_one, Out.bind, State.setPc_core, Core.ring_pc,
    hbar, if_true]

end

/-- Settles O7, by the rows of RSR and WSR; the ring decides which bits of STW a write reaches. -/
theorem specialRegistersReadAndWrite : Obligations.SpecialRegistersReadAndWrite := by
  refine ⟨⟨fun n f h s l hs hh => ?_, fun n f h s l hs hh => ?_, fun s l => ⟨rfl, rfl, rfl, rfl, rfl, rfl, rfl⟩⟩,
    fun s l hs hh => ⟨fun hr => ?_, fun hr hi => ?_, fun hr hi hf => ?_⟩⟩
  · change done s (s.instr l fun (s : State) a => s.rsr l a (BitVec.ofNat 8 n).toNat) = _
    rw [h.toNat]
    exact done_rsr hs hh (h.specialReg s l _)
  · change done s (s.instr l fun (s : State) _ => s.wsr l (BitVec.ofNat 8 n).toNat) = _
    rw [h.toNat]
    exact h.done_wsr hs hh
  · refine ⟨_, rfl, ?_⟩
    rw [State.instr_ok hs (State.wsrStw_ok hh (.inl hr)), if_pos hr]
    simp only [State.setCore_core_self, State.setCore_setCore, ← State.restack_fault]
    exact raised_settle ..
  · rw [← stwIML_get_eq, ← stwIML_get_eq] at hi
    have hok := State.wsrStw_ok (v := (s.core l).pc + 2) hh (.inr hi)
    rw [if_neg hr] at hok
    refine (done_instr hs hok ?_ ?_ ?_).trans ?_
    · rw [State.guard_restack, Core.guard, F.get_mix_left _ _ _ _ (by decide) (by decide), Core.guard]
    · rw [State.stw_restack, F.get_mix_left _ _ _ _ (by decide) (by decide)]
    · rw [State.shopHalted_restack]
    · rw [← State.restack_fault]
      rfl
  · rw [← stwIML_get_eq, ← stwIML_get_eq] at hi
    exact hf.faulted (f := .priv 3) (State.wsrStw_refused hh hr hi) rfl

end Sys2Proof.Machine
end

section
/-! PROOF of O8. WSR of the stack pointers and bounds (R202, R203), and the spills and fills of R199. -/

namespace Sys2Proof.Machine

section
variable {s : State} {l : Nat} {r : Bool}

/-! ### WSR of a pointer and of a bound -/

theorem State.spillAll_of_le {w : Who} {keep n : Nat} (h : ((s.core w.id).chip r).length ≤ keep) : s.spillAll w r keep (n + 1) = .ok s () := by
  rw [State.spillAll, if_pos h]

theorem State.wsrPointer_ok {a v : Word} (hh : s.Handy l false 1 0) (hb : s.inLesson l = false) (hv : wAt (s.held l false) 0 = v)
    (h4 : v.toNat % 4 = 0) (hlim : ((s.core l).lim r).toNat ≤ v.toNat) (hbase : v.toNat ≤ ((s.core l).base r).toNat)
    (hchip : ((s.core l).chip r).length = if r then 0 else 1) :
    (s.setPc l a).wsrPointer l r =
      .ok (s.setCore l (((s.restack l false 1 [] { s.core l with pc := a }).setChip r []).setSp r v)) () := by
  have hh' := (State.handy_setPc (v := a)).mpr hh
  have hb' : (s.setPc l a).inLesson l = false := hb
  have hlim' : ¬v.toNat < (({ s.core l with pc := a } : Core).lim r).toNat := by cases r <;> exact Nat.not_lt.2 hlim
  have hbase' : ¬(({ s.core l with pc := a } : Core).base r).toNat < v.toNat := by cases r <;> exact Nat.not_lt.2 hbase
  have hspill : (s.setPc l a).spillAll ((s.setPc l a).who l) r (if r then 0 else 1) 8 = .ok (s.setPc l a) () := by
    refine State.spillAll_of_le (le_of_eq ?_)
    rw [← hchip, State.who_setPc, show (s.who l).id = l from rfl, State.setPc_core]
    cases r <;> rfl
  simp only [State.wsrPointer, hb', Bool.false_eq_true, if_false, State.prepare_handy hh', Out.bind, State.held_setPc,
    wAt_take Nat.zero_lt_one, hv, h4, bne_self_eq_false, State.setPc_core, hlim', hbase', hspill, State.popN_handy hh',
    State.setCore_setPc, State.setCore_core_self, State.setCore_setCore, State.restack_setPc]

theorem State.wsrBound_ok {a v : Word} {lim : Bool} (hh : s.Handy l false 1 0) (hb : s.inLesson l = false) (hr : (s.core l).ring = 0)
    (hv : wAt (s.held l false) 0 = v) (h4 : v.toNat % 4 = 0) {d : Core}
    (hd : (s.restack l false 1 [] { s.core l with pc := a }).setBound r lim v = d) (harea : stackArea (d.lim r) (d.base r) = true)
    (hlim : (d.lim r).toNat ≤ (d.sp r).toNat) (hbase : (d.sp r).toNat ≤ (d.base r).toNat) :
    (s.setPc l a).wsrBound l r lim = .ok (s.setCore l d) () := by
  have hh' := (State.handy_setPc (v := a)).mpr hh
  have hperm : ((s.setPc l a).inLesson l || ((s.setPc l a).who l).ring != 0) = false := by
    rw [State.who_setPc, show (s.setPc l a).inLesson l = false from hb, show (s.who l).ring = 0 from hr]
    rfl
  simp only [State.wsrBound, hperm, Bool.false_eq_true, if_false, State.prepare_handy hh', Out.bind, State.held_setPc,
    wAt_take Nat.zero_lt_one, hv, h4, bne_self_eq_false, State.setPc_core, State.popN_handy hh',
    State.setCore_setPc, State.setCore_core_self, State.setCore_setCore, State.restack_setPc, hd, harea, hlim, hbase, and_self, decide_true,
    Bool.not_true, Bool.or_self]

theorem done_wsrPointer {v : Word} (h : s.Ready l) (hh : s.Handy l false 1 0) (hb : s.inLesson l = false) (hv : wAt (s.held l false) 0 = v)
    (h4 : v.toNat % 4 = 0) (hlim : ((s.core l).lim r).toNat ≤ v.toNat) (hbase : v.toNat ≤ ((s.core l).base r).toNat)
    (hchip : ((s.core l).chip r).length = if r then 0 else 1) :
    done s (s.instr l (fun (s : State) _ => s.wsrPointer l r)) =
      .next (s.setCore l (((s.restack l false 1 [] (s.next l)).setChip r []).setSp r v)) := by
  refine done_next (g := fun c => ((s.restack l false 1 [] c).setChip r []).setSp r v) h (State.wsrPointer_ok hh hb hv h4 hlim hbase hchip)
    (fun c => ?_) (fun c => ?_) (fun c => ?_)
  · rw [State.restack_fault s l false 1 [] c none]
    cases r <;> rfl
  · rw [← State.stw_restack s l false 1 [] c]
    cases r <;> rfl
  · rw [← State.shopHalted_restack s l false 1 [] c]
    cases r <;> rfl

/-- The bounds of a core are of no concern to the protection of R295. -/
theorem Core.setBound_fault (c : Core) (r lim : Bool) (v : Word) (f : Option FirstFault) :
    { c with fault := f }.setBound r lim v = { c.setBound r lim v with fault := f } := by
  cases r <;> cases lim <;> rfl

theorem done_wsrBound {v : Word} {lim : Bool} (h : s.Ready l) (hh : s.Handy l false 1 0) (hb : s.inLesson l = false)
    (hr : (s.core l).ring = 0) (hv : wAt (s.held l false) 0 = v) (h4 : v.toNat % 4 = 0) {d : Core}
    (hd : (s.restack l false 1 [] (s.next l)).setBound r lim v = d) (harea : stackArea (d.lim r) (d.base r) = true)
    (hlim : (d.lim r).toNat ≤ (d.sp r).toNat) (hbase : (d.sp r).toNat ≤ (d.base r).toNat) :
    done s (s.instr l (fun (s : State) _ => s.wsrBound l r lim)) = .next (s.setCore l d) := by
  subst hd
  have hfault (c : Core) : (s.restack l false 1 [] { c with fault := none }).setBound r lim v =
      { (s.restack l false 1 [] c).setBound r lim v with fault := none } := by
    rw [State.restack_fault, Core.setBound_fault]
  have hnext : (s.restack l false 1 [] (s.next l)).setBound r lim v = _ := hfault { s.core l with pc := (s.core l).pc + 2 }
  rw [hnext] at harea hlim hbase
  refine done_next (g := fun c => (s.restack l false 1 [] c).setBound r lim v) h
    (State.wsrBound_ok hh hb hr hv h4 rfl (by cases r <;> exact harea) (by cases r <;> exact hlim) (by cases r <;> exact hbase))
    (fun c => (hfault c).symm) (fun c => ?_) (fun c => ?_)
  · rw [← State.stw_restack s l false 1 [] c]
    cases r <;> cases lim <;> rfl
  · rw [← State.shopHalted_restack s l false 1 [] c]
    cases r <;> cases lim <;> rfl

/-! ### A group in the core's own TCM -/

section
variable {a n : Nat} (h0 : 0 < n) (hlo : 0x100000 ≤ a) (hhi : a + n ≤ 0x110000)
include h0 hlo hhi

theorem targetOf_tcm : targetOf a = some .tcm := if_pos (.inr ⟨hlo, by omega⟩)

/-- Such a group is one part (R265). -/
theorem groupParts_tcm : groupParts a n = [(a, n)] := by
  rw [groupParts, targetOf_tcm h0 hlo hhi]
  rfl

theorem State.privFault_tcm (w : Who) (b : Bool) (v : Word) : s.privFault w a n b v = none := by
  have near (c : Nat) (hc : 0x100000 ≤ c) (hc' : c + 1 ≤ 0x110000) : ∀ p, placeOf c ≠ .far p :=
    placeOf_ne_far fun p => by rw [targetOf_tcm Nat.one_pos hc hc']; nofun
  have hfirst := near a hlo (by omega)
  have hlast := near (a + n - 1) (by omega) (by omega)
  have hend : (a + n - 1) % 2 ^ 32 = a + n - 1 := Nat.mod_eq_of_lt (by omega)
  have hwin : inWindows a = false := decide_eq_false (by omega)
  unfold State.privFault
  -- `hfirst` and `hlast` settle the matches on the places of its two ends
  simp only [hend, hwin, Bool.false_and, Bool.or_self, Bool.false_eq_true, if_false]

/-- The region unit alone can refuse it. -/
theorem State.groupFault_tcm {w : Who} {k : AccKind} (hr : s.regionOk w.id w.guard w.ring k a n = true) : s.groupFault w k a n = none := by
  have halign : alignFault a 4 (k == .write) = none := if_neg (by omega)
  have hpart (m : Nat) : s.partFault w.id a a m (k == .write) = none := by
    rw [State.partFault, if_neg (by omega), targetOf_tcm h0 hlo hhi]
  simp only [State.groupFault, State.privFault_tcm h0 hlo hhi, halign, hr, if_true, groupParts_tcm h0 hlo hhi, List.map_cons, List.map_nil,
    hpart]
  rfl

end

/-! ### The spill -/

/-- The words of a group, the first the lowest. -/
def groupValue (es : List Entry) : Nat := es.foldr (fun e x => e.val.toNat + 2 ^ 32 * x) 0

theorem groupValue_lt (es : List Entry) : groupValue es < 2 ^ (8 * (4 * es.length)) := by
  induction es with
  | nil => exact Nat.one_pos
  | cons e es ih =>
    have hv := e.val.isLt
    rw [show groupValue (e :: es) = e.val.toNat + 2 ^ 32 * groupValue es from rfl, List.length_cons,
      show 8 * (4 * (es.length + 1)) = 32 + 8 * (4 * es.length) by ring, Nat.pow_add]
    omega

/-- The store buffer entry of a group in TCM (R269). -/
def State.groupEntry (s : State) (l : Nat) (e : Entry) (es : List Entry) : SbEntry :=
  { addr := s.cellOf l e.home.toNat, n := 4 * (e :: es).length, val := groupValue (e :: es), tgt := .tcm, guard := (s.core l).guard
    ring := (s.core l).ring, done := false }

section
variable {e : Entry} {es : List Entry} (hlo : 0x100000 ≤ e.home.toNat) (hhi : e.home.toNat + 4 * (e :: es).length ≤ 0x110000)
  (hroom : (s.core l).sb.length < 4)
include hlo hhi hroom

theorem State.storeParts_tcm : s.storeParts (s.who l) (groupValue (e :: es)) (groupParts e.home.toNat (4 * (e :: es).length)) =
    s.setCore l { s.core l with sb := (s.core l).sb ++ [s.groupEntry l e es] } := by
  have h0 : 0 < 4 * (e :: es).length := by rw [List.length_cons]; omega
  have ht := targetOf_tcm h0 hlo hhi
  have hval := Nat.mod_eq_of_lt (groupValue_lt (e :: es))
  rw [groupParts_tcm h0 hlo hhi]
  simp only [State.storeParts, ht, Option.getD_some, hval, State.sbPush, State.who, hroom, if_true, State.groupEntry, State.cellOf]

/-- A core with these operands left on chip, and one more entry in its store buffer. -/
def Core.spilled (c : Core) (top : List Entry) (x : SbEntry) : Core := { c with ops := top, sb := c.sb ++ [x] }

/-- A run in TCM leaves the chip for the store buffer. -/
theorem State.spillRun_tcm (hr : s.regionOk l (s.core l).guard (s.core l).ring .write e.home.toNat (4 * (e :: es).length) = true) :
    s.spillRun (s.who l) false (e :: es) =
      .ok (s.setCore l ((s.core l).spilled ((s.core l).ops.take ((s.core l).ops.length - (e :: es).length)) (s.groupEntry l e es))) () := by
  have h0 : 0 < 4 * (e :: es).length := by rw [List.length_cons]; omega
  have hfault : s.groupFault (s.who l) .write e.home.toNat (4 * (e :: es).length) = none := State.groupFault_tcm h0 hlo hhi hr
  unfold State.spillRun
  extract_lets h n v
  have hstore : s.storeParts (s.who l) v (groupParts h n) = _ := State.storeParts_tcm hlo hhi hroom
  rw [show s.groupFault (s.who l) .write h n = none from hfault, State.guardBy, Out.bind, hstore, show (s.who l).id = l from rfl]
  simp only [State.setCore_core_self, State.setCore_setCore]
  rfl

end

/-- Sixteen operands of core `l` are on chip, the four deepest one group in its own TCM that it may store, and a push is within the limit. -/
structure State.SpillsFour (s : State) (l : Nat) (top : List Entry) (e0 e1 e2 e3 : Entry) : Prop where
  outside : s.inLesson l = false
  ops : (s.core l).ops = top ++ [e0, e1, e2, e3]
  twelve : top.length = 12
  area : areaFault (s.core l).dsbase (s.core l).dslim (s.core l).dsp false = none
  base : (s.core l).dsp.toNat ≤ (s.core l).dsbase.toNat
  lim : (s.core l).dslim.toNat + 4 ≤ (s.core l).dsp.toNat
  home1 : e1.home.toNat = e0.home.toNat + 4
  home2 : e2.home.toNat = e0.home.toNat + 8
  home3 : e3.home.toNat = e0.home.toNat + 12
  above : 0x100000 ≤ e0.home.toNat
  below : e0.home.toNat + 16 ≤ 0x110000
  region : s.regionOk l (s.core l).guard (s.core l).ring .write e0.home.toNat 16 = true
  room : (s.core l).sb.length < 4

theorem State.stackFault_none {p q : Nat} (hb : s.inLesson l = false)
    (ha : areaFault ((s.core l).base r) ((s.core l).lim r) ((s.core l).sp r) r = none)
    (hp : ((s.core l).sp r).toNat + 4 * p ≤ ((s.core l).base r).toNat)
    (hq : ((s.core l).lim r).toNat + 4 * q ≤ ((s.core l).sp r).toNat + 4 * p) : s.stackFault l r p q = none := by
  simp [State.stackFault, hb, ha, Nat.not_lt.2 hp, Nat.not_lt.2 hq]

section
variable {e0 e1 e2 e3 : Entry} {top : List Entry} (h : s.SpillsFour l top e0 e1 e2 e3)
include h

theorem State.SpillsFour.setPc (v : Word) : (s.setPc l v).SpillsFour l top e0 e1 e2 e3 := by
  have hcore := State.setPc_core s l v
  refine ⟨h.outside, ?_, h.twelve, ?_, ?_, ?_, h.home1, h.home2, h.home3, h.above, h.below, ?_, ?_⟩ <;> rw [hcore]
  exacts [h.ops, h.area, h.base, h.lim, h.region, h.room]

theorem State.SpillsFour.entryRuns_eq : entryRuns [e0, e1, e2, e3] = [[e0, e1, e2, e3]] := by
  have h2 : e2.home.toNat = e1.home.toNat + 4 := by rw [h.home2, h.home1]
  have h3 : e3.home.toNat = e2.home.toNat + 4 := by rw [h.home3, h.home2]
  simp only [entryRuns, if_pos h.home1, if_pos h2, if_pos h3]

/-- The four leave as one entry of the store buffer. -/
theorem State.SpillsFour.spillDeep_eq :
    s.spillDeep (s.who l) false 4 = .ok (s.setCore l ((s.core l).spilled top (s.groupEntry l e0 [e1, e2, e3]))) () := by
  have hlen : (s.core l).ops.length = 16 := by rw [h.ops, List.length_append, h.twelve]; rfl
  have hdeep : (s.core l).ops.drop 12 = [e0, e1, e2, e3] := by rw [h.ops, ← h.twelve, List.drop_left]
  have htake : (s.core l).ops.take 12 = top := by rw [h.ops, ← h.twelve, List.take_left]
  have hrun := State.spillRun_tcm (es := [e1, e2, e3]) h.above h.below h.room h.region
  rw [hlen, show 16 - [e0, e1, e2, e3].length = 12 from rfl, htake] at hrun
  rw [State.spillDeep, show (s.core (s.who l).id).chip false = (s.core l).ops from rfl, hlen, show 16 - 4 = 12 from rfl, hdeep,
    h.entryRuns_eq, List.reverse_singleton, State.spillRuns, hrun, Out.bind, State.spillRuns]

theorem State.SpillsFour.spill_eq :
    s.spill (s.who l) false 0 1 8 = .ok (s.setCore l ((s.core l).spilled top (s.groupEntry l e0 [e1, e2, e3]))) () := by
  have hfull : ¬((s.core (s.who l).id).chip false).length + 1 ≤ 16 + 0 := by
    rw [show (s.core (s.who l).id).chip false = (s.core l).ops from rfl, h.ops, List.length_append, h.twelve]
    exact (by decide : ¬12 + 4 + 1 ≤ 16 + 0)
  have hroom : (((s.setCore l ((s.core l).spilled top (s.groupEntry l e0 [e1, e2, e3]))).core (s.who l).id).chip false).length + 1 ≤
      16 + 0 := by
    rw [show (s.who l).id = l from rfl, State.setCore_core_self, show (Core.spilled ..).chip false = top from rfl, h.twelve]
    decide
  rw [State.spill, if_neg hfull, h.spillDeep_eq, Out.bind, State.spill, if_pos hroom]

/-- A push that finds 16 entries on chip. -/
theorem State.SpillsFour.prepare_eq :
    s.prepare (s.who l) false 0 1 = .ok (s.setCore l ((s.core l).spilled top (s.groupEntry l e0 [e1, e2, e3]))) [] := by
  have hid : (s.who l).id = l := rfl
  have hfault : s.stackFault l false 0 1 = none := State.stackFault_none (r := false) h.outside h.area h.base h.lim
  simp only [State.prepare, State.moves, hid, hfault, h.outside, State.guardBy, Out.bind, Bool.false_eq_true, if_false, State.fill, upFrom,
    List.all_nil, if_true, h.spill_eq, State.tops, List.map_nil]

theorem State.SpillsFour.handy : (s.setCore l ((s.core l).spilled top (s.groupEntry l e0 [e1, e2, e3]))).Handy l false 0 1 := by
  have hlesson (d : Core) : (s.setCore l d).inLesson l = false := h.outside
  rw [State.Handy, hlesson, State.setCore_core_self, if_neg Bool.false_ne_true]
  exact ⟨fun _ => h.area, h.base, h.lim, rfl, by rw [show (Core.spilled ..).chip false = top from rfl, h.twelve]; decide⟩

theorem State.SpillsFour.push_eq (v : Word) : s.stackOp l 0 1 (fun _ => [v]) =
    .ok (s.setCore l (s.restack l false 0 [v] ((s.core l).spilled top (s.groupEntry l e0 [e1, e2, e3])))) () := by
  rw [State.stackOp, h.prepare_eq, Out.bind, State.popN_handy h.handy, State.setCore_core_self, State.pushAll_restack,
    State.setCore_setCore, State.restack_setCore]

theorem State.SpillsFour.done_push (v : Word) (hs : s.Ready l) : done s (s.instr l (fun (s : State) _ => s.stackOp l 0 1 (fun _ => [v]))) =
    .next (s.setCore l (s.restack l false 0 [v] ((s.next l).spilled top (s.groupEntry l e0 [e1, e2, e3])))) := by
  refine done_next (g := fun c => s.restack l false 0 [v] (c.spilled top (s.groupEntry l e0 [e1, e2, e3]))) hs ?_
    (fun c => (State.restack_fault s l false 0 [v] (c.spilled ..) none).symm) (fun c => State.stw_restack ..)
    (fun c => State.shopHalted_restack ..)
  have hentry : (s.setPc l ((s.core l).pc + 2)).groupEntry l e0 [e1, e2, e3] = s.groupEntry l e0 [e1, e2, e3] := by
    unfold State.groupEntry
    rw [State.setPc_core]
    rfl
  have hpush := (h.setPc ((s.core l).pc + 2)).push_eq v
  rw [hentry, State.setCore_setPc, State.setPc_core, State.restack_setPc] at hpush
  exact hpush

end

/-! ### The fill -/

theorem State.regionOk_of_dataFault {w : Who} {k : AccKind} {a n : Nat} {v : Word} (h : s.dataFault w k a n v = none) :
    s.regionOk w.id w.guard w.ring k a n = true := by
  have hreg := firstOf_eq_none h
    (if s.regionOk w.id w.guard w.ring k a n then none else some { kind := 7, cause := 1, addr := some a, write := k == .write }) (by simp)
  by_contra hne
  rw [if_neg hne] at hreg
  cases hreg

/-- The load of an aligned word, as a fill makes it. -/
theorem State.Loads.loadParts_word {a : Nat} (h : s.Loads l a 4) (h4 : a % 4 = 0) :
    s.loadParts (s.who l) a [(a, 4)] [(a, 4)] = .ok s (s.value l 4 a) := by
  have hlim : a + 4 ≤ 0x40000000 := h.right.left
  have hper : (targetOf a == some .periph) = false := beq_false_of_ne (targetOf_ne_periph (by omega))
  have hload := h.loadAt (.inr (.inr rfl))
  rwa [State.loadAt, hper, if_neg Bool.false_ne_true, splitAt, if_pos h4] at hload

/-- The operand stack of core `l` holds one word, in the core's own TCM and not on chip, and the core may read it. -/
structure State.OneBelow (s : State) (l : Nat) : Prop where
  outside : s.inLesson l = false
  empty : (s.core l).ops = []
  area : areaFault (s.core l).dsbase (s.core l).dslim (s.core l).dsp false = none
  base : (s.core l).dsbase.toNat = (s.core l).dsp.toNat + 4
  lim : (s.core l).dslim.toNat ≤ (s.core l).dsp.toNat
  aligned : (s.core l).dsp.toNat % 4 = 0
  above : 0x100000 ≤ (s.core l).dsp.toNat
  below : (s.core l).dsp.toNat + 4 ≤ 0x110000
  loads : s.Loads l (s.core l).dsp.toNat 4

/-- That word, filled from its home. -/
def State.filled (s : State) (l : Nat) : Entry :=
  { home := (s.core l).dsp, val := w32 (s.value l 4 (s.core l).dsp.toNat)
    own := ownerOfHome false (s.core l).dsp (s.contexts l) }

/-- The state with that word on chip. -/
def State.fillTop (s : State) (l : Nat) : State := s.setCore l ((s.core l).setChip false [s.filled l])

section
variable (h : s.OneBelow l)
include h

theorem State.OneBelow.setPc (v : Word) : (s.setPc l v).OneBelow l := by
  have hcore := State.setPc_core s l v
  refine ⟨h.outside, ?_, ?_, ?_, ?_, ?_, ?_, ?_, ?_⟩ <;> rw [hcore]
  exacts [h.empty, h.area, h.base, h.lim, h.aligned, h.above, h.below, State.loads_setPc.2 h.loads]

theorem State.OneBelow.fillRun_eq : s.fillRun (s.who l) false [(s.core l).dsp.toNat] = .ok (s.fillTop l) () := by
  have hfault : s.groupFault (s.who l) .read (s.core l).dsp.toNat 4 = none :=
    State.groupFault_tcm (Nat.succ_pos 3) h.above h.below (State.regionOk_of_dataFault h.loads.left)
  have hload := h.loads.loadParts_word h.aligned
  unfold State.fillRun
  extract_lets a n
  have hparts : groupParts a n = [(a, n)] := groupParts_tcm (Nat.succ_pos 3) h.above h.below
  rw [show s.groupFault (s.who l) .read a n = none from hfault, State.guardBy, Out.bind, hparts,
    show s.loadParts (s.who l) a [(a, n)] [(a, n)] = _ from hload, Out.bind]
  have hchip (x : Entry) : chipInsert ((s.core l).chip false) ((s.core l).sp false) [x] = [x] := by
    rw [show (s.core l).chip false = [] from h.empty]
    rfl
  have hentry : ({ home := w32 (a + 4 * 0), val := w32 (s.value l 4 (s.core l).dsp.toNat / 2 ^ (32 * 0)),
                   own := ownerOfHome false (w32 (a + 4 * 0)) (s.contexts l) } : Entry) = s.filled l := by
    have hhome : w32 (a + 4 * 0) = (s.core l).dsp := (BitVec.ofNat_toNat ..).trans (BitVec.setWidth_eq _)
    rw [hhome, Nat.mul_zero, Nat.pow_zero, Nat.div_one]
    rfl
  rw [State.fillTop, ← hchip, ← hentry]
  rfl

theorem State.OneBelow.handy : (s.fillTop l).Handy l false 1 1 := by
  have hlesson : (s.fillTop l).inLesson l = false := h.outside
  have hhome : homeAt (s.core l).dsp 0 = (s.core l).dsp := BitVec.add_zero _
  rw [State.Handy, hlesson, State.fillTop, State.setCore_core_self, if_neg Bool.false_ne_true]
  exact ⟨fun _ => h.area, h.base.ge, Nat.add_le_add_right h.lim 4, congrArg (fun v => [v]) hhome.symm, (by decide : 1 + 1 ≤ 16 + 1)⟩

theorem State.OneBelow.fill_eq : s.fill (s.who l) false 1 8 = .ok (s.fillTop l) () := by
  have hid : (s.who l).id = l := rfl
  have hchip : (s.core l).chip false = [] := h.empty
  have hdepth : (((s.core l).base false).toNat - ((s.core l).sp false).toNat) / 4 = 1 := by
    rw [show ((s.core l).base false).toNat = _ from h.base, show ((s.core l).sp false).toNat = (s.core l).dsp.toNat from rfl,
      Nat.add_sub_cancel_left]
  have hzero : homeAt (s.core l).dsp 0 = (s.core l).dsp := BitVec.add_zero _
  have hmissing : List.take 4 (List.filter (fun _ => !false) (upFrom 0 (min 1 20))) = [0] := rfl
  have hruns : Machine.runs [(s.core l).dsp.toNat] = [[(s.core l).dsp.toNat]] := rfl
  have hon : onChip (((s.fillTop l).core l).chip false) (homeAt (((s.fillTop l).core l).sp false) 0) = true := by
    rw [State.fillTop, State.setCore_core_self]
    exact (congrArg (onChip [s.filled l]) hzero).trans (by simp [onChip, State.filled])
  rw [State.fill]
  simp only [hid, hchip, hdepth, upFrom, List.all_cons, List.all_nil, onChip, List.any_nil, Bool.false_and, Bool.false_eq_true, if_false]
  rw [hmissing, List.map_singleton, show (s.core l).sp false = (s.core l).dsp from rfl, hzero, hruns, State.fillRuns, h.fillRun_eq,
    Out.bind, State.fillRuns, Out.bind, State.fill]
  simp only [hid, upFrom, List.all_cons, List.all_nil, hon, Bool.and_self, if_true]

/-- A pop that finds none on chip fills the shallowest. -/
theorem State.OneBelow.prepare_eq : s.prepare (s.who l) false 1 1 = .ok (s.fillTop l) [w32 (s.value l 4 (s.core l).dsp.toNat)] := by
  have hid : (s.who l).id = l := rfl
  have hfault : s.stackFault l false 1 1 = none :=
    State.stackFault_none (r := false) h.outside h.area h.base.ge (Nat.add_le_add_right h.lim 4)
  have hspill : (s.fillTop l).spill (s.who l) false 1 1 8 = .ok (s.fillTop l) () := by
    rw [State.spill, if_pos (by rw [hid, State.fillTop, State.setCore_core_self]; exact (by decide : 1 + 1 ≤ 16 + 1))]
  have htops : (s.fillTop l).tops l false 1 = [w32 (s.value l 4 (s.core l).dsp.toNat)] := by
    rw [State.tops_handy h.handy, State.held, show (s.fillTop l).inLesson l = false from h.outside, if_neg Bool.false_ne_true, State.fillTop,
      State.setCore_core_self]
    rfl
  simp only [State.prepare, State.moves, hid, hfault, h.outside, h.fill_eq, hspill, htops, State.guardBy, Out.bind, Bool.false_eq_true,
    if_false]

theorem State.OneBelow.restack_eq (c : Core) (e : Entry) (v : Word) :
    s.restack l false 1 [v] (c.setChip false [e]) =
      c.setChip false [{ home := c.dsp, val := v, own := (s.contexts l).length }] := by
  rw [State.restack, h.outside, if_neg Bool.false_ne_true]
  simp [Core.setChip, Core.setSp, Core.chip, Core.sp, pushedOn]

theorem State.OneBelow.unary_eq (f : Word → Word) : s.unary l f = .ok (s.setCore l ((s.core l).setChip false
    [{ home := (s.core l).dsp, val := f (w32 (s.value l 4 (s.core l).dsp.toNat)), own := (s.contexts l).length }])) () := by
  rw [State.unary, State.stackOp, h.prepare_eq, Out.bind, State.popN_handy h.handy, State.pushAll_restack, State.fillTop,
    State.setCore_core_self, State.setCore_setCore, State.restack_setCore, h.restack_eq]
  rfl

theorem State.OneBelow.done_unary (f : Word → Word) (hs : s.Ready l) :
    done s (s.instr l (fun (s : State) _ => s.unary l f)) = .next (s.setCore l ((s.next l).setChip false
      [{ home := (s.core l).dsp, val := f (w32 (s.value l 4 (s.core l).dsp.toNat)), own := (s.contexts l).length }])) := by
  refine done_next (g := fun c => c.setChip false
    [{ home := (s.core l).dsp, val := f (w32 (s.value l 4 (s.core l).dsp.toNat)), own := (s.contexts l).length }]) hs ?_
    (fun c => rfl) (fun c => rfl) (fun c => rfl)
  have hunary := (h.setPc ((s.core l).pc + 2)).unary_eq f
  rw [State.setPc_core, State.setCore_setPc, State.value_setPc] at hunary
  exact hunary

end

end

/-- Settles O8: WSR of a pointer or a bound moves nothing else, a spill of one group enters the store buffer whole, and a fill reads the
word that the pop then takes. -/
theorem stacksMoveSpillAndFill : Obligations.StacksMoveSpillAndFill := by
  refine ⟨fun s l r hs hh hb => ⟨?_, ?_⟩, ?_, ?_⟩
  · intro h4 hlim hbase hchip
    exact done_wsrPointer hs hh hb rfl h4 hlim hbase hchip
  · intro lim hr h4 d harea hlim hbase
    exact done_wsrBound hs hh hb hr rfl h4 rfl harea hlim hbase
  · intro s l v e0 e1 e2 e3 top hs hb c hops htop ha hp hq h1 h2 h3 _ hlo hhi hr hroom
    exact State.SpillsFour.done_push ⟨hb, hops, htop, ha, hp, hq, h1, h2, h3, hlo, hhi, hr, hroom⟩ _ hs
  · intro s l hs hb c hops ha hbase hlim h4 hlo hhi hl
    exact State.OneBelow.done_unary ⟨hb, hops, ha, hbase, hlim, h4, hlo, hbase ▸ hhi, hl⟩ _ hs

end Sys2Proof.Machine
end
